-- ==== Sys2Proof/Word.lean ====
section
/-!
DEFINITION. Word.lean: the machine's word, and the sparse map every addressed store of the model is written in.
-/
namespace Sys2Proof

/-- A 32-bit register or memory word (R10, R60). -/
abbrev Word := BitVec 32

/-- A byte of a message, a section or a record. -/
abbrev Byte := BitVec 8

/-- A sparse store keyed by Nat: strictly rising keys, no entry equal to what an unlisted key reads as. -/
abbrev SMap (α : Type) := List (Nat × α)

end Sys2Proof
end

