-- ==== Sys2Proof/Syntax.lean ====
section
/-!
DEFINITION. Syntax.lean: the commands of the unit, one constructor per row of the opcode table, with the operands its environment
gives it; and the messages of the ring, the pair link and the shore link as plain data.
-/
namespace Sys2Proof

/-- The issuing side of a register access: 0 the host, 1 to 4 the shore sessions (R79, R89). -/
abbrev Side := Fin 5

/-- A stack entry of PLAN (R133). -/
structure StackEntry where
  row : Nat := 0
  col : Nat := 0
  mode : Nat := 0
  lead : Bool := false
  shareFrom : Nat := 0
  shareTo : Nat := 0
  ceiling : Nat := 0
  pCap : Nat := 0
deriving DecidableEq, Repr, Inhabited

/-- An outlet entry of PLAN (R134). -/
structure OutletEntry where
  col : Nat := 0
  planned : Bool := false
  exportAllowed : Bool := false
  stackCount : Nat := 0
  iMax : Nat := 0
  iExportMax : Nat := 0
  pMax : Nat := 0
  iForecast : Nat := 0
deriving DecidableEq, Repr, Inhabited

/-- A PLAN message (R132). -/
structure Plan where
  discarded : Bool := false
  capBound : Bool := false
  degraded : Bool := false
  planNo : Nat := 0
  applyTime : Nat := 0
  leaseMs : Nat := 0
  rampMs : Nat := 0
  stackEntries : List StackEntry := []
  outlets : List OutletEntry := []
deriving DecidableEq, Repr, Inhabited

/-- A DEMAND message (R137): currents in 0.1 A, voltages in 0.1 V. -/
structure Demand where
  col : Nat := 0
  mode : Nat := 0
  seq : Nat := 0
  iRef : Int := 0
  vRef : Nat := 0
  vBus : Nat := 0
deriving DecidableEq, Repr, Inhabited

/-- A LEAD message (R207). -/
structure Lead where
  col : Nat := 0
  row : Nat := 0
  seq : Nat := 0
  iLead : Int := 0
  shareLead : Nat := 0
deriving DecidableEq, Repr, Inhabited

/-- A STACK_STATUS report (R119). -/
structure StackStatus where
  row : Nat := 0
  available : Bool := false
  lockedOut : Bool := false
  connectFail : Bool := false
  releaseFail : Bool := false
  demandLost : Bool := false
  ready : Bool := false
  closed : Nat := 0
  iOut : Int := 0
  vOut : Nat := 0
  pIn : Int := 0
  tModule : Int := 0
  lifeUsed : Nat := 0
  xpWear : Nat := 0
  eIn : Nat := 0
deriving DecidableEq, Repr, Inhabited

/-- An OUTLET_STATUS report (R121). -/
structure OutletStatus where
  col : Nat := 0
  phase : Nat := 0
  wantsExport : Bool := false
  iReq : Int := 0
  iEvMax : Nat := 0
  pEvMax : Nat := 0
  vPresent : Nat := 0
  vReq : Nat := 0
  iSust : Nat := 0
  i80 : Nat := 0
deriving DecidableEq, Repr, Inhabited

/-- A DUTY message (R157): (role instance, witness) and (owner, holder 1, holder 2). -/
structure Duty where
  witnesses : List (Nat × Nat) := []
  replicas : List (Nat × Nat × Nat) := []
deriving DecidableEq, Repr, Inhabited

/-- A safety frame (R434): its fields with the CRC it carries (R435). -/
structure SafetyFrame where
  connId : Nat := 0
  seq : Nat := 0
  wdMs : Nat := 0
  req : Nat := 0
  pState : Nat := 0
  pCause : Nat := 0
  pairData : Nat := 0
  crc : Nat := 0
deriving DecidableEq, Repr, Inhabited

/-- The header of a pair-link frame (R108) with its STATE field spelled out (R407). -/
structure PairHead where
  claim : Nat := 0
  pState : Nat := 0
  healthy : Bool := false
  handover : Bool := false
  withdrawing : Bool := false
  grant : Bool := false
  seq : Nat := 0
deriving DecidableEq, Repr, Inhabited

/-- A TYPE 0x01 frame (R409): each PROT entry is its 11 bytes read as a number (R410). -/
structure PairFrame where
  head : PairHead := {}
  pkeyGen : Nat := 0
  exceed : Nat := 0
  means : List Int := []
  prot : List Nat := []
  sliceIdx : Nat := 0
  words : List Nat := []
deriving DecidableEq, Repr, Inhabited

/-- The role figures of ITEM 0x09 (R491). -/
structure RoleFigures where
  lifeUsed : Nat := 0
  eImp : Nat := 0
  eExp : Nat := 0
  plugCycles : Nat := 0
  /-- CONTACTOR[k]: OPS, EQ_OPS, LOAD_OPS, BREAK_MAX (R492). -/
  contactors : List (Nat × Nat × Nat × Nat) := []
  tempHist : List Nat := []
  rainflow : List Nat := []
  rainMax : Nat := 0
deriving DecidableEq, Repr, Inhabited

/-- The state of a loop's mode sequencer that state memory does not hold (R211 to R214, R412): the incoming mode, whether it is entered, its
blend sample, residuals and outgoing mode; the requests; the target that waits for its retry, with the samples left; the abandonments; the
stop in progress as its start values, ramp samples done and in all. -/
structure SeqState where
  loop : Nat := 0
  next : Nat := 0
  entered : Bool := false
  k : Nat := 0
  resid : List Nat := []
  hoFrom : Nat := 0
  req : Option (Nat × Bool) := none
  queued : Option (Nat × Bool) := none
  retry : Option (Nat × Nat) := none
  abandonTarget : Nat := 0
  abandons : Nat := 0
  stop : Option (List Nat × Nat × Nat) := none
deriving DecidableEq, Repr, Inhabited

/-- The role-software state of ITEM 0x09 (R412): coils, auxiliary state and measurements of the role. -/
structure RoleState where
  available : Bool := false
  preCoil : Bool := false
  mainCoil : Bool := false
  soPos : Bool := false
  soNeg : Bool := false
  soDsc : Bool := false
  ccStep : Nat := 0
  rTotal : Option Nat := none
  seqs : List SeqState := []
deriving DecidableEq, Repr, Inhabited

/-- The vehicle session of ITEM 0x06 (R310, R412). `complete` says the TLS secrets and sequence states of the running session are all
held. -/
structure VehicleSession where
  state : Nat := 0
  protocol : Nat := 0
  control : Nat := 0
  bpt : Bool := false
  auth : Nat := 0
  complete : Bool := false
  marked : Bool := false
  sid : Nat := 0
  iReq : Int := 0
  vReq : Nat := 0
  vRef : Nat := 0
  answer : Nat × List Nat := (0, [])
deriving DecidableEq, Repr, Inhabited

/-- A cycle header (R96): CAL_OFFSET signed in ns, times in ns. -/
structure RingHeader where
  wrapped : Bool := false
  unwrapNext : Bool := false
  masterNew : Bool := false
  master : Nat := 0
  epoch : Nat := 0
  cycle : Nat := 0
  ringTime : Nat := 0
  calOffset : Int := 0
  proven : Bool := false
  valid : Bool := false
  stepCount : Nat := 0
  tackMask : Nat := 0
  tackTarget : Nat := 0
  tackTime : Nat := 0
deriving DecidableEq, Repr, Inhabited

/-- A data slot (R97). -/
structure DataSlot where
  src : Nat := 0
  channel : Nat := 0
  first : Bool := false
  last : Bool := false
  leave : Bool := false
  payload : List Nat := []
deriving DecidableEq, Repr, Inhabited

/-- A Squall frame (R99). -/
structure SquallFrame where
  src : Nat := 0
  count : Nat := 1
  code : Nat := 0
  seq : Nat := 0
  time : Nat := 0
deriving DecidableEq, Repr, Inhabited

/-- A join request (R105). -/
structure JoinReq where
  addr : Nat := 0
  strap : Nat := 0
  hop : Nat := 0
  device : Nat := 0
  digest : List Nat := []
deriving DecidableEq, Repr, Inhabited

/-- An operation of an ACCESS body (R111): a read, or a write with its words. -/
structure AccessOp where
  write : Bool := false
  fixed : Bool := false
  count : Nat := 1
  addr : Nat := 0
  words : List Nat := []
deriving DecidableEq, Repr, Inhabited

/-- What a scrub finds in one word (R54, R482): it equals its source, the SRAM word was rewritten, the MRAM word was corrected, neither
could be. -/
inductive ScrubFinding where
  | equal | sramFixed | mramFixed | uncorrectable
deriving DecidableEq, Repr, Inhabited

/-- The commands. -/
inductive Instr where

  /-- POWER_ON (R507). VIN returns after falling below 9.0 V; main die and Selvedge partition are reset, and the
      always-on domain too if POR is set. -/
  | powerOn
  /-- START_BEGIN (R510). The start sequence begins, after VIN has stood at or above 17.5 V for 10 ms or at a reset,
      and runs clocks, destruction, root, self-tests, Selvedge recovery and image load. -/
  | startBegin (straps : BitVec 7) (bist : Fin 10) (selOk : Bool) (rtc : Nat) (memA memB dbgLow : Bool)
  /-- BROWN_OUT_RESET (R507). The brown-out reset at 12.0 V resets the main die and the Selvedge partition while VIN
      stays at or above 9.0 V. -/
  | brownOutReset
  /-- EARLY_WARNING (R477). VIN has stayed below 16.5 V for 2 µs; the claim logic withdraws, the partition and
      security core save, and the MRAM port takes only priority writes. -/
  | earlyWarning
  /-- EARLY_WARNING_CLEAR (R478). The early warning clears before brown-out, and the main die resets with source
      EARLY_WARNING and rejoins as standby. -/
  | earlyWarningClear
  /-- RESET_PIN (R507). RESET_N held low for at least 10 µs resets the main die. -/
  | resetPin
  /-- SYS_RESET (R509). SYS_CMD RESET hands over if the unit is active and then resets, or resets at once on a
      standby or a unit with no role. -/
  | sysReset (side : Side) (key : BitVec 16)
  /-- SYS_RESET_FORCE (R509). SYS_CMD RESET_FORCE resets the main die at once in every state. -/
  | sysResetForce (side : Side) (key : BitVec 16)
  /-- COMPARATOR_SELF_TEST (R513). After ring join the unit runs the protection self-test on every declared group
      whose channels have left bias lock-out. -/
  | comparatorSelfTest (time : Nat)
  /-- FORMING_TIMEOUT (R515). No valid partner frame within 2 s of joining; the unit treats the partner as lost from
      STANDBY_COLD, or takes claim 0x01 as site master. -/
  | formingTimeout (time : Nat)
  /-- ROLE_START (R516). The active unit starts its role: stack pre-charge and AFE_DCLINK, outlet observer and
      state, or site Marker, shore link and PTP. -/
  | roleStart
  /-- PRECHARGE_COMPLETE (R516). The DC link reaches V_PRE; the stack closes the main AC coil and later releases the
      pre-charge coil. -/
  | prechargeComplete
  /-- PRECHARGE_TIMEOUT (R516). The DC link has not reached V_PRE within T_PRE; both coils are released and
      ROLE_FAIL is set. -/
  | prechargeTimeout
  /-- PRECHARGE_RETRY (R516). 60 s after a failed pre-charge, the stack retries, up to three failures. -/
  | prechargeRetry
  /-- PAT_OPEN (R49). PAT_CMD OPEN makes the issuing side the update owner and marks the inactive slot empty. -/
  | patOpen (side : Side) (key : BitVec 16)
  /-- PAT_VERIFY (R49). PAT_CMD VERIFY starts the checks of R43 on the inactive slot and sets STATE to VERIFYING. -/
  | patVerify (side : Side) (key : BitVec 16)
  /-- PAT_VERIFY_DONE (R49). The verification completes, sets RESULT and moves STATE to VERIFIED or back to OPEN. -/
  | patVerifyDone (memOk : Bool)
  /-- PAT_ARM (R50). PAT_CMD ARM writes ONESHOT for the inactive slot and resets the unit, handing over first on an
      active unit. -/
  | patArm (side : Side) (key : BitVec 16)
  /-- PAT_ARM_SINGLE (R50). PAT_CMD ARM_SINGLE arms and resets without requiring a healthy standby. -/
  | patArmSingle (side : Side) (key : BitVec 16)
  /-- PAT_COMMIT (R51). PAT_CMD COMMIT in trial writes SLOT, raises PAT_SVN_MIN and sets STATE to COMMITTED. -/
  | patCommit (side : Side) (key : BitVec 16)
  /-- PAT_ABORT (R51). PAT_CMD ABORT ends a trial at once, or releases ownership and empties the inactive slot. -/
  | patAbort (side : Side) (key : BitVec 16)
  /-- PAT_SEAL (R46). PAT_CMD SEAL over the shore link with the safety credential seals every unsealed selected
      SELVEDGE section. -/
  | patSeal (side : Side) (key : BitVec 16)
  /-- UPDATE_OWNER_TIMEOUT (R49). 600 s pass without a command or slot write from the update owner; ownership is
      released and the slot left empty. -/
  | updateOwnerTimeout
  /-- TRIAL_EXPIRY (R51). PAT_TRIAL_LEFT reaches 0; a standby unit withdraws and reverts, an active one stays in
      trial until standby. -/
  | trialExpiry
  /-- TRIAL_DEFERRED_REVERT (R51). An expired-trial unit that was active becomes standby and then reverts. -/
  | trialDeferredRevert
  /-- SCRUB_WORD (R54). The scrub compares a configuration word with its MRAM source, rewrites or corrects it, or
      withdraws on an uncorrectable error. -/
  | scrubWord (finding : ScrubFinding)
  /-- REGISTER_WRITE (R64). A write to a register with no row of its own takes effect by its access codes, levels
      and credentials, or is refused. -/
  | registerWrite (side : Side) (addr value : BitVec 32) (time : Nat) (fresh : Bool)
  /-- LEVEL_WRITE (R79). A write of a block's LEVEL register sets the side's basic or expert level, subject to key
      and credentials. -/
  | levelWrite (side : Side) (b : Fin 20) (value : BitVec 32)
  /-- LOCAL_TACK (R69). A write of HBI_TACK latches the shadows of the named tack groups into their tack buffers. -/
  | localTack (side : Side) (mask : BitVec 16)
  /-- TACK_PIN_EDGE (R69). A falling edge on HB_TACK_N issues a TACK of the groups in HBI_PIN_TACK. -/
  | tackPinEdge (widthNs time : Nat)
  /-- PFG_LIVE_TIMEOUT (R77). Pending live values of a paired-field group do not agree within 1 ms; they are
      discarded and a configuration error is raised. -/
  | pfgLiveTimeout (g : Nat)
  /-- RING_TACK_REQUEST (R70). HBI_RTACK_CMD GO at the active site unit schedules a ring-wide TACK in the cycle
      headers, or is refused. -/
  | ringTackRequest (side : Side) (key : BitVec 16) (time : Nat)
  /-- RING_TACK_INSTANT (R70). Ring time reaches the TACK instant and each target latches the named groups. -/
  | ringTackInstant (time : Nat)
  /-- CRED_CHALLENGE_READ (R81). A read of HBI_CRED_CHAL[0] draws a new 16-byte challenge and invalidates the side's
      earlier one. -/
  | credChallengeRead (side : Side)
  /-- CRED_OPEN_MAINTENANCE (R81). HBI_CRED_CMD open maintenance checks the response and opens the maintenance
      credential or counts a failure. -/
  | credOpenMaintenance (side : Side) (key : BitVec 16) (fresh : Bool)
  /-- CRED_OPEN_SAFETY (R81). HBI_CRED_CMD open safety checks the response and opens the safety credential or counts
      a failure. -/
  | credOpenSafety (side : Side) (key : BitVec 16) (fresh : Bool)
  /-- CRED_CLOSE_ALL (R82). HBI_CRED_CMD close all closes the side's credentials and returns it to basic level. -/
  | credCloseAll (side : Side) (key : BitVec 16)
  /-- CRED_TIMEOUT (R82). 900 s pass without an accepted access needing a credential; the credential closes. -/
  | credTimeout (side : Side) (safety : Bool)
  /-- CRED_LOCKOUT_END (R81). The 300 s credential lock-out ends and the failure count returns to 0. -/
  | credLockoutEnd (side : Side)
  /-- IDX_ADDR_WRITE (R84). A write of HBI_IDX_ADDR locks the target port and starts the fetch of the word, or is
      refused with ADDR. -/
  | idxAddrWrite (side : Side) (addr : BitVec 32)
  /-- IDX_DATA_READ (R84). A read of HBI_IDX_DATA returns the fetched word and, with INC, advances the address and
      starts the next fetch. -/
  | idxDataRead (side : Side)
  /-- IDX_DATA_WRITE (R84). A write of HBI_IDX_DATA posts the word to the indirect target and clears READY until it
      is taken. -/
  | idxDataWrite (side : Side) (value : BitVec 32)
  /-- IDX_FETCH_DONE (R84). The indirect word arrives in HBI_IDX_DATA and READY sets. -/
  | idxFetchDone (side : Side)
  /-- IDX_POST_DONE (R84). The target takes a posted word; READY sets and, with INC, the address advances. -/
  | idxPostDone (side : Side)
  /-- IDX_RELEASE (R85). HBI_IDX_CTRL.RELEASE frees the window's target port while keeping its state. -/
  | idxRelease (side : Side)
  /-- IDX_PORT_TIMEOUT (R85). 1 µs passes with READY set and no data access; the window releases its port. -/
  | idxPortTimeout (side : Side)
  /-- IDX_PORT_FREE (R85). A port held by another window becomes free and a waiting window acquires it, clearing
      WAIT. -/
  | idxPortFree (side : Side)
  /-- REMOTE_REQUEST (R89). A forwarded remote access request executes at the addressed unit as a sequence of word
      accesses, stopping at the first refusal. -/
  | remoteRequest (ready : List Nat) (time : Nat) (fresh : Bool)
  /-- REMOTE_RESPONSE (R110). The response of a remote request reaches the active site unit and is returned to the
      shore session. -/
  | remoteResponse (session : Fin 4) (typ reqId target status index : Nat) (body : List Nat)
  /-- REMOTE_UNREACHABLE (R110). A forwarded request has no answer within 100 ms and is answered UNREACHABLE. -/
  | remoteUnreachable (session : Fin 4) (reqId target : Nat)
  /-- CYCLE_START (R94). Every 25,000 ns of ring time the cycle master starts a train in each direction with
      delimiter and cycle header. -/
  | cycleStart (time : Nat) (unwrapNext wrapped : Bool)
  /-- TRAIN_DELIMITER (R96). A train delimiter arrives; the unit updates HOP and CORRECTION, forwards the train and
      writes its own slots as it passes. -/
  | trainDelimiter (dirB wrapped ringWrapped : Bool) (cycle hop correction delay forward neighbour master time : Nat)
  /-- CYCLE_HEADER_RECEIVE (R103). A valid cycle header sets ring time, calendar offset and TACK fields, and stops a
      provisional master with a higher address. -/
  | cycleHeaderReceive (header : RingHeader) (dirB tagOk : Bool) (arrival : Nat) (steer : Int)
  /-- DATA_SLOT_RECEIVE (R97). A data slot arrives; its tag is checked and its fragment reassembled on its channel. -/
  | dataSlotReceive (slot : DataSlot) (cycle : Nat) (tagOk : Bool)
  /-- SQUALL_EVENT (R99). An event of a unit becomes pending for its next eligible Squall frame, merged with others
      by severity. -/
  | squallEvent (code : BitVec 16) (arg : BitVec 32)
  /-- SQUALL_SEND (R99). A train whose CYCLE modulo 3 equals the address modulo 3 passes and the unit originates its
      Squall frame in both directions. -/
  | squallSend (cycle : Nat)
  /-- SQUALL_RECEIVE (R99). A Squall frame arrives; it is forwarded, deduplicated, entered in Q0, or removed by its
      originator. -/
  | squallReceive (frame : SquallFrame) (tagOk : Bool)
  /-- LINK_BREAK (R100). A receive link loses lock or sees no delimiter for 50 µs; the unit wraps and originates
      LINK_DOWN. -/
  | linkBreak (port : Fin 2)
  /-- RING_UNWRAP (R100). After 1 s of good link and UNWRAP_NEXT, the unit unwraps at the next cycle start. -/
  | ringUnwrap (port : Fin 2)
  /-- PROVISIONAL_MASTER (R102). A strapped site unit that has received no train for 50 ms starts trains as
      provisional master. -/
  | provisionalMaster (time : Nat)
  /-- PTP_SYNC (R103). A PTP sync arrives at the site unit's slave clock; the servo updates and PROVEN is set or
      cleared by the offset. -/
  | ptpSync (offset calendar : Int) (locked : Bool) (port : Fin 3)
  /-- PTP_SYNC_TIMEOUT (R103). 60 s pass without a sync message and PROVEN clears. -/
  | ptpSyncTimeout
  /-- JOIN_REQUEST (R105). An assigned unit finds the join window empty and writes its join request. -/
  | joinRequest (dirB : Bool)
  /-- JOIN_WINDOW_TAKE (R105). The master takes one join request per cycle, refuses duplicates, or starts the join
      attestation. -/
  | joinWindowTake (windowA windowB : Option JoinReq)
  /-- JOIN_CHAL_RECEIVE (R391). A joining unit receives JOIN_CHAL and answers in the join window with its HMAC. -/
  | joinChalReceive (nonce : Option (List Nat))
  /-- JOIN_RESPONSE_CHECK (R391). The master checks the join response and sends RING_KEY, or raises a security event
      and sends no key. -/
  | joinResponseCheck (addr : Nat) (response : List Nat)
  /-- JOIN_RETRY (R391). 1 s after a refused join attestation the unit requests again. -/
  | joinRetry
  /-- RING_KEY_RECEIVE (R392). A joiner receives RING_KEY and loads the unwrapped current and next keys, or discards
      and retries. -/
  | ringKeyReceive (epoch : Nat) (wrapped : List Nat) (next : Option (Nat × List Nat))
  /-- REKEY_DELIVERY_RECEIVE (R392). A joined unit receives the next ring key on channel 0x05 and holds it. -/
  | rekeyDeliveryReceive (epoch : Nat) (wrapped : List Nat)
  /-- LEAVE_COMMAND (R106). TRG_CTRL LEAVE makes the unit set LEAVE in its slot for 3 cycles and stop writing. -/
  | leaveCommand (side : Side) (key : BitVec 16)
  /-- DECLARED_LEAVE (R106). A unit's slot is absent or fails its tag for 40 cycles; the master declares it left. -/
  | declaredLeave (addr : Nat)
  /-- REKEY_COMMAND (R107). TRG_CTRL REKEY at the master starts delivery of a new ring key. -/
  | rekeyCommand (side : Side) (key : BitVec 16)
  /-- REKEY_DUE (R107). The ring key approaches 2^32 cycles of use and the master starts a rekey. -/
  | rekeyDue
  /-- EPOCH_ADVANCE (R107). 100 ms after the last next-key delivery the master increments EPOCH at a cycle start. -/
  | epochAdvance (time : Nat)
  /-- PAIR_FRAME_SEND (R108). Every 1 µs the unit sends a pair-link frame of the type its SEQ allows. -/
  | pairFrameSend (time : Nat)
  /-- PAIR_SHADOW_FRAME (R409). A TYPE 0x01 frame arrives; claim, state, PROT entries, means and slice words are
      taken, and HANDOVER or WITHDRAWING acted on. -/
  | pairShadowFrame (frame : PairFrame) (time : Nat)
  /-- PAIR_SAFETY_FRAME (R412). A TYPE 0x02 frame arrives with PROT, the partner's safety frame and UV field. -/
  | pairSafetyFrame (head : PairHead) (prot : List Nat) (safety : SafetyFrame) (uv : BitVec 24) (time : Nat)
  /-- HEARTBEAT_MISSED (R416). A partner frame is not complete and valid when due; the third miss is partner loss,
      acted on by pair state. -/
  | heartbeatMissed (item : Fin 10) (time : Nat)
  /-- PAIR_ITEM_ROLE_DIGEST (R514). ITEM 0x01 arrives complete and the pair forms or fails by ROLE digest and the
      partner's claim. -/
  | pairItemRoleDigest (digest image : List Nat) (serial addr time : Nat)
  /-- PAIR_ITEM_PRT_RESET (R261). ITEM 0x02 arrives and the partner's PRT RESET is applied to the named groups. -/
  | pairItemPrtReset (groups : BitVec 8)
  /-- PAIR_ITEM_SESSION_MARK (R328). ITEM 0x03 arrives and the partner's session mark is passed to the own mailbox. -/
  | pairItemSessionMark (close : Bool) (sid time source : Nat)
  /-- PAIR_ITEM_SESSION_VALUES (R330). ITEM 0x04 arrives with the partner's session values and completeness,
      mirrored and passed as PARTNER. -/
  | pairItemSessionValues (imp exp : Nat) (complete : Bool) (unbooked : Nat) (closed : Bool)
  /-- PAIR_ITEM_IMD_PHASE (R304). ITEM 0x05 arrives with the injection phase for the standby's insulation
      measurement. -/
  | pairItemImdPhase (phase : Bool)
  /-- PAIR_ITEM_VEHICLE_SESSION (R310). ITEM 0x06 arrives with TLS secrets and session state for the standby's
      vehicle shadow. -/
  | pairItemVehicleSession (session : VehicleSession)
  /-- PAIR_ITEM_OBSERVER (R280). ITEM 0x07 arrives with the active unit's observer T_c, m and b. -/
  | pairItemObserver (tc m b : Int)
  /-- PAIR_ITEM_MRK_VALUES (R117). ITEM 0x08 arrives and the standby site unit takes the live MRK values as its own. -/
  | pairItemMrkValues (values : List (Nat × Nat))
  /-- PAIR_ITEM_ROLE_FIGURES (R491). ITEM 0x09 arrives and the unit takes the larger of its own and the partner's
      role figures. -/
  | pairItemRoleFigures (fig : RoleFigures) (role : RoleState)
  /-- SHORE_CONNECT (R109). A TLS handshake on port 4720 is accepted for a listed client or refused. -/
  | shoreConnect (tlsOk : Bool) (digest : List Nat)
  /-- SHORE_SESSION_TIMEOUT (R109). A shore session closes after 300 s without a message, closing its credentials. -/
  | shoreSessionTimeout (session : Fin 4)
  /-- SHORE_ACCESS (R111). An ACCESS request is checked for rights and format and forwarded to its target. -/
  | shoreAccess (session : Fin 4) (reqId target length : Nat) (body : List Nat)
  /-- SHORE_JOURNAL_GET (R112). A JOURNAL_GET is served by the owner or a replica holder, waking a holder in Lull if
      needed. -/
  | shoreJournalGet (session : Fin 4) (reqId target length : Nat) (body : List Nat)
  /-- SHORE_BAROGRAPH_GET (R112). A BAROGRAPH_GET is served by the owner or a replica holder. -/
  | shoreBarographGet (session : Fin 4) (reqId target length : Nat) (body : List Nat)
  /-- SHORE_EVENT_SUBSCRIBE (R466). An EVENT_SUBSCRIBE sets, replaces or ends a subscription at its target. -/
  | shoreEventSubscribe (session : Fin 4) (reqId target length : Nat) (body : List Nat)
  /-- SHORE_KEEPALIVE (R110). A KEEPALIVE message keeps the shore session open. -/
  | shoreKeepalive (session : Fin 4) (reqId target length : Nat)
  /-- RECORD_TRANSFER (R112). Records arrive on channel 0x04 in answer to a journal or Barograph request. -/
  | recordTransfer (session : Fin 4) (typ reqId target status : Nat) (body : List Nat)
  /-- MARKER_CYCLE_START (R123). Ring time reaches a multiple of 10 ms; every unit applies its basted plan entries. -/
  | markerCycleStart (time : Nat)
  /-- SOLVE_COMPLETE (R123). The solve finishes; the active site unit sends PLAN, and DUTY and WAKE if due. -/
  | solveComplete (updating : List Nat)
  /-- SOLVE_DEADLINE (R124). The solve is not complete at 6.0 ms; the Marker commits a fall-back plan and counts an
      overrun. -/
  | solveDeadline (best : Option (List Nat)) (updating : List Nat)
  /-- REPORT_SAMPLE (R118). At 7.0 ms into the Marker cycle active stack and outlet units send STACK_STATUS,
      STACK_CURVE or OUTLET_STATUS. -/
  | reportSample (curve : Option (List Nat))
  /-- STACK_STATUS_RECEIVE (R119). A STACK_STATUS report reaches the site pair and is stored with its age. -/
  | stackStatusReceive (time : Nat) (report : StackStatus)
  /-- STACK_CURVE_RECEIVE (R120). A STACK_CURVE report reaches the site pair and replaces the stack's curve. -/
  | stackCurveReceive (time row : Nat) (curve : List Nat)
  /-- OUTLET_STATUS_RECEIVE (R121). An OUTLET_STATUS report reaches the site pair and is stored with its age. -/
  | outletStatusReceive (time : Nat) (report : OutletStatus)
  /-- PLAN_RECEIVE (R135). A complete PLAN from the master is accepted and the unit bastes its own entries into MRK. -/
  | planReceive (plan : Plan) (src : Nat)
  /-- PLAN_TACK (R135). At APPLY_TIME − 1 ms the plan's TACK latches the MRK group, or a unit missing fragments
      keeps its entries and counts MISSED. -/
  | planTack (time : Nat)
  /-- DUTY_RECEIVE (R157). A DUTY message sets the unit's witness and replica duties. -/
  | dutyReceive (duty : Duty) (src : Nat)
  /-- DEMAND_SEND (R137). Every 4th ring cycle the active outlet unit with a leased column writes DEMAND. -/
  | demandSend (cycle time : Nat)
  /-- DEMAND_RECEIVE (R138). A stack receives DEMAND for its column and takes up its reference. -/
  | demandReceive (demand : Demand)
  /-- DEMAND_LOST (R138). No DEMAND for 1 ms; the stack ramps to zero over RAMP_MS and sets DEMAND_LOST. -/
  | demandLost (time : Nat)
  /-- LEAD_SEND (R207). In cycles with CYCLE modulo 4 equal to 2 the lead stack in OUT_VOLTAGE writes LEAD. -/
  | leadSend (cycle time : Nat) (iLead : Int)
  /-- LEAD_RECEIVE (R206). A following stack receives LEAD and sets its reference to I_LEAD × share / SHARE_LEAD. -/
  | leadReceive (lead : Lead)
  /-- LEAD_LOST (R207). No LEAD for 1 ms; the follower ramps to 0 A and sets DEMAND_LOST. -/
  | leadLost (time : Nat)
  /-- LEASE_RAMP_START (R140). At E − RAMP_MS of an unrenewed lease the stack starts ramping its current to zero. -/
  | leaseRampStart (time : Nat)
  /-- LEASE_EXPIRY (R140). At E the stack drives the cross-point open, recording a breaking current and LEASE_BREAK
      if above ZERO. -/
  | leaseExpiry (time : Nat)
  /-- CONNECT_VOLTAGE_MATCHED (R142). The output voltage has matched V_BUS for 0.5 ms; the stack drives the coil
      closed. -/
  | connectVoltageMatched
  /-- CONNECT_MATCH_TIMEOUT (R143). Voltage not matched by 5.0 ms; the coil opens, CONNECT_FAIL is set and the
      cross-point is quarantined. -/
  | connectMatchTimeout
  /-- XP_AUX_CLOSED (R142). The cross-point auxiliary contact reads closed and the 1 ms debounce starts. -/
  | xpAuxClosed
  /-- XP_AUX_CLOSE_TIMEOUT (R143). The contact does not read closed by 5.0 ms + CLOSE_TIME + 1.0 ms; the coil opens
      and CONNECT_FAIL is set. -/
  | xpAuxCloseTimeout
  /-- XP_DEBOUNCE_END (R142). The contact debounce ends; the stack enters current or voltage control and sets READY,
      or after opening releases the lease. -/
  | xpDebounceEnd
  /-- RAMP_OUT_ZERO_HELD (R144). |I_OUT| has held at or below ZERO for 0.5 ms after RAMP_OUT; the coil is driven
      open. -/
  | rampOutZeroHeld (time : Nat)
  /-- RELEASE_FAIL (R145). |I_OUT| has not held at or below ZERO by RAMP_MS + 5 ms; the coil stays closed and
      RELEASE_FAIL is set. -/
  | releaseFail (time : Nat)
  /-- XP_AUX_OPEN (R144). The cross-point auxiliary contact reads open and the 1 ms debounce starts. -/
  | xpAuxOpen
  /-- QUARANTINE_END (R143). 60 s after CONNECT_FAIL the cross-point leaves quarantine. -/
  | quarantineEnd (row col : Nat)
  /-- CURTAIL_WRITE (R150). A write of MRK_CURTAIL sets a curtailment for MRK_CURTAIL_HOLD seconds. -/
  | curtailWrite (side : Side) (value : BitVec 32)
  /-- CURTAIL_LAPSE (R150). The curtailment hold expires and MRK_CURTAIL returns to none. -/
  | curtailLapse
  /-- MRK_HOLD_ON (R162). MRK_CTRL HOLD_ON freezes the assignment except for first-tier changes. -/
  | mrkHoldOn (side : Side) (key : BitVec 16)
  /-- MRK_HOLD_OFF (R162). MRK_CTRL HOLD_OFF ends the assignment freeze. -/
  | mrkHoldOff (side : Side) (key : BitVec 16)
  /-- MRK_REPLAN (R130). MRK_CTRL REPLAN drops the run-ahead for the next solve. -/
  | mrkReplan (side : Side) (key : BitVec 16)
  /-- WAKE_RECEIVE (R155). The wake logic of a unit in Lull matches a WAKE message naming it. -/
  | wakeReceive (target src : Nat)
  /-- WAKE_JOIN_TIMEOUT (R155). A woken unit has not joined within 50 ms and is treated as out of the ring. -/
  | wakeJoinTimeout (addr : Nat)
  /-- REPLICA_WRITE_RECEIVE (R158). A holder receives a record or Barograph block on channel 0x06, stores it and
      returns its sequence number. -/
  | replicaWriteReceive (owner : Nat) (block : Bool) (seq : Nat) (bytes : List Nat)
  /-- REPLICA_ACK_RECEIVE (R364). An owner receives a holder's acknowledgement and passes it to the partition as
      ACK. -/
  | replicaAckReceive (holder seq : Nat)
  /-- FLOATER_TAKEOVER (R28). On the Marker's report of a benched or absent member, a floater joins that pair of its
      span as standby. -/
  | floaterTakeover (report : List Nat) (taken : List (Nat × Nat × Nat))
  /-- PAIR_RELEASE (R29). PAIR_CMD RELEASE makes a standby floater leave its pair, or defers until it is standby. -/
  | pairRelease (side : Side) (key : BitVec 16)
  /-- FLOATER_DEFERRED_RELEASE (R29). A floater released while active returns to standby and then leaves the pair. -/
  | floaterDeferredRelease
  /-- ADC_TRIGGER (R172). A sample event of the anchor carrier triggers the loop's ADCs. -/
  | adcTrigger (m k : Fin 8)
  /-- ADC_TRIGGER_DEFERRED (R173). A trigger found the ADC converting and starts at the end of that conversion,
      forcing the exact path. -/
  | adcTriggerDeferred (m k : Fin 8) (a : Fin 16)
  /-- CONVERSION_END (R184). The loop's conversions end; the deviation selects an outcome and a hit commits compare
      values and state. -/
  | conversionEnd (m : Fin 8) (codes : List (List (BitVec 16))) (vOut iOut : Int) (pos : List Nat) (zero : List (BitVec 32)) (time : Nat)
  /-- EXACT_COMMIT (R186). On a miss EXACT completes in the recovery slot and commits through the COMMIT list. -/
  | exactCommit (m : Fin 8) (pos : List Nat) (zero : List (BitVec 32)) (time : Nat)
  /-- BW_WINDOW_END (R185). A window of 1,024 samples ends and AUTO_WIDTH widens, narrows or keeps BW. -/
  | bwWindowEnd (m : Fin 8)
  /-- PLAUSIBILITY_ATTRIBUTE (R194). Within 3 µs the active unit compares with the partner's mean and attributes the
      fault to plant, own sensing or unresolved. -/
  | plausibilityAttribute (m : Fin 8) (c : Fin 4) (frame : Bool)
  /-- PLS_FAULT_CLEAR (R196). Writing 1 to PLS_FAULT clears the latch only while every persistence count is 0, and
      the loop resumes. -/
  | plsFaultClear (side : Side) (m : Fin 8)
  /-- COUNTER_RELOAD (R197). A half-bridge counter reloads at period start, loading next-period compares and period
      changes. -/
  | counterReload (h : Fin 12) (err : Int) (codes : List (List (BitVec 16)))
  /-- PWM_COMMAND_CHANGE (R197). The generator command changes at a compare instant or commit, subject to minimum
      pulse. -/
  | pwmCommandChange (h : Fin 12) (pos : Nat)
  /-- DEAD_TIME_END (R232). The other device's dead time elapses and the device's turn-on starts. -/
  | deadTimeEnd (h : Fin 12) (interval : Nat)
  /-- GATE_SEGMENT_END (R230). An edge segment ends by time or gate-sense level and the next segment starts. -/
  | gateSegmentEnd (n : Fin 24) (byLevel : Bool)
  /-- MODE_REQUEST (R210). A write of SHT_LOOP[m]_MODE_REQ requests a mode or a stop, refused if undeclared. -/
  | modeRequest (side : Side) (key : BitVec 16) (m : Fin 8) (req : BitVec 4)
  /-- HANDOVER_RETRY (R212). RETRY_WAIT samples after an abandoned hand-over the sequencer requests the target
      again. -/
  | handoverRetry (m : Fin 8) (time : Nat)
  /-- STOP_RAMP_END (R213). The stop ramp reaches its end after TIME and the loop enters OFF. -/
  | stopRampEnd (m : Fin 8) (time : Nat)
  /-- HO_FAIL_CLEAR (R212). Writing 1 to HO_FAIL clears it and the loop may start again. -/
  | hoFailClear (side : Side) (m : Fin 8)
  /-- RC_PHASE_TIMEOUT (R216). No phase wrap or pulse for 2 × T; the channel unlocks and its output fades. -/
  | rcPhaseTimeout (e : Fin 32) (time : Nat)
  /-- RC_SPECTRAL_EVAL (R216). Every 1 s the SPECTRAL source evaluates the strongest line and updates T and lock. -/
  | rcSpectralEval (e : Fin 32) (adc : Fin 16) (period : Nat) (tenthsDb : Int) (phase : BitVec 32) (time : Nat)
  /-- RC_FADE_END (R218). The fade factor reaches 0 or 1; at 1 learning resumes. -/
  | rcFadeEnd (e : Fin 32)
  /-- RC_PERIOD_FREEZE_END (R216). The full-period freeze after a moderate period change ends. -/
  | rcPeriodFreezeEnd (e : Fin 32) (time : Nat)
  /-- RC_CLEAR (R218). SHT_RC[e]_CFG.CLEAR sets every point to 0 at the next commit. -/
  | rcClear (side : Side) (e : Fin 32)
  /-- BIAS_UNDERVOLTAGE (R227). A channel's bias leaves its window for 1 µs; it locks out, holds its half-bridge off
      and reports a gate-supply trip. -/
  | biasUndervoltage (n : Fin 24) (vdd vee : BitVec 16) (time : Nat)
  /-- BIAS_RELEASE (R226). The bias has stood beyond the release threshold for 100 µs and the channel leaves lock-
      out. -/
  | biasRelease (n : Fin 24) (vdd vee : BitVec 16)
  /-- ENABLE_OFF_HOLD_END (R236). 1 µs after the claim enable fell, every channel enters HIGHZ. -/
  | enableOffHoldEnd
  /-- REFRESH_LOSS (R237). A secondary receives no valid refresh for 200 ns and treats the enable as fallen. -/
  | refreshLoss (n : Fin 24)
  /-- AUX_DRV_UNDERVOLTAGE (R240). VDRV_AUX falls below 8.0 V and every auxiliary channel holds its sink on. -/
  | auxDrvUndervoltage
  /-- AUX_DRV_RECOVER (R240). VDRV_AUX has stood at or above 8.6 V for 100 µs; channels resume at the next period. -/
  | auxDrvRecover
  /-- AUX_PERIOD_START (R241). An auxiliary counter starts a period with the applied duty, refresh off-time and
      bootstrap recovery. -/
  | auxPeriodStart (a : Fin 6) (recovered : Bool)
  /-- BOOTSTRAP_UNDERVOLTAGE (R243). GA_BST − GA_SW falls below 6.5 V; the high side turns off and the duty is
      capped at 98 %. -/
  | bootstrapUndervoltage (a : Fin 6)
  /-- DESAT_TRIP (R250). After the blank the desaturation comparator crosses its threshold and the group reacts. -/
  | desatTrip (n : Fin 24) (now : Bool) (time : Nat)
  /-- HARD_SHORT_TRIP (R251). |V(HS_IN) − MID| exceeds THRESH and the group reacts. -/
  | hardShortTrip (h : Fin 12) (now : Bool) (time : Nat)
  /-- PHASE_CURRENT_TRIP (R252). A control ADC input leaves its HI–LO window and the group reacts by ACTION. -/
  | phaseCurrentTrip (a : Fin 16) (now : Bool) (time : Nat)
  /-- GATE_VOLTAGE_TRIP (R253). GI_SNS stays beyond ON_LEVEL or OFF_LEVEL for 50 ns after TIME and the group reacts. -/
  | gateVoltageTrip (n : Fin 24) (now : Bool) (time : Nat)
  /-- SOFT_OFF_END (R255). Soft turn-off ends at END_LEVEL or TIME and the channel switches to full sink. -/
  | softOffEnd (n : Fin 24) (byTime : Bool)
  /-- TRIP_COLLECTION_END (R257). 2 µs after first detection with all soft turn-offs ended, the trip is judged for
      lock-out or wait and explanation. -/
  | tripCollectionEnd (g : Fin 8) (time : Nat)
  /-- PRT_WAIT_END (R258). A group's WAIT of 10 ms, 100 ms or 1 s ends and it enters CHECK. -/
  | prtWaitEnd (g : Fin 8) (time : Nat)
  /-- PRT_RELEASE (R259). The release check holds in CHECK and the group returns to ARMED, its loops restarting from
      OFF. -/
  | prtRelease (g : Fin 8)
  /-- PRT_RELEASE_TIMEOUT (R258). The release check has not held within 1 s of CHECK; the group locks out with cause
      RELEASE. -/
  | prtReleaseTimeout (g : Fin 8) (time : Nat)
  /-- PRT_RESET (R260). PRT_CMD RESET clears lock-out records of named groups whose release check holds. -/
  | prtReset (side : Side) (key : BitVec 16) (groups : BitVec 8)
  /-- PRT_TEST (R265). PRT_CMD TEST starts the self-tests of the named groups, holding them off. -/
  | prtTest (side : Side) (key : BitVec 16) (groups : BitVec 8)
  /-- PRT_TEST_ABORT (R265). PRT_CMD TEST_ABORT ends the named groups' tests and reports ABORTED. -/
  | prtTestAbort (side : Side) (key : BitVec 16) (groups : BitVec 8)
  /-- PRT_TEST_ITEM_DONE (R266). A self-test item completes with its result; a failure locks the group out with
      SELF_TEST. -/
  | prtTestItemDone (g : Fin 8) (code : Fin 7)
  /-- HK_ROUND_START (R269). Every 20 ms of ring time a housekeeping round starts and the coolant loops set their
      duties. -/
  | hkRoundStart
  /-- HK_ROUND_END (R284). A round's values are available; groups are formed and die levels, windows and Barograph
      histograms evaluated. -/
  | hkRoundEnd (raw : List Int) (flows : List Nat)
  /-- THERMAL_RESTART (R287). T_j has stayed below 130 °C for 60 s and the unit restarts and rejoins as standby. -/
  | thermalRestart
  /-- FF_HOLD_END (R276). The feed-forward hold expires and Q_FF falls to the highest value seen in the hold. -/
  | ffHoldEnd (l : Fin 2)
  /-- FLOW_FAULT_TIMEOUT (R277). Low or unreadable flow persists for 2 s at pump duty of at least 20 % and is
      reported. -/
  | flowFaultTimeout (l : Fin 2) (noPulse : Bool)
  /-- OBSERVER_STEP (R280). At 6.5 ms of each Marker cycle the cable observer integrates one step and computes
      I_SUST and I_80. -/
  | observerStep (iSq : Nat) (valid : Bool)
  /-- CONNECTOR_STATE_CHANGE (R295). Three agreeing samples change the connector state; loss under load starts an
      emergency shutdown, otherwise a stop or unplug. -/
  | connectorStateChange (cs : Fin 4)
  /-- V2G_SESSION_SETUP (R296). The vehicle's session setup is accepted or refused by the session start conditions. -/
  | v2gSessionSetup (protocol control : Fin 4) (bpt : Bool)
  /-- V2G_AUTHORIZATION (R298). The vehicle's authorisation request stores the identification and sets AUTH pending,
      or grants or denies at once. -/
  | v2gAuthorization (emaid : List Nat) (pnc chainOk : Bool) (root : List Nat)
  /-- V2G_CABLE_CHECK (R301). The vehicle's cable check request enters CABLE_CHECK and sends the session OPEN mark. -/
  | v2gCableCheck (evVmax : BitVec 16)
  /-- V2G_PRE_CHARGE (R305). A pre-charge request moves V_REF to the target and is answered finished once within
      BAND. -/
  | v2gPreCharge (vTgt : BitVec 16)
  /-- V2G_POWER_DELIVERY_START (R297). The vehicle starts power delivery and the session enters CHARGE with DEMAND
      MODE 2. -/
  | v2gPowerDeliveryStart
  /-- V2G_CHARGE_LOOP (R299). A vehicle request updates OUTLET_STATUS and is answered with the offer of R300. -/
  | v2gChargeLoop (iTgt : Int) (iMax iDis vMax vTgt pMax : BitVec 16) (discharge : Bool) (depart energy : BitVec 16)
  /-- V2G_STOP_REQUEST (R307). The vehicle's stop request enters STOPPING and ramps the current to zero. -/
  | v2gStopRequest (vehOpen : Bool)
  /-- V2G_EMERGENCY_STOP (R309). The vehicle's emergency stop starts an emergency shutdown. -/
  | v2gEmergencyStop
  /-- VLK_AUTH_GRANT (R298). VLK_CTRL AUTH_GRANT grants a pending authorisation. -/
  | vlkAuthGrant (side : Side) (key : BitVec 16)
  /-- VLK_AUTH_DENY (R298). VLK_CTRL AUTH_DENY denies a pending authorisation. -/
  | vlkAuthDeny (side : Side) (key : BitVec 16)
  /-- VLK_STOP (R297). VLK_CTRL STOP moves the session to STOPPING. -/
  | vlkStop (side : Side) (key : BitVec 16)
  /-- VLK_RESET_LOCKOUT (R308). VLK_CTRL RESET_LOCKOUT with a maintenance credential clears the contactor lock-out. -/
  | vlkResetLockout (side : Side) (key : BitVec 16)
  /-- VLK_ESD (R309). VLK_CTRL ESD starts an emergency shutdown. -/
  | vlkEsd (side : Side) (key : BitVec 16)
  /-- AUTH_WAIT_TIMEOUT (R298). No grant or denial within VLK_AUTH.WAIT; the unit denies. -/
  | authWaitTimeout
  /-- OUTLET_CONTACTOR_CLOSE (R301). With a valid plan, open contacts, both sides at most 60 V and no current, the
      outlet closes both contactors. -/
  | outletContactorClose (ready : Bool)
  /-- OUTLET_AUX_CLOSE_TIMEOUT (R301). Both outlet contacts do not read closed within CLOSE_TIME + 1 ms; CABLE_CHECK
      ends in FAULT. -/
  | outletAuxCloseTimeout
  /-- CABLE_CHECK_SETTLED (R301). The voltage has stood within 2 % of V_REQ for SETTLE and the insulation
      measurement starts. -/
  | cableCheckSettled
  /-- CABLE_CHECK_TIMEOUT (R301). The cable check has not passed within TIME_MAX and ends in FAULT. -/
  | cableCheckTimeout
  /-- IMD_HALF_PERIOD (R302). An injection half-period ends and the response of its last quarter is averaged. -/
  | imdHalfPeriod (avg : Int) (move : Nat) (vPos vNeg : Int)
  /-- PRE_CHARGE_TIMEOUT (R305). Power delivery has not started within VLK_PRE.TIME_MAX; the session stops and ends
      in FAULT. -/
  | preChargeTimeout
  /-- STOP_CONTACTOR_OPEN (R307). Current has held at or below ZERO for 0.5 ms with the vehicle open or STOP_WAIT
      passed; both contactors open. -/
  | stopContactorOpen
  /-- STOP_WAIT_EXPIRY (R307). STOP_WAIT passes without the vehicle reporting its contactors open. -/
  | stopWaitExpiry
  /-- OUTLET_AUX_OPEN (R307). Both outlet auxiliary contacts read open and SO_DSC switches on. -/
  | outletAuxOpen
  /-- DISCHARGE_COMPLETE (R307). The vehicle-side voltage reaches 60 V and SO_DSC switches off. -/
  | dischargeComplete
  /-- DISCHARGE_TIMEOUT (R307). The vehicle-side voltage has not fallen to 60 V within DSC_TIME; VEHICLE_LIVE is set
      and the session enters FAULT. -/
  | dischargeTimeout
  /-- WELD_CHECK (R308). At the first ledger tick after discharge the poles are compared and the result PASS, WELDED
      or INCONCLUSIVE recorded. -/
  | weldCheck
  /-- ESD_OPEN_DEADLINE (R309). ESD_OPEN passes and the contactors are commanded open whatever the current. -/
  | esdOpenDeadline
  /-- LEDGER_TICK (R318). Four samples complete a ledger tick; the partition computes ΔE, books it and publishes the
      tick's values. -/
  | ledgerTick (codes : List Int) (rtc : Nat)
  /-- PERIODIC_SAVE (R331). At the end of every 8,000th tick the partition writes a periodic save to an MRAM slot. -/
  | periodicSave
  /-- CHECK_PAIR_COUNT (R320). A check pair has disagreed or agreed for 8,000 ticks and CHECK_FAIL sets or clears. -/
  | checkPairCount
  /-- METER_CROSS_CHECK (R322). Once per Marker cycle the outlet compares the meter current with the stacks' I_OUT
      and counts towards XCHK. -/
  | meterCrossCheck (iOuts : List Int) (missing : Bool)
  /-- METER_RESUME (R333). VIN recovers without reset; the partition resumes booking and records the gap. -/
  | meterResume (ticks : Nat)
  /-- SELVEDGE_RESET (R336). An uncorrectable error or lockstep mismatch resets the partition alone, which recovers
      and records a gap. -/
  | selvedgeReset (rtc : Nat)
  /-- PULSE_INPUT_EDGE (R325). A pulse input level has held for DEBOUNCE and the edge is accepted, counted and
      stamped. -/
  | pulseInputEdge (i : Fin 8) (level : Bool) (time held : Nat)
  /-- PULSE_OUTPUT_UPDATE (R327). Every 1 ms a pulse output reads its quantity and adds whole weights to PENDING. -/
  | pulseOutputUpdate (k : Fin 4)
  /-- PULSE_OUTPUT_WIDTH_END (R327). An emitted pulse or its gap reaches WIDTH and the output changes state. -/
  | pulseOutputWidthEnd (k : Fin 4)
  /-- PARTNER_VALUES_SEND (R330). Every 10 ms the unit sends its session import and export to its partner. -/
  | partnerValuesSend
  /-- STANDS_TIMEOUT (R329). 800 ticks after its own close without the partner's completeness, the partition writes
      its SESSION record with STANDS undecided. -/
  | standsTimeout
  /-- MIRROR_REFRESH (R543). Every 1 ms the unit copies the MET and BIL mirrors from one published tick. -/
  | mirrorRefresh
  /-- MBX_OFFER (R45). An OFFER message presents selected SELVEDGE sections for comparison with the sealed copies. -/
  | mbxOffer (seq : Nat) (crcOk : Bool) (inst offset : Nat) (bytes : List Nat)
  /-- MBX_SEAL (R46). A SEAL message makes the partition take, digest and journal each unsealed section. -/
  | mbxSeal (seq : Nat) (crcOk : Bool)
  /-- MBX_CAL (R344). A CAL message is adopted, taken as a step, or refused as a mismatch. -/
  | mbxCal (seq : Nat) (crcOk : Bool) (tick calMs : Nat) (proven : Bool) (step : Nat)
  /-- MBX_MARK (R328). A MARK message opens or closes the session value at the next tick, with LATE where delayed. -/
  | mbxMark (seq : Nat) (crcOk close : Bool) (sid time source : Nat)
  /-- MBX_PARTNER (R329). A PARTNER message updates the partner's values and completeness and may decide STANDS. -/
  | mbxPartner (seq : Nat) (crcOk : Bool) (imp exp : Nat) (complete : Bool) (unbooked : Nat) (closed : Bool)
  /-- MBX_PULSE (R352). A PULSE message books grid import or closes the interval on a DEMAND_SYNC edge. -/
  | mbxPulse (seq : Nat) (crcOk sync : Bool) (weight : Nat)
  /-- MBX_FLAG (R322). A FLAG message marks the open session XCHK. -/
  | mbxFlag (seq : Nat) (crcOk xchk : Bool)
  /-- MBX_ACK (R364). An ACK message records a holder's acknowledgement of a journal record. -/
  | mbxAck (seq : Nat) (crcOk : Bool) (holder record : Nat)
  /-- MBX_IMD (R302). An IMD message starts, stops or phases the insulation injector. -/
  | mbxImd (seq : Nat) (crcOk start phase : Bool)
  /-- MBX_SITE_PARAM (R349). A SITE_PARAM message delivers a chunk of the site calendar copy to the site unit's
      partition. -/
  | mbxSiteParam (seq : Nat) (crcOk : Bool) (offset : Nat) (bytes : List Nat)
  /-- CAL_SEND (R341). Every 1 s while VALID is set the main die sends a CAL message to the partition. -/
  | calSend
  /-- CAL_ADOPT_TIMEOUT (R342). No CAL adopted for 10 s; the partition's clock becomes UNPROVEN. -/
  | calAdoptTimeout
  /-- BIL_TIME_SET (R346). BIL_CMD TIME_SET authorises a pending calendar step at the active site unit. -/
  | bilTimeSet (side : Side) (key : BitVec 16)
  /-- BIL_TAMPER_ACK (R367). BIL_CMD TAMPER_ACK clears UNACKED when no tamper condition is in force. -/
  | bilTamperAck (side : Side) (key : BitVec 16)
  /-- INTERVAL_END (R352). A demand interval reaches its end; it closes with its demand and the next interval opens
      aligned. -/
  | intervalEnd
  /-- TARIFF_SWITCH (R349). The calendar reaches a switch point and the tariff in force changes at that tick. -/
  | tariffSwitch
  /-- DEMAND_SYNC_TIMEOUT (R351). No DEMAND_SYNC edge by nominal length + 10 s; the interval closes with NO_SYNC. -/
  | demandSyncTimeout
  /-- BOUNDARY_COMMIT (R355). 800 ticks after its boundary a pending boundary record is committed with the next SEQ. -/
  | boundaryCommit
  /-- RECORD_SIGN (R363). The partition signs a committed journal record, which is then sent to the replica holders. -/
  | recordSign
  /-- TAMPER_COVER_EDGE (R366). COVER_N or TCOVER_N holds a new level for 10 ms, giving a tamper onset or end. -/
  | tamperCoverEdge (terminal opened : Bool) (rtc : Nat)
  /-- HALL_READING (R366). The Hall sensor is read and two consecutive readings give a cover opening or magnet
      event. -/
  | hallReading (x y z : Int) (rtc : Nat)
  /-- KEY_SUBMIT (R385). KEY_CMD SUBMIT places the side's update message in Q7, or ends BUSY. -/
  | keySubmit (side : Side) (key : BitVec 16)
  /-- KEY_OP_IMPORT (R386). An IMPORT update message is checked and stores a key as a blob by the two-half commit. -/
  | keyOpImport (memOk : Bool)
  /-- KEY_OP_DELETE (R386). A DELETE update message empties a slot, client entry or digest. -/
  | keyOpDelete (memOk : Bool)
  /-- KEY_OP_REVOKE (R380). A REVOKE update message increments a node's generation, renewing every key below it. -/
  | keyOpRevoke (memOk : Bool)
  /-- KEY_OP_SET_CLIENT (R386). A SET_CLIENT update message writes a shore client entry with its rights. -/
  | keyOpSetClient (memOk : Bool)
  /-- KEY_OP_TRUST (R386). A TRUST update message writes a trusted V2G root digest. -/
  | keyOpTrust (memOk : Bool)
  /-- KEY_OP_RELEASE (R375). A RELEASE update message leaves BOUND for OPEN, erasing keys, binding and the
      partition's legal state. -/
  | keyOpRelease (memOk : Bool)
  /-- KEY_ENROL (R384). KEY_CMD ENROL in BOUND places the attestation secret in KEY_ENROL_DATA. -/
  | keyEnrol (side : Side) (key : BitVec 16)
  /-- ENROL_DATA_READ (R384). The read of KEY_ENROL_DATA word 11 sets ENROLLED and zeroes the words. -/
  | enrolDataRead (side : Side)
  /-- KEY_ATTEST (R394). KEY_CMD ATTEST computes the HMAC of the quote into KEY_ATT_RESP. -/
  | keyAttest (side : Side) (key : BitVec 16)
  /-- KEY_DEBUG (R376). KEY_CMD DEBUG from the host in OPEN with DBG_EN_N low enters DEBUG with the test root. -/
  | keyDebug (side : Side) (key : BitVec 16) (dbgLow : Bool)
  /-- CERT_DATA_ACCESS (R389). An access of KEY_CERT_DATA reads or writes a certificate store word and advances the
      address. -/
  | certDataAccess (side : Side) (write : Bool) (value : BitVec 32)
  /-- PAIR_KEY_ERASE (R393). 60 s after frames under a superseded pair key stop, that key is erased. -/
  | pairKeyErase
  /-- PAIR_LOCK_INPUT (R404). A change of PAIR_LOCK_I makes an active unit without GRANT yield, or clears GRANT. -/
  | pairLockInput (level : Bool) (time : Nat)
  /-- VOTE_REQUEST_RECEIVE (R418). A witness receives a hot or cold request and sends GRANT or DENY within 800 ns. -/
  | voteRequestReceive (cold : Bool) (src inst : Nat) (claim : BitVec 8) (time : Nat)
  /-- VOTE_GRANT_RECEIVE (R419). A GRANT raises the named unit's claim with GRANT set, or zeroes its partner's
      claim. -/
  | voteGrantReceive (inst target : Nat) (claim : BitVec 8) (time : Nat)
  /-- VOTE_DENY_RECEIVE (R419). A DENY leaves the requester at claim 0 and counts it. -/
  | voteDenyReceive (inst target : Nat) (reason : BitVec 8)
  /-- VOTE_RETRY (R420). A hot request is unanswered after 7.0 µs and is repeated, up to 4, then NO_VOTE. -/
  | voteRetry
  /-- COLD_REQUEST_DUE (R416). COLD_WAIT passes during partner loss and a cold standby sends REQUEST_COLD. -/
  | coldRequestDue
  /-- PAIR_HANDOVER (R423). PAIR_CMD HANDOVER sends a frame with HANDOVER when the partner is STANDBY_HOT and
      healthy. -/
  | pairHandover (side : Side) (key : BitVec 16)
  /-- HANDOVER_TIMEOUT (R423). The standby has not raised its claim by 3 µs; the active unit keeps its claim and
      ends with NO_STANDBY. -/
  | handoverTimeout
  /-- STANDBY_HOT_ENTRY (R415). After 10 ms of valid frames, a full shadow list and all bulk items, a cold standby
      enters STANDBY_HOT. -/
  | standbyHotEntry
  /-- LOCKSTEP_MISMATCH (R500). A lockstep mismatch in an application pair, the security core or the safety
      sequencer is an unexplained fault. -/
  | lockstepMismatch
  /-- SAFETY_EVALUATION (R432). Every 100 µs the safety sequencer evaluates inputs, accepted frames and read-backs
      and acts on demands. -/
  | safetyEvaluation (readbacks partnerDrive : BitVec 24)
  /-- SAFETY_INPUT_CHANGE (R433). A safety input channel's level has held for FILTER and is accepted, demanding or
      returning. -/
  | safetyInputChange (k : Fin 4) (chB closed : Bool) (held : Nat)
  /-- SAFETY_DISCREPANCY (R433). The two channels of a safety input disagree for longer than DISC. -/
  | safetyDiscrepancy (k : Fin 4) (ms : Nat)
  /-- SAFETY_FRAME_RECEIVE (R437). A safety frame on a ring connection is accepted or refused and moves the
      connection through RESYNC. -/
  | safetyFrameReceive (src cycle : Nat) (frame : SafetyFrame) (tagOk : Bool)
  /-- SAFETY_WATCHDOG_EXPIRY (R438). WD_MS passes without an accepted frame; a ring connection executes ON_EXPIRY
      and faults, a pair-link one marks the partner absent. -/
  | safetyWatchdogExpiry (j : Fin 16)
  /-- OFF_PULSE_START (R440). At its ring-time slot the active unit releases a tested output for 200 µs. -/
  | offPulseStart (i : Fin 24) (time : Nat)
  /-- OFF_PULSE_END (R440). The off-pulse ends, the output is driven on again and its read-back is judged. -/
  | offPulseEnd (i : Fin 24) (offOk onOk : Bool)
  /-- READBACK_STUCK (R441). An output's read-back has disagreed with its drive for 1 ms, a STUCK_ON or STUCK_OFF
      fault. -/
  | readbackStuck (i : Fin 24)
  /-- SAF_RESET (R443). SAF_CMD RESET with the safety credential clears a lock-out whose cause is gone and logs it. -/
  | safReset (side : Side) (key : BitVec 16)
  /-- SAF_CLEAR_DEMAND (R442). SAF_CMD CLEAR_DEMAND clears the unit's demand latches that no request holds. -/
  | safClearDemand (side : Side) (key : BitVec 16)
  /-- SAF_SET_PW (R444). SAF_CMD SET_PW stores the new safety credential key and closes every safety credential. -/
  | safSetPw (side : Side) (key : BitVec 16)
  /-- PARAM_CRC_CHECK (R446). Every 1 s SAF_PARAM_CRC is recomputed; a mismatch is a PARAM safety fault. -/
  | paramCrcCheck (upset : Bool)
  /-- QUEUE_MOVE (R460). In a fabric slot the lowest-ranked contending queue moves its head to its sink or lower
      queue. -/
  | queueMove (ready : BitVec 16)
  /-- QUE_MBX_POP (R465). QUE_MBX_CTRL POP removes the head of Q11. -/
  | queMbxPop (side : Side) (key : BitVec 16)
  /-- QUE_MBX_PUSH (R465). QUE_MBX_CTRL PUSH places a host event of class 0xE in Q10. -/
  | queMbxPush (side : Side) (key : BitVec 16)
  /-- SUBSCRIPTION_SEND (R466). At most every 10 ms the target sends pending matching events to the subscribing
      session. -/
  | subscriptionSend (session : Fin 4) (time : Nat)
  /-- TRACE_READ (R467). A read of QUE_TRACE_DATA removes and returns the oldest trace word. -/
  | traceRead (side : Side)
  /-- CLOCK_MONITOR (R474). Every 10 ms XO25 is compared with RTC32; a deviation above 500 ppm is an unexplained
      fault. -/
  | clockMonitor (ppm : Int)
  /-- PLL_LOCK_LOSS (R474). A PLL loses lock with VIN present, an unexplained fault of the unit. -/
  | pllLockLoss (pll : Fin 5)
  /-- RTC32_LOSS (R474). No RTC32 edge for 1 ms; RTC_FAIL is set and the real-time clock runs from XO25. -/
  | rtc32Loss
  /-- VBAT_MEASURE (R476). Every 1 s VBAT is measured and VBAT_LOW set below 2.4 V. -/
  | vbatMeasure (mv : Nat) (tAon : Int) (rtc : Nat)
  /-- AON_SUPPLY_SWITCH (R476). VIN crosses 9.0 V and the always-on domain switches between its VIN rail and VBAT. -/
  | aonSupplySwitch (vin : Bool)
  /-- AON_RESET (R476). VBAT falls below 1.8 V with VIN absent; the always-on domain resets and its content is lost. -/
  | aonReset
  /-- LULL_MESSAGE_RECEIVE (R479). A LULL message from the master places an outlet unit in Lull at the next plan's
      APPLY_TIME. -/
  | lullMessageReceive (target src : Nat)
  /-- LULL_ENTRY (R479). At APPLY_TIME the unit refuses Lull or drops its claim, leaves, saves, erases keys and
      gates its core domain. -/
  | lullEntry (rtc : Nat)
  /-- HOST_WAKE (R483). CLK_CMD WAKE wakes a unit in Lull. -/
  | hostWake (side : Side) (key : BitVec 16)
  /-- PLUG_WAKE (R483). CS_SNS leaves the UNPLUGGED band in three samples and wakes an outlet unit in Lull. -/
  | plugWake
  /-- WAKE_COMPLETE (R484). Full control is reached and the unit joins, resyncs safety connections and restarts its
      observer. -/
  | wakeComplete (rtc : Nat)
  /-- RETENTION_SCRUB (R482). The sequencer scrubs retention SRAM and refreshes DRAM at temperature-banded
      intervals. -/
  | retentionScrub (finding : ScrubFinding)
  /-- BAROGRAPH_SAVE (R495). Every 60 s the Barograph counters are saved to an MRAM slot. -/
  | barographSave
  /-- BAROGRAPH_DAILY (R497). Every 24 h of ledger time the unit writes, signs and replicates five Barograph blocks. -/
  | barographDaily
  /-- BAR_SNAPSHOT (R497). BAR_CMD SNAPSHOT writes the five Barograph blocks. -/
  | barSnapshot (side : Side) (key : BitVec 16)
  /-- BAR_UNBENCH (R502). BAR_CMD UNBENCH over the shore link ends benching and empties BAR_WD_HIST. -/
  | barUnbench (side : Side) (key : BitVec 16)
  /-- METER_SUSPECT_EXPIRY (R503). 30 days pass without a partition reset and METER_SUSPECT clears. -/
  | meterSuspectExpiry
  /-- VEHICLE_LINK_TICK (R62). The 1 ms vehicle-link tick, the safe boundary at which the VLK block applies tack
      buffers and live values. -/
  | vehicleLinkTick
  /-- SHORE_SESSION_CLOSE (R82). A shore client ends its TLS session; the session's credentials close and its levels
      return to basic. -/
  | shoreSessionClose (session : Fin 4)
  /-- REGISTER_READ (R64). A read with behaviour of its own: an RC field clears, or a read of an unmapped or Lull-
      unpowered address is refused with an access error. -/
  | registerRead (side : Side) (addr : BitVec 32)
  /-- FIRST_ON_EDGE_PERMITTED (R236). 2 µs after the claim enable rose, the channels may issue their first on edge
      and start following their generator commands. -/
  | firstOnEdgePermitted
  /-- BARRIER_REFRESH_RESUME (R237). Valid command refreshes across the barrier resume at a secondary after a loss
      or a primary reset, which leaves HIGHZ when the enable is held. -/
  | barrierRefreshResume (n : Fin 24) (vdd vee : BitVec 16) (time : Nat)
  /-- COMPARATOR_TEST_TIMEOUT (R513). 5 s after step 7 a group whose channels are still in bias lock-out has its
      self-test items reported NOT_RUN. -/
  | comparatorTestTimeout
  /-- OUTLET_AUX_CLOSED (R301). Both outlet auxiliary contacts read closed and the cable check voltage ramp starts. -/
  | outletAuxClosed
  /-- OUTLET_AUX_OPEN_TIMEOUT (R308). An outlet auxiliary contact does not read open within OPEN_TIME + 1 ms of
      opening, and the weld check gives WELDED with AUX_FAIL. -/
  | outletAuxOpenTimeout
  /-- PRECHARGE_COIL_RELEASE (R516). 1 ms after the stack's main AC auxiliary contact reads closed, the pre-charge
      coil is released. -/
  | prechargeCoilRelease
  /-- STACK_AVAILABLE (R516). The DC link has held within 2 % of its reference for 100 ms and the stack sets
      AVAILABLE. -/
  | stackAvailable
  /-- VALID_PLAN_LAPSE (R134). Ring time reaches APPLY_TIME plus LEASE_MS without a renewing plan, so the outlet's
      plan is no longer valid, and the outlet stops or faults. -/
  | validPlanLapse
  /-- SAFETY_WAKE (R483). A channel of an enabled safety input leaves its healthy level while the unit is in Lull,
      and the unit wakes. -/
  | safetyWake (k : Fin 4)
  /-- UNCORRECTABLE_ERROR (R500). An uncorrectable ECC error in DRAM or lane memories found at use is an unexplained
      fault, and the unit withdraws. -/
  | uncorrectableError
deriving DecidableEq, Repr

end Sys2Proof
end

