-- ==== Sys2Proof/Decode.lean ====
section
/-!
DEFINITION. Decode.lean: the block's opcode table gives no row any bits, so no word spells a command.
-/
namespace Sys2Proof

/-- The command that a word spells: none, since no row of the opcode table has bits (log 48). -/
def decodeTableWord (_nbits _w : Nat) : Option Instr := none

end Sys2Proof
end

