-- ==== Sys2Proof/Pattern.lean ====
section
/-!
DEFINITION. Pattern.lean: what a pattern image declares to a unit, as plain data. The header, the section table and the trailer
of an image are decoded from its bytes (R32, R33, R40: Machine/Image.lean); what the bytes of a section spell, whose format the
spec leaves to Beyxis, comes from Config.parseContent (log 3).
-/
namespace Sys2Proof

/-- The kind of role a role instance has (R5, R34). -/
inductive RoleKind where
  | none | site | stack | outlet
deriving DecidableEq, Repr, Inhabited

/-- A contactor of the role with its wear constants (R492). -/
structure ContactorDecl where
  declOps : Nat := 1
  iDecl : Nat := 1
  breakEq : Nat := 0
deriving DecidableEq, Repr, Inhabited

/-- One COMMIT entry (R180): the kind and number of its target, its flags, its outcome buffer word, its four fp32 corrections. -/
structure CommitEntry where
  kind : Nat := 0
  target : Nat := 0
  integrator : Bool := false
  compensator : Bool := false
  source : Nat := 0
  corr : List Nat := []
deriving DecidableEq, Repr, Inhabited

/-- One output mode declared by a loop (R205, SHT_LOOP[m]_MAP[x]). -/
structure ModeMap where
  mode : Nat := 0
  uWord : Nat := 0
  partWord : Nat := 0
  intWord : Nat := 0
  dual : Bool := false
deriving DecidableEq, Repr, Inhabited

/-- One loop descriptor of a LANES section with its programs (R178 to R181, R205). -/
structure LoopDecl where
  loop : Nat := 0
  lanes : Nat := 0
  hbMask : Nat := 0
  adcMask : Nat := 0
  keyAdc : Nat := 0
  anchorHb : Nat := 0
  nb : Nat := 0
  bw : Nat := 0
  bwMin : Nat := 0
  bwMax : Nat := 0
  autoWidth : Bool := false
  updateNext : Bool := false
  bgDiv : Nat := 1
  nRegions : Nat := 1
  /-- The predicted channels' ADC numbers, the key channel first; 1 to 4 of them. -/
  predicted : List Nat := []
  /-- The four program parts as 64-bit instruction words (R167, R178). -/
  predict : List Nat := []
  outcome : List Nat := []
  exact : List Nat := []
  background : List Nat := []
  nCoef : Nat := 0
  coef : List Nat := []
  nState : Nat := 0
  commit : List CommitEntry := []
  nCmp : Nat := 0
  nCState : Nat := 0
  schedWord : Nat := 0
  gset : Nat := 0
  modeWord : Nat := 0
  offsetWord : Nat := 0
  refWord : Nat := 0
  flagWord : Nat := 0
  modes : List ModeMap := []
  /-- Start values of THETA and HYST, and of LIM, CFG and SPEC of each predicted channel (R179). -/
  theta : List Nat := []
  hyst : List Nat := []
  pchStart : List (Nat × Nat × Nat) := []
deriving DecidableEq, Repr, Inhabited

/-- A safety connection declared for a role (R434, R436). -/
structure ConnDecl where
  /-- The unit in whose list the connection stands, and its number there. -/
  unit : Nat := 0
  j : Nat := 0
  /-- 1 ring produced, 2 ring consumed, 3 pair link. -/
  kind : Nat := 0
  connId : Nat := 0
  wdMs : Nat := 1
  onExpiry : Nat := 0
  act : Nat := 0
  /-- The producing unit's address (a consumed connection). -/
  source : Nat := 0
deriving DecidableEq, Repr, Inhabited

/-- A coolant loop declared by IO_MAP (R274). -/
structure CoolDecl where
  kindStack : Bool := false
  pumpHb : Nat := 0
  fan : Option Nat := none
  flowSrc : Nat := 0
  flowIn : Nat := 0
  pulsesPerL : Nat := 1
  inGrp : Nat := 0
  outGrp : Nat := 0
  pressCh : Option Nat := none
deriving DecidableEq, Repr, Inhabited

/-- A housekeeping channel declared by IO_MAP: its KIND as R270 codes it and its sensor group. -/
structure HkDecl where
  k : Nat := 0
  kind : Nat := 0
  group : Option Nat := none
deriving DecidableEq, Repr, Inhabited

/-- A SELVEDGE section (R34, R46): the outlet's role instance and the section's bytes, whose layout R316 and R348 give. -/
structure SelvedgeDecl where
  instance_ : Nat := 34
  bytes : List Nat := []
deriving DecidableEq, Repr, Inhabited

/-- The ROLE, IO_MAP, LANES and SAFETY declarations of one role instance (R22, R34, R36, R248, R434, R440, R492, R516). -/
structure RoleDecl where
  instance_ : Nat := 0
  kind : RoleKind := .none
  unitA : Nat := 0
  /-- 0 where the ROLE section names one unit alone. -/
  unitB : Nat := 0
  digest : List Nat := []
  /-- Row of a stack, 1 to 32; column of an outlet, 1 to 16; otherwise 0. -/
  rowCol : Nat := 0
  /-- Stack: limit current, 0.1 A, and power, kW; outlet: connector rating, 0.1 A, and rated voltage, 0.1 V (R22). -/
  iRated : Nat := 0
  pRated : Nat := 0
  vRated : Nat := 0
  /-- Stack: V_PRE, 0.1 V, and T_PRE, 0.1 s (R516). -/
  vPre : Nat := 0
  tPre : Nat := 0
  /-- Contactor times, ms (R142, R144, R301, R307). -/
  closeTime : Nat := 0
  openTime : Nat := 0
  contactors : List ContactorDecl := []
  /-- Protection group of each half-bridge that IO_MAP places in one (R248). -/
  hbGroup : List (Nat × Nat) := []
  loops : List LoopDecl := []
  hk : List HkDecl := []
  cool : List CoolDecl := []
  /-- Pin group, heat-sink group and the observer's loop (R278, R283); a loop, the observer or a window names a channel in place of a
  group (R271). -/
  pinGrp : Nat := 0
  sinkGrp : Nat := 0
  obsLoop : Nat := 0
  byChannel : Bool := false
  /-- The vehicle PHY, the modem path and the signalling scheme of an outlet (R293 to R295). -/
  phy : Nat := 0
  modem : Bool := false
  pilot : Bool := false
  /-- Safety connections and tested outputs (R434, R440). -/
  conns : List ConnDecl := []
  testedOutputs : List Nat := []
  /-- Tamper declaration of IO_MAP: the bits of R348's TAMPER byte, HALL_LO and HALL_HI (R366). -/
  tamper : Nat := 0
  hallLo : Nat := 0
  hallHi : Nat := 0
  safetyDigest : List Nat := []
  safetySet : List (Nat × Nat) := []
deriving DecidableEq, Repr, Inhabited

/-- Marker data of the SITE_PLAN section (R34, R349): the cost weights, demand limit and interval as start values of MRK fields by key, and
the bytes of its calendar copy, laid out as R348 gives. -/
structure SitePlanDecl where
  init : List (Nat × Nat) := []
  calBytes : List Nat := []
  defaultCurve : List Nat := []
deriving DecidableEq, Repr, Inhabited

/-- A unit address of TOPOLOGY (R34, R104): its strap value or none for a position address, its hop count in direction A from each
unit of the site pair, its role instance (0 none), its floater span. -/
structure UnitDecl where
  addr : Nat := 0
  strap : Option Nat := none
  hops : List Nat := []
  instance_ : Nat := 0
  span : List Nat := []
deriving DecidableEq, Repr, Inhabited

/-- Everything the sections of an image declare. -/
structure Content where
  /-- Blob mode is declared for the site (R381). -/
  blobMode : Bool := false
  units : List UnitDecl := []
  /-- The two addresses of the site pair. -/
  siteA : Nat := 0
  siteB : Nat := 0
  /-- Fitted cross-points, (row, column). -/
  crossPoints : List (Nat × Nat) := []
  roles : List RoleDecl := []
  /-- Declared depths, (queue, entries). -/
  queues : List (Nat × Nat) := []
  /-- Tack group of each block, by block number. -/
  tackGroups : List Nat := []
  /-- Paired-field groups, each a list of field keys. -/
  pairedGroups : List (List Nat) := []
  /-- Start values: (scope, field key, value). -/
  regInit : List (Nat × Nat × Nat) := []
  selvedge : List SelvedgeDecl := []
  sitePlan : SitePlanDecl := {}
deriving DecidableEq, Repr, Inhabited

end Sys2Proof
end

