-- ==== Sys2Proof/Config.lean ====
section
/-!
DEFINITION. Config.lean: what an implementation fixes and the spec leaves open. Every constant here is opaque: nothing in Lean can
evaluate it or prove a value of it, so a claim holds whatever it is (log 1 and log 3).
-/
namespace Sys2Proof

/-- A value the spec leaves free: the tag says which value is meant, the second argument is the state's counter of free values. -/
opaque Config.free : Nat → Nat → Nat

/-- The payload of a NaN result (R168 leaves it to IEEE 754, which leaves it open). -/
opaque Config.nanPayload : Nat

/-- What the bytes of an image's sections declare (log 3): the formats of the sections are Beyxis's. -/
opaque Config.parseContent : List Nat → Content

/-- The golden image as Evokuam wrote it at manufacture (R42): its bytes are not in the spec (log 92). -/
opaque Config.goldenImage : List Nat

/-- SHA-384 of a byte string, as 48 bytes. -/
opaque Config.sha384 : List Nat → List Nat

/-- HMAC-SHA-384 of a byte string under a key, as 48 bytes. -/
opaque Config.hmac384 : List Nat → List Nat → List Nat

/-- ECDSA P-384 verification with SHA-384: public key, message, signature. -/
opaque Config.ecdsaVerify : List Nat → List Nat → List Nat → Bool

/-- ECDSA P-384 signature with SHA-384: private key, message; 96 bytes. -/
opaque Config.ecdsaSign : List Nat → List Nat → List Nat

/-- The public key of a private key, X then Y, 96 bytes. -/
opaque Config.publicKey : List Nat → List Nat

/-- The key derivation of R377: parent key, label and context bytes. -/
opaque Config.kdf : List Nat → List Nat → List Nat

/-- AES key wrap and unwrap: key, data; unwrap gives none where the integrity check fails. -/
opaque Config.wrap : List Nat → List Nat → List Nat
opaque Config.unwrap : List Nat → List Nat → Option (List Nat)

/-- AES-256-GCM encryption: key, nonce, authenticated data, plaintext; the ciphertext and the 96-bit tag. -/
opaque Config.gcmSeal : List Nat → List Nat → List Nat → List Nat → List Nat × List Nat

/-- AES-256-GCM decryption: key, nonce, authenticated data, ciphertext, tag; none where the tag does not verify. -/
opaque Config.gcmOpen : List Nat → List Nat → List Nat → List Nat → List Nat → Option (List Nat)

/-- The Evokuam device key of final test, private (R395), and the content of its certificate and of the key-origin extension. -/
opaque Config.deviceKey : List Nat
opaque Config.compatCertificate : List Nat → Nat → List Nat

/-- The Evokuam pattern authority public keys in ROM (R40). -/
opaque Config.authorityKeys : List (List Nat)

/-- e to the power −x, as a real number closer to it than any use of it resolves (R280). -/
opaque Config.expNeg : Rat → Rat

/-- The natural logarithm, as a real number closer to it than any use of it resolves (R270). -/
opaque Config.ln : Rat → Rat

/-- The sensor curves of R270 that no table of the spec states, in 0.1 °C: what a thermistor gives where BETA or NOM is 0 and the Beta
equation has no value, from BETA, NOM and the pin voltage in µV, the IEC 60751 curve from the pin voltage in µV, and the factory
calibration of an internal sensor from its channel and reading. -/
opaque Config.ntcTemp : Nat → Nat → Int → Int
opaque Config.ptTemp : Int → Int
opaque Config.internalTemp : Nat → Int → Int

/-- The fuses: DEVICE_ID, and the Evokuam device key where one is fitted (R373, R395). -/
opaque Config.deviceId : Nat

end Sys2Proof
end

