-- ==== Sys2Proof/Machine/Fp32.lean ====
section
/-!
DEFINITION. Machine/Fp32.lean: binary32 arithmetic of the Shuttle lanes (R168): exact values, rounding to nearest with ties to
even, subnormal inputs and results flushed to zero. A number is its 32 bits as a Nat.
-/
namespace Sys2Proof.Machine
open Sys2Proof

/-- What a binary32 pattern stands for: a NaN, an infinity with its sign, a zero with its sign, or num · 2^exp / 2^150. -/
inductive Fp where
  | nan
  | inf (neg : Bool)
  | zero (neg : Bool)
  | fin (neg : Bool) (mant : Nat) (exp : Nat)
deriving DecidableEq, Repr

/-- Decode; subnormals read as zero (R168). -/
def Fp.ofBits (b : Nat) : Fp :=
  let neg := b / 2 ^ 31 % 2 == 1
  let e := b / 2 ^ 23 % 256
  let m := b % 2 ^ 23
  if e == 255 then (if m == 0 then .inf neg else .nan)
  else if e == 0 then .zero neg
  else .fin neg (m + 2 ^ 23) e

/-- The sign bit of an encoding. -/
def signBits (neg : Bool) : Nat := if neg then 2 ^ 31 else 0

/-- A NaN result; its payload is a free value (log 1). -/
def nanBits : Nat := 0x7FC00000 + Config.nanPayload % 2 ^ 22

/-- Quotient rounded to nearest, ties to even. -/
def rneDiv (n d : Nat) : Nat :=
  let q := n / d
  let r := n % d
  if d < 2 * r || (2 * r == d && q % 2 == 1) then q + 1 else q

/-- A positive rational n / d as binary32 bits without sign: rounded to nearest even; below the normal range zero, above it
infinity (R168). -/
def magBits (n d : Nat) : Nat :=
  if n == 0 || d == 0 then 0 else
  -- e is the exponent of the leading bit: 2^e ≤ n/d < 2^(e+1), offset by 400 to stay a natural number
  let k := n.log2 + 400 - d.log2
  let below := n * 2 ^ 400 < d * 2 ^ k
  let e := if below then k - 1 else k
  -- mantissa with 24 bits: n/d / 2^(e-400) * 2^23
  let m := rneDiv (n * 2 ^ 423) (d * 2 ^ e)
  let (m, e) := if m == 2 ^ 24 then (2 ^ 23, e + 1) else (m, e)
  -- biased exponent e - 400 + 127
  if e < 274 then 0 else if 527 < e then 0x7F800000
  else (e - 273) * 2 ^ 23 + (m - 2 ^ 23)

/-- A rational as binary32 bits; `neg` is the sign a zero takes. -/
def ofRatBits (n : Int) (d : Nat) (neg : Bool := false) : Nat :=
  if n == 0 then signBits neg else signBits (n < 0) + magBits n.natAbs d

/-- The exact value of a finite number, times 2^150. -/
def Fp.scaled : Fp → Int
  | .fin neg m e => (if neg then -1 else 1) * ((m * 2 ^ e : Nat) : Int)
  | _ => 0

def Fp.neg : Fp → Bool
  | .nan => false
  | .inf n => n
  | .zero n => n
  | .fin n _ _ => n

def Fp.isNan : Fp → Bool
  | .nan => true
  | _ => false

def Fp.isInf : Fp → Bool
  | .inf _ => true
  | _ => false

/-- Is the pattern a NaN or an infinity (R168)? -/
def nonFinite (b : Nat) : Bool := b / 2 ^ 23 % 256 == 255

/-- Fused multiply-add a · b + c, one rounding. -/
def fpFma (a b c : Nat) : Nat :=
  let x := Fp.ofBits a
  let y := Fp.ofBits b
  let z := Fp.ofBits c
  let ps := x.neg != y.neg
  if x.isNan || y.isNan || z.isNan then nanBits
  else if x.isInf || y.isInf then
    if x matches .zero _ || y matches .zero _ || (z.isInf && z.neg != ps) then nanBits
    else signBits ps + 0x7F800000
  else if z.isInf then signBits z.neg + 0x7F800000
  else
    let p := x.scaled * y.scaled
    let sum := p + z.scaled * 2 ^ 150
    ofRatBits sum (2 ^ 300) (if p == 0 && z.scaled == 0 then ps && z.neg else false)

/-- Sum, difference, product. -/
def fpAdd (a b : Nat) : Nat := fpFma a 0x3F800000 b
/-- A subnormal is flushed to a zero of its sign (R168). -/
def fpFlush (a : Nat) : Nat := if a / 2 ^ 23 % 256 == 0 then a / 2 ^ 31 % 2 * 2 ^ 31 else a % 2 ^ 32

def fpNeg (a : Nat) : Nat := (fpFlush a + 2 ^ 31) % 2 ^ 32
def fpSub (a b : Nat) : Nat := fpAdd a (fpNeg b)

/-- Product: the sum's zero keeps the product's sign. -/
def fpMul (a b : Nat) : Nat :=
  fpFma a b (signBits ((Fp.ofBits a).neg != (Fp.ofBits b).neg))

def fpAbs (a : Nat) : Nat := fpFlush a % 2 ^ 31

/-- Order of two numbers; none where one is a NaN. -/
def fpCmp (a b : Nat) : Option Ordering :=
  let x := Fp.ofBits a
  let y := Fp.ofBits b
  if x.isNan || y.isNan then none
  else
    let v : Fp → Int := fun z => match z with
      | .inf true => -(2 ^ 400 : Nat)
      | .inf false => (2 ^ 400 : Nat)
      | w => w.scaled
    some (compare (v x) (v y))

def fpLt (a b : Nat) : Bool := fpCmp a b == some .lt
def fpLe (a b : Nat) : Bool := fpCmp a b == some .lt || fpCmp a b == some .eq
def fpEq (a b : Nat) : Bool := fpCmp a b == some .eq

/-- The lower and the higher of two; the other operand where one is a NaN. -/
def fpMin (a b : Nat) : Nat := fpFlush (if (Fp.ofBits a).isNan then b else if fpLt b a then b else a)
def fpMax (a b : Nat) : Nat := fpFlush (if (Fp.ofBits a).isNan then b else if fpLt a b then b else a)

/-- Hold a number within bounds. -/
def fpClamp (v lo hi : Nat) : Nat := fpMin (fpMax v lo) hi

/-- Twice t plus h, or twice t minus h, on the extended line: an infinity stands beyond every finite number, times 2^150; none where a
term or the sum is a NaN (R190, R192). -/
def fpBand (t h : Nat) (up : Bool) : Option Int :=
  let big (neg : Bool) : Int := if neg then -(2 ^ 600 : Nat) else (2 ^ 600 : Nat)
  match Fp.ofBits t, Fp.ofBits (if up then h else fpNeg h) with
  | .nan, _ => none
  | _, .nan => none
  | .inf a, .inf b => if a == b then some (big a) else none
  | .inf a, _ => some (big a)
  | _, .inf b => some (big b)
  | x, y => some (2 * x.scaled + y.scaled)

/-- An integer as binary32. -/
def fpOfInt (i : Int) : Nat := ofRatBits i 1

/-- A quotient of integers as binary32. -/
def fpRat (n : Int) (d : Nat) : Nat := ofRatBits n d

/-- Quotient of an integer by a positive one, rounded to nearest, ties to even. -/
def rneInt (n : Int) (d : Nat) : Int :=
  if n < 0 then -((rneDiv n.natAbs d : Nat) : Int) else ((rneDiv n.natAbs d : Nat) : Int)

/-- A finite number times 2^k rounded to the nearest integer, ties to even; 0 where it is not finite. -/
def fpToInt (b : Nat) (k : Nat := 0) : Int := rneInt ((Fp.ofBits b).scaled * 2 ^ k) (2 ^ 150)

/-- Truncation towards minus infinity of a finite number. -/
def fpFloor (b : Nat) : Int := (Fp.ofBits b).scaled / (2 ^ 150 : Nat)

end Sys2Proof.Machine
end

