-- ==== Sys2Proof/Machine/SMap.lean ====
section
/-!
DEFINITION. Machine/SMap.lean: reads and writes of sparse stores. `d` says what an unlisted key reads as.
-/
namespace Sys2Proof

variable {α : Type}

/-- The value at a key. -/
def SMap.get (d : Nat → α) : SMap α → Nat → α
  | [], k => d k
  | (a, v) :: m, k => if a = k then v else SMap.get d m k

/-- The store without a key. -/
def SMap.del (k : Nat) : SMap α → SMap α
  | [] => []
  | (a, v) :: m => if a = k then SMap.del k m else (a, v) :: SMap.del k m

/-- The store with an entry put in its place, whatever its value. -/
def SMap.put (k : Nat) (v : α) : SMap α → SMap α
  | [] => [(k, v)]
  | (a, w) :: m => if a < k then (a, w) :: SMap.put k v m else if a = k then (k, v) :: m else (k, v) :: (a, w) :: m

/-- A write: the entry leaves the list when the key would read the same without it. -/
def SMap.set [DecidableEq α] (d : Nat → α) (k : Nat) (v : α) (m : SMap α) : SMap α :=
  if v = d k then SMap.del k m else SMap.put k v m

/-- Copy keys from one store to another, each value passed through `f`. -/
def SMap.copyKeys [DecidableEq α] (d : Nat → α) (f : Nat → α → α) (src : SMap α) (keys : List Nat) (dst : SMap α) : SMap α :=
  keys.foldl (fun m k => SMap.set d k (f k (SMap.get d src k)) m) dst

/-- Keys rise strictly from above `lo`. -/
def SMap.rising : Option Nat → SMap α → Bool
  | _, [] => true
  | none, (a, _) :: m => SMap.rising (some a) m
  | some l, (a, _) :: m => l < a && SMap.rising (some a) m

/-- The canonical form: strictly rising keys and no entry that reads as its default. -/
def SMap.wf [DecidableEq α] (d : Nat → α) (m : SMap α) : Bool :=
  SMap.rising none m && m.all fun e => e.2 ≠ d e.1

end Sys2Proof
end

