-- ==== Sys2Proof/Machine/RegTypes.lean ====
section
/-!
DEFINITION. Machine/RegTypes.lean: what a register field and a register are in the register maps (R10, R64, R541).
-/
namespace Sys2Proof.Machine

/-- The place of a register field: the direct address of its word, its lowest bit and its width. -/
structure Field where
  addr : Nat
  lsb : Nat
  width : Nat
deriving DecidableEq, Repr

/-- The access codes of R64. -/
inductive Acc where
  | ro | rw | wo | w1c | w1s | rc | bs | lv
deriving DecidableEq, Repr

/-- One field of a register as its map states it: bits, access code, reset value, whether it is expert-level (R541), whether
it is a safety parameter (R445), whether it is signed, and the stated range outside of which a value takes effect at the nearer end. -/
structure FieldDef where
  lsb : Nat
  width : Nat
  acc : Acc
  reset : Nat
  expert : Bool
  safety : Bool
  signed : Bool
  range : Option (Int × Int)
deriving DecidableEq, Repr

/-- One register, or one array of registers: its first address, the strides and counts of its indices, its fields. -/
structure RegDef where
  base : Nat
  dims : List (Nat × Nat)
  fields : List FieldDef
deriving DecidableEq, Repr

/-- The LEVEL register of a block at its offset 0x000 (R62, R79): KEY, OTHER_EXPERT, SAFETY_REQ, EXPERT. -/
def levelReg (base : Nat) (safe : Bool) : RegDef where
  base := base
  dims := []
  fields := [⟨16, 16, .wo, 0, false, false, false, none⟩, ⟨9, 1, .ro, 0, false, false, false, none⟩,
    ⟨8, 1, .ro, if safe then 1 else 0, false, false, false, none⟩, ⟨0, 1, .rw, 0, false, false, false, none⟩]

end Sys2Proof.Machine
end

