-- ==== Sys2Proof/Machine/RegMap.lean ====
section
/-!
DEFINITION. Machine/RegMap.lean: every register field of the register maps of the spec, by its name (F.…), and the maps as
one table per block: the tables of R55 to R59, R91, R92, R113, R114, R164, R165, R200 to R203, R221, R222, R244 to R247, R267, R268,
R290, R291, R312, R313, R339, R340, R370, R371, R399, R400, R429, R430, R451, R452, R470, R471, R486 to R488, R505, R506, R521 and R522.
-/
namespace Sys2Proof.Machine

/-- SYS_START.SOURCE: 8 bits at bit 24, RO (R522). -/
def F.SYS_START_SOURCE : Field := ⟨0x4, 24, 8⟩
/-- SYS_START.PHASE: 4 bits at bit 20, RO (R522). -/
def F.SYS_START_PHASE : Field := ⟨0x4, 20, 4⟩
/-- SYS_START.FIRST: 1 bits at bit 19, RO (R522). -/
def F.SYS_START_FIRST : Field := ⟨0x4, 19, 1⟩
/-- SYS_START.ROLE_FAIL: 1 bits at bit 18, W1C (R522). -/
def F.SYS_START_ROLE_FAIL : Field := ⟨0x4, 18, 1⟩
/-- SYS_START.ROLE_TRIES: 2 bits at bit 16, RO (R522). -/
def F.SYS_START_ROLE_TRIES : Field := ⟨0x4, 16, 2⟩
/-- SYS_START.BIST_FAIL: 8 bits at bit 8, RO (R522). -/
def F.SYS_START_BIST_FAIL : Field := ⟨0x4, 8, 8⟩
/-- SYS_CMD.KEY: 16 bits at bit 16, WO (R522). -/
def F.SYS_CMD_KEY : Field := ⟨0x8, 16, 16⟩
/-- SYS_CMD.CMD: 2 bits at bit 0, WO (R522). -/
def F.SYS_CMD_CMD : Field := ⟨0x8, 0, 2⟩
/-- SYS_STARTS: 32 bits at bit 0, RO (R521). -/
def F.SYS_STARTS : Field := ⟨0x10, 0, 32⟩
/-- SYS_START_TIME: 32 bits at bit 0, RO (R521). -/
def F.SYS_START_TIME : Field := ⟨0x14, 0, 32⟩
/-- HBI_TACK.MASK: 16 bits at bit 0, WO (R92). -/
def F.HBI_TACK_MASK : Field := ⟨0x1004, 0, 16⟩
/-- HBI_TACK_STATUS.LATE: 1 bits at bit 16, W1C (R92). -/
def F.HBI_TACK_STATUS_LATE : Field := ⟨0x1008, 16, 1⟩
/-- HBI_TACK_STATUS.PENDING: 16 bits at bit 0, RO (R92). -/
def F.HBI_TACK_STATUS_PENDING : Field := ⟨0x1008, 0, 16⟩
/-- HBI_VIEW.SHADOW: 1 bits at bit 0, RW (R92). -/
def F.HBI_VIEW_SHADOW : Field := ⟨0x100c, 0, 1⟩
/-- HBI_PIN_TACK.MASK: 16 bits at bit 0, RW (R92). -/
def F.HBI_PIN_TACK_MASK : Field := ⟨0x1010, 0, 16⟩
/-- HBI_RTACK_MASK.TARGET: 7 bits at bit 16, RW (R92). -/
def F.HBI_RTACK_MASK_TARGET : Field := ⟨0x1014, 16, 7⟩
/-- HBI_RTACK_MASK.MASK: 16 bits at bit 0, RW (R92). -/
def F.HBI_RTACK_MASK_MASK : Field := ⟨0x1014, 0, 16⟩
/-- HBI_RTACK_TIME_LO: 32 bits at bit 0, RW (R91). -/
def F.HBI_RTACK_TIME_LO : Field := ⟨0x1018, 0, 32⟩
/-- HBI_RTACK_TIME_HI: 32 bits at bit 0, RW (R91). -/
def F.HBI_RTACK_TIME_HI : Field := ⟨0x101c, 0, 32⟩
/-- HBI_IDX_ADDR: 32 bits at bit 0, RW (R91). -/
def F.HBI_IDX_ADDR : Field := ⟨0x1020, 0, 32⟩
/-- HBI_IDX_DATA: 32 bits at bit 0, RW (R91). -/
def F.HBI_IDX_DATA : Field := ⟨0x1024, 0, 32⟩
/-- HBI_IDX_CTRL.RELEASE: 1 bits at bit 1, W1S (R92). -/
def F.HBI_IDX_CTRL_RELEASE : Field := ⟨0x1028, 1, 1⟩
/-- HBI_IDX_CTRL.INC: 1 bits at bit 0, RW (R92). -/
def F.HBI_IDX_CTRL_INC : Field := ⟨0x1028, 0, 1⟩
/-- HBI_IDX_STATUS.LOCKED: 1 bits at bit 3, RO (R92). -/
def F.HBI_IDX_STATUS_LOCKED : Field := ⟨0x102c, 3, 1⟩
/-- HBI_IDX_STATUS.READY: 1 bits at bit 2, RO (R92). -/
def F.HBI_IDX_STATUS_READY : Field := ⟨0x102c, 2, 1⟩
/-- HBI_IDX_STATUS.WAIT: 1 bits at bit 1, RO (R92). -/
def F.HBI_IDX_STATUS_WAIT : Field := ⟨0x102c, 1, 1⟩
/-- HBI_IDX_STATUS.ERR: 1 bits at bit 0, W1C (R92). -/
def F.HBI_IDX_STATUS_ERR : Field := ⟨0x102c, 0, 1⟩
/-- HBI_ERR_INFO.CODE: 4 bits at bit 28, RO (R92). -/
def F.HBI_ERR_INFO_CODE : Field := ⟨0x1030, 28, 4⟩
/-- HBI_ERR_INFO.SIDE: 2 bits at bit 26, RO (R92). -/
def F.HBI_ERR_INFO_SIDE : Field := ⟨0x1030, 26, 2⟩
/-- HBI_ERR_INFO.PATH: 2 bits at bit 24, RO (R92). -/
def F.HBI_ERR_INFO_PATH : Field := ⟨0x1030, 24, 2⟩
/-- HBI_ERR_ADDR: 32 bits at bit 0, RO (R91). -/
def F.HBI_ERR_ADDR : Field := ⟨0x1034, 0, 32⟩
/-- HBI_ERR_COUNT: 32 bits at bit 0, RC (R91). -/
def F.HBI_ERR_COUNT : Field := ⟨0x1038, 0, 32⟩
/-- HBI_CRED_CHAL[n]: 32 bits at bit 0, RO (R91). -/
def F.HBI_CRED_CHAL (n : Nat) : Field := ⟨0x1040 + 0x4 * n, 0, 32⟩
/-- HBI_CRED_RESP[n]: 32 bits at bit 0, WO (R91). -/
def F.HBI_CRED_RESP (n : Nat) : Field := ⟨0x1050 + 0x4 * n, 0, 32⟩
/-- HBI_RTACK_CMD.KEY: 16 bits at bit 16, WO (R92). -/
def F.HBI_RTACK_CMD_KEY : Field := ⟨0x1060, 16, 16⟩
/-- HBI_RTACK_CMD.GO: 1 bits at bit 0, WO (R92). -/
def F.HBI_RTACK_CMD_GO : Field := ⟨0x1060, 0, 1⟩
/-- HBI_CRED_CMD.KEY: 16 bits at bit 16, WO (R92). -/
def F.HBI_CRED_CMD_KEY : Field := ⟨0x1064, 16, 16⟩
/-- HBI_CRED_CMD.CMD: 2 bits at bit 0, WO (R92). -/
def F.HBI_CRED_CMD_CMD : Field := ⟨0x1064, 0, 2⟩
/-- HBI_CRED_STATUS.LOCK_LEFT: 10 bits at bit 10, RO (R92). -/
def F.HBI_CRED_STATUS_LOCK_LEFT : Field := ⟨0x1068, 10, 10⟩
/-- HBI_CRED_STATUS.SAFETY_OPEN: 1 bits at bit 9, RO (R92). -/
def F.HBI_CRED_STATUS_SAFETY_OPEN : Field := ⟨0x1068, 9, 1⟩
/-- HBI_CRED_STATUS.MAINT_OPEN: 1 bits at bit 8, RO (R92). -/
def F.HBI_CRED_STATUS_MAINT_OPEN : Field := ⟨0x1068, 8, 1⟩
/-- HBI_CRED_STATUS.FAILS: 3 bits at bit 0, RO (R92). -/
def F.HBI_CRED_STATUS_FAILS : Field := ⟨0x1068, 0, 3⟩
/-- HBI_PFG_ERR.COUNT: 8 bits at bit 24, RC (R92). -/
def F.HBI_PFG_ERR_COUNT : Field := ⟨0x106c, 24, 8⟩
/-- HBI_PFG_ERR.GROUP: 9 bits at bit 0, RO (R92). -/
def F.HBI_PFG_ERR_GROUP : Field := ⟨0x106c, 0, 9⟩
/-- PAT_STATUS.REJECT_CODE: 4 bits at bit 20, RO (R56). -/
def F.PAT_STATUS_REJECT_CODE : Field := ⟨0x2004, 20, 4⟩
/-- PAT_STATUS.MIXED: 1 bits at bit 19, RO (R56). -/
def F.PAT_STATUS_MIXED : Field := ⟨0x2004, 19, 1⟩
/-- PAT_STATUS.UNSEALED_ROLE: 1 bits at bit 18, RO (R56). -/
def F.PAT_STATUS_UNSEALED_ROLE : Field := ⟨0x2004, 18, 1⟩
/-- PAT_STATUS.SEALED: 1 bits at bit 17, RO (R56). -/
def F.PAT_STATUS_SEALED : Field := ⟨0x2004, 17, 1⟩
/-- PAT_STATUS.TRIAL: 1 bits at bit 16, RO (R56). -/
def F.PAT_STATUS_TRIAL : Field := ⟨0x2004, 16, 1⟩
/-- PAT_STATUS.RUN_SLOT: 2 bits at bit 14, RO (R56). -/
def F.PAT_STATUS_RUN_SLOT : Field := ⟨0x2004, 14, 2⟩
/-- PAT_STATUS.FALLBACK: 1 bits at bit 13, RO (R56). -/
def F.PAT_STATUS_FALLBACK : Field := ⟨0x2004, 13, 1⟩
/-- PAT_CMD.KEY: 16 bits at bit 16, WO (R57). -/
def F.PAT_CMD_KEY : Field := ⟨0x2008, 16, 16⟩
/-- PAT_CMD.CMD: 8 bits at bit 0, WO (R57). -/
def F.PAT_CMD_CMD : Field := ⟨0x2008, 0, 8⟩
/-- PAT_UPD_STATUS.RESULT: 4 bits at bit 20, RO (R58). -/
def F.PAT_UPD_STATUS_RESULT : Field := ⟨0x200c, 20, 4⟩
/-- PAT_UPD_STATUS.STATE: 4 bits at bit 16, RO (R58). -/
def F.PAT_UPD_STATUS_STATE : Field := ⟨0x200c, 16, 4⟩
/-- PAT_UPD_STATUS.OWNER: 2 bits at bit 14, RO (R58). -/
def F.PAT_UPD_STATUS_OWNER : Field := ⟨0x200c, 14, 2⟩
/-- PAT_UPD_STATUS.OWNER_CLIENT: 4 bits at bit 10, RO (R58). -/
def F.PAT_UPD_STATUS_OWNER_CLIENT : Field := ⟨0x200c, 10, 4⟩
/-- PAT_RUN_SERIAL: 32 bits at bit 0, RO (R55). -/
def F.PAT_RUN_SERIAL : Field := ⟨0x2010, 0, 32⟩
/-- PAT_RUN_SVN: 32 bits at bit 0, RO (R55). -/
def F.PAT_RUN_SVN : Field := ⟨0x2014, 0, 32⟩
/-- PAT_SVN_MIN: 32 bits at bit 0, RO (R55). -/
def F.PAT_SVN_MIN : Field := ⟨0x2018, 0, 32⟩
/-- PAT_OWNER_ID: 32 bits at bit 0, RO (R55). -/
def F.PAT_OWNER_ID : Field := ⟨0x201c, 0, 32⟩
/-- PAT_SITE_ID_LO: 32 bits at bit 0, RO (R55). -/
def F.PAT_SITE_ID_LO : Field := ⟨0x2020, 0, 32⟩
/-- PAT_SITE_ID_HI: 32 bits at bit 0, RO (R55). -/
def F.PAT_SITE_ID_HI : Field := ⟨0x2024, 0, 32⟩
/-- PAT_TRIAL_LEFT: 32 bits at bit 0, RO (R55). -/
def F.PAT_TRIAL_LEFT : Field := ⟨0x2028, 0, 32⟩
/-- PAT_SCRUB_CTRL.LULL_PERIOD: 8 bits at bit 8, BS (R59). -/
def F.PAT_SCRUB_CTRL_LULL_PERIOD : Field := ⟨0x202c, 8, 8⟩
/-- PAT_SCRUB_CTRL.RUN_PERIOD: 8 bits at bit 0, BS (R59). -/
def F.PAT_SCRUB_CTRL_RUN_PERIOD : Field := ⟨0x202c, 0, 8⟩
/-- PAT_SCRUB_PASSES: 32 bits at bit 0, RO (R55). -/
def F.PAT_SCRUB_PASSES : Field := ⟨0x2030, 0, 32⟩
/-- PAT_SCRUB_FIXED: 32 bits at bit 0, RO (R55). -/
def F.PAT_SCRUB_FIXED : Field := ⟨0x2034, 0, 32⟩
/-- PAT_PARTNER_SERIAL: 32 bits at bit 0, RO (R55). -/
def F.PAT_PARTNER_SERIAL : Field := ⟨0x2038, 0, 32⟩
/-- TRG_STATUS.TIME_SUSPECT: 1 bits at bit 15, RO (R114). -/
def F.TRG_STATUS_TIME_SUSPECT : Field := ⟨0x3004, 15, 1⟩
/-- TRG_STATUS.CONFLICT: 1 bits at bit 14, RO (R114). -/
def F.TRG_STATUS_CONFLICT : Field := ⟨0x3004, 14, 1⟩
/-- TRG_STATUS.KEYED: 1 bits at bit 13, RO (R114). -/
def F.TRG_STATUS_KEYED : Field := ⟨0x3004, 13, 1⟩
/-- TRG_STATUS.MASTER: 1 bits at bit 12, RO (R114). -/
def F.TRG_STATUS_MASTER : Field := ⟨0x3004, 12, 1⟩
/-- TRG_STATUS.WRAP_1: 1 bits at bit 11, RO (R114). -/
def F.TRG_STATUS_WRAP_1 : Field := ⟨0x3004, 11, 1⟩
/-- TRG_STATUS.WRAP_2: 1 bits at bit 10, RO (R114). -/
def F.TRG_STATUS_WRAP_2 : Field := ⟨0x3004, 10, 1⟩
/-- TRG_STATUS.SOURCE: 2 bits at bit 8, RO (R114). -/
def F.TRG_STATUS_SOURCE : Field := ⟨0x3004, 8, 2⟩
/-- TRG_STATUS.ADDR: 7 bits at bit 0, RO (R114). -/
def F.TRG_STATUS_ADDR : Field := ⟨0x3004, 0, 7⟩
/-- TRG_STRAP.POSITION: 7 bits at bit 8, RO (R114). -/
def F.TRG_STRAP_POSITION : Field := ⟨0x3008, 8, 7⟩
/-- TRG_STRAP.STRAP: 7 bits at bit 0, RO (R114). -/
def F.TRG_STRAP_STRAP : Field := ⟨0x3008, 0, 7⟩
/-- TRG_CTRL.KEY: 16 bits at bit 16, WO (R114). -/
def F.TRG_CTRL_KEY : Field := ⟨0x300c, 16, 16⟩
/-- TRG_CTRL.REKEY: 1 bits at bit 1, WO (R114). -/
def F.TRG_CTRL_REKEY : Field := ⟨0x300c, 1, 1⟩
/-- TRG_CTRL.LEAVE: 1 bits at bit 0, WO (R114). -/
def F.TRG_CTRL_LEAVE : Field := ⟨0x300c, 0, 1⟩
/-- TRG_RING_TIME_LO: 32 bits at bit 0, RO (R113). -/
def F.TRG_RING_TIME_LO : Field := ⟨0x3010, 0, 32⟩
/-- TRG_RING_TIME_HI: 32 bits at bit 0, RO (R113). -/
def F.TRG_RING_TIME_HI : Field := ⟨0x3014, 0, 32⟩
/-- TRG_CYCLE_LO: 32 bits at bit 0, RO (R113). -/
def F.TRG_CYCLE_LO : Field := ⟨0x3018, 0, 32⟩
/-- TRG_CYCLE_HI: 32 bits at bit 0, RO (R113). -/
def F.TRG_CYCLE_HI : Field := ⟨0x301c, 0, 32⟩
/-- TRG_HOP_DELAY_1: 32 bits at bit 0, RO (R113). -/
def F.TRG_HOP_DELAY_1 : Field := ⟨0x3020, 0, 32⟩
/-- TRG_HOP_DELAY_2: 32 bits at bit 0, RO (R113). -/
def F.TRG_HOP_DELAY_2 : Field := ⟨0x3024, 0, 32⟩
/-- TRG_NEIGHBOUR.PORT_2: 7 bits at bit 8, RO (R114). -/
def F.TRG_NEIGHBOUR_PORT_2 : Field := ⟨0x3028, 8, 7⟩
/-- TRG_NEIGHBOUR.PORT_1: 7 bits at bit 0, RO (R114). -/
def F.TRG_NEIGHBOUR_PORT_1 : Field := ⟨0x3028, 0, 7⟩
/-- TRG_MEMBERS[n]: 32 bits at bit 0, RO (R113). -/
def F.TRG_MEMBERS (n : Nat) : Field := ⟨0x3030 + 0x4 * n, 0, 32⟩
/-- TRG_AUTH_FAIL: 32 bits at bit 0, RC (R113). -/
def F.TRG_AUTH_FAIL : Field := ⟨0x3040, 0, 32⟩
/-- TRG_LINK_ERR: 32 bits at bit 0, RC (R113). -/
def F.TRG_LINK_ERR : Field := ⟨0x3044, 0, 32⟩
/-- TRG_BREAKS: 32 bits at bit 0, RO (R113). -/
def F.TRG_BREAKS : Field := ⟨0x3048, 0, 32⟩
/-- TRG_CAL_STATUS.STEP_COUNT: 8 bits at bit 8, RO (R114). -/
def F.TRG_CAL_STATUS_STEP_COUNT : Field := ⟨0x304c, 8, 8⟩
/-- TRG_CAL_STATUS.VALID: 1 bits at bit 4, RO (R114). -/
def F.TRG_CAL_STATUS_VALID : Field := ⟨0x304c, 4, 1⟩
/-- TRG_CAL_STATUS.PTP_PORT: 2 bits at bit 2, RO (R114). -/
def F.TRG_CAL_STATUS_PTP_PORT : Field := ⟨0x304c, 2, 2⟩
/-- TRG_CAL_STATUS.PTP_LOCK: 1 bits at bit 1, RO (R114). -/
def F.TRG_CAL_STATUS_PTP_LOCK : Field := ⟨0x304c, 1, 1⟩
/-- TRG_CAL_STATUS.PROVEN: 1 bits at bit 0, RO (R114). -/
def F.TRG_CAL_STATUS_PROVEN : Field := ⟨0x304c, 0, 1⟩
/-- TRG_CAL_OFFSET_LO: 32 bits at bit 0, RO (R113). -/
def F.TRG_CAL_OFFSET_LO : Field := ⟨0x3050, 0, 32⟩
/-- TRG_CAL_OFFSET_HI: 32 bits at bit 0, RO (R113). -/
def F.TRG_CAL_OFFSET_HI : Field := ⟨0x3054, 0, 32⟩
/-- TRG_PTP_OFFSET: 32 bits at bit 0, RO (R113). -/
def F.TRG_PTP_OFFSET : Field := ⟨0x3058, 0, 32⟩
/-- TRG_SQUALL_DEFER: 32 bits at bit 0, RC (R113). -/
def F.TRG_SQUALL_DEFER : Field := ⟨0x305c, 0, 32⟩
/-- TRG_PTP_CFG.PROFILE: 2 bits at bit 8, BS (R114). -/
def F.TRG_PTP_CFG_PROFILE : Field := ⟨0x3060, 8, 2⟩
/-- TRG_PTP_CFG.DOMAIN: 8 bits at bit 0, BS (R114). -/
def F.TRG_PTP_CFG_DOMAIN : Field := ⟨0x3060, 0, 8⟩
/-- TRG_SHORE_CFG.DHCP_2: 1 bits at bit 2, BS (R114). -/
def F.TRG_SHORE_CFG_DHCP_2 : Field := ⟨0x3064, 2, 1⟩
/-- TRG_SHORE_CFG.DHCP_1: 1 bits at bit 1, BS (R114). -/
def F.TRG_SHORE_CFG_DHCP_1 : Field := ⟨0x3064, 1, 1⟩
/-- TRG_SHORE_CFG.ENABLE: 1 bits at bit 0, BS (R114). -/
def F.TRG_SHORE_CFG_ENABLE : Field := ⟨0x3064, 0, 1⟩
/-- TRG_SHORE_SESS.OPEN: 3 bits at bit 0, RO (R114). -/
def F.TRG_SHORE_SESS_OPEN : Field := ⟨0x3068, 0, 3⟩
/-- MRK_STATUS.REPLICA_SHORT: 1 bits at bit 8, RO (R165). -/
def F.MRK_STATUS_REPLICA_SHORT : Field := ⟨0x4004, 8, 1⟩
/-- MRK_STATUS.NO_WITNESS: 1 bits at bit 7, RO (R165). -/
def F.MRK_STATUS_NO_WITNESS : Field := ⟨0x4004, 7, 1⟩
/-- MRK_STATUS.DEMAND_BOUND: 1 bits at bit 6, RO (R165). -/
def F.MRK_STATUS_DEMAND_BOUND : Field := ⟨0x4004, 6, 1⟩
/-- MRK_STATUS.CURTAILED: 1 bits at bit 5, RO (R165). -/
def F.MRK_STATUS_CURTAILED : Field := ⟨0x4004, 5, 1⟩
/-- MRK_STATUS.HOLD: 1 bits at bit 4, RO (R165). -/
def F.MRK_STATUS_HOLD : Field := ⟨0x4004, 4, 1⟩
/-- MRK_STATUS.SUBOPTIMAL: 1 bits at bit 3, RO (R165). -/
def F.MRK_STATUS_SUBOPTIMAL : Field := ⟨0x4004, 3, 1⟩
/-- MRK_STATUS.DEGRADED: 1 bits at bit 2, RO (R165). -/
def F.MRK_STATUS_DEGRADED : Field := ⟨0x4004, 2, 1⟩
/-- MRK_STATUS.FOLLOW: 1 bits at bit 1, RO (R165). -/
def F.MRK_STATUS_FOLLOW : Field := ⟨0x4004, 1, 1⟩
/-- MRK_STATUS.ACTIVE: 1 bits at bit 0, RO (R165). -/
def F.MRK_STATUS_ACTIVE : Field := ⟨0x4004, 0, 1⟩
/-- MRK_CTRL.KEY: 16 bits at bit 16, WO (R165). -/
def F.MRK_CTRL_KEY : Field := ⟨0x4008, 16, 16⟩
/-- MRK_CTRL.CMD: 2 bits at bit 0, WO (R165). -/
def F.MRK_CTRL_CMD : Field := ⟨0x4008, 0, 2⟩
/-- MRK_PLAN_NO: 32 bits at bit 0, RO (R164). -/
def F.MRK_PLAN_NO : Field := ⟨0x400c, 0, 32⟩
/-- MRK_SEQ.LEASE: 8 bits at bit 24, BS (R165). -/
def F.MRK_SEQ_LEASE : Field := ⟨0x4010, 24, 8⟩
/-- MRK_SEQ.RAMP: 8 bits at bit 16, BS (R165). -/
def F.MRK_SEQ_RAMP : Field := ⟨0x4010, 16, 8⟩
/-- MRK_SEQ.ZERO: 8 bits at bit 8, BS (R165). -/
def F.MRK_SEQ_ZERO : Field := ⟨0x4010, 8, 8⟩
/-- MRK_SEQ.MATCH: 8 bits at bit 0, BS (R165). -/
def F.MRK_SEQ_MATCH : Field := ⟨0x4010, 0, 8⟩
/-- MRK_COST_CFG.HOLD: 16 bits at bit 16, BS (R165). -/
def F.MRK_COST_CFG_HOLD : Field := ⟨0x4014, 16, 16⟩
/-- MRK_COST_CFG.MIN_GAIN: 16 bits at bit 0, BS (R165). -/
def F.MRK_COST_CFG_MIN_GAIN : Field := ⟨0x4014, 0, 16⟩
/-- MRK_WEIGHT_A.WEAR: 16 bits at bit 16, BS (R165). -/
def F.MRK_WEIGHT_A_WEAR : Field := ⟨0x4018, 16, 16⟩
/-- MRK_WEIGHT_A.DAMAGE: 16 bits at bit 0, BS (R165). -/
def F.MRK_WEIGHT_A_DAMAGE : Field := ⟨0x4018, 0, 16⟩
/-- MRK_WEIGHT_B.CREDIT: 16 bits at bit 16, BS (R165). -/
def F.MRK_WEIGHT_B_CREDIT : Field := ⟨0x401c, 16, 16⟩
/-- MRK_WEIGHT_B.HEADROOM: 16 bits at bit 0, BS (R165). -/
def F.MRK_WEIGHT_B_HEADROOM : Field := ⟨0x401c, 0, 16⟩
/-- MRK_LULL.ENABLE: 1 bits at bit 31, BS (R165). -/
def F.MRK_LULL_ENABLE : Field := ⟨0x4024, 31, 1⟩
/-- MRK_LULL.OUTLETS: 1 bits at bit 30, BS (R165). -/
def F.MRK_LULL_OUTLETS : Field := ⟨0x4024, 30, 1⟩
/-- MRK_LULL.RESERVE: 5 bits at bit 16, BS (R165). -/
def F.MRK_LULL_RESERVE : Field := ⟨0x4024, 16, 5⟩
/-- MRK_LULL.IDLE_MIN: 16 bits at bit 0, BS (R165). -/
def F.MRK_LULL_IDLE_MIN : Field := ⟨0x4024, 0, 16⟩
/-- MRK_GRID_CAP.KW: 24 bits at bit 0, BS (R165). -/
def F.MRK_GRID_CAP_KW : Field := ⟨0x4028, 0, 24⟩
/-- MRK_CURTAIL.KW: 24 bits at bit 0, RW (R165). -/
def F.MRK_CURTAIL_KW : Field := ⟨0x402c, 0, 24⟩
/-- MRK_CURTAIL_HOLD.LEFT: 16 bits at bit 16, RO (R165). -/
def F.MRK_CURTAIL_HOLD_LEFT : Field := ⟨0x4030, 16, 16⟩
/-- MRK_CURTAIL_HOLD.HOLD: 16 bits at bit 0, RW (R165). -/
def F.MRK_CURTAIL_HOLD_HOLD : Field := ⟨0x4030, 0, 16⟩
/-- MRK_HEADROOM.HR: 8 bits at bit 0, BS (R165). -/
def F.MRK_HEADROOM_HR : Field := ⟨0x4034, 0, 8⟩
/-- MRK_EXPORT_CAP.KW: 24 bits at bit 0, BS (R165). -/
def F.MRK_EXPORT_CAP_KW : Field := ⟨0x4038, 0, 24⟩
/-- MRK_OVERRUNS: 32 bits at bit 0, RC (R164). -/
def F.MRK_OVERRUNS : Field := ⟨0x403c, 0, 32⟩
/-- MRK_DISCARDS: 32 bits at bit 0, RC (R164). -/
def F.MRK_DISCARDS : Field := ⟨0x4040, 0, 32⟩
/-- MRK_LOCAL.MISSED: 8 bits at bit 24, RC (R165). -/
def F.MRK_LOCAL_MISSED : Field := ⟨0x4044, 24, 8⟩
/-- MRK_LOCAL.COLUMN: 5 bits at bit 16, RO (R165). -/
def F.MRK_LOCAL_COLUMN : Field := ⟨0x4044, 16, 5⟩
/-- MRK_LOCAL.MODE: 4 bits at bit 8, RO (R165). -/
def F.MRK_LOCAL_MODE : Field := ⟨0x4044, 8, 4⟩
/-- MRK_LOCAL.LEASE_LEFT: 8 bits at bit 0, RO (R165). -/
def F.MRK_LOCAL_LEASE_LEFT : Field := ⟨0x4044, 0, 8⟩
/-- MRK_DEMAND_LIMIT[t].KW: 24 bits at bit 0, BS (R165). -/
def F.MRK_DEMAND_LIMIT_KW (t : Nat) : Field := ⟨0x4100 + 0x4 * (t - 1), 0, 24⟩
/-- MRK_TARIFF_W[t].W: 16 bits at bit 0, BS (R165). -/
def F.MRK_TARIFF_W_W (t : Nat) : Field := ⟨0x4140 + 0x4 * (t - 1), 0, 16⟩
/-- MRK_STACK[r]_CFG.EXCLUDE: 1 bits at bit 31, BS (R165). -/
def F.MRK_STACK_CFG_EXCLUDE (r : Nat) : Field := ⟨0x4200 + 0x4 * (r - 1), 31, 1⟩
/-- MRK_STACK[r]_CFG.NO_LULL: 1 bits at bit 30, BS (R165). -/
def F.MRK_STACK_CFG_NO_LULL (r : Nat) : Field := ⟨0x4200 + 0x4 * (r - 1), 30, 1⟩
/-- MRK_STACK[r]_CFG.PIN: 1 bits at bit 29, BS (R165). -/
def F.MRK_STACK_CFG_PIN (r : Nat) : Field := ⟨0x4200 + 0x4 * (r - 1), 29, 1⟩
/-- MRK_STACK[r]_CFG.PIN_COL: 5 bits at bit 16, BS (R165). -/
def F.MRK_STACK_CFG_PIN_COL (r : Nat) : Field := ⟨0x4200 + 0x4 * (r - 1), 16, 5⟩
/-- MRK_STACK[r]_CFG.P_CAP: 16 bits at bit 0, BS (R165). -/
def F.MRK_STACK_CFG_P_CAP (r : Nat) : Field := ⟨0x4200 + 0x4 * (r - 1), 0, 16⟩
/-- MRK_STACK[r]_STATE.AVAILABLE: 1 bits at bit 31, RO (R165). -/
def F.MRK_STACK_STATE_AVAILABLE (r : Nat) : Field := ⟨0x4280 + 0x4 * (r - 1), 31, 1⟩
/-- MRK_STACK[r]_STATE.LULL: 1 bits at bit 30, RO (R165). -/
def F.MRK_STACK_STATE_LULL (r : Nat) : Field := ⟨0x4280 + 0x4 * (r - 1), 30, 1⟩
/-- MRK_STACK[r]_STATE.PIN_ERR: 1 bits at bit 29, RO (R165). -/
def F.MRK_STACK_STATE_PIN_ERR (r : Nat) : Field := ⟨0x4280 + 0x4 * (r - 1), 29, 1⟩
/-- MRK_STACK[r]_STATE.QUARANTINE: 1 bits at bit 28, RO (R165). -/
def F.MRK_STACK_STATE_QUARANTINE (r : Nat) : Field := ⟨0x4280 + 0x4 * (r - 1), 28, 1⟩
/-- MRK_STACK[r]_STATE.MODE: 4 bits at bit 24, RO (R165). -/
def F.MRK_STACK_STATE_MODE (r : Nat) : Field := ⟨0x4280 + 0x4 * (r - 1), 24, 4⟩
/-- MRK_STACK[r]_STATE.COLUMN: 5 bits at bit 16, RO (R165). -/
def F.MRK_STACK_STATE_COLUMN (r : Nat) : Field := ⟨0x4280 + 0x4 * (r - 1), 16, 5⟩
/-- MRK_STACK[r]_STATE.SHARE: 16 bits at bit 0, RO (R165). -/
def F.MRK_STACK_STATE_SHARE (r : Nat) : Field := ⟨0x4280 + 0x4 * (r - 1), 0, 16⟩
/-- MRK_OUT[c]_CFG.EXCLUDE: 1 bits at bit 31, BS (R165). -/
def F.MRK_OUT_CFG_EXCLUDE (c : Nat) : Field := ⟨0x4300 + 0x4 * (c - 1), 31, 1⟩
/-- MRK_OUT[c]_CFG.PRIORITY: 2 bits at bit 24, BS (R165). -/
def F.MRK_OUT_CFG_PRIORITY (c : Nat) : Field := ⟨0x4300 + 0x4 * (c - 1), 24, 2⟩
/-- MRK_OUT[c]_CFG.EXPORT_EN: 1 bits at bit 23, BS (R165). -/
def F.MRK_OUT_CFG_EXPORT_EN (c : Nat) : Field := ⟨0x4300 + 0x4 * (c - 1), 23, 1⟩
/-- MRK_OUT[c]_FORBID: 32 bits at bit 0, BS (R164). -/
def F.MRK_OUT_FORBID (c : Nat) : Field := ⟨0x4340 + 0x4 * (c - 1), 0, 32⟩
/-- MRK_OUT[c]_STATE.STACKS: 6 bits at bit 26, RO (R165). -/
def F.MRK_OUT_STATE_STACKS (c : Nat) : Field := ⟨0x4380 + 0x4 * (c - 1), 26, 6⟩
/-- MRK_OUT[c]_STATE.I_MAX: 16 bits at bit 0, RO (R165). -/
def F.MRK_OUT_STATE_I_MAX (c : Nat) : Field := ⟨0x4380 + 0x4 * (c - 1), 0, 16⟩
/-- MRK_DUTY[n].FAR: 1 bits at bit 23, RO (R165). -/
def F.MRK_DUTY_FAR (n : Nat) : Field := ⟨0x4400 + 0x4 * (n - 1), 23, 1⟩
/-- MRK_DUTY[n].WITNESS: 7 bits at bit 16, RO (R165). -/
def F.MRK_DUTY_WITNESS (n : Nat) : Field := ⟨0x4400 + 0x4 * (n - 1), 16, 7⟩
/-- MRK_DUTY[n].HOPS: 7 bits at bit 0, RO (R165). -/
def F.MRK_DUTY_HOPS (n : Nat) : Field := ⟨0x4400 + 0x4 * (n - 1), 0, 7⟩
/-- MRK_REPLICA[a].SHORT: 1 bits at bit 31, RO (R165). -/
def F.MRK_REPLICA_SHORT (a : Nat) : Field := ⟨0x4500 + 0x4 * (a - 1), 31, 1⟩
/-- MRK_REPLICA[a].HOLDER_2: 7 bits at bit 16, RO (R165). -/
def F.MRK_REPLICA_HOLDER_2 (a : Nat) : Field := ⟨0x4500 + 0x4 * (a - 1), 16, 7⟩
/-- MRK_REPLICA[a].HOLDER_1: 7 bits at bit 0, RO (R165). -/
def F.MRK_REPLICA_HOLDER_1 (a : Nat) : Field := ⟨0x4500 + 0x4 * (a - 1), 0, 7⟩
/-- SHT_STATUS.LANE_BOUND: 8 bits at bit 24, RO (R201). -/
def F.SHT_STATUS_LANE_BOUND : Field := ⟨0x8004, 24, 8⟩
/-- SHT_STATUS.LOOP_ON: 8 bits at bit 16, RO (R201). -/
def F.SHT_STATUS_LOOP_ON : Field := ⟨0x8004, 16, 8⟩
/-- SHT_STATUS.SHADOW: 1 bits at bit 2, RO (R201). -/
def F.SHT_STATUS_SHADOW : Field := ⟨0x8004, 2, 1⟩
/-- SHT_STATUS.BUDGET: 1 bits at bit 1, W1C (R201). -/
def F.SHT_STATUS_BUDGET : Field := ⟨0x8004, 1, 1⟩
/-- SHT_STATUS.NONFINITE: 1 bits at bit 0, W1C (R201). -/
def F.SHT_STATUS_NONFINITE : Field := ⟨0x8004, 0, 1⟩
/-- SHT_PCH[p]_LIM.R_HARD: 16 bits at bit 16, BS (R201). -/
def F.SHT_PCH_LIM_R_HARD (p : Nat) : Field := ⟨0x8800 + 0x10 * p, 16, 16⟩
/-- SHT_PCH[p]_LIM.R_LIM: 16 bits at bit 0, BS (R201). -/
def F.SHT_PCH_LIM_R_LIM (p : Nat) : Field := ⟨0x8800 + 0x10 * p, 0, 16⟩
/-- SHT_PCH[p]_CFG.ENABLE: 1 bits at bit 31, BS (R201). -/
def F.SHT_PCH_CFG_ENABLE (p : Nat) : Field := ⟨0x8804 + 0x10 * p, 31, 1⟩
/-- SHT_PCH[p]_CFG.ACTION: 2 bits at bit 28, BS (R201). -/
def F.SHT_PCH_CFG_ACTION (p : Nat) : Field := ⟨0x8804 + 0x10 * p, 28, 2⟩
/-- SHT_PCH[p]_CFG.ADC: 4 bits at bit 24, RO (R201). -/
def F.SHT_PCH_CFG_ADC (p : Nat) : Field := ⟨0x8804 + 0x10 * p, 24, 4⟩
/-- SHT_PCH[p]_CFG.X_LIM: 16 bits at bit 8, BS (R201). -/
def F.SHT_PCH_CFG_X_LIM (p : Nat) : Field := ⟨0x8804 + 0x10 * p, 8, 16⟩
/-- SHT_PCH[p]_CFG.PERSIST: 8 bits at bit 0, BS (R201). -/
def F.SHT_PCH_CFG_PERSIST (p : Nat) : Field := ⟨0x8804 + 0x10 * p, 0, 8⟩
/-- SHT_PCH[p]_SPEC.SPEC: 16 bits at bit 0, BS (R201). -/
def F.SHT_PCH_SPEC_SPEC (p : Nat) : Field := ⟨0x8808 + 0x10 * p, 0, 16⟩
/-- SHT_LOOP[m]_CTRL.AUTO_WIDTH: 1 bits at bit 16, BS (R201). -/
def F.SHT_LOOP_CTRL_AUTO_WIDTH (m : Nat) : Field := ⟨0x9000 + 0x100 * m, 16, 1⟩
/-- SHT_LOOP[m]_CTRL.BW: 4 bits at bit 12, LV (R201). -/
def F.SHT_LOOP_CTRL_BW (m : Nat) : Field := ⟨0x9000 + 0x100 * m, 12, 4⟩
/-- SHT_LOOP[m]_CTRL.NB: 2 bits at bit 8, BS (R201). -/
def F.SHT_LOOP_CTRL_NB (m : Nat) : Field := ⟨0x9000 + 0x100 * m, 8, 2⟩
/-- SHT_LOOP[m]_CTRL.UPDATE: 1 bits at bit 4, BS (R201). -/
def F.SHT_LOOP_CTRL_UPDATE (m : Nat) : Field := ⟨0x9000 + 0x100 * m, 4, 1⟩
/-- SHT_LOOP[m]_CTRL.DECLARED: 1 bits at bit 0, RO (R201). -/
def F.SHT_LOOP_CTRL_DECLARED (m : Nat) : Field := ⟨0x9000 + 0x100 * m, 0, 1⟩
/-- SHT_LOOP[m]_STATUS.PLS_FAULT: 1 bits at bit 31, W1C (R201). -/
def F.SHT_LOOP_STATUS_PLS_FAULT (m : Nat) : Field := ⟨0x9004 + 0x100 * m, 31, 1⟩
/-- SHT_LOOP[m]_STATUS.ATTRIB: 3 bits at bit 28, RO (R201). -/
def F.SHT_LOOP_STATUS_ATTRIB (m : Nat) : Field := ⟨0x9004 + 0x100 * m, 28, 3⟩
/-- SHT_LOOP[m]_STATUS.HOLD_OFF: 1 bits at bit 27, RO (R201). -/
def F.SHT_LOOP_STATUS_HOLD_OFF (m : Nat) : Field := ⟨0x9004 + 0x100 * m, 27, 1⟩
/-- SHT_LOOP[m]_STATUS.NONFINITE: 1 bits at bit 26, W1C (R201). -/
def F.SHT_LOOP_STATUS_NONFINITE (m : Nat) : Field := ⟨0x9004 + 0x100 * m, 26, 1⟩
/-- SHT_LOOP[m]_STATUS.REGION: 3 bits at bit 16, RO (R201). -/
def F.SHT_LOOP_STATUS_REGION (m : Nat) : Field := ⟨0x9004 + 0x100 * m, 16, 3⟩
/-- SHT_LOOP[m]_STATUS.BLEND: 8 bits at bit 8, RO (R201). -/
def F.SHT_LOOP_STATUS_BLEND (m : Nat) : Field := ⟨0x9004 + 0x100 * m, 8, 8⟩
/-- SHT_LOOP[m]_STATUS.BW_NOW: 4 bits at bit 4, RO (R201). -/
def F.SHT_LOOP_STATUS_BW_NOW (m : Nat) : Field := ⟨0x9004 + 0x100 * m, 4, 4⟩
/-- SHT_LOOP[m]_HITS: 32 bits at bit 0, RC (R200). -/
def F.SHT_LOOP_HITS (m : Nat) : Field := ⟨0x9008 + 0x100 * m, 0, 32⟩
/-- SHT_LOOP[m]_MISSES: 32 bits at bit 0, RC (R200). -/
def F.SHT_LOOP_MISSES (m : Nat) : Field := ⟨0x900c + 0x100 * m, 0, 32⟩
/-- SHT_LOOP[m]_LATE: 32 bits at bit 0, RC (R200). -/
def F.SHT_LOOP_LATE (m : Nat) : Field := ⟨0x9010 + 0x100 * m, 0, 32⟩
/-- SHT_LOOP[m]_SCHED.BLEND_LEN: 9 bits at bit 0, BS (R201). -/
def F.SHT_LOOP_SCHED_BLEND_LEN (m : Nat) : Field := ⟨0x9014 + 0x100 * m, 0, 9⟩
/-- SHT_LOOP[m]_THETA[j]: 32 bits at bit 0, BS (R200). -/
def F.SHT_LOOP_THETA (m j : Nat) : Field := ⟨0x9020 + 0x100 * m + 0x4 * j, 0, 32⟩
/-- SHT_LOOP[m]_HYST[j]: 32 bits at bit 0, BS (R200). -/
def F.SHT_LOOP_HYST (m j : Nat) : Field := ⟨0x9040 + 0x100 * m + 0x4 * j, 0, 32⟩
/-- SHT_LANE[k]_CTRL.TRACE: 1 bits at bit 8, BS (R201). -/
def F.SHT_LANE_CTRL_TRACE (k : Nat) : Field := ⟨0x9800 + 0x10 * k, 8, 1⟩
/-- SHT_LANE[k]_CTRL.TRACE_DIV: 8 bits at bit 0, BS (R201). -/
def F.SHT_LANE_CTRL_TRACE_DIV (k : Nat) : Field := ⟨0x9800 + 0x10 * k, 0, 8⟩
/-- SHT_LANE[k]_STATUS.LOOP: 3 bits at bit 16, RO (R201). -/
def F.SHT_LANE_STATUS_LOOP (k : Nat) : Field := ⟨0x9804 + 0x10 * k, 16, 3⟩
/-- SHT_LANE[k]_STATUS.SLACK: 16 bits at bit 0, RO (R201). -/
def F.SHT_LANE_STATUS_SLACK (k : Nat) : Field := ⟨0x9804 + 0x10 * k, 0, 16⟩
/-- SHT_LOOP[m]_MODE.NOW: 4 bits at bit 28, RO (R222). -/
def F.SHT_LOOP_MODE_NOW (m : Nat) : Field := ⟨0xa000 + 0x100 * m, 28, 4⟩
/-- SHT_LOOP[m]_MODE.NEXT: 4 bits at bit 24, RO (R222). -/
def F.SHT_LOOP_MODE_NEXT (m : Nat) : Field := ⟨0xa000 + 0x100 * m, 24, 4⟩
/-- SHT_LOOP[m]_MODE.STEP: 8 bits at bit 16, RO (R222). -/
def F.SHT_LOOP_MODE_STEP (m : Nat) : Field := ⟨0xa000 + 0x100 * m, 16, 8⟩
/-- SHT_LOOP[m]_MODE.AUTO_ISLAND: 1 bits at bit 12, BS (R222). -/
def F.SHT_LOOP_MODE_AUTO_ISLAND (m : Nat) : Field := ⟨0xa000 + 0x100 * m, 12, 1⟩
/-- SHT_LOOP[m]_MODE.HO_FAIL: 1 bits at bit 11, W1C (R222). -/
def F.SHT_LOOP_MODE_HO_FAIL (m : Nat) : Field := ⟨0xa000 + 0x100 * m, 11, 1⟩
/-- SHT_LOOP[m]_MODE.EXPORT_DENIED: 1 bits at bit 10, W1C (R222). -/
def F.SHT_LOOP_MODE_EXPORT_DENIED (m : Nat) : Field := ⟨0xa000 + 0x100 * m, 10, 1⟩
/-- SHT_LOOP[m]_MODE.STOPPING: 1 bits at bit 9, RO (R222). -/
def F.SHT_LOOP_MODE_STOPPING (m : Nat) : Field := ⟨0xa000 + 0x100 * m, 9, 1⟩
/-- SHT_LOOP[m]_MODE.AUTO: 1 bits at bit 8, BS (R222). -/
def F.SHT_LOOP_MODE_AUTO (m : Nat) : Field := ⟨0xa000 + 0x100 * m, 8, 1⟩
/-- SHT_LOOP[m]_HO_CFG.BLEND_N: 8 bits at bit 24, BS (R222). -/
def F.SHT_LOOP_HO_CFG_BLEND_N (m : Nat) : Field := ⟨0xa004 + 0x100 * m, 24, 8⟩
/-- SHT_LOOP[m]_HO_CFG.RETRY_WAIT: 8 bits at bit 16, BS (R222). -/
def F.SHT_LOOP_HO_CFG_RETRY_WAIT (m : Nat) : Field := ⟨0xa004 + 0x100 * m, 16, 8⟩
/-- SHT_LOOP[m]_HO_CFG.CONFIRM: 8 bits at bit 8, BS (R222). -/
def F.SHT_LOOP_HO_CFG_CONFIRM (m : Nat) : Field := ⟨0xa004 + 0x100 * m, 8, 8⟩
/-- SHT_LOOP[m]_HO_SLEW: 32 bits at bit 0, BS (R221). -/
def F.SHT_LOOP_HO_SLEW (m : Nat) : Field := ⟨0xa008 + 0x100 * m, 0, 32⟩
/-- SHT_LOOP[m]_HO_LIM: 32 bits at bit 0, BS (R221). -/
def F.SHT_LOOP_HO_LIM (m : Nat) : Field := ⟨0xa00c + 0x100 * m, 0, 32⟩
/-- SHT_LOOP[m]_HO_COUNT.DONE: 16 bits at bit 16, RC (R222). -/
def F.SHT_LOOP_HO_COUNT_DONE (m : Nat) : Field := ⟨0xa010 + 0x100 * m, 16, 16⟩
/-- SHT_LOOP[m]_HO_COUNT.ABANDONED: 16 bits at bit 0, RC (R222). -/
def F.SHT_LOOP_HO_COUNT_ABANDONED (m : Nat) : Field := ⟨0xa010 + 0x100 * m, 0, 16⟩
/-- SHT_LOOP[m]_RESIDUAL: 32 bits at bit 0, RO (R221). -/
def F.SHT_LOOP_RESIDUAL (m : Nat) : Field := ⟨0xa014 + 0x100 * m, 0, 32⟩
/-- SHT_LOOP[m]_STOP.TIME: 16 bits at bit 0, BS (R222). -/
def F.SHT_LOOP_STOP_TIME (m : Nat) : Field := ⟨0xa018 + 0x100 * m, 0, 16⟩
/-- SHT_LOOP[m]_CV.V_BAND: 16 bits at bit 0, BS (R222). -/
def F.SHT_LOOP_CV_V_BAND (m : Nat) : Field := ⟨0xa01c + 0x100 * m, 0, 16⟩
/-- SHT_LOOP[m]_WORDS.MODE_WORD: 8 bits at bit 24, RO (R222). -/
def F.SHT_LOOP_WORDS_MODE_WORD (m : Nat) : Field := ⟨0xa020 + 0x100 * m, 24, 8⟩
/-- SHT_LOOP[m]_WORDS.OFFSET_WORD: 8 bits at bit 16, RO (R222). -/
def F.SHT_LOOP_WORDS_OFFSET_WORD (m : Nat) : Field := ⟨0xa020 + 0x100 * m, 16, 8⟩
/-- SHT_LOOP[m]_WORDS.REF_WORD: 8 bits at bit 8, RO (R222). -/
def F.SHT_LOOP_WORDS_REF_WORD (m : Nat) : Field := ⟨0xa020 + 0x100 * m, 8, 8⟩
/-- SHT_LOOP[m]_WORDS.FLAG_WORD: 8 bits at bit 0, RO (R222). -/
def F.SHT_LOOP_WORDS_FLAG_WORD (m : Nat) : Field := ⟨0xa020 + 0x100 * m, 0, 8⟩
/-- SHT_LOOP[m]_AFE_VDC.VDC: 16 bits at bit 0, BS (R222). -/
def F.SHT_LOOP_AFE_VDC_VDC (m : Nat) : Field := ⟨0xa024 + 0x100 * m, 0, 16⟩
/-- SHT_LOOP[m]_AFE_PQ.P: 16 bits at bit 16, BS (R222). -/
def F.SHT_LOOP_AFE_PQ_P (m : Nat) : Field := ⟨0xa028 + 0x100 * m, 16, 16⟩
/-- SHT_LOOP[m]_AFE_PQ.Q: 16 bits at bit 0, BS (R222). -/
def F.SHT_LOOP_AFE_PQ_Q (m : Nat) : Field := ⟨0xa028 + 0x100 * m, 0, 16⟩
/-- SHT_LOOP[m]_FORM.F_NOM: 16 bits at bit 16, BS (R222). -/
def F.SHT_LOOP_FORM_F_NOM (m : Nat) : Field := ⟨0xa02c + 0x100 * m, 16, 16⟩
/-- SHT_LOOP[m]_FORM.V_NOM: 16 bits at bit 0, BS (R222). -/
def F.SHT_LOOP_FORM_V_NOM (m : Nat) : Field := ⟨0xa02c + 0x100 * m, 0, 16⟩
/-- SHT_LOOP[m]_MODE_REQ.KEY: 16 bits at bit 16, WO (R222). -/
def F.SHT_LOOP_MODE_REQ_KEY (m : Nat) : Field := ⟨0xa030 + 0x100 * m, 16, 16⟩
/-- SHT_LOOP[m]_MODE_REQ.REQ: 4 bits at bit 0, WO (R222). -/
def F.SHT_LOOP_MODE_REQ_REQ (m : Nat) : Field := ⟨0xa030 + 0x100 * m, 0, 4⟩
/-- SHT_LOOP[m]_MAP[x].U_WORD: 8 bits at bit 24, RO (R222). -/
def F.SHT_LOOP_MAP_U_WORD (m x : Nat) : Field := ⟨0xa040 + 0x100 * m + 0x4 * x, 24, 8⟩
/-- SHT_LOOP[m]_MAP[x].PART_WORD: 8 bits at bit 16, RO (R222). -/
def F.SHT_LOOP_MAP_PART_WORD (m x : Nat) : Field := ⟨0xa040 + 0x100 * m + 0x4 * x, 16, 8⟩
/-- SHT_LOOP[m]_MAP[x].INT_WORD: 8 bits at bit 8, RO (R222). -/
def F.SHT_LOOP_MAP_INT_WORD (m x : Nat) : Field := ⟨0xa040 + 0x100 * m + 0x4 * x, 8, 8⟩
/-- SHT_LOOP[m]_MAP[x].DUAL: 1 bits at bit 1, RO (R222). -/
def F.SHT_LOOP_MAP_DUAL (m x : Nat) : Field := ⟨0xa040 + 0x100 * m + 0x4 * x, 1, 1⟩
/-- SHT_LOOP[m]_MAP[x].DECLARED: 1 bits at bit 0, RO (R222). -/
def F.SHT_LOOP_MAP_DECLARED (m x : Nat) : Field := ⟨0xa040 + 0x100 * m + 0x4 * x, 0, 1⟩
/-- SHT_LOOP[m]_INT_MIN[x]: 32 bits at bit 0, BS (R221). -/
def F.SHT_LOOP_INT_MIN (m x : Nat) : Field := ⟨0xa060 + 0x100 * m + 0x4 * x, 0, 32⟩
/-- SHT_LOOP[m]_INT_MAX[x]: 32 bits at bit 0, BS (R221). -/
def F.SHT_LOOP_INT_MAX (m x : Nat) : Field := ⟨0xa080 + 0x100 * m + 0x4 * x, 0, 32⟩
/-- SHT_RC[e]_CFG.ENABLE: 1 bits at bit 31, BS (R222). -/
def F.SHT_RC_CFG_ENABLE (e : Nat) : Field := ⟨0xb000 + 0x40 * e, 31, 1⟩
/-- SHT_RC[e]_CFG.FREEZE: 1 bits at bit 30, RW (R222). -/
def F.SHT_RC_CFG_FREEZE (e : Nat) : Field := ⟨0xb000 + 0x40 * e, 30, 1⟩
/-- SHT_RC[e]_CFG.CLEAR: 1 bits at bit 29, W1S (R222). -/
def F.SHT_RC_CFG_CLEAR (e : Nat) : Field := ⟨0xb000 + 0x40 * e, 29, 1⟩
/-- SHT_RC[e]_CFG.SOURCE: 2 bits at bit 24, BS (R222). -/
def F.SHT_RC_CFG_SOURCE (e : Nat) : Field := ⟨0xb000 + 0x40 * e, 24, 2⟩
/-- SHT_RC[e]_CFG.ERR_WORD: 8 bits at bit 16, BS (R222). -/
def F.SHT_RC_CFG_ERR_WORD (e : Nat) : Field := ⟨0xb000 + 0x40 * e, 16, 8⟩
/-- SHT_RC[e]_CFG.OUT_WORD: 8 bits at bit 8, BS (R222). -/
def F.SHT_RC_CFG_OUT_WORD (e : Nat) : Field := ⟨0xb000 + 0x40 * e, 8, 8⟩
/-- SHT_RC[e]_CFG.LEAD: 8 bits at bit 0, BS (R222). -/
def F.SHT_RC_CFG_LEAD (e : Nat) : Field := ⟨0xb000 + 0x40 * e, 0, 8⟩
/-- SHT_RC[e]_SRC.PHASE_WORD: 8 bits at bit 24, BS (R222). -/
def F.SHT_RC_SRC_PHASE_WORD (e : Nat) : Field := ⟨0xb004 + 0x40 * e, 24, 8⟩
/-- SHT_RC[e]_SRC.SRC_LOOP: 4 bits at bit 20, BS (R222). -/
def F.SHT_RC_SRC_SRC_LOOP (e : Nat) : Field := ⟨0xb004 + 0x40 * e, 20, 4⟩
/-- SHT_RC[e]_SRC.PULSE_IN: 3 bits at bit 17, BS (R222). -/
def F.SHT_RC_SRC_PULSE_IN (e : Nat) : Field := ⟨0xb004 + 0x40 * e, 17, 3⟩
/-- SHT_RC[e]_SRC.EDGE: 1 bits at bit 16, BS (R222). -/
def F.SHT_RC_SRC_EDGE (e : Nat) : Field := ⟨0xb004 + 0x40 * e, 16, 1⟩
/-- SHT_RC[e]_SRC.PULSES: 8 bits at bit 8, BS (R222). -/
def F.SHT_RC_SRC_PULSES (e : Nat) : Field := ⟨0xb004 + 0x40 * e, 8, 8⟩
/-- SHT_RC[e]_SRC.AVG: 4 bits at bit 4, BS (R222). -/
def F.SHT_RC_SRC_AVG (e : Nat) : Field := ⟨0xb004 + 0x40 * e, 4, 4⟩
/-- SHT_RC[e]_SRC.SPEC_ADC: 4 bits at bit 0, BS (R222). -/
def F.SHT_RC_SRC_SPEC_ADC (e : Nat) : Field := ⟨0xb004 + 0x40 * e, 0, 4⟩
/-- SHT_RC[e]_PERIOD.PERIOD: 23 bits at bit 0, BS (R222). -/
def F.SHT_RC_PERIOD_PERIOD (e : Nat) : Field := ⟨0xb008 + 0x40 * e, 0, 23⟩
/-- SHT_RC[e]_BAND.P_MAX: 16 bits at bit 16, BS (R222). -/
def F.SHT_RC_BAND_P_MAX (e : Nat) : Field := ⟨0xb00c + 0x40 * e, 16, 16⟩
/-- SHT_RC[e]_BAND.P_MIN: 16 bits at bit 0, BS (R222). -/
def F.SHT_RC_BAND_P_MIN (e : Nat) : Field := ⟨0xb00c + 0x40 * e, 0, 16⟩
/-- SHT_RC[e]_GAIN: 32 bits at bit 0, BS (R221). -/
def F.SHT_RC_GAIN (e : Nat) : Field := ⟨0xb010 + 0x40 * e, 0, 32⟩
/-- SHT_RC[e]_FORGET: 32 bits at bit 0, BS (R221). -/
def F.SHT_RC_FORGET (e : Nat) : Field := ⟨0xb014 + 0x40 * e, 0, 32⟩
/-- SHT_RC[e]_Q0: 32 bits at bit 0, BS (R221). -/
def F.SHT_RC_Q0 (e : Nat) : Field := ⟨0xb018 + 0x40 * e, 0, 32⟩
/-- SHT_RC[e]_Q1: 32 bits at bit 0, BS (R221). -/
def F.SHT_RC_Q1 (e : Nat) : Field := ⟨0xb01c + 0x40 * e, 0, 32⟩
/-- SHT_RC[e]_Q2: 32 bits at bit 0, BS (R221). -/
def F.SHT_RC_Q2 (e : Nat) : Field := ⟨0xb020 + 0x40 * e, 0, 32⟩
/-- SHT_RC[e]_LIMIT: 32 bits at bit 0, BS (R221). -/
def F.SHT_RC_LIMIT (e : Nat) : Field := ⟨0xb024 + 0x40 * e, 0, 32⟩
/-- SHT_RC[e]_STATUS.LOCKED: 1 bits at bit 31, RO (R222). -/
def F.SHT_RC_STATUS_LOCKED (e : Nat) : Field := ⟨0xb028 + 0x40 * e, 31, 1⟩
/-- SHT_RC[e]_STATUS.LEARNING: 1 bits at bit 30, RO (R222). -/
def F.SHT_RC_STATUS_LEARNING (e : Nat) : Field := ⟨0xb028 + 0x40 * e, 30, 1⟩
/-- SHT_RC[e]_STATUS.FADING: 1 bits at bit 29, RO (R222). -/
def F.SHT_RC_STATUS_FADING (e : Nat) : Field := ⟨0xb028 + 0x40 * e, 29, 1⟩
/-- SHT_RC[e]_STATUS.FREEZE: 8 bits at bit 0, RO (R222). -/
def F.SHT_RC_STATUS_FREEZE (e : Nat) : Field := ⟨0xb028 + 0x40 * e, 0, 8⟩
/-- SHT_RC[e]_PERIOD_NOW: 32 bits at bit 0, RO (R221). -/
def F.SHT_RC_PERIOD_NOW (e : Nat) : Field := ⟨0xb02c + 0x40 * e, 0, 32⟩
/-- SHT_RC[e]_PHASE: 32 bits at bit 0, RO (R221). -/
def F.SHT_RC_PHASE (e : Nat) : Field := ⟨0xb030 + 0x40 * e, 0, 32⟩
/-- SHT_RC[e]_RATE.RATE_LIM: 16 bits at bit 0, BS (R222). -/
def F.SHT_RC_RATE_RATE_LIM (e : Nat) : Field := ⟨0xb034 + 0x40 * e, 0, 16⟩
/-- SHT_RC[e]_PEEK_IDX.IDX: 11 bits at bit 0, RW (R222). -/
def F.SHT_RC_PEEK_IDX_IDX (e : Nat) : Field := ⟨0xb038 + 0x40 * e, 0, 11⟩
/-- SHT_RC[e]_PEEK_DATA: 32 bits at bit 0, RO (R221). -/
def F.SHT_RC_PEEK_DATA (e : Nat) : Field := ⟨0xb03c + 0x40 * e, 0, 32⟩
/-- SHT_LOOP[m]_COEF[w]: 32 bits at bit 0, LV (R200). -/
def F.SHT_LOOP_COEF (m w : Nat) : Field := ⟨0xc000 + 0x800 * m + 0x4 * w, 0, 32⟩
/-- PWM_HB[n]_PERIOD.PERIOD: 20 bits at bit 0, BS (R203). -/
def F.PWM_HB_PERIOD_PERIOD (n : Nat) : Field := ⟨0x10100 + 0x40 * n, 0, 20⟩
/-- PWM_HB[n]_CMP_ON.CMP_ON: 24 bits at bit 0, BS (R203). -/
def F.PWM_HB_CMP_ON_CMP_ON (n : Nat) : Field := ⟨0x10104 + 0x40 * n, 0, 24⟩
/-- PWM_HB[n]_CMP_OFF.CMP_OFF: 24 bits at bit 0, BS (R203). -/
def F.PWM_HB_CMP_OFF_CMP_OFF (n : Nat) : Field := ⟨0x10108 + 0x40 * n, 0, 24⟩
/-- PWM_HB[n]_TRIG.OFFSET: 11 bits at bit 16, BS (R203). -/
def F.PWM_HB_TRIG_OFFSET (n : Nat) : Field := ⟨0x1010c + 0x40 * n, 16, 11⟩
/-- PWM_HB[n]_TRIG.SAMPLES: 2 bits at bit 8, BS (R203). -/
def F.PWM_HB_TRIG_SAMPLES (n : Nat) : Field := ⟨0x1010c + 0x40 * n, 8, 2⟩
/-- PWM_HB[n]_SYNC.SOURCE: 2 bits at bit 30, BS (R203). -/
def F.PWM_HB_SYNC_SOURCE (n : Nat) : Field := ⟨0x10110 + 0x40 * n, 30, 2⟩
/-- PWM_HB[n]_SYNC.REF: 4 bits at bit 24, BS (R203). -/
def F.PWM_HB_SYNC_REF (n : Nat) : Field := ⟨0x10110 + 0x40 * n, 24, 4⟩
/-- PWM_HB[n]_SYNC.PHASE: 20 bits at bit 0, BS (R203). -/
def F.PWM_HB_SYNC_PHASE (n : Nat) : Field := ⟨0x10110 + 0x40 * n, 0, 20⟩
/-- PWM_HB[n]_MIN_PULSE.MIN_PULSE: 8 bits at bit 0, BS (R203). -/
def F.PWM_HB_MIN_PULSE_MIN_PULSE (n : Nat) : Field := ⟨0x10114 + 0x40 * n, 0, 8⟩
/-- PWM_HB[n]_STATUS.BOUND: 1 bits at bit 2, RO (R203). -/
def F.PWM_HB_STATUS_BOUND (n : Nat) : Field := ⟨0x10118 + 0x40 * n, 2, 1⟩
/-- PWM_HB[n]_STATUS.ALIGNED: 1 bits at bit 1, RO (R203). -/
def F.PWM_HB_STATUS_ALIGNED (n : Nat) : Field := ⟨0x10118 + 0x40 * n, 1, 1⟩
/-- PWM_HB[n]_STATUS.OUT: 1 bits at bit 0, RO (R203). -/
def F.PWM_HB_STATUS_OUT (n : Nat) : Field := ⟨0x10118 + 0x40 * n, 0, 1⟩
/-- PWM_HB[n]_COUNT.POSITION: 20 bits at bit 0, RO (R203). -/
def F.PWM_HB_COUNT_POSITION (n : Nat) : Field := ⟨0x1011c + 0x40 * n, 0, 20⟩
/-- PWM_ADC[a]_CFG.SOURCE: 4 bits at bit 8, BS (R203). -/
def F.PWM_ADC_CFG_SOURCE (a : Nat) : Field := ⟨0x10400 + 0x10 * a, 8, 4⟩
/-- PWM_ADC[a]_CFG.BURST: 2 bits at bit 0, BS (R203). -/
def F.PWM_ADC_CFG_BURST (a : Nat) : Field := ⟨0x10400 + 0x10 * a, 0, 2⟩
/-- PWM_ADC[a]_RESULT: 32 bits at bit 0, RO (R202). -/
def F.PWM_ADC_RESULT (a : Nat) : Field := ⟨0x10404 + 0x10 * a, 0, 32⟩
/-- PWM_ADC[a]_DEFER: 32 bits at bit 0, RC (R202). -/
def F.PWM_ADC_DEFER (a : Nat) : Field := ⟨0x10408 + 0x10 * a, 0, 32⟩
/-- GDI_STATUS.DIE_OK: 6 bits at bit 24, RO (R245). -/
def F.GDI_STATUS_DIE_OK : Field := ⟨0x14004, 24, 6⟩
/-- GDI_STATUS.DRIVE: 24 bits at bit 0, RO (R245). -/
def F.GDI_STATUS_DRIVE : Field := ⟨0x14004, 0, 24⟩
/-- GDI_UV_EVENT.CH: 24 bits at bit 0, W1C (R245). -/
def F.GDI_UV_EVENT_CH : Field := ⟨0x1400c, 0, 24⟩
/-- GDI_HB[h]_CFG.MODE: 2 bits at bit 30, BS (R245). -/
def F.GDI_HB_CFG_MODE (h : Nat) : Field := ⟨0x14100 + 0x20 * h, 30, 2⟩
/-- GDI_HB[h]_CFG.DT_H: 12 bits at bit 16, BS (R245). -/
def F.GDI_HB_CFG_DT_H (h : Nat) : Field := ⟨0x14100 + 0x20 * h, 16, 12⟩
/-- GDI_HB[h]_CFG.DT_L: 12 bits at bit 0, BS (R245). -/
def F.GDI_HB_CFG_DT_L (h : Nat) : Field := ⟨0x14100 + 0x20 * h, 0, 12⟩
/-- GDI_HB[h]_STATUS.HELD_OFF: 1 bits at bit 2, RO (R245). -/
def F.GDI_HB_STATUS_HELD_OFF (h : Nat) : Field := ⟨0x14104 + 0x20 * h, 2, 1⟩
/-- GDI_HB[h]_STATUS.HIGH_ON: 1 bits at bit 1, RO (R245). -/
def F.GDI_HB_STATUS_HIGH_ON (h : Nat) : Field := ⟨0x14104 + 0x20 * h, 1, 1⟩
/-- GDI_HB[h]_STATUS.LOW_ON: 1 bits at bit 0, RO (R245). -/
def F.GDI_HB_STATUS_LOW_ON (h : Nat) : Field := ⟨0x14104 + 0x20 * h, 0, 1⟩
/-- GDI_HB[h]_OMIT: 32 bits at bit 0, RC (R244). -/
def F.GDI_HB_OMIT (h : Nat) : Field := ⟨0x14108 + 0x20 * h, 0, 32⟩
/-- GDI_CH[n]_SRC.CODE: 5 bits at bit 0, BS (R245). -/
def F.GDI_CH_SRC_CODE (n : Nat) : Field := ⟨0x14400 + 0x80 * n, 0, 5⟩
/-- GDI_CH[n]_SNK.CODE: 5 bits at bit 0, BS (R245). -/
def F.GDI_CH_SNK_CODE (n : Nat) : Field := ⟨0x14404 + 0x80 * n, 0, 5⟩
/-- GDI_CH[n]_SHAPE.SEGMENTED: 1 bits at bit 0, BS (R245). -/
def F.GDI_CH_SHAPE_SEGMENTED (n : Nat) : Field := ⟨0x14408 + 0x80 * n, 0, 1⟩
/-- GDI_CH[n]_SUPPLY.VDD_UV: 2 bits at bit 8, BS (R245). -/
def F.GDI_CH_SUPPLY_VDD_UV (n : Nat) : Field := ⟨0x1440c + 0x80 * n, 8, 2⟩
/-- GDI_CH[n]_SUPPLY.VEE_UV: 2 bits at bit 4, BS (R245). -/
def F.GDI_CH_SUPPLY_VEE_UV (n : Nat) : Field := ⟨0x1440c + 0x80 * n, 4, 2⟩
/-- GDI_CH[n]_MON.VDD: 16 bits at bit 16, RO (R245). -/
def F.GDI_CH_MON_VDD (n : Nat) : Field := ⟨0x14410 + 0x80 * n, 16, 16⟩
/-- GDI_CH[n]_MON.VEE: 16 bits at bit 0, RO (R245). -/
def F.GDI_CH_MON_VEE (n : Nat) : Field := ⟨0x14410 + 0x80 * n, 0, 16⟩
/-- GDI_CH[n]_STATUS.UV_VDD: 1 bits at bit 7, RO (R245). -/
def F.GDI_CH_STATUS_UV_VDD (n : Nat) : Field := ⟨0x14414 + 0x80 * n, 7, 1⟩
/-- GDI_CH[n]_STATUS.UV_VEE: 1 bits at bit 6, RO (R245). -/
def F.GDI_CH_STATUS_UV_VEE (n : Nat) : Field := ⟨0x14414 + 0x80 * n, 6, 1⟩
/-- GDI_CH[n]_STATUS.LINK: 1 bits at bit 5, RO (R245). -/
def F.GDI_CH_STATUS_LINK (n : Nat) : Field := ⟨0x14414 + 0x80 * n, 5, 1⟩
/-- GDI_CH[n]_STATUS.STATE: 2 bits at bit 3, RO (R245). -/
def F.GDI_CH_STATUS_STATE (n : Nat) : Field := ⟨0x14414 + 0x80 * n, 3, 2⟩
/-- GDI_CH[n]_STATUS.ENABLE: 1 bits at bit 2, RO (R245). -/
def F.GDI_CH_STATUS_ENABLE (n : Nat) : Field := ⟨0x14414 + 0x80 * n, 2, 1⟩
/-- GDI_CH[n]_SEG_ON[i].END: 2 bits at bit 30, BS (R245). -/
def F.GDI_CH_SEG_ON_END (n i : Nat) : Field := ⟨0x14420 + 0x80 * n + 0x4 * i, 30, 2⟩
/-- GDI_CH[n]_SEG_ON[i].LEVEL: 9 bits at bit 20, BS (R245). -/
def F.GDI_CH_SEG_ON_LEVEL (n i : Nat) : Field := ⟨0x14420 + 0x80 * n + 0x4 * i, 20, 9⟩
/-- GDI_CH[n]_SEG_ON[i].CURRENT: 5 bits at bit 8, BS (R245). -/
def F.GDI_CH_SEG_ON_CURRENT (n i : Nat) : Field := ⟨0x14420 + 0x80 * n + 0x4 * i, 8, 5⟩
/-- GDI_CH[n]_SEG_ON[i].TIME: 8 bits at bit 0, BS (R245). -/
def F.GDI_CH_SEG_ON_TIME (n i : Nat) : Field := ⟨0x14420 + 0x80 * n + 0x4 * i, 0, 8⟩
/-- GDI_CH[n]_SEG_OFF[i].END: 2 bits at bit 30, BS (R245). -/
def F.GDI_CH_SEG_OFF_END (n i : Nat) : Field := ⟨0x14430 + 0x80 * n + 0x4 * i, 30, 2⟩
/-- GDI_CH[n]_SEG_OFF[i].LEVEL: 9 bits at bit 20, BS (R245). -/
def F.GDI_CH_SEG_OFF_LEVEL (n i : Nat) : Field := ⟨0x14430 + 0x80 * n + 0x4 * i, 20, 9⟩
/-- GDI_CH[n]_SEG_OFF[i].CURRENT: 5 bits at bit 8, BS (R245). -/
def F.GDI_CH_SEG_OFF_CURRENT (n i : Nat) : Field := ⟨0x14430 + 0x80 * n + 0x4 * i, 8, 5⟩
/-- GDI_CH[n]_SEG_OFF[i].TIME: 8 bits at bit 0, BS (R245). -/
def F.GDI_CH_SEG_OFF_TIME (n i : Nat) : Field := ⟨0x14430 + 0x80 * n + 0x4 * i, 0, 8⟩
/-- GDI_CH[n]_UV_COUNT: 32 bits at bit 0, RO (R244). -/
def F.GDI_CH_UV_COUNT (n : Nat) : Field := ⟨0x14440 + 0x80 * n, 0, 32⟩
/-- GDI_CH[n]_SEG_END.ON: 4 bits at bit 4, RO (R245). -/
def F.GDI_CH_SEG_END_ON (n : Nat) : Field := ⟨0x14444 + 0x80 * n, 4, 4⟩
/-- GDI_CH[n]_SEG_END.OFF: 4 bits at bit 0, RO (R245). -/
def F.GDI_CH_SEG_END_OFF (n : Nat) : Field := ⟨0x14444 + 0x80 * n, 0, 4⟩
/-- GDA_STATUS.UV_DRV: 1 bits at bit 12, RO (R247). -/
def F.GDA_STATUS_UV_DRV : Field := ⟨0x18004, 12, 1⟩
/-- GDA_STATUS.DRIVE: 12 bits at bit 0, RO (R247). -/
def F.GDA_STATUS_DRIVE : Field := ⟨0x18004, 0, 12⟩
/-- GDA_HB[a]_CFG.MODE: 2 bits at bit 30, BS (R247). -/
def F.GDA_HB_CFG_MODE (a : Nat) : Field := ⟨0x18100 + 0x40 * a, 30, 2⟩
/-- GDA_HB[a]_CFG.BIND: 1 bits at bit 29, BS (R247). -/
def F.GDA_HB_CFG_BIND (a : Nat) : Field := ⟨0x18100 + 0x40 * a, 29, 1⟩
/-- GDA_HB[a]_CFG.DT: 8 bits at bit 8, BS (R247). -/
def F.GDA_HB_CFG_DT (a : Nat) : Field := ⟨0x18100 + 0x40 * a, 8, 8⟩
/-- GDA_HB[a]_PERIOD.PERIOD: 19 bits at bit 0, BS (R247). -/
def F.GDA_HB_PERIOD_PERIOD (a : Nat) : Field := ⟨0x18104 + 0x40 * a, 0, 19⟩
/-- GDA_HB[a]_DUTY.DUTY: 14 bits at bit 0, BS (R247). -/
def F.GDA_HB_DUTY_DUTY (a : Nat) : Field := ⟨0x18108 + 0x40 * a, 0, 14⟩
/-- GDA_HB[a]_DRIVE.SRC_H: 4 bits at bit 12, BS (R247). -/
def F.GDA_HB_DRIVE_SRC_H (a : Nat) : Field := ⟨0x1810c + 0x40 * a, 12, 4⟩
/-- GDA_HB[a]_DRIVE.SNK_H: 4 bits at bit 8, BS (R247). -/
def F.GDA_HB_DRIVE_SNK_H (a : Nat) : Field := ⟨0x1810c + 0x40 * a, 8, 4⟩
/-- GDA_HB[a]_DRIVE.SRC_L: 4 bits at bit 4, BS (R247). -/
def F.GDA_HB_DRIVE_SRC_L (a : Nat) : Field := ⟨0x1810c + 0x40 * a, 4, 4⟩
/-- GDA_HB[a]_DRIVE.SNK_L: 4 bits at bit 0, BS (R247). -/
def F.GDA_HB_DRIVE_SNK_L (a : Nat) : Field := ⟨0x1810c + 0x40 * a, 0, 4⟩
/-- GDA_HB[a]_STATUS.CAPPED: 1 bits at bit 3, RO (R247). -/
def F.GDA_HB_STATUS_CAPPED (a : Nat) : Field := ⟨0x18110 + 0x40 * a, 3, 1⟩
/-- GDA_HB[a]_STATUS.BST_UV: 1 bits at bit 2, RO (R247). -/
def F.GDA_HB_STATUS_BST_UV (a : Nat) : Field := ⟨0x18110 + 0x40 * a, 2, 1⟩
/-- GDA_HB[a]_STATUS.REFRESH: 1 bits at bit 1, RO (R247). -/
def F.GDA_HB_STATUS_REFRESH (a : Nat) : Field := ⟨0x18110 + 0x40 * a, 1, 1⟩
/-- GDA_HB[a]_STATUS.OUT: 1 bits at bit 0, RO (R247). -/
def F.GDA_HB_STATUS_OUT (a : Nat) : Field := ⟨0x18110 + 0x40 * a, 0, 1⟩
/-- GDA_HB[a]_BST_UV_COUNT: 32 bits at bit 0, RO (R246). -/
def F.GDA_HB_BST_UV_COUNT (a : Nat) : Field := ⟨0x18114 + 0x40 * a, 0, 32⟩
/-- GDA_HB[a]_DUTY_NOW.DUTY: 14 bits at bit 0, RO (R247). -/
def F.GDA_HB_DUTY_NOW_DUTY (a : Nat) : Field := ⟨0x18118 + 0x40 * a, 0, 14⟩
/-- PRT_STATUS.LOCKOUT: 8 bits at bit 16, RO (R268). -/
def F.PRT_STATUS_LOCKOUT : Field := ⟨0x1a004, 16, 8⟩
/-- PRT_STATUS.HELD: 8 bits at bit 8, RO (R268). -/
def F.PRT_STATUS_HELD : Field := ⟨0x1a004, 8, 8⟩
/-- PRT_STATUS.DECLARED: 8 bits at bit 0, RO (R268). -/
def F.PRT_STATUS_DECLARED : Field := ⟨0x1a004, 0, 8⟩
/-- PRT_CMD.KEY: 16 bits at bit 16, WO (R268). -/
def F.PRT_CMD_KEY : Field := ⟨0x1a008, 16, 16⟩
/-- PRT_CMD.GROUPS: 8 bits at bit 8, WO (R268). -/
def F.PRT_CMD_GROUPS : Field := ⟨0x1a008, 8, 8⟩
/-- PRT_CMD.CMD: 2 bits at bit 0, WO (R268). -/
def F.PRT_CMD_CMD : Field := ⟨0x1a008, 0, 2⟩
/-- PRT_HB[h]_CFG.IN_GROUP: 1 bits at bit 31, RO (R268). -/
def F.PRT_HB_CFG_IN_GROUP (h : Nat) : Field := ⟨0x1a100 + 0x10 * h, 31, 1⟩
/-- PRT_HB[h]_CFG.GROUP: 3 bits at bit 24, RO (R268). -/
def F.PRT_HB_CFG_GROUP (h : Nat) : Field := ⟨0x1a100 + 0x10 * h, 24, 3⟩
/-- PRT_HB[h]_HS.ENABLE: 1 bits at bit 31, BS (R268). -/
def F.PRT_HB_HS_ENABLE (h : Nat) : Field := ⟨0x1a104 + 0x10 * h, 31, 1⟩
/-- PRT_HB[h]_HS.MID: 8 bits at bit 16, BS (R268). -/
def F.PRT_HB_HS_MID (h : Nat) : Field := ⟨0x1a104 + 0x10 * h, 16, 8⟩
/-- PRT_HB[h]_HS.THRESH: 8 bits at bit 0, BS (R268). -/
def F.PRT_HB_HS_THRESH (h : Nat) : Field := ⟨0x1a104 + 0x10 * h, 0, 8⟩
/-- PRT_HB[h]_STATUS.HS_NOW: 1 bits at bit 2, RO (R268). -/
def F.PRT_HB_STATUS_HS_NOW (h : Nat) : Field := ⟨0x1a108 + 0x10 * h, 2, 1⟩
/-- PRT_HB[h]_STATUS.HS_LATCH: 1 bits at bit 1, W1C (R268). -/
def F.PRT_HB_STATUS_HS_LATCH (h : Nat) : Field := ⟨0x1a108 + 0x10 * h, 1, 1⟩
/-- PRT_HB[h]_STATUS.FAULTED: 1 bits at bit 0, RO (R268). -/
def F.PRT_HB_STATUS_FAULTED (h : Nat) : Field := ⟨0x1a108 + 0x10 * h, 0, 1⟩
/-- PRT_ADC[a]_CFG.ENABLE: 1 bits at bit 31, BS (R268). -/
def F.PRT_ADC_CFG_ENABLE (a : Nat) : Field := ⟨0x1a300 + 0x10 * a, 31, 1⟩
/-- PRT_ADC[a]_CFG.ACTION: 1 bits at bit 30, BS (R268). -/
def F.PRT_ADC_CFG_ACTION (a : Nat) : Field := ⟨0x1a300 + 0x10 * a, 30, 1⟩
/-- PRT_ADC[a]_CFG.HB: 4 bits at bit 24, BS (R268). -/
def F.PRT_ADC_CFG_HB (a : Nat) : Field := ⟨0x1a300 + 0x10 * a, 24, 4⟩
/-- PRT_ADC[a]_CFG.NOW: 1 bits at bit 1, RO (R268). -/
def F.PRT_ADC_CFG_NOW (a : Nat) : Field := ⟨0x1a300 + 0x10 * a, 1, 1⟩
/-- PRT_ADC[a]_CFG.LATCH: 1 bits at bit 0, W1C (R268). -/
def F.PRT_ADC_CFG_LATCH (a : Nat) : Field := ⟨0x1a300 + 0x10 * a, 0, 1⟩
/-- PRT_ADC[a]_LIM.HI: 16 bits at bit 16, BS (R268). -/
def F.PRT_ADC_LIM_HI (a : Nat) : Field := ⟨0x1a304 + 0x10 * a, 16, 16⟩
/-- PRT_ADC[a]_LIM.LO: 16 bits at bit 0, BS (R268). -/
def F.PRT_ADC_LIM_LO (a : Nat) : Field := ⟨0x1a304 + 0x10 * a, 0, 16⟩
/-- PRT_CH[n]_DESAT.ENABLE: 1 bits at bit 31, BS (R268). -/
def F.PRT_CH_DESAT_ENABLE (n : Nat) : Field := ⟨0x1a400 + 0x10 * n, 31, 1⟩
/-- PRT_CH[n]_DESAT.CHARGE: 2 bits at bit 24, BS (R268). -/
def F.PRT_CH_DESAT_CHARGE (n : Nat) : Field := ⟨0x1a400 + 0x10 * n, 24, 2⟩
/-- PRT_CH[n]_DESAT.THRESH: 5 bits at bit 16, BS (R268). -/
def F.PRT_CH_DESAT_THRESH (n : Nat) : Field := ⟨0x1a400 + 0x10 * n, 16, 5⟩
/-- PRT_CH[n]_DESAT.BLANK: 7 bits at bit 0, BS (R268). -/
def F.PRT_CH_DESAT_BLANK (n : Nat) : Field := ⟨0x1a400 + 0x10 * n, 0, 7⟩
/-- PRT_CH[n]_GATE.ENABLE: 1 bits at bit 31, BS (R268). -/
def F.PRT_CH_GATE_ENABLE (n : Nat) : Field := ⟨0x1a404 + 0x10 * n, 31, 1⟩
/-- PRT_CH[n]_GATE.ON_LEVEL: 9 bits at bit 20, BS (R268). -/
def F.PRT_CH_GATE_ON_LEVEL (n : Nat) : Field := ⟨0x1a404 + 0x10 * n, 20, 9⟩
/-- PRT_CH[n]_GATE.OFF_LEVEL: 9 bits at bit 10, BS (R268). -/
def F.PRT_CH_GATE_OFF_LEVEL (n : Nat) : Field := ⟨0x1a404 + 0x10 * n, 10, 9⟩
/-- PRT_CH[n]_GATE.TIME: 8 bits at bit 0, BS (R268). -/
def F.PRT_CH_GATE_TIME (n : Nat) : Field := ⟨0x1a404 + 0x10 * n, 0, 8⟩
/-- PRT_CH[n]_SOFT.END_LEVEL: 9 bits at bit 20, BS (R268). -/
def F.PRT_CH_SOFT_END_LEVEL (n : Nat) : Field := ⟨0x1a408 + 0x10 * n, 20, 9⟩
/-- PRT_CH[n]_SOFT.TIME: 8 bits at bit 0, BS (R268). -/
def F.PRT_CH_SOFT_TIME (n : Nat) : Field := ⟨0x1a408 + 0x10 * n, 0, 8⟩
/-- PRT_CH[n]_STATUS.DESAT_LATCH: 1 bits at bit 4, W1C (R268). -/
def F.PRT_CH_STATUS_DESAT_LATCH (n : Nat) : Field := ⟨0x1a40c + 0x10 * n, 4, 1⟩
/-- PRT_CH[n]_STATUS.GV_LATCH: 1 bits at bit 3, W1C (R268). -/
def F.PRT_CH_STATUS_GV_LATCH (n : Nat) : Field := ⟨0x1a40c + 0x10 * n, 3, 1⟩
/-- PRT_CH[n]_STATUS.SOFT_TIMEOUT: 1 bits at bit 2, W1C (R268). -/
def F.PRT_CH_STATUS_SOFT_TIMEOUT (n : Nat) : Field := ⟨0x1a40c + 0x10 * n, 2, 1⟩
/-- PRT_CH[n]_STATUS.DESAT_NOW: 1 bits at bit 1, RO (R268). -/
def F.PRT_CH_STATUS_DESAT_NOW (n : Nat) : Field := ⟨0x1a40c + 0x10 * n, 1, 1⟩
/-- PRT_CH[n]_STATUS.GV_NOW: 1 bits at bit 0, RO (R268). -/
def F.PRT_CH_STATUS_GV_NOW (n : Nat) : Field := ⟨0x1a40c + 0x10 * n, 0, 1⟩
/-- PRT_GRP[g]_CFG.RETRY: 1 bits at bit 31, BS (R268). -/
def F.PRT_GRP_CFG_RETRY (g : Nat) : Field := ⟨0x1a600 + 0x20 * g, 31, 1⟩
/-- PRT_GRP[g]_CFG.ALSO_OFF: 8 bits at bit 8, BS (R268). -/
def F.PRT_GRP_CFG_ALSO_OFF (g : Nat) : Field := ⟨0x1a600 + 0x20 * g, 8, 8⟩
/-- PRT_GRP[g]_STATE.STATE: 3 bits at bit 29, RO (R268). -/
def F.PRT_GRP_STATE_STATE (g : Nat) : Field := ⟨0x1a604 + 0x20 * g, 29, 3⟩
/-- PRT_GRP[g]_STATE.MULTI: 1 bits at bit 28, RO (R268). -/
def F.PRT_GRP_STATE_MULTI (g : Nat) : Field := ⟨0x1a604 + 0x20 * g, 28, 1⟩
/-- PRT_GRP[g]_STATE.UNEXPLAINED: 1 bits at bit 27, RO (R268). -/
def F.PRT_GRP_STATE_UNEXPLAINED (g : Nat) : Field := ⟨0x1a604 + 0x20 * g, 27, 1⟩
/-- PRT_GRP[g]_STATE.CAUSE: 4 bits at bit 20, RO (R268). -/
def F.PRT_GRP_STATE_CAUSE (g : Nat) : Field := ⟨0x1a604 + 0x20 * g, 20, 4⟩
/-- PRT_GRP[g]_STATE.TRIES: 2 bits at bit 16, RO (R268). -/
def F.PRT_GRP_STATE_TRIES (g : Nat) : Field := ⟨0x1a604 + 0x20 * g, 16, 2⟩
/-- PRT_GRP[g]_STATE.LEGS: 12 bits at bit 0, RO (R268). -/
def F.PRT_GRP_STATE_LEGS (g : Nat) : Field := ⟨0x1a604 + 0x20 * g, 0, 12⟩
/-- PRT_GRP[g]_TEST.DONE: 1 bits at bit 31, RO (R268). -/
def F.PRT_GRP_TEST_DONE (g : Nat) : Field := ⟨0x1a608 + 0x20 * g, 31, 1⟩
/-- PRT_GRP[g]_TEST.BIAS: 3 bits at bit 15, RO (R268). -/
def F.PRT_GRP_TEST_BIAS (g : Nat) : Field := ⟨0x1a608 + 0x20 * g, 15, 3⟩
/-- PRT_GRP[g]_TEST.SOFT: 3 bits at bit 12, RO (R268). -/
def F.PRT_GRP_TEST_SOFT (g : Nat) : Field := ⟨0x1a608 + 0x20 * g, 12, 3⟩
/-- PRT_GRP[g]_TEST.GATE: 3 bits at bit 9, RO (R268). -/
def F.PRT_GRP_TEST_GATE (g : Nat) : Field := ⟨0x1a608 + 0x20 * g, 9, 3⟩
/-- PRT_GRP[g]_TEST.ADC: 3 bits at bit 6, RO (R268). -/
def F.PRT_GRP_TEST_ADC (g : Nat) : Field := ⟨0x1a608 + 0x20 * g, 6, 3⟩
/-- PRT_GRP[g]_TEST.HS: 3 bits at bit 3, RO (R268). -/
def F.PRT_GRP_TEST_HS (g : Nat) : Field := ⟨0x1a608 + 0x20 * g, 3, 3⟩
/-- PRT_GRP[g]_TEST.DESAT: 3 bits at bit 0, RO (R268). -/
def F.PRT_GRP_TEST_DESAT (g : Nat) : Field := ⟨0x1a608 + 0x20 * g, 0, 3⟩
/-- PRT_GRP[g]_WAIT_LEFT: 32 bits at bit 0, RO (R267). -/
def F.PRT_GRP_WAIT_LEFT (g : Nat) : Field := ⟨0x1a60c + 0x20 * g, 0, 32⟩
/-- PRT_GRP[g]_TRIP_TIME_LO: 32 bits at bit 0, RO (R267). -/
def F.PRT_GRP_TRIP_TIME_LO (g : Nat) : Field := ⟨0x1a610 + 0x20 * g, 0, 32⟩
/-- PRT_GRP[g]_TRIP_TIME_HI: 32 bits at bit 0, RO (R267). -/
def F.PRT_GRP_TRIP_TIME_HI (g : Nat) : Field := ⟨0x1a614 + 0x20 * g, 0, 32⟩
/-- PRT_GRP[g]_TRIPS: 32 bits at bit 0, RO (R267). -/
def F.PRT_GRP_TRIPS (g : Nat) : Field := ⟨0x1a618 + 0x20 * g, 0, 32⟩
/-- PRT_GRP[g]_TEST_FAIL.KIND: 3 bits at bit 8, RO (R268). -/
def F.PRT_GRP_TEST_FAIL_KIND (g : Nat) : Field := ⟨0x1a61c + 0x20 * g, 8, 3⟩
/-- PRT_GRP[g]_TEST_FAIL.ITEM: 5 bits at bit 0, RO (R268). -/
def F.PRT_GRP_TEST_FAIL_ITEM (g : Nat) : Field := ⟨0x1a61c + 0x20 * g, 0, 5⟩
/-- TH_STATUS.REFUSE_CASE: 1 bits at bit 6, RO (R291). -/
def F.TH_STATUS_REFUSE_CASE : Field := ⟨0x1c004, 6, 1⟩
/-- TH_STATUS.REFUSE_PIN: 1 bits at bit 5, RO (R291). -/
def F.TH_STATUS_REFUSE_PIN : Field := ⟨0x1c004, 5, 1⟩
/-- TH_STATUS.ANY_TOO_HOT: 1 bits at bit 4, RO (R291). -/
def F.TH_STATUS_ANY_TOO_HOT : Field := ⟨0x1c004, 4, 1⟩
/-- TH_STATUS.SHUTDOWN: 1 bits at bit 3, RO (R291). -/
def F.TH_STATUS_SHUTDOWN : Field := ⟨0x1c004, 3, 1⟩
/-- TH_STATUS.THROTTLE: 2 bits at bit 1, RO (R291). -/
def F.TH_STATUS_THROTTLE : Field := ⟨0x1c004, 1, 2⟩
/-- TH_STATUS.WARN: 1 bits at bit 0, RO (R291). -/
def F.TH_STATUS_WARN : Field := ⟨0x1c004, 0, 1⟩
/-- TH_DIE.MAIN: 16 bits at bit 16, RO (R291). -/
def F.TH_DIE_MAIN : Field := ⟨0x1c008, 16, 16⟩
/-- TH_DIE.METRO: 16 bits at bit 0, RO (R291). -/
def F.TH_DIE_METRO : Field := ⟨0x1c008, 0, 16⟩
/-- TH_WINDOW.PIN_MIN: 8 bits at bit 24, BS (R291). -/
def F.TH_WINDOW_PIN_MIN : Field := ⟨0x1c00c, 24, 8⟩
/-- TH_WINDOW.PIN_MAX: 8 bits at bit 16, BS (R291). -/
def F.TH_WINDOW_PIN_MAX : Field := ⟨0x1c00c, 16, 8⟩
/-- TH_WINDOW.CASE_MAX: 8 bits at bit 8, BS (R291). -/
def F.TH_WINDOW_CASE_MAX : Field := ⟨0x1c00c, 8, 8⟩
/-- TH_EVENT.PRESS: 1 bits at bit 6, W1C (R291). -/
def F.TH_EVENT_PRESS : Field := ⟨0x1c010, 6, 1⟩
/-- TH_EVENT.FLOW_LOW: 1 bits at bit 5, W1C (R291). -/
def F.TH_EVENT_FLOW_LOW : Field := ⟨0x1c010, 5, 1⟩
/-- TH_EVENT.TOO_HOT: 1 bits at bit 4, W1C (R291). -/
def F.TH_EVENT_TOO_HOT : Field := ⟨0x1c010, 4, 1⟩
/-- TH_EVENT.EXCLUDED: 1 bits at bit 3, W1C (R291). -/
def F.TH_EVENT_EXCLUDED : Field := ⟨0x1c010, 3, 1⟩
/-- TH_EVENT.SHUTDOWN: 1 bits at bit 2, W1C (R291). -/
def F.TH_EVENT_SHUTDOWN : Field := ⟨0x1c010, 2, 1⟩
/-- TH_EVENT.THROTTLE: 1 bits at bit 1, W1C (R291). -/
def F.TH_EVENT_THROTTLE : Field := ⟨0x1c010, 1, 1⟩
/-- TH_EVENT.WARN: 1 bits at bit 0, W1C (R291). -/
def F.TH_EVENT_WARN : Field := ⟨0x1c010, 0, 1⟩
/-- TH_SD_INFO.PEAK: 16 bits at bit 16, RO (R291). -/
def F.TH_SD_INFO_PEAK : Field := ⟨0x1c014, 16, 16⟩
/-- TH_SD_INFO.GROUP: 5 bits at bit 0, RO (R291). -/
def F.TH_SD_INFO_GROUP : Field := ⟨0x1c014, 0, 5⟩
/-- TH_ROUNDS: 32 bits at bit 0, RO (R290). -/
def F.TH_ROUNDS : Field := ⟨0x1c018, 0, 32⟩
/-- TH_SHUTDOWNS: 32 bits at bit 0, RO (R290). -/
def F.TH_SHUTDOWNS : Field := ⟨0x1c01c, 0, 32⟩
/-- TH_SD_TIME_LO: 32 bits at bit 0, RO (R290). -/
def F.TH_SD_TIME_LO : Field := ⟨0x1c020, 0, 32⟩
/-- TH_SD_TIME_HI: 32 bits at bit 0, RO (R290). -/
def F.TH_SD_TIME_HI : Field := ⟨0x1c024, 0, 32⟩
/-- TH_HK_CH[k]_CFG.KIND: 3 bits at bit 29, RO (R291). -/
def F.TH_HK_CH_CFG_KIND (k : Nat) : Field := ⟨0x1c100 + 0x4 * k, 29, 3⟩
/-- TH_HK_CH[k]_CFG.IN_GROUP: 1 bits at bit 28, RO (R291). -/
def F.TH_HK_CH_CFG_IN_GROUP (k : Nat) : Field := ⟨0x1c100 + 0x4 * k, 28, 1⟩
/-- TH_HK_CH[k]_CFG.GROUP: 5 bits at bit 23, RO (R291). -/
def F.TH_HK_CH_CFG_GROUP (k : Nat) : Field := ⟨0x1c100 + 0x4 * k, 23, 5⟩
/-- TH_HK_CH[k]_PARAM.BETA or FULL: 16 bits at bit 16, BS (R291). -/
def F.TH_HK_CH_PARAM_BETA_FULL (k : Nat) : Field := ⟨0x1c200 + 0x4 * k, 16, 16⟩
/-- TH_HK_CH[k]_PARAM.NOM or ZERO: 16 bits at bit 0, BS (R291). -/
def F.TH_HK_CH_PARAM_NOM_ZERO (k : Nat) : Field := ⟨0x1c200 + 0x4 * k, 0, 16⟩
/-- TH_HK_CH[k]_VALUE.RANGE_ERR: 1 bits at bit 31, RO (R291). -/
def F.TH_HK_CH_VALUE_RANGE_ERR (k : Nat) : Field := ⟨0x1c300 + 0x4 * k, 31, 1⟩
/-- TH_HK_CH[k]_VALUE.EXCLUDED: 1 bits at bit 30, RO (R291). -/
def F.TH_HK_CH_VALUE_EXCLUDED (k : Nat) : Field := ⟨0x1c300 + 0x4 * k, 30, 1⟩
/-- TH_HK_CH[k]_VALUE.VALUE: 16 bits at bit 0, RO (R291). -/
def F.TH_HK_CH_VALUE_VALUE (k : Nat) : Field := ⟨0x1c300 + 0x4 * k, 0, 16⟩
/-- TH_GRP[g]_CFG.MEMBERS: 4 bits at bit 24, RO (R291). -/
def F.TH_GRP_CFG_MEMBERS (g : Nat) : Field := ⟨0x1c400 + 0x8 * g, 24, 4⟩
/-- TH_GRP[g]_CFG.DEV: 16 bits at bit 0, BS (R291). -/
def F.TH_GRP_CFG_DEV (g : Nat) : Field := ⟨0x1c400 + 0x8 * g, 0, 16⟩
/-- TH_GRP[g]_STATE.TOO_HOT: 1 bits at bit 31, RO (R291). -/
def F.TH_GRP_STATE_TOO_HOT (g : Nat) : Field := ⟨0x1c404 + 0x8 * g, 31, 1⟩
/-- TH_GRP[g]_STATE.HEALTHY: 4 bits at bit 27, RO (R291). -/
def F.TH_GRP_STATE_HEALTHY (g : Nat) : Field := ⟨0x1c404 + 0x8 * g, 27, 4⟩
/-- TH_GRP[g]_STATE.EXCL: 8 bits at bit 16, RO (R291). -/
def F.TH_GRP_STATE_EXCL (g : Nat) : Field := ⟨0x1c404 + 0x8 * g, 16, 8⟩
/-- TH_GRP[g]_STATE.VALUE: 16 bits at bit 0, RO (R291). -/
def F.TH_GRP_STATE_VALUE (g : Nat) : Field := ⟨0x1c404 + 0x8 * g, 0, 16⟩
/-- TH_LOOP[L]_CFG.ENABLE: 1 bits at bit 31, BS (R291). -/
def F.TH_LOOP_CFG_ENABLE (L : Nat) : Field := ⟨0x1c500 + 0x40 * L, 31, 1⟩
/-- TH_LOOP[L]_CFG.KIND: 1 bits at bit 30, RO (R291). -/
def F.TH_LOOP_CFG_KIND (L : Nat) : Field := ⟨0x1c500 + 0x40 * L, 30, 1⟩
/-- TH_LOOP[L]_CFG.PUMP_HB: 3 bits at bit 24, RO (R291). -/
def F.TH_LOOP_CFG_PUMP_HB (L : Nat) : Field := ⟨0x1c500 + 0x40 * L, 24, 3⟩
/-- TH_LOOP[L]_CFG.FAN_EN: 1 bits at bit 23, RO (R291). -/
def F.TH_LOOP_CFG_FAN_EN (L : Nat) : Field := ⟨0x1c500 + 0x40 * L, 23, 1⟩
/-- TH_LOOP[L]_CFG.FAN_HB: 3 bits at bit 20, RO (R291). -/
def F.TH_LOOP_CFG_FAN_HB (L : Nat) : Field := ⟨0x1c500 + 0x40 * L, 20, 3⟩
/-- TH_LOOP[L]_CFG.FLOW_SRC: 2 bits at bit 18, RO (R291). -/
def F.TH_LOOP_CFG_FLOW_SRC (L : Nat) : Field := ⟨0x1c500 + 0x40 * L, 18, 2⟩
/-- TH_LOOP[L]_CFG.FLOW_IN: 6 bits at bit 8, RO (R291). -/
def F.TH_LOOP_CFG_FLOW_IN (L : Nat) : Field := ⟨0x1c500 + 0x40 * L, 8, 6⟩
/-- TH_LOOP[L]_CFG.PULSES_L: 8 bits at bit 0, RO (R291). -/
def F.TH_LOOP_CFG_PULSES_L (L : Nat) : Field := ⟨0x1c500 + 0x40 * L, 0, 8⟩
/-- TH_LOOP[L]_MAP.IN_GRP: 5 bits at bit 24, RO (R291). -/
def F.TH_LOOP_MAP_IN_GRP (L : Nat) : Field := ⟨0x1c504 + 0x40 * L, 24, 5⟩
/-- TH_LOOP[L]_MAP.OUT_GRP: 5 bits at bit 16, RO (R291). -/
def F.TH_LOOP_MAP_OUT_GRP (L : Nat) : Field := ⟨0x1c504 + 0x40 * L, 16, 5⟩
/-- TH_LOOP[L]_MAP.PRESS_EN: 1 bits at bit 15, RO (R291). -/
def F.TH_LOOP_MAP_PRESS_EN (L : Nat) : Field := ⟨0x1c504 + 0x40 * L, 15, 1⟩
/-- TH_LOOP[L]_MAP.PRESS_CH: 6 bits at bit 8, RO (R291). -/
def F.TH_LOOP_MAP_PRESS_CH (L : Nat) : Field := ⟨0x1c504 + 0x40 * L, 8, 6⟩
/-- TH_LOOP[L]_FLOW.Q_NOM: 16 bits at bit 16, BS (R291). -/
def F.TH_LOOP_FLOW_Q_NOM (L : Nat) : Field := ⟨0x1c508 + 0x40 * L, 16, 16⟩
/-- TH_LOOP[L]_FLOW.Q_MIN: 16 bits at bit 0, BS (R291). -/
def F.TH_LOOP_FLOW_Q_MIN (L : Nat) : Field := ⟨0x1c508 + 0x40 * L, 0, 16⟩
/-- TH_LOOP[L]_PUMP.DUTY_MIN: 16 bits at bit 16, BS (R291). -/
def F.TH_LOOP_PUMP_DUTY_MIN (L : Nat) : Field := ⟨0x1c50c + 0x40 * L, 16, 16⟩
/-- TH_LOOP[L]_PUMP.DUTY_PER_Q: 16 bits at bit 0, BS (R291). -/
def F.TH_LOOP_PUMP_DUTY_PER_Q (L : Nat) : Field := ⟨0x1c50c + 0x40 * L, 0, 16⟩
/-- TH_LOOP[L]_PI.KP: 16 bits at bit 16, BS (R291). -/
def F.TH_LOOP_PI_KP (L : Nat) : Field := ⟨0x1c510 + 0x40 * L, 16, 16⟩
/-- TH_LOOP[L]_PI.KI: 16 bits at bit 0, BS (R291). -/
def F.TH_LOOP_PI_KI (L : Nat) : Field := ⟨0x1c510 + 0x40 * L, 0, 16⟩
/-- TH_LOOP[L]_FAN.T_IN: 16 bits at bit 16, BS (R291). -/
def F.TH_LOOP_FAN_T_IN (L : Nat) : Field := ⟨0x1c514 + 0x40 * L, 16, 16⟩
/-- TH_LOOP[L]_FAN.KP: 16 bits at bit 0, BS (R291). -/
def F.TH_LOOP_FAN_KP (L : Nat) : Field := ⟨0x1c514 + 0x40 * L, 0, 16⟩
/-- TH_LOOP[L]_PRESS.P_MAX: 16 bits at bit 16, BS (R291). -/
def F.TH_LOOP_PRESS_P_MAX (L : Nat) : Field := ⟨0x1c518 + 0x40 * L, 16, 16⟩
/-- TH_LOOP[L]_PRESS.P_MIN: 16 bits at bit 0, BS (R291). -/
def F.TH_LOOP_PRESS_P_MIN (L : Nat) : Field := ⟨0x1c518 + 0x40 * L, 0, 16⟩
/-- TH_LOOP[L]_FF.HOLD: 16 bits at bit 16, BS (R291). -/
def F.TH_LOOP_FF_HOLD (L : Nat) : Field := ⟨0x1c51c + 0x40 * L, 16, 16⟩
/-- TH_LOOP[L]_FF.TARGET: 16 bits at bit 0, BS (R291). -/
def F.TH_LOOP_FF_TARGET (L : Nat) : Field := ⟨0x1c51c + 0x40 * L, 0, 16⟩
/-- TH_LOOP[L]_STATE.Q: 16 bits at bit 16, RO (R291). -/
def F.TH_LOOP_STATE_Q (L : Nat) : Field := ⟨0x1c520 + 0x40 * L, 16, 16⟩
/-- TH_LOOP[L]_STATE.Q_DEM: 16 bits at bit 0, RO (R291). -/
def F.TH_LOOP_STATE_Q_DEM (L : Nat) : Field := ⟨0x1c520 + 0x40 * L, 0, 16⟩
/-- TH_LOOP[L]_STATUS.HOLDING: 1 bits at bit 19, RO (R291). -/
def F.TH_LOOP_STATUS_HOLDING (L : Nat) : Field := ⟨0x1c524 + 0x40 * L, 19, 1⟩
/-- TH_LOOP[L]_STATUS.PRESS_LOW: 1 bits at bit 18, RO (R291). -/
def F.TH_LOOP_STATUS_PRESS_LOW (L : Nat) : Field := ⟨0x1c524 + 0x40 * L, 18, 1⟩
/-- TH_LOOP[L]_STATUS.PRESS_HIGH: 1 bits at bit 17, RO (R291). -/
def F.TH_LOOP_STATUS_PRESS_HIGH (L : Nat) : Field := ⟨0x1c524 + 0x40 * L, 17, 1⟩
/-- TH_LOOP[L]_STATUS.FLOW_LOW: 1 bits at bit 16, RO (R291). -/
def F.TH_LOOP_STATUS_FLOW_LOW (L : Nat) : Field := ⟨0x1c524 + 0x40 * L, 16, 1⟩
/-- TH_LOOP[L]_STATUS.DUTY: 14 bits at bit 0, RO (R291). -/
def F.TH_LOOP_STATUS_DUTY (L : Nat) : Field := ⟨0x1c524 + 0x40 * L, 0, 14⟩
/-- TH_OBS_RES20: 32 bits at bit 0, BS (R290). -/
def F.TH_OBS_RES20 : Field := ⟨0x1c600, 0, 32⟩
/-- TH_OBS_ALPHA: 32 bits at bit 0, BS (R290). -/
def F.TH_OBS_ALPHA : Field := ⟨0x1c604, 0, 32⟩
/-- TH_OBS_RCONV: 32 bits at bit 0, BS (R290). -/
def F.TH_OBS_RCONV : Field := ⟨0x1c608, 0, 32⟩
/-- TH_OBS_RFLOW: 32 bits at bit 0, BS (R290). -/
def F.TH_OBS_RFLOW : Field := ⟨0x1c60c, 0, 32⟩
/-- TH_OBS_CAP: 32 bits at bit 0, BS (R290). -/
def F.TH_OBS_CAP : Field := ⟨0x1c610, 0, 32⟩
/-- TH_OBS_KPIN: 32 bits at bit 0, BS (R290). -/
def F.TH_OBS_KPIN : Field := ⟨0x1c614, 0, 32⟩
/-- TH_OBS_TAU_PIN: 32 bits at bit 0, BS (R290). -/
def F.TH_OBS_TAU_PIN : Field := ⟨0x1c618, 0, 32⟩
/-- TH_STACK_ZTH: 32 bits at bit 0, BS (R290). -/
def F.TH_STACK_ZTH : Field := ⟨0x1c61c, 0, 32⟩
/-- TH_OBS_LIMIT.T_COND_MAX: 16 bits at bit 16, BS (R291). -/
def F.TH_OBS_LIMIT_T_COND_MAX : Field := ⟨0x1c620, 16, 16⟩
/-- TH_OBS_LIMIT.T_PIN_MAX: 16 bits at bit 0, BS (R291). -/
def F.TH_OBS_LIMIT_T_PIN_MAX : Field := ⟨0x1c620, 0, 16⟩
/-- TH_OBS_EST.T_COND: 16 bits at bit 16, RO (R291). -/
def F.TH_OBS_EST_T_COND : Field := ⟨0x1c624, 16, 16⟩
/-- TH_OBS_EST.T_PIN: 16 bits at bit 0, RO (R291). -/
def F.TH_OBS_EST_T_PIN : Field := ⟨0x1c624, 0, 16⟩
/-- TH_OBS_CREDIT.I_SUST: 16 bits at bit 16, RO (R291). -/
def F.TH_OBS_CREDIT_I_SUST : Field := ⟨0x1c628, 16, 16⟩
/-- TH_OBS_CREDIT.I_80: 16 bits at bit 0, RO (R291). -/
def F.TH_OBS_CREDIT_I_80 : Field := ⟨0x1c628, 0, 16⟩
/-- TH_OBS_BIAS.BIAS: 16 bits at bit 0, RO (R291). -/
def F.TH_OBS_BIAS_BIAS : Field := ⟨0x1c62c, 0, 16⟩
/-- TH_OBS_CFG.PIN_GRP: 5 bits at bit 24, RO (R291). -/
def F.TH_OBS_CFG_PIN_GRP : Field := ⟨0x1c630, 24, 5⟩
/-- TH_OBS_CFG.LOOP: 5 bits at bit 16, RO (R291). -/
def F.TH_OBS_CFG_LOOP : Field := ⟨0x1c630, 16, 5⟩
/-- TH_OBS_CFG.VALID: 1 bits at bit 0, RO (R291). -/
def F.TH_OBS_CFG_VALID : Field := ⟨0x1c630, 0, 1⟩
/-- VLK_STATUS.STATE: 4 bits at bit 28, RO (R313). -/
def F.VLK_STATUS_STATE : Field := ⟨0x1e004, 28, 4⟩
/-- VLK_STATUS.PROTOCOL: 2 bits at bit 26, RO (R313). -/
def F.VLK_STATUS_PROTOCOL : Field := ⟨0x1e004, 26, 2⟩
/-- VLK_STATUS.CONTROL: 2 bits at bit 24, RO (R313). -/
def F.VLK_STATUS_CONTROL : Field := ⟨0x1e004, 24, 2⟩
/-- VLK_STATUS.BPT: 1 bits at bit 23, RO (R313). -/
def F.VLK_STATUS_BPT : Field := ⟨0x1e004, 23, 1⟩
/-- VLK_STATUS.SHADOW_OK: 1 bits at bit 22, RO (R313). -/
def F.VLK_STATUS_SHADOW_OK : Field := ⟨0x1e004, 22, 1⟩
/-- VLK_STATUS.TLS: 1 bits at bit 21, RO (R313). -/
def F.VLK_STATUS_TLS : Field := ⟨0x1e004, 21, 1⟩
/-- VLK_STATUS.AUTH: 2 bits at bit 19, RO (R313). -/
def F.VLK_STATUS_AUTH : Field := ⟨0x1e004, 19, 2⟩
/-- VLK_STATUS.LOCKOUT: 1 bits at bit 18, RO (R313). -/
def F.VLK_STATUS_LOCKOUT : Field := ⟨0x1e004, 18, 1⟩
/-- VLK_STATUS.IMD_WARN: 1 bits at bit 17, RO (R313). -/
def F.VLK_STATUS_IMD_WARN : Field := ⟨0x1e004, 17, 1⟩
/-- VLK_STATUS.IMD_FAULT: 1 bits at bit 16, RO (R313). -/
def F.VLK_STATUS_IMD_FAULT : Field := ⟨0x1e004, 16, 1⟩
/-- VLK_STATUS.CS: 4 bits at bit 12, RO (R313). -/
def F.VLK_STATUS_CS : Field := ⟨0x1e004, 12, 4⟩
/-- VLK_REFUSE.EXCLUDED: 1 bits at bit 5, RO (R313). -/
def F.VLK_REFUSE_EXCLUDED : Field := ⟨0x1e008, 5, 1⟩
/-- VLK_REFUSE.SAFETY: 1 bits at bit 4, RO (R313). -/
def F.VLK_REFUSE_SAFETY : Field := ⟨0x1e008, 4, 1⟩
/-- VLK_REFUSE.LOCKOUT: 1 bits at bit 3, RO (R313). -/
def F.VLK_REFUSE_LOCKOUT : Field := ⟨0x1e008, 3, 1⟩
/-- VLK_REFUSE.WINDOW: 1 bits at bit 2, RO (R313). -/
def F.VLK_REFUSE_WINDOW : Field := ⟨0x1e008, 2, 1⟩
/-- VLK_REFUSE.JOURNAL: 1 bits at bit 1, RO (R313). -/
def F.VLK_REFUSE_JOURNAL : Field := ⟨0x1e008, 1, 1⟩
/-- VLK_REFUSE.UNSEALED: 1 bits at bit 0, RO (R313). -/
def F.VLK_REFUSE_UNSEALED : Field := ⟨0x1e008, 0, 1⟩
/-- VLK_CTRL.KEY: 16 bits at bit 16, WO (R313). -/
def F.VLK_CTRL_KEY : Field := ⟨0x1e00c, 16, 16⟩
/-- VLK_CTRL.CMD: 3 bits at bit 0, WO (R313). -/
def F.VLK_CTRL_CMD : Field := ⟨0x1e00c, 0, 3⟩
/-- VLK_CFG.EN_20: 1 bits at bit 31, BS (R313). -/
def F.VLK_CFG_EN_20 : Field := ⟨0x1e010, 31, 1⟩
/-- VLK_CFG.EN_2: 1 bits at bit 30, BS (R313). -/
def F.VLK_CFG_EN_2 : Field := ⟨0x1e010, 30, 1⟩
/-- VLK_CFG.EN_DIN: 1 bits at bit 29, BS (R313). -/
def F.VLK_CFG_EN_DIN : Field := ⟨0x1e010, 29, 1⟩
/-- VLK_CFG.BPT_EN: 1 bits at bit 28, BS (R313). -/
def F.VLK_CFG_BPT_EN : Field := ⟨0x1e010, 28, 1⟩
/-- VLK_CFG.SCHED_EN: 1 bits at bit 27, BS (R313). -/
def F.VLK_CFG_SCHED_EN : Field := ⟨0x1e010, 27, 1⟩
/-- VLK_CFG.DYN_EN: 1 bits at bit 26, BS (R313). -/
def F.VLK_CFG_DYN_EN : Field := ⟨0x1e010, 26, 1⟩
/-- VLK_CFG.AUTO_AUTH: 1 bits at bit 25, BS (R313). -/
def F.VLK_CFG_AUTO_AUTH : Field := ⟨0x1e010, 25, 1⟩
/-- VLK_CFG.PHY: 2 bits at bit 16, RO (R313). -/
def F.VLK_CFG_PHY : Field := ⟨0x1e010, 16, 2⟩
/-- VLK_CFG.MODEM: 1 bits at bit 15, RO (R313). -/
def F.VLK_CFG_MODEM : Field := ⟨0x1e010, 15, 1⟩
/-- VLK_CFG.SCHEME: 1 bits at bit 14, RO (R313). -/
def F.VLK_CFG_SCHEME : Field := ⟨0x1e010, 14, 1⟩
/-- VLK_EV_MAX_A.V_MAX: 16 bits at bit 16, RO (R313). -/
def F.VLK_EV_MAX_A_V_MAX : Field := ⟨0x1e014, 16, 16⟩
/-- VLK_EV_MAX_A.I_MAX: 16 bits at bit 0, RO (R313). -/
def F.VLK_EV_MAX_A_I_MAX : Field := ⟨0x1e014, 0, 16⟩
/-- VLK_EV_MAX_B.P_MAX: 16 bits at bit 16, RO (R313). -/
def F.VLK_EV_MAX_B_P_MAX : Field := ⟨0x1e018, 16, 16⟩
/-- VLK_EV_MAX_B.I_DIS_MAX: 16 bits at bit 0, RO (R313). -/
def F.VLK_EV_MAX_B_I_DIS_MAX : Field := ⟨0x1e018, 0, 16⟩
/-- VLK_EV_TARGET.V_TGT: 16 bits at bit 16, RO (R313). -/
def F.VLK_EV_TARGET_V_TGT : Field := ⟨0x1e01c, 16, 16⟩
/-- VLK_EV_TARGET.I_TGT: 16 bits at bit 0, RO (R313). -/
def F.VLK_EV_TARGET_I_TGT : Field := ⟨0x1e01c, 0, 16⟩
/-- VLK_SESSION_ID_LO: 32 bits at bit 0, RO (R312). -/
def F.VLK_SESSION_ID_LO : Field := ⟨0x1e020, 0, 32⟩
/-- VLK_SESSION_ID_HI: 32 bits at bit 0, RO (R312). -/
def F.VLK_SESSION_ID_HI : Field := ⟨0x1e024, 0, 32⟩
/-- VLK_OFFER.I_OFFER: 16 bits at bit 16, RO (R313). -/
def F.VLK_OFFER_I_OFFER : Field := ⟨0x1e028, 16, 16⟩
/-- VLK_OFFER.P_OFFER: 16 bits at bit 0, RO (R313). -/
def F.VLK_OFFER_P_OFFER : Field := ⟨0x1e028, 0, 16⟩
/-- VLK_DEPART.TIME: 16 bits at bit 16, RO (R313). -/
def F.VLK_DEPART_TIME : Field := ⟨0x1e02c, 16, 16⟩
/-- VLK_DEPART.ENERGY: 16 bits at bit 0, RO (R313). -/
def F.VLK_DEPART_ENERGY : Field := ⟨0x1e02c, 0, 16⟩
/-- VLK_SESSIONS: 32 bits at bit 0, RO (R312). -/
def F.VLK_SESSIONS : Field := ⟨0x1e030, 0, 32⟩
/-- VLK_REFUSED: 32 bits at bit 0, RC (R312). -/
def F.VLK_REFUSED : Field := ⟨0x1e034, 0, 32⟩
/-- VLK_EMAID[i]: 32 bits at bit 0, RO (R312). -/
def F.VLK_EMAID (i : Nat) : Field := ⟨0x1e040 + 0x4 * i, 0, 32⟩
/-- VLK_IMD_R_TOTAL: 32 bits at bit 0, RO (R312). -/
def F.VLK_IMD_R_TOTAL : Field := ⟨0x1e060, 0, 32⟩
/-- VLK_IMD_R_POS: 32 bits at bit 0, RO (R312). -/
def F.VLK_IMD_R_POS : Field := ⟨0x1e064, 0, 32⟩
/-- VLK_IMD_R_NEG: 32 bits at bit 0, RO (R312). -/
def F.VLK_IMD_R_NEG : Field := ⟨0x1e068, 0, 32⟩
/-- VLK_CC.SLEW: 16 bits at bit 16, BS (R313). -/
def F.VLK_CC_SLEW : Field := ⟨0x1e070, 16, 16⟩
/-- VLK_CC.TIME_MAX: 8 bits at bit 8, BS (R313). -/
def F.VLK_CC_TIME_MAX : Field := ⟨0x1e070, 8, 8⟩
/-- VLK_CC.SETTLE: 8 bits at bit 0, BS (R313). -/
def F.VLK_CC_SETTLE : Field := ⟨0x1e070, 0, 8⟩
/-- VLK_PRE.BAND: 16 bits at bit 16, BS (R313). -/
def F.VLK_PRE_BAND : Field := ⟨0x1e074, 16, 16⟩
/-- VLK_PRE.TIME_MAX: 8 bits at bit 8, BS (R313). -/
def F.VLK_PRE_TIME_MAX : Field := ⟨0x1e074, 8, 8⟩
/-- VLK_STOP.ESD_OPEN: 8 bits at bit 24, BS (R313). -/
def F.VLK_STOP_ESD_OPEN : Field := ⟨0x1e078, 24, 8⟩
/-- VLK_STOP.STOP_WAIT: 8 bits at bit 16, BS (R313). -/
def F.VLK_STOP_STOP_WAIT : Field := ⟨0x1e078, 16, 8⟩
/-- VLK_STOP.DSC_TIME: 8 bits at bit 8, BS (R313). -/
def F.VLK_STOP_DSC_TIME : Field := ⟨0x1e078, 8, 8⟩
/-- VLK_STOP.WELD_PCT: 8 bits at bit 0, BS (R313). -/
def F.VLK_STOP_WELD_PCT : Field := ⟨0x1e078, 0, 8⟩
/-- VLK_IMD_CFG.WARN: 10 bits at bit 22, BS (R313). -/
def F.VLK_IMD_CFG_WARN : Field := ⟨0x1e07c, 22, 10⟩
/-- VLK_IMD_CFG.FAULT: 10 bits at bit 12, BS (R313). -/
def F.VLK_IMD_CFG_FAULT : Field := ⟨0x1e07c, 12, 10⟩
/-- VLK_IMD_CFG.PERIOD: 8 bits at bit 0, BS (R313). -/
def F.VLK_IMD_CFG_PERIOD : Field := ⟨0x1e07c, 0, 8⟩
/-- VLK_IMD_STATUS.VALID: 1 bits at bit 31, RO (R313). -/
def F.VLK_IMD_STATUS_VALID : Field := ⟨0x1e080, 31, 1⟩
/-- VLK_IMD_STATUS.DISAGREE: 1 bits at bit 30, RO (R313). -/
def F.VLK_IMD_STATUS_DISAGREE : Field := ⟨0x1e080, 30, 1⟩
/-- VLK_IMD_STATUS.INJECTING: 1 bits at bit 29, RO (R313). -/
def F.VLK_IMD_STATUS_INJECTING : Field := ⟨0x1e080, 29, 1⟩
/-- VLK_IMD_STATUS.AGE: 16 bits at bit 0, RO (R313). -/
def F.VLK_IMD_STATUS_AGE : Field := ⟨0x1e080, 0, 16⟩
/-- VLK_WELD.RESULT: 2 bits at bit 30, RO (R313). -/
def F.VLK_WELD_RESULT : Field := ⟨0x1e084, 30, 2⟩
/-- VLK_WELD.POS_WELD: 1 bits at bit 29, RO (R313). -/
def F.VLK_WELD_POS_WELD : Field := ⟨0x1e084, 29, 1⟩
/-- VLK_WELD.NEG_WELD: 1 bits at bit 28, RO (R313). -/
def F.VLK_WELD_NEG_WELD : Field := ⟨0x1e084, 28, 1⟩
/-- VLK_WELD.AUX_FAIL: 1 bits at bit 27, RO (R313). -/
def F.VLK_WELD_AUX_FAIL : Field := ⟨0x1e084, 27, 1⟩
/-- VLK_WELD.VEHICLE_LIVE: 1 bits at bit 26, RO (R313). -/
def F.VLK_WELD_VEHICLE_LIVE : Field := ⟨0x1e084, 26, 1⟩
/-- VLK_AUTH.WAIT: 16 bits at bit 16, BS (R313). -/
def F.VLK_AUTH_WAIT : Field := ⟨0x1e088, 16, 16⟩
/-- MET_STATUS.RECOVERY: 2 bits at bit 8, RO (R340). -/
def F.MET_STATUS_RECOVERY : Field := ⟨0x20004, 8, 2⟩
/-- MET_STATUS.CLOCK_LOST: 1 bits at bit 7, RO (R340). -/
def F.MET_STATUS_CLOCK_LOST : Field := ⟨0x20004, 7, 1⟩
/-- MET_STATUS.DUAL_DIFF: 1 bits at bit 6, RO (R340). -/
def F.MET_STATUS_DUAL_DIFF : Field := ⟨0x20004, 6, 1⟩
/-- MET_STATUS.XCHK: 1 bits at bit 5, RO (R340). -/
def F.MET_STATUS_XCHK : Field := ⟨0x20004, 5, 1⟩
/-- MET_STATUS.OVERRANGE: 1 bits at bit 4, RO (R340). -/
def F.MET_STATUS_OVERRANGE : Field := ⟨0x20004, 4, 1⟩
/-- MET_STATUS.CHECK_FAIL: 1 bits at bit 3, RO (R340). -/
def F.MET_STATUS_CHECK_FAIL : Field := ⟨0x20004, 3, 1⟩
/-- MET_STATUS.GAP: 1 bits at bit 2, RO (R340). -/
def F.MET_STATUS_GAP : Field := ⟨0x20004, 2, 1⟩
/-- MET_STATUS.METERING: 1 bits at bit 1, RO (R340). -/
def F.MET_STATUS_METERING : Field := ⟨0x20004, 1, 1⟩
/-- MET_STATUS.SESSION_OPEN: 1 bits at bit 0, RO (R340). -/
def F.MET_STATUS_SESSION_OPEN : Field := ⟨0x20004, 0, 1⟩
/-- MET_EVENT.UNSAVED: 1 bits at bit 5, W1C (R340). -/
def F.MET_EVENT_UNSAVED : Field := ⟨0x20008, 5, 1⟩
/-- MET_EVENT.DUAL_DIFF: 1 bits at bit 4, W1C (R340). -/
def F.MET_EVENT_DUAL_DIFF : Field := ⟨0x20008, 4, 1⟩
/-- MET_EVENT.XCHK: 1 bits at bit 3, W1C (R340). -/
def F.MET_EVENT_XCHK : Field := ⟨0x20008, 3, 1⟩
/-- MET_EVENT.CHECK_FAIL: 1 bits at bit 2, W1C (R340). -/
def F.MET_EVENT_CHECK_FAIL : Field := ⟨0x20008, 2, 1⟩
/-- MET_EVENT.OVERRANGE: 1 bits at bit 1, W1C (R340). -/
def F.MET_EVENT_OVERRANGE : Field := ⟨0x20008, 1, 1⟩
/-- MET_EVENT.PO_OVERFLOW: 1 bits at bit 0, W1C (R340). -/
def F.MET_EVENT_PO_OVERFLOW : Field := ⟨0x20008, 0, 1⟩
/-- MET_XCHK_CFG.ENABLE: 1 bits at bit 31, BS (R340). -/
def F.MET_XCHK_CFG_ENABLE : Field := ⟨0x2000c, 31, 1⟩
/-- MET_XCHK_CFG.PCT: 8 bits at bit 8, BS (R340). -/
def F.MET_XCHK_CFG_PCT : Field := ⟨0x2000c, 8, 8⟩
/-- MET_XCHK_CFG.PER_STACK_A: 8 bits at bit 0, BS (R340). -/
def F.MET_XCHK_CFG_PER_STACK_A : Field := ⟨0x2000c, 0, 8⟩
/-- MET_E_IMP_ALL_LO: 32 bits at bit 0, RO (R339). -/
def F.MET_E_IMP_ALL_LO : Field := ⟨0x20010, 0, 32⟩
/-- MET_E_IMP_ALL_HI: 32 bits at bit 0, RO (R339). -/
def F.MET_E_IMP_ALL_HI : Field := ⟨0x20014, 0, 32⟩
/-- MET_E_EXP_ALL_LO: 32 bits at bit 0, RO (R339). -/
def F.MET_E_EXP_ALL_LO : Field := ⟨0x20018, 0, 32⟩
/-- MET_E_EXP_ALL_HI: 32 bits at bit 0, RO (R339). -/
def F.MET_E_EXP_ALL_HI : Field := ⟨0x2001c, 0, 32⟩
/-- MET_E_IMP_SESS_LO: 32 bits at bit 0, RO (R339). -/
def F.MET_E_IMP_SESS_LO : Field := ⟨0x20020, 0, 32⟩
/-- MET_E_IMP_SESS_HI: 32 bits at bit 0, RO (R339). -/
def F.MET_E_IMP_SESS_HI : Field := ⟨0x20024, 0, 32⟩
/-- MET_E_EXP_SESS_LO: 32 bits at bit 0, RO (R339). -/
def F.MET_E_EXP_SESS_LO : Field := ⟨0x20028, 0, 32⟩
/-- MET_E_EXP_SESS_HI: 32 bits at bit 0, RO (R339). -/
def F.MET_E_EXP_SESS_HI : Field := ⟨0x2002c, 0, 32⟩
/-- MET_PARTNER_IMP_LO: 32 bits at bit 0, RO (R339). -/
def F.MET_PARTNER_IMP_LO : Field := ⟨0x20030, 0, 32⟩
/-- MET_PARTNER_IMP_HI: 32 bits at bit 0, RO (R339). -/
def F.MET_PARTNER_IMP_HI : Field := ⟨0x20034, 0, 32⟩
/-- MET_PARTNER_EXP_LO: 32 bits at bit 0, RO (R339). -/
def F.MET_PARTNER_EXP_LO : Field := ⟨0x20038, 0, 32⟩
/-- MET_PARTNER_EXP_HI: 32 bits at bit 0, RO (R339). -/
def F.MET_PARTNER_EXP_HI : Field := ⟨0x2003c, 0, 32⟩
/-- MET_REVERSALS: 32 bits at bit 0, RO (R339). -/
def F.MET_REVERSALS : Field := ⟨0x20040, 0, 32⟩
/-- MET_UNSAVED_BOUND: 32 bits at bit 0, RO (R339). -/
def F.MET_UNSAVED_BOUND : Field := ⟨0x20044, 0, 32⟩
/-- MET_GAP_TICKS: 32 bits at bit 0, RO (R339). -/
def F.MET_GAP_TICKS : Field := ⟨0x20048, 0, 32⟩
/-- MET_SAVE_SEQ: 32 bits at bit 0, RO (R339). -/
def F.MET_SAVE_SEQ : Field := ⟨0x2004c, 0, 32⟩
/-- MET_PI[i]_CFG.FUNCTION: 2 bits at bit 30, BS (R340). -/
def F.MET_PI_CFG_FUNCTION (i : Nat) : Field := ⟨0x20100 + 0x20 * i, 30, 2⟩
/-- MET_PI[i]_CFG.EDGE: 1 bits at bit 29, BS (R340). -/
def F.MET_PI_CFG_EDGE (i : Nat) : Field := ⟨0x20100 + 0x20 * i, 29, 1⟩
/-- MET_PI[i]_CFG.WET: 1 bits at bit 28, BS (R340). -/
def F.MET_PI_CFG_WET (i : Nat) : Field := ⟨0x20100 + 0x20 * i, 28, 1⟩
/-- MET_PI[i]_CFG.DEBOUNCE: 16 bits at bit 0, BS (R340). -/
def F.MET_PI_CFG_DEBOUNCE (i : Nat) : Field := ⟨0x20100 + 0x20 * i, 0, 16⟩
/-- MET_PI[i]_COUNT_LO: 32 bits at bit 0, RO (R339). -/
def F.MET_PI_COUNT_LO (i : Nat) : Field := ⟨0x20104 + 0x20 * i, 0, 32⟩
/-- MET_PI[i]_COUNT_HI: 32 bits at bit 0, RO (R339). -/
def F.MET_PI_COUNT_HI (i : Nat) : Field := ⟨0x20108 + 0x20 * i, 0, 32⟩
/-- MET_PI[i]_WEIGHT: 32 bits at bit 0, BS (R339). -/
def F.MET_PI_WEIGHT (i : Nat) : Field := ⟨0x2010c + 0x20 * i, 0, 32⟩
/-- MET_PI[i]_EDGE_TIME_LO: 32 bits at bit 0, RO (R339). -/
def F.MET_PI_EDGE_TIME_LO (i : Nat) : Field := ⟨0x20110 + 0x20 * i, 0, 32⟩
/-- MET_PI[i]_EDGE_TIME_HI: 32 bits at bit 0, RO (R339). -/
def F.MET_PI_EDGE_TIME_HI (i : Nat) : Field := ⟨0x20114 + 0x20 * i, 0, 32⟩
/-- MET_PI[i]_GLITCH: 32 bits at bit 0, RC (R339). -/
def F.MET_PI_GLITCH (i : Nat) : Field := ⟨0x20118 + 0x20 * i, 0, 32⟩
/-- MET_PI[i]_STATUS.LEVEL: 1 bits at bit 0, RO (R340). -/
def F.MET_PI_STATUS_LEVEL (i : Nat) : Field := ⟨0x2011c + 0x20 * i, 0, 1⟩
/-- MET_PO[k]_CFG.QUANTITY: 4 bits at bit 28, BS (R340). -/
def F.MET_PO_CFG_QUANTITY (k : Nat) : Field := ⟨0x20300 + 0x20 * k, 28, 4⟩
/-- MET_PO[k]_CFG.ALWAYS: 1 bits at bit 27, BS (R340). -/
def F.MET_PO_CFG_ALWAYS (k : Nat) : Field := ⟨0x20300 + 0x20 * k, 27, 1⟩
/-- MET_PO[k]_CFG.INVERT: 1 bits at bit 26, BS (R340). -/
def F.MET_PO_CFG_INVERT (k : Nat) : Field := ⟨0x20300 + 0x20 * k, 26, 1⟩
/-- MET_PO[k]_CFG.SRC: 3 bits at bit 23, BS (R340). -/
def F.MET_PO_CFG_SRC (k : Nat) : Field := ⟨0x20300 + 0x20 * k, 23, 3⟩
/-- MET_PO[k]_CFG.WIDTH: 10 bits at bit 0, BS (R340). -/
def F.MET_PO_CFG_WIDTH (k : Nat) : Field := ⟨0x20300 + 0x20 * k, 0, 10⟩
/-- MET_PO[k]_STATUS.OVERFLOW: 1 bits at bit 1, W1C (R340). -/
def F.MET_PO_STATUS_OVERFLOW (k : Nat) : Field := ⟨0x20304 + 0x20 * k, 1, 1⟩
/-- MET_PO[k]_STATUS.OUT: 1 bits at bit 0, RO (R340). -/
def F.MET_PO_STATUS_OUT (k : Nat) : Field := ⟨0x20304 + 0x20 * k, 0, 1⟩
/-- MET_PO[k]_WEIGHT: 32 bits at bit 0, BS (R339). -/
def F.MET_PO_WEIGHT (k : Nat) : Field := ⟨0x20308 + 0x20 * k, 0, 32⟩
/-- MET_PO[k]_PENDING: 32 bits at bit 0, RO (R339). -/
def F.MET_PO_PENDING (k : Nat) : Field := ⟨0x2030c + 0x20 * k, 0, 32⟩
/-- BIL_STATUS.SITE: 1 bits at bit 23, RO (R371). -/
def F.BIL_STATUS_SITE : Field := ⟨0x22004, 23, 1⟩
/-- BIL_STATUS.STEP_PENDING: 1 bits at bit 22, RO (R371). -/
def F.BIL_STATUS_STEP_PENDING : Field := ⟨0x22004, 22, 1⟩
/-- BIL_STATUS.TAMPER_OPEN: 1 bits at bit 21, RO (R371). -/
def F.BIL_STATUS_TAMPER_OPEN : Field := ⟨0x22004, 21, 1⟩
/-- BIL_STATUS.JRNL_LOW: 1 bits at bit 20, RO (R371). -/
def F.BIL_STATUS_JRNL_LOW : Field := ⟨0x22004, 20, 1⟩
/-- BIL_STATUS.SUPPRESS: 1 bits at bit 19, RO (R371). -/
def F.BIL_STATUS_SUPPRESS : Field := ⟨0x22004, 19, 1⟩
/-- BIL_STATUS.BEHIND_HWM: 1 bits at bit 18, RO (R371). -/
def F.BIL_STATUS_BEHIND_HWM : Field := ⟨0x22004, 18, 1⟩
/-- BIL_STATUS.CLOCK: 2 bits at bit 16, RO (R371). -/
def F.BIL_STATUS_CLOCK : Field := ⟨0x22004, 16, 2⟩
/-- BIL_STATUS.TARIFF: 5 bits at bit 8, RO (R371). -/
def F.BIL_STATUS_TARIFF : Field := ⟨0x22004, 8, 5⟩
/-- BIL_STATUS.DEFAULT: 1 bits at bit 0, RO (R371). -/
def F.BIL_STATUS_DEFAULT : Field := ⟨0x22004, 0, 1⟩
/-- BIL_EVENT.OUTAGE_BOUNDARY: 1 bits at bit 7, W1C (R371). -/
def F.BIL_EVENT_OUTAGE_BOUNDARY : Field := ⟨0x22008, 7, 1⟩
/-- BIL_EVENT.SUPPRESSED: 1 bits at bit 6, W1C (R371). -/
def F.BIL_EVENT_SUPPRESSED : Field := ⟨0x22008, 6, 1⟩
/-- BIL_EVENT.JRNL_LOW: 1 bits at bit 5, W1C (R371). -/
def F.BIL_EVENT_JRNL_LOW : Field := ⟨0x22008, 5, 1⟩
/-- BIL_EVENT.TAMPER: 1 bits at bit 4, W1C (R371). -/
def F.BIL_EVENT_TAMPER : Field := ⟨0x22008, 4, 1⟩
/-- BIL_EVENT.MISMATCH: 1 bits at bit 3, W1C (R371). -/
def F.BIL_EVENT_MISMATCH : Field := ⟨0x22008, 3, 1⟩
/-- BIL_EVENT.TIME_STEP: 1 bits at bit 2, W1C (R371). -/
def F.BIL_EVENT_TIME_STEP : Field := ⟨0x22008, 2, 1⟩
/-- BIL_EVENT.TARIFF_SWITCH: 1 bits at bit 1, W1C (R371). -/
def F.BIL_EVENT_TARIFF_SWITCH : Field := ⟨0x22008, 1, 1⟩
/-- BIL_EVENT.INTERVAL_CLOSE: 1 bits at bit 0, W1C (R371). -/
def F.BIL_EVENT_INTERVAL_CLOSE : Field := ⟨0x22008, 0, 1⟩
/-- BIL_CMD.KEY: 16 bits at bit 16, WO (R371). -/
def F.BIL_CMD_KEY : Field := ⟨0x2200c, 16, 16⟩
/-- BIL_CMD.CMD: 2 bits at bit 0, WO (R371). -/
def F.BIL_CMD_CMD : Field := ⟨0x2200c, 0, 2⟩
/-- BIL_LEDGER_LO: 32 bits at bit 0, RO (R370). -/
def F.BIL_LEDGER_LO : Field := ⟨0x22010, 0, 32⟩
/-- BIL_LEDGER_HI: 32 bits at bit 0, RO (R370). -/
def F.BIL_LEDGER_HI : Field := ⟨0x22014, 0, 32⟩
/-- BIL_CAL_LO: 32 bits at bit 0, RO (R370). -/
def F.BIL_CAL_LO : Field := ⟨0x22018, 0, 32⟩
/-- BIL_CAL_HI: 32 bits at bit 0, RO (R370). -/
def F.BIL_CAL_HI : Field := ⟨0x2201c, 0, 32⟩
/-- BIL_HWM_LO: 32 bits at bit 0, RO (R370). -/
def F.BIL_HWM_LO : Field := ⟨0x22020, 0, 32⟩
/-- BIL_HWM_HI: 32 bits at bit 0, RO (R370). -/
def F.BIL_HWM_HI : Field := ⟨0x22024, 0, 32⟩
/-- BIL_INT.SYNC: 1 bits at bit 7, RO (R371). -/
def F.BIL_INT_SYNC : Field := ⟨0x22028, 7, 1⟩
/-- BIL_INT.MINUTES: 6 bits at bit 0, RO (R371). -/
def F.BIL_INT_MINUTES : Field := ⟨0x22028, 0, 6⟩
/-- BIL_TIME.STEP_COUNT: 8 bits at bit 16, RO (R371). -/
def F.BIL_TIME_STEP_COUNT : Field := ⟨0x2202c, 16, 8⟩
/-- BIL_TIME.PENDING_S: 16 bits at bit 0, RO (R371). -/
def F.BIL_TIME_PENDING_S : Field := ⟨0x2202c, 0, 16⟩
/-- BIL_INT_IMP_LO: 32 bits at bit 0, RO (R370). -/
def F.BIL_INT_IMP_LO : Field := ⟨0x22030, 0, 32⟩
/-- BIL_INT_IMP_HI: 32 bits at bit 0, RO (R370). -/
def F.BIL_INT_IMP_HI : Field := ⟨0x22034, 0, 32⟩
/-- BIL_INT_EXP_LO: 32 bits at bit 0, RO (R370). -/
def F.BIL_INT_EXP_LO : Field := ⟨0x22038, 0, 32⟩
/-- BIL_INT_EXP_HI: 32 bits at bit 0, RO (R370). -/
def F.BIL_INT_EXP_HI : Field := ⟨0x2203c, 0, 32⟩
/-- BIL_INT_LEFT: 32 bits at bit 0, RO (R370). -/
def F.BIL_INT_LEFT : Field := ⟨0x22040, 0, 32⟩
/-- BIL_LAST_DEM_IMP: 32 bits at bit 0, RO (R370). -/
def F.BIL_LAST_DEM_IMP : Field := ⟨0x22044, 0, 32⟩
/-- BIL_LAST_DEM_EXP: 32 bits at bit 0, RO (R370). -/
def F.BIL_LAST_DEM_EXP : Field := ⟨0x22048, 0, 32⟩
/-- BIL_MAX_DEM_IMP: 32 bits at bit 0, RO (R370). -/
def F.BIL_MAX_DEM_IMP : Field := ⟨0x2204c, 0, 32⟩
/-- BIL_MAX_DEM_EXP: 32 bits at bit 0, RO (R370). -/
def F.BIL_MAX_DEM_EXP : Field := ⟨0x22050, 0, 32⟩
/-- BIL_INT_NO: 32 bits at bit 0, RO (R370). -/
def F.BIL_INT_NO : Field := ⟨0x22054, 0, 32⟩
/-- BIL_JRNL_CFG.KEEP: 16 bits at bit 16, BS (R371). -/
def F.BIL_JRNL_CFG_KEEP : Field := ⟨0x22058, 16, 16⟩
/-- BIL_JRNL_CFG.RESERVE: 13 bits at bit 0, BS (R371). -/
def F.BIL_JRNL_CFG_RESERVE : Field := ⟨0x22058, 0, 13⟩
/-- BIL_JRNL_SEQ_LO: 32 bits at bit 0, RO (R370). -/
def F.BIL_JRNL_SEQ_LO : Field := ⟨0x22060, 0, 32⟩
/-- BIL_JRNL_SEQ_HI: 32 bits at bit 0, RO (R370). -/
def F.BIL_JRNL_SEQ_HI : Field := ⟨0x22064, 0, 32⟩
/-- BIL_JRNL_FREE: 32 bits at bit 0, RO (R370). -/
def F.BIL_JRNL_FREE : Field := ⟨0x22068, 0, 32⟩
/-- BIL_JRNL_VIEW: 32 bits at bit 0, RW (R370). -/
def F.BIL_JRNL_VIEW : Field := ⟨0x2206c, 0, 32⟩
/-- BIL_MBX_REFUSED: 32 bits at bit 0, RC (R370). -/
def F.BIL_MBX_REFUSED : Field := ⟨0x22070, 0, 32⟩
/-- BIL_TAMPER.LOST: 8 bits at bit 24, RO (R371). -/
def F.BIL_TAMPER_LOST : Field := ⟨0x22074, 24, 8⟩
/-- BIL_TAMPER.DECL: 4 bits at bit 8, RO (R371). -/
def F.BIL_TAMPER_DECL : Field := ⟨0x22074, 8, 4⟩
/-- BIL_TAMPER.UNACKED: 1 bits at bit 7, RO (R371). -/
def F.BIL_TAMPER_UNACKED : Field := ⟨0x22074, 7, 1⟩
/-- BIL_TAMPER.MAGNET: 1 bits at bit 3, RO (R371). -/
def F.BIL_TAMPER_MAGNET : Field := ⟨0x22074, 3, 1⟩
/-- BIL_TAMPER.HALL_OPEN: 1 bits at bit 2, RO (R371). -/
def F.BIL_TAMPER_HALL_OPEN : Field := ⟨0x22074, 2, 1⟩
/-- BIL_TAMPER.TCOVER_OPEN: 1 bits at bit 1, RO (R371). -/
def F.BIL_TAMPER_TCOVER_OPEN : Field := ⟨0x22074, 1, 1⟩
/-- BIL_TAMPER.COVER_OPEN: 1 bits at bit 0, RO (R371). -/
def F.BIL_TAMPER_COVER_OPEN : Field := ⟨0x22074, 0, 1⟩
/-- BIL_T[t]_IMP_LO: 32 bits at bit 0, RO (R370). -/
def F.BIL_T_IMP_LO (t : Nat) : Field := ⟨0x22100 + 0x10 * (t - 1), 0, 32⟩
/-- BIL_T[t]_IMP_HI: 32 bits at bit 0, RO (R370). -/
def F.BIL_T_IMP_HI (t : Nat) : Field := ⟨0x22104 + 0x10 * (t - 1), 0, 32⟩
/-- BIL_T[t]_EXP_LO: 32 bits at bit 0, RO (R370). -/
def F.BIL_T_EXP_LO (t : Nat) : Field := ⟨0x22108 + 0x10 * (t - 1), 0, 32⟩
/-- BIL_T[t]_EXP_HI: 32 bits at bit 0, RO (R370). -/
def F.BIL_T_EXP_HI (t : Nat) : Field := ⟨0x2210c + 0x10 * (t - 1), 0, 32⟩
/-- KEY_STATUS.COMPAT: 1 bits at bit 10, RO (R400). -/
def F.KEY_STATUS_COMPAT : Field := ⟨0x24004, 10, 1⟩
/-- KEY_STATUS.JOIN_FAIL: 1 bits at bit 9, W1C (R400). -/
def F.KEY_STATUS_JOIN_FAIL : Field := ⟨0x24004, 9, 1⟩
/-- KEY_STATUS.SEED: 1 bits at bit 8, RO (R400). -/
def F.KEY_STATUS_SEED : Field := ⟨0x24004, 8, 1⟩
/-- KEY_STATUS.MODE: 1 bits at bit 7, RO (R400). -/
def F.KEY_STATUS_MODE : Field := ⟨0x24004, 7, 1⟩
/-- KEY_STATUS.ENROLLED: 1 bits at bit 6, RO (R400). -/
def F.KEY_STATUS_ENROLLED : Field := ⟨0x24004, 6, 1⟩
/-- KEY_STATUS.DESTROY_PENDING: 1 bits at bit 5, RO (R400). -/
def F.KEY_STATUS_DESTROY_PENDING : Field := ⟨0x24004, 5, 1⟩
/-- KEY_STATUS.LC: 3 bits at bit 0, RO (R400). -/
def F.KEY_STATUS_LC : Field := ⟨0x24004, 0, 3⟩
/-- KEY_CMD.KEY: 16 bits at bit 16, WO (R400). -/
def F.KEY_CMD_KEY : Field := ⟨0x24008, 16, 16⟩
/-- KEY_CMD.CMD: 2 bits at bit 0, WO (R400). -/
def F.KEY_CMD_CMD : Field := ⟨0x24008, 0, 2⟩
/-- KEY_JOB_STATUS.DONE: 1 bits at bit 31, RO (R400). -/
def F.KEY_JOB_STATUS_DONE : Field := ⟨0x2400c, 31, 1⟩
/-- KEY_JOB_STATUS.RESULT: 4 bits at bit 0, RO (R400). -/
def F.KEY_JOB_STATUS_RESULT : Field := ⟨0x2400c, 0, 4⟩
/-- KEY_DEVICE_ID_LO: 32 bits at bit 0, RO (R399). -/
def F.KEY_DEVICE_ID_LO : Field := ⟨0x24010, 0, 32⟩
/-- KEY_DEVICE_ID_HI: 32 bits at bit 0, RO (R399). -/
def F.KEY_DEVICE_ID_HI : Field := ⟨0x24014, 0, 32⟩
/-- KEY_COUNTER_LO: 32 bits at bit 0, RO (R399). -/
def F.KEY_COUNTER_LO : Field := ⟨0x24018, 0, 32⟩
/-- KEY_COUNTER_HI: 32 bits at bit 0, RO (R399). -/
def F.KEY_COUNTER_HI : Field := ⟨0x2401c, 0, 32⟩
/-- KEY_JOBS: 32 bits at bit 0, RC (R399). -/
def F.KEY_JOBS : Field := ⟨0x24020, 0, 32⟩
/-- KEY_BLOBS.USED: 7 bits at bit 0, RO (R400). -/
def F.KEY_BLOBS_USED : Field := ⟨0x24024, 0, 7⟩
/-- KEY_PUB_SEL.SEL: 2 bits at bit 0, RW (R400). -/
def F.KEY_PUB_SEL_SEL : Field := ⟨0x24028, 0, 2⟩
/-- KEY_GEN.BLOB: 14 bits at bit 18, RO (R400). -/
def F.KEY_GEN_BLOB : Field := ⟨0x2402c, 18, 14⟩
/-- KEY_GEN.SITE: 14 bits at bit 4, RO (R400). -/
def F.KEY_GEN_SITE : Field := ⟨0x2402c, 4, 14⟩
/-- KEY_CERT_ADDR: 32 bits at bit 0, RW (R399). -/
def F.KEY_CERT_ADDR : Field := ⟨0x24030, 0, 32⟩
/-- KEY_CERT_DATA: 32 bits at bit 0, RW (R399). -/
def F.KEY_CERT_DATA : Field := ⟨0x24034, 0, 32⟩
/-- KEY_GEN_PAIR.PAIR: 14 bits at bit 0, RO (R400). -/
def F.KEY_GEN_PAIR_PAIR : Field := ⟨0x24038, 0, 14⟩
/-- KEY_JOB_BUF[i]: 32 bits at bit 0, RW (R399). -/
def F.KEY_JOB_BUF (i : Nat) : Field := ⟨0x24100 + 0x4 * i, 0, 32⟩
/-- KEY_ATT_CHAL[i]: 32 bits at bit 0, RW (R399). -/
def F.KEY_ATT_CHAL (i : Nat) : Field := ⟨0x24180 + 0x4 * i, 0, 32⟩
/-- KEY_ATT_RESP[i]: 32 bits at bit 0, RO (R399). -/
def F.KEY_ATT_RESP (i : Nat) : Field := ⟨0x241a0 + 0x4 * i, 0, 32⟩
/-- KEY_ENROL_DATA[i]: 32 bits at bit 0, RO (R399). -/
def F.KEY_ENROL_DATA (i : Nat) : Field := ⟨0x241e0 + 0x4 * i, 0, 32⟩
/-- KEY_PUB_DATA[i]: 32 bits at bit 0, RO (R399). -/
def F.KEY_PUB_DATA (i : Nat) : Field := ⟨0x24240 + 0x4 * i, 0, 32⟩
/-- KEY_SLOT[s].VALID: 1 bits at bit 31, RO (R400). -/
def F.KEY_SLOT_VALID (s : Nat) : Field := ⟨0x24300 + 0x4 * s, 31, 1⟩
/-- KEY_SLOT[s].HALF: 1 bits at bit 30, RO (R400). -/
def F.KEY_SLOT_HALF (s : Nat) : Field := ⟨0x24300 + 0x4 * s, 30, 1⟩
/-- KEY_SLOT[s].LOADABLE: 1 bits at bit 29, RO (R400). -/
def F.KEY_SLOT_LOADABLE (s : Nat) : Field := ⟨0x24300 + 0x4 * s, 29, 1⟩
/-- KEY_SLOT[s].USE: 8 bits at bit 16, RO (R400). -/
def F.KEY_SLOT_USE (s : Nat) : Field := ⟨0x24300 + 0x4 * s, 16, 8⟩
/-- KEY_SLOT[s].KEY_ID: 16 bits at bit 0, RO (R400). -/
def F.KEY_SLOT_KEY_ID (s : Nat) : Field := ⟨0x24300 + 0x4 * s, 0, 16⟩
/-- KEY_CLIENT[j].VALID: 1 bits at bit 31, RO (R400). -/
def F.KEY_CLIENT_VALID (j : Nat) : Field := ⟨0x24400 + 0x4 * j, 31, 1⟩
/-- KEY_CLIENT[j].OPERATE: 1 bits at bit 30, RO (R400). -/
def F.KEY_CLIENT_OPERATE (j : Nat) : Field := ⟨0x24400 + 0x4 * j, 30, 1⟩
/-- KEY_CLIENT[j].OBSERVE: 1 bits at bit 29, RO (R400). -/
def F.KEY_CLIENT_OBSERVE (j : Nat) : Field := ⟨0x24400 + 0x4 * j, 29, 1⟩
/-- KEY_CLIENT[j].DIGEST: 16 bits at bit 0, RO (R400). -/
def F.KEY_CLIENT_DIGEST (j : Nat) : Field := ⟨0x24400 + 0x4 * j, 0, 16⟩
/-- KEY_TRUST[j].VALID: 1 bits at bit 31, RO (R400). -/
def F.KEY_TRUST_VALID (j : Nat) : Field := ⟨0x24440 + 0x4 * j, 31, 1⟩
/-- KEY_TRUST[j].USE: 8 bits at bit 16, RO (R400). -/
def F.KEY_TRUST_USE (j : Nat) : Field := ⟨0x24440 + 0x4 * j, 16, 8⟩
/-- KEY_TRUST[j].DIGEST: 16 bits at bit 0, RO (R400). -/
def F.KEY_TRUST_DIGEST (j : Nat) : Field := ⟨0x24440 + 0x4 * j, 0, 16⟩
/-- PAIR_STATUS.STATE: 4 bits at bit 28, RO (R430). -/
def F.PAIR_STATUS_STATE : Field := ⟨0x26004, 28, 4⟩
/-- PAIR_STATUS.LINK: 1 bits at bit 27, RO (R430). -/
def F.PAIR_STATUS_LINK : Field := ⟨0x26004, 27, 1⟩
/-- PAIR_STATUS.PL_IN: 1 bits at bit 26, RO (R430). -/
def F.PAIR_STATUS_PL_IN : Field := ⟨0x26004, 26, 1⟩
/-- PAIR_STATUS.PL_OUT: 1 bits at bit 25, RO (R430). -/
def F.PAIR_STATUS_PL_OUT : Field := ⟨0x26004, 25, 1⟩
/-- PAIR_STATUS.EN: 1 bits at bit 24, RO (R430). -/
def F.PAIR_STATUS_EN : Field := ⟨0x26004, 24, 1⟩
/-- PAIR_STATUS.GRANT: 1 bits at bit 23, RO (R430). -/
def F.PAIR_STATUS_GRANT : Field := ⟨0x26004, 23, 1⟩
/-- PAIR_STATUS.UNWITNESSED: 1 bits at bit 22, RO (R430). -/
def F.PAIR_STATUS_UNWITNESSED : Field := ⟨0x26004, 22, 1⟩
/-- PAIR_STATUS.NO_VOTE: 1 bits at bit 21, W1C (R430). -/
def F.PAIR_STATUS_NO_VOTE : Field := ⟨0x26004, 21, 1⟩
/-- PAIR_STATUS.PARTNER_CLAIM: 8 bits at bit 8, RO (R430). -/
def F.PAIR_STATUS_PARTNER_CLAIM : Field := ⟨0x26004, 8, 8⟩
/-- PAIR_STATUS.OWN_CLAIM: 8 bits at bit 0, RO (R430). -/
def F.PAIR_STATUS_OWN_CLAIM : Field := ⟨0x26004, 0, 8⟩
/-- PAIR_IDENT.INSTANCE: 6 bits at bit 24, RO (R430). -/
def F.PAIR_IDENT_INSTANCE : Field := ⟨0x26008, 24, 6⟩
/-- PAIR_IDENT.PARTNER: 7 bits at bit 16, RO (R430). -/
def F.PAIR_IDENT_PARTNER : Field := ⟨0x26008, 16, 7⟩
/-- PAIR_IDENT.WITNESS: 7 bits at bit 8, RO (R430). -/
def F.PAIR_IDENT_WITNESS : Field := ⟨0x26008, 8, 7⟩
/-- PAIR_CMD.KEY: 16 bits at bit 16, WO (R430). -/
def F.PAIR_CMD_KEY : Field := ⟨0x2600c, 16, 16⟩
/-- PAIR_CMD.CMD: 2 bits at bit 0, WO (R430). -/
def F.PAIR_CMD_CMD : Field := ⟨0x2600c, 0, 2⟩
/-- PAIR_CFG.ALLOW_COLD: 1 bits at bit 15, BS (R430). -/
def F.PAIR_CFG_ALLOW_COLD : Field := ⟨0x26010, 15, 1⟩
/-- PAIR_CFG.COLD_WAIT: 8 bits at bit 0, BS (R430). -/
def F.PAIR_CFG_COLD_WAIT : Field := ⟨0x26010, 0, 8⟩
/-- PAIR_MISSED: 32 bits at bit 0, RC (R429). -/
def F.PAIR_MISSED : Field := ⟨0x26014, 0, 32⟩
/-- PAIR_SWITCHOVERS: 32 bits at bit 0, RO (R429). -/
def F.PAIR_SWITCHOVERS : Field := ⟨0x26018, 0, 32⟩
/-- PAIR_VOTES.GRANTED: 16 bits at bit 16, RC (R430). -/
def F.PAIR_VOTES_GRANTED : Field := ⟨0x2601c, 16, 16⟩
/-- PAIR_VOTES.DENIED: 16 bits at bit 0, RC (R430). -/
def F.PAIR_VOTES_DENIED : Field := ⟨0x2601c, 0, 16⟩
/-- PAIR_WIT_GRANTS: 32 bits at bit 0, RC (R429). -/
def F.PAIR_WIT_GRANTS : Field := ⟨0x26020, 0, 32⟩
/-- PAIR_LAST.CAUSE: 4 bits at bit 28, RO (R430). -/
def F.PAIR_LAST_CAUSE : Field := ⟨0x26024, 28, 4⟩
/-- PAIR_LAST.LATENCY: 16 bits at bit 0, RO (R430). -/
def F.PAIR_LAST_LATENCY : Field := ⟨0x26024, 0, 16⟩
/-- PAIR_LAST_TIME_LO: 32 bits at bit 0, RO (R429). -/
def F.PAIR_LAST_TIME_LO : Field := ⟨0x26028, 0, 32⟩
/-- PAIR_LAST_TIME_HI: 32 bits at bit 0, RO (R429). -/
def F.PAIR_LAST_TIME_HI : Field := ⟨0x2602c, 0, 32⟩
/-- PAIR_SHADOW.AGE_MAX: 16 bits at bit 16, RO (R430). -/
def F.PAIR_SHADOW_AGE_MAX : Field := ⟨0x26030, 16, 16⟩
/-- PAIR_SHADOW.WORDS: 10 bits at bit 0, RO (R430). -/
def F.PAIR_SHADOW_WORDS : Field := ⟨0x26030, 0, 10⟩
/-- PAIR_BULK.ITEMS: 9 bits at bit 0, RO (R430). -/
def F.PAIR_BULK_ITEMS : Field := ⟨0x26034, 0, 9⟩
/-- PAIR_FLOAT.VALID: 1 bits at bit 31, RO (R430). -/
def F.PAIR_FLOAT_VALID : Field := ⟨0x26038, 31, 1⟩
/-- PAIR_FLOAT.ENTRY: 3 bits at bit 28, RO (R430). -/
def F.PAIR_FLOAT_ENTRY : Field := ⟨0x26038, 28, 3⟩
/-- PAIR_FLOAT.MEMBER: 1 bits at bit 27, RO (R430). -/
def F.PAIR_FLOAT_MEMBER : Field := ⟨0x26038, 27, 1⟩
/-- PAIR_FLOAT.REPLACED: 7 bits at bit 16, RO (R430). -/
def F.PAIR_FLOAT_REPLACED : Field := ⟨0x26038, 16, 7⟩
/-- PAIR_BUDGET.SLICE_N: 8 bits at bit 16, RO (R430). -/
def F.PAIR_BUDGET_SLICE_N : Field := ⟨0x2603c, 16, 8⟩
/-- PAIR_BUDGET.G: 8 bits at bit 8, RO (R430). -/
def F.PAIR_BUDGET_G : Field := ⟨0x2603c, 8, 8⟩
/-- PAIR_BUDGET.S: 8 bits at bit 0, RO (R430). -/
def F.PAIR_BUDGET_S : Field := ⟨0x2603c, 0, 8⟩
/-- SAF_STATUS.PW_SET: 1 bits at bit 3, RO (R452). -/
def F.SAF_STATUS_PW_SET : Field := ⟨0x28004, 3, 1⟩
/-- SAF_STATUS.PARTNER_ABSENT: 1 bits at bit 2, RO (R452). -/
def F.SAF_STATUS_PARTNER_ABSENT : Field := ⟨0x28004, 2, 1⟩
/-- SAF_STATUS.DEMAND: 1 bits at bit 1, RO (R452). -/
def F.SAF_STATUS_DEMAND : Field := ⟨0x28004, 1, 1⟩
/-- SAF_STATUS.LOCKOUT: 1 bits at bit 0, RO (R452). -/
def F.SAF_STATUS_LOCKOUT : Field := ⟨0x28004, 0, 1⟩
/-- SAF_CMD.KEY: 16 bits at bit 16, WO (R452). -/
def F.SAF_CMD_KEY : Field := ⟨0x28008, 16, 16⟩
/-- SAF_CMD.CMD: 2 bits at bit 0, WO (R452). -/
def F.SAF_CMD_CMD : Field := ⟨0x28008, 0, 2⟩
/-- SAF_FAULT.CAUSE: 8 bits at bit 24, RO (R452). -/
def F.SAF_FAULT_CAUSE : Field := ⟨0x2800c, 24, 8⟩
/-- SAF_FAULT.SOURCE: 8 bits at bit 16, RO (R452). -/
def F.SAF_FAULT_SOURCE : Field := ⟨0x2800c, 16, 8⟩
/-- SAF_FAULT.FROM_PARTNER: 1 bits at bit 0, RO (R452). -/
def F.SAF_FAULT_FROM_PARTNER : Field := ⟨0x2800c, 0, 1⟩
/-- SAF_DEMAND.LATCHED: 16 bits at bit 0, RO (R452). -/
def F.SAF_DEMAND_LATCHED : Field := ⟨0x28010, 0, 16⟩
/-- SAF_PARAM_CRC: 32 bits at bit 0, RO (R451). -/
def F.SAF_PARAM_CRC : Field := ⟨0x28014, 0, 32⟩
/-- SAF_LOG_SEQ_LO: 32 bits at bit 0, RO (R451). -/
def F.SAF_LOG_SEQ_LO : Field := ⟨0x28018, 0, 32⟩
/-- SAF_LOG_SEQ_HI: 32 bits at bit 0, RO (R451). -/
def F.SAF_LOG_SEQ_HI : Field := ⟨0x2801c, 0, 32⟩
/-- SAF_LOG_LOST: 32 bits at bit 0, RO (R451). -/
def F.SAF_LOG_LOST : Field := ⟨0x28020, 0, 32⟩
/-- SAF_LOCKOUTS: 32 bits at bit 0, RO (R451). -/
def F.SAF_LOCKOUTS : Field := ⟨0x28024, 0, 32⟩
/-- SAF_IN[k]_CFG.ENABLE: 1 bits at bit 31, BS (R452). -/
def F.SAF_IN_CFG_ENABLE (k : Nat) : Field := ⟨0x28100 + 0x10 * k, 31, 1⟩
/-- SAF_IN[k]_CFG.MODE: 1 bits at bit 30, BS (R452). -/
def F.SAF_IN_CFG_MODE (k : Nat) : Field := ⟨0x28100 + 0x10 * k, 30, 1⟩
/-- SAF_IN[k]_CFG.FUNCS: 14 bits at bit 16, BS (R452). -/
def F.SAF_IN_CFG_FUNCS (k : Nat) : Field := ⟨0x28100 + 0x10 * k, 16, 14⟩
/-- SAF_IN[k]_CFG.DISC: 8 bits at bit 8, BS (R452). -/
def F.SAF_IN_CFG_DISC (k : Nat) : Field := ⟨0x28100 + 0x10 * k, 8, 8⟩
/-- SAF_IN[k]_CFG.FILTER: 8 bits at bit 0, BS (R452). -/
def F.SAF_IN_CFG_FILTER (k : Nat) : Field := ⟨0x28100 + 0x10 * k, 0, 8⟩
/-- SAF_IN[k]_STATUS.DEMANDING: 1 bits at bit 2, RO (R452). -/
def F.SAF_IN_STATUS_DEMANDING (k : Nat) : Field := ⟨0x28104 + 0x10 * k, 2, 1⟩
/-- SAF_IN[k]_STATUS.B: 1 bits at bit 1, RO (R452). -/
def F.SAF_IN_STATUS_B (k : Nat) : Field := ⟨0x28104 + 0x10 * k, 1, 1⟩
/-- SAF_IN[k]_STATUS.A: 1 bits at bit 0, RO (R452). -/
def F.SAF_IN_STATUS_A (k : Nat) : Field := ⟨0x28104 + 0x10 * k, 0, 1⟩
/-- SAF_OUT[i]_STATUS.TESTED: 1 bits at bit 3, RO (R452). -/
def F.SAF_OUT_STATUS_TESTED (i : Nat) : Field := ⟨0x28200 + 0x4 * i, 3, 1⟩
/-- SAF_OUT[i]_STATUS.READBACK: 1 bits at bit 2, RO (R452). -/
def F.SAF_OUT_STATUS_READBACK (i : Nat) : Field := ⟨0x28200 + 0x4 * i, 2, 1⟩
/-- SAF_OUT[i]_STATUS.DRIVEN: 1 bits at bit 1, RO (R452). -/
def F.SAF_OUT_STATUS_DRIVEN (i : Nat) : Field := ⟨0x28200 + 0x4 * i, 1, 1⟩
/-- SAF_OUT[i]_STATUS.PASSED: 1 bits at bit 0, RO (R452). -/
def F.SAF_OUT_STATUS_PASSED (i : Nat) : Field := ⟨0x28200 + 0x4 * i, 0, 1⟩
/-- SAF_CONN[j]_CFG.KIND: 2 bits at bit 30, RO (R452). -/
def F.SAF_CONN_CFG_KIND (j : Nat) : Field := ⟨0x28300 + 0x10 * j, 30, 2⟩
/-- SAF_CONN[j]_CFG.ON_EXPIRY: 14 bits at bit 16, BS (R452). -/
def F.SAF_CONN_CFG_ON_EXPIRY (j : Nat) : Field := ⟨0x28300 + 0x10 * j, 16, 14⟩
/-- SAF_CONN[j]_CFG.ACT: 14 bits at bit 0, BS (R452). -/
def F.SAF_CONN_CFG_ACT (j : Nat) : Field := ⟨0x28300 + 0x10 * j, 0, 14⟩
/-- SAF_CONN[j]_ID: 32 bits at bit 0, RO (R451). -/
def F.SAF_CONN_ID (j : Nat) : Field := ⟨0x28304 + 0x10 * j, 0, 32⟩
/-- SAF_CONN[j]_STATUS.STATE: 2 bits at bit 30, RO (R452). -/
def F.SAF_CONN_STATUS_STATE (j : Nat) : Field := ⟨0x28308 + 0x10 * j, 30, 2⟩
/-- SAF_CONN[j]_STATUS.WD_MS: 10 bits at bit 16, RO (R452). -/
def F.SAF_CONN_STATUS_WD_MS (j : Nat) : Field := ⟨0x28308 + 0x10 * j, 16, 10⟩
/-- SAF_CONN[j]_STATUS.SEQ: 16 bits at bit 0, RO (R452). -/
def F.SAF_CONN_STATUS_SEQ (j : Nat) : Field := ⟨0x28308 + 0x10 * j, 0, 16⟩
/-- SAF_CONN[j]_ERR: 32 bits at bit 0, RC (R451). -/
def F.SAF_CONN_ERR (j : Nat) : Field := ⟨0x2830c + 0x10 * j, 0, 32⟩
/-- SAF_PW_BUF[i]: 32 bits at bit 0, WO (R451). -/
def F.SAF_PW_BUF (i : Nat) : Field := ⟨0x28400 + 0x4 * i, 0, 32⟩
/-- QUE_STATUS.FULL: 16 bits at bit 16, RO (R471). -/
def F.QUE_STATUS_FULL : Field := ⟨0x2a004, 16, 16⟩
/-- QUE_STATUS.NONEMPTY: 16 bits at bit 0, RO (R471). -/
def F.QUE_STATUS_NONEMPTY : Field := ⟨0x2a004, 0, 16⟩
/-- QUE_IRQ_STATUS.MBX_OUT: 1 bits at bit 3, RO (R471). -/
def F.QUE_IRQ_STATUS_MBX_OUT : Field := ⟨0x2a008, 3, 1⟩
/-- QUE_IRQ_STATUS.FR_OVERFLOW: 1 bits at bit 2, W1C (R471). -/
def F.QUE_IRQ_STATUS_FR_OVERFLOW : Field := ⟨0x2a008, 2, 1⟩
/-- QUE_IRQ_STATUS.EVENT_REMOTE: 1 bits at bit 1, W1C (R471). -/
def F.QUE_IRQ_STATUS_EVENT_REMOTE : Field := ⟨0x2a008, 1, 1⟩
/-- QUE_IRQ_STATUS.EVENT_LOCAL: 1 bits at bit 0, W1C (R471). -/
def F.QUE_IRQ_STATUS_EVENT_LOCAL : Field := ⟨0x2a008, 0, 1⟩
/-- QUE_IRQ_EN.EN: 4 bits at bit 0, RW (R471). -/
def F.QUE_IRQ_EN_EN : Field := ⟨0x2a00c, 0, 4⟩
/-- QUE_IRQ_CLASS.REMOTE: 16 bits at bit 16, RW (R471). -/
def F.QUE_IRQ_CLASS_REMOTE : Field := ⟨0x2a010, 16, 16⟩
/-- QUE_IRQ_CLASS.LOCAL: 16 bits at bit 0, RW (R471). -/
def F.QUE_IRQ_CLASS_LOCAL : Field := ⟨0x2a010, 0, 16⟩
/-- QUE_IRQ_SEV.REMOTE_MAX: 2 bits at bit 2, RW (R471). -/
def F.QUE_IRQ_SEV_REMOTE_MAX : Field := ⟨0x2a014, 2, 2⟩
/-- QUE_IRQ_SEV.LOCAL_MAX: 2 bits at bit 0, RW (R471). -/
def F.QUE_IRQ_SEV_LOCAL_MAX : Field := ⟨0x2a014, 0, 2⟩
/-- QUE_FR_HEAD: 32 bits at bit 0, RO (R470). -/
def F.QUE_FR_HEAD : Field := ⟨0x2a020, 0, 32⟩
/-- QUE_FR_OVERFLOW: 32 bits at bit 0, RO (R470). -/
def F.QUE_FR_OVERFLOW : Field := ⟨0x2a024, 0, 32⟩
/-- QUE_Q[q]_DEPTH.RANK: 4 bits at bit 28, RO (R471). -/
def F.QUE_Q_DEPTH_RANK (q : Nat) : Field := ⟨0x2a100 + 0x10 * q, 28, 4⟩
/-- QUE_Q[q]_DEPTH.DEPTH: 12 bits at bit 16, RO (R471). -/
def F.QUE_Q_DEPTH_DEPTH (q : Nat) : Field := ⟨0x2a100 + 0x10 * q, 16, 12⟩
/-- QUE_Q[q]_DEPTH.LEVEL: 12 bits at bit 0, RO (R471). -/
def F.QUE_Q_DEPTH_LEVEL (q : Nat) : Field := ⟨0x2a100 + 0x10 * q, 0, 12⟩
/-- QUE_Q[q]_ENTRY.BYTES: 11 bits at bit 0, RO (R471). -/
def F.QUE_Q_ENTRY_BYTES (q : Nat) : Field := ⟨0x2a104 + 0x10 * q, 0, 11⟩
/-- QUE_Q[q]_LOST: 32 bits at bit 0, RC (R470). -/
def F.QUE_Q_LOST (q : Nat) : Field := ⟨0x2a108 + 0x10 * q, 0, 32⟩
/-- QUE_Q[q]_HWM: 32 bits at bit 0, RC (R470). -/
def F.QUE_Q_HWM (q : Nat) : Field := ⟨0x2a10c + 0x10 * q, 0, 32⟩
/-- QUE_MBX_OUT[i]: 32 bits at bit 0, RO (R470). -/
def F.QUE_MBX_OUT (i : Nat) : Field := ⟨0x2a300 + 0x4 * i, 0, 32⟩
/-- QUE_MBX_IN[i]: 32 bits at bit 0, WO (R470). -/
def F.QUE_MBX_IN (i : Nat) : Field := ⟨0x2a320 + 0x4 * i, 0, 32⟩
/-- QUE_MBX_CTRL.KEY: 16 bits at bit 16, WO (R471). -/
def F.QUE_MBX_CTRL_KEY : Field := ⟨0x2a340, 16, 16⟩
/-- QUE_MBX_CTRL.PUSH: 1 bits at bit 1, WO (R471). -/
def F.QUE_MBX_CTRL_PUSH : Field := ⟨0x2a340, 1, 1⟩
/-- QUE_MBX_CTRL.POP: 1 bits at bit 0, WO (R471). -/
def F.QUE_MBX_CTRL_POP : Field := ⟨0x2a340, 0, 1⟩
/-- QUE_MBX_MASK.CLASSES: 16 bits at bit 16, RW (R471). -/
def F.QUE_MBX_MASK_CLASSES : Field := ⟨0x2a344, 16, 16⟩
/-- QUE_MBX_MASK.MAX_SEV: 2 bits at bit 0, RW (R471). -/
def F.QUE_MBX_MASK_MAX_SEV : Field := ⟨0x2a344, 0, 2⟩
/-- QUE_TRACE_DATA: 32 bits at bit 0, RC (R470). -/
def F.QUE_TRACE_DATA : Field := ⟨0x2a400, 0, 32⟩
/-- QUE_TRACE_LEVEL: 32 bits at bit 0, RO (R470). -/
def F.QUE_TRACE_LEVEL : Field := ⟨0x2a404, 0, 32⟩
/-- QUE_TRACE_LOST: 32 bits at bit 0, RC (R470). -/
def F.QUE_TRACE_LOST : Field := ⟨0x2a408, 0, 32⟩
/-- CLK_STATUS.APP_DIV: 2 bits at bit 10, RO (R487). -/
def F.CLK_STATUS_APP_DIV : Field := ⟨0x2c004, 10, 2⟩
/-- CLK_STATUS.EW: 1 bits at bit 9, RO (R487). -/
def F.CLK_STATUS_EW : Field := ⟨0x2c004, 9, 1⟩
/-- CLK_STATUS.VBAT_LOW: 1 bits at bit 8, RO (R487). -/
def F.CLK_STATUS_VBAT_LOW : Field := ⟨0x2c004, 8, 1⟩
/-- CLK_STATUS.RTC_FAIL: 1 bits at bit 7, RO (R487). -/
def F.CLK_STATUS_RTC_FAIL : Field := ⟨0x2c004, 7, 1⟩
/-- CLK_STATUS.LOCK: 5 bits at bit 0, RO (R487). -/
def F.CLK_STATUS_LOCK : Field := ⟨0x2c004, 0, 5⟩
/-- CLK_CMD.KEY: 16 bits at bit 16, WO (R487). -/
def F.CLK_CMD_KEY : Field := ⟨0x2c008, 16, 16⟩
/-- CLK_CMD.WAKE: 1 bits at bit 0, WO (R487). -/
def F.CLK_CMD_WAKE : Field := ⟨0x2c008, 0, 1⟩
/-- CLK_LULL_STATUS.STATE: 2 bits at bit 30, RO (R487). -/
def F.CLK_LULL_STATUS_STATE : Field := ⟨0x2c00c, 30, 2⟩
/-- CLK_LULL_STATUS.WAKE_CAUSE: 8 bits at bit 16, RO (R487). -/
def F.CLK_LULL_STATUS_WAKE_CAUSE : Field := ⟨0x2c00c, 16, 8⟩
/-- CLK_LULL_STATUS.REFUSE: 5 bits at bit 0, W1C (R487). -/
def F.CLK_LULL_STATUS_REFUSE : Field := ⟨0x2c00c, 0, 5⟩
/-- CLK_LULL_ENTRIES: 32 bits at bit 0, RO (R486). -/
def F.CLK_LULL_ENTRIES : Field := ⟨0x2c010, 0, 32⟩
/-- CLK_LULL_SECONDS: 32 bits at bit 0, RO (R486). -/
def F.CLK_LULL_SECONDS : Field := ⟨0x2c014, 0, 32⟩
/-- CLK_STEER: 32 bits at bit 0, RO (R486). -/
def F.CLK_STEER : Field := ⟨0x2c018, 0, 32⟩
/-- CLK_WAKE_TIME_LO: 32 bits at bit 0, RO (R486). -/
def F.CLK_WAKE_TIME_LO : Field := ⟨0x2c020, 0, 32⟩
/-- CLK_WAKE_TIME_HI: 32 bits at bit 0, RO (R486). -/
def F.CLK_WAKE_TIME_HI : Field := ⟨0x2c024, 0, 32⟩
/-- CLK_TEMP.REFRESH: 2 bits at bit 16, RO (R487). -/
def F.CLK_TEMP_REFRESH : Field := ⟨0x2c028, 16, 2⟩
/-- CLK_TEMP.T_AON: 16 bits at bit 0, RO (R487). -/
def F.CLK_TEMP_T_AON : Field := ⟨0x2c028, 0, 16⟩
/-- CLK_AON_RTC_LO: 32 bits at bit 0, RO (R488). -/
def F.CLK_AON_RTC_LO : Field := ⟨0x200000, 0, 32⟩
/-- CLK_AON_RTC_HI: 32 bits at bit 0, RO (R488). -/
def F.CLK_AON_RTC_HI : Field := ⟨0x200004, 0, 32⟩
/-- CLK_AON_STATUS.CHARGING: 1 bits at bit 4, RO (R488). -/
def F.CLK_AON_STATUS_CHARGING : Field := ⟨0x200008, 4, 1⟩
/-- CLK_AON_STATUS.SOURCE: 1 bits at bit 3, RO (R488). -/
def F.CLK_AON_STATUS_SOURCE : Field := ⟨0x200008, 3, 1⟩
/-- CLK_AON_STATUS.VBAT_LOW: 1 bits at bit 2, RO (R488). -/
def F.CLK_AON_STATUS_VBAT_LOW : Field := ⟨0x200008, 2, 1⟩
/-- CLK_AON_STATUS.RTC_FAIL: 1 bits at bit 1, W1C (R488). -/
def F.CLK_AON_STATUS_RTC_FAIL : Field := ⟨0x200008, 1, 1⟩
/-- CLK_AON_STATUS.POR: 1 bits at bit 0, RO (R488). -/
def F.CLK_AON_STATUS_POR : Field := ⟨0x200008, 0, 1⟩
/-- CLK_AON_CFG.CHARGE: 1 bits at bit 0, RW (R488). -/
def F.CLK_AON_CFG_CHARGE : Field := ⟨0x20000c, 0, 1⟩
/-- CLK_AON_VBAT: 32 bits at bit 0, RO (R488). -/
def F.CLK_AON_VBAT : Field := ⟨0x200010, 0, 32⟩
/-- CLK_AON_EVENTS: 32 bits at bit 0, RO (R488). -/
def F.CLK_AON_EVENTS : Field := ⟨0x200014, 0, 32⟩
/-- BAR_STATUS.LAST_CAUSE: 8 bits at bit 24, RO (R506). -/
def F.BAR_STATUS_LAST_CAUSE : Field := ⟨0x2d004, 24, 8⟩
/-- BAR_STATUS.BENCH_CAUSE: 2 bits at bit 16, RO (R506). -/
def F.BAR_STATUS_BENCH_CAUSE : Field := ⟨0x2d004, 16, 2⟩
/-- BAR_STATUS.WD_24H: 2 bits at bit 4, RO (R506). -/
def F.BAR_STATUS_WD_24H : Field := ⟨0x2d004, 4, 2⟩
/-- BAR_STATUS.METER_SUSPECT: 1 bits at bit 3, RO (R506). -/
def F.BAR_STATUS_METER_SUSPECT : Field := ⟨0x2d004, 3, 1⟩
/-- BAR_STATUS.RESTORED: 1 bits at bit 2, RO (R506). -/
def F.BAR_STATUS_RESTORED : Field := ⟨0x2d004, 2, 1⟩
/-- BAR_STATUS.PROFILE: 1 bits at bit 1, RO (R506). -/
def F.BAR_STATUS_PROFILE : Field := ⟨0x2d004, 1, 1⟩
/-- BAR_STATUS.BENCHED: 1 bits at bit 0, RO (R506). -/
def F.BAR_STATUS_BENCHED : Field := ⟨0x2d004, 0, 1⟩
/-- BAR_CMD.KEY: 16 bits at bit 16, WO (R506). -/
def F.BAR_CMD_KEY : Field := ⟨0x2d008, 16, 16⟩
/-- BAR_CMD.CMD: 2 bits at bit 0, WO (R506). -/
def F.BAR_CMD_CMD : Field := ⟨0x2d008, 0, 2⟩
/-- BAR_BLOCK_NO: 32 bits at bit 0, RO (R505). -/
def F.BAR_BLOCK_NO : Field := ⟨0x2d010, 0, 32⟩
/-- BAR_LIFE_USED: 32 bits at bit 0, RO (R505). -/
def F.BAR_LIFE_USED : Field := ⟨0x2d014, 0, 32⟩
/-- BAR_SAVE_SEQ: 32 bits at bit 0, RO (R505). -/
def F.BAR_SAVE_SEQ : Field := ⟨0x2d018, 0, 32⟩
/-- BAR_WD_HIST[i]_LO: 32 bits at bit 0, RO (R505). -/
def F.BAR_WD_HIST_LO (i : Nat) : Field := ⟨0x2d020 + 0x8 * i, 0, 32⟩
/-- BAR_WD_HIST[i]_HI: 32 bits at bit 0, RO (R505). -/
def F.BAR_WD_HIST_HI (i : Nat) : Field := ⟨0x2d024 + 0x8 * i, 0, 32⟩
/-- BAR_RF_NREF: 32 bits at bit 0, BS (R505). -/
def F.BAR_RF_NREF : Field := ⟨0x2d040, 0, 32⟩
/-- BAR_RF_DTREF: 32 bits at bit 0, BS (R505). -/
def F.BAR_RF_DTREF : Field := ⟨0x2d044, 0, 32⟩
/-- BAR_RF_EXP: 32 bits at bit 0, BS (R505). -/
def F.BAR_RF_EXP : Field := ⟨0x2d048, 0, 32⟩
/-- BAR_RF_CFG.GROUP: 5 bits at bit 16, RO (R506). -/
def F.BAR_RF_CFG_GROUP : Field := ⟨0x2d04c, 16, 5⟩
/-- BAR_RF_CFG.MIN_DT: 16 bits at bit 0, BS (R506). -/
def F.BAR_RF_CFG_MIN_DT : Field := ⟨0x2d04c, 0, 16⟩

/-- Registers of the SYS block. -/
def regsSys0 : List RegDef := [
  -- SYS_START
  ⟨0x4, [],
    [⟨24, 8, .ro, 0, false, false, false, none⟩,
     ⟨20, 4, .ro, 0, false, false, false, none⟩,
     ⟨19, 1, .ro, 0, false, false, false, none⟩,
     ⟨18, 1, .w1c, 0, false, false, false, none⟩,
     ⟨16, 2, .ro, 0, false, false, false, none⟩,
     ⟨8, 8, .ro, 0, false, false, false, none⟩]⟩,
  -- SYS_CMD
  ⟨0x8, [],
    [⟨16, 16, .wo, 0, false, false, false, none⟩,
     ⟨0, 2, .wo, 0, false, false, false, none⟩]⟩,
  -- SYS_STARTS
  ⟨0x10, [],
    [⟨0, 32, .ro, 0, false, false, false, none⟩]⟩,
  -- SYS_START_TIME
  ⟨0x14, [],
    [⟨0, 32, .ro, 0, false, false, false, none⟩]⟩]

/-- Registers of the SYS block. -/
def regsSys : List RegDef := levelReg 0x0 false :: (regsSys0)

/-- Registers of the HBI block. -/
def regsHbi0 : List RegDef := [
  -- HBI_TACK
  ⟨0x1004, [],
    [⟨0, 16, .wo, 0, false, false, false, none⟩]⟩,
  -- HBI_TACK_STATUS
  ⟨0x1008, [],
    [⟨16, 1, .w1c, 0, false, false, false, none⟩,
     ⟨0, 16, .ro, 0, false, false, false, none⟩]⟩,
  -- HBI_VIEW
  ⟨0x100c, [],
    [⟨0, 1, .rw, 0, false, false, false, none⟩]⟩,
  -- HBI_PIN_TACK
  ⟨0x1010, [],
    [⟨0, 16, .rw, 0, false, false, false, none⟩]⟩,
  -- HBI_RTACK_MASK
  ⟨0x1014, [],
    [⟨16, 7, .rw, 127, false, false, false, none⟩,
     ⟨0, 16, .rw, 0, false, false, false, none⟩]⟩,
  -- HBI_RTACK_TIME_LO
  ⟨0x1018, [],
    [⟨0, 32, .rw, 0, false, false, false, none⟩]⟩,
  -- HBI_RTACK_TIME_HI
  ⟨0x101c, [],
    [⟨0, 32, .rw, 0, false, false, false, none⟩]⟩,
  -- HBI_IDX_ADDR
  ⟨0x1020, [],
    [⟨0, 32, .rw, 0, false, false, false, none⟩]⟩,
  -- HBI_IDX_DATA
  ⟨0x1024, [],
    [⟨0, 32, .rw, 0, false, false, false, none⟩]⟩,
  -- HBI_IDX_CTRL
  ⟨0x1028, [],
    [⟨1, 1, .w1s, 0, false, false, false, none⟩,
     ⟨0, 1, .rw, 0, false, false, false, none⟩]⟩,
  -- HBI_IDX_STATUS
  ⟨0x102c, [],
    [⟨3, 1, .ro, 0, false, false, false, none⟩,
     ⟨2, 1, .ro, 0, false, false, false, none⟩,
     ⟨1, 1, .ro, 0, false, false, false, none⟩,
     ⟨0, 1, .w1c, 0, false, false, false, none⟩]⟩,
  -- HBI_ERR_INFO
  ⟨0x1030, [],
    [⟨28, 4, .ro, 0, false, false, false, none⟩,
     ⟨26, 2, .ro, 0, false, false, false, none⟩,
     ⟨24, 2, .ro, 0, false, false, false, none⟩]⟩]

/-- Registers of the HBI block. -/
def regsHbi1 : List RegDef := [
  -- HBI_ERR_ADDR
  ⟨0x1034, [],
    [⟨0, 32, .ro, 0, false, false, false, none⟩]⟩,
  -- HBI_ERR_COUNT
  ⟨0x1038, [],
    [⟨0, 32, .rc, 0, false, false, false, none⟩]⟩,
  -- HBI_CRED_CHAL[n]
  ⟨0x1040, [(0x4, 4)],
    [⟨0, 32, .ro, 0, false, false, false, none⟩]⟩,
  -- HBI_CRED_RESP[n]
  ⟨0x1050, [(0x4, 4)],
    [⟨0, 32, .wo, 0, false, false, false, none⟩]⟩,
  -- HBI_RTACK_CMD
  ⟨0x1060, [],
    [⟨16, 16, .wo, 0, false, false, false, none⟩,
     ⟨0, 1, .wo, 0, false, false, false, none⟩]⟩,
  -- HBI_CRED_CMD
  ⟨0x1064, [],
    [⟨16, 16, .wo, 0, false, false, false, none⟩,
     ⟨0, 2, .wo, 0, false, false, false, none⟩]⟩,
  -- HBI_CRED_STATUS
  ⟨0x1068, [],
    [⟨10, 10, .ro, 0, false, false, false, none⟩,
     ⟨9, 1, .ro, 0, false, false, false, none⟩,
     ⟨8, 1, .ro, 0, false, false, false, none⟩,
     ⟨0, 3, .ro, 0, false, false, false, none⟩]⟩,
  -- HBI_PFG_ERR
  ⟨0x106c, [],
    [⟨24, 8, .rc, 0, false, false, false, none⟩,
     ⟨0, 9, .ro, 0, false, false, false, none⟩]⟩]

/-- Registers of the HBI block. -/
def regsHbi : List RegDef := levelReg 0x1000 false :: (regsHbi0 ++ regsHbi1)

/-- Registers of the PAT block. -/
def regsPat0 : List RegDef := [
  -- PAT_STATUS
  ⟨0x2004, [],
    [⟨20, 4, .ro, 0, false, false, false, none⟩,
     ⟨19, 1, .ro, 0, false, false, false, none⟩,
     ⟨18, 1, .ro, 0, false, false, false, none⟩,
     ⟨17, 1, .ro, 0, false, false, false, none⟩,
     ⟨16, 1, .ro, 0, false, false, false, none⟩,
     ⟨14, 2, .ro, 0, false, false, false, none⟩,
     ⟨13, 1, .ro, 0, false, false, false, none⟩]⟩,
  -- PAT_CMD
  ⟨0x2008, [],
    [⟨16, 16, .wo, 0, false, false, false, none⟩,
     ⟨0, 8, .wo, 0, false, false, false, none⟩]⟩,
  -- PAT_UPD_STATUS
  ⟨0x200c, [],
    [⟨20, 4, .ro, 0, false, false, false, none⟩,
     ⟨16, 4, .ro, 0, false, false, false, none⟩,
     ⟨14, 2, .ro, 0, false, false, false, none⟩,
     ⟨10, 4, .ro, 0, false, false, false, none⟩]⟩,
  -- PAT_RUN_SERIAL
  ⟨0x2010, [],
    [⟨0, 32, .ro, 0, false, false, false, none⟩]⟩,
  -- PAT_RUN_SVN
  ⟨0x2014, [],
    [⟨0, 32, .ro, 0, false, false, false, none⟩]⟩,
  -- PAT_SVN_MIN
  ⟨0x2018, [],
    [⟨0, 32, .ro, 0, false, false, false, none⟩]⟩,
  -- PAT_OWNER_ID
  ⟨0x201c, [],
    [⟨0, 32, .ro, 0, false, false, false, none⟩]⟩,
  -- PAT_SITE_ID_LO
  ⟨0x2020, [],
    [⟨0, 32, .ro, 0, false, false, false, none⟩]⟩,
  -- PAT_SITE_ID_HI
  ⟨0x2024, [],
    [⟨0, 32, .ro, 0, false, false, false, none⟩]⟩,
  -- PAT_TRIAL_LEFT
  ⟨0x2028, [],
    [⟨0, 32, .ro, 0, false, false, false, none⟩]⟩,
  -- PAT_SCRUB_CTRL
  ⟨0x202c, [],
    [⟨8, 8, .bs, 60, true, false, false, some (10, 255)⟩,
     ⟨0, 8, .bs, 25, true, false, false, some (25, 255)⟩]⟩,
  -- PAT_SCRUB_PASSES
  ⟨0x2030, [],
    [⟨0, 32, .ro, 0, false, false, false, none⟩]⟩]

/-- Registers of the PAT block. -/
def regsPat1 : List RegDef := [
  -- PAT_SCRUB_FIXED
  ⟨0x2034, [],
    [⟨0, 32, .ro, 0, false, false, false, none⟩]⟩,
  -- PAT_PARTNER_SERIAL
  ⟨0x2038, [],
    [⟨0, 32, .ro, 0, false, false, false, none⟩]⟩]

/-- Registers of the PAT block. -/
def regsPat : List RegDef := levelReg 0x2000 false :: (regsPat0 ++ regsPat1)

/-- Registers of the TRG block. -/
def regsTrg0 : List RegDef := [
  -- TRG_STATUS
  ⟨0x3004, [],
    [⟨15, 1, .ro, 0, false, false, false, none⟩,
     ⟨14, 1, .ro, 0, false, false, false, none⟩,
     ⟨13, 1, .ro, 0, false, false, false, none⟩,
     ⟨12, 1, .ro, 0, false, false, false, none⟩,
     ⟨11, 1, .ro, 0, false, false, false, none⟩,
     ⟨10, 1, .ro, 0, false, false, false, none⟩,
     ⟨8, 2, .ro, 0, false, false, true, none⟩,
     ⟨0, 7, .ro, 0, false, false, true, none⟩]⟩,
  -- TRG_STRAP
  ⟨0x3008, [],
    [⟨8, 7, .ro, 0, false, false, false, none⟩,
     ⟨0, 7, .ro, 0, false, false, false, none⟩]⟩,
  -- TRG_CTRL
  ⟨0x300c, [],
    [⟨16, 16, .wo, 0, false, false, false, none⟩,
     ⟨1, 1, .wo, 0, false, false, false, none⟩,
     ⟨0, 1, .wo, 0, false, false, false, none⟩]⟩,
  -- TRG_RING_TIME_LO
  ⟨0x3010, [],
    [⟨0, 32, .ro, 0, false, false, false, none⟩]⟩,
  -- TRG_RING_TIME_HI
  ⟨0x3014, [],
    [⟨0, 32, .ro, 0, false, false, false, none⟩]⟩,
  -- TRG_CYCLE_LO
  ⟨0x3018, [],
    [⟨0, 32, .ro, 0, false, false, false, none⟩]⟩,
  -- TRG_CYCLE_HI
  ⟨0x301c, [],
    [⟨0, 32, .ro, 0, false, false, false, none⟩]⟩,
  -- TRG_HOP_DELAY_1
  ⟨0x3020, [],
    [⟨0, 32, .ro, 0, false, false, false, none⟩]⟩,
  -- TRG_HOP_DELAY_2
  ⟨0x3024, [],
    [⟨0, 32, .ro, 0, false, false, false, none⟩]⟩,
  -- TRG_NEIGHBOUR
  ⟨0x3028, [],
    [⟨8, 7, .ro, 0, false, false, false, none⟩,
     ⟨0, 7, .ro, 0, false, false, false, none⟩]⟩,
  -- TRG_MEMBERS[n]
  ⟨0x3030, [(0x4, 4)],
    [⟨0, 32, .ro, 0, false, false, false, none⟩]⟩,
  -- TRG_AUTH_FAIL
  ⟨0x3040, [],
    [⟨0, 32, .rc, 0, false, false, false, none⟩]⟩]

/-- Registers of the TRG block. -/
def regsTrg1 : List RegDef := [
  -- TRG_LINK_ERR
  ⟨0x3044, [],
    [⟨0, 32, .rc, 0, false, false, false, none⟩]⟩,
  -- TRG_BREAKS
  ⟨0x3048, [],
    [⟨0, 32, .ro, 0, false, false, false, none⟩]⟩,
  -- TRG_CAL_STATUS
  ⟨0x304c, [],
    [⟨8, 8, .ro, 0, false, false, false, none⟩,
     ⟨4, 1, .ro, 0, false, false, false, none⟩,
     ⟨2, 2, .ro, 0, false, false, false, none⟩,
     ⟨1, 1, .ro, 0, false, false, false, none⟩,
     ⟨0, 1, .ro, 0, false, false, false, none⟩]⟩,
  -- TRG_CAL_OFFSET_LO
  ⟨0x3050, [],
    [⟨0, 32, .ro, 0, false, false, false, none⟩]⟩,
  -- TRG_CAL_OFFSET_HI
  ⟨0x3054, [],
    [⟨0, 32, .ro, 0, false, false, false, none⟩]⟩,
  -- TRG_PTP_OFFSET
  ⟨0x3058, [],
    [⟨0, 32, .ro, 0, false, false, true, none⟩]⟩,
  -- TRG_SQUALL_DEFER
  ⟨0x305c, [],
    [⟨0, 32, .rc, 0, false, false, false, none⟩]⟩,
  -- TRG_PTP_CFG
  ⟨0x3060, [],
    [⟨8, 2, .bs, 0, false, false, false, none⟩,
     ⟨0, 8, .bs, 0, false, false, false, none⟩]⟩,
  -- TRG_SHORE_CFG
  ⟨0x3064, [],
    [⟨2, 1, .bs, 0, false, false, false, none⟩,
     ⟨1, 1, .bs, 0, false, false, false, none⟩,
     ⟨0, 1, .bs, 0, false, false, false, none⟩]⟩,
  -- TRG_SHORE_SESS
  ⟨0x3068, [],
    [⟨0, 3, .ro, 0, false, false, false, none⟩]⟩]

/-- Registers of the TRG block. -/
def regsTrg : List RegDef := levelReg 0x3000 false :: (regsTrg0 ++ regsTrg1)

/-- Registers of the MRK block. -/
def regsMrk0 : List RegDef := [
  -- MRK_STATUS
  ⟨0x4004, [],
    [⟨8, 1, .ro, 0, false, false, false, none⟩,
     ⟨7, 1, .ro, 0, false, false, false, none⟩,
     ⟨6, 1, .ro, 0, false, false, false, none⟩,
     ⟨5, 1, .ro, 0, false, false, false, none⟩,
     ⟨4, 1, .ro, 0, false, false, false, none⟩,
     ⟨3, 1, .ro, 0, false, false, false, none⟩,
     ⟨2, 1, .ro, 0, false, false, false, none⟩,
     ⟨1, 1, .ro, 0, false, false, false, none⟩,
     ⟨0, 1, .ro, 0, false, false, false, none⟩]⟩,
  -- MRK_CTRL
  ⟨0x4008, [],
    [⟨16, 16, .wo, 0, false, false, false, none⟩,
     ⟨0, 2, .wo, 0, false, false, false, none⟩]⟩,
  -- MRK_PLAN_NO
  ⟨0x400c, [],
    [⟨0, 32, .ro, 0, false, false, false, none⟩]⟩,
  -- MRK_SEQ
  ⟨0x4010, [],
    [⟨24, 8, .bs, 30, true, false, false, some (20, 100)⟩,
     ⟨16, 8, .bs, 5, true, false, false, some (1, 10)⟩,
     ⟨8, 8, .bs, 20, true, false, false, some (1, 255)⟩,
     ⟨0, 8, .bs, 5, true, false, false, some (1, 50)⟩]⟩,
  -- MRK_COST_CFG
  ⟨0x4014, [],
    [⟨16, 16, .bs, 600, true, false, false, some (60, 3600)⟩,
     ⟨0, 16, .bs, 10, true, false, false, none⟩]⟩,
  -- MRK_WEIGHT_A
  ⟨0x4018, [],
    [⟨16, 16, .bs, 10, true, false, false, none⟩,
     ⟨0, 16, .bs, 50, true, false, false, none⟩]⟩,
  -- MRK_WEIGHT_B
  ⟨0x401c, [],
    [⟨16, 16, .bs, 200, true, false, false, none⟩,
     ⟨0, 16, .bs, 1000, true, false, false, none⟩]⟩,
  -- MRK_LULL
  ⟨0x4024, [],
    [⟨31, 1, .bs, 1, false, false, false, none⟩,
     ⟨30, 1, .bs, 0, false, false, false, none⟩,
     ⟨16, 5, .bs, 1, false, false, false, none⟩,
     ⟨0, 16, .bs, 60, false, false, false, some (10, 65535)⟩]⟩,
  -- MRK_GRID_CAP
  ⟨0x4028, [],
    [⟨0, 24, .bs, 0, false, false, false, none⟩]⟩,
  -- MRK_CURTAIL
  ⟨0x402c, [],
    [⟨0, 24, .rw, 16777215, false, false, false, none⟩]⟩,
  -- MRK_CURTAIL_HOLD
  ⟨0x4030, [],
    [⟨16, 16, .ro, 0, false, false, false, none⟩,
     ⟨0, 16, .rw, 0, false, false, false, none⟩]⟩,
  -- MRK_HEADROOM
  ⟨0x4034, [],
    [⟨0, 8, .bs, 95, false, false, false, some (50, 100)⟩]⟩]

/-- Registers of the MRK block. -/
def regsMrk1 : List RegDef := [
  -- MRK_EXPORT_CAP
  ⟨0x4038, [],
    [⟨0, 24, .bs, 0, false, false, false, none⟩]⟩,
  -- MRK_OVERRUNS
  ⟨0x403c, [],
    [⟨0, 32, .rc, 0, false, false, false, none⟩]⟩,
  -- MRK_DISCARDS
  ⟨0x4040, [],
    [⟨0, 32, .rc, 0, false, false, false, none⟩]⟩,
  -- MRK_LOCAL
  ⟨0x4044, [],
    [⟨24, 8, .rc, 0, false, false, false, none⟩,
     ⟨16, 5, .ro, 0, false, false, false, none⟩,
     ⟨8, 4, .ro, 0, false, false, false, none⟩,
     ⟨0, 8, .ro, 0, false, false, false, none⟩]⟩,
  -- MRK_DEMAND_LIMIT[t]
  ⟨0x4100, [(0x4, 16)],
    [⟨0, 24, .bs, 0, false, false, false, none⟩]⟩,
  -- MRK_TARIFF_W[t]
  ⟨0x4140, [(0x4, 16)],
    [⟨0, 16, .bs, 256, true, false, false, none⟩]⟩,
  -- MRK_STACK[r]_CFG
  ⟨0x4200, [(0x4, 32)],
    [⟨31, 1, .bs, 0, true, false, false, none⟩,
     ⟨30, 1, .bs, 0, true, false, false, none⟩,
     ⟨29, 1, .bs, 0, true, false, false, none⟩,
     ⟨16, 5, .bs, 0, true, false, false, some (1, 16)⟩,
     ⟨0, 16, .bs, 0, true, false, false, none⟩]⟩,
  -- MRK_STACK[r]_STATE
  ⟨0x4280, [(0x4, 32)],
    [⟨31, 1, .ro, 0, false, false, false, none⟩,
     ⟨30, 1, .ro, 0, false, false, false, none⟩,
     ⟨29, 1, .ro, 0, false, false, false, none⟩,
     ⟨28, 1, .ro, 0, false, false, false, none⟩,
     ⟨24, 4, .ro, 0, false, false, false, none⟩,
     ⟨16, 5, .ro, 0, false, false, false, none⟩,
     ⟨0, 16, .ro, 0, false, false, false, none⟩]⟩,
  -- MRK_OUT[c]_CFG
  ⟨0x4300, [(0x4, 16)],
    [⟨31, 1, .bs, 0, true, false, false, none⟩,
     ⟨24, 2, .bs, 0, false, false, false, none⟩,
     ⟨23, 1, .bs, 0, false, false, false, none⟩]⟩,
  -- MRK_OUT[c]_FORBID
  ⟨0x4340, [(0x4, 16)],
    [⟨0, 32, .bs, 0, true, false, false, none⟩]⟩,
  -- MRK_OUT[c]_STATE
  ⟨0x4380, [(0x4, 16)],
    [⟨26, 6, .ro, 0, false, false, false, none⟩,
     ⟨0, 16, .ro, 0, false, false, false, none⟩]⟩,
  -- MRK_DUTY[n]
  ⟨0x4400, [(0x4, 49)],
    [⟨23, 1, .ro, 0, false, false, false, none⟩,
     ⟨16, 7, .ro, 0, false, false, false, none⟩,
     ⟨0, 7, .ro, 0, false, false, false, none⟩]⟩]

/-- Registers of the MRK block. -/
def regsMrk2 : List RegDef := [
  -- MRK_REPLICA[a]
  ⟨0x4500, [(0x4, 96)],
    [⟨31, 1, .ro, 0, false, false, false, none⟩,
     ⟨16, 7, .ro, 0, false, false, false, none⟩,
     ⟨0, 7, .ro, 0, false, false, false, none⟩]⟩]

/-- Registers of the MRK block. -/
def regsMrk : List RegDef := levelReg 0x4000 false :: (regsMrk0 ++ regsMrk1 ++ regsMrk2)

/-- Registers of the SHT block. -/
def regsSht0 : List RegDef := [
  -- SHT_STATUS
  ⟨0x8004, [],
    [⟨24, 8, .ro, 0, false, false, false, none⟩,
     ⟨16, 8, .ro, 0, false, false, false, none⟩,
     ⟨2, 1, .ro, 0, false, false, false, none⟩,
     ⟨1, 1, .w1c, 0, false, false, false, none⟩,
     ⟨0, 1, .w1c, 0, false, false, false, none⟩]⟩,
  -- SHT_PCH[p]_LIM
  ⟨0x8800, [(0x10, 32)],
    [⟨16, 16, .bs, 65535, true, false, false, none⟩,
     ⟨0, 16, .bs, 65535, true, false, false, none⟩]⟩,
  -- SHT_PCH[p]_CFG
  ⟨0x8804, [(0x10, 32)],
    [⟨31, 1, .bs, 0, true, false, false, none⟩,
     ⟨28, 2, .bs, 0, true, false, false, none⟩,
     ⟨24, 4, .ro, 0, false, false, false, none⟩,
     ⟨8, 16, .bs, 65535, true, false, false, none⟩,
     ⟨0, 8, .bs, 8, true, false, false, none⟩]⟩,
  -- SHT_PCH[p]_SPEC
  ⟨0x8808, [(0x10, 32)],
    [⟨0, 16, .bs, 65535, true, false, false, none⟩]⟩,
  -- SHT_LOOP[m]_CTRL
  ⟨0x9000, [(0x100, 8)],
    [⟨16, 1, .bs, 0, true, false, false, none⟩,
     ⟨12, 4, .lv, 0, true, false, false, none⟩,
     ⟨8, 2, .bs, 0, true, false, false, none⟩,
     ⟨4, 1, .bs, 0, true, false, false, none⟩,
     ⟨0, 1, .ro, 0, false, false, false, none⟩]⟩,
  -- SHT_LOOP[m]_STATUS
  ⟨0x9004, [(0x100, 8)],
    [⟨31, 1, .w1c, 0, false, false, false, none⟩,
     ⟨28, 3, .ro, 0, false, false, false, none⟩,
     ⟨27, 1, .ro, 0, false, false, false, none⟩,
     ⟨26, 1, .w1c, 0, false, false, false, none⟩,
     ⟨16, 3, .ro, 0, false, false, false, none⟩,
     ⟨8, 8, .ro, 0, false, false, false, none⟩,
     ⟨4, 4, .ro, 0, false, false, false, none⟩]⟩,
  -- SHT_LOOP[m]_HITS
  ⟨0x9008, [(0x100, 8)],
    [⟨0, 32, .rc, 0, false, false, false, none⟩]⟩,
  -- SHT_LOOP[m]_MISSES
  ⟨0x900c, [(0x100, 8)],
    [⟨0, 32, .rc, 0, false, false, false, none⟩]⟩,
  -- SHT_LOOP[m]_LATE
  ⟨0x9010, [(0x100, 8)],
    [⟨0, 32, .rc, 0, false, false, false, none⟩]⟩,
  -- SHT_LOOP[m]_SCHED
  ⟨0x9014, [(0x100, 8)],
    [⟨0, 9, .bs, 16, true, false, false, some (1, 256)⟩]⟩,
  -- SHT_LOOP[m]_THETA[j]
  ⟨0x9020, [(0x100, 8), (0x4, 7)],
    [⟨0, 32, .bs, 0, true, false, false, none⟩]⟩,
  -- SHT_LOOP[m]_HYST[j]
  ⟨0x9040, [(0x100, 8), (0x4, 7)],
    [⟨0, 32, .bs, 0, true, false, false, none⟩]⟩]

/-- Registers of the SHT block. -/
def regsSht1 : List RegDef := [
  -- SHT_LANE[k]_CTRL
  ⟨0x9800, [(0x10, 8)],
    [⟨8, 1, .bs, 0, false, false, false, none⟩,
     ⟨0, 8, .bs, 1, false, false, false, none⟩]⟩,
  -- SHT_LANE[k]_STATUS
  ⟨0x9804, [(0x10, 8)],
    [⟨16, 3, .ro, 0, false, false, false, none⟩,
     ⟨0, 16, .ro, 0, false, false, false, none⟩]⟩,
  -- SHT_LOOP[m]_MODE
  ⟨0xa000, [(0x100, 8)],
    [⟨28, 4, .ro, 0, false, false, false, none⟩,
     ⟨24, 4, .ro, 0, false, false, false, none⟩,
     ⟨16, 8, .ro, 0, false, false, false, none⟩,
     ⟨12, 1, .bs, 0, false, false, false, none⟩,
     ⟨11, 1, .w1c, 0, false, false, false, none⟩,
     ⟨10, 1, .w1c, 0, false, false, false, none⟩,
     ⟨9, 1, .ro, 0, false, false, false, none⟩,
     ⟨8, 1, .bs, 1, false, false, false, none⟩]⟩,
  -- SHT_LOOP[m]_HO_CFG
  ⟨0xa004, [(0x100, 8)],
    [⟨24, 8, .bs, 8, true, false, false, some (1, 255)⟩,
     ⟨16, 8, .bs, 64, true, false, false, some (1, 255)⟩,
     ⟨8, 8, .bs, 4, true, false, false, some (1, 255)⟩]⟩,
  -- SHT_LOOP[m]_HO_SLEW
  ⟨0xa008, [(0x100, 8)],
    [⟨0, 32, .bs, 2139095040, true, false, false, none⟩]⟩,
  -- SHT_LOOP[m]_HO_LIM
  ⟨0xa00c, [(0x100, 8)],
    [⟨0, 32, .bs, 2139095040, true, false, false, none⟩]⟩,
  -- SHT_LOOP[m]_HO_COUNT
  ⟨0xa010, [(0x100, 8)],
    [⟨16, 16, .rc, 0, false, false, false, none⟩,
     ⟨0, 16, .rc, 0, false, false, false, none⟩]⟩,
  -- SHT_LOOP[m]_RESIDUAL
  ⟨0xa014, [(0x100, 8)],
    [⟨0, 32, .ro, 0, false, false, false, none⟩]⟩,
  -- SHT_LOOP[m]_STOP
  ⟨0xa018, [(0x100, 8)],
    [⟨0, 16, .bs, 50, false, false, false, some (1, 1000)⟩]⟩,
  -- SHT_LOOP[m]_CV
  ⟨0xa01c, [(0x100, 8)],
    [⟨0, 16, .bs, 50, false, false, false, none⟩]⟩,
  -- SHT_LOOP[m]_WORDS
  ⟨0xa020, [(0x100, 8)],
    [⟨24, 8, .ro, 0, false, false, false, none⟩,
     ⟨16, 8, .ro, 0, false, false, false, none⟩,
     ⟨8, 8, .ro, 0, false, false, false, none⟩,
     ⟨0, 8, .ro, 0, false, false, false, none⟩]⟩,
  -- SHT_LOOP[m]_AFE_VDC
  ⟨0xa024, [(0x100, 8)],
    [⟨0, 16, .bs, 0, false, false, false, none⟩]⟩]

/-- Registers of the SHT block. -/
def regsSht2 : List RegDef := [
  -- SHT_LOOP[m]_AFE_PQ
  ⟨0xa028, [(0x100, 8)],
    [⟨16, 16, .bs, 0, false, false, true, none⟩,
     ⟨0, 16, .bs, 0, false, false, true, none⟩]⟩,
  -- SHT_LOOP[m]_FORM
  ⟨0xa02c, [(0x100, 8)],
    [⟨16, 16, .bs, 5000, false, false, false, none⟩,
     ⟨0, 16, .bs, 0, false, false, false, none⟩]⟩,
  -- SHT_LOOP[m]_MODE_REQ
  ⟨0xa030, [(0x100, 8)],
    [⟨16, 16, .wo, 0, false, false, false, none⟩,
     ⟨0, 4, .wo, 0, false, false, false, none⟩]⟩,
  -- SHT_LOOP[m]_MAP[x]
  ⟨0xa040, [(0x100, 8), (0x4, 8)],
    [⟨24, 8, .ro, 0, false, false, false, none⟩,
     ⟨16, 8, .ro, 0, false, false, false, none⟩,
     ⟨8, 8, .ro, 0, false, false, false, none⟩,
     ⟨1, 1, .ro, 0, false, false, false, none⟩,
     ⟨0, 1, .ro, 0, false, false, false, none⟩]⟩,
  -- SHT_LOOP[m]_INT_MIN[x]
  ⟨0xa060, [(0x100, 8), (0x4, 8)],
    [⟨0, 32, .bs, 0, true, false, false, none⟩]⟩,
  -- SHT_LOOP[m]_INT_MAX[x]
  ⟨0xa080, [(0x100, 8), (0x4, 8)],
    [⟨0, 32, .bs, 0, true, false, false, none⟩]⟩,
  -- SHT_RC[e]_CFG
  ⟨0xb000, [(0x40, 32)],
    [⟨31, 1, .bs, 0, false, false, false, none⟩,
     ⟨30, 1, .rw, 0, false, false, false, none⟩,
     ⟨29, 1, .w1s, 0, false, false, false, none⟩,
     ⟨24, 2, .bs, 3, false, false, false, none⟩,
     ⟨16, 8, .bs, 0, true, false, false, none⟩,
     ⟨8, 8, .bs, 0, true, false, false, none⟩,
     ⟨0, 8, .bs, 0, false, false, false, none⟩]⟩,
  -- SHT_RC[e]_SRC
  ⟨0xb004, [(0x40, 32)],
    [⟨24, 8, .bs, 0, false, false, false, none⟩,
     ⟨20, 4, .bs, 0, false, false, false, some (0, 7)⟩,
     ⟨17, 3, .bs, 0, false, false, false, none⟩,
     ⟨16, 1, .bs, 0, false, false, false, none⟩,
     ⟨8, 8, .bs, 1, false, false, false, some (1, 255)⟩,
     ⟨4, 4, .bs, 4, false, false, false, none⟩,
     ⟨0, 4, .bs, 0, false, false, false, none⟩]⟩,
  -- SHT_RC[e]_PERIOD
  ⟨0xb008, [(0x40, 32)],
    [⟨0, 23, .bs, 20000, false, false, false, some (10000, 8000000)⟩]⟩,
  -- SHT_RC[e]_BAND
  ⟨0xb00c, [(0x40, 32)],
    [⟨16, 16, .bs, 8000, false, false, false, some (10, 8000)⟩,
     ⟨0, 16, .bs, 10, false, false, false, some (10, 8000)⟩]⟩,
  -- SHT_RC[e]_GAIN
  ⟨0xb010, [(0x40, 32)],
    [⟨0, 32, .bs, 0, true, false, false, none⟩]⟩,
  -- SHT_RC[e]_FORGET
  ⟨0xb014, [(0x40, 32)],
    [⟨0, 32, .bs, 1065353216, true, false, false, none⟩]⟩]

/-- Registers of the SHT block. -/
def regsSht3 : List RegDef := [
  -- SHT_RC[e]_Q0
  ⟨0xb018, [(0x40, 32)],
    [⟨0, 32, .bs, 1065353216, true, false, false, none⟩]⟩,
  -- SHT_RC[e]_Q1
  ⟨0xb01c, [(0x40, 32)],
    [⟨0, 32, .bs, 0, true, false, false, none⟩]⟩,
  -- SHT_RC[e]_Q2
  ⟨0xb020, [(0x40, 32)],
    [⟨0, 32, .bs, 0, true, false, false, none⟩]⟩,
  -- SHT_RC[e]_LIMIT
  ⟨0xb024, [(0x40, 32)],
    [⟨0, 32, .bs, 0, true, false, false, none⟩]⟩,
  -- SHT_RC[e]_STATUS
  ⟨0xb028, [(0x40, 32)],
    [⟨31, 1, .ro, 0, false, false, false, none⟩,
     ⟨30, 1, .ro, 0, false, false, false, none⟩,
     ⟨29, 1, .ro, 0, false, false, false, none⟩,
     ⟨0, 8, .ro, 0, false, false, false, none⟩]⟩,
  -- SHT_RC[e]_PERIOD_NOW
  ⟨0xb02c, [(0x40, 32)],
    [⟨0, 32, .ro, 0, false, false, false, none⟩]⟩,
  -- SHT_RC[e]_PHASE
  ⟨0xb030, [(0x40, 32)],
    [⟨0, 32, .ro, 0, false, false, false, none⟩]⟩,
  -- SHT_RC[e]_RATE
  ⟨0xb034, [(0x40, 32)],
    [⟨0, 16, .bs, 200, false, false, false, some (1, 2500)⟩]⟩,
  -- SHT_RC[e]_PEEK_IDX
  ⟨0xb038, [(0x40, 32)],
    [⟨0, 11, .rw, 0, false, false, false, none⟩]⟩,
  -- SHT_RC[e]_PEEK_DATA
  ⟨0xb03c, [(0x40, 32)],
    [⟨0, 32, .ro, 0, false, false, false, none⟩]⟩,
  -- SHT_LOOP[m]_COEF[w]
  ⟨0xc000, [(0x800, 8), (0x4, 512)],
    [⟨0, 32, .lv, 0, true, false, false, none⟩]⟩]

/-- Registers of the SHT block. -/
def regsSht : List RegDef := levelReg 0x8000 false :: (regsSht0 ++ regsSht1 ++ regsSht2 ++ regsSht3)

/-- Registers of the PWM block. -/
def regsPwm0 : List RegDef := [
  -- PWM_HB[n]_PERIOD
  ⟨0x10100, [(0x40, 12)],
    [⟨0, 20, .bs, 4000, false, false, false, some (800, 400000)⟩]⟩,
  -- PWM_HB[n]_CMP_ON
  ⟨0x10104, [(0x40, 12)],
    [⟨0, 24, .bs, 0, false, false, false, none⟩]⟩,
  -- PWM_HB[n]_CMP_OFF
  ⟨0x10108, [(0x40, 12)],
    [⟨0, 24, .bs, 0, false, false, false, none⟩]⟩,
  -- PWM_HB[n]_TRIG
  ⟨0x1010c, [(0x40, 12)],
    [⟨16, 11, .bs, 0, false, false, true, none⟩,
     ⟨8, 2, .bs, 0, false, false, false, none⟩]⟩,
  -- PWM_HB[n]_SYNC
  ⟨0x10110, [(0x40, 12)],
    [⟨30, 2, .bs, 0, false, false, false, none⟩,
     ⟨24, 4, .bs, 0, false, false, false, some (0, 11)⟩,
     ⟨0, 20, .bs, 0, false, false, false, none⟩]⟩,
  -- PWM_HB[n]_MIN_PULSE
  ⟨0x10114, [(0x40, 12)],
    [⟨0, 8, .bs, 40, false, false, false, none⟩]⟩,
  -- PWM_HB[n]_STATUS
  ⟨0x10118, [(0x40, 12)],
    [⟨2, 1, .ro, 0, false, false, false, none⟩,
     ⟨1, 1, .ro, 0, false, false, false, none⟩,
     ⟨0, 1, .ro, 0, false, false, false, none⟩]⟩,
  -- PWM_HB[n]_COUNT
  ⟨0x1011c, [(0x40, 12)],
    [⟨0, 20, .ro, 0, false, false, false, none⟩]⟩,
  -- PWM_ADC[a]_CFG
  ⟨0x10400, [(0x10, 16)],
    [⟨8, 4, .bs, 0, false, false, false, some (0, 11)⟩,
     ⟨0, 2, .bs, 0, false, false, false, none⟩]⟩,
  -- PWM_ADC[a]_RESULT
  ⟨0x10404, [(0x10, 16)],
    [⟨0, 32, .ro, 0, false, false, false, none⟩]⟩,
  -- PWM_ADC[a]_DEFER
  ⟨0x10408, [(0x10, 16)],
    [⟨0, 32, .rc, 0, false, false, false, none⟩]⟩]

/-- Registers of the PWM block. -/
def regsPwm : List RegDef := levelReg 0x10000 false :: (regsPwm0)

/-- Registers of the GDI block. -/
def regsGdi0 : List RegDef := [
  -- GDI_STATUS
  ⟨0x14004, [],
    [⟨24, 6, .ro, 0, false, false, false, none⟩,
     ⟨0, 24, .ro, 0, false, false, false, none⟩]⟩,
  -- GDI_UV_EVENT
  ⟨0x1400c, [],
    [⟨0, 24, .w1c, 0, false, false, false, none⟩]⟩,
  -- GDI_HB[h]_CFG
  ⟨0x14100, [(0x20, 12)],
    [⟨30, 2, .bs, 3, false, false, false, none⟩,
     ⟨16, 12, .bs, 640, true, false, false, some (64, 4095)⟩,
     ⟨0, 12, .bs, 640, true, false, false, some (64, 4095)⟩]⟩,
  -- GDI_HB[h]_STATUS
  ⟨0x14104, [(0x20, 12)],
    [⟨2, 1, .ro, 0, false, false, false, none⟩,
     ⟨1, 1, .ro, 0, false, false, false, none⟩,
     ⟨0, 1, .ro, 0, false, false, false, none⟩]⟩,
  -- GDI_HB[h]_OMIT
  ⟨0x14108, [(0x20, 12)],
    [⟨0, 32, .rc, 0, false, false, false, none⟩]⟩,
  -- GDI_CH[n]_SRC
  ⟨0x14400, [(0x80, 24)],
    [⟨0, 5, .bs, 3, false, false, false, none⟩]⟩,
  -- GDI_CH[n]_SNK
  ⟨0x14404, [(0x80, 24)],
    [⟨0, 5, .bs, 3, false, false, false, none⟩]⟩,
  -- GDI_CH[n]_SHAPE
  ⟨0x14408, [(0x80, 24)],
    [⟨0, 1, .bs, 0, true, false, false, none⟩]⟩,
  -- GDI_CH[n]_SUPPLY
  ⟨0x1440c, [(0x80, 24)],
    [⟨8, 2, .bs, 2, true, true, false, none⟩,
     ⟨4, 2, .bs, 0, true, true, false, none⟩]⟩,
  -- GDI_CH[n]_MON
  ⟨0x14410, [(0x80, 24)],
    [⟨16, 16, .ro, 0, false, false, false, none⟩,
     ⟨0, 16, .ro, 0, false, false, true, none⟩]⟩,
  -- GDI_CH[n]_STATUS
  ⟨0x14414, [(0x80, 24)],
    [⟨7, 1, .ro, 1, false, false, false, none⟩,
     ⟨6, 1, .ro, 0, false, false, false, none⟩,
     ⟨5, 1, .ro, 0, false, false, false, none⟩,
     ⟨3, 2, .ro, 0, false, false, false, none⟩,
     ⟨2, 1, .ro, 0, false, false, false, none⟩]⟩,
  -- GDI_CH[n]_SEG_ON[i]
  ⟨0x14420, [(0x80, 24), (0x4, 4)],
    [⟨30, 2, .bs, 2, true, false, false, none⟩,
     ⟨20, 9, .bs, 0, true, false, true, none⟩,
     ⟨8, 5, .bs, 3, true, false, false, none⟩,
     ⟨0, 8, .bs, 1, true, false, false, none⟩]⟩]

/-- Registers of the GDI block. -/
def regsGdi1 : List RegDef := [
  -- GDI_CH[n]_SEG_OFF[i]
  ⟨0x14430, [(0x80, 24), (0x4, 4)],
    [⟨30, 2, .bs, 2, true, false, false, none⟩,
     ⟨20, 9, .bs, 0, true, false, true, none⟩,
     ⟨8, 5, .bs, 3, true, false, false, none⟩,
     ⟨0, 8, .bs, 1, true, false, false, none⟩]⟩,
  -- GDI_CH[n]_UV_COUNT
  ⟨0x14440, [(0x80, 24)],
    [⟨0, 32, .ro, 0, false, false, false, none⟩]⟩,
  -- GDI_CH[n]_SEG_END
  ⟨0x14444, [(0x80, 24)],
    [⟨4, 4, .ro, 0, false, false, false, none⟩,
     ⟨0, 4, .ro, 0, false, false, false, none⟩]⟩]

/-- Registers of the GDI block. -/
def regsGdi : List RegDef := levelReg 0x14000 true :: (regsGdi0 ++ regsGdi1)

/-- Registers of the GDA block. -/
def regsGda0 : List RegDef := [
  -- GDA_STATUS
  ⟨0x18004, [],
    [⟨12, 1, .ro, 1, false, false, false, none⟩,
     ⟨0, 12, .ro, 0, false, false, false, none⟩]⟩,
  -- GDA_HB[a]_CFG
  ⟨0x18100, [(0x40, 6)],
    [⟨30, 2, .bs, 3, false, false, false, none⟩,
     ⟨29, 1, .bs, 0, false, false, false, none⟩,
     ⟨8, 8, .bs, 40, false, false, false, some (8, 255)⟩]⟩,
  -- GDA_HB[a]_PERIOD
  ⟨0x18104, [(0x40, 6)],
    [⟨0, 19, .bs, 20000, false, false, false, some (4000, 400000)⟩]⟩,
  -- GDA_HB[a]_DUTY
  ⟨0x18108, [(0x40, 6)],
    [⟨0, 14, .bs, 0, false, false, false, some (0, 10000)⟩]⟩,
  -- GDA_HB[a]_DRIVE
  ⟨0x1810c, [(0x40, 6)],
    [⟨12, 4, .bs, 15, false, false, false, none⟩,
     ⟨8, 4, .bs, 15, false, false, false, none⟩,
     ⟨4, 4, .bs, 15, false, false, false, none⟩,
     ⟨0, 4, .bs, 15, false, false, false, none⟩]⟩,
  -- GDA_HB[a]_STATUS
  ⟨0x18110, [(0x40, 6)],
    [⟨3, 1, .ro, 0, false, false, false, none⟩,
     ⟨2, 1, .ro, 0, false, false, false, none⟩,
     ⟨1, 1, .ro, 0, false, false, false, none⟩,
     ⟨0, 1, .ro, 0, false, false, false, none⟩]⟩,
  -- GDA_HB[a]_BST_UV_COUNT
  ⟨0x18114, [(0x40, 6)],
    [⟨0, 32, .ro, 0, false, false, false, none⟩]⟩,
  -- GDA_HB[a]_DUTY_NOW
  ⟨0x18118, [(0x40, 6)],
    [⟨0, 14, .ro, 0, false, false, false, none⟩]⟩]

/-- Registers of the GDA block. -/
def regsGda : List RegDef := levelReg 0x18000 false :: (regsGda0)

/-- Registers of the PRT block. -/
def regsPrt0 : List RegDef := [
  -- PRT_STATUS
  ⟨0x1a004, [],
    [⟨16, 8, .ro, 0, false, false, false, none⟩,
     ⟨8, 8, .ro, 0, false, false, false, none⟩,
     ⟨0, 8, .ro, 0, false, false, false, none⟩]⟩,
  -- PRT_CMD
  ⟨0x1a008, [],
    [⟨16, 16, .wo, 0, false, false, false, none⟩,
     ⟨8, 8, .wo, 0, false, false, false, none⟩,
     ⟨0, 2, .wo, 0, false, false, false, none⟩]⟩,
  -- PRT_HB[h]_CFG
  ⟨0x1a100, [(0x10, 12)],
    [⟨31, 1, .ro, 0, false, false, false, none⟩,
     ⟨24, 3, .ro, 0, false, false, false, none⟩]⟩,
  -- PRT_HB[h]_HS
  ⟨0x1a104, [(0x10, 12)],
    [⟨31, 1, .bs, 0, true, true, false, none⟩,
     ⟨16, 8, .bs, 125, true, true, false, some (42, 208)⟩,
     ⟨0, 8, .bs, 100, true, true, false, some (1, 250)⟩]⟩,
  -- PRT_HB[h]_STATUS
  ⟨0x1a108, [(0x10, 12)],
    [⟨2, 1, .ro, 0, false, false, false, none⟩,
     ⟨1, 1, .w1c, 0, false, false, false, none⟩,
     ⟨0, 1, .ro, 0, false, false, false, none⟩]⟩,
  -- PRT_ADC[a]_CFG
  ⟨0x1a300, [(0x10, 16)],
    [⟨31, 1, .bs, 0, true, true, false, none⟩,
     ⟨30, 1, .bs, 0, true, true, false, none⟩,
     ⟨24, 4, .bs, 0, true, true, false, none⟩,
     ⟨1, 1, .ro, 0, false, false, false, none⟩,
     ⟨0, 1, .w1c, 0, false, false, false, none⟩]⟩,
  -- PRT_ADC[a]_LIM
  ⟨0x1a304, [(0x10, 16)],
    [⟨16, 16, .bs, 32704, true, true, true, none⟩,
     ⟨0, 16, .bs, 32768, true, true, true, none⟩]⟩,
  -- PRT_CH[n]_DESAT
  ⟨0x1a400, [(0x10, 24)],
    [⟨31, 1, .bs, 1, true, true, false, none⟩,
     ⟨24, 2, .bs, 1, true, true, false, none⟩,
     ⟨16, 5, .bs, 20, true, true, false, none⟩,
     ⟨0, 7, .bs, 36, true, true, false, some (0, 124)⟩]⟩,
  -- PRT_CH[n]_GATE
  ⟨0x1a404, [(0x10, 24)],
    [⟨31, 1, .bs, 0, true, true, false, none⟩,
     ⟨20, 9, .bs, 120, true, true, true, none⟩,
     ⟨10, 9, .bs, 20, true, true, true, none⟩,
     ⟨0, 8, .bs, 40, true, true, false, some (1, 255)⟩]⟩,
  -- PRT_CH[n]_SOFT
  ⟨0x1a408, [(0x10, 24)],
    [⟨20, 9, .bs, 20, true, true, true, none⟩,
     ⟨0, 8, .bs, 40, true, true, false, some (4, 255)⟩]⟩,
  -- PRT_CH[n]_STATUS
  ⟨0x1a40c, [(0x10, 24)],
    [⟨4, 1, .w1c, 0, false, false, false, none⟩,
     ⟨3, 1, .w1c, 0, false, false, false, none⟩,
     ⟨2, 1, .w1c, 0, false, false, false, none⟩,
     ⟨1, 1, .ro, 0, false, false, false, none⟩,
     ⟨0, 1, .ro, 0, false, false, false, none⟩]⟩,
  -- PRT_GRP[g]_CFG
  ⟨0x1a600, [(0x20, 8)],
    [⟨31, 1, .bs, 1, true, true, false, none⟩,
     ⟨8, 8, .bs, 0, true, true, false, none⟩]⟩]

/-- Registers of the PRT block. -/
def regsPrt1 : List RegDef := [
  -- PRT_GRP[g]_STATE
  ⟨0x1a604, [(0x20, 8)],
    [⟨29, 3, .ro, 0, false, false, false, none⟩,
     ⟨28, 1, .ro, 0, false, false, false, none⟩,
     ⟨27, 1, .ro, 0, false, false, false, none⟩,
     ⟨20, 4, .ro, 0, false, false, false, none⟩,
     ⟨16, 2, .ro, 0, false, false, false, none⟩,
     ⟨0, 12, .ro, 0, false, false, false, none⟩]⟩,
  -- PRT_GRP[g]_TEST
  ⟨0x1a608, [(0x20, 8)],
    [⟨31, 1, .ro, 0, false, false, false, none⟩,
     ⟨15, 3, .ro, 0, false, false, false, none⟩,
     ⟨12, 3, .ro, 0, false, false, false, none⟩,
     ⟨9, 3, .ro, 0, false, false, false, none⟩,
     ⟨6, 3, .ro, 0, false, false, false, none⟩,
     ⟨3, 3, .ro, 0, false, false, false, none⟩,
     ⟨0, 3, .ro, 0, false, false, false, none⟩]⟩,
  -- PRT_GRP[g]_WAIT_LEFT
  ⟨0x1a60c, [(0x20, 8)],
    [⟨0, 32, .ro, 0, false, false, false, none⟩]⟩,
  -- PRT_GRP[g]_TRIP_TIME_LO
  ⟨0x1a610, [(0x20, 8)],
    [⟨0, 32, .ro, 0, false, false, false, none⟩]⟩,
  -- PRT_GRP[g]_TRIP_TIME_HI
  ⟨0x1a614, [(0x20, 8)],
    [⟨0, 32, .ro, 0, false, false, false, none⟩]⟩,
  -- PRT_GRP[g]_TRIPS
  ⟨0x1a618, [(0x20, 8)],
    [⟨0, 32, .ro, 0, false, false, false, none⟩]⟩,
  -- PRT_GRP[g]_TEST_FAIL
  ⟨0x1a61c, [(0x20, 8)],
    [⟨8, 3, .ro, 0, false, false, false, none⟩,
     ⟨0, 5, .ro, 0, false, false, false, none⟩]⟩]

/-- Registers of the PRT block. -/
def regsPrt : List RegDef := levelReg 0x1a000 true :: (regsPrt0 ++ regsPrt1)

/-- Registers of the TH block. -/
def regsTh0 : List RegDef := [
  -- TH_STATUS
  ⟨0x1c004, [],
    [⟨6, 1, .ro, 0, false, false, false, none⟩,
     ⟨5, 1, .ro, 0, false, false, false, none⟩,
     ⟨4, 1, .ro, 0, false, false, false, none⟩,
     ⟨3, 1, .ro, 0, false, false, false, none⟩,
     ⟨1, 2, .ro, 0, false, false, false, none⟩,
     ⟨0, 1, .ro, 0, false, false, false, none⟩]⟩,
  -- TH_DIE
  ⟨0x1c008, [],
    [⟨16, 16, .ro, 0, false, false, true, none⟩,
     ⟨0, 16, .ro, 0, false, false, true, none⟩]⟩,
  -- TH_WINDOW
  ⟨0x1c00c, [],
    [⟨24, 8, .bs, 226, false, false, true, some (-55, 50)⟩,
     ⟨16, 8, .bs, 90, false, false, true, some (0, 120)⟩,
     ⟨8, 8, .bs, 115, false, false, true, some (60, 125)⟩]⟩,
  -- TH_EVENT
  ⟨0x1c010, [],
    [⟨6, 1, .w1c, 0, false, false, false, none⟩,
     ⟨5, 1, .w1c, 0, false, false, false, none⟩,
     ⟨4, 1, .w1c, 0, false, false, false, none⟩,
     ⟨3, 1, .w1c, 0, false, false, false, none⟩,
     ⟨2, 1, .w1c, 0, false, false, false, none⟩,
     ⟨1, 1, .w1c, 0, false, false, false, none⟩,
     ⟨0, 1, .w1c, 0, false, false, false, none⟩]⟩,
  -- TH_SD_INFO
  ⟨0x1c014, [],
    [⟨16, 16, .ro, 0, false, false, true, none⟩,
     ⟨0, 5, .ro, 0, false, false, false, none⟩]⟩,
  -- TH_ROUNDS
  ⟨0x1c018, [],
    [⟨0, 32, .ro, 0, false, false, false, none⟩]⟩,
  -- TH_SHUTDOWNS
  ⟨0x1c01c, [],
    [⟨0, 32, .ro, 0, false, false, false, none⟩]⟩,
  -- TH_SD_TIME_LO
  ⟨0x1c020, [],
    [⟨0, 32, .ro, 0, false, false, false, none⟩]⟩,
  -- TH_SD_TIME_HI
  ⟨0x1c024, [],
    [⟨0, 32, .ro, 0, false, false, false, none⟩]⟩,
  -- TH_HK_CH[k]_CFG
  ⟨0x1c100, [(0x4, 64)],
    [⟨29, 3, .ro, 0, false, false, false, none⟩,
     ⟨28, 1, .ro, 0, false, false, false, none⟩,
     ⟨23, 5, .ro, 0, false, false, false, none⟩]⟩,
  -- TH_HK_CH[k]_PARAM
  ⟨0x1c200, [(0x4, 64)],
    [⟨16, 16, .bs, 3435, true, false, true, none⟩,
     ⟨0, 16, .bs, 1000, true, false, true, none⟩]⟩,
  -- TH_HK_CH[k]_VALUE
  ⟨0x1c300, [(0x4, 64)],
    [⟨31, 1, .ro, 0, false, false, false, none⟩,
     ⟨30, 1, .ro, 0, false, false, false, none⟩,
     ⟨0, 16, .ro, 0, false, false, true, none⟩]⟩]

/-- Registers of the TH block. -/
def regsTh1 : List RegDef := [
  -- TH_GRP[g]_CFG
  ⟨0x1c400, [(0x8, 32)],
    [⟨24, 4, .ro, 0, false, false, false, none⟩,
     ⟨0, 16, .bs, 100, true, false, false, some (10, 500)⟩]⟩,
  -- TH_GRP[g]_STATE
  ⟨0x1c404, [(0x8, 32)],
    [⟨31, 1, .ro, 0, false, false, false, none⟩,
     ⟨27, 4, .ro, 0, false, false, false, none⟩,
     ⟨16, 8, .ro, 0, false, false, false, none⟩,
     ⟨0, 16, .ro, 0, false, false, true, none⟩]⟩,
  -- TH_LOOP[L]_CFG
  ⟨0x1c500, [(0x40, 4)],
    [⟨31, 1, .bs, 0, false, false, false, none⟩,
     ⟨30, 1, .ro, 0, false, false, false, none⟩,
     ⟨24, 3, .ro, 0, false, false, false, none⟩,
     ⟨23, 1, .ro, 0, false, false, false, none⟩,
     ⟨20, 3, .ro, 0, false, false, false, none⟩,
     ⟨18, 2, .ro, 0, false, false, false, none⟩,
     ⟨8, 6, .ro, 0, false, false, false, none⟩,
     ⟨0, 8, .ro, 0, false, false, false, none⟩]⟩,
  -- TH_LOOP[L]_MAP
  ⟨0x1c504, [(0x40, 4)],
    [⟨24, 5, .ro, 0, false, false, false, none⟩,
     ⟨16, 5, .ro, 0, false, false, false, none⟩,
     ⟨15, 1, .ro, 0, false, false, false, none⟩,
     ⟨8, 6, .ro, 0, false, false, false, none⟩]⟩,
  -- TH_LOOP[L]_FLOW
  ⟨0x1c508, [(0x40, 4)],
    [⟨16, 16, .bs, 300, false, false, false, some (10, 2000)⟩,
     ⟨0, 16, .bs, 30, false, false, false, none⟩]⟩,
  -- TH_LOOP[L]_PUMP
  ⟨0x1c50c, [(0x40, 4)],
    [⟨16, 16, .bs, 1000, true, false, false, some (0, 10000)⟩,
     ⟨0, 16, .bs, 25, true, false, false, none⟩]⟩,
  -- TH_LOOP[L]_PI
  ⟨0x1c510, [(0x40, 4)],
    [⟨16, 16, .bs, 10, true, false, false, none⟩,
     ⟨0, 16, .bs, 5, true, false, false, none⟩]⟩,
  -- TH_LOOP[L]_FAN
  ⟨0x1c514, [(0x40, 4)],
    [⟨16, 16, .bs, 350, false, false, true, none⟩,
     ⟨0, 16, .bs, 50, true, false, false, none⟩]⟩,
  -- TH_LOOP[L]_PRESS
  ⟨0x1c518, [(0x40, 4)],
    [⟨16, 16, .bs, 600, false, false, false, none⟩,
     ⟨0, 16, .bs, 50, false, false, false, none⟩]⟩,
  -- TH_LOOP[L]_FF
  ⟨0x1c51c, [(0x40, 4)],
    [⟨16, 16, .bs, 30, false, false, false, some (0, 3600)⟩,
     ⟨0, 16, .bs, 800, false, false, true, none⟩]⟩,
  -- TH_LOOP[L]_STATE
  ⟨0x1c520, [(0x40, 4)],
    [⟨16, 16, .ro, 0, false, false, false, none⟩,
     ⟨0, 16, .ro, 0, false, false, false, none⟩]⟩,
  -- TH_LOOP[L]_STATUS
  ⟨0x1c524, [(0x40, 4)],
    [⟨19, 1, .ro, 0, false, false, false, none⟩,
     ⟨18, 1, .ro, 0, false, false, false, none⟩,
     ⟨17, 1, .ro, 0, false, false, false, none⟩,
     ⟨16, 1, .ro, 0, false, false, false, none⟩,
     ⟨0, 14, .ro, 0, false, false, false, none⟩]⟩]

/-- Registers of the TH block. -/
def regsTh2 : List RegDef := [
  -- TH_OBS_RES20
  ⟨0x1c600, [],
    [⟨0, 32, .bs, 0, true, false, false, none⟩]⟩,
  -- TH_OBS_ALPHA
  ⟨0x1c604, [],
    [⟨0, 32, .bs, 0, true, false, false, none⟩]⟩,
  -- TH_OBS_RCONV
  ⟨0x1c608, [],
    [⟨0, 32, .bs, 0, true, false, false, none⟩]⟩,
  -- TH_OBS_RFLOW
  ⟨0x1c60c, [],
    [⟨0, 32, .bs, 0, true, false, false, none⟩]⟩,
  -- TH_OBS_CAP
  ⟨0x1c610, [],
    [⟨0, 32, .bs, 0, true, false, false, none⟩]⟩,
  -- TH_OBS_KPIN
  ⟨0x1c614, [],
    [⟨0, 32, .bs, 0, true, false, false, none⟩]⟩,
  -- TH_OBS_TAU_PIN
  ⟨0x1c618, [],
    [⟨0, 32, .bs, 0, true, false, false, none⟩]⟩,
  -- TH_STACK_ZTH
  ⟨0x1c61c, [],
    [⟨0, 32, .bs, 0, true, false, false, none⟩]⟩,
  -- TH_OBS_LIMIT
  ⟨0x1c620, [],
    [⟨16, 16, .bs, 900, false, false, true, some (400, 1500)⟩,
     ⟨0, 16, .bs, 850, false, false, true, some (400, 1200)⟩]⟩,
  -- TH_OBS_EST
  ⟨0x1c624, [],
    [⟨16, 16, .ro, 0, false, false, true, none⟩,
     ⟨0, 16, .ro, 0, false, false, true, none⟩]⟩,
  -- TH_OBS_CREDIT
  ⟨0x1c628, [],
    [⟨16, 16, .ro, 0, false, false, false, none⟩,
     ⟨0, 16, .ro, 0, false, false, false, none⟩]⟩,
  -- TH_OBS_BIAS
  ⟨0x1c62c, [],
    [⟨0, 16, .ro, 0, false, false, true, none⟩]⟩]

/-- Registers of the TH block. -/
def regsTh3 : List RegDef := [
  -- TH_OBS_CFG
  ⟨0x1c630, [],
    [⟨24, 5, .ro, 0, false, false, false, none⟩,
     ⟨16, 5, .ro, 0, false, false, false, none⟩,
     ⟨0, 1, .ro, 0, false, false, false, none⟩]⟩]

/-- Registers of the TH block. -/
def regsTh : List RegDef := levelReg 0x1c000 false :: (regsTh0 ++ regsTh1 ++ regsTh2 ++ regsTh3)

/-- Registers of the VLK block. -/
def regsVlk0 : List RegDef := [
  -- VLK_STATUS
  ⟨0x1e004, [],
    [⟨28, 4, .ro, 0, false, false, false, none⟩,
     ⟨26, 2, .ro, 0, false, false, false, none⟩,
     ⟨24, 2, .ro, 0, false, false, false, none⟩,
     ⟨23, 1, .ro, 0, false, false, false, none⟩,
     ⟨22, 1, .ro, 0, false, false, false, none⟩,
     ⟨21, 1, .ro, 0, false, false, false, none⟩,
     ⟨19, 2, .ro, 0, false, false, false, none⟩,
     ⟨18, 1, .ro, 0, false, false, false, none⟩,
     ⟨17, 1, .ro, 0, false, false, false, none⟩,
     ⟨16, 1, .ro, 0, false, false, false, none⟩,
     ⟨12, 4, .ro, 0, false, false, false, none⟩]⟩,
  -- VLK_REFUSE
  ⟨0x1e008, [],
    [⟨5, 1, .ro, 0, false, false, false, none⟩,
     ⟨4, 1, .ro, 0, false, false, false, none⟩,
     ⟨3, 1, .ro, 0, false, false, false, none⟩,
     ⟨2, 1, .ro, 0, false, false, false, none⟩,
     ⟨1, 1, .ro, 0, false, false, false, none⟩,
     ⟨0, 1, .ro, 0, false, false, false, none⟩]⟩,
  -- VLK_CTRL
  ⟨0x1e00c, [],
    [⟨16, 16, .wo, 0, false, false, false, none⟩,
     ⟨0, 3, .wo, 0, false, false, false, none⟩]⟩,
  -- VLK_CFG
  ⟨0x1e010, [],
    [⟨31, 1, .bs, 1, false, false, false, none⟩,
     ⟨30, 1, .bs, 0, false, false, false, none⟩,
     ⟨29, 1, .bs, 0, false, false, false, none⟩,
     ⟨28, 1, .bs, 0, false, false, false, none⟩,
     ⟨27, 1, .bs, 1, false, false, false, none⟩,
     ⟨26, 1, .bs, 1, false, false, false, none⟩,
     ⟨25, 1, .bs, 0, false, false, false, none⟩,
     ⟨16, 2, .ro, 0, false, false, false, none⟩,
     ⟨15, 1, .ro, 0, false, false, false, none⟩,
     ⟨14, 1, .ro, 0, false, false, false, none⟩]⟩,
  -- VLK_EV_MAX_A
  ⟨0x1e014, [],
    [⟨16, 16, .ro, 0, false, false, false, none⟩,
     ⟨0, 16, .ro, 0, false, false, false, none⟩]⟩,
  -- VLK_EV_MAX_B
  ⟨0x1e018, [],
    [⟨16, 16, .ro, 0, false, false, false, none⟩,
     ⟨0, 16, .ro, 0, false, false, false, none⟩]⟩,
  -- VLK_EV_TARGET
  ⟨0x1e01c, [],
    [⟨16, 16, .ro, 0, false, false, false, none⟩,
     ⟨0, 16, .ro, 0, false, false, true, none⟩]⟩,
  -- VLK_SESSION_ID_LO
  ⟨0x1e020, [],
    [⟨0, 32, .ro, 0, false, false, false, none⟩]⟩,
  -- VLK_SESSION_ID_HI
  ⟨0x1e024, [],
    [⟨0, 32, .ro, 0, false, false, false, none⟩]⟩,
  -- VLK_OFFER
  ⟨0x1e028, [],
    [⟨16, 16, .ro, 0, false, false, false, none⟩,
     ⟨0, 16, .ro, 0, false, false, false, none⟩]⟩,
  -- VLK_DEPART
  ⟨0x1e02c, [],
    [⟨16, 16, .ro, 0, false, false, false, none⟩,
     ⟨0, 16, .ro, 0, false, false, false, none⟩]⟩,
  -- VLK_SESSIONS
  ⟨0x1e030, [],
    [⟨0, 32, .ro, 0, false, false, false, none⟩]⟩]

/-- Registers of the VLK block. -/
def regsVlk1 : List RegDef := [
  -- VLK_REFUSED
  ⟨0x1e034, [],
    [⟨0, 32, .rc, 0, false, false, false, none⟩]⟩,
  -- VLK_EMAID[i]
  ⟨0x1e040, [(0x4, 5)],
    [⟨0, 32, .ro, 0, false, false, false, none⟩]⟩,
  -- VLK_IMD_R_TOTAL
  ⟨0x1e060, [],
    [⟨0, 32, .ro, 4294967295, false, false, false, none⟩]⟩,
  -- VLK_IMD_R_POS
  ⟨0x1e064, [],
    [⟨0, 32, .ro, 4294967295, false, false, false, none⟩]⟩,
  -- VLK_IMD_R_NEG
  ⟨0x1e068, [],
    [⟨0, 32, .ro, 4294967295, false, false, false, none⟩]⟩,
  -- VLK_CC
  ⟨0x1e070, [],
    [⟨16, 16, .bs, 2000, true, true, false, some (100, 5000)⟩,
     ⟨8, 8, .bs, 10, true, true, false, some (2, 60)⟩,
     ⟨0, 8, .bs, 10, true, true, false, some (1, 255)⟩]⟩,
  -- VLK_PRE
  ⟨0x1e074, [],
    [⟨16, 16, .bs, 200, true, true, false, some (10, 1000)⟩,
     ⟨8, 8, .bs, 7, true, true, false, some (1, 60)⟩]⟩,
  -- VLK_STOP
  ⟨0x1e078, [],
    [⟨24, 8, .bs, 10, true, true, false, some (2, 30)⟩,
     ⟨16, 8, .bs, 20, true, true, false, some (1, 100)⟩,
     ⟨8, 8, .bs, 100, true, true, false, some (10, 200)⟩,
     ⟨0, 8, .bs, 25, true, true, false, some (5, 90)⟩]⟩,
  -- VLK_IMD_CFG
  ⟨0x1e07c, [],
    [⟨22, 10, .bs, 500, true, true, false, some (100, 1000)⟩,
     ⟨12, 10, .bs, 100, true, true, false, some (50, 1000)⟩,
     ⟨0, 8, .bs, 10, true, true, false, some (5, 40)⟩]⟩,
  -- VLK_IMD_STATUS
  ⟨0x1e080, [],
    [⟨31, 1, .ro, 0, false, false, false, none⟩,
     ⟨30, 1, .ro, 0, false, false, false, none⟩,
     ⟨29, 1, .ro, 0, false, false, false, none⟩,
     ⟨0, 16, .ro, 0, false, false, false, none⟩]⟩,
  -- VLK_WELD
  ⟨0x1e084, [],
    [⟨30, 2, .ro, 0, false, false, false, none⟩,
     ⟨29, 1, .ro, 0, false, false, false, none⟩,
     ⟨28, 1, .ro, 0, false, false, false, none⟩,
     ⟨27, 1, .ro, 0, false, false, false, none⟩,
     ⟨26, 1, .ro, 0, false, false, false, none⟩]⟩,
  -- VLK_AUTH
  ⟨0x1e088, [],
    [⟨16, 16, .bs, 60, false, false, false, some (5, 600)⟩]⟩]

/-- Registers of the VLK block. -/
def regsVlk : List RegDef := levelReg 0x1e000 true :: (regsVlk0 ++ regsVlk1)

/-- Registers of the MET block. -/
def regsMet0 : List RegDef := [
  -- MET_STATUS
  ⟨0x20004, [],
    [⟨8, 2, .ro, 0, false, false, false, none⟩,
     ⟨7, 1, .ro, 0, false, false, false, none⟩,
     ⟨6, 1, .ro, 0, false, false, false, none⟩,
     ⟨5, 1, .ro, 0, false, false, false, none⟩,
     ⟨4, 1, .ro, 0, false, false, false, none⟩,
     ⟨3, 1, .ro, 0, false, false, false, none⟩,
     ⟨2, 1, .ro, 0, false, false, false, none⟩,
     ⟨1, 1, .ro, 0, false, false, false, none⟩,
     ⟨0, 1, .ro, 0, false, false, false, none⟩]⟩,
  -- MET_EVENT
  ⟨0x20008, [],
    [⟨5, 1, .w1c, 0, false, false, false, none⟩,
     ⟨4, 1, .w1c, 0, false, false, false, none⟩,
     ⟨3, 1, .w1c, 0, false, false, false, none⟩,
     ⟨2, 1, .w1c, 0, false, false, false, none⟩,
     ⟨1, 1, .w1c, 0, false, false, false, none⟩,
     ⟨0, 1, .w1c, 0, false, false, false, none⟩]⟩,
  -- MET_XCHK_CFG
  ⟨0x2000c, [],
    [⟨31, 1, .bs, 1, false, false, false, none⟩,
     ⟨8, 8, .bs, 20, false, false, false, some (5, 200)⟩,
     ⟨0, 8, .bs, 10, false, false, false, none⟩]⟩,
  -- MET_E_IMP_ALL_LO
  ⟨0x20010, [],
    [⟨0, 32, .ro, 0, false, false, false, none⟩]⟩,
  -- MET_E_IMP_ALL_HI
  ⟨0x20014, [],
    [⟨0, 32, .ro, 0, false, false, false, none⟩]⟩,
  -- MET_E_EXP_ALL_LO
  ⟨0x20018, [],
    [⟨0, 32, .ro, 0, false, false, false, none⟩]⟩,
  -- MET_E_EXP_ALL_HI
  ⟨0x2001c, [],
    [⟨0, 32, .ro, 0, false, false, false, none⟩]⟩,
  -- MET_E_IMP_SESS_LO
  ⟨0x20020, [],
    [⟨0, 32, .ro, 0, false, false, false, none⟩]⟩,
  -- MET_E_IMP_SESS_HI
  ⟨0x20024, [],
    [⟨0, 32, .ro, 0, false, false, false, none⟩]⟩,
  -- MET_E_EXP_SESS_LO
  ⟨0x20028, [],
    [⟨0, 32, .ro, 0, false, false, false, none⟩]⟩,
  -- MET_E_EXP_SESS_HI
  ⟨0x2002c, [],
    [⟨0, 32, .ro, 0, false, false, false, none⟩]⟩,
  -- MET_PARTNER_IMP_LO
  ⟨0x20030, [],
    [⟨0, 32, .ro, 0, false, false, false, none⟩]⟩]

/-- Registers of the MET block. -/
def regsMet1 : List RegDef := [
  -- MET_PARTNER_IMP_HI
  ⟨0x20034, [],
    [⟨0, 32, .ro, 0, false, false, false, none⟩]⟩,
  -- MET_PARTNER_EXP_LO
  ⟨0x20038, [],
    [⟨0, 32, .ro, 0, false, false, false, none⟩]⟩,
  -- MET_PARTNER_EXP_HI
  ⟨0x2003c, [],
    [⟨0, 32, .ro, 0, false, false, false, none⟩]⟩,
  -- MET_REVERSALS
  ⟨0x20040, [],
    [⟨0, 32, .ro, 0, false, false, false, none⟩]⟩,
  -- MET_UNSAVED_BOUND
  ⟨0x20044, [],
    [⟨0, 32, .ro, 0, false, false, false, none⟩]⟩,
  -- MET_GAP_TICKS
  ⟨0x20048, [],
    [⟨0, 32, .ro, 0, false, false, false, none⟩]⟩,
  -- MET_SAVE_SEQ
  ⟨0x2004c, [],
    [⟨0, 32, .ro, 0, false, false, false, none⟩]⟩,
  -- MET_PI[i]_CFG
  ⟨0x20100, [(0x20, 8)],
    [⟨30, 2, .bs, 0, false, false, false, none⟩,
     ⟨29, 1, .bs, 0, false, false, false, none⟩,
     ⟨28, 1, .bs, 0, false, false, false, none⟩,
     ⟨0, 16, .bs, 2000, false, false, false, none⟩]⟩,
  -- MET_PI[i]_COUNT_LO
  ⟨0x20104, [(0x20, 8)],
    [⟨0, 32, .ro, 0, false, false, false, none⟩]⟩,
  -- MET_PI[i]_COUNT_HI
  ⟨0x20108, [(0x20, 8)],
    [⟨0, 32, .ro, 0, false, false, false, none⟩]⟩,
  -- MET_PI[i]_WEIGHT
  ⟨0x2010c, [(0x20, 8)],
    [⟨0, 32, .bs, 1000, false, false, false, none⟩]⟩,
  -- MET_PI[i]_EDGE_TIME_LO
  ⟨0x20110, [(0x20, 8)],
    [⟨0, 32, .ro, 0, false, false, false, none⟩]⟩]

/-- Registers of the MET block. -/
def regsMet2 : List RegDef := [
  -- MET_PI[i]_EDGE_TIME_HI
  ⟨0x20114, [(0x20, 8)],
    [⟨0, 32, .ro, 0, false, false, false, none⟩]⟩,
  -- MET_PI[i]_GLITCH
  ⟨0x20118, [(0x20, 8)],
    [⟨0, 32, .rc, 0, false, false, false, none⟩]⟩,
  -- MET_PI[i]_STATUS
  ⟨0x2011c, [(0x20, 8)],
    [⟨0, 1, .ro, 0, false, false, false, none⟩]⟩,
  -- MET_PO[k]_CFG
  ⟨0x20300, [(0x20, 8)],
    [⟨28, 4, .bs, 0, false, false, false, none⟩,
     ⟨27, 1, .bs, 0, false, false, false, none⟩,
     ⟨26, 1, .bs, 0, false, false, false, none⟩,
     ⟨23, 3, .bs, 0, false, false, false, none⟩,
     ⟨0, 10, .bs, 30, false, false, false, some (1, 1000)⟩]⟩,
  -- MET_PO[k]_STATUS
  ⟨0x20304, [(0x20, 8)],
    [⟨1, 1, .w1c, 0, false, false, false, none⟩,
     ⟨0, 1, .ro, 0, false, false, false, none⟩]⟩,
  -- MET_PO[k]_WEIGHT
  ⟨0x20308, [(0x20, 8)],
    [⟨0, 32, .bs, 0, false, false, false, none⟩]⟩,
  -- MET_PO[k]_PENDING
  ⟨0x2030c, [(0x20, 8)],
    [⟨0, 32, .ro, 0, false, false, false, none⟩]⟩]

/-- Registers of the MET block. -/
def regsMet : List RegDef := levelReg 0x20000 false :: (regsMet0 ++ regsMet1 ++ regsMet2)

/-- Registers of the BIL block. -/
def regsBil0 : List RegDef := [
  -- BIL_STATUS
  ⟨0x22004, [],
    [⟨23, 1, .ro, 0, false, false, false, none⟩,
     ⟨22, 1, .ro, 0, false, false, false, none⟩,
     ⟨21, 1, .ro, 0, false, false, false, none⟩,
     ⟨20, 1, .ro, 0, false, false, false, none⟩,
     ⟨19, 1, .ro, 0, false, false, false, none⟩,
     ⟨18, 1, .ro, 0, false, false, false, none⟩,
     ⟨16, 2, .ro, 2, false, false, false, none⟩,
     ⟨8, 5, .ro, 0, false, false, false, none⟩,
     ⟨0, 1, .ro, 0, false, false, false, none⟩]⟩,
  -- BIL_EVENT
  ⟨0x22008, [],
    [⟨7, 1, .w1c, 0, false, false, false, none⟩,
     ⟨6, 1, .w1c, 0, false, false, false, none⟩,
     ⟨5, 1, .w1c, 0, false, false, false, none⟩,
     ⟨4, 1, .w1c, 0, false, false, false, none⟩,
     ⟨3, 1, .w1c, 0, false, false, false, none⟩,
     ⟨2, 1, .w1c, 0, false, false, false, none⟩,
     ⟨1, 1, .w1c, 0, false, false, false, none⟩,
     ⟨0, 1, .w1c, 0, false, false, false, none⟩]⟩,
  -- BIL_CMD
  ⟨0x2200c, [],
    [⟨16, 16, .wo, 0, false, false, false, none⟩,
     ⟨0, 2, .wo, 0, false, false, false, none⟩]⟩,
  -- BIL_LEDGER_LO
  ⟨0x22010, [],
    [⟨0, 32, .ro, 0, false, false, false, none⟩]⟩,
  -- BIL_LEDGER_HI
  ⟨0x22014, [],
    [⟨0, 32, .ro, 0, false, false, false, none⟩]⟩,
  -- BIL_CAL_LO
  ⟨0x22018, [],
    [⟨0, 32, .ro, 0, false, false, false, none⟩]⟩,
  -- BIL_CAL_HI
  ⟨0x2201c, [],
    [⟨0, 32, .ro, 0, false, false, false, none⟩]⟩,
  -- BIL_HWM_LO
  ⟨0x22020, [],
    [⟨0, 32, .ro, 0, false, false, false, none⟩]⟩,
  -- BIL_HWM_HI
  ⟨0x22024, [],
    [⟨0, 32, .ro, 0, false, false, false, none⟩]⟩,
  -- BIL_INT
  ⟨0x22028, [],
    [⟨7, 1, .ro, 0, false, false, false, none⟩,
     ⟨0, 6, .ro, 0, false, false, false, none⟩]⟩,
  -- BIL_TIME
  ⟨0x2202c, [],
    [⟨16, 8, .ro, 0, false, false, false, none⟩,
     ⟨0, 16, .ro, 0, false, false, true, none⟩]⟩,
  -- BIL_INT_IMP_LO
  ⟨0x22030, [],
    [⟨0, 32, .ro, 0, false, false, false, none⟩]⟩]

/-- Registers of the BIL block. -/
def regsBil1 : List RegDef := [
  -- BIL_INT_IMP_HI
  ⟨0x22034, [],
    [⟨0, 32, .ro, 0, false, false, false, none⟩]⟩,
  -- BIL_INT_EXP_LO
  ⟨0x22038, [],
    [⟨0, 32, .ro, 0, false, false, false, none⟩]⟩,
  -- BIL_INT_EXP_HI
  ⟨0x2203c, [],
    [⟨0, 32, .ro, 0, false, false, false, none⟩]⟩,
  -- BIL_INT_LEFT
  ⟨0x22040, [],
    [⟨0, 32, .ro, 0, false, false, false, none⟩]⟩,
  -- BIL_LAST_DEM_IMP
  ⟨0x22044, [],
    [⟨0, 32, .ro, 0, false, false, false, none⟩]⟩,
  -- BIL_LAST_DEM_EXP
  ⟨0x22048, [],
    [⟨0, 32, .ro, 0, false, false, false, none⟩]⟩,
  -- BIL_MAX_DEM_IMP
  ⟨0x2204c, [],
    [⟨0, 32, .ro, 0, false, false, false, none⟩]⟩,
  -- BIL_MAX_DEM_EXP
  ⟨0x22050, [],
    [⟨0, 32, .ro, 0, false, false, false, none⟩]⟩,
  -- BIL_INT_NO
  ⟨0x22054, [],
    [⟨0, 32, .ro, 0, false, false, false, none⟩]⟩,
  -- BIL_JRNL_CFG
  ⟨0x22058, [],
    [⟨16, 16, .bs, 0, true, false, false, some (0, 3650)⟩,
     ⟨0, 13, .bs, 256, true, false, false, some (64, 4096)⟩]⟩,
  -- BIL_JRNL_SEQ_LO
  ⟨0x22060, [],
    [⟨0, 32, .ro, 0, false, false, false, none⟩]⟩,
  -- BIL_JRNL_SEQ_HI
  ⟨0x22064, [],
    [⟨0, 32, .ro, 0, false, false, false, none⟩]⟩]

/-- Registers of the BIL block. -/
def regsBil2 : List RegDef := [
  -- BIL_JRNL_FREE
  ⟨0x22068, [],
    [⟨0, 32, .ro, 0, false, false, false, none⟩]⟩,
  -- BIL_JRNL_VIEW
  ⟨0x2206c, [],
    [⟨0, 32, .rw, 0, false, false, false, none⟩]⟩,
  -- BIL_MBX_REFUSED
  ⟨0x22070, [],
    [⟨0, 32, .rc, 0, false, false, false, none⟩]⟩,
  -- BIL_TAMPER
  ⟨0x22074, [],
    [⟨24, 8, .ro, 0, false, false, false, none⟩,
     ⟨8, 4, .ro, 0, false, false, false, none⟩,
     ⟨7, 1, .ro, 0, false, false, false, none⟩,
     ⟨3, 1, .ro, 0, false, false, false, none⟩,
     ⟨2, 1, .ro, 0, false, false, false, none⟩,
     ⟨1, 1, .ro, 0, false, false, false, none⟩,
     ⟨0, 1, .ro, 0, false, false, false, none⟩]⟩,
  -- BIL_T[t]_IMP_LO
  ⟨0x22100, [(0x10, 16)],
    [⟨0, 32, .ro, 0, false, false, false, none⟩]⟩,
  -- BIL_T[t]_IMP_HI
  ⟨0x22104, [(0x10, 16)],
    [⟨0, 32, .ro, 0, false, false, false, none⟩]⟩,
  -- BIL_T[t]_EXP_LO
  ⟨0x22108, [(0x10, 16)],
    [⟨0, 32, .ro, 0, false, false, false, none⟩]⟩,
  -- BIL_T[t]_EXP_HI
  ⟨0x2210c, [(0x10, 16)],
    [⟨0, 32, .ro, 0, false, false, false, none⟩]⟩]

/-- Registers of the BIL block. -/
def regsBil : List RegDef := levelReg 0x22000 false :: (regsBil0 ++ regsBil1 ++ regsBil2)

/-- Registers of the KEY block. -/
def regsKey0 : List RegDef := [
  -- KEY_STATUS
  ⟨0x24004, [],
    [⟨10, 1, .ro, 0, false, false, false, none⟩,
     ⟨9, 1, .w1c, 0, false, false, false, none⟩,
     ⟨8, 1, .ro, 0, false, false, false, none⟩,
     ⟨7, 1, .ro, 0, false, false, false, none⟩,
     ⟨6, 1, .ro, 0, false, false, false, none⟩,
     ⟨5, 1, .ro, 0, false, false, false, none⟩,
     ⟨0, 3, .ro, 0, false, false, false, none⟩]⟩,
  -- KEY_CMD
  ⟨0x24008, [],
    [⟨16, 16, .wo, 0, false, false, false, none⟩,
     ⟨0, 2, .wo, 0, false, false, false, none⟩]⟩,
  -- KEY_JOB_STATUS
  ⟨0x2400c, [],
    [⟨31, 1, .ro, 0, false, false, false, none⟩,
     ⟨0, 4, .ro, 0, false, false, false, none⟩]⟩,
  -- KEY_DEVICE_ID_LO
  ⟨0x24010, [],
    [⟨0, 32, .ro, 0, false, false, false, none⟩]⟩,
  -- KEY_DEVICE_ID_HI
  ⟨0x24014, [],
    [⟨0, 32, .ro, 0, false, false, false, none⟩]⟩,
  -- KEY_COUNTER_LO
  ⟨0x24018, [],
    [⟨0, 32, .ro, 0, false, false, false, none⟩]⟩,
  -- KEY_COUNTER_HI
  ⟨0x2401c, [],
    [⟨0, 32, .ro, 0, false, false, false, none⟩]⟩,
  -- KEY_JOBS
  ⟨0x24020, [],
    [⟨0, 32, .rc, 0, false, false, false, none⟩]⟩,
  -- KEY_BLOBS
  ⟨0x24024, [],
    [⟨0, 7, .ro, 0, false, false, false, none⟩]⟩,
  -- KEY_PUB_SEL
  ⟨0x24028, [],
    [⟨0, 2, .rw, 0, false, false, false, none⟩]⟩,
  -- KEY_GEN
  ⟨0x2402c, [],
    [⟨18, 14, .ro, 0, false, false, false, none⟩,
     ⟨4, 14, .ro, 0, false, false, false, none⟩]⟩,
  -- KEY_CERT_ADDR
  ⟨0x24030, [],
    [⟨0, 32, .rw, 0, false, false, false, none⟩]⟩]

/-- Registers of the KEY block. -/
def regsKey1 : List RegDef := [
  -- KEY_CERT_DATA
  ⟨0x24034, [],
    [⟨0, 32, .rw, 0, false, false, false, none⟩]⟩,
  -- KEY_GEN_PAIR
  ⟨0x24038, [],
    [⟨0, 14, .ro, 0, false, false, false, none⟩]⟩,
  -- KEY_JOB_BUF[i]
  ⟨0x24100, [(0x4, 28)],
    [⟨0, 32, .rw, 0, false, false, false, none⟩]⟩,
  -- KEY_ATT_CHAL[i]
  ⟨0x24180, [(0x4, 8)],
    [⟨0, 32, .rw, 0, false, false, false, none⟩]⟩,
  -- KEY_ATT_RESP[i]
  ⟨0x241a0, [(0x4, 12)],
    [⟨0, 32, .ro, 0, false, false, false, none⟩]⟩,
  -- KEY_ENROL_DATA[i]
  ⟨0x241e0, [(0x4, 12)],
    [⟨0, 32, .ro, 0, false, false, false, none⟩]⟩,
  -- KEY_PUB_DATA[i]
  ⟨0x24240, [(0x4, 24)],
    [⟨0, 32, .ro, 0, false, false, false, none⟩]⟩,
  -- KEY_SLOT[s]
  ⟨0x24300, [(0x4, 64)],
    [⟨31, 1, .ro, 0, false, false, false, none⟩,
     ⟨30, 1, .ro, 0, false, false, false, none⟩,
     ⟨29, 1, .ro, 0, false, false, false, none⟩,
     ⟨16, 8, .ro, 0, false, false, false, none⟩,
     ⟨0, 16, .ro, 0, false, false, false, none⟩]⟩,
  -- KEY_CLIENT[j]
  ⟨0x24400, [(0x4, 16)],
    [⟨31, 1, .ro, 0, false, false, false, none⟩,
     ⟨30, 1, .ro, 0, false, false, false, none⟩,
     ⟨29, 1, .ro, 0, false, false, false, none⟩,
     ⟨0, 16, .ro, 0, false, false, false, none⟩]⟩,
  -- KEY_TRUST[j]
  ⟨0x24440, [(0x4, 32)],
    [⟨31, 1, .ro, 0, false, false, false, none⟩,
     ⟨16, 8, .ro, 0, false, false, false, none⟩,
     ⟨0, 16, .ro, 0, false, false, false, none⟩]⟩]

/-- Registers of the KEY block. -/
def regsKey : List RegDef := levelReg 0x24000 false :: (regsKey0 ++ regsKey1)

/-- Registers of the PAIR block. -/
def regsPair0 : List RegDef := [
  -- PAIR_STATUS
  ⟨0x26004, [],
    [⟨28, 4, .ro, 0, false, false, false, none⟩,
     ⟨27, 1, .ro, 0, false, false, false, none⟩,
     ⟨26, 1, .ro, 0, false, false, false, none⟩,
     ⟨25, 1, .ro, 0, false, false, false, none⟩,
     ⟨24, 1, .ro, 0, false, false, false, none⟩,
     ⟨23, 1, .ro, 0, false, false, false, none⟩,
     ⟨22, 1, .ro, 0, false, false, false, none⟩,
     ⟨21, 1, .w1c, 0, false, false, false, none⟩,
     ⟨8, 8, .ro, 0, false, false, false, none⟩,
     ⟨0, 8, .ro, 0, false, false, false, none⟩]⟩,
  -- PAIR_IDENT
  ⟨0x26008, [],
    [⟨24, 6, .ro, 0, false, false, false, none⟩,
     ⟨16, 7, .ro, 0, false, false, false, none⟩,
     ⟨8, 7, .ro, 0, false, false, false, none⟩]⟩,
  -- PAIR_CMD
  ⟨0x2600c, [],
    [⟨16, 16, .wo, 0, false, false, false, none⟩,
     ⟨0, 2, .wo, 0, false, false, false, none⟩]⟩,
  -- PAIR_CFG
  ⟨0x26010, [],
    [⟨15, 1, .bs, 1, true, true, false, none⟩,
     ⟨0, 8, .bs, 10, true, true, false, some (1, 255)⟩]⟩,
  -- PAIR_MISSED
  ⟨0x26014, [],
    [⟨0, 32, .rc, 0, false, false, false, none⟩]⟩,
  -- PAIR_SWITCHOVERS
  ⟨0x26018, [],
    [⟨0, 32, .ro, 0, false, false, false, none⟩]⟩,
  -- PAIR_VOTES
  ⟨0x2601c, [],
    [⟨16, 16, .rc, 0, false, false, false, none⟩,
     ⟨0, 16, .rc, 0, false, false, false, none⟩]⟩,
  -- PAIR_WIT_GRANTS
  ⟨0x26020, [],
    [⟨0, 32, .rc, 0, false, false, false, none⟩]⟩,
  -- PAIR_LAST
  ⟨0x26024, [],
    [⟨28, 4, .ro, 0, false, false, false, none⟩,
     ⟨0, 16, .ro, 0, false, false, false, none⟩]⟩,
  -- PAIR_LAST_TIME_LO
  ⟨0x26028, [],
    [⟨0, 32, .ro, 0, false, false, false, none⟩]⟩,
  -- PAIR_LAST_TIME_HI
  ⟨0x2602c, [],
    [⟨0, 32, .ro, 0, false, false, false, none⟩]⟩,
  -- PAIR_SHADOW
  ⟨0x26030, [],
    [⟨16, 16, .ro, 0, false, false, false, none⟩,
     ⟨0, 10, .ro, 0, false, false, false, none⟩]⟩]

/-- Registers of the PAIR block. -/
def regsPair1 : List RegDef := [
  -- PAIR_BULK
  ⟨0x26034, [],
    [⟨0, 9, .ro, 0, false, false, false, none⟩]⟩,
  -- PAIR_FLOAT
  ⟨0x26038, [],
    [⟨31, 1, .ro, 0, false, false, false, none⟩,
     ⟨28, 3, .ro, 0, false, false, false, none⟩,
     ⟨27, 1, .ro, 0, false, false, false, none⟩,
     ⟨16, 7, .ro, 0, false, false, false, none⟩]⟩,
  -- PAIR_BUDGET
  ⟨0x2603c, [],
    [⟨16, 8, .ro, 0, false, false, false, none⟩,
     ⟨8, 8, .ro, 0, false, false, false, none⟩,
     ⟨0, 8, .ro, 0, false, false, false, none⟩]⟩]

/-- Registers of the PAIR block. -/
def regsPair : List RegDef := levelReg 0x26000 true :: (regsPair0 ++ regsPair1)

/-- Registers of the SAF block. -/
def regsSaf0 : List RegDef := [
  -- SAF_STATUS
  ⟨0x28004, [],
    [⟨3, 1, .ro, 0, false, false, false, none⟩,
     ⟨2, 1, .ro, 0, false, false, false, none⟩,
     ⟨1, 1, .ro, 0, false, false, false, none⟩,
     ⟨0, 1, .ro, 0, false, false, false, none⟩]⟩,
  -- SAF_CMD
  ⟨0x28008, [],
    [⟨16, 16, .wo, 0, false, false, false, none⟩,
     ⟨0, 2, .wo, 0, false, false, false, none⟩]⟩,
  -- SAF_FAULT
  ⟨0x2800c, [],
    [⟨24, 8, .ro, 0, false, false, false, none⟩,
     ⟨16, 8, .ro, 0, false, false, false, none⟩,
     ⟨0, 1, .ro, 0, false, false, false, none⟩]⟩,
  -- SAF_DEMAND
  ⟨0x28010, [],
    [⟨0, 16, .ro, 0, false, false, false, none⟩]⟩,
  -- SAF_PARAM_CRC
  ⟨0x28014, [],
    [⟨0, 32, .ro, 0, false, false, false, none⟩]⟩,
  -- SAF_LOG_SEQ_LO
  ⟨0x28018, [],
    [⟨0, 32, .ro, 0, false, false, false, none⟩]⟩,
  -- SAF_LOG_SEQ_HI
  ⟨0x2801c, [],
    [⟨0, 32, .ro, 0, false, false, false, none⟩]⟩,
  -- SAF_LOG_LOST
  ⟨0x28020, [],
    [⟨0, 32, .ro, 0, false, false, false, none⟩]⟩,
  -- SAF_LOCKOUTS
  ⟨0x28024, [],
    [⟨0, 32, .ro, 0, false, false, false, none⟩]⟩,
  -- SAF_IN[k]_CFG
  ⟨0x28100, [(0x10, 4)],
    [⟨31, 1, .bs, 0, false, true, false, none⟩,
     ⟨30, 1, .bs, 0, false, true, false, none⟩,
     ⟨16, 14, .bs, 0, false, true, false, none⟩,
     ⟨8, 8, .bs, 50, false, true, false, some (10, 255)⟩,
     ⟨0, 8, .bs, 10, false, true, false, some (1, 50)⟩]⟩,
  -- SAF_IN[k]_STATUS
  ⟨0x28104, [(0x10, 4)],
    [⟨2, 1, .ro, 0, false, false, false, none⟩,
     ⟨1, 1, .ro, 0, false, false, false, none⟩,
     ⟨0, 1, .ro, 0, false, false, false, none⟩]⟩,
  -- SAF_OUT[i]_STATUS
  ⟨0x28200, [(0x4, 24)],
    [⟨3, 1, .ro, 0, false, false, false, none⟩,
     ⟨2, 1, .ro, 0, false, false, false, none⟩,
     ⟨1, 1, .ro, 0, false, false, false, none⟩,
     ⟨0, 1, .ro, 0, false, false, false, none⟩]⟩]

/-- Registers of the SAF block. -/
def regsSaf1 : List RegDef := [
  -- SAF_CONN[j]_CFG
  ⟨0x28300, [(0x10, 16)],
    [⟨30, 2, .ro, 0, false, false, false, none⟩,
     ⟨16, 14, .bs, 0, false, true, false, none⟩,
     ⟨0, 14, .bs, 0, false, true, false, none⟩]⟩,
  -- SAF_CONN[j]_ID
  ⟨0x28304, [(0x10, 16)],
    [⟨0, 32, .ro, 0, false, false, false, none⟩]⟩,
  -- SAF_CONN[j]_STATUS
  ⟨0x28308, [(0x10, 16)],
    [⟨30, 2, .ro, 0, false, false, false, none⟩,
     ⟨16, 10, .ro, 0, false, false, false, none⟩,
     ⟨0, 16, .ro, 0, false, false, false, none⟩]⟩,
  -- SAF_CONN[j]_ERR
  ⟨0x2830c, [(0x10, 16)],
    [⟨0, 32, .rc, 0, false, false, false, none⟩]⟩,
  -- SAF_PW_BUF[i]
  ⟨0x28400, [(0x4, 12)],
    [⟨0, 32, .wo, 0, false, false, false, none⟩]⟩]

/-- Registers of the SAF block. -/
def regsSaf : List RegDef := levelReg 0x28000 true :: (regsSaf0 ++ regsSaf1)

/-- Registers of the QUE block. -/
def regsQue0 : List RegDef := [
  -- QUE_STATUS
  ⟨0x2a004, [],
    [⟨16, 16, .ro, 0, false, false, false, none⟩,
     ⟨0, 16, .ro, 0, false, false, false, none⟩]⟩,
  -- QUE_IRQ_STATUS
  ⟨0x2a008, [],
    [⟨3, 1, .ro, 0, false, false, false, none⟩,
     ⟨2, 1, .w1c, 0, false, false, false, none⟩,
     ⟨1, 1, .w1c, 0, false, false, false, none⟩,
     ⟨0, 1, .w1c, 0, false, false, false, none⟩]⟩,
  -- QUE_IRQ_EN
  ⟨0x2a00c, [],
    [⟨0, 4, .rw, 0, false, false, false, none⟩]⟩,
  -- QUE_IRQ_CLASS
  ⟨0x2a010, [],
    [⟨16, 16, .rw, 0, false, false, false, none⟩,
     ⟨0, 16, .rw, 0, false, false, false, none⟩]⟩,
  -- QUE_IRQ_SEV
  ⟨0x2a014, [],
    [⟨2, 2, .rw, 1, false, false, false, none⟩,
     ⟨0, 2, .rw, 1, false, false, false, none⟩]⟩,
  -- QUE_FR_HEAD
  ⟨0x2a020, [],
    [⟨0, 32, .ro, 0, false, false, false, none⟩]⟩,
  -- QUE_FR_OVERFLOW
  ⟨0x2a024, [],
    [⟨0, 32, .ro, 0, false, false, false, none⟩]⟩,
  -- QUE_Q[q]_DEPTH
  ⟨0x2a100, [(0x10, 16)],
    [⟨28, 4, .ro, 0, false, false, false, none⟩,
     ⟨16, 12, .ro, 0, false, false, false, none⟩,
     ⟨0, 12, .ro, 0, false, false, false, none⟩]⟩,
  -- QUE_Q[q]_ENTRY
  ⟨0x2a104, [(0x10, 16)],
    [⟨0, 11, .ro, 0, false, false, false, none⟩]⟩,
  -- QUE_Q[q]_LOST
  ⟨0x2a108, [(0x10, 16)],
    [⟨0, 32, .rc, 0, false, false, false, none⟩]⟩,
  -- QUE_Q[q]_HWM
  ⟨0x2a10c, [(0x10, 16)],
    [⟨0, 32, .rc, 0, false, false, false, none⟩]⟩,
  -- QUE_MBX_OUT[i]
  ⟨0x2a300, [(0x4, 4)],
    [⟨0, 32, .ro, 0, false, false, false, none⟩]⟩]

/-- Registers of the QUE block. -/
def regsQue1 : List RegDef := [
  -- QUE_MBX_IN[i]
  ⟨0x2a320, [(0x4, 4)],
    [⟨0, 32, .wo, 0, false, false, false, none⟩]⟩,
  -- QUE_MBX_CTRL
  ⟨0x2a340, [],
    [⟨16, 16, .wo, 0, false, false, false, none⟩,
     ⟨1, 1, .wo, 0, false, false, false, none⟩,
     ⟨0, 1, .wo, 0, false, false, false, none⟩]⟩,
  -- QUE_MBX_MASK
  ⟨0x2a344, [],
    [⟨16, 16, .rw, 512, false, false, false, none⟩,
     ⟨0, 2, .rw, 3, false, false, false, none⟩]⟩,
  -- QUE_TRACE_DATA
  ⟨0x2a400, [],
    [⟨0, 32, .rc, 0, false, false, false, none⟩]⟩,
  -- QUE_TRACE_LEVEL
  ⟨0x2a404, [],
    [⟨0, 32, .ro, 0, false, false, false, none⟩]⟩,
  -- QUE_TRACE_LOST
  ⟨0x2a408, [],
    [⟨0, 32, .rc, 0, false, false, false, none⟩]⟩]

/-- Registers of the QUE block. -/
def regsQue : List RegDef := levelReg 0x2a000 false :: (regsQue0 ++ regsQue1)

/-- Registers of the CLK block. -/
def regsClk0 : List RegDef := [
  -- CLK_STATUS
  ⟨0x2c004, [],
    [⟨10, 2, .ro, 0, false, false, false, none⟩,
     ⟨9, 1, .ro, 0, false, false, false, none⟩,
     ⟨8, 1, .ro, 0, false, false, false, none⟩,
     ⟨7, 1, .ro, 0, false, false, false, none⟩,
     ⟨0, 5, .ro, 0, false, false, false, none⟩]⟩,
  -- CLK_CMD
  ⟨0x2c008, [],
    [⟨16, 16, .wo, 0, false, false, false, none⟩,
     ⟨0, 1, .wo, 0, false, false, false, none⟩]⟩,
  -- CLK_LULL_STATUS
  ⟨0x2c00c, [],
    [⟨30, 2, .ro, 0, false, false, false, none⟩,
     ⟨16, 8, .ro, 0, false, false, false, none⟩,
     ⟨0, 5, .w1c, 0, false, false, false, none⟩]⟩,
  -- CLK_LULL_ENTRIES
  ⟨0x2c010, [],
    [⟨0, 32, .ro, 0, false, false, false, none⟩]⟩,
  -- CLK_LULL_SECONDS
  ⟨0x2c014, [],
    [⟨0, 32, .ro, 0, false, false, false, none⟩]⟩,
  -- CLK_STEER
  ⟨0x2c018, [],
    [⟨0, 32, .ro, 0, false, false, true, none⟩]⟩,
  -- CLK_WAKE_TIME_LO
  ⟨0x2c020, [],
    [⟨0, 32, .ro, 0, false, false, false, none⟩]⟩,
  -- CLK_WAKE_TIME_HI
  ⟨0x2c024, [],
    [⟨0, 32, .ro, 0, false, false, false, none⟩]⟩,
  -- CLK_TEMP
  ⟨0x2c028, [],
    [⟨16, 2, .ro, 0, false, false, false, none⟩,
     ⟨0, 16, .ro, 0, false, false, true, none⟩]⟩,
  -- CLK_AON_RTC_LO
  ⟨0x200000, [],
    [⟨0, 32, .ro, 0, false, false, false, none⟩]⟩,
  -- CLK_AON_RTC_HI
  ⟨0x200004, [],
    [⟨0, 32, .ro, 0, false, false, false, none⟩]⟩,
  -- CLK_AON_STATUS
  ⟨0x200008, [],
    [⟨4, 1, .ro, 0, false, false, false, none⟩,
     ⟨3, 1, .ro, 0, false, false, false, none⟩,
     ⟨2, 1, .ro, 0, false, false, false, none⟩,
     ⟨1, 1, .w1c, 0, false, false, false, none⟩,
     ⟨0, 1, .ro, 1, false, false, false, none⟩]⟩]

/-- Registers of the CLK block. -/
def regsClk1 : List RegDef := [
  -- CLK_AON_CFG
  ⟨0x20000c, [],
    [⟨0, 1, .rw, 0, false, false, false, none⟩]⟩,
  -- CLK_AON_VBAT
  ⟨0x200010, [],
    [⟨0, 32, .ro, 0, false, false, false, none⟩]⟩,
  -- CLK_AON_EVENTS
  ⟨0x200014, [],
    [⟨0, 32, .ro, 0, false, false, false, none⟩]⟩]

/-- Registers of the CLK block. -/
def regsClk : List RegDef := levelReg 0x2c000 false :: (regsClk0 ++ regsClk1)

/-- Registers of the BAR block. -/
def regsBar0 : List RegDef := [
  -- BAR_STATUS
  ⟨0x2d004, [],
    [⟨24, 8, .ro, 0, false, false, false, none⟩,
     ⟨16, 2, .ro, 0, false, false, false, none⟩,
     ⟨4, 2, .ro, 0, false, false, false, none⟩,
     ⟨3, 1, .ro, 0, false, false, false, none⟩,
     ⟨2, 1, .ro, 0, false, false, false, none⟩,
     ⟨1, 1, .ro, 0, false, false, false, none⟩,
     ⟨0, 1, .ro, 0, false, false, false, none⟩]⟩,
  -- BAR_CMD
  ⟨0x2d008, [],
    [⟨16, 16, .wo, 0, false, false, false, none⟩,
     ⟨0, 2, .wo, 0, false, false, false, none⟩]⟩,
  -- BAR_BLOCK_NO
  ⟨0x2d010, [],
    [⟨0, 32, .ro, 0, false, false, false, none⟩]⟩,
  -- BAR_LIFE_USED
  ⟨0x2d014, [],
    [⟨0, 32, .ro, 0, false, false, false, none⟩]⟩,
  -- BAR_SAVE_SEQ
  ⟨0x2d018, [],
    [⟨0, 32, .ro, 0, false, false, false, none⟩]⟩,
  -- BAR_WD_HIST[i]_LO
  ⟨0x2d020, [(0x8, 3)],
    [⟨0, 32, .ro, 0, false, false, false, none⟩]⟩,
  -- BAR_WD_HIST[i]_HI
  ⟨0x2d024, [(0x8, 3)],
    [⟨0, 32, .ro, 0, false, false, false, none⟩]⟩,
  -- BAR_RF_NREF
  ⟨0x2d040, [],
    [⟨0, 32, .bs, 1232348160, true, false, false, none⟩]⟩,
  -- BAR_RF_DTREF
  ⟨0x2d044, [],
    [⟨0, 32, .bs, 1109393408, true, false, false, none⟩]⟩,
  -- BAR_RF_EXP
  ⟨0x2d048, [],
    [⟨0, 32, .bs, 1084227584, true, false, false, none⟩]⟩,
  -- BAR_RF_CFG
  ⟨0x2d04c, [],
    [⟨16, 5, .ro, 0, false, false, false, none⟩,
     ⟨0, 16, .bs, 30, true, false, false, some (5, 200)⟩]⟩]

/-- Registers of the BAR block. -/
def regsBar : List RegDef := levelReg 0x2d000 false :: (regsBar0)

end Sys2Proof.Machine
end

