-- ==== Sys2Proof/Machine/Types.lean ====
section
/-!
DEFINITION. Machine/Types.lean: the state of each block that is no register of the register maps, as plain data. Register fields
are cells of State.live, State.shadow and State.tbuf (Machine/RegMap.lean). Every default below is the value at State.reset.
-/
namespace Sys2Proof.Machine

/-- What one side (the host or a shore session) holds that is no register: R81, R84 to R86. -/
structure SideSt where
  /-- The 16-byte challenge in HBI_CRED_CHAL may still be answered (R81). -/
  chalValid : Bool := false
  /-- Credential commands are refused until the 300 s lock-out ends, and the ledger tick of its begin (R81). -/
  lockedOut : Bool := false
  lockAt : Nat := 0
  /-- Target port held by the window, by range number of R83. -/
  port : Option Nat := none
  /-- A fetch is under way (R84). -/
  fetching : Bool := false
  /-- A posted word not yet taken, with its address (R84). -/
  posted : Option (Nat × Nat) := none
  /-- A HBI_IDX_ADDR write that waits for the posted write to complete (R84). -/
  nextAddr : Option Nat := none
  /-- The next data access is refused with ADDR (R86). -/
  stopAtEnd : Bool := false
  /-- A written word that waits for the port (R85). -/
  waitPost : Option Nat := none
  /-- Access error of the word last fetched; 0 none. -/
  fetchErr : Nat := 0
deriving DecidableEq, Repr, Inhabited

/-- Register interface state (chapter 03) that is no register. -/
structure Hbi where
  sides : SMap SideSt := []
  /-- Parts of blocks whose tack buffer waits for their safe boundary: (block, part) (R68). -/
  tackParts : List (Nat × Nat) := []
  /-- Keys written through the live alias that wait for the next safe boundary (R72). -/
  liveKeys : List Nat := []
  /-- Fields of paired-field groups written since the group was last applied: those whose write no TACK has latched yet, and those
  that a TACK has latched with the buffer and that wait for the boundary (R75, R76). -/
  pfgWritten : List Nat := []
  pfgTacked : List Nat := []
  /-- Live values of paired-field groups held pending: (group, key, value) (R77). -/
  pfgPending : List (Nat × Nat × Nat) := []
  /-- Ring time of the first of the HB_TACK_N edges that count as one TACK (R69). -/
  pinAt : Option Nat := none
  /-- HB_ERR_N is driven low by the last access (R88). -/
  errN : Bool := false
  /-- Why the access made last was refused, if it was: what a remote request's response reports (R88, R89). -/
  refused : Option Nat := none
  /-- HB_D as the last read drove it. -/
  data : Nat := 0
  /-- A ring-wide TACK sent by this unit that has not reached its instant (R70): groups, target, ring time. -/
  rtackSent : Option (Nat × Nat × Nat) := none
  /-- A ring-wide TACK received for this unit: groups, ring time (R96); the last one that was applied or found late. -/
  rtackDue : List (Nat × Nat) := []
  rtackDone : Option (Nat × Nat) := none
deriving DecidableEq, Repr, Inhabited

/-- An event: an entry of Q0, Q10, Q11 and the fault ring (R461). -/
structure Ev where
  time : Nat := 0
  code : Nat := 0
  src : Nat := 0
  count : Nat := 1
  arg : Nat := 0
deriving DecidableEq, Repr, Inhabited

/-- A subscription of a shore session at this unit (R466). -/
structure Subscription where
  session : Nat := 0
  reqId : Nat := 0
  classes : Nat := 0
  maxSev : Nat := 0
  scopeAll : Bool := false
  lost : Nat := 0
  /-- Matching entries not yet sent, oldest first. -/
  waiting : List Ev := []
  /-- Ring time of the last message of the subscription. -/
  sentAt : Option Nat := none
deriving DecidableEq, Repr, Inhabited

/-- A trace entry (R467), as its eight words. -/
structure TraceEntry where
  words : List Nat := []
deriving DecidableEq, Repr, Inhabited

/-- An entry of a queue whose content only passes through: a kind number and its bytes. -/
structure QItem where
  kind : Nat := 0
  body : List Nat := []
deriving DecidableEq, Repr, Inhabited

/-- The sixteen queues, the fault ring and the trace buffer (chapter 17). Q0, Q10 and Q11 hold events, Q15 trace entries; the
others hold items in the order they were placed. -/
structure Que where
  q0 : List Ev := []
  q10 : List Ev := []
  q11 : List Ev := []
  q15 : List TraceEntry := []
  /-- Q1 to Q9 and Q12 to Q14, by number. -/
  items : SMap (List QItem) := []
  /-- Entries that their producers hold until the queue has a free entry, by queue number (R456). -/
  held : SMap (List QItem) := []
  /-- The fault ring: 4,096 entries in retention SRAM; an unwritten slot holds no event (R461). -/
  ring : SMap (Option Ev) := []
  subs : List Subscription := []
  /-- The trace buffer as words, oldest first (R467). -/
  trace : List Nat := []
  /-- The item that each queue last handed to its outside sink, by queue number. -/
  sent : SMap (Option QItem) := []
deriving DecidableEq, Repr, Inhabited

/-- An entry of CONTACTOR[k] (R492). -/
structure ContactorCount where
  ops : Nat := 0
  eqOps : Nat := 0
  loadOps : Nat := 0
  breakMax : Nat := 0
deriving DecidableEq, Repr, Inhabited

/-- The counters of the Barograph (R490). Scalars are kept by ID; histograms and contactors by index. -/
structure BarCounters where
  scalar : SMap Nat := []
  contactor : SMap ContactorCount := []
  /-- TEMP_HIST[s] bin b at 20 s + b, in units of 20 ms (R493). -/
  tempHist : SMap Nat := []
  /-- RAINFLOW bin b (R494), and the largest range in 0.1 K. -/
  rainflow : SMap Nat := []
  rainMax : Nat := 0
  /-- Open residues: turning points in 0.1 K, oldest first (R494). -/
  residues : List Int := []
  /-- A stack's output energy, and the energy it took from the outlet bus, below one watt-hour, in 0.1 mJ (R490). -/
  outRest : Nat := 0
  backRest : Nat := 0
deriving DecidableEq, Repr, Inhabited

/-- A Barograph block in the store (R496). -/
structure BarBlock where
  no : Nat := 0
  page : Nat := 0
  reason : Nat := 0
  owner : Nat := 0
  ledger : Nat := 0
  prev : List Nat := []
  body : List Nat := []
  signature : List Nat := []
deriving DecidableEq, Repr, Inhabited

/-- Lifetime records and fault policy (chapter 19): counters in retention SRAM, saves and histories in MRAM. -/
structure Bar where
  cnt : BarCounters := {}
  /-- The retention copies are valid (R495). -/
  retentionOk : Bool := true
  /-- The two MRAM saves: sequence number and counters (R495). -/
  saves : SMap (Option (Nat × BarCounters)) := []
  /-- Sequence number that the retention copies carry. -/
  retSeq : Nat := 0
  /-- Housekeeping bins held back while a throttle level defers binning (R285, R493): bin index and rounds. -/
  deferred : SMap Nat := []
  /-- The store of 1,024 blocks in MRAM, newest first (R497). -/
  blocks : List BarBlock := []
  /-- Benched state in MRAM (R501): 0 not benched, 1 THREE_WITHDRAWALS, 2 SELF_TEST. -/
  benched : Nat := 0
  /-- Ledger times of the last three counting withdrawals, newest first (R501). -/
  wdHist : List Nat := []
  /-- Ledger times of resets of the Selvedge partition alone (R503), newest first. -/
  selResets : List Nat := []
  /-- The cause of the withdrawal in progress (R499, R504). -/
  withdrawing : Option Nat := none
  lastDaily : Nat := 0
deriving DecidableEq, Repr, Inhabited

/-- Start-up state (chapter 20). -/
structure Sys where
  /-- VIN has stood at or above 17.5 V and no start has begun since the reset with this source (R510). -/
  startPending : Option Nat := some 1
  /-- The role of the active unit has started (R516). -/
  roleStarted : Bool := false
  /-- AC pre-charge coil and main AC coil of a stack (R516). -/
  preCoil : Bool := false
  mainCoil : Bool := false
  /-- The DC link has reached V_PRE in this attempt; the stack is down until a reset after three failures (R516). -/
  preOk : Bool := false
  down : Bool := false
  available : Bool := false
  /-- Life-cycle states whose first start has been made (R510 step 3): LC values. -/
  firstDone : List Nat := []
  /-- Groups that wait for their step 7 self-test (R513). -/
  testWait : List Nat := []
  /-- The 9.0 V and 12.0 V detectors: VIN present (R476, R507). -/
  vinPresent : Bool := false
  /-- The unit runs: its start has passed step 5 and no reset holds it. -/
  running : Bool := false
  /-- The real-time clock count at the begin of the last start (R521). -/
  startRtc : Nat := 0
  /-- ID_STRAP[6:0] as the pins stand. -/
  strapPins : Nat := 0
  /-- The unit is held by the early warning with its main die powered (R477, R478). -/
  earlyWarning : Bool := false
deriving DecidableEq, Repr, Inhabited

/-- One of the two 12 MiB image slots in MRAM (R42): its words, the highest byte offset written since OPEN plus 1, whether it is
marked empty. -/
structure Slot where
  mem : SMap Nat := []
  top : Nat := 0
  empty : Bool := true
deriving DecidableEq, Repr, Inhabited

/-- The pattern (chapter 02): MRAM state of images and updates, and the content the unit runs from. -/
structure Pat where
  slotA : Slot := {}
  slotB : Slot := {}
  /-- The commit record: COUNTER, ONESHOT, SLOT (R42). -/
  counter : Nat := 0
  oneshot : Nat := 0
  slot : Nat := 0
  /-- Bound OWNER_ID and SITE_ID; 0 = unbound (R41). -/
  boundOwner : Nat := 0
  boundSite : Nat := 0
  svnMin : Nat := 0
  /-- Update state, result, owner (0 none, 1 host, 2 shore) and owning client in MRAM (R49, R542). -/
  updState : Nat := 0
  updResult : Nat := 0
  updOwner : Nat := 0
  updClient : Nat := 0
  /-- Sealed SELVEDGE sections: role instance and bytes (R45, R46), in the partition's MRAM. -/
  sealed : List (Nat × List Nat) := []
  /-- Stored safety set with the digest it was based on (R48). -/
  safetyStored : Option (List Nat × List (Nat × Nat)) := none
  /-- The golden slot, 1 MiB: the bytes that Evokuam wrote at manufacture; no command writes it (R42). -/
  golden : List Nat := Config.goldenImage
  /-- The content of the running image; the golden image has none (R44). -/
  content : Content := {}
  /-- Digest of the running image (R31) and its IMAGE_SERIAL and SVN. -/
  imageDigest : List Nat := []
  runSvn : Nat := 0
  /-- The ledger tick at which the trial image was loaded; the trial's end was reached on an active unit (R51). -/
  trialAt : Nat := 0
  expired : Bool := false
  /-- The floater that holds this unit's place in its pair: the unit runs as a floater of the same span (R29); 0 none. In MRAM (log 91). -/
  spareOf : Nat := 0
  /-- Index of the next configuration word to scrub and the pass length (R54). -/
  scrubAt : Nat := 0
  scrubLen : Nat := 0
  /-- Roles the unit holds: its own role instance, 0 = none; a floater's own is 0 until it takes a role (R28, R35). -/
  instance_ : Nat := 0
  /-- Digest of the partner's image as its frames last gave it (R31). -/
  partnerDigest : List Nat := []
deriving DecidableEq, Repr, Inhabited

/-- Which edge of a channel runs, or ran last (R230). -/
inductive Edge where
  | none | on | off
deriving DecidableEq, Repr, Inhabited

/-- An isolated channel's state on its secondary side that is no register (R226, R230, R237, R238). -/
structure Ch where
  /-- Bias lock-out of VDD_ISO and VEE_ISO as the secondary holds them. -/
  lockVdd : Bool := true
  lockVee : Bool := false
  edge : Edge := .none
  /-- Segment of the edge that runs (R230). -/
  seg : Nat := 0
  /-- Segments of the present edge that ended by level (R231). -/
  byLevel : Nat := 0
  /-- The edge runs through segments, and the registers it runs with: current code, or the four segment words. -/
  segmented : Bool := false
  segs : List Nat := []
  /-- Protection holds the channel: soft turn-off or the hold after it (R238, R255). -/
  protHold : Bool := false
  /-- The channel's enable came back over the barrier less than 2 µs ago (R236, R237). -/
  fresh : Bool := false
deriving DecidableEq, Repr, Inhabited

/-- Who holds a half-bridge off by the normal off path (R234). -/
inductive Holder where
  | loop | protection | alsoOff | lockout | noGroup | safety | plausibility
deriving DecidableEq, Repr, Inhabited

/-- A device of a half-bridge. -/
inductive Device where
  | high | low
deriving DecidableEq, Repr, Inhabited

/-- A half-bridge between its generator and its channels (R197, R232 to R234). -/
structure HbSt where
  holders : List Holder := []
  /-- The device whose turn-on waits for its dead time (R232). -/
  waiting : Option Device := none
  /-- Period and compares that the counter runs with (R197); the next-period compares (R176). -/
  period : Nat := 4000
  cmpOn : Nat := 0
  cmpOff : Nat := 0
  nextCmp : Option (Nat × Nat) := none
  /-- Position of the command's last edge in the present period, 1/16 tick; negative in an earlier one (R198). -/
  edgeAt : Int := -1000000
deriving DecidableEq, Repr, Inhabited

/-- An auxiliary half-bridge (R239 to R243). -/
structure AuxSt where
  /-- The high side is kept off until a new carrier period after the bootstrap has recovered (R243). -/
  bstWait : Bool := false
  /-- Carrier periods since the last forced refresh (R242). -/
  periods : Nat := 0
  /-- Duty written by the coolant loop that the half-bridge is bound to (R241, R275). -/
  bound : Nat := 0
  /-- On intervals of the running carrier period in ticks: the high side's, the low side's, the low side's pulse within the forced
  refresh off-time (R241, R242). -/
  highTicks : Nat := 0
  lowTicks : Nat := 0
  pulseTicks : Nat := 0
deriving DecidableEq, Repr, Inhabited

/-- Gate drive (chapter 08). -/
structure Gd where
  ch : SMap Ch := []
  hb : SMap HbSt := []
  aux : SMap AuxSt := []
  /-- 2 µs have passed since the enable rose: on edges are permitted (R236). -/
  onPermitted : Bool := false
deriving DecidableEq, Repr, Inhabited

/-- A sample that missed and waits for its EXACT commit (R186): the deviations of the predicted channels, the ADC results that PREDICT
ran on, the free-value count its scratch registers stand for, whether its trigger was deferred, whether it is the anchor sample. -/
structure MissSt where
  dev : List Int := []
  oldAdc : List Nat := []
  drawn : Nat := 0
  /-- ADCs of the sample whose trigger was deferred (R173); the sample counts as missed with its index outside the brackets (R185). -/
  late : Nat := 0
  outside : Bool := false
  anchor : Bool := false
deriving DecidableEq, Repr, Inhabited

/-- A stop in progress (R213): the start values of the references in fp32, ramp samples done, ramp samples in all; ring time of the commit
that began the ramp; TIME has passed since. -/
structure StopSt where
  start : List Nat := []
  k : Nat := 0
  n : Nat := 1
  began : Option Nat := none
  ended : Bool := false
deriving DecidableEq, Repr, Inhabited

/-- A loop of the Shuttle engine (R172, R173, R185 to R194, R211 to R213): its memories and its commit state. -/
structure LoopSt where
  state : SMap Nat := []
  comp : SMap Nat := []
  /-- Sample event under way, its number in the carrier period; a sample event whose trigger waits for the conversion's end (R173). -/
  event : Option Nat := none
  deferred : Option Nat := none
  /-- ADCs whose trigger of the sample under way was deferred, and of the one that waits (R173). -/
  late : Nat := 0
  deferN : Nat := 0
  /-- Ring time of the last commit. -/
  commitAt : Nat := 0
  /-- Blend: the set it comes from (a region, or none = the blend buffer), samples done; `n` = 0 when no blend runs. -/
  blendFrom : Option Nat := none
  blendBuf : List Nat := []
  blendK : Nat := 0
  blendN : Nat := 0
  /-- Window of 1,024 samples (R185): samples, misses with the index outside, any miss, any |d| at or above N·W/4. -/
  winN : Nat := 0
  winOut : Nat := 0
  winMiss : Bool := false
  winWide : Bool := false
  /-- Persistence counts by position in the loop's list (R193); channels whose report or hold action stands (R196). -/
  pcount : List Nat := [0, 0, 0, 0]
  acting : List Nat := []
  nonfinite : Bool := false
  miss : Option MissSt := none
  /-- Samples of the present BG_DIV samples done, and BACKGROUND has finished in them (R178). -/
  bgCount : Nat := 0
  bgDone : Bool := false
  /-- Unused cycles of the lowest lane and of the others over the last 1 s: commit time and cycles, each less than those after it (R201). -/
  slackLow : List (Nat × Nat) := []
  slackRest : List (Nat × Nat) := []
  /-- Commits so far, for SHT_LANE[k]_CTRL.TRACE_DIV. -/
  commits : Nat := 0
  /-- The mode requested and not yet reached (R210); whether a host request asks for it (R212). -/
  req : Option Nat := none
  byHost : Bool := false
  /-- The request queued behind a running hand-over or a stop (R213, R214): target, by the host. -/
  queued : Option (Nat × Bool) := none
  /-- The target that waits for RETRY_WAIT (R212). -/
  retry : Option Nat := none
  retryIn : Nat := 0
  /-- FLAG_WORD bit 0 at the last commit (R209). -/
  gridLost : Bool := false
  /-- Residual of the running hand-over, per word, fp32; the blend sample k; the outgoing mode (R211). -/
  resid : List Nat := []
  hoK : Nat := 0
  hoFrom : Nat := 0
  /-- The hand-over has entered its incoming mode (R211 sample n + 1). -/
  entered : Bool := false
  /-- Consecutive abandonments towards one target (R212). -/
  abandonTarget : Nat := 0
  abandons : Nat := 0
  /-- Consecutive samples for which a row of R208 has held: (target mode, samples). -/
  confirm : Nat × Nat := (0, 0)
  stop : Option StopSt := none
  /-- The mode a protection trip found the loop in, to restart it towards (R258). -/
  restart : Option Nat := none
  /-- Current frame period's sums by position: results, deviations, number (R194); whether |d| exceeded R_LIM in it. -/
  sums : List (Int × Int × Nat) := []
  overs : List Nat := []
  /-- Means of the last frame period, LSB, and the mean deviations. -/
  means : List Int := [0, 0, 0, 0]
  devMeans : List Int := [0, 0, 0, 0]
  /-- Positions of implausible channels whose attribution is due (R194). -/
  attributing : List Nat := []
deriving DecidableEq, Repr, Inhabited

/-- A repetitive compensator channel (R216 to R219). -/
structure RcSt where
  /-- Phase model: at ring time `t0` the phase is `phi0` (2^-32 of a period); it advances at 1/T, and `corr` is added over `corrNs`. -/
  t0 : Nat := 0
  phi0 : Nat := 0
  corr : Int := 0
  corrNs : Nat := 0
  /-- Period estimate, µs; consecutive consistent estimates. -/
  period : Nat := 0
  lockCount : Nat := 0
  locked : Bool := false
  /-- The channel has run since ENABLE was set. -/
  running : Bool := false
  kPrev : Nat := 0
  /-- Sum of errors since the last point, exact, in units of 2^-150; their number. -/
  accSum : Int := 0
  accCount : Nat := 0
  /-- Fade factor F in units of 2^-48, and its direction: none, rising or falling. -/
  fade : Nat := 0
  rising : Bool := false
  falling : Bool := false
  freezePeriod : Bool := false
  rangeBad : Bool := false
  clear : Bool := false
  /-- Edges seen, modulo PULSES; ring time of the last edge or wrap; last intervals between edges, ns, newest first (R216). -/
  edges : Nat := 0
  lastEdge : Option Nat := none
  intervals : List Nat := []
  /-- T of the last valid estimate while locked, at which the phase runs and F falls (R218). -/
  validT : Nat := 0
  /-- The fade under way: F at its start, its length and the time it has run, ps (R218). -/
  fadeFrom : Nat := 0
  fadeLen : Nat := 1
  fadeRun : Nat := 0
  /-- Ring time at which the freeze of the next full period ends (R216). -/
  freezeEnd : Nat := 0
  /-- The source word as last committed (R216 PHASE_WORD). -/
  lastWord : Nat := 0
deriving DecidableEq, Repr, Inhabited

/-- The Shuttle engine and the modes (chapters 06 and 07). -/
structure Sht where
  loops : SMap LoopSt := []
  rc : SMap RcSt := []
  /-- Output voltage and current of the stack, 0.1 V and 0.1 A, and the AC input power, kW, as IO_MAP's signals give them. -/
  vOut : Int := 0
  iOut : Int := 0
  pIn : Int := 0
  /-- The stack's own loss curve: V_BAND, then LOSS[0] to LOSS[8] (R120). -/
  curve : List Nat := []
  /-- The lanes' saturation counts, by lane (R169). -/
  saturated : SMap Nat := []
deriving DecidableEq, Repr, Inhabited

/-- A protection group (R257, R258, R262). -/
structure GrpSt where
  /-- First-detection times of the trips that started a wait, oldest first (R258). -/
  history : List Nat := []
  /-- The trip in progress: first detection, a short-class detection was among them, explained (R257, R262). -/
  t0 : Nat := 0
  short : Bool := false
  explained : Bool := true
  collecting : Bool := false
  /-- End of WAIT, ring time (R258); entry to CHECK. -/
  waitEnd : Nat := 0
  checkAt : Nat := 0
  /-- Ring times of this group's trips on this unit or the partner, for R262. -/
  lastTrip : Option Nat := none
  /-- The trip is unexplained so far, and 5 µs have not passed since its first detection (R262). -/
  doubt : Bool := false
  /-- The state to return to when a TEST ends, and the items left: (kind, item). -/
  testFrom : Nat := 0
  testItems : List (Nat × Nat) := []
  /-- Kinds of test that have a result in PRT_GRP[g]_TEST. -/
  testSeen : List Nat := []
deriving DecidableEq, Repr, Inhabited

/-- Power-stage protection (chapter 09). -/
structure Prt where
  grp : SMap GrpSt := []
  /-- Lock-out records in MRAM, by half-bridge: (cause, multi) (R260). -/
  records : SMap (Option (Nat × Bool)) := []
  /-- Half-bridges whose hard-short or phase-current detector tripped on a standby in the frame period (R261). -/
  standbyLegs : Nat := 0
deriving DecidableEq, Repr, Inhabited

/-- A PROT entry as the partner's frames last gave it, with its times rebuilt (R410). -/
structure ProtEntry where
  state : Nat := 0
  multi : Bool := false
  unexplained : Bool := false
  tries : Nat := 0
  cause : Nat := 0
  legs : Nat := 0
  history : List Nat := []
  waitEnd : Nat := 0
deriving DecidableEq, Repr, Inhabited

/-- A vote frame originated or received (R417). -/
structure Vote where
  kind : Nat := 0
  src : Nat := 0
  instance_ : Nat := 0
  target : Nat := 0
  claim : Nat := 0
  reason : Nat := 0
  seq : Nat := 0
deriving DecidableEq, Repr, Inhabited

/-- Active and standby (chapter 15). -/
structure Pair where
  /-- GRANT and WITHDRAWING of the claim logic (R404, R424). -/
  withdrawing : Bool := false
  /-- The partner's last non-zero claim (R406). -/
  partnerLast : Nat := 0
  /-- PAIR_LOCK_I as the pin stands; claim-gated outputs not yet released (R404). -/
  lockIn : Bool := false
  unreleased : Bool := false
  /-- The partner's last STATE field: pair state, HEALTHY, HANDOVER, WITHDRAWING (R407). -/
  pState : Nat := 0
  pHealthy : Bool := false
  missed : Nat := 0
  lost : Bool := false
  /-- Valid frames in a row since the last miss, up to 10,000 (R415). -/
  good : Nat := 0
  formed : Bool := false
  /-- The partner's role section differs: the unit runs as a single unit with its outputs disabled (R23). -/
  mismatch : Bool := false
  /-- Shadow-list words received since forming, and values that wait for the next commit: (loop, word, value) (R413). -/
  received : List Nat := []
  shadowWait : List (Nat × Nat × Nat) := []
  /-- Items of the partner of which a part was missed and that have not been received complete since (R415). -/
  incomplete : List Nat := []
  /-- Items to send, in the order of R412: item, bytes, bytes sent so far. -/
  bulkOut : List (Nat × List Nat × Nat) := []
  /-- The count of frames sent, of 64 bits; its low 16 are SEQ (R108). -/
  seq : Nat := 0
  partnerSeq : Nat := 0
  /-- The last frame sent: TYPE (R408). -/
  lastType : Nat := 0
  /-- HANDOVER sent with this claim and not completed (R423); what it is for: 0 command, 1 ARM, 2 bias lock-out, 3 reset. -/
  handover : Option Nat := none
  /-- A vote in progress: cold, requests sent (R420). -/
  voting : Option (Bool × Nat) := none
  /-- Vote frames originated: the first goes with the present train, the others wait; the 24 bytes of the one that went last (R417). -/
  voteOut : List Vote := []
  voteSent : List Nat := []
  /-- As witness: ring time of the last GRANT by instance (R418); ring cycles of the last valid data slots by address. -/
  grantAt : SMap (Option Nat) := []
  slotAt : SMap (Option Nat) := []
  partnerUv : Nat := 0
  prot : SMap ProtEntry := []
  partnerMeans : SMap Int := []
  partnerExceed : Nat := 0
  /-- Consecutive TYPE 0x01 frames whose means differ by more than X_LIM, by predicted channel (R195). -/
  xCount : SMap Nat := []
  /-- Shadow-list index of the next slice word; ring time at which each shadow-list word was last received (R414). -/
  slice : Nat := 0
  wordAt : SMap (Option Nat) := []
  /-- The last frame sent, from TYPE to TAG, its PAYLOAD encrypted, and that PAYLOAD in clear (R108). -/
  frame : List Nat := []
  payload : List Nat := []
  /-- Last 10 ms period for which the periodic items were queued (R412). -/
  itemAt : Nat := 0
  /-- The role-software state as last sent (R412). -/
  roleSent : List Nat := []
  /-- A pending release of a floater (R29), and its partner lost time. -/
  releaseWait : Bool := false
  /-- Partner-lost instant for PAIR_LAST.LATENCY: ring time of the last valid partner frame. -/
  lastFrame : Nat := 0
  partnerAddr : Nat := 0
deriving DecidableEq, Repr, Inhabited

/-- How far a unit's join has come (R105, R391). -/
inductive JoinSt where
  | idle | requested | challenged | joined
deriving DecidableEq, Repr, Inhabited

/-- A join the master has taken and not finished (R105, R391). -/
structure JoinGrant where
  addr : Nat := 0
  device : Nat := 0
  challenge : List Nat := []
  /-- The join key the attestation was begun with (R388, R398). -/
  key : List Nat := []
deriving DecidableEq, Repr, Inhabited

/-- A request of a shore session that has not been answered (R110): its TYPE, REQ_ID and TARGET; for a record request (R112) its body, the
units asked, and the unit in Lull whose join it waits for (R160). -/
structure ShoreReq where
  typ : Nat := 0
  reqId : Nat := 0
  target : Nat := 0
  body : List Nat := []
  tried : List Nat := []
  waits : Option Nat := none
deriving DecidableEq, Repr, Inhabited

/-- A shore session (R109, R110). -/
structure ShoreSt where
  isOpen : Bool := false
  client : Nat := 0
  observe : Bool := false
  operate : Bool := false
  /-- Requests outstanding, oldest first. -/
  outstanding : List ShoreReq := []
deriving DecidableEq, Repr, Inhabited

/-- A remote request that has reached the unit it addresses (R89, R110): its session, the client and rights told with it, TYPE, REQ_ID and
body. -/
structure RemoteJob where
  session : Nat := 0
  client : Nat := 0
  observe : Bool := false
  operate : Bool := false
  typ : Nat := 0
  reqId : Nat := 0
  body : List Nat := []
deriving DecidableEq, Repr, Inhabited

/-- The Tararorn ring (chapter 04). -/
structure Trg where
  /-- Receive links declared broken, by port (R100). -/
  broken : List Nat := []
  /-- CYCLE of the first header with UNWRAP_NEXT since the last break (R100). -/
  unwrapSeen : Option Nat := none
  join : JoinSt := .idle
  /-- Ring keys held: the current and the next; EPOCH (R107). -/
  key : Option (List Nat) := none
  nextKey : Option (List Nat) := none
  epoch : Nat := 0
  provisional : Bool := false
  /-- Cycles in which MASTER_NEW still shows (R102). -/
  masterNew : Nat := 0
  /-- Master of the last header and the CYCLE under which the present key came into use (R107). -/
  lastMaster : Nat := 0
  keyCycle : Nat := 0
  /-- Hop counts in direction A and B, CORRECTION of the last delimiters, and whether they passed a wrap (R96). -/
  hopA : Nat := 0
  hopB : Nat := 0
  corrA : Nat := 0
  corrB : Nat := 0
  fwdA : Nat := 0
  fwdB : Nat := 0
  /-- The last header heard in direction A and in B: its CYCLE, and ring time by its train less the local timestamp of its arrival, ns
  (R103). -/
  heardA : Option (Nat × Int) := none
  heardB : Option (Nat × Int) := none
  /-- When the last train passed, by the own clock, ns (R102). -/
  trainAt : Option Nat := none
  /-- A master has made its announced leave: it runs the trains and writes no slot (R106). -/
  away : Bool := false
  /-- The first direction-A train of an unwrapped ring has been taken for the position (R104). -/
  posTried : Bool := false
  /-- The cycle header last sent as master (R96). -/
  header : RingHeader := {}
  /-- The data slot's next fragment (kind 8 · channel + FIRST + 2 · LAST), and what was written in the cycle `slotCycle`: the fragment,
  LEAVE, the safety frame (R95 to R98). -/
  slot : Option QItem := none
  slotCycle : Option Nat := none
  slotSent : Option QItem := none
  slotLeave : Bool := false
  safeSent : Option SafetyFrame := none
  /-- The bytes of the cycle header, the data slot and the safety slot last written, each with its TAG (R96 to R98, R107). -/
  headerBytes : List Nat := []
  slotBytes : List Nat := []
  safeBytes : List Nat := []
  /-- The last Squall frame originated, with its SEQ; its bytes from SRC to TAG; CYCLE of its train (R99). -/
  squallSent : Option (Ev × Nat) := none
  squallBytes : List Nat := []
  squallAt : Option Nat := none
  /-- What the unit last wrote into the join window (R105, R391). -/
  window : List Nat := []
  /-- CYCLE of the last join request taken as master (R105). -/
  tookCycle : Option Nat := none
  /-- Device identities and TOPOLOGY digests that joining units reported, by address (R37, R105). -/
  devices : SMap Nat := []
  digests : SMap (List Nat) := []
  /-- The last message received complete: source, channel, bytes (R97). -/
  message : Option (Nat × Nat × List Nat) := none
  /-- Pending events of the unit for its next Squall frame: (code, merged count, time); SEQ (R99). -/
  squall : Option Ev := none
  /-- Of the events merged into it: the CYCLE of the newest, how many arose in that cycle, how many in earlier ones (R99, R113). -/
  squallHere : Nat × Nat × Nat := (0, 0, 0)
  squallSeq : Nat := 0
  /-- SEQ of the Squall frames taken lately from each source, with the CYCLE each came in (R99). -/
  squallSeen : SMap (List (Nat × Nat)) := []
  /-- The cycles whose data slot, or safety slot, of each source has been taken lately, newest first (R95). -/
  dataSeen : SMap (List Nat) := []
  safeSeen : SMap (List Nat) := []
  /-- Reassembly buffers by 8 · source + channel (R97). -/
  reasm : SMap (List Nat) := []
  grants : List JoinGrant := []
  /-- The join key a joining unit requested with: the join completes under it (R398). -/
  joinWith : Option (List Nat) := none
  /-- The challenge a joining unit answers (R391). -/
  challenge : List Nat := []
  /-- Cycles in which LEAVE still shows (R106). -/
  leaveLeft : Nat := 0
  /-- Ring times of frames that failed their tag, newest first, at most 16, by source (R107). -/
  fails : SMap (List Nat) := []
  /-- Consecutive sync intervals within 100 µs (R103). -/
  ptpGood : Nat := 0
  /-- A rekey under way: addresses to which the next key is delivered, ring time of the last delivery so far (R107). -/
  rekey : Option (List Nat × Nat) := none
  shore : SMap ShoreSt := []
  /-- Remote requests that have reached this unit and are not executed, oldest first (R89, R110). -/
  jobs : List RemoteJob := []
deriving DecidableEq, Repr, Inhabited

/-- Where a stack's cross-point sequence stands (R142 to R145). -/
inductive XpSeq where
  | idle | matching | closing | closeDebounce | connected | rampOut | opening | openDebounce
deriving DecidableEq, Repr, Inhabited

/-- The running demand interval (R350 to R353). -/
structure Interval where
  no : Nat := 0
  start : Nat := 0
  /-- Scheduled length, ticks; 0 before the first interval opens. -/
  len : Nat := 0
  imp : Nat := 0
  exp : Nat := 0
  metered : Nat := 0
  short : Bool := false
  gap : Bool := false
  incomplete : Bool := false
  /-- It opened under R357. -/
  outage : Bool := false
deriving DecidableEq, Repr, Inhabited

namespace Plan

/-- How old a report is (R122): fresh, past its stale limit, past 100 ms. -/
inductive Age where
  | fresh | frozen | lost
deriving DecidableEq, Repr, Inhabited

/-- A row as a snapshot shows it: its report, its committed entry with the instant the entry's sequence began, its limits. -/
structure Row where
  row : Nat := 0
  age : Age := .lost
  available : Bool := false
  connectFail : Bool := false
  releaseFail : Bool := false
  ready : Bool := false
  closed : Nat := 0
  lifeUsed : Nat := 0
  xpWear : Nat := 0
  curve : List Nat := []
  entry : StackEntry := {}
  since : Nat := 0
  renewals : Nat := 0
  /-- Columns that a plan may use for the row: fitted in both topologies, not forbidden, not in quarantine (R19, R37, R143, R161). -/
  cols : List Nat := []
  excluded : Bool := false
  pin : Option Nat := none
  pCap : Nat := 0
  asleep : Bool := false
  closeMs : Nat := 0
  openMs : Nat := 0
deriving DecidableEq, Repr, Inhabited

/-- A column as a snapshot shows it: `want` is the feasible current of R125, `back` the current it may export within the same limits, `give`
the export it asks for (R151). -/
structure Col where
  col : Nat := 0
  phase : Nat := 0
  age : Age := .lost
  excluded : Bool := false
  prio : Nat := 0
  v : Nat := 0
  want : Nat := 0
  back : Nat := 0
  give : Nat := 0
  iSust : Nat := 0
  rating : Nat := 0
  /-- I_MAX of the committed plan. -/
  was : Nat := 0
  pMax : Nat := 0
deriving DecidableEq, Repr, Inhabited

/-- A snapshot, rows and columns in rising order, with the settings it is solved under. Costs in kWh-eq, times in hours, energies in Wh. -/
structure Snap where
  rows : List Row := []
  cols : List Col := []
  importCap : Rat := 0
  exportCap : Rat := 0
  hold : Bool := false
  hours : Rat := 0
  minGain : Rat := 0
  tw : Rat := 0
  wWear : Rat := 0
  wDamage : Rat := 0
  wCredit : Rat := 0
  wHeadroom : Rat := 0
  hr : Nat := 0
  eInt : Rat := 0
  tLeft : Rat := 0
  /-- The energy of the whole interval at the demand limit. -/
  eLimit : Rat := 0
  rampMs : Nat := 0
  /-- Some input is stale (R122). -/
  degraded : Bool := false
deriving DecidableEq, Repr, Inhabited

end Plan

/-- The Marker and the plan's effect on every unit (chapter 05). -/
structure Mrk where
  /-- A PLAN held complete whose TACK instant has not come (R135), and the one whose entries are latched for the next cycle. -/
  plan : Option Plan := none
  latched : Option Plan := none
  /-- The plan last applied, whole (R133, R134). -/
  applied : Plan := {}
  /-- The applied plan's header and this unit's own entries (R133, R134). -/
  applyTime : Nat := 0
  leaseMs : Nat := 0
  rampMs : Nat := 0
  stack : Option StackEntry := none
  outlet : Option OutletEntry := none
  /-- APPLY_TIME and RAMP_MS of the plan that the stack's own entry came with; the APPLY_TIME at which its RAMP_OUT began (R133, R144). -/
  stackAt : Nat := 0
  stackRamp : Nat := 0
  rampOutAt : Nat := 0
  /-- As an outlet unit: expiry E of the lease of each row on its column (R137, R139). -/
  leases : SMap Nat := []
  /-- The lease: column and expiry E (R139). -/
  lease : Option (Nat × Nat) := none
  /-- Column whose cross-point coil is driven closed; 0 none. Column whose auxiliary contact reads closed (R119). -/
  coil : Nat := 0
  closed : Nat := 0
  seq : XpSeq := .idle
  connectFail : Bool := false
  releaseFail : Bool := false
  /-- No DEMAND, no LEAD for 1 ms: the ramps of R138 and R207 run or have run; the ramp of R140 does. -/
  demandLost : Bool := false
  leadLost : Bool := false
  leaseRamp : Bool := false
  ready : Bool := false
  /-- I_REF of the outlet when a lower I_MAX was applied: it falls from there (R134). -/
  rampFrom : Option Int := none
  demand : Option Demand := none
  lead : Option Lead := none
  /-- The stack ramps its reference to zero: start instant, length in ns, start value in 0.1 A (R138, R140, R207). -/
  zeroRamp : Option (Nat × Nat × Int) := none
  /-- The stack has stopped being LEAD by its entries (R208). -/
  stopLead : Bool := false
  demandSeq : Nat := 0
  leadSeq : Nat := 0
  duty : Duty := {}
  /-- Reports by row and column with the ring time of their reception (R118 to R122). -/
  stackRep : SMap (Option (Nat × StackStatus)) := []
  curves : SMap (Option (Nat × List Nat)) := []
  outletRep : SMap (Option (Nat × OutletStatus)) := []
  /-- Run-ahead held, steps 1 to 7, empty where it was dropped; an invalidating event came after the snapshot that produced it; the
  present cycle dropped it (R130). -/
  ahead : List (List StackEntry × List OutletEntry) := []
  /-- APPLY_TIME at which each row's present entry began its mode in its column (R131). -/
  seqSince : SMap Nat := []
  /-- Units whose last link event was a break (R100, R156). -/
  breaks : List Nat := []
  invalid : Bool := false
  discarded : Bool := false
  /-- Feasible current by column, 0.1 A, and import cap, kW, of the last solve (R130). -/
  feasible : SMap Nat := []
  lastCap : Nat := 0
  lastExport : Nat := 0
  /-- Rows that the last snapshot took as lost by the age of their report (R122, R130). -/
  lostRows : List Nat := []
  /-- Cross-points not planned through after a CONNECT_FAIL, (row, column) (R143); units known to be benched, and withdrawn and not back
  (R25, R158). -/
  quarantine : List (Nat × Nat) := []
  benched : List Nat := []
  withdrawn : List Nat := []
  /-- Floaters that have taken a role: floater, instance, the member replaced (R28). -/
  floats : List (Nat × Nat × Nat) := []
  /-- Since when each unit is out of the ring, by address (R28, R155). -/
  outSince : SMap (Option Nat) := []
  /-- A solve runs since this snapshot instant; what the snapshot shows (R123). -/
  solving : Option Nat := none
  snap : Plan.Snap := {}
  /-- The plan last committed (R116, R124). -/
  committed : Plan := {}
  /-- Further renewals granted to a lease under RELEASE_FAIL, by row (R145). -/
  renewals : SMap Nat := []
  /-- Ring times since which a row holds no lease and a column stands in phase 0 (R152). -/
  idleSince : SMap Nat := []
  /-- Units in Lull by the Marker's placement; units woken whose report has not come, with the time of their WAKE (R154, R155). -/
  lullUnits : List Nat := []
  waking : List (Nat × Nat) := []
  /-- Units that keep an owner's copies though others hold the duty now: owner, holder (R159, R160). -/
  copies : List (Nat × Nat) := []
  /-- Ring time of the last DUTY sent (R157). -/
  dutyAt : Nat := 0
  dutyChanged : Bool := false
  /-- Ring time of the write of MRK_CURTAIL that stands (R150). -/
  curtailAt : Nat := 0
  /-- Energy that the stacks reported since the demand interval of this number began, Wh (R148). -/
  eInt : Int := 0
  intNo : Nat := 0
  /-- Grid meter pulses of the last 10 s, newest first: ring time, mWh; sums of the stacks' P_IN at the snapshots of the last 10 s, newest
  first, kW (R148). -/
  gridPulses : List (Nat × Nat) := []
  pInSums : List Int := []
  /-- The demand interval and the ledger time as last read from the partition, and when (R122, R148). -/
  intHeld : Interval := {}
  ledgerHeld : Nat := 0
  intAt : Nat := 0
  /-- AC input energy of this stack since start, in kW times 10 ms (R119). -/
  eIn : Int := 0
  /-- Records and Barograph blocks held for other units, newest first: owner, is a Barograph block, sequence number, bytes (R158). -/
  replicas : List (Nat × Bool × Nat × List Nat) := []
deriving DecidableEq, Repr, Inhabited

/-- Clocks and Lull (chapter 18) that is no register. -/
structure Clk where
  /-- A LULL message accepted: the unit enters Lull at the next plan's APPLY_TIME (R479). -/
  lullNext : Bool := false
  /-- The real-time clock at the entry under way (R479). -/
  lullRtc : Nat := 0
  /-- A wake source that arose during entry (R483). -/
  wakeWait : Option Nat := none
  /-- The Lull scrub found an uncorrectable word: the unit withdraws once it is awake (R54, R482). -/
  scrubBad : Bool := false
  /-- The real-time clock did not survive since the last start (R334, R474, R476). -/
  aonLost : Bool := false
  /-- Temperature band of R482 in force. -/
  band : Nat := 0
deriving DecidableEq, Repr, Inhabited

/-- A half of a blob slot, a client entry or a trusted digest (R382, R386). `bytes` is a wrapped key or a digest. -/
structure KeyHalf where
  use : Nat := 0
  kind : Nat := 0
  keyId : Nat := 0
  arg : Nat := 0
  gen : Nat := 0
  bytes : List Nat := []
deriving DecidableEq, Repr, Inhabited

/-- A commit word (R387). -/
structure CommitWord where
  counter : Nat := 0
  gen : Nat := 0
  valid : Bool := false
  half : Bool := false
deriving DecidableEq, Repr, Inhabited

/-- The two halves of a slot, entry or digest with their commit word (R387). -/
structure KeyCell where
  a : KeyHalf := {}
  b : KeyHalf := {}
  cw : CommitWord := {}
deriving DecidableEq, Repr, Inhabited

/-- Keys (chapter 14) that are no register. -/
structure Key where
  /-- The root in the security core's MRAM; none before the first start (R374). -/
  root : Option (List Nat) := none
  /-- Private identity key (R378, R379), the legal branch node and the legal signing key in the partition (R390). -/
  identity : List Nat := []
  legalBranch : List Nat := []
  legal : List Nat := []
  /-- Blob slots, client entries, trusted digests; node commit words: 0 BLOB, 1 SITE, 2 pair key (R380, R387). -/
  slots : SMap KeyCell := []
  clients : SMap KeyCell := []
  digests : SMap KeyCell := []
  nodes : SMap CommitWord := []
  /-- Certificate store, by word (R389). -/
  certs : SMap Nat := []
  /-- The Evokuam device key has not been erased (R395). -/
  deviceKey : Bool := true
  /-- KEY_ENROL_DATA holds the attestation secret (R384). -/
  enrolPlaced : Bool := false
  /-- Pair-key generations held, newest first, and the highest that the partner reported (R393). -/
  pairHeld : List Nat := []
  partnerGen : Nat := 0
  /-- The debug access port is enabled (R376). -/
  debugPort : Bool := false
  /-- DBG_EN_N stands low. -/
  dbgLow : Bool := false
deriving DecidableEq, Repr, Inhabited

/-- A session value of the partition (R328, R329, R360). Energies in 2^-16 mJ; calendar in units of 125 µs. -/
structure Sess where
  isOpen : Bool := false
  id : Nat := 0
  /-- Address of the unit that sent OPEN: the primary (R328). -/
  primary : Nat := 0
  late : Bool := false
  gap : Bool := false
  checkFail : Bool := false
  overrange : Bool := false
  xchk : Bool := false
  dualDiff : Bool := false
  /-- A stop of R286, a reset of R336 or a recovery with an unsaved interval fell in it. -/
  broken : Bool := false
  openLedger : Nat := 0
  closeLedger : Nat := 0
  openCal : Nat := 0
  closeCal : Nat := 0
  imp : Nat := 0
  exp : Nat := 0
  reversals : Nat := 0
  creep : Nat := 0
  gapTicks : Nat := 0
  /-- It was recovered with an unsaved interval (R335). -/
  unsaved : Bool := false
  bound : Nat := 0
  suppressed : Nat := 0
  /-- Tariff totals at OPEN, import and export. -/
  impAt : SMap Nat := []
  expAt : SMap Nat := []
  /-- The close has come and the SESSION record waits for STANDS (R329). -/
  awaiting : Bool := false
  /-- Calendar flags at the close: FLAGS bits of the clock state. -/
  closeFlags : Nat := 0
deriving DecidableEq, Repr, Inhabited

/-- What the partition keeps in its retention copies and saves: accumulators, ledger time, calendar, session and interval
(R319, R331, R342). Accumulators hold 2^-16 mJ in 80 bits; the calendar counts units of 125 µs since 1970. -/
structure Tot where
  ledger : Nat := 0
  impAll : Nat := 0
  expAll : Nat := 0
  impT : SMap Nat := []
  expT : SMap Nat := []
  reversals : Nat := 0
  creep : Nat := 0
  /-- Direction of the last booked increment: 0 none, 1 import, 2 export. -/
  lastDir : Nat := 0
  sess : Sess := {}
  int : Interval := {}
  cal : Nat := 0
  hwm : Nat := 0
  /-- Tariff in force at HWM (R347). -/
  hwmTariff : Nat := 0
  /-- Clock state of R342: 0 PROVEN, 1 UNPROVEN, 2 LOST. -/
  clock : Nat := 2
  tariff : Nat := 0
  stepCount : Nat := 0
  lastDemImp : Nat := 0
  lastDemExp : Nat := 0
  maxDemImp : Nat := 0
  maxDemExp : Nat := 0
deriving DecidableEq, Repr, Inhabited

/-- A boundary waiting for its commit, with its snapshot (R354, R361). -/
structure Bnd where
  tick : Nat := 0
  close : Bool := false
  switch : Bool := false
  flags : Nat := 0
  cal : Nat := 0
  tFrom : Nat := 0
  tTo : Nat := 0
  switches : Nat := 0
  no : Nat := 0
  start : Nat := 0
  imp : Nat := 0
  exp : Nat := 0
  allImp : Nat := 0
  allExp : Nat := 0
  fromImp : Nat := 0
  fromExp : Nat := 0
  demImp : Nat := 0
  demExp : Nat := 0
  length : Nat := 0
  metered : Nat := 0
  skipped : Nat := 0
  hwm : Nat := 0
deriving DecidableEq, Repr, Inhabited

/-- A record of the legal journal in its slots (R358). -/
structure JRec where
  slot : Nat := 0
  slots : Nat := 1
  seq : Nat := 0
  typ : Nat := 0
  ledger : Nat := 0
  /-- Header and body, without the signature. -/
  bytes : List Nat := []
  signature : Option (List Nat) := none
  /-- The role software has sent it to the replica holders (R363). -/
  sent : Bool := false
  holders : List Nat := []
deriving DecidableEq, Repr, Inhabited

/-- An MRAM save of the partition (R331, R356). -/
structure MetSave where
  seq : Nat := 0
  earlyWarning : Bool := false
  tot : Tot := {}
  rtc : Nat := 0
  /-- Records committed with it (R356). -/
  records : List JRec := []
deriving DecidableEq, Repr, Inhabited

/-- What the partition published of its last tick (R338). -/
structure TickPub where
  seq : Nat := 0
  means : List Int := [0, 0, 0, 0, 0, 0, 0, 0]
  power : Int := 0
  flags : Nat := 0
deriving DecidableEq, Repr, Inhabited

/-- A session mark delivered to the partition (R328). -/
structure Mark where
  close : Bool := false
  id : Nat := 0
  source : Nat := 0
  late : Bool := false
  /-- Ledger time at its delivery: it takes effect at the end of that tick. -/
  tick : Nat := 0
deriving DecidableEq, Repr, Inhabited

/-- A pulse input's accepted level is a register; what else it holds (R325). A pulse output's state (R327). -/
structure PoSt where
  /-- The QUANTITY code it counts and that quantity's value at the last counted weight, mJ; none before the first update. -/
  counted : Option (Nat × Rat) := none
  /-- A pulse is emitted: its active part or its gap. -/
  active : Bool := false
  gap : Bool := false
deriving DecidableEq, Repr, Inhabited

/-- The Selvedge partition's metrology (chapter 12). -/
structure Met where
  tot : Tot := {}
  /-- The two retention copies with their real-time clock counts (R331). -/
  copies : SMap (Option (Tot × Nat)) := []
  /-- The two MRAM save slots (R331). -/
  saves : SMap (Option MetSave) := []
  saveSeq : Nat := 0
  /-- The partition has started and books (R332). -/
  running : Bool := false
  booking : Bool := false
  /-- Last calibrated sample of each channel (R318 step 2). -/
  last : List Int := [0, 0, 0, 0, 0, 0, 0, 0]
  pub : TickPub := {}
  /-- Consecutive ticks in disagreement and agreement, current pair then voltage pair; the pairs' states (R320). -/
  disagree : List Nat := [0, 0]
  agree : List Nat := [0, 0]
  chkState : List Bool := [false, false]
  gapTicks : Nat := 0
  bound : Nat := 0
  boundImp : Nat := 0
  boundExp : Nat := 0
  recovery : Nat := 0
  clockLost : Bool := false
  dualDiff : Bool := false
  xchk : Bool := false
  /-- Ledger tick at which booking stopped and the real-time clock then (R332, R333). -/
  stopRtc : Nat := 0
  /-- Marks that take effect at the end of the running tick (R328). -/
  marks : List Mark := []
  /-- A boundary snapshot that waits for its commit (R355). -/
  bnd : List Bnd := []
  /-- Partner values: import, export mJ; completeness and unbooked ticks as they stand; both at its close (R329, R330). -/
  pImp : Nat := 0
  pExp : Nat := 0
  pComplete : Bool := false
  pUnbooked : Nat := 0
  pClosed : Bool := false
  pSeen : Bool := false
  /-- XCHK comparison: consecutive disagreeing and agreeing cycles (R322), and the mean current of the tick at 7.0 ms. -/
  xBad : Nat := 0
  xGood : Nat := 0
  po : SMap PoSt := []
  /-- The insulation injector: injecting, phase (R302, R304). -/
  injecting : Bool := false
  phase : Bool := false
deriving DecidableEq, Repr, Inhabited

/-- The Selvedge partition's billing and journal (chapter 13). -/
structure Bil where
  /-- Sequence number of the last accepted mailbox message (R341). -/
  lastSeq : Nat := 0
  /-- The message the main die last composed: type and body. -/
  sent : Option QItem := none
  /-- What the comparison of the offered sections with the sealed copies has found (R45): role instances of which a chunk differs. -/
  offerDiffers : List Nat := []
  /-- Bytes of the calendar copy delivered by SITE_PARAM (R349). -/
  site : List Nat := []
  journal : List JRec := []
  seq : Nat := 0
  /-- Next slot in ring order. -/
  head : Nat := 0
  /-- Tick of the last adopted CAL; a mismatch of R344 holds; last adopted CAL carried PROVEN. -/
  adoptTick : Nat := 0
  mismatch : Bool := false
  calProven : Bool := false
  /-- A DEMAND_SYNC edge up to this tick is ignored (R351). -/
  ignoreUntil : Nat := 0
  /-- A set-back (true) or a sync edge (false) fell in the tick that ends at this ledger time: the interval closes there (R351, R354). -/
  closeAt : Option (Nat × Bool) := none
  /-- The condition or its acknowledgement is open (R367). -/
  unacked : Bool := false
  /-- TAMPER records that found no slot or store (R365, R366). -/
  tamperLost : Nat := 0
  suppress : Bool := false
  /-- The role instance whose sealed section the partition runs from; it runs the SITE_PLAN copy (R45, R349). -/
  inst : Nat := 0
  isSite : Bool := false
  /-- Tamper: accepted onset of cover, terminal cover, Hall cover, magnet; Hall readings in a row on the other side (R366). -/
  inForce : List Bool := [false, false, false, false]
  hallRun : List Nat := [0, 0]
  /-- Events stored while the partition did not run: kind, onset, VIN present, real-time clock count, field, oldest first (R366). -/
  stored : List (Nat × Bool × Bool × Nat × List Int) := []
  storedLost : Nat := 0
  /-- Site unit: STEP_PENDING's D in 125 µs units at the last cycle start; ring time of the last step; calendar held; PTP calendar less
  ring time as the servo holds it, ns. -/
  lastStep : Option Nat := none
  holdsCal : Bool := false
  ptpOffset : Int := 0
  timeSet : Option Nat := none
deriving DecidableEq, Repr, Inhabited

/-- One safety input (R433): pin levels are told by the commands; the accepted levels (true = closed) and whether each channel has
been accepted since the start or the wake. -/
structure SafeIn where
  a : Bool := false
  b : Bool := false
  firstA : Bool := false
  firstB : Bool := false
deriving DecidableEq, Repr, Inhabited

/-- One consumed safety connection (R437 to R439). -/
structure ConnSt where
  /-- A first frame has been seen in RESYNC. -/
  first : Bool := false
  /-- The accepted frame that the next evaluation acts on. -/
  inbox : Option SafetyFrame := none
  /-- Ring times of refused frames, newest first (R437). -/
  refused : List Nat := []
  /-- Requested bits that it acts on, of the last frame acted on; its producer showed a latched demand. -/
  req : Nat := 0
  producerDemand : Bool := false
  producerLocked : Bool := false
  /-- Demand bits latched from this connection (R442). -/
  latch : Nat := 0
  /-- Functions executed because it expired (R438). -/
  expired : Nat := 0
  /-- SEQ of the next frame it produces. -/
  txSeq : Nat := 0
deriving DecidableEq, Repr, Inhabited

/-- Safety functions (chapter 16) that is no register. -/
structure Saf where
  inputs : SMap SafeIn := []
  conns : SMap ConnSt := []
  /-- Function bits demanded by events of this unit that hold no input: raised at the next evaluation (R431). -/
  raised : Nat := 0
  /-- The unit's own demand latches (R442), and the partner's as its frames show them (R443). -/
  ownLatch : Nat := 0
  partnerLatch : Nat := 0
  wasActive : Bool := false
  /-- Lock-out record in MRAM: cause and source (R441); cause of the partner's record (R443). -/
  record : Option (Nat × Nat) := none
  partnerCause : Nat := 0
  /-- Reset counts of PAIR_DATA: own, and the partner's as last seen (R443). -/
  resetCount : Nat := 0
  partnerResets : Option Nat := none
  /-- Safety outputs SFO[0] and SFO[1] driven (R431). -/
  sfo : List Bool := [false, false]
  /-- Outputs released for an off-pulse (R440), and those that a standby has reported as mismatching. -/
  pulsing : List Nat := []
  mismatch : List Nat := []
  /-- Password key in its two halves (R444), and the SAFETY digest of the running image. -/
  pw : KeyCell := {}
  /-- Change log, by SEQ modulo 1,024 (R448). -/
  log : SMap (List Nat) := []
  /-- The side that last wrote a safety parameter (R448, ORIGIN). -/
  writer : Nat := 0
deriving DecidableEq, Repr, Inhabited

/-- One coolant loop (R275 to R277). -/
structure CoolSt where
  /-- Sum of KI · (Q_DEM − Q) over the rounds: the integral is a fiftieth of it. -/
  integral : Int := 0
  /-- Feed-forward in force, 0.1 L/min, and the highest lower value seen in a running hold (R276). -/
  qff : Nat := 0
  holdMax : Option Nat := none
  /-- Rounds in a row above P_MAX and below P_MIN (R277). -/
  high : Nat := 0
  low : Nat := 0
  unreadable : Bool := false
deriving DecidableEq, Repr, Inhabited

/-- Cooling and thermal state (chapter 10) that is no register. Observer temperatures in 2^-32 °C. -/
structure Th where
  /-- Rounds in a row with a deviation, and with agreement, by channel (R272). -/
  devRun : SMap Nat := []
  okRun : SMap Nat := []
  cool : SMap CoolSt := []
  tc : Int := 0
  m : Int := 0
  b : Int := 0
  /-- The observer has been started since the last start or wake (R280). -/
  started : Bool := false
  /-- The partner's T_c, m and b as ITEM 0x07 last gave them (R280). -/
  partner : Option (Int × Int × Int) := none
  /-- Case of a stack outside its window (R288). -/
  caseStop : Bool := false
deriving DecidableEq, Repr, Inhabited

/-- Vehicle link and outlet sequencing (chapter 11) that is no register. Currents in 0.1 A, voltages in 0.1 V. -/
structure Vlk where
  /-- The session's setup was accepted; its OPEN mark was sent (R296, R328). -/
  session : Bool := false
  marked : Bool := false
  /-- Coils of SO_POS, SO_NEG and SO_DSC; auxiliary contacts SI_POS and SI_NEG read closed. -/
  soPos : Bool := false
  soNeg : Bool := false
  soDsc : Bool := false
  auxPos : Bool := false
  auxNeg : Bool := false
  /-- Step of R301: 0 waits for plan and stack, 1 closing, 2 ramp and settle, 3 measuring, 4 passed. -/
  ccStep : Nat := 0
  /-- What OUTLET_STATUS carries (R299). -/
  iReq : Int := 0
  vReq : Nat := 0
  wantsExport : Bool := false
  /-- V_REF of MODE 1, in 0.1 mV, as the slew has brought it (R301, R305). -/
  vRef : Nat := 0
  /-- A stop: its start time and the reference it ramps from (R307); a stop begun by the pre-charge timeout (R305). -/
  stopAt : Nat := 0
  stopFrom : Int := 0
  stopByPre : Bool := false
  vehOpen : Bool := false
  stopWait : Bool := false
  esd : Bool := false
  weldDue : Bool := false
  /-- First half of an insulation period: averaged response, mV, and its movement (R302). -/
  half : Option (Int × Nat) := none
  warnRun : Nat := 0
  clearRun : Nat := 0
  invalidRun : Nat := 0
  disagreeRun : Nat := 0
  /-- The ledger tick of the last valid result (R302, R313). -/
  validAt : Option Nat := none
  /-- Weld checks that ended INCONCLUSIVE (R308). -/
  inconclusive : Nat := 0
  /-- The partner's last valid R_TOTAL, kΩ (R304). -/
  partnerR : Option Nat := none
  /-- The standby holds the TLS secrets and the session's state (R310). -/
  secrets : Bool := false
  /-- The vehicle link stays silent after a take-over without SHADOW_OK (R310). -/
  silent : Bool := false
  /-- Last answer to the vehicle: message kind and its content. -/
  answer : Option QItem := none
deriving DecidableEq, Repr, Inhabited

end Sys2Proof.Machine
end

