-- ==== Sys2Proof/Machine/State.lean ====
section
/-!
DEFINITION. Machine/State.lean: the whole state of one unit, the reasons a step can stop, and the state after reset.
-/
namespace Sys2Proof.Machine

/-- Why a step faults. No command of this block ends in one: the spec gives every row an effect (NOTES.md, Stops). -/
inductive Fault where
  /-- Raised by no meaning; kept so that the type names what a stop would be: an access outside the machine. Safe. -/
  | outside
deriving DecidableEq, Repr

/-- Why a step refuses. -/
inductive Refusal where
  /-- Raised by exec's arm of a command that has no meaning yet, by the command's name. Safe. -/
  | notModelled (mnemonic : String)
deriving DecidableEq, Repr

/-- One SK-9600 unit. -/
structure State where
  /-- Commands that wait, first in, first out. -/
  pending : List Instr
  /-- Live values of the register fields, by key (R67); banked per side where a register is held per side (R79, R91). -/
  live : SMap Nat
  /-- Shadows of the BS and LV fields (R67). -/
  shadow : SMap Nat
  /-- Tack buffers of the BS and LV fields (R68). -/
  tbuf : SMap Nat
  /-- How many free values the run has drawn: the model's own field (log 1). -/
  drawn : Nat
  hbi : Hbi
  que : Que
  bar : Bar
  sys : Sys
  pat : Pat
  gd : Gd
  sht : Sht
  prt : Prt
  pair : Pair
  trg : Trg
  mrk : Mrk
  th : Th
  vlk : Vlk
  met : Met
  bil : Bil
  key : Key
  saf : Saf
  clk : Clk
deriving DecidableEq, Repr

/-- The unit before its first power-on: every register at the reset value of its map, nothing stored, no pattern loaded, the
queue empty (R38, R510; log 2 names the values the spec gives no reset for). -/
def State.reset : State where
  pending := []
  live := []
  shadow := []
  tbuf := []
  drawn := 0
  hbi := {}
  que := {}
  bar := {}
  sys := {}
  pat := {}
  gd := {}
  sht := {}
  prt := {}
  pair := {}
  trg := {}
  mrk := {}
  th := {}
  vlk := {}
  met := {}
  bil := {}
  key := {}
  saf := {}
  clk := {}

end Sys2Proof.Machine
end

