-- ==== Sys2Proof/Machine/Ops.lean ====
section
/-!
DEFINITION. Machine/Ops.lean: the named operations over register fields, counters, free values, events and queues that every
meaning is written with.
-/
namespace Sys2Proof.Machine
open Sys2Proof

/-- What exec answers. -/
abbrev Out := Host.Outcome State Fault Refusal

/-! ### Register cells -/

/-- The register map of the block an address lies in (R62). -/
def regsAt (addr : Nat) : List RegDef :=
  if addr < 0x1000 then regsSys
  else if addr < 0x2000 then regsHbi
  else if addr < 0x3000 then regsPat
  else if addr < 0x4000 then regsTrg
  else if addr < 0x8000 then regsMrk
  else if addr < 0x10000 then regsSht
  else if addr < 0x14000 then regsPwm
  else if addr < 0x18000 then regsGdi
  else if addr < 0x1A000 then regsGda
  else if addr < 0x1C000 then regsPrt
  else if addr < 0x1E000 then regsTh
  else if addr < 0x20000 then regsVlk
  else if addr < 0x22000 then regsMet
  else if addr < 0x24000 then regsBil
  else if addr < 0x26000 then regsKey
  else if addr < 0x28000 then regsPair
  else if addr < 0x2A000 then regsSaf
  else if addr < 0x2C000 then regsQue
  else if addr < 0x2E000 then regsClk ++ regsBar
  else if 0x200000 ≤ addr && addr < 0x201000 then regsClk
  else []

/-- The block number of an address (R62); 20 outside every block. -/
def blockOf (addr : Nat) : Nat :=
  if addr < 0x1000 then 0 else if addr < 0x2000 then 1 else if addr < 0x3000 then 2 else if addr < 0x4000 then 3
  else if addr < 0x8000 then 4 else if addr < 0x10000 then 5 else if addr < 0x14000 then 6 else if addr < 0x18000 then 7
  else if addr < 0x1A000 then 8 else if addr < 0x1C000 then 9 else if addr < 0x1E000 then 10 else if addr < 0x20000 then 11
  else if addr < 0x22000 then 12 else if addr < 0x24000 then 13 else if addr < 0x26000 then 14 else if addr < 0x28000 then 15
  else if addr < 0x2A000 then 16 else if addr < 0x2C000 then 17 else if addr < 0x2D000 then 18 else if addr < 0x2E000 then 19
  else 20

/-- The base address of a block (R62). -/
def blockBase (b : Nat) : Nat :=
  [0, 0x1000, 0x2000, 0x3000, 0x4000, 0x8000, 0x10000, 0x14000, 0x18000, 0x1A000, 0x1C000, 0x1E000, 0x20000, 0x22000, 0x24000,
   0x26000, 0x28000, 0x2A000, 0x2C000, 0x2D000].getD b 0

/-- Does an array of registers with these strides and counts hold the offset? -/
def dimsCover : List (Nat × Nat) → Nat → Bool
  | [], off => off == 0
  | (st, n) :: ds, off => off / st < n && dimsCover ds (off % st)

/-- Does the register, or the array, hold the address? -/
def RegDef.covers (r : RegDef) (addr : Nat) : Bool := r.base ≤ addr && dimsCover r.dims (addr - r.base)

/-- The register at an address, if one is mapped there (R63). -/
def regAt (addr : Nat) : Option RegDef := (regsAt addr).find? (·.covers addr)

/-- A register cell's key: 32 keys for each word address; per-side copies lie in banks of 2^28 addresses. -/
def Field.key (f : Field) : Nat := f.addr * 32 + f.lsb

/-- The bank offset of a side: side k's copy of a per-side register lies k · 2^28 addresses higher. -/
def bankStride : Nat := 0x10000000

/-- Side k's copy of a field that is held per side (R79, R91, R397). -/
def Field.bank (f : Field) (side : Nat) : Field := { f with addr := f.addr + side * bankStride }

/-- The reset value of a cell: what its register map states (log 2 for the maps' entries that state none). -/
def resetCell (key : Nat) : Nat :=
  match regAt (key / 32 % bankStride) with
  | none => 0
  | some r => match r.fields.find? (·.lsb == key % 32) with
    | none => 0
    | some f => f.reset

/-- The live value of a field. -/
def State.rd (s : State) (f : Field) : Nat := SMap.get resetCell s.live f.key

/-- Write the live value of a field, cut to its width. -/
def State.wr (s : State) (f : Field) (v : Nat) : State :=
  { s with live := SMap.set resetCell f.key (v % 2 ^ f.width) s.live }

/-- The live value of a one-bit field. -/
def State.rdb (s : State) (f : Field) : Bool := s.rd f != 0

/-- Write a one-bit field. -/
def State.wrb (s : State) (f : Field) (b : Bool) : State := s.wr f (if b then 1 else 0)

/-- A natural number of `w` bits read as two's complement. -/
def signedOf (w v : Nat) : Int := if v < 2 ^ (w - 1) then v else (v : Int) - 2 ^ w

/-- An integer as `w` bits of two's complement. -/
def bitsOf (w : Nat) (i : Int) : Nat := (i % (2 ^ w : Nat)).toNat

/-- The live value of a signed field. -/
def State.rdi (s : State) (f : Field) : Int := signedOf f.width (s.rd f)

/-- Write a signed field. -/
def State.wri (s : State) (f : Field) (i : Int) : State := s.wr f (bitsOf f.width i)

/-- Hold an integer within bounds. -/
def clampI (lo hi v : Int) : Int := if v < lo then lo else if hi < v then hi else v

/-- Write a signed field, saturating at its ends. -/
def State.wrisat (s : State) (f : Field) (i : Int) : State :=
  s.wri f (clampI (-(2 ^ (f.width - 1) : Nat)) ((2 ^ (f.width - 1) : Nat) - 1) i)

/-- Write an unsigned field, saturating at its largest value. -/
def State.wrsat (s : State) (f : Field) (v : Nat) : State := s.wr f (min v (2 ^ f.width - 1))

/-- Add to a counter field that saturates (R64, the maps' "saturates"). -/
def State.inc (s : State) (f : Field) (n : Nat := 1) : State := s.wrsat f (s.rd f + n)

/-- A 64-bit value held in two words, the low word's field given (R87). -/
def State.rd64 (s : State) (lo : Field) : Nat := s.rd lo + 2 ^ 32 * s.rd { lo with addr := lo.addr + 4 }

/-- Write both words of a 64-bit value in one step (R87). -/
def State.wr64 (s : State) (lo : Field) (v : Nat) : State := (s.wr lo v).wr { lo with addr := lo.addr + 4 } (v / 2 ^ 32)

/-- Set live value, shadow and tack buffer of a field alike, as a pattern load does (R38, R67). -/
def State.load (s : State) (key v : Nat) : State :=
  { s with live := SMap.set resetCell key v s.live
           shadow := SMap.set resetCell key v s.shadow
           tbuf := SMap.set resetCell key v s.tbuf }

/-- Is bit i of a number set? -/
def bit (v i : Nat) : Bool := v / 2 ^ i % 2 == 1

/-- The number with bit i set or cleared. -/
def setBit (v i : Nat) (b : Bool) : Nat := if bit v i == b then v else if b then v + 2 ^ i else v - 2 ^ i

/-- The set bits of a number below n. -/
def bitsBelow (v n : Nat) : List Nat := (List.range n).filter (bit v ·)

/-! ### Free values (log 1) -/

/-- Draw a value the spec leaves free; `tag` says which one is meant. -/
def State.draw (s : State) (tag : Nat) : Nat × State := (Config.free tag s.drawn, { s with drawn := s.drawn + 1 })

/-! ### Time and place -/

/-- Ring time as the unit holds it, ns (R103). -/
def State.now (s : State) : Nat := s.rd64 F.TRG_RING_TIME_LO

/-- CYCLE of the last cycle header, at the master of its own (R96). -/
def State.cycle (s : State) : Nat := s.rd64 F.TRG_CYCLE_LO

/-- The unit's ring address; 0 while unassigned (R104). -/
def State.addr (s : State) : Nat := s.rd F.TRG_STATUS_ADDR

/-- The claim enable EN (R404). -/
def State.en (s : State) : Bool := s.rdb F.PAIR_STATUS_EN

/-- Pair states of R407. -/
def psNone : Nat := 0
def psForming : Nat := 1
def psActive : Nat := 2
def psCold : Nat := 3
def psHot : Nat := 4
def psWithdrawing : Nat := 5

/-- The unit is active: it holds a non-zero claim with its enable (R404, R407). -/
def State.active (s : State) : Bool := s.rd F.PAIR_STATUS_STATE == psActive

/-- In Lull: CLK_LULL_STATUS.STATE is LULL (R479, R487). Entry and waking count as out of Lull for accesses, TACKs and what listens
(DESIGN CHOICE, log 114: R90 does not say). -/
def State.inLull (s : State) : Bool := s.rd F.CLK_LULL_STATUS_STATE == 2

/-- The role the unit holds (R5, R35). -/
def State.role (s : State) : RoleDecl := (s.pat.content.roles.find? (·.instance_ == s.pat.instance_)).getD {}

/-- The role's kind; none where the unit holds no role. -/
def State.kind (s : State) : RoleKind := if s.pat.instance_ == 0 then .none else s.role.kind

/-- The loops that the role declares, of the eight a unit has (R166). -/
def State.loops (s : State) : List LoopDecl := s.role.loops.filter (·.loop < 8)

/-- The declaration of loop m, if the pattern declares it. -/
def State.loopDecl (s : State) (m : Nat) : Option LoopDecl := s.loops.find? (·.loop == m)

/-! ### Events (R461 to R463) -/

/-- A code of R462. -/
def evCode (cls sev num : Nat) : Nat := cls * 4096 + sev * 1024 + num

def evClass (code : Nat) : Nat := code / 4096 % 16
def evSev (code : Nat) : Nat := code / 1024 % 4

/-- Rank, entry size, least depth and default depth of a queue (R453). -/
def queueTable : List (Nat × Nat × Nat × Nat) :=
  [(0, 16, 64, 256), (1, 64, 32, 64), (2, 32, 16, 32), (3, 128, 16, 64), (4, 64, 64, 256), (4, 64, 64, 256), (5, 64, 16, 64),
   (5, 128, 8, 32), (6, 1536, 8, 32), (6, 1536, 8, 32), (7, 16, 8, 32), (7, 16, 16, 64), (7, 1024, 8, 32), (7, 1024, 8, 32),
   (8, 64, 16, 128), (8, 32, 16, 512)]

/-- The depth of a queue: declared by the pattern, else its default (R453). -/
def State.depth (s : State) (q : Nat) : Nat :=
  match s.pat.content.queues.find? (·.1 == q) with
  | some (_, d) => d
  | none => (queueTable.getD q (0, 0, 0, 0)).2.2.2

/-- The items of a queue whose content only passes through. -/
def State.q (s : State) (n : Nat) : List QItem := SMap.get (fun _ => []) s.que.items n

/-- Write the level registers of a queue (R470, R471). -/
def State.queLevel (s : State) (n level : Nat) : State :=
  let s := s.wr (F.QUE_Q_DEPTH_LEVEL n) level
  let s := s.wr F.QUE_STATUS_NONEMPTY (setBit (s.rd F.QUE_STATUS_NONEMPTY) n (level != 0))
  let s := s.wr F.QUE_STATUS_FULL (setBit (s.rd F.QUE_STATUS_FULL) n (s.depth n ≤ level))
  if s.rd (F.QUE_Q_HWM n) < level then s.wr (F.QUE_Q_HWM n) level else s

/-- Set the content of a queue with its level registers. -/
def State.setQ (s : State) (n : Nat) (xs : List QItem) : State :=
  ({ s with que.items := SMap.set (fun _ => []) n xs s.que.items }).queLevel n xs.length

/-- Place an item; a full queue of rank 1 or above discards it and counts it in LOST (R455). -/
def State.enqueue (s : State) (n : Nat) (x : QItem) : State :=
  if (s.q n).length < s.depth n then s.setQ n (s.q n ++ [x]) else s.inc (F.QUE_Q_LOST n)

/-- Place an item in Q14: full, it replaces the oldest (R458). -/
def State.enqueueOldest (s : State) (n : Nat) (x : QItem) : State :=
  if (s.q n).length < s.depth n then s.setQ n (s.q n ++ [x])
  else (s.setQ n ((s.q n).drop 1 ++ [x])).inc (F.QUE_Q_LOST n)

/-- The entries that producers hold for a queue. -/
def State.heldFor (s : State) (n : Nat) : List QItem := SMap.get (fun _ => []) s.que.held n

/-- Place an item, or let its producer hold it while the queue is full (R456). -/
def State.place (s : State) (n : Nat) (x : QItem) : State :=
  if s.heldFor n == [] && (s.q n).length < s.depth n then s.setQ n (s.q n ++ [x])
  else { s with que.held := SMap.set (fun _ => []) n (s.heldFor n ++ [x]) s.que.held }

/-- Place all of some items, or discard and count all of them (R455). -/
def State.placeAll (s : State) (n : Nat) (xs : List QItem) : State :=
  if (s.q n).length + xs.length ≤ s.depth n then s.setQ n (s.q n ++ xs) else s.inc (F.QUE_Q_LOST n) xs.length

/-! ### Messages on the data slot (R97) -/

/-- A message cut into pieces of at most n bytes. -/
def cutBytes (n : Nat) : Nat → List Nat → List (List Nat)
  | 0, _ => []
  | k + 1, bs => if bs.length ≤ n then [bs] else bs.take n :: cutBytes n k (bs.drop n)

/-- The fragments of a part of a message on a channel as queue entries: kind 8 · channel + FIRST + 2 · LAST; 48 bytes each. -/
def fragmentsOf (channel : Nat) (first last : Bool) (part : List Nat) : List QItem :=
  let cs := cutBytes 48 part.length part
  (List.range cs.length).map fun i =>
    { kind := 8 * channel + (if first && i == 0 then 1 else 0) + (if last && i + 1 == cs.length then 2 else 0), body := cs.getD i [] }

/-- The fragments of a whole message. -/
def fragments (channel : Nat) (msg : List Nat) : List QItem := fragmentsOf channel true true msg

/-- A message, its destination first, is placed in a queue that feeds the data slot; its producer waits while the queue is full (R97,
R453, R456). -/
def State.ringSend (s : State) (queue channel dest : Nat) (body : List Nat) : State :=
  (fragments channel (dest :: body)).foldl (fun (s : State) f => s.place queue f) s

/-- A message sent in answer to a received one: Q5's drain does not wait on Q4, it is discarded where Q4 has no room (R455). -/
def State.ringReply (s : State) (channel dest : Nat) (body : List Nat) : State :=
  s.placeAll 4 (fragments channel (dest :: body))

/-- Merge an event into the newest entry of Q0 with the same CODE and SRC; none where there is no such entry (R457). -/
def mergeNewest (e : Ev) : List Ev → Option (List Ev)
  | [] => none
  | x :: xs => match mergeNewest e xs with
    | some ys => some (x :: ys)
    | none => if x.code == e.code && x.src == e.src then some ({ x with count := min 255 (x.count + 1) } :: xs) else none

/-- The lowest severity (largest SEVERITY value) in a list of events. -/
def lowestSev (es : List Ev) : Nat := es.foldl (fun m e => max m (evSev e.code)) 0

/-- Remove the first entry of a severity. -/
def dropFirstSev (sev : Nat) : List Ev → List Ev
  | [] => []
  | x :: xs => if evSev x.code == sev then xs else x :: dropFirstSev sev xs

/-- Set Q0 with its level registers. -/
def State.setQ0 (s : State) (xs : List Ev) : State := ({ s with que.q0 := xs }).queLevel 0 xs.length

/-- An entry enters Q0: placed, merged, or in place of the oldest of the lowest severity, or discarded (R457); LOST counts the last three
(R470). -/
def State.enterQ0 (s : State) (e : Ev) : State :=
  if s.que.q0.length < s.depth 0 then s.setQ0 (s.que.q0 ++ [e])
  else match mergeNewest e s.que.q0 with
    | some xs => (s.setQ0 xs).inc (F.QUE_Q_LOST 0)
    | none =>
      let low := lowestSev s.que.q0
      if evSev e.code ≤ low then (s.setQ0 (dropFirstSev low s.que.q0 ++ [e])).inc (F.QUE_Q_LOST 0)
      else s.inc (F.QUE_Q_LOST 0)

/-- Set Q11 with its level registers and MBX_OUT (R464). -/
def State.setQ11 (s : State) (xs : List Ev) : State :=
  (({ s with que.q11 := xs }).queLevel 11 xs.length).wrb F.QUE_IRQ_STATUS_MBX_OUT (xs != [])

/-- Add an entry to the subscriptions it matches (R466). -/
def subscribeEv (own : Nat) (e : Ev) (sub : Subscription) : Subscription :=
  if bit sub.classes (evClass e.code) && evSev e.code ≤ sub.maxSev && (sub.scopeAll || e.src == own)
  then { sub with waiting := sub.waiting ++ [e] } else sub

/-- A waiting entry of a subscription is overwritten in the fault ring before it was sent (R466). -/
def loseEv (old : Ev) (sub : Subscription) : Subscription :=
  if sub.waiting.contains old then { sub with waiting := sub.waiting.erase old, lost := min 65535 (sub.lost + 1) } else sub

/-- The fault ring's head passes over an entry that is still there: it is lost to the subscriptions and counted (R461, R466). -/
def State.ringOver (s : State) : State :=
  match SMap.get (fun _ => none) s.que.ring (s.rd F.QUE_FR_HEAD) with
  | none => s
  | some old =>
    ({ s with que.subs := s.que.subs.map (loseEv old) }).inc F.QUE_FR_OVERFLOW |>.wrb F.QUE_IRQ_STATUS_FR_OVERFLOW true

/-- An entry is written at the fault ring's head, which moves on, and added to the subscriptions it matches (R461, R466). -/
def State.ringStore (s : State) (e : Ev) : State :=
  ({ s with que.ring := SMap.set (fun _ => none) (s.rd F.QUE_FR_HEAD) (some e) s.que.ring
            que.subs := s.que.subs.map (subscribeEv s.addr e) }).wr F.QUE_FR_HEAD ((s.rd F.QUE_FR_HEAD + 1) % 4096)

/-- The interrupt flags an entry sets, of this unit's own events and of others' (R464). -/
def State.ringFlags (s : State) (e : Ev) : State :=
  if e.src == s.addr then
    if bit (s.rd F.QUE_IRQ_CLASS_LOCAL) (evClass e.code) && evSev e.code ≤ s.rd F.QUE_IRQ_SEV_LOCAL_MAX
    then s.wrb F.QUE_IRQ_STATUS_EVENT_LOCAL true else s
  else if bit (s.rd F.QUE_IRQ_CLASS_REMOTE) (evClass e.code) && evSev e.code ≤ s.rd F.QUE_IRQ_SEV_REMOTE_MAX
    then s.wrb F.QUE_IRQ_STATUS_EVENT_REMOTE true else s

/-- The entry is offered to the metering partition through Q11 (R464). -/
def State.ringMailbox (s : State) (e : Ev) : State :=
  if bit (s.rd F.QUE_MBX_MASK_CLASSES) (evClass e.code) && evSev e.code ≤ s.rd F.QUE_MBX_MASK_MAX_SEV then
    if s.que.q11.length < s.depth 11 then s.setQ11 (s.que.q11 ++ [e]) else s.inc (F.QUE_Q_LOST 11)
  else s

/-- Write an entry to the fault ring and route it to the host, to Q11 and to the subscriptions (R457, R461, R464, R466). -/
def State.ringWrite (s : State) (e : Ev) : State := ((s.ringOver.ringStore e).ringFlags e).ringMailbox e

/-- Is event a more severe than b (R462)? -/
def moreSevere (a b : Nat) : Bool :=
  evSev a < evSev b || (evSev a == evSev b && (evClass a < evClass b || (evClass a == evClass b && a % 1024 < b % 1024)))

/-- Events merged into one Squall frame: the most severe, with the number merged (R99). -/
def mergeSquall (old : Option Ev) (e : Ev) : Ev :=
  match old with
  | none => e
  | some o => { (if moreSevere e.code o.code then e else o) with count := min 255 (o.count + e.count) }

/-- An event becomes pending for the unit's next Squall frame (R99); the events of the present cycle are counted apart from earlier ones. -/
def State.squallPend (s : State) (e : Ev) : State :=
  let h := s.trg.squallHere
  let here := if s.trg.squall.isNone then (s.cycle, e.count, 0)
    else if h.1 == s.cycle then (h.1, h.2.1 + e.count, h.2.2) else (s.cycle, e.count, h.2.1 + h.2.2)
  { s with trg.squall := some (mergeSquall s.trg.squall e), trg.squallHere := here }

/-- The unit originates a Squall frame for local events of severity C, F or W and for the vehicle class (R462). -/
def squallWorthy (code : Nat) : Bool := evSev code < 3 || evClass code == 9

/-- An event of this unit: into Q0, in Lull straight into the fault ring (R457, R468), and pending for Squall (R99, R462). -/
def State.event (s : State) (code arg : Nat) : State :=
  let e : Ev := { time := s.now, code := code, src := s.addr, arg := arg }
  let s := if s.inLull then s.ringWrite e else s.enterQ0 e
  if squallWorthy code then s.squallPend e else s

/-- A configuration error event of a kind (R463). -/
def State.configError (s : State) (kind item : Nat) : State :=
  s.event (evCode 0xC 2 1) (kind * 2 ^ 24 + item % 65536)

/-- HB_IRQ_N is driven low (R464). -/
def State.irq (s : State) : Bool :=
  (List.range 4).any fun i => bit (s.rd F.QUE_IRQ_EN_EN) i &&
    [s.rdb F.QUE_IRQ_STATUS_EVENT_LOCAL, s.rdb F.QUE_IRQ_STATUS_EVENT_REMOTE, s.rdb F.QUE_IRQ_STATUS_FR_OVERFLOW,
     s.rdb F.QUE_IRQ_STATUS_MBX_OUT].getD i false

/-! ### Tags of the ring (R107) -/

/-- `n` bytes of a number, little-endian. -/
def leBytes : Nat → Nat → List Nat
  | 0, _ => []
  | n + 1, v => v % 256 :: leBytes n (v / 256)

/-- The nonce of a ring frame: SRC, its kind, CYCLE, and SEQ for a Squall frame or a vote frame (R107, R417). -/
def ringNonce (src kind cycle seq : Nat) : List Nat :=
  [src, kind] ++ leBytes 8 cycle ++ leBytes 2 seq

/-- Ciphertext and tag of a ring frame of this unit under the current ring key; empty bytes where it holds none (log 98). -/
def State.ringSeal (s : State) (kind cycle seq : Nat) (aad plain : List Nat) : List Nat × List Nat :=
  match s.trg.key with
  | none => ([], [])
  | some k => Config.gcmSeal k (ringNonce s.addr kind cycle seq) aad plain

/-! ### Ledger time and the Barograph counters -/

/-- Ledger time as the partition holds it, ticks (R317). -/
def State.ledger (s : State) : Nat := s.met.tot.ledger

/-- The width in bits of a scalar Barograph counter (R490). -/
def barWidth (id : Nat) : Nat := if id < 4 then 64 else 32

/-- Add to a scalar Barograph counter; it saturates (R490). -/
def State.barAdd (s : State) (id n : Nat) : State :=
  let v := SMap.get (fun _ => 0) s.bar.cnt.scalar id
  { s with bar.cnt.scalar := SMap.set (fun _ => 0) id (min (v + n) (2 ^ barWidth id - 1)) s.bar.cnt.scalar }

/-- A scalar Barograph counter. -/
def State.barGet (s : State) (id : Nat) : Nat := SMap.get (fun _ => 0) s.bar.cnt.scalar id

end Sys2Proof.Machine
end

