-- ==== Sys2Proof/Machine/Baro.lean ====
section
/-!
DEFINITION. Machine/Baro.lean: the Barograph (chapter 19): its counters, their saves, the blocks and rainflow counting.
-/
namespace Sys2Proof.Machine
open Sys2Proof

/-- The number that bytes spell, little-endian. -/
def ofLe : List Nat → Nat
  | [] => 0
  | b :: bs => b % 256 + 256 * ofLe bs

/-- Bytes padded with zeros, or cut, to a length. -/
def padTo (n : Nat) (bs : List Nat) : List Nat := (bs ++ List.replicate n 0).take n

/-- CONTACTOR[k] (R492). -/
def State.contactor (s : State) (k : Nat) : ContactorCount := SMap.get (fun _ => {}) s.bar.cnt.contactor k

/-- The counters of a page in increasing ID, each at its width (R490, R496). -/
def BarCounters.page (c : BarCounters) (p : Nat) : List Nat :=
  let sc (id : Nat) : Nat := SMap.get (fun _ => 0) c.scalar id
  match p with
  | 0 => (List.range 4).flatMap (fun i => leBytes 8 (sc i)) ++ (List.range 11).flatMap (fun i => leBytes 4 (sc (4 + i)))
  | 1 => (List.range 22).flatMap fun i => leBytes 4 (sc (0x10 + i))
  | 2 => (List.range 20).flatMap fun k =>
      let x := SMap.get (fun _ => ({} : ContactorCount)) c.contactor k
      leBytes 4 x.ops ++ leBytes 4 x.eqOps ++ leBytes 4 x.loadOps ++ leBytes 2 x.breakMax ++ [0, 0]
  | 3 => (List.range 60).flatMap fun i => leBytes 4 (SMap.get (fun _ => 0) c.tempHist i / 50)
  | _ => (List.range 32).flatMap (fun b => leBytes 4 (SMap.get (fun _ => 0) c.rainflow b)) ++ leBytes 2 c.rainMax

/-- Save the counters to the next of the two MRAM slots (R495). -/
def State.barSave (s : State) : State :=
  let q := s.rd F.BAR_SAVE_SEQ + 1
  ({ s with bar.saves := SMap.set (fun _ => none) (q % 2) (some (q, s.bar.cnt)) s.bar.saves
            bar.retSeq := q }).wr F.BAR_SAVE_SEQ q

/-- The bytes of a block before its signature (R496). -/
def BarBlock.head (b : BarBlock) (device : Nat) : List Nat :=
  [0x40, b.page, 1, b.owner, b.reason, 0, 0, 0] ++ leBytes 4 b.no ++ [0, 0, 0, 0] ++ leBytes 8 device ++ leBytes 8 b.ledger ++
    padTo 16 b.prev ++ padTo 368 b.body

/-- A whole block of 512 bytes (R496). -/
def BarBlock.bytes (b : BarBlock) (device : Nat) : List Nat := b.head device ++ padTo 96 b.signature

/-- The replica holders of an owner by the latest DUTY (R157, R158). -/
def State.holdersOf (s : State) (owner : Nat) : List Nat :=
  match s.mrk.duty.replicas.find? (·.1 == owner) with
  | none => []
  | some (_, a, b) => [a, b].filter (· != 0)

/-- Write one block of a page: chained, signed, stored over the oldest of 1,024, copies for the holders placed in Q14 (R496, R497). -/
def State.barBlock (s : State) (reason page : Nat) : State :=
  let prev := match s.bar.blocks with
    | [] => []
    | b :: _ => (Config.sha384 (b.bytes Config.deviceId)).take 16
  let b : BarBlock := { no := s.rd F.BAR_BLOCK_NO + 1, page := page, reason := reason, owner := s.addr, ledger := s.ledger,
                        prev := prev, body := s.bar.cnt.page page }
  let b := { b with signature := Config.ecdsaSign s.key.identity (b.head Config.deviceId) }
  let s := { s with bar.blocks := (b :: s.bar.blocks).take 1024 }
  let s := s.wr F.BAR_BLOCK_NO b.no
  (s.holdersOf s.addr).foldl (fun s h => s.enqueueOldest 14 { kind := h, body := b.bytes Config.deviceId }) s

/-- The five pages as five consecutive blocks (R497). -/
def State.barBlocks (s : State) (reason : Nat) : State := (List.range 5).foldl (fun s p => s.barBlock reason p) s

/-! ### The energy of a stack (R490) -/

/-- 10 ms of a stack's output: `e` in 0.1 mJ, negative while energy is taken from the outlet bus. Whole watt-hours are counted, the
rest is kept. -/
def State.stackEnergy (s : State) (e : Int) : State :=
  let wh := 36000000
  if 0 ≤ e then
    let t := s.bar.cnt.outRest + e.toNat
    ({ s with bar.cnt.outRest := t % wh } : State).barAdd 2 (t / wh)
  else
    let t := s.bar.cnt.backRest + e.natAbs
    ({ s with bar.cnt.backRest := t % wh } : State).barAdd 3 (t / wh)

/-! ### Contactor wear (R492) -/

/-- One operation of contactor k with the breaking current, A; `load` says |I| was above MRK_SEQ.ZERO at an opening. -/
def State.contactorOp (s : State) (k : Nat) (breakA : Nat) (load : Bool) : State :=
  match s.role.contactors[k]? with
  | none => s
  | some d =>
    let c := s.contactor k
    let eq := (16 * (d.iDecl * d.iDecl + d.breakEq * breakA * breakA) + d.iDecl * d.iDecl / 2) / max 1 (d.iDecl * d.iDecl)
    let c := { c with
      ops := min (c.ops + 1) (2 ^ 32 - 1)
      eqOps := min (c.eqOps + eq) (2 ^ 32 - 1)
      loadOps := min (c.loadOps + if load then 1 else 0) (2 ^ 32 - 1)
      breakMax := min (max c.breakMax breakA) 65535 }
    { s with bar.cnt.contactor := SMap.set (fun _ => {}) k c s.bar.cnt.contactor }

/-- The highest EQ_OPS / DECL_OPS among the row's cross-points, 1/65,536, saturating (R492). -/
def State.xpWear (s : State) : Nat :=
  let n := (s.pat.content.crossPoints.filter (·.1 == s.role.rowCol)).length
  ((List.range n).map fun k => match s.role.contactors[k]? with
    | none => 0
    | some d => min 65535 ((s.contactor k).eqOps * 4096 / max 1 d.declOps)).foldl max 0

/-! ### Rainflow (R494) -/

/-- Does (a / b)^(p / 2^r) reach n · c / d?  All numbers exact. -/
def powReaches (a b p r n c d : Nat) : Bool := (n * c) ^ (2 ^ r) * b ^ p ≤ a ^ p * d ^ (2 ^ r)

/-- Split a positive dyadic m · 2^e / 2^150 into an odd power p and a root 2^r. -/
def oddSplit (fuel v : Nat) (r : Nat) : Nat × Nat :=
  match fuel with
  | 0 => (v, r)
  | f + 1 => if r == 0 || v % 2 == 1 then (v, r) else oddSplit f (v / 2) (r - 1)

/-- Largest n below 2^k with `ok n`, by bisection from the top bit. -/
def bisect (ok : Nat → Bool) : Nat → Nat → Nat
  | 0, acc => acc
  | k + 1, acc => if ok (acc + 2 ^ k) then bisect ok k (acc + 2 ^ k) else bisect ok k acc

/-- Damage of one full cycle of a range of dt tenths of a kelvin, in 2^-32 of life, times 2 and rounded down: the caller rounds.
1 / N_f = (ΔT / DTREF)^EXP / NREF with the registers' exact values; a register that is not a positive number gives a value the
spec does not state (log 1). -/
def damageHalves (nref dtref exp dt : Nat) : Nat :=
  match fpExact' nref, fpExact' dtref, fpExact' exp with
  | some n, some t, some e =>
    let (p, r) := oddSplit 150 e 150
    -- 2^33 (dt/10 · 2^150 / t)^(p/2^r) · 2^150 / n  ≥  k
    bisect (fun k => powReaches (dt * 2 ^ 150) (10 * t) p r k n (2 ^ 183)) 34 0
  | _, _, _ => Config.free 3 (((nref * 2 ^ 32 + dtref) * 2 ^ 32 + exp) * 2 ^ 32 + dt) % 2 ^ 33
where
  fpExact' (b : Nat) : Option Nat :=
    if nonFinite b || bit b 31 || b % 2 ^ 31 == 0 then none else some (Fp.ofBits b).scaled.toNat

/-- Add a closed range to the histogram and to LIFE_USED: a full cycle counts two half cycles (R494). -/
def State.closeRange (s : State) (dt : Nat) (full : Bool) : State :=
  if dt < s.rd F.BAR_RF_CFG_MIN_DT then s else
  let b := min 31 (dt / 50)
  let old := SMap.get (fun _ => 0) s.bar.cnt.rainflow b
  let s := { s with
    bar.cnt.rainflow := SMap.set (fun _ => 0) b (min (old + if full then 2 else 1) (2 ^ 32 - 1)) s.bar.cnt.rainflow
    bar.cnt.rainMax := min 65535 (max s.bar.cnt.rainMax dt) }
  let h := damageHalves (s.rd F.BAR_RF_NREF) (s.rd F.BAR_RF_DTREF) (s.rd F.BAR_RF_EXP) dt
  s.barAdd 8 (if full then (h + 1) / 2 else (h + 2) / 4)

/-- Enter a turning point or extend the present ramp; newest first. -/
def turnPoint (t : Int) : List Int → List Int
  | a :: b :: rest => if (b ≤ a && a ≤ t) || (t ≤ a && a ≤ b) then t :: b :: rest else t :: a :: b :: rest
  | [a] => if a == t then [a] else [t, a]
  | [] => [t]

/-- Close inner ranges by the four-point rule: residue newest first, ranges closed. -/
def fourPoint : Nat → List Int → List Nat → List Int × List Nat
  | 0, r, cs => (r, cs)
  | f + 1, d :: c :: b :: a :: rest, cs =>
    let inner := (c - b).natAbs
    if inner ≤ (b - a).natAbs && inner ≤ (d - c).natAbs then fourPoint f (d :: a :: rest) (inner :: cs)
    else (d :: c :: b :: a :: rest, cs)
  | _ + 1, r, cs => (r, cs)

/-- One T_MODULE sample, 0.1 °C (R494). A 65th open turning point closes the oldest range as a half cycle. -/
def State.rainflow (s : State) (t : Int) : State :=
  let (res, closed) := fourPoint 64 (turnPoint t s.bar.cnt.residues.reverse) []
  let s := closed.foldl (fun s dt => s.closeRange dt true) s
  let pts := res.reverse
  if 64 < pts.length then
    ({ s with bar.cnt.residues := pts.drop 1 }).closeRange ((pts.headD 0 - (pts.drop 1).headD 0).natAbs) false
  else { s with bar.cnt.residues := pts }

/-! ### Temperature histograms (R493) -/

/-- The bin of a value in 0.1 °C; none of the group's value too hot falls in bin 19. -/
def tempBin (t : Option Int) : Nat :=
  match t with
  | none => 19
  | some t => if t < -300 then 0 else if 1500 ≤ t then 19 else ((t + 400) / 100).toNat

/-- Add rounds of 20 ms to a bin (R493): the stored count is in 20 ms, 4 bytes of seconds. -/
def State.tempAdd (s : State) (i rounds : Nat) : State :=
  let old := SMap.get (fun _ => 0) s.bar.cnt.tempHist i
  { s with bar.cnt.tempHist := SMap.set (fun _ => 0) i (min (old + rounds) (2 ^ 32 * 50 - 1)) s.bar.cnt.tempHist }

end Sys2Proof.Machine
end

