-- ==== Sys2Proof/Machine/Lanes.lean ====
section
/-!
DEFINITION. Machine/Lanes.lean: the bytes of a LANES section: header, loop descriptors, program parts, COMMIT list and start values
(R178 to R180).
-/
namespace Sys2Proof.Machine
open Sys2Proof

/-- A little-endian number of n bytes at an offset. -/
def leAt (b : List Nat) (off n : Nat) : Nat := ofLe ((b.drop off).take n)

/-- n words of 32 bits, n instructions of 64 bits, from an offset. -/
def wordsAt (b : List Nat) (off n : Nat) : List Nat := (List.range n).map fun i => leAt b (off + 4 * i) 4
def instrsAt (b : List Nat) (off n : Nat) : List Nat := (List.range n).map fun i => leAt b (off + 8 * i) 8

/-- The bytes of descriptor i. -/
def descriptor (b : List Nat) (i : Nat) : List Nat := (b.drop (16 + 64 * i)).take 64

/-- Where the descriptor field at an offset places something: BLOB_OFFSET plus that field (R179; the other offsets are taken as PROG_OFFSET
is, log 112). -/
def placed (b d : List Nat) (off : Nat) : Nat := leAt b 4 4 + leAt d off 4

/-- A COMMIT entry (R180). -/
def commitAt (b : List Nat) (off : Nat) : CommitEntry :=
  let t := leAt b off 2
  let f := leAt b (off + 2) 1
  { kind := t / 2 ^ 14, target := t % 2 ^ 10, integrator := f % 2 == 1, compensator := f / 2 % 2 == 1, source := leAt b (off + 3) 1
    corr := wordsAt b (off + 4) 4 }

/-- How many COMMIT entries a descriptor has. -/
def commitCount (d : List Nat) : Nat := leAt d 0x28 1 + leAt d 0x29 1

/-- Where the four parts of the program end, from its start, in instructions. -/
def partLengths (d : List Nat) : List Nat := [leAt d 0x10 2, leAt d 0x12 2, leAt d 0x14 2, leAt d 0x16 2]

/-- A loop descriptor with what it points to (R178 to R180). The predicted channels' ADC numbers are those of the CFG words that it gives them
(R201); the words of the sequencer and the modes, which no table of R179 places, are those of `base` (log 3). -/
def loopAt (b : List Nat) (i : Nat) (base : List LoopDecl) : LoopDecl :=
  let d := descriptor b i
  let prog := placed b d 0x18
  let p := leAt d 0x10 2
  let o := leAt d 0x12 2
  let x := leAt d 0x14 2
  let pch := placed b d 0x30
  let pchs := (List.range (leAt d 0xF 1)).map fun c =>
    (leAt b (pch + 12 * c) 4, leAt b (pch + 12 * c + 4) 4, leAt b (pch + 12 * c + 8) 4)
  { ((base.find? (·.loop == leAt d 0 1)).getD {}) with
    loop := leAt d 0 1, lanes := leAt d 1 1, hbMask := leAt d 2 2, adcMask := leAt d 4 2, keyAdc := leAt d 6 1, anchorHb := leAt d 7 1
    nb := leAt d 8 1, bw := leAt d 9 1, bwMin := leAt d 0xA 1, bwMax := leAt d 0xB 1
    autoWidth := leAt d 0xC 1 % 2 == 1, updateNext := leAt d 0xC 1 / 2 % 2 == 1
    bgDiv := leAt d 0xD 1, nRegions := leAt d 0xE 1
    predicted := pchs.map fun w => w.2.1 / 2 ^ 24 % 16
    predict := instrsAt b prog p
    outcome := instrsAt b (prog + 8 * p) o
    exact := instrsAt b (prog + 8 * (p + o)) x
    background := instrsAt b (prog + 8 * (p + o + x)) (leAt d 0x16 2)
    nCoef := leAt d 0x20 2, coef := wordsAt b (placed b d 0x1C) (leAt d 0x20 2), nState := leAt d 0x22 2
    commit := (List.range (commitCount d)).map fun k => commitAt b (placed b d 0x24 + 20 * k)
    nCmp := leAt d 0x28 1, nCState := leAt d 0x29 1, schedWord := leAt d 0x2A 1, gset := leAt d 0x2B 1
    theta := wordsAt b (placed b d 0x2C) 7, hyst := wordsAt b (placed b d 0x2C + 28) 7
    pchStart := pchs }

/-- The loops of a LANES section. -/
def loopsAt (b : List Nat) (base : List LoopDecl) : List LoopDecl := (List.range (min 8 (leAt b 1 1))).map fun i => loopAt b i base

/-- A COMMIT entry's flags are those of R180, its kind is one of its three. -/
def commitShapeOk (b : List Nat) (off : Nat) : Bool := leAt b (off + 2) 1 < 4 && leAt b off 2 / 2 ^ 14 < 3

/-- A descriptor keeps the layout of R179: its masks and flags, its zero field, the number of its compare entries, and everything that it
points to inside the section (log 112). -/
def descriptorOk (b : List Nat) (i : Nat) : Bool :=
  let d := descriptor b i
  let inside (off size : Nat) : Bool := off + size ≤ b.length
  let list := placed b d 0x24
  let offs := (List.range (commitCount d)).map fun k => list + 20 * k
  leAt d 2 2 < 4096 && leAt d 0xC 1 < 4 && (d.drop 0x34).all (· == 0) &&
  inside (placed b d 0x18) (8 * (partLengths d).sum) && inside (placed b d 0x1C) (4 * leAt d 0x20 2) && inside list (20 * commitCount d) &&
  inside (placed b d 0x2C) 56 && inside (placed b d 0x30) (12 * leAt d 0xF 1) &&
  offs.all (commitShapeOk b) && (offs.filter fun o => leAt b o 2 / 2 ^ 14 == 0).length == leAt d 0x28 1

/-- A LANES section keeps the layout of R179. -/
def lanesShapeOk (b : List Nat) : Bool :=
  leAt b 0 1 == 1 && 1 ≤ leAt b 1 1 && leAt b 1 1 ≤ 8 && leAt b 2 2 == 0 && ((b.drop 8).take 8).all (· == 0) &&
  16 + 64 * leAt b 1 1 ≤ b.length && (List.range (leAt b 1 1)).all (descriptorOk b)

end Sys2Proof.Machine
end

