-- ==== Sys2Proof/Machine/Params.lean ====
section
/-!
DEFINITION. Machine/Params.lean: the safety parameter set: its CRC and its change log (R435, R445, R446, R448).
-/
namespace Sys2Proof.Machine
open Sys2Proof

/-- One bit of CRC-32C, reflected: 0x82F6_3B78 is 0x1EDC_6F41 reversed (R435). -/
def crcBit (c : Nat) : Nat := if c % 2 == 1 then (c / 2) ^^^ 0x82F63B78 else c / 2

/-- One byte of CRC-32C. -/
def crcByte (c b : Nat) : Nat := (List.range 8).foldl (fun x _ => crcBit x) (c ^^^ (b % 256))

/-- CRC-32C of a byte string (R435). -/
def crc32c (bs : List Nat) : Nat := bs.foldl crcByte 0xFFFFFFFF ^^^ 0xFFFFFFFF

/-- The bytes of a word, least significant first. -/
def wordBytes (w : Nat) : List Nat := [w % 256, w / 256 % 256, w / 65536 % 256, w / 2 ^ 24 % 256]

/-- The addresses of a register or an array of registers. -/
def dimAddrs : List (Nat × Nat) → Nat → List Nat
  | [], a => [a]
  | (st, n) :: ds, a => (List.range n).flatMap fun i => dimAddrs ds (a + i * st)

/-- The live word that holds the safety fields of a register at an address, every other bit zero (R446). -/
def State.safetyWord (s : State) (r : RegDef) (addr : Nat) : Nat :=
  r.fields.foldl (fun w f => if f.safety then w + s.rd ⟨addr, f.lsb, f.width⟩ * 2 ^ f.lsb else w) 0

/-- Put an entry in address order. -/
def insertAddr (e : Nat × Nat) : List (Nat × Nat) → List (Nat × Nat)
  | [] => [e]
  | x :: xs => if e.1 < x.1 then e :: x :: xs else x :: insertAddr e xs

/-- The words of the safety parameter set in order of block number and offset (R445, R446). -/
def State.safetyWords (s : State) : List (Nat × Nat) :=
  (regsGdi ++ regsPrt ++ regsVlk ++ regsPair ++ regsSaf).foldl
    (fun (l : List (Nat × Nat)) r =>
      if r.fields.any (·.safety) then (dimAddrs r.dims r.base).foldl (fun l a => insertAddr (a, s.safetyWord r a) l) l else l) []

/-- SAF_PARAM_CRC over the live set (R446). -/
def State.paramCrc (s : State) : Nat := crc32c (s.safetyWords.flatMap fun e => wordBytes e.2)

/-- Is a cell a field of the safety parameter set? -/
def safetyKey (key : Nat) : Bool :=
  match (regAt (key / 32 % bankStride)).bind fun r => r.fields.find? (·.lsb == key % 32) with
  | some f => f.safety
  | none => false

/-- Bytes of a number, least significant first. -/
def logBytes (n v : Nat) : List Nat := (List.range n).map fun i => v / 256 ^ i % 256

/-- One record of the safety change log (R448): `kind` 1 parameter change, 2 password set, 3 lock-out reset, 4 pattern replacement. -/
def State.safLog (s : State) (kind origin client cause oldCrc newCrc fields first : Nat) : State :=
  let q := s.rd64 F.SAF_LOG_SEQ_LO + 1
  let digest := (s.role.safetyDigest ++ List.replicate 16 0).take 16
  let body := logBytes 8 q ++ logBytes 8 s.ledger ++ [kind, origin, client, cause] ++ logBytes 4 oldCrc ++ logBytes 4 newCrc ++
    logBytes 2 fields ++ logBytes 2 first ++ digest ++ List.replicate 12 0
  let s := if SMap.get (fun _ => []) s.saf.log (q % 1024) == [] then s else s.inc F.SAF_LOG_LOST
  { s.wr64 F.SAF_LOG_SEQ_LO q with saf.log := SMap.set (fun _ => []) (q % 1024) (body ++ logBytes 4 (crc32c body)) s.saf.log }

/-- CLIENT of a log record: the shore client of a session, 0xFF for the host and the pattern (R448). -/
def State.clientOf (s : State) (side : Nat) : Nat :=
  if side == 0 then 255 else (SMap.get (fun _ => ({} : ShoreSt)) s.trg.shore side).client

/-- ORIGIN of a log record: 1 host, 2 shore (R448). -/
def originOf (side : Nat) : Nat := if side == 0 then 1 else 2

/-- Where a register stands in a log record: block number in [15:11], word offset / 4 in [10:0] (R448). -/
def regPlace (addr : Nat) : Nat := blockOf addr * 2048 + (addr - blockBase (blockOf addr)) / 4 % 2048

/-- What an application of changed safety parameters does (R445, R446, R448): the set is stored in MRAM with the digest it is based on
(R48), the CRC is computed and the change is logged. -/
def State.paramsApplied (s old : State) : State :=
  let keys := s.live.map (·.1) ++ (old.live.map (·.1)).filter fun k => !(s.live.map (·.1)).contains k
  let changed := keys.filter fun k => SMap.get resetCell s.live k != SMap.get resetCell old.live k && safetyKey k
  match changed with
  | [] => s
  | k :: ks =>
    let first := ks.foldl min k
    let before := s.rd F.SAF_PARAM_CRC
    let s := s.wr F.SAF_PARAM_CRC s.paramCrc
    let kept := match s.pat.safetyStored with
      | some (d, l) => if d == s.role.safetyDigest then l.map (fun (e : Nat × Nat) => e.1) else []
      | none => []
    let stored := (changed ++ kept.filter fun k => !changed.contains k).map fun k => (k, SMap.get resetCell s.live k)
    let s := { s with pat.safetyStored := some (s.role.safetyDigest, stored) }
    s.safLog 1 (originOf s.saf.writer) (s.clientOf s.saf.writer) 0 before (s.rd F.SAF_PARAM_CRC) changed.length (regPlace (first / 32))

end Sys2Proof.Machine
end

