-- ==== Sys2Proof/Machine/Tack.lean ====
section
/-!
DEFINITION. Machine/Tack.lean: shadows, tack buffers and safe boundaries (R67 to R78, R177, R182, R192, R199, R220, R254).
-/
namespace Sys2Proof.Machine
open Sys2Proof

/-- The definition of the field that a cell holds. -/
def fieldDefAt (key : Nat) : Option FieldDef :=
  (regAt (key / 32 % bankStride)).bind fun r => r.fields.find? (·.lsb == key % 32)

/-- Is the field a BS or LV field, which has a shadow (R67)? -/
def FieldDef.staged (f : FieldDef) : Bool := f.acc == .bs || f.acc == .lv

/-- Does the cell hold a field with a shadow? -/
def stagedKey (key : Nat) : Bool := match fieldDefAt key with
  | some f => f.staged
  | none => false

/-- A value outside the field's stated range takes effect at the nearer end (R203 and the like). -/
def FieldDef.nearer (f : FieldDef) (v : Nat) : Nat := match f.range with
  | none => v
  | some (lo, hi) => if f.signed then bitsOf f.width (clampI lo hi (signedOf f.width v)) else (clampI lo hi v).toNat

/-- GAIN and FORGET of a compensator channel, whose ranges 0 to 1 and 0.9 to 1 R220 states for values outside a group. -/
def nearerFp (addr v : Nat) : Nat :=
  if 0xB000 ≤ addr && addr < 0xB800 && addr % 0x40 == 0x10 then fpClamp v 0 0x3F800000
  else if 0xB000 ≤ addr && addr < 0xB800 && addr % 0x40 == 0x14 then fpClamp v 0x3F666666 0x3F800000
  else v

/-- The value that a cell's field takes when v is applied to it. -/
def landed (key v : Nat) : Nat :=
  nearerFp (key / 32) (match fieldDefAt key with
    | some f => f.nearer v
    | none => v)

/-! ### Parts of blocks (R62, R177) -/

/-- The declared loop that a half-bridge is bound to (R170). -/
def State.loopOfHb (s : State) (h : Nat) : Option LoopDecl := s.loops.find? fun d => bit d.hbMask h

/-- The declared loop that an ADC is bound to (R170). -/
def State.loopOfAdc (s : State) (a : Nat) : Option LoopDecl := s.loops.find? fun d => bit d.adcMask a

/-- The protection group of a half-bridge (R248). -/
def State.groupOf (s : State) (h : Nat) : Option Nat :=
  if s.role.hbGroup == [] then (s.loopOfHb h).map (·.loop)
  else if (s.loopOfHb h).isSome then ((s.role.hbGroup.find? (·.1 == h)).map (·.2)).filter (· < 8) else none

/-- The half-bridges of a protection group. -/
def State.groupHbs (s : State) (g : Nat) : List Nat := (List.range 12).filter fun h => s.groupOf h == some g

/-- The declared protection groups. -/
def State.groups (s : State) : List Nat := (List.range 8).filter fun g => s.groupHbs g != []

/-- The part of its block with which a cell is applied: a loop of SHT, a half-bridge of PWM, GDI and PRT, an auxiliary half-bridge
of GDA, 0 of every other block. A block-wide field of the first four has part 12 (log 4). -/
def State.partOf (s : State) (addr : Nat) : Nat :=
  let off := addr - blockBase (blockOf addr)
  match blockOf addr with
  | 5 =>
    if 0x800 ≤ off && off < 0xA00 then (off - 0x800) / 0x40
    else if 0x1000 ≤ off && off < 0x1800 then (off - 0x1000) / 0x100
    else if 0x1800 ≤ off && off < 0x1880 then
      match s.loops.find? fun d => bit d.lanes ((off - 0x1800) / 0x10) with
      | some d => d.loop
      | none => 12
    else if 0x2000 ≤ off && off < 0x2800 then (off - 0x2000) / 0x100
    else if 0x3000 ≤ off && off < 0x3800 then (off - 0x3000) / 0x100
    else if 0x4000 ≤ off then (off - 0x4000) / 0x800
    else 12
  | 6 =>
    if 0x100 ≤ off && off < 0x400 then (off - 0x100) / 0x40
    else if 0x400 ≤ off && off < 0x500 then s.rd (F.PWM_ADC_CFG_SOURCE ((off - 0x400) / 0x10)) else 12
  | 7 =>
    if 0x100 ≤ off && off < 0x400 then (off - 0x100) / 0x20
    else if 0x400 ≤ off then (off - 0x400) / 0x100 else 12
  | 8 => if 0x100 ≤ off then (off - 0x100) / 0x40 else 12
  | 9 =>
    if 0x100 ≤ off && off < 0x300 then (off - 0x100) / 0x10
    else if 0x300 ≤ off && off < 0x400 then s.rd (F.PRT_ADC_CFG_HB ((off - 0x300) / 0x10))
    else if 0x400 ≤ off && off < 0x600 then (off - 0x400) / 0x20
    else if 0x600 ≤ off then (s.groupHbs ((off - 0x600) / 0x20)).headD 12 else 12
  | _ => 0

/-- The parts of a block. -/
def blockParts (b : Nat) : List Nat :=
  if b == 5 then List.range 8 ++ [12] else if b == 6 || b == 7 || b == 9 then List.range 13
  else if b == 8 then List.range 6 ++ [12] else [0]

/-- The parts that have no boundary of their own and are applied at once: every part of an immediate block (R62), a loop the pattern
does not declare, and block-wide fields (log 4). -/
def State.atOnce (s : State) (b p : Nat) : Bool :=
  [0, 1, 2, 14, 17, 18, 19].contains b || p == 12 || (b == 5 && (s.loopDecl p).isNone)

/-- The parts applied at the safe boundary of a loop (R177). -/
def loopParts (d : LoopDecl) : List (Nat × Nat) :=
  (5, d.loop) :: (bitsBelow d.hbMask 12).flatMap fun h => [(6, h), (7, h), (9, h)]

/-! ### The checks made at a boundary -/

/-- Values as they will stand: a candidate for each cell. -/
abbrev Cand := Nat → Nat

/-- The synchronisation source that acts with these values: in a pair a free anchor carrier follows ring time (R199, R421). -/
def State.sourceOf (s : State) (c : Cand) (h : Nat) : Nat :=
  let src := c (F.PWM_HB_SYNC_SOURCE h).key
  if src == 0 && s.role.unitB != 0 && s.loops.any (·.anchorHb == h) then 2 else src

/-- The period of a half-bridge in ticks, and whether it follows ring time: with source 1 both are REF's (R199). The first argument bounds
the chain of references. -/
def State.timingOf (s : State) (c : Cand) : Nat → Nat → Nat × Bool
  | 0, h => (c (F.PWM_HB_PERIOD_PERIOD h).key, false)
  | n + 1, h =>
    if s.sourceOf c h == 1 then s.timingOf c n (min 11 (c (F.PWM_HB_SYNC_REF h).key))
    else (c (F.PWM_HB_PERIOD_PERIOD h).key, s.sourceOf c h == 2)

/-- The shortest carrier period of a loop's anchor, ticks (R182). -/
def State.leastPeriod (s : State) (d : LoopDecl) (c : Cand) : Nat :=
  let (p, ringed) := s.timingOf c 12 d.anchorHb
  if ringed then p - 1 else p

/-- C_av: the cycles of a lane from one conversion end to 200 ns before the next (R182). -/
def State.cyclesAvailable (s : State) (d : LoopDecl) (c : Cand) : Nat :=
  let sn := 2 ^ c (F.PWM_HB_TRIG_SAMPLES d.anchorHb).key
  (20 * s.leastPeriod d c - 1600 * sn) / (10 * sn)

/-- Do the conditions of R182 hold for a loop with these values? -/
def State.loopFits (s : State) (d : LoopDecl) (c : Cand) : Bool :=
  let p := s.leastPeriod d c
  let sn := 2 ^ c (F.PWM_HB_TRIG_SAMPLES d.anchorHb).key
  let lanes := (bitsBelow d.lanes 8).length
  let nb := c (F.SHT_LOOP_CTRL_NB d.loop).key
  let outc := if nb == 0 then 0 else (2 ^ nb + lanes - 1) / lanes * d.outcome.length
  let cav := s.cyclesAvailable d c
  2000 * sn ≤ 5 * p &&
  (bitsBelow d.adcMask 16).all (fun a => 2 ^ c (F.PWM_ADC_CFG_BURST a).key * 200 * sn ≤ 5 * p) &&
  d.predict.length + outc + 16 ≤ cav &&
  d.background.length ≤ d.bgDiv * (cav - d.predict.length - outc - 16)

/-- Is a cell one of the fields that R182 withholds for a loop? -/
def budgetKey (d : LoopDecl) (key : Nat) : Bool :=
  (bitsBelow d.hbMask 12).any (fun h => [(F.PWM_HB_PERIOD_PERIOD h).key, (F.PWM_HB_TRIG_SAMPLES h).key,
    (F.PWM_HB_TRIG_OFFSET h).key, (F.PWM_HB_SYNC_SOURCE h).key, (F.PWM_HB_SYNC_REF h).key, (F.PWM_HB_SYNC_PHASE h).key].contains key) ||
  (bitsBelow d.adcMask 16).any fun a => (F.PWM_ADC_CFG_BURST a).key == key

/-- Does the coverage check of R254 hold for a group with these values? -/
def State.covered (s : State) (g : Nat) (c : Cand) : Bool :=
  (s.groupHbs g).all fun h =>
    (c (F.PRT_CH_DESAT_ENABLE (2 * h)).key == 0 && c (F.PRT_CH_DESAT_ENABLE (2 * h + 1)).key == 0) ||
    c (F.PRT_HB_HS_ENABLE h).key == 1 ||
    (List.range 16).any fun a => c (F.PRT_ADC_CFG_ENABLE a).key == 1 && c (F.PRT_ADC_CFG_ACTION a).key == 0 &&
      c (F.PRT_ADC_CFG_HB a).key == h

/-- Is a cell a detector field of PRT (not PRT_GRP[g]_CFG) that belongs to a group (R254)? -/
def State.detectorKey (s : State) (g key : Nat) : Bool :=
  blockOf (key / 32) == 9 && key / 32 < 0x1A600 && (s.groupHbs g).contains (s.partOf (key / 32))

/-- Exact value of a finite fp32, times 2^150; a NaN or infinity has none. -/
def fpExact (b : Nat) : Option Int := if nonFinite b then none else some (Fp.ofBits b).scaled

/-- Do the thresholds and hystereses of a loop agree (R192)? -/
def State.thetaAgree (s : State) (m : Nat) (c : Cand) : Bool :=
  let n := ((s.loopDecl m).getD {}).nRegions
  let band (j : Nat) (up : Bool) : Option Int := fpBand (c (F.SHT_LOOP_THETA m j).key) (c (F.SHT_LOOP_HYST m j).key) up
  (List.range 7).all (fun j => fpLe 0 (c (F.SHT_LOOP_HYST m j).key)) &&
  (List.range (n - 1)).all fun j => j == 0 ||
    match band (j - 1) true, band j false with
    | some x, some y => x < y
    | _, _ => false

/-- Do GAIN, FORGET, Q0, Q1 and Q2 of a compensator channel agree (R220)? -/
def rcAgree (e : Nat) (c : Cand) : Bool :=
  match fpExact (c (F.SHT_RC_Q0 e).key), fpExact (c (F.SHT_RC_Q1 e).key), fpExact (c (F.SHT_RC_Q2 e).key) with
  | some q0, some q1, some q2 =>
    let g := c (F.SHT_RC_GAIN e).key
    let l := c (F.SHT_RC_FORGET e).key
    0 ≤ q0 && ((q0 + 2 * q1 + 2 * q2 - 2 ^ 150).natAbs ≤ 2 ^ 134 : Bool) && fpLe 0 g && fpLe g 0x3F800000 &&
      fpLe 0x3F666666 l && fpLe l 0x3F800000
  | _, _, _ => false

/-- Do the fields of a paired-field group agree (R75): by the block's rule where its chapter states one, else all or none of
them written since the group was last applied; `marks` are the fields written. -/
def State.groupAgrees (s : State) (g marks : List Nat) (c : Cand) : Bool :=
  let a := g.headD 0 / 32
  if 0x9000 ≤ a && a < 0x9800 && 0x20 ≤ a % 0x100 && a % 0x100 < 0x5C then s.thetaAgree ((a - 0x9000) / 0x100) c
  else if 0xB000 ≤ a && a < 0xB800 && 0x10 ≤ a % 0x40 && a % 0x40 < 0x24 then rcAgree ((a - 0xB000) / 0x40) c
  else g.all (marks.contains ·) || g.all (!marks.contains ·)

/-- A paired-field group is in error (R76, R77). -/
def State.pfgError (s : State) (g : Nat) : State :=
  ((s.inc F.HBI_PFG_ERR_COUNT).wr F.HBI_PFG_ERR_GROUP g).configError 1 g

/-! ### TACK and the boundary -/

/-- The cells a store or another lists, without regard to order. -/
def cellsOf (a b : SMap Nat) : List Nat := a.map (·.1) ++ (b.map (·.1)).filter fun k => !(a.map (·.1)).contains k

/-- The tack group of a block (R33, TACK_GROUPS). -/
def State.tackGroup (s : State) (b : Nat) : Nat := s.pat.content.tackGroups.getD b 0

/-- Show in HBI_TACK_STATUS.PENDING the groups with a block part that waits (R68). -/
def State.showPending (s : State) : State :=
  s.wr F.HBI_TACK_STATUS_PENDING (s.hbi.tackParts.foldl (fun m p => setBit m (s.tackGroup p.1) true) 0)

/-- The groups of the pattern with their numbers. -/
def State.numberedGroups (s : State) : List (Nat × List Nat) :=
  (List.range s.pat.content.pairedGroups.length).map fun i => (i, s.pat.content.pairedGroups.getD i [])

/-- A compare register of a half-bridge that is bound to a loop: only the loop's commits change it (R187, R203). -/
def State.committedKey (s : State) (k : Nat) : Bool :=
  (List.range 12).any fun h => (s.loopOfHb h).isSome && ((F.PWM_HB_CMP_ON_CMP_ON h).key == k || (F.PWM_HB_CMP_OFF_CMP_OFF h).key == k)

/-- The values that a group would take on the live path (R77): a pending value, else what a TACK has latched or a write has left in the
shadow since the group was last applied, else the live value. -/
def State.pendCand (s : State) : Cand := fun k => match s.hbi.pfgPending.find? (·.2.1 == k) with
  | some e => e.2.2
  | none =>
    if s.hbi.pfgWritten.contains k then SMap.get resetCell s.shadow k
    else if s.hbi.pfgTacked.contains k then SMap.get resetCell s.tbuf k else SMap.get resetCell s.live k

/-- The fields written since their group was last applied, on whatever path (R75, R77). -/
def State.pendMarks (s : State) : List Nat := s.hbi.pfgPending.map (·.2.1) ++ s.hbi.pfgWritten ++ s.hbi.pfgTacked

/-- A PHASE that has been applied is less than its PERIOD (R203). -/
def State.fitPhases (s : State) (apply : List Nat) : State :=
  ((List.range 12).filter fun h => apply.contains (F.PWM_HB_SYNC_PHASE h).key &&
    s.rd (F.PWM_HB_PERIOD_PERIOD h) ≤ s.rd (F.PWM_HB_SYNC_PHASE h)).foldl
    (fun (s : State) h => s.wr (F.PWM_HB_SYNC_PHASE h) (s.rd (F.PWM_HB_PERIOD_PERIOD h) - 1)) s

/-- The safe boundary of some parts: tack buffers are copied to live values where a TACK waits, and cells written through the live
alias are; groups that do not agree, R182's fields of a loop that would not fit, R254's of a group that would be uncovered and an
odd ring-timed PERIOD (R199) stay as they are. -/
def State.applyParts (s : State) (parts : List (Nat × Nat)) : State :=
  if s.inLull then s else
  let mine (k : Nat) : Bool := stagedKey k && parts.contains (blockOf (k / 32), s.partOf (k / 32)) && !s.committedKey k
  let waits (k : Nat) : Bool := s.hbi.tackParts.contains (blockOf (k / 32), s.partOf (k / 32))
  let held (k : Nat) : Bool := s.hbi.pfgPending.any (·.2.1 == k)
  let keys := (cellsOf s.tbuf s.live).filter fun k => mine k && !held k && (waits k || s.hbi.liveKeys.contains k)
  let cand : Cand := fun k => if keys.contains k then landed k (SMap.get resetCell s.tbuf k) else SMap.get resetCell s.live k
  let groups := s.numberedGroups.filter fun g => g.2.any mine
  let tacked := groups.filter fun g => g.2.any keys.contains && g.2.any (s.hbi.pfgTacked.contains ·)
  -- the live path: a group whose pending values agree is applied whole
  let livePfg := groups.filter fun g => s.hbi.pfgPending.any (·.1 == g.1) && s.groupAgrees g.2 s.pendMarks s.pendCand
  let badPfg := tacked.filter fun g => !s.groupAgrees g.2 s.hbi.pfgTacked cand && !livePfg.contains g
  let badLoop := s.loops.filter fun d => (keys.any (budgetKey d)) && !s.loopFits d cand
  let odd := (List.range 12).filter fun h => keys.contains (F.PWM_HB_PERIOD_PERIOD h).key &&
    s.sourceOf cand h == 2 && cand (F.PWM_HB_PERIOD_PERIOD h).key % 2 == 1
  let badGrp := s.groups.filter fun g => keys.any (s.detectorKey g) && !s.covered g cand
  let kept (k : Nat) : Bool := badPfg.any (·.2.contains k) || badLoop.any (budgetKey · k) ||
    odd.any (fun h => (F.PWM_HB_PERIOD_PERIOD h).key == k) || badGrp.any (s.detectorKey · k)
  let apply := keys.filter fun k => !kept k
  let pend := s.pendCand
  let failed := s.hbi.pfgTacked.filter fun k => badPfg.any (·.2.contains k)
  let s : State := { s with live := SMap.copyKeys resetCell landed s.tbuf apply s.live }
  let ready := (livePfg.flatMap (·.2)).filter stagedKey
  let s := { s with live := ready.foldl (fun (m : SMap Nat) k => SMap.set resetCell k (landed k (pend k)) m) s.live }
  let done := ((tacked.filter fun g => !badPfg.contains g) ++ livePfg).flatMap (·.2)
  let s := { s with
    hbi.tackParts := s.hbi.tackParts.filter fun p => !parts.contains p
    hbi.liveKeys := s.hbi.liveKeys.filter fun k => !mine k || held k
    hbi.pfgWritten := (s.hbi.pfgWritten.filter fun k => !livePfg.any (·.2.contains k)) ++
      failed.filter fun k => !s.hbi.pfgWritten.contains k
    hbi.pfgTacked := s.hbi.pfgTacked.filter fun k => !done.contains k && !failed.contains k
    hbi.pfgPending := s.hbi.pfgPending.filter fun e => !livePfg.any (·.1 == e.1) }
  let s := (s.fitPhases apply).showPending
  let s := badPfg.foldl (fun s g => s.pfgError g.1) s
  let s := badLoop.foldl (fun s d => (s.wrb F.SHT_STATUS_BUDGET true).configError 3 d.loop) s
  let s := odd.foldl (fun s h => s.configError 7 h) s
  badGrp.foldl (fun s g => s.configError 4 g) s

/-- The safe boundary of some parts, with what an application of safety parameters does (R446, R448). -/
def State.boundary (s : State) (parts : List (Nat × Nat)) : State := (s.applyParts parts).paramsApplied s

/-- The safe boundary of a whole block. -/
def State.blockBoundary (s : State) (b : Nat) : State := s.boundary [(b, 0)]

/-- A TACK of the groups in a mask: the shadows of their blocks are latched, and which fields of groups were written (R68, R76); parts without a boundary of their own are applied. -/
def State.tack (s : State) (mask : Nat) : State :=
  let blocks := (List.range 20).filter fun b => bit mask (s.tackGroup b)
  let keys := (cellsOf s.shadow s.tbuf).filter fun k => stagedKey k && blocks.contains (blockOf (k / 32))
  let parts := blocks.flatMap fun b => (blockParts b).map fun p => (b, p)
  let latched (k : Nat) : Bool := blocks.contains (blockOf (k / 32))
  let s := { s with
    tbuf := SMap.copyKeys resetCell (fun _ v => v) s.shadow keys s.tbuf
    hbi.pfgTacked := s.hbi.pfgTacked ++ s.hbi.pfgWritten.filter fun k => latched k && !s.hbi.pfgTacked.contains k
    hbi.pfgWritten := s.hbi.pfgWritten.filter fun k => !latched k
    hbi.tackParts := s.hbi.tackParts ++ parts.filter fun p => !s.hbi.tackParts.contains p }
  s.showPending.boundary (parts.filter fun p => s.atOnce p.1 p.2)

/-- The parts that wait without a boundary of their own: applied at the first boundary after a wake (R90). -/
def State.applyAtOnce (s : State) : State := s.boundary (s.hbi.tackParts.filter fun p => s.atOnce p.1 p.2)

end Sys2Proof.Machine
end

