-- ==== Sys2Proof/Machine/Access.lean ====
section
/-!
DEFINITION. Machine/Access.lean: accesses to registers: errors, levels, credentials, access codes (R63 to R66, R79, R80, R82, R88, R90,
R541).
-/
namespace Sys2Proof.Machine
open Sys2Proof

/-! ### Access errors (R88) -/

def eAddr : Nat := 1
def eRoWrite : Nat := 2
def eReserved : Nat := 3
def eLevel : Nat := 4
def eCredential : Nat := 5
def eNotLive : Nat := 6
def eNotReady : Nat := 7
def eCommand : Nat := 8
def eOwner : Nat := 9
def eLull : Nat := 10
def eState : Nat := 11

/-- A refused access: HB_ERR_N for a direct access of the host, the record in HBI_ERR_INFO and HBI_ERR_ADDR, the count (R88). `path`:
0 direct, 1 indirect, 2 live alias. -/
def State.accessError (s : State) (side code addr : Nat) (path : Nat := 0) : State :=
  let s := ((s.wr F.HBI_ERR_INFO_CODE code).wr F.HBI_ERR_INFO_SIDE (if side == 0 then 1 else 2)).wr F.HBI_ERR_INFO_PATH path
  let s := (s.wr F.HBI_ERR_ADDR addr).inc F.HBI_ERR_COUNT
  let s : State := { s with hbi.refused := some code }
  if side == 0 then { s with hbi.errN := true } else s

/-- An accepted access of a side: HB_ERR_N stays high. -/
def State.accepted (s : State) (side : Nat) : State :=
  let s : State := { s with hbi.refused := none }
  if side == 0 then { s with hbi.errN := false } else s

/-! ### Levels and credentials (R79 to R82) -/

/-- Blocks that are safety-relevant (R62). -/
def safetyBlock (b : Nat) : Bool := [7, 9, 11, 15, 16].contains b

/-- The level cell of a block for a side (R79). -/
def levelField (b side : Nat) : Field := Field.bank ⟨blockBase b, 0, 1⟩ side

def State.expert (s : State) (b side : Nat) : Bool := s.rdb (levelField b side)
def State.maint (s : State) (side : Nat) : Bool := s.rdb (F.HBI_CRED_STATUS_MAINT_OPEN.bank side)
def State.safety (s : State) (side : Nat) : Bool := s.rdb (F.HBI_CRED_STATUS_SAFETY_OPEN.bank side)

/-- The credential that a block's expert level needs (R79). -/
def State.blockCred (s : State) (b side : Nat) : Bool := if safetyBlock b then s.safety side else s.maint side

/-- A side returns to basic level in some blocks. -/
def State.basic (s : State) (side : Nat) (blocks : List Nat) : State :=
  blocks.foldl (fun s b => s.wrb (levelField b side) false) s

/-- Credentials of a side close (R82): the last one returns the side to basic level in every block, the safety credential alone in the
safety-relevant blocks. -/
def State.closeCreds (s : State) (side : Nat) (maint safety : Bool) : State :=
  let s := if maint then s.wrb (F.HBI_CRED_STATUS_MAINT_OPEN.bank side) false else s
  let s := if safety then s.wrb (F.HBI_CRED_STATUS_SAFETY_OPEN.bank side) false else s
  if !s.maint side && !s.safety side then s.basic side (List.range 20)
  else if safety then s.basic side ((List.range 20).filter safetyBlock) else s

/-- What a side holds that is no register. -/
def State.side (s : State) (k : Nat) : SideSt := SMap.get (fun _ => {}) s.hbi.sides k
def State.setSide (s : State) (k : Nat) (x : SideSt) : State := { s with hbi.sides := SMap.set (fun _ => {}) k x s.hbi.sides }

/-- Everything a remote session holds as a side goes at its end (R82, R89): its credentials and levels, its window, and its copies of the
registers held per side. -/
def State.endSide (s : State) (side : Nat) : State :=
  let s := (s.closeCreds side true true).setSide side {}
  { s with live := s.live.filter fun e => e.1 / 32 / bankStride != side }

/-! ### Commands -/

/-- In Lull only the SYS, HBI and CLK blocks and the always-on range answer (R90). An access to the reserved range or to no register is
refused with LULL there and not with ADDR: the spec gives no order between R63 and R90 (the model's choice, log 93). -/
def State.lullBlocks (s : State) (addr : Nat) : Bool :=
  s.inLull && !([0, 1, 18] : List Nat).contains (blockOf addr) && !(0x200000 ≤ addr && addr < 0x201000)

/-- A keyed command register's write: refused with LULL or COMMAND, else the command (R88, R90). -/
def State.command (s : State) (side addr key want : Nat) (f : State → State) : State :=
  if s.lullBlocks addr then s.accessError side eLull addr
  else if key != want then s.accessError side eCommand addr
  else f (s.accepted side)

/-! ### Access codes (R64, R66, R541) -/

/-- Registers that each side holds its own copy of (R79, R89, R91, R369, R397). -/
def perSide (addr : Nat) : Bool :=
  addr == blockBase (blockOf addr) || addr == 0x100C || (0x1020 ≤ addr && addr < 0x1030) || (0x1040 ≤ addr && addr < 0x1060) || addr == 0x1064 || addr == 0x1068 ||
  addr == 0x2206C || addr == 0x2400C || addr == 0x24028 || addr == 0x24030 || addr == 0x24034 ||
  (0x24100 ≤ addr && addr < 0x241E0) || (0x24240 ≤ addr && addr < 0x24300)

/-- The field that a definition places at an address, in the copy of a side. -/
def FieldDef.at (f : FieldDef) (addr side : Nat) : Field :=
  Field.bank ⟨addr, f.lsb, f.width⟩ (if perSide addr then side else 0)

/-- The bits that a write carries for a field. -/
def FieldDef.bits (f : FieldDef) (v : Nat) : Nat := v / 2 ^ f.lsb % 2 ^ f.width

/-- The shadow of a field. -/
def State.rdShadow (s : State) (f : Field) : Nat := SMap.get resetCell s.shadow f.key

/-- May a write change the field? -/
def FieldDef.writable (f : FieldDef) : Bool := !(f.acc == .ro || f.acc == .rc)

/-- Does a write with these bits change the field (R541)? -/
def State.changes (s : State) (f : FieldDef) (addr side v : Nat) : Bool :=
  match f.acc with
  | .ro | .rc => false
  | .wo => true
  | .w1c | .w1s => f.bits v != 0
  | .rw => f.bits v != s.rd (f.at addr side)
  | .bs | .lv => f.bits v != s.rdShadow (f.at addr side)

/-- Is the field expert-level (R541)? -/
def FieldDef.isExpert (f : FieldDef) : Bool := f.expert && [Acc.rw, .wo, .bs, .lv].contains f.acc

/-- The bits outside every field. -/
def RegDef.reserved (r : RegDef) : Nat := r.fields.foldl (fun m f => m - (2 ^ f.width - 1) * 2 ^ f.lsb) (2 ^ 32 - 1)

/-- A planning register of MRK that a TACK applies, or MRK_CURTAIL with its hold (R117). -/
def planningKey (key : Nat) : Bool := 0x4010 ≤ key / 32 && key / 32 < 0x5000 && (stagedKey key || key / 32 == 0x402C || key / 32 == 0x4030)

/-- The registers that a unit in its present state refuses to have written (R203, R240, R117): the compare registers of a half-bridge bound
to a loop, the CFG of an ADC bound to one, the duty of an auxiliary output under BIND, and a standby site unit's planning registers. -/
def State.stateRefusal (s : State) (addr : Nat) (r : RegDef) : Bool :=
  ((List.range 12).any fun n => (addr == (F.PWM_HB_CMP_ON_CMP_ON n).addr || addr == (F.PWM_HB_CMP_OFF_CMP_OFF n).addr) &&
    (s.loopOfHb n).isSome) ||
  ((List.range 16).any fun a => addr == (F.PWM_ADC_CFG_BURST a).addr && s.loops.any fun d => bit d.adcMask a) ||
  ((List.range 6).any fun a => addr == (F.GDA_HB_DUTY_DUTY a).addr && s.rdb (F.GDA_HB_CFG_BIND a)) ||
  (s.kind == .site && !s.active && r.fields.any fun f => planningKey (32 * addr + f.lsb))

/-- Why a plain write is refused, if it is (R63, R64, R66, R80, R90, R541). -/
def State.writeRefusal (s : State) (side addr v : Nat) : Option Nat :=
  let b := blockOf addr
  if s.lullBlocks addr then some eLull else
  match (if addr % 4 == 0 then regAt addr else none) with
  | none => some eAddr
  | some r =>
    if !r.fields.any (·.writable) then some eRoWrite
    else if (r.reserved &&& v) != 0 then some eReserved
    else
      let touched := r.fields.filter fun f => s.changes f addr side v
      if touched.any fun f => (f.safety && !s.safety side) || (f.isExpert && !s.blockCred b side) then some eCredential
      else if touched.any fun f => f.isExpert && !s.expert b side then some eLevel
      else if s.stateRefusal addr r then some eState
      else none

/-- The effect of a write on one field by its access code (R64). -/
def State.writeField (s : State) (addr side v : Nat) (f : FieldDef) : State :=
  let fld := f.at addr side
  let x := f.bits v
  match f.acc with
  | .ro | .rc => s
  | .wo => s.wr fld x
  | .rw => s.wr fld (f.nearer x)
  | .w1c => s.wr fld (s.rd fld &&& (2 ^ f.width - 1 - x))
  | .w1s => s.wr fld (s.rd fld ||| x)
  | .bs | .lv =>
    { s with
      shadow := SMap.set resetCell fld.key x s.shadow
      hbi.pfgWritten := if s.hbi.pfgWritten.contains fld.key || !s.pat.content.pairedGroups.any (·.contains fld.key)
        then s.hbi.pfgWritten else fld.key :: s.hbi.pfgWritten }

/-- The effect of an accepted plain write (R64, R67). -/
def State.writeFields (s : State) (side addr v : Nat) : State :=
  match regAt addr with
  | none => s
  | some r => r.fields.foldl (fun s f => s.writeField addr side v f) s

/-- A plain write of a register (R64): refused, or applied field by field. -/
def State.writeReg (s : State) (side addr v : Nat) (path : Nat := 0) : State :=
  match s.writeRefusal side addr v with
  | some code => s.accessError side code addr path
  | none =>
    let safe := match regAt addr with
      | some r => r.fields.any fun f => f.safety && s.changes f addr side v
      | none => false
    let s' := s.writeFields side addr v
    let s' : State := if safe then { s' with saf.writer := side } else s'
    (s'.paramsApplied s).accepted side

/-- What a read of one field returns (R64, R67). -/
def State.readField (s : State) (addr side : Nat) (f : FieldDef) : Nat :=
  match f.acc with
  | .wo => 0
  | .bs | .lv => if s.rdb (F.HBI_VIEW_SHADOW.bank side) then s.rdShadow (f.at addr side) else s.rd (f.at addr side)
  | _ => s.rd (f.at addr side)

/-- What a read of a LEVEL register returns (R79). -/
def State.readLevel (s : State) (b side : Nat) : Nat :=
  (if s.expert b side then 1 else 0) + (if safetyBlock b then 256 else 0) +
    (if (List.range 5).any fun k => k != side && s.expert b k then 512 else 0)

/-- RC fields of a register clear at a read (R64). -/
def State.clearRc (s : State) (addr side : Nat) (r : RegDef) : State :=
  r.fields.foldl (fun s f => if f.acc == .rc then s.wr (f.at addr side) 0 else s) s

/-- Why a live write is refused, if it is (R63, R64, R66, R72, R73, R80, R90): `addr` is the direct address. R73 orders LEVEL before
NOT_LIVE; that RO_WRITE, RESERVED, CREDENTIAL and STATE come after them is the model's choice (log 93). -/
def State.liveRefusal (s : State) (side addr v : Nat) : Option Nat :=
  match (if addr % 4 == 0 then regAt addr else none) with
  | none => some eAddr
  | some r =>
    if s.lullBlocks addr then some eLull
    else if !s.expert (blockOf addr) side then some eLevel
    else if r.fields.any (fun f => f.acc == .wo || ((f.acc == .w1c || f.acc == .w1s) && f.bits v != 0) ||
        ((f.acc == .bs || f.acc == .rw) && f.bits v != s.rd (f.at addr side))) then some eNotLive
    else if !r.fields.any (·.writable) then some eRoWrite
    else if (r.reserved &&& v) != 0 then some eReserved
    else if !s.blockCred (blockOf addr) side then some eCredential
    else if s.stateRefusal addr r then some eState
    else none

/-- An accepted live write of one LV field: shadow and tack buffer take it; a field of a paired-field group is held pending (R72, R77). -/
def State.liveField (s : State) (side addr v : Nat) (f : FieldDef) : State :=
  if f.acc != .lv then s else
  let k := (f.at addr side).key
  let x := f.bits v
  match s.numberedGroups.find? fun g => g.2.contains k with
  | none => { s with
      shadow := SMap.set resetCell k x s.shadow
      tbuf := SMap.set resetCell k x s.tbuf
      hbi.liveKeys := if s.hbi.liveKeys.contains k then s.hbi.liveKeys else k :: s.hbi.liveKeys }
  | some g => { s with
      shadow := SMap.set resetCell k x s.shadow
      tbuf := SMap.set resetCell k x s.tbuf
      hbi.pfgWritten := if s.hbi.pfgWritten.contains k then s.hbi.pfgWritten else k :: s.hbi.pfgWritten
      hbi.pfgPending := (g.1, k, x) :: s.hbi.pfgPending.filter fun e => e.2.1 != k }

/-- A live write through the live alias (R72 to R74, R77). -/
def State.liveWrite (s : State) (side addr v : Nat) : State :=
  match s.liveRefusal side addr v with
  | some code => s.accessError side code addr 2
  | none => match regAt addr with
    | none => s
    | some r => r.fields.foldl (fun (s : State) f => s.liveField side addr v f) (s.accepted side)

end Sys2Proof.Machine
end

