-- ==== Sys2Proof/Machine/Lane.lean ====
section
/-!
DEFINITION. Machine/Lane.lean: the instructions of the Shuttle lanes (R167 to R169) and the run of a program part.
-/
namespace Sys2Proof.Machine
open Sys2Proof

/-- What a lane reads through LD (R167): state words, blended coefficients, compensator memory, ADC results. -/
structure LaneEnv where
  stateWord : Nat → Nat
  coef : Nat → Nat
  comp : Nat → Nat
  adc : Nat → Nat

/-- A lane's working values while a part runs; none of it is state (R187). -/
structure Lane where
  regs : SMap Nat
  flags : Nat
  acc : SMap Int
  /-- Outcome buffer words written. -/
  out : SMap (Option Nat)
  valid : Bool
  nonfin : Bool
  /-- How often ACCR or CVT saturated (R169). -/
  sats : Nat := 0
deriving DecidableEq, Repr

/-- A scratch register nothing of the sample has written holds a free value (log 1). -/
def scratch (drawn r : Nat) : Nat := Config.free 1 (drawn * 256 + r) % 2 ^ 32

def Lane.get (drawn : Nat) (l : Lane) (r : Nat) : Nat := SMap.get (scratch drawn) l.regs (r % 256)
def Lane.put (drawn : Nat) (l : Lane) (r v : Nat) : Lane :=
  { l with regs := SMap.set (scratch drawn) (r % 256) (v % 2 ^ 32) l.regs }

/-- Write a floating-point result; a NaN or infinity sets the non-finite flag (R168). -/
def Lane.putFp (drawn : Nat) (l : Lane) (r v : Nat) : Lane :=
  { l.put drawn r v with nonfin := l.nonfin || nonFinite v }

def toI32 (v : Nat) : Int := signedOf 32 v
def ofI32 (i : Int) : Nat := bitsOf 32 i

/-- A fixed-point ALU result; one outside the 32-bit range is a value the spec does not state (log 1). -/
def aluFixed (a b : Nat) (i : Int) : Nat :=
  if -(2 ^ 31 : Int) ≤ i && i < 2 ^ 31 then ofI32 i else Config.free 2 (a * 2 ^ 32 + b) % 2 ^ 32

/-- Is an integer outside the signed 32-bit range? -/
def over32 (i : Int) : Bool := i < -(2 ^ 31 : Int) || (2 ^ 31 : Int) ≤ i

/-- Saturate to the signed 32-bit range (R169). -/
def sat32 (i : Int) : Nat := ofI32 (clampI (-(2 ^ 31 : Int)) (2 ^ 31 - 1) i)

/-- Write a result that saturates, counted where it does (R169). -/
def Lane.putSat (drawn : Nat) (l : Lane) (r : Nat) (i : Int) : Lane :=
  { l.put drawn r (sat32 i) with sats := l.sats + if over32 i then 1 else 0 }

/-- A sum in a 72-bit accumulator (R166, R169): one outside it is a value the spec does not state (log 1). -/
def accSum (i : Int) : Int :=
  if -(2 ^ 71 : Int) ≤ i && i < 2 ^ 71 then i else signedOf 72 (Config.free 5 (bitsOf 128 i) % 2 ^ 72)

/-- What an operation code that R167 does not list leaves in D: a free value (log 49). -/
def unlistedOp (drawn w op : Nat) : Nat := Config.free 7 ((drawn * 2 ^ 64 + w) * 64 + op) % 2 ^ 32

/-- One instruction (R167). `outcome` says the OUTCOME part runs. Every source is read before an element of D is written, also where FMA4's
ranges overlap (DESIGN CHOICE, log 107: R167 does not say). -/
def laneStep (drawn : Nat) (env : LaneEnv) (outcome : Bool) (l : Lane) (w : Nat) : Lane :=
  let d := w / 2 ^ 50 % 256
  let a := w / 2 ^ 42 % 256
  let b := w / 2 ^ 34 % 256
  let c := w / 2 ^ 26 % 256
  let imm := w % 2 ^ 22
  let g := l.get drawn
  if bit w 22 && !bit l.flags (w / 2 ^ 23 % 8) then l else
  match w / 2 ^ 58 with
  | 1 => (List.range 4).foldl (fun l' i => l'.putFp drawn (d + i) (fpFma (g (a + i)) (g (b + i)) (g (c + i)))) l
  | 2 =>
    let sum := (List.range 8).foldl (fun t i => t + toI32 (g (a + i)) * toI32 (g (b + i))) 0
    let k := imm % 8
    { l with acc := SMap.set (fun _ => 0) k (accSum (SMap.get (fun _ => 0) l.acc k + sum)) l.acc }
  | 3 =>
    let k := imm % 8
    let l' := l.putSat drawn d (rneInt (SMap.get (fun _ => 0) l.acc k) (2 ^ (imm / 8 % 128)))
    if bit imm 10 then { l' with acc := SMap.del k l'.acc } else l'
  | 4 =>
    let n := imm % 4096
    l.put drawn d (match imm / 4096 % 4 with
      | 0 => env.stateWord n
      | 1 => env.coef n
      | 2 => env.comp (g a)
      | _ => env.adc (imm % 16))
  | 5 => { l with out := SMap.set (fun _ => none) (imm % 64) (some (g a)) l.out }
  | 6 =>
    let x := g a
    let y := g b
    let r := if bit imm 5 then (match imm / 8 % 4 with
        | 0 => fpLt x y
        | 1 => fpLe x y
        | 2 => fpEq x y
        | _ => !fpEq x y)
      else (match imm / 8 % 4 with
        | 0 => toI32 x < toI32 y
        | 1 => toI32 x ≤ toI32 y
        | 2 => x == y
        | _ => x != y)
    { l with flags := setBit l.flags (imm % 8) r }
  | 7 => l.put drawn d (if bit l.flags (imm % 8) then g a else g b)
  | 8 =>
    let x := g a
    let v := fpClamp x (g b) (g c)
    let m := g (imm % 256)
    let near := fpLe (fpAbs (fpSub x (g b))) m || fpLe (fpAbs (fpSub x (g c))) m
    let l' := l.putFp drawn d v
    if outcome && (v != fpFlush x || near) then { l' with valid := false } else l'
  | 9 =>
    let x := g a
    if bit imm 6 then l.putFp drawn d (fpRat (toI32 x) (2 ^ (imm % 64)))
    else match Fp.ofBits x with
      | .nan => { l.put drawn d 0 with nonfin := true }
      | .inf n => { l.put drawn d (if n then 2 ^ 31 else 2 ^ 31 - 1) with sats := l.sats + 1 }
      | _ => l.putSat drawn d (fpToInt x (imm % 64))
  | 10 =>
    let x := g a
    let y := g b
    if bit imm 3 then l.putFp drawn d (match imm % 8 with
      | 0 => fpAdd x y
      | 1 => fpSub x y
      | 2 => fpMin x y
      | 3 => fpMax x y
      | 4 => fpAbs x
      | 5 => fpNeg x
      | k => unlistedOp drawn w k)
    else l.put drawn d (match imm % 8 with
      | 0 => aluFixed x y (toI32 x + toI32 y)
      | 1 => aluFixed x y (toI32 x - toI32 y)
      | 2 => ofI32 (min (toI32 x) (toI32 y))
      | 3 => ofI32 (max (toI32 x) (toI32 y))
      | 4 => aluFixed x 0 (toI32 x).natAbs
      | 5 => aluFixed x 0 (-toI32 x)
      | k => unlistedOp drawn w k)
  | 11 => { l with valid := false }
  | 0 => l
  | op => l.put drawn d (unlistedOp drawn w op)

/-- Run a program part (R167: no branches, one instruction after the other). -/
def runPart (drawn : Nat) (env : LaneEnv) (outcome : Bool) (prog : List Nat) (l : Lane) : Lane :=
  prog.foldl (laneStep drawn env outcome) l

/-- A lane at the start of a sample: no flag is set and every accumulator is 0 (DESIGN CHOICE, log 107: R187 says that nothing is read across
samples, not what stands there). -/
def Lane.fresh : Lane := { regs := [], flags := 0, acc := [], out := [], valid := true, nonfin := false }

end Sys2Proof.Machine
end

