-- ==== Sys2Proof/Machine/Selvedge.lean ====
section
/-!
DEFINITION. Machine/Selvedge.lean: the Selvedge partition (chapters 12 and 13): the sealed section, a tick's arithmetic, calendar and
tariffs, demand intervals, boundaries, the journal, saves and recovery.
-/
namespace Sys2Proof.Machine
open Sys2Proof

/-! ### The sealed section (R316, R348) -/

def u8 (bs : List Nat) (i : Nat) : Nat := bs.getD i 0 % 256
def u16 (bs : List Nat) (i : Nat) : Nat := u8 bs i + 256 * u8 bs (i + 1)
def u32 (bs : List Nat) (i : Nat) : Nat := u16 bs i + 65536 * u16 bs (i + 2)

/-- The bytes of the sealed section the partition runs from; none where its role's section is not sealed. -/
def State.selBytes (s : State) : List Nat :=
  match s.pat.sealed.find? (·.1 == s.bil.inst) with
  | some e => e.2
  | none => []

/-- The role instances whose sections the unit selects: its own and those of its span (R35). -/
def State.selected (s : State) : List Nat :=
  match s.pat.content.units.find? (·.addr == s.addr) with
  | none => []
  | some u => (u.instance_ :: u.span).filter (· != 0)

/-- PAT_STATUS.SEALED and UNSEALED_ROLE (R46, R47). -/
def State.showSealed (s : State) : State :=
  let secs := s.pat.content.selvedge.filter fun d => s.selected.contains d.instance_
  (s.wrb F.PAT_STATUS_SEALED (s.pat.sealed != [])).wrb F.PAT_STATUS_UNSEALED_ROLE
    (secs.any fun d => !s.pat.sealed.any (·.1 == d.instance_))

/-- The calendar part: of the sealed section, or the site unit's copy (R348, R349). -/
def State.calBytes (s : State) : List Nat := if s.bil.isSite then s.bil.site else s.selBytes.drop 256

def selGain (bs : List Nat) (c : Nat) : Int := signedOf 32 (u32 bs (0x10 + 16 * c))
def selOffset (bs : List Nat) (c : Nat) : Int := signedOf 32 (u32 bs (0x14 + 16 * c))
def selDelay (bs : List Nat) (c : Nat) : Nat := u8 bs (0x18 + 16 * c) % 64
def selI (bs : List Nat) : Nat := u32 bs 4
def selV (bs : List Nat) : Nat := u32 bs 8
def selConst (bs : List Nat) : Nat := u32 bs 0xC

/-! ### A tick's arithmetic (R318 to R321) -/

/-- Step 1: calibration. -/
def calibrate (bs : List Nat) (c : Nat) (x : Int) : Int :=
  clampI (-(2 ^ 31 : Int)) (2 ^ 31 - 1) (rneInt ((x - selOffset bs c) * selGain bs c) (2 ^ 28))

/-- Step 2: delay of a sample against the one before. -/
def delayed (d : Nat) (y prev : Int) : Int := if d == 0 then y else rneInt ((64 - d : Nat) * y + (d : Int) * prev) 64

/-- A code of the 32 of a tick: sample j of channel c stands at 8 j + c. -/
def codeAt (codes : List Int) (j c : Nat) : Int := codes.getD (8 * j + c) 0

/-- The four calibrated and delayed samples of a channel, and its last calibrated sample. -/
def channelTick (bs : List Nat) (codes : List Int) (last : List Int) (c : Nat) : List Int × Int :=
  let y (j : Nat) : Int := calibrate bs c (codeAt codes j c)
  let d := selDelay bs c
  ([delayed d (y 0) (last.getD c 0), delayed d (y 1) (y 0), delayed d (y 2) (y 1), delayed d (y 3) (y 2)], y 3)

/-- The sum S of step 4. -/
def powerSum (i v : List Int) : Int := (List.range 4).foldl (fun t j => t + i.getD j 0 * v.getD j 0) 0

/-- The creep threshold C of R319. -/
def creepOf (bs : List Nat) : Nat := 4096 * selI bs * selV bs / 100000

/-- A code within 0.5 % of either end of full scale (R321). -/
def codeOver (x : Int) : Bool := 995 * (2 ^ 23 - 1) ≤ 1000 * x.natAbs

/-- A check pair disagrees (R320): means of the main and check channel, the main channel's calibrated full scale, the limit in 0.01 %. -/
def pairDisagrees (main chk fullScale : Int) (pct : Nat) : Bool :=
  pct * main.natAbs < 10000 * (chk - main).natAbs && fullScale.natAbs < 1000 * (chk - main).natAbs

/-- Saturating 32-bit count. -/
def sat32n (n : Nat) : Nat := min n (2 ^ 32 - 1)

def addKey (k v : Nat) (m : SMap Nat) : SMap Nat := SMap.set (fun _ => 0) k (SMap.get (fun _ => 0) m k + v) m
def getKey (k : Nat) (m : SMap Nat) : Nat := SMap.get (fun _ => 0) m k

/-- Book an increment ΔE against the creep threshold (R319). -/
def Tot.book (t : Tot) (creep : Nat) (e : Int) : Tot :=
  if e.natAbs < creep then
    if t.sess.isOpen then { t with creep := sat32n (t.creep + 1), sess.creep := sat32n (t.sess.creep + 1) } else t
  else
    let dir := if 0 ≤ e then 1 else 2
    let rev := if t.lastDir != 0 && t.lastDir != dir then 1 else 0
    let t := { t with
      lastDir := dir
      reversals := sat32n (t.reversals + rev)
      sess.reversals := if t.sess.isOpen then sat32n (t.sess.reversals + rev) else t.sess.reversals }
    let n := e.natAbs
    if dir == 1 then { t with impAll := t.impAll + n, impT := addKey t.tariff n t.impT, int.imp := t.int.imp + n,
                              sess.imp := if t.sess.isOpen then t.sess.imp + n else t.sess.imp }
    else { t with expAll := t.expAll + n, expT := addKey t.tariff n t.expT, int.exp := t.int.exp + n,
                  sess.exp := if t.sess.isOpen then t.sess.exp + n else t.sess.exp }

/-! ### Calendar and tariffs (R347, R349) -/

/-- Units of 125 µs in a minute and in a day. -/
def minU : Nat := 480000
def dayU : Nat := 691200000

/-- Local time of a calendar value, both in units of 125 µs (R349). -/
def localOf (bs : List Nat) (cal : Nat) : Nat := ((cal : Int) + signedOf 16 (u16 bs 4) * (minU : Int)).toNat

/-- Year, month and day of a day number since 1970-01-01. -/
def dateOf (days : Nat) : Nat × Nat × Nat :=
  let z := days + 719468
  let era := z / 146097
  let doe := z % 146097
  let yoe := (doe + doe / 36524 - doe / 1460 - doe / 146096) / 365
  let doy := doe - (365 * yoe + yoe / 4 - yoe / 100)
  let mp := (5 * doy + 2) / 153
  let d := doy - (153 * mp + 2) / 5 + 1
  let m := if mp < 10 then mp + 3 else mp - 9
  (yoe + era * 400 + (if m ≤ 2 then 1 else 0), m, d)

/-- The day profile of a local day (R349 steps 1 to 3); none where no season is valid. -/
def profileOf (bs : List Nat) (days : Nat) : Option Nat :=
  let (y, m, d) := dateOf days
  let special (year : Nat) : Option Nat :=
    (List.range 64).find? fun j => u8 bs (0x6E2 + 8 * j) == m && u8 bs (0x6E3 + 8 * j) == d && u16 bs (0x6E0 + 8 * j) == year
  match special y with
  | some j => some (u8 bs (0x6E4 + 8 * j))
  | none => match special 0 with
    | some j => some (u8 bs (0x6E4 + 8 * j))
    | none =>
      let valid := (List.range 4).filter fun i => u8 bs (0x13 + 4 * i) == 1
      let md (i : Nat) : Nat := 32 * u8 bs (0x10 + 4 * i) + u8 bs (0x11 + 4 * i)
      let latest (l : List Nat) : Option Nat := l.foldl (fun b i => match b with
        | none => some i
        | some k => if md k ≤ md i then some i else some k) none
      let before := valid.filter fun i => md i ≤ 32 * m + d
      match (if before.isEmpty then latest valid else latest before) with
      | none => none
      | some i => some (u8 bs (0x20 + 8 * (u8 bs (0x12 + 4 * i) % 8) + (days + 3) % 7))

/-- The tariff of a profile's last switch point at or below a minute. -/
def pointBefore (bs : List Nat) (prof minute : Nat) : Option Nat :=
  let base := 0x60 + 52 * (prof % 32)
  (((List.range (min 12 (u8 bs base))).filter fun i => u16 bs (base + 4 + 4 * i) ≤ minute).getLast?).map fun i =>
    u8 bs (base + 6 + 4 * i)

/-- The tariff in force at a calendar value (R349). -/
def tariffAt (bs : List Nat) (cal : Nat) : Nat :=
  let loc := localOf bs cal
  let day := loc / dayU
  let minute := loc % dayU / minU
  match (profileOf bs day).bind (pointBefore bs · minute) with
  | some t => t
  | none => match (profileOf bs (day - 1)).bind (pointBefore bs · 1439) with
    | some t => t
    | none => u8 bs 0

/-- Switches of the tariff between two calendar values (R357). -/
def switchesBetween (bs : List Nat) (a b : Nat) : Nat :=
  let d0 := localOf bs a / dayU
  let d1 := localOf bs b / dayU
  ((List.range (d1 + 1 - d0)).flatMap fun i =>
    let day := d0 + i
    match profileOf bs day with
    | none => []
    | some prof => (List.range (min 12 (u8 bs (0x60 + 52 * (prof % 32))))).filter fun k =>
        let at_ := day * dayU + u16 bs (0x64 + 52 * (prof % 32) + 4 * k) * minU
        let cal := ((at_ : Int) - signedOf 16 (u16 bs 4) * (minU : Int)).toNat
        a < cal && cal ≤ b && tariffAt bs cal != tariffAt bs (cal - 1)).length

/-- The tariff in force as R347 decides it at the present calendar. -/
def Tot.tariffNow (t : Tot) (bs : List Nat) : Nat :=
  if t.clock != 0 then u8 bs 0 else if t.cal < t.hwm then t.hwmTariff else tariffAt bs t.cal

/-- The calendar is below the high-water mark with the clock PROVEN (R347). -/
def Tot.behind (t : Tot) : Bool := t.clock == 0 && t.cal < t.hwm

/-- Header FLAGS of the clock state (R343, R347, R359). -/
def Tot.clockFlags (t : Tot) : Nat := if t.clock == 1 then 1 else if t.clock == 2 then 2 else if t.behind then 4 else 0

/-! ### Demand intervals (R350 to R353) -/

def intervalMin (bs : List Nat) : Nat := max 1 (u8 bs 1)

/-- Length of an interval that opens at a calendar value, and SHORT (R351): `aligned` says that it is adjusted or realigned. -/
def intervalLen (bs : List Nat) (cal : Nat) (aligned : Bool) : Nat × Bool :=
  let n := intervalMin bs * minU
  if !aligned then (n, false) else
  let l := localOf bs cal
  let e := l + n
  let lo := e / dayU * dayU + e % dayU / n * n
  let hi := min (lo + n) (e / dayU * dayU + dayU)
  let a := if e - lo ≤ hi - e then lo else hi
  if ((a : Int) - e).natAbs ≤ 8000 && l < a then (a - l, false)
  else
    let m := l + minU
    let c := min (m / dayU * dayU + (m % dayU + n - 1) / n * n) (m / dayU * dayU + dayU)
    (c - l, true)

/-- The next interval opens at the present tick: R351, R353 for one that a set-back opens, the site unit's sync wait. -/
def Tot.openInterval (t : Tot) (bs : List Nat) (site setBack : Bool) : Tot :=
  let n := intervalMin bs * minU
  let sync := site && u8 bs 2 == 1
  let (len, short) := if sync then (n + 80000, false) else intervalLen bs t.cal (setBack || (t.clock == 0 && !t.behind))
  { t with int := { no := t.int.no + 1, start := t.ledger, len := len, short := if setBack then len < n else short } }

/-- Close the running interval at the present tick (R352): the boundary's close part, the totals with the next interval open. -/
def Tot.closeInterval (t : Tot) (bs : List Nat) (site setBack : Bool) (flags : Nat) : Bnd × Tot :=
  let len := t.ledger - t.int.start
  let dem (e : Nat) : Nat := if len == 0 then 0 else 8 * (e / 65536) / len
  let i := t.int
  let fl := flags + (if i.gap then 8 else 0) + (if i.incomplete then 1024 else 0) + (if setBack then 2048 else 0) +
    (if i.short then 32768 else 0) + (if i.outage then 8192 else 0)
  let complete := i.metered == len && !i.incomplete && !setBack && !i.gap
  let b : Bnd := {
    tick := t.ledger, close := true, flags := fl, cal := t.cal, tFrom := t.tariff, tTo := t.tariff, no := i.no,
    start := i.start, imp := i.imp / 65536, exp := i.exp / 65536, allImp := t.impAll / 65536, allExp := t.expAll / 65536,
    fromImp := getKey t.tariff t.impT / 65536, fromExp := getKey t.tariff t.expT / 65536,
    demImp := dem i.imp, demExp := dem i.exp, length := len, metered := i.metered, hwm := t.hwm }
  let t := { t with
    lastDemImp := dem i.imp
    lastDemExp := dem i.exp
    maxDemImp := if complete then max t.maxDemImp (dem i.imp) else t.maxDemImp
    maxDemExp := if complete then max t.maxDemExp (dem i.exp) else t.maxDemExp }
  (b, t.openInterval bs site setBack)

/-! ### Boundaries (R354) -/

/-- The TAMPER byte, HALL_LO and HALL_HI that stand: of the last section sealed in the unit, else of IO_MAP (R366). -/
def State.tamperDecl (s : State) : Nat × Nat × Nat :=
  match s.pat.sealed.getLast? with
  | some e => (u8 e.2 0x103, u8 e.2 0x106, u8 e.2 0x107)
  | none => (s.role.tamper, s.role.hallLo, s.role.hallHi)

/-- A record is free: acknowledged by two holders and older than KEEP days (R364). -/
def State.recFree (s : State) (r : JRec) : Bool :=
  2 ≤ r.holders.length && r.ledger + s.rd F.BIL_JRNL_CFG_KEEP * dayU < s.met.tot.ledger

/-- Free slots (R364). -/
def State.jrnlFree (s : State) : Nat :=
  16384 - ((s.bil.journal.filter fun r => !s.recFree r).map (·.slots)).foldl (· + ·) 0

/-- The journal reserve is low (R365). -/
def State.jrnlLow (s : State) : Bool := s.jrnlFree < s.rd F.BIL_JRNL_CFG_RESERVE

/-- Interval records are suppressed (BIL_STATUS.SUPPRESS): until 16 slots are free again (R365). -/
def State.suppressing (s : State) : Bool := s.bil.suppress && s.jrnlFree < 16

/-- Header FLAGS that every record carries at present: TAMPER_OPEN, SUPPRESSED, SITE (R359, R365, R367). -/
def State.recordFlags (s : State) : Nat :=
  (if s.bil.unacked || s.bil.inForce.any id then 2 ^ 16 else 0) + (if s.suppressing then 2 ^ 17 else 0) +
    (if s.bil.isSite then 2 ^ 19 else 0)

/-- Add a boundary to those that wait; one of the same tick becomes one record with both KIND bits (R354). -/
def joinBnd (b : Bnd) : List Bnd → List Bnd
  | [] => [b]
  | x :: xs =>
    if x.tick == b.tick then
      { (if b.close then b else x) with
        close := x.close || b.close
        switch := x.switch || b.switch
        flags := x.flags ||| b.flags
        tFrom := x.tFrom
        tTo := b.tTo } :: xs
    else x :: joinBnd b xs

/-- Close the running interval now. -/
def State.closeInterval (s : State) (setBack : Bool) (extra : Nat) : State :=
  let (b, t) := s.met.tot.closeInterval s.calBytes s.bil.isSite setBack (s.met.tot.clockFlags + extra)
  { s with met.tot := t, met.bnd := joinBnd b s.met.bnd } |>.wrb F.BIL_EVENT_INTERVAL_CLOSE true

/-- The running interval has reached its scheduled end; a site unit's that waits for its sync carries NO_SYNC (R351). -/
def State.intervalDue (s : State) : Bool := s.met.tot.int.len != 0 && s.met.tot.int.start + s.met.tot.int.len ≤ s.met.tot.ledger

/-- SYNC is set at the site unit (R351). -/
def State.syncMode (s : State) : Bool := s.bil.isSite && u8 s.calBytes 2 == 1

/-- The scheduled end of the interval has come: without its sync edge it carries NO_SYNC (R351). -/
def State.closeDue (s : State) : State :=
  if s.syncMode then (({ s with bil.ignoreUntil := s.met.tot.ledger + 80000 }).closeInterval false 16384)
  else s.closeInterval false 0

/-- A set-back or a sync edge falls in the tick in progress: the interval closes at that tick's end (R351, R353, R354). -/
def State.closeAtTick (s : State) (setBack : Bool) : State :=
  { s with bil.closeAt := some (s.met.tot.ledger + 1, setBack || (s.bil.closeAt.map (·.2)).getD false) }

/-- Step 1 of R354: close the interval where its end has come, or where a set-back or a sync edge fell in the tick; one close where
several meet (R368). -/
def State.intervalStep (s : State) : State :=
  match s.bil.closeAt with
  | some (k, setBack) =>
    if k ≤ s.met.tot.ledger then ({ s with bil.closeAt := none }).closeInterval setBack 0
    else if s.intervalDue then s.closeDue else s
  | none => if s.intervalDue then s.closeDue else s

/-- Step 2 of R354: decide the tariff in force by R347; a change is a boundary. -/
def State.tariffStep (s : State) : State :=
  let t := s.met.tot
  let bs := s.calBytes
  let new := t.tariffNow bs
  let s := if t.clock == 0 && !t.behind then { s with met.tot.hwm := t.cal, met.tot.hwmTariff := new } else s
  if new == t.tariff then s
  else
    let b : Bnd := {
      tick := t.ledger, switch := true, flags := t.clockFlags, cal := t.cal, tFrom := t.tariff, tTo := new,
      allImp := t.impAll / 65536, allExp := t.expAll / 65536, fromImp := getKey t.tariff t.impT / 65536,
      fromExp := getKey t.tariff t.expT / 65536, hwm := s.met.tot.hwm }
    ({ s with met.tot.tariff := new, met.bnd := joinBnd b s.met.bnd }).wrb F.BIL_EVENT_TARIFF_SWITCH true

/-- The check pairs' states follow their counts of 8,000 ticks (R320). -/
def State.checkPairs (s : State) : State :=
  let m := s.met
  let st := (List.range 2).map fun i =>
    if 8000 ≤ m.disagree.getD i 0 then true else if 8000 ≤ m.agree.getD i 0 then false else m.chkState.getD i false
  let was := m.chkState.any id
  let s := { s with met.chkState := st }
  if st.any id then
    let s := if s.met.tot.sess.isOpen then { s with met.tot.sess.checkFail := true } else s
    if was then s else (s.wrb F.MET_EVENT_CHECK_FAIL true).event (evCode 6 1 1) 0
  else s

/-! ### The journal (R358 to R365) -/

/-- Does a record lie in a slot? -/
def JRec.inSlot (r : JRec) (i : Nat) : Bool := i == r.slot || (r.slots == 2 && i == (r.slot + 1) % 16384)

/-- The first start slot in ring order for n consecutive slots whose every slot satisfies a test. -/
def findSlot (ok : Nat → Bool) (n : Nat) : Nat → Nat → Option Nat
  | 0, _ => none
  | f + 1, i => if (List.range n).all fun k => ok ((i + k) % 16384) then some i else findSlot ok n f ((i + 1) % 16384)

/-- Where a record of n slots goes: empty slots, else the oldest free ones (R364). -/
def State.placeFor (s : State) (n : Nat) : Option Nat :=
  let j := s.bil.journal
  match findSlot (fun i => !j.any (·.inSlot i)) n 16384 s.bil.head with
  | some i => some i
  | none => findSlot (fun i => j.all fun r => !r.inSlot i || s.recFree r) n 16384 s.bil.head

/-- The 56-byte header (R358). -/
def State.recHeader (s : State) (typ slots flags seq ledger cal : Nat) (prev : List Nat) : List Nat :=
  [typ, slots, 1, s.addr] ++ leBytes 4 flags ++ leBytes 8 seq ++ leBytes 8 Config.deviceId ++ leBytes 8 ledger ++
    leBytes 8 cal ++ padTo 16 prev

/-- The digest prefix of the last record, signature included (R358): ECDSA here is a function of key and bytes, so the signature that
R363 adds within 1 s is known when the next record is committed (log 10). -/
def State.prevDigest (s : State) : List Nat :=
  match s.bil.journal with
  | [] => []
  | r :: _ => (Config.sha384 (r.bytes ++ r.signature.getD (Config.ecdsaSign s.key.legal r.bytes))).take 16

/-- Commit a record: the next SEQ, PREV of the record last committed, its slot; nothing where no slot may be taken (R355, R364, R365).
`cal` is the calendar in 125 µs units. -/
def State.jrnlWrite (s : State) (typ flags ledger cal : Nat) (body : List Nat) : State × Bool :=
  let n := if typ == 1 then 2 else 1
  let free := s.jrnlFree
  let held := s.met.tot.sess.isOpen || s.met.tot.sess.awaiting
  let allowed := typ == 1 || (2 < free && !(held && free < 8))
  match (if allowed then s.placeFor n else none) with
  | none => (s, false)
  | some i =>
    let was := s.jrnlLow
    let seq := s.bil.seq + 1
    let calMs := if s.met.tot.clock == 2 then 0 else cal / 8
    let r : JRec := {
      slot := i, slots := n, seq := seq, typ := typ, ledger := ledger,
      bytes := s.recHeader typ n (flags ||| s.recordFlags) seq ledger calMs s.prevDigest ++
        padTo (if n == 2 then 360 else 104) body }
    let left := s.bil.journal.filter fun o => !(List.range n).any fun k => o.inSlot ((i + k) % 16384)
    let s : State := { s with bil.journal := r :: left, bil.seq := seq, bil.head := (i + n) % 16384 }
    let s : State := { s with bil.suppress := s.suppressing }
    (if !was && s.jrnlLow then (s.wrb F.BIL_EVENT_JRNL_LOW true).event (evCode 7 2 3) 0 else s, true)

/-- The body of a BOUNDARY record (R361). -/
def Bnd.body (b : Bnd) (saveSeq : Nat) : List Nat :=
  [(if b.close then 1 else 0) + (if b.switch then 2 else 0), b.tFrom, b.tTo, min 255 b.switches] ++
    leBytes 4 (if b.close then b.no else 0) ++ leBytes 8 b.start ++ leBytes 8 b.imp ++ leBytes 8 b.exp ++ leBytes 8 b.allImp ++
    leBytes 8 b.allExp ++ leBytes 8 b.fromImp ++ leBytes 8 b.fromExp ++ leBytes 4 b.demImp ++ leBytes 4 b.demExp ++
    leBytes 4 b.length ++ leBytes 4 b.metered ++ leBytes 4 b.skipped ++ leBytes 4 saveSeq ++ leBytes 8 (b.hwm / 8)

/-- Commit one boundary (R355, R361, R365): an interval close alone that booked nothing and carries no flag is not written. -/
def State.commitBnd (s : State) (b : Bnd) (extra saveSeq : Nat) : State :=
  let fl := b.flags ||| extra
  let wanted := b.switch || b.imp != 0 || b.exp != 0 || fl != 0 || s.recordFlags != 0 || s.bil.isSite
  if !wanted then s
  else if !b.switch && (s.met.tot.sess.isOpen || s.met.tot.sess.awaiting) && s.jrnlFree < 16 then
    ({ s with bil.suppress := true
              met.tot.sess.suppressed := min 65535 (s.met.tot.sess.suppressed + 1) }).wrb F.BIL_EVENT_SUPPRESSED true
  else (s.jrnlWrite 2 fl b.tick b.cal (b.body saveSeq)).1

/-! ### Session values (R328 to R330, R360) -/

/-- A session value is complete (R329). -/
def Sess.complete (x : Sess) : Bool :=
  !x.late && !x.gap && !x.broken && !x.unsaved && !x.checkFail && !x.overrange

/-- Ticks between the marks that the partition did not book (R329, R333, R519). -/
def Sess.unbooked (x : Sess) : Nat := x.gapTicks

/-- The two units' values of a direction differ at CLOSE (R330), mJ. -/
def dualDiffers (a b : Nat) : Bool := max a b < 100 * ((max a b - min a b) - 1125000)

/-- The unit carries its role with a partner. -/
def State.hasPartner (s : State) : Bool := s.pair.partnerAddr != 0 || s.rd F.PAIR_IDENT_PARTNER != 0

/-- STANDS of a SESSION record (R329, R360). -/
def State.stands (s : State) : Nat :=
  let x := s.met.tot.sess
  let own := x.primary == s.addr
  if !s.hasPartner then 0
  else if !s.met.pClosed then 3
  else if (if own then x.complete else s.met.pComplete) then (if own then 0 else 1)
  else if (if own then s.met.pComplete else x.complete) then (if own then 1 else 0)
  else if x.unbooked < s.met.pUnbooked then 0
  else if s.met.pUnbooked < x.unbooked then 1
  else if own then 2 else 1

/-- Write the SESSION record with its STANDS (R360). -/
def State.sessionRecord (s : State) (extra : Nat) : State :=
  let t := s.met.tot
  let x := t.sess
  let stands := s.stands
  let absent := !s.met.pSeen || !s.hasPartner
  let bits (b : Bool) (i : Nat) : Nat := if b then 2 ^ i else 0
  let fl := x.closeFlags ||| extra ||| bits (x.gap || x.gapTicks != 0) 3 ||| bits x.unsaved 4 ||| bits x.checkFail 5 |||
    bits x.overrange 6 ||| bits x.xchk 7 ||| bits x.dualDiff 8 ||| bits x.late 9 ||| bits absent 18 ||| bits (x.suppressed != 0) 17
  let diff (now at_ : SMap Nat) (k : Nat) : Nat := (getKey k now - getKey k at_) / 65536
  let mask := (List.range 16).foldl (fun m i =>
    if getKey (i + 1) t.impT != getKey (i + 1) x.impAt || getKey (i + 1) t.expT != getKey (i + 1) x.expAt then m + 2 ^ i else m) 0
  let body := leBytes 8 x.id ++ leBytes 8 x.openLedger ++ leBytes 8 x.closeLedger ++ leBytes 8 (x.openCal / 8) ++
    leBytes 8 (x.closeCal / 8) ++ leBytes 10 x.imp ++ leBytes 10 x.exp ++ leBytes 8 (if absent then 0 else s.met.pImp) ++
    leBytes 8 (if absent then 0 else s.met.pExp) ++ [if s.hasPartner then s.rd F.PAIR_IDENT_PARTNER else 0, stands, if s.hasPartner then x.primary else s.addr, 0] ++
    leBytes 4 x.reversals ++ leBytes 4 x.creep ++ leBytes 4 x.gapTicks ++ leBytes 4 x.bound ++ leBytes 2 x.suppressed ++
    leBytes 2 mask ++ [0, 0, 0, 0] ++ (List.range 16).flatMap (fun i => leBytes 8 (diff t.impT x.impAt (i + 1))) ++
    (List.range 16).flatMap (fun i => leBytes 8 (diff t.expT x.expAt (i + 1)))
  ((({ s with met.tot.sess.awaiting := false }).jrnlWrite 1 fl x.closeLedger x.closeCal body)).1

/-- Write the SESSION record of a closed value if its standing value can be decided (R329). -/
def State.trySession (s : State) (timeout : Bool) : State :=
  if s.met.tot.sess.awaiting && (s.met.pClosed || !s.hasPartner || timeout) then s.sessionRecord 0 else s

/-- Open a session value at the present tick (R328). -/
def State.openSess (s : State) (m : Mark) : State :=
  let s := if s.met.tot.sess.awaiting then s.sessionRecord 0 else s
  let t := s.met.tot
  { s with
    met.tot.sess := { isOpen := true, id := m.id, primary := m.source, late := m.late, openLedger := t.ledger, openCal := t.cal,
                      impAt := t.impT, expAt := t.expT, xchk := s.met.xchk, checkFail := s.met.chkState.any id }
    met.pImp := 0
    met.pExp := 0
    met.pComplete := false
    met.pUnbooked := 0
    met.pClosed := false
    met.pSeen := false
    met.dualDiff := false }

/-- Close the open session value at the present tick (R328, R330). -/
def State.closeSess (s : State) (late : Bool) : State :=
  let t := s.met.tot
  let x := t.sess
  let diff := s.met.pSeen && (dualDiffers (x.imp / 65536) s.met.pImp || dualDiffers (x.exp / 65536) s.met.pExp)
  let s := { s with
    met.tot.sess := { x with isOpen := false, late := x.late || late, dualDiff := diff, closeLedger := t.ledger, closeCal := t.cal,
                             awaiting := true, closeFlags := t.clockFlags }
    met.dualDiff := diff }
  let s := if diff then (s.wrb F.MET_EVENT_DUAL_DIFF true).event (evCode 6 2 3) 0 else s
  s.trySession false

/-- Apply the oldest mark that waits, where its tick has ended or `force` is set (R328, R337): an OPEN over an open value closes it
first and opens at the following tick. -/
def State.applyMark (s : State) (force : Bool) : State :=
  match s.met.marks with
  | [] => s
  | m :: ms =>
    if !force && s.met.tot.ledger ≤ m.tick then s else
    let held := s.met.tot.sess.isOpen
    if m.close then
      let s := { s with met.marks := ms }
      if held then s.closeSess m.late else s
    else if held then ({ s with met.marks := { m with tick := s.met.tot.ledger } :: ms }).closeSess true
    else ({ s with met.marks := ms }).openSess m

/-- Apply the marks whose tick has ended, oldest first. -/
def State.applyMarks (s : State) (force : Bool := false) : State :=
  s.met.marks.foldl (fun s _ => s.applyMark force) s

/-! ### Saves and recovery (R331 to R336, R356, R357) -/

/-- The always-on real-time clock count (R488). -/
def State.rtc (s : State) : Nat := s.rd64 F.CLK_AON_RTC_LO

/-- The real-time clock shows a later count. -/
def State.setRtc (s : State) (n : Nat) : State := if s.rtc < n then s.wr64 F.CLK_AON_RTC_LO n else s

/-- Write an MRAM save of the totals (R331). -/
def State.metSave (s : State) (earlyWarning : Bool) (records : List JRec) : State :=
  let q := s.met.saveSeq + 1
  let e : MetSave := { seq := q, earlyWarning := earlyWarning, tot := s.met.tot, rtc := s.rtc, records := records }
  { s with met.saves := SMap.set (fun _ => none) (q % 2) (some e) s.met.saves, met.saveSeq := q }

/-- Everything that falls due at a tick's end besides booking: boundaries, the check pairs, the marks (R354). -/
def State.settle (s : State) : State := s.intervalStep.tariffStep.checkPairs

/-- Wh, rounded up, of rated power over a number of ticks (R333). -/
def boundWh (bs : List Nat) (ticks : Nat) : Nat := (selI bs * selV bs * ticks + 100 * 8000 * 3600 - 1) / (100 * 8000 * 3600)

/-- Wh, rounded up, of rated power over 1.0006 s (R335). -/
def boundUnsaved (bs : List Nat) : Nat := (selI bs * selV bs * 10006 + 100 * 10000 * 3600 - 1) / (100 * 10000 * 3600)

/-- The ticks that were not booked form a gap: the interval and an open session carry it (R333). -/
def State.metGap (s : State) (ticks : Nat) : State :=
  let x := s.met.tot.sess
  { s with
    met.gapTicks := ticks
    met.tot.int.gap := true
    met.tot.sess := if x.isOpen then { x with gap := true, gapTicks := sat32n (x.gapTicks + ticks) } else x }

/-- An unsaved-interval event with its bound, Wh (R333, R335). -/
def State.unsavedEvent (s : State) (bound : Nat) : State :=
  (({ s with met.bound := bound
             met.tot.sess.bound := if s.met.tot.sess.isOpen then s.met.tot.sess.bound + bound
                                   else s.met.tot.sess.bound }).wrb F.MET_EVENT_UNSAVED true).event (evCode 6 1 4) bound

/-- The partition books what is due, stops booking and writes a save of KIND early warning with every pending boundary and a pending
SESSION record (R332, R356): a boundary due within 800 ticks is brought forward. -/
def State.powerFail (s : State) : State :=
  if !s.met.booking then s else
  let s := s.settle
  let t := s.met.tot
  let s := match s.bil.closeAt with
    | some (_, setBack) =>
      let s : State := { s with bil.closeAt := none }
      if t.int.start == t.ledger then s else s.closeInterval setBack 0
    | none => if t.int.len != 0 && t.int.start + t.int.len ≤ t.ledger + 800 then s.closeDue else s
  let t := s.met.tot
  let soon := tariffAt s.calBytes (t.cal + 800)
  let s := if t.clock == 0 && !t.behind && soon != t.tariff then
      let b : Bnd := {
        tick := t.ledger, switch := true, cal := t.cal, tFrom := t.tariff, tTo := soon,
        allImp := t.impAll / 65536, allExp := t.expAll / 65536, fromImp := getKey t.tariff t.impT / 65536,
        fromExp := getKey t.tariff t.expT / 65536, hwm := t.hwm }
      { s with met.tot.tariff := soon, met.bnd := joinBnd b s.met.bnd }
    else s
  let s := s.applyMarks true
  let q := s.met.saveSeq + 1
  let first := s.bil.seq
  let s := s.met.bnd.foldl (fun s b => s.commitBnd b 4096 q) s
  let s := if s.met.tot.sess.awaiting then s.sessionRecord 4096 else s
  let s := { s with met.bnd := [], met.booking := false, met.stopRtc := s.rtc }
  s.metSave true (s.bil.journal.filter fun r => first < r.seq)

/-- Close every interval whose end passed while the partition did not run (R357): the interval that held the outage's start carries
INCOMPLETE, those wholly inside are counted; the interval scheduled over the restart carries INCOMPLETE. -/
def outageIntervals (bs : List Nat) (site : Bool) : Nat → Tot → Nat → Nat → Tot × Nat × Nat
  | 0, t, now, k => (t, now, k)
  | f + 1, t, now, k =>
    let e := t.int.start + t.int.len
    if t.int.len == 0 || now < e then (t, now, k)
    else
      let t' := { t with ledger := e, cal := t.cal + (e - t.ledger) }
      outageIntervals bs site f (t'.openInterval bs site false) now (k + 1)

/-- Recovery of the totals at a start of the partition (R334, R335, R342, R357); the ticks since the taken save are a gap of a session
that stands open (R519). -/
def State.recover (s : State) : State :=
  let newest (a b : Option MetSave) : Option MetSave := match a, b with
    | some x, some y => if x.seq < y.seq then some y else some x
    | some x, none => some x
    | none, y => y
  let e := newest (SMap.get (fun _ => none) s.met.saves 0) (SMap.get (fun _ => none) s.met.saves 1)
  let later (a b : Option (Tot × Nat)) : Option (Tot × Nat) := match a, b with
    | some x, some y => if x.1.ledger < y.1.ledger then some y else some x
    | some x, none => some x
    | none, y => y
  let c := later (SMap.get (fun _ => none) s.met.copies 0) (SMap.get (fun _ => none) s.met.copies 1)
  let taken : Option (Tot × Nat × Nat) := match e, c with
    | none, none => none
    | none, some (t, r) => some (t, r, 2)
    | some x, none => some (x.tot, x.rtc, if x.earlyWarning then 1 else 3)
    | some x, some (t, r) =>
      if x.earlyWarning && t.ledger == x.tot.ledger then some (x.tot, x.rtc, 1)
      else if x.tot.ledger ≤ t.ledger then some (t, r, 2) else some (x.tot, x.rtc, 3)
  match taken with
  | none =>
    let t := ({ clock := 2, tariff := u8 s.calBytes 0 } : Tot).openInterval s.calBytes s.bil.isSite false
    { s with met.tot := t, met.recovery := 0, met.clockLost := true, met.running := true, met.booking := true }
  | some (t, r, code) =>
    let adv := if s.clk.aonLost then 0 else (s.rtc - r) * 125 / 512
    let now := t.ledger + adv
    let t := if s.clk.aonLost then { t with clock := 2 } else t
    let bs := s.calBytes
    let hadEnd := t.int.len != 0 && t.int.start + t.int.len ≤ now
    -- the interval that holds the outage's start
    let t1 := { t with int.incomplete := true, int.outage := hadEnd }
    let atEnd := { t1 with ledger := t1.int.start + t1.int.len, cal := t1.cal + (t1.int.start + t1.int.len - t1.ledger) }
    let (b, t2) := atEnd.closeInterval bs s.bil.isSite false atEnd.clockFlags
    let (t3, _, skipped) := if hadEnd then outageIntervals bs s.bil.isSite (adv / 400000 + 2) t2 now 0 else (t1, now, 0)
    let t4 := { t3 with ledger := now, cal := t3.cal + (now - t3.ledger), int.incomplete := true }
    let new := t4.tariffNow bs
    let sw := if t.clock == 0 then switchesBetween bs t.cal t4.cal else 0
    let b := { b with skipped := skipped, switches := sw, switch := new != t.tariff, tTo := new, flags := b.flags ||| 8192 }
    let b := if hadEnd then b else
      { tick := now, switch := true, flags := 8192 ||| t4.clockFlags, cal := t4.cal, tFrom := t.tariff, tTo := new, switches := sw,
        allImp := t.impAll / 65536, allExp := t.expAll / 65536, fromImp := getKey t.tariff t.impT / 65536,
        fromExp := getKey t.tariff t.expT / 65536, hwm := t4.hwm }
    let t5 := { t4 with tariff := new }
    let t5 := if t5.sess.isOpen then
        { t5 with sess.gap := true, sess.gapTicks := sat32n (t5.sess.gapTicks + adv),
                  sess.unsaved := t5.sess.unsaved || code == 3 }
      else t5
    let s := { s with
      met.tot := t5
      met.recovery := code
      met.clockLost := s.clk.aonLost
      met.gapTicks := adv
      met.running := true
      met.booking := true
      bil.adoptTick := now
      bil.closeAt := none }
    -- records of the early-warning save that their slots do not hold intact (R356)
    let s := match e with
      | some x => if code == 1 then { s with
          bil.journal := (x.records.filter fun (r : JRec) => !s.bil.journal.any (fun (o : JRec) => o.seq == r.seq)) ++ s.bil.journal } else s
      | none => s
    let s := if hadEnd || new != t.tariff then
        ((s.commitBnd b 0 0).wrb F.BIL_EVENT_OUTAGE_BOUNDARY true).event (evCode 7 3 4) 0
      else s
    let lost := if code == 3 then boundUnsaved s.selBytes else 0
    let gap := if t5.sess.isOpen && adv != 0 then boundWh s.selBytes adv else 0
    let s : State := { s with met.boundImp := max lost gap, met.boundExp := max lost gap }
    let s := if code == 3 then s.unsavedEvent lost else s
    if gap != 0 then s.unsavedEvent gap else s

/-- Sign a record under the legal signing key (R363). -/
def State.signRec (s : State) (r : JRec) : JRec :=
  { r with signature := some (r.signature.getD (Config.ecdsaSign s.key.legal r.bytes)) }

/-- Sign every unsigned record (R363, at start). -/
def State.signAll (s : State) : State := if s.key.legal == [] then s else { s with bil.journal := s.bil.journal.map s.signRec }

/-- A TAMPER record (R362); one that finds no slot is counted in LOST (R365). -/
def State.tamperRecord (s : State) (kind : Nat) (onset vin : Bool) (rtc : Nat) (b : List Int) : State :=
  let t := s.met.tot
  -- calendar of the event, from the real-time clock: counts since then, in 125 µs units
  let back := (s.rtc - rtc) * 125 / 512
  let body := [kind, if onset then 1 else 0, if vin then 1 else 0, 0] ++ leBytes 8 rtc ++ leBytes 8 ((t.cal - back) / 8) ++
    (List.range 3).flatMap (fun i => leBytes 2 (bitsOf 16 (b.getD i 0))) ++ leBytes 2 s.bil.storedLost
  let (s', ok) := s.jrnlWrite 4 t.clockFlags t.ledger t.cal body
  if ok then s' else { s' with bil.tamperLost := min 255 (s'.bil.tamperLost + 1) }

/-- The partition starts (R334, R357, R362, R363, R366): recovery, stored tamper events, signing, the START record. -/
def State.selStart (s : State) : State :=
  let s := s.recover
  let s := s.bil.stored.foldl (fun s e => s.tamperRecord e.1 e.2.1 e.2.2.1 e.2.2.2.1 e.2.2.2.2) s
  let s := ({ s with bil.stored := [], bil.storedLost := 0 }).wr F.CLK_AON_EVENTS 0
  let s := s.signAll
  let m := s.met
  (s.jrnlWrite 6 (m.tot.clockFlags ||| if m.recovery == 3 then 16 else 0) m.tot.ledger m.tot.cal
    ([m.recovery, 0, 0, 0] ++ leBytes 4 m.saveSeq ++ leBytes 4 m.gapTicks ++ leBytes 4 m.boundImp ++ leBytes 4 m.boundExp)).1

/-- A complete ledger tick: booking, checks, publication, retention copy (R317 to R321, R331, R338). -/
def State.bookTick (s : State) (codes : List Int) (rtc : Nat) : State :=
  let s := s.setRtc rtc
  let s := s.settle.applyMarks
  let bs := s.selBytes
  let m := s.met
  let chans := (List.range 8).map fun c => channelTick bs codes m.last c
  let z (c : Nat) : List Int := (chans.getD c ([], 0)).1
  let sum := powerSum (z 0) (z 2)
  let de := rneInt sum (2 ^ 13)
  let means := (List.range 8).map fun c => rneInt ((z c).foldl (· + ·) 0) 4
  let mean (c : Nat) : Int := means.getD c 0
  let overs := (List.range 4).any fun j => (List.range 4).any fun c => codeOver (codeAt codes j c)
  let bad := [pairDisagrees (mean 0) (mean 1) (calibrate bs 0 (2 ^ 23 - 1)) (u16 bs 0x90),
              pairDisagrees (mean 2) (mean 3) (calibrate bs 2 (2 ^ 23 - 1)) (u16 bs 0x92)]
  let count (l : List Nat) (want : Bool) : List Nat :=
    (List.range 2).map fun i => if bad.getD i false == want then min 8000 (l.getD i 0 + 1) else 0
  let t := m.tot
  let books := m.booking && !s.bil.isSite && bs != []
  let t := if books then t.book (creepOf bs) de else t
  let t := { t with
    ledger := t.ledger + 1
    cal := if t.clock == 2 then t.cal else t.cal + 1
    int.metered := if m.booking then t.int.metered + 1 else t.int.metered
    sess.overrange := t.sess.overrange || (t.sess.isOpen && overs) }
  let creepy := de.natAbs < creepOf bs
  let pub : TickPub := {
    seq := t.ledger % 2 ^ 32, means := means, power := rneInt sum (2 ^ 26),
    flags := (if creepy then 1 else 0) + (if !creepy && 0 ≤ de then 2 else 0) + (if !creepy && de < 0 then 4 else 0) +
      (if overs then 8 else 0) + (if m.chkState.any id then 16 else 0) }
  let s := { s with
    met.tot := t
    met.last := chans.map (·.2)
    met.pub := pub
    met.disagree := count m.disagree true
    met.agree := count m.agree false
    met.copies := SMap.set (fun _ => none) (t.ledger % 2) (some (t, s.rtc)) s.met.copies }
  let s := if books then
      (s.barAdd 2 (t.impAll / 65536 / 3600000 - m.tot.impAll / 65536 / 3600000)).barAdd 3
        (t.expAll / 65536 / 3600000 - m.tot.expAll / 65536 / 3600000)
    else s
  if overs then
    let s := s.wrb F.MET_EVENT_OVERRANGE true
    if bit m.pub.flags 3 then s else s.event (evCode 6 2 5) 0
  else s

/-! ### Mirrors and the read window (R338, R369, R543) -/

/-- Bits of MET_STATUS [9:0] (R338, R340). -/
def State.metState (s : State) : Nat :=
  let m := s.met
  let b (x : Bool) (i : Nat) : Nat := if x then 2 ^ i else 0
  m.recovery * 256 + b m.clockLost 7 + b m.dualDiff 6 + b m.xchk 5 + b (m.tot.sess.isOpen && m.tot.sess.overrange) 4 +
    b (m.chkState.any id) 3 + b (m.tot.sess.isOpen && m.tot.sess.gap) 2 + b m.booking 1 + b m.tot.sess.isOpen 0

/-- One refresh of every MET mirror from the published tick (R339, R543). -/
def State.mirrorMet (s : State) : State :=
  let m := s.met
  let t := m.tot
  let st := s.metState
  let s := (s.wr64 F.MET_E_IMP_ALL_LO (t.impAll / 65536)).wr64 F.MET_E_EXP_ALL_LO (t.expAll / 65536)
  let s := (s.wr64 F.MET_E_IMP_SESS_LO (t.sess.imp / 65536)).wr64 F.MET_E_EXP_SESS_LO (t.sess.exp / 65536)
  let s := ((s.wr F.MET_REVERSALS t.reversals).wrsat F.MET_UNSAVED_BOUND m.bound).wrsat F.MET_GAP_TICKS m.gapTicks
  let s := (s.wr F.MET_SAVE_SEQ m.saveSeq).wr F.MET_STATUS_RECOVERY m.recovery
  let s := ((s.wrb F.MET_STATUS_CLOCK_LOST (bit st 7)).wrb F.MET_STATUS_DUAL_DIFF (bit st 6)).wrb F.MET_STATUS_XCHK (bit st 5)
  let s := ((s.wrb F.MET_STATUS_OVERRANGE (bit st 4)).wrb F.MET_STATUS_CHECK_FAIL (bit st 3)).wrb F.MET_STATUS_GAP (bit st 2)
  (s.wrb F.MET_STATUS_METERING (bit st 1)).wrb F.MET_STATUS_SESSION_OPEN (bit st 0)

/-- One refresh of every BIL mirror (R369, R370, R371, R543). -/
def State.mirrorBil (s : State) : State :=
  let t := s.met.tot
  let free := s.jrnlFree
  let s := ((s.wr64 F.BIL_LEDGER_LO t.ledger).wr64 F.BIL_CAL_LO (t.cal / 8)).wr64 F.BIL_HWM_LO (t.hwm / 8)
  let s := (s.wr64 F.BIL_INT_IMP_LO (t.int.imp / 65536)).wr64 F.BIL_INT_EXP_LO (t.int.exp / 65536)
  let s := (s.wrsat F.BIL_INT_LEFT (t.int.start + t.int.len - t.ledger)).wrsat F.BIL_LAST_DEM_IMP t.lastDemImp
  let s := (s.wrsat F.BIL_LAST_DEM_EXP t.lastDemExp).wrsat F.BIL_MAX_DEM_IMP t.maxDemImp
  let s := ((s.wrsat F.BIL_MAX_DEM_EXP t.maxDemExp).wr F.BIL_INT_NO t.int.no).wr64 F.BIL_JRNL_SEQ_LO s.bil.seq
  let s := s.wr F.BIL_JRNL_FREE free
  let s := (List.range 16).foldl (fun (s : State) i =>
    (s.wr64 (F.BIL_T_IMP_LO (i + 1)) (getKey (i + 1) t.impT / 65536)).wr64 (F.BIL_T_EXP_LO (i + 1)) (getKey (i + 1) t.expT / 65536)) s
  let s := ((s.wrb F.BIL_STATUS_SITE s.bil.isSite).wrb F.BIL_STATUS_TAMPER_OPEN (s.bil.unacked || s.bil.inForce.any id)).wrb
    F.BIL_STATUS_JRNL_LOW s.jrnlLow
  let s := ((s.wrb F.BIL_STATUS_SUPPRESS s.suppressing).wrb F.BIL_STATUS_BEHIND_HWM t.behind).wr F.BIL_STATUS_CLOCK t.clock
  let s := ((s.wr F.BIL_STATUS_TARIFF t.tariff).wrb F.BIL_STATUS_DEFAULT (t.clock != 0)).wr F.BIL_TIME_STEP_COUNT t.stepCount
  let s := (s.wrb F.BIL_INT_SYNC (u8 s.calBytes 2 == 1)).wr F.BIL_INT_MINUTES (u8 s.calBytes 1)
  let s := ((s.wr F.BIL_TAMPER_LOST s.bil.tamperLost).wr F.BIL_TAMPER_DECL (s.tamperDecl.1 % 16)).wrb F.BIL_TAMPER_UNACKED s.bil.unacked
  ((s.wrb F.BIL_TAMPER_COVER_OPEN (s.bil.inForce.getD 0 false)).wrb F.BIL_TAMPER_TCOVER_OPEN (s.bil.inForce.getD 1 false)).wrb
    F.BIL_TAMPER_HALL_OPEN (s.bil.inForce.getD 2 false) |>.wrb F.BIL_TAMPER_MAGNET (s.bil.inForce.getD 3 false)

end Sys2Proof.Machine
end

