-- ==== Sys2Proof/Machine/Gate.lean ====
section
/-!
DEFINITION. Machine/Gate.lean: what the isolated and auxiliary gate channels do (chapter 08): edges, dead times, the normal off
path, the claim enable.
-/
namespace Sys2Proof.Machine
open Sys2Proof

/-- Output stage states of GDI_CH[n]_STATUS.STATE (R235). -/
def hizSt : Nat := 0
def offSt : Nat := 1
def onSt : Nat := 2
def softSt : Nat := 3

def State.ch (s : State) (n : Nat) : Ch := SMap.get (fun _ => {}) s.gd.ch n
def State.setCh (s : State) (n : Nat) (c : Ch) : State := { s with gd.ch := SMap.set (fun _ => {}) n c s.gd.ch }
def State.hb (s : State) (h : Nat) : HbSt := SMap.get (fun _ => {}) s.gd.hb h
def State.setHb (s : State) (h : Nat) (x : HbSt) : State := { s with gd.hb := SMap.set (fun _ => {}) h x s.gd.hb }

/-- Channel n's output stage state. -/
def State.chState (s : State) (n : Nat) : Nat := s.rd (F.GDI_CH_STATUS_STATE n)

/-- Set an output stage state with what GDI_STATUS and GDI_HB[h]_STATUS show of it (R235, R245). -/
def State.setChState (s : State) (n st : Nat) : State :=
  let s := s.wr (F.GDI_CH_STATUS_STATE n) st
  let s := s.wr F.GDI_STATUS_DRIVE (setBit (s.rd F.GDI_STATUS_DRIVE) n (st != hizSt))
  if n % 2 == 0 then s.wrb (F.GDI_HB_STATUS_HIGH_ON (n / 2)) (st == onSt)
  else s.wrb (F.GDI_HB_STATUS_LOW_ON (n / 2)) (st == onSt)

/-- A channel is in bias lock-out (R226). -/
def State.chLocked (s : State) (n : Nat) : Bool := (s.ch n).lockVdd || (s.ch n).lockVee

/-- The four segment words of an edge as END · 2^30 + LEVEL · 2^20 + CURRENT · 2^8 + TIME (R230). -/
def State.segWords (s : State) (n : Nat) (on : Bool) : List Nat :=
  (List.range 4).map fun i =>
    if on then s.rd (F.GDI_CH_SEG_ON_END n i) * 2 ^ 30 + s.rd (F.GDI_CH_SEG_ON_LEVEL n i) * 2 ^ 20 +
      s.rd (F.GDI_CH_SEG_ON_CURRENT n i) * 2 ^ 8 + s.rd (F.GDI_CH_SEG_ON_TIME n i)
    else s.rd (F.GDI_CH_SEG_OFF_END n i) * 2 ^ 30 + s.rd (F.GDI_CH_SEG_OFF_LEVEL n i) * 2 ^ 20 +
      s.rd (F.GDI_CH_SEG_OFF_CURRENT n i) * 2 ^ 8 + s.rd (F.GDI_CH_SEG_OFF_TIME n i)

/-- END of segment i of a running edge: the first hold segment is the last; segment 3 holds whatever its END (R230). -/
def segHolds (segs : List Nat) (i : Nat) : Bool := 3 ≤ i || 2 ≤ segs.getD i 0 / 2 ^ 30

/-- Start an edge of channel n with the settings in force (R230). An edge that runs through no timed segment is complete at once and
none of its segments ended by level (R231). -/
def State.startEdge (s : State) (n : Nat) (on : Bool) : State :=
  let c := s.ch n
  let segd := s.rdb (F.GDI_CH_SHAPE_SEGMENTED n)
  let c := { c with
    edge := if on then .on else .off
    seg := 0
    byLevel := 0
    segmented := segd
    segs := if segd then s.segWords n on else [s.rd (if on then F.GDI_CH_SRC_CODE n else F.GDI_CH_SNK_CODE n)] }
  let s := if segd && !segHolds c.segs 0 then s else s.wr (if on then F.GDI_CH_SEG_END_ON n else F.GDI_CH_SEG_END_OFF n) 0
  (s.setCh n c).setChState n (if on then onSt else offSt)

/-- The programmed off edge of a channel that is on (R230, R234); a channel protection holds is left to it (R238). -/
def State.offEdge (s : State) (n : Nat) : State :=
  if s.chState n == onSt && !(s.ch n).protHold then s.startEdge n false else s

/-- Is the half-bridge held off (R234)? -/
def State.hbHeld (s : State) (h : Nat) : Bool := (s.hb h).holders != []

/-- Cancel a device's wait for its dead time; its on interval is then omitted and counted (R233). -/
def State.cancelWait (s : State) (h : Nat) : State :=
  match (s.hb h).waiting with
  | none => s
  | some _ => (s.setHb h { s.hb h with waiting := none }).inc (F.GDI_HB_OMIT h)

/-- Both channels off at once by the normal off path (R234). -/
def State.hbOff (s : State) (h : Nat) : State :=
  let s := s.setHb h { s.hb h with waiting := none }
  (s.offEdge (2 * h)).offEdge (2 * h + 1)

/-- Which devices a command asks for under MODE (R232): high, low. -/
def wantDevices (mode : Nat) (cmd : Bool) : Bool × Bool :=
  match mode with
  | 0 => (cmd, !cmd)
  | 1 => (cmd, false)
  | 2 => (false, !cmd)
  | _ => (false, false)

/-- May the half-bridge's channels issue an on edge: enable held, 2 µs passed, not held off, neither channel locked out (R227,
R236)? -/
def State.mayDrive (s : State) (h : Nat) : Bool :=
  s.en && s.gd.onPermitted && !s.hbHeld h && !s.chLocked (2 * h) && !s.chLocked (2 * h + 1)

/-- May channel n turn on as far as it alone goes: enable held over its link for 2 µs, not held by protection (R236 to R238)? -/
def State.chMay (s : State) (n : Nat) : Bool := !(s.ch n).protHold && !(s.ch n).fresh && s.rdb (F.GDI_CH_STATUS_ENABLE n)

/-- Follow the generator's command: turn-offs at once, a turn-on after its dead time (R232). -/
def State.follow (s : State) (h : Nat) : State :=
  let (hi, lo) := wantDevices (s.rd (F.GDI_HB_CFG_MODE h)) (s.rdb (F.PWM_HB_STATUS_OUT h))
  let ok := s.mayDrive h
  let hi := hi && ok && s.chMay (2 * h)
  let lo := lo && ok && s.chMay (2 * h + 1)
  let s := if hi then s else s.offEdge (2 * h)
  let s := if lo then s else s.offEdge (2 * h + 1)
  let s := match (s.hb h).waiting with
    | some .high => if hi then s else s.cancelWait h
    | some .low => if lo then s else s.cancelWait h
    | none => s
  if hi && s.chState (2 * h) != onSt then s.setHb h { s.hb h with waiting := some .high }
  else if lo && s.chState (2 * h + 1) != onSt then s.setHb h { s.hb h with waiting := some .low }
  else s

/-- Show in GDI_HB[h]_STATUS whether the half-bridge is held off. -/
def State.showHeld (s : State) (h : Nat) : State := s.wrb (F.GDI_HB_STATUS_HELD_OFF h) (s.hbHeld h)

/-- A holder takes the half-bridge by the normal off path (R234). -/
def State.hold (s : State) (h : Nat) (who : Holder) : State :=
  let x := s.hb h
  let s := s.setHb h { x with holders := if x.holders.contains who then x.holders else who :: x.holders }
  (s.hbOff h).showHeld h

/-- A holder lets the half-bridge go; it follows its command again when no holder is left (R234). -/
def State.release (s : State) (h : Nat) (who : Holder) : State :=
  let x := s.hb h
  let s := (s.setHb h { x with holders := x.holders.filter (· != who) }).showHeld h
  s.follow h

/-- The role drives the isolated gate channels: a stack unit alone (R16). -/
def State.ownsGates (s : State) : Bool := s.kind == .stack

/-- The role drives the auxiliary gate channels: a stack's pumps and fans, an outlet's cable coolant pump and fan (R16). -/
def State.ownsAux (s : State) : Bool := s.kind == .stack || s.kind == .outlet

/-- Auxiliary half-bridge a. -/
def State.aux (s : State) (a : Nat) : AuxSt := SMap.get (fun _ => {}) s.gd.aux a
def State.setAux (s : State) (a : Nat) (x : AuxSt) : State := { s with gd.aux := SMap.set (fun _ => {}) a x s.gd.aux }

/-- Both channels of an auxiliary half-bridge hold their sinks on (R236, R240). -/
def State.auxSink (s : State) (a : Nat) : State :=
  (s.setAux a { s.aux a with highTicks := 0, lowTicks := 0, pulseTicks := 0 }).wrb (F.GDA_HB_STATUS_OUT a) false

/-- The claim enable rises: of the channels that the role drives, every isolated one whose link is refreshed and every auxiliary one
enters DRIVE_OFF; no on edge until 2 µs have passed (R16, R236, R237, R405). -/
def State.enableRise (s : State) : State :=
  let s : State := { s with gd.onPermitted := false }
  let s := if s.ownsAux then s.wr F.GDA_STATUS_DRIVE 0xFFF else s
  (List.range 24).foldl (fun (s : State) n =>
    if !s.rdb (F.GDI_CH_STATUS_LINK n) || !s.ownsGates then s else
    let s := s.wrb (F.GDI_CH_STATUS_ENABLE n) true
    if s.chState n == hizSt then s.setChState n offSt else s) s

/-- A pulse output is released: a pulse being emitted ends, its gap follows (R327). -/
def State.releasePulse (s : State) (k : Nat) : State :=
  let p := SMap.get (fun _ => ({} : PoSt)) s.met.po k
  let s : State := { s with met.po := SMap.set (fun _ => {}) k { p with active := false, gap := p.gap || p.active } s.met.po }
  s.wrb (F.MET_PO_STATUS_OUT k) false

/-- Pulse outputs are released: all of them, or those of a standby unit whose ALWAYS is clear (R327, R405). -/
def State.releasePulses (s : State) (all : Bool) : State :=
  (List.range 4).foldl (fun (s : State) k => if all || !s.rdb (F.MET_PO_CFG_ALWAYS k) then s.releasePulse k else s) s

/-- The claim enable falls: channels that are on start their off edge; all hold DRIVE_OFF until 1 µs has passed (R236, R405). -/
def State.enableFall (s : State) : State :=
  let s : State := { s with gd.onPermitted := false }
  let s := (List.range 24).foldl (fun s n => (s.wrb (F.GDI_CH_STATUS_ENABLE n) false).offEdge n) s
  let s := (List.range 12).foldl (fun s h => s.setHb h { s.hb h with waiting := none }) s
  (List.range 6).foldl (fun s a => s.auxSink a) s

/-- 1 µs after the enable fell: every channel without its enable enters HIGHZ, but one that protection holds (R236 to R238). -/
def State.enterHighz (s : State) : State :=
  let s := (List.range 24).foldl (fun s n =>
    if s.rdb (F.GDI_CH_STATUS_ENABLE n) || (s.ch n).protHold then s else s.setChState n hizSt) s
  if s.en then s else s.wr F.GDA_STATUS_DRIVE 0

/-- The duty that applies: the lower of DUTY, or of what the coolant loop writes in its place, and the cap (R241, R243). -/
def State.auxDuty (s : State) (a : Nat) : Nat :=
  let d := if s.rdb (F.GDA_HB_CFG_BIND a) then (s.aux a).bound else s.rd (F.GDA_HB_DUTY_DUTY a)
  if s.rdb (F.GDA_HB_STATUS_CAPPED a) then min d 9800 else d

end Sys2Proof.Machine
end

