-- ==== Sys2Proof/Machine/Claims.lean ====
section
/-!
DEFINITION. Machine/Claims.lean: claims, the claim enable and PAIR_LOCK (R403 to R406, R423, R424), and the vote frames.
-/
namespace Sys2Proof.Machine
open Sys2Proof

/-- Claim a is higher than claim b (R403). -/
def higher (a b : Nat) : Bool := a != 0 && (b == 0 || (1 ≤ (a + 256 - b) % 256 && (a + 256 - b) % 256 ≤ 127))

/-- next(c) (R403). -/
def nextClaim (c : Nat) : Nat := if c == 0 || c == 255 then 1 else c + 1

def State.own (s : State) : Nat := s.rd F.PAIR_STATUS_OWN_CLAIM
def State.partner (s : State) : Nat := s.rd F.PAIR_STATUS_PARTNER_CLAIM
def State.grant (s : State) : Bool := s.rdb F.PAIR_STATUS_GRANT

/-- The start is complete (R476, R510): POR clears. -/
def State.startDone (s : State) : State := (s.wr F.SYS_START_PHASE 15).wrb F.CLK_AON_STATUS_POR false

/-- Step 8 of a start ends with the unit's first state of a formed or single unit: SYS_START_TIME, and step 9 for an active one
(R510, R521). -/
def State.stepEight (s : State) (n : Nat) : State :=
  let p := s.rd F.SYS_START_PHASE
  if !(6 ≤ p && p ≤ 8) || n == psNone || n == psForming then s else
  let s := s.wrsat F.SYS_START_TIME ((s.rd64 F.CLK_AON_RTC_LO - s.sys.startRtc) * 125 / 4096)
  if n == psActive then s.wr F.SYS_START_PHASE 9 else s.startDone

/-- The pair state changes (R407). -/
def State.setPairState (s : State) (n : Nat) : State := (s.wr F.PAIR_STATUS_STATE n).stepEight n

/-- PAIR_LOCK_O: the enable, or a claim-gated output that is not yet released (R404). -/
def State.showLock (s : State) : State := s.wrb F.PAIR_STATUS_PL_OUT (s.en || s.pair.unreleased)

/-- The claim enable takes a value; the outputs follow a change of it (R404, R405, R236), the insulation injector among them (R304). -/
def State.setEn (s : State) (e : Bool) : State :=
  if e == s.en then s.showLock
  else if e then
    let s := (s.wrb F.PAIR_STATUS_EN true).wrsat F.PAIR_LAST_LATENCY ((s.now - s.pair.lastFrame) / 10)
    (({ s with pair.unreleased := true }).wrb F.SHT_STATUS_SHADOW false).enableRise.showLock
  else ((((s.wrb F.PAIR_STATUS_EN false).wrb F.SHT_STATUS_SHADOW true).wrb F.VLK_IMD_STATUS_INJECTING false).enableFall.releasePulses false).showLock

/-- The enable as R404 computes it; a benched unit's stays low (R501), and so do the outputs of a unit whose partner's role section
differs (R23). -/
def State.enWanted (s : State) : Bool :=
  s.own != 0 && higher s.own s.partner && !s.pair.withdrawing && (!s.pair.lockIn || s.grant) && s.bar.benched == 0 && !s.pair.mismatch

/-- The run-ahead is dropped, and the drop counted (R130, R164). -/
def State.discardAhead (s : State) : State :=
  if s.mrk.ahead == [] then s else ({ s with mrk.ahead := [] } : State).inc F.MRK_DISCARDS

/-- A site unit that is no longer active is neither cycle master nor plans (R102, R115, R116); its run-ahead is dropped (R130). -/
def State.endMaster (s : State) : State :=
  if s.kind != .site then s else
  let s : State := { s.discardAhead with mrk.solving := none }
  ((s.wrb F.TRG_STATUS_MASTER s.trg.provisional).wrb F.MRK_STATUS_ACTIVE false).wrb F.MRK_STATUS_FOLLOW true

/-- One evaluation of the claim logic (R404). -/
def State.claimEval (s : State) : State :=
  let was := s.en
  let s := s.setEn s.enWanted
  let s := if was && s.pair.lockIn && !s.grant then
      ((((s.setEn false).wr F.PAIR_STATUS_OWN_CLAIM 0).setPairState psCold).wr F.PAIR_LAST_CAUSE 5).endMaster
    else s
  if s.grant && s.rdb F.PAIR_STATUS_LINK && s.partner == 0 && !s.pair.lockIn then s.wrb F.PAIR_STATUS_GRANT false else s

/-- Raise the unit's claim from 0 (R406, R514): the new claim, GRANT, and the cause of PAIR_LAST where it has one. -/
def State.raiseClaim (s : State) (c : Nat) (grant : Bool) (cause : Option Nat) : State :=
  let s := (s.wr F.PAIR_STATUS_OWN_CLAIM c).wrb F.PAIR_STATUS_GRANT grant
  let s := (s.inc F.PAIR_SWITCHOVERS).barAdd 4 1
  let s := s.wr64 F.PAIR_LAST_TIME_LO s.now
  let s := match cause with
    | some k => s.wr F.PAIR_LAST_CAUSE k
    | none => s
  let s := { s with pair.voting := none }
  let s := (s.setPairState psActive).claimEval
  s.event (evCode 3 2 2) (s.rd F.PAIR_LAST_CAUSE)

/-- The unit's claim becomes 0 (R406) and its pair state the one given. -/
def State.dropClaim (s : State) (st : Nat) : State :=
  ((((s.wr F.PAIR_STATUS_OWN_CLAIM 0).wrb F.PAIR_STATUS_GRANT false).setPairState st).claimEval).endMaster

/-- The partner could take the outputs: its last frame showed STANDBY_HOT with HEALTHY (R423). -/
def State.partnerReady (s : State) : Bool := s.rdb F.PAIR_STATUS_LINK && s.pair.pState == psHot && s.pair.pHealthy

/-- A hand-over begins: the next frames carry HANDOVER with the claim (R423). `purpose`: 0 PAIR_CMD, 1 ARM, 2 a bias lock-out, 3 a
reset the unit controls. -/
def State.startYield (s : State) (purpose : Nat) : State := { s with pair.handover := some purpose }

/-- Claim-gated outputs that are not yet released (R404). -/
def State.showReleased (s : State) : State :=
  ({ s with pair.unreleased := s.en || (List.range 24).any fun n => s.chState n != hizSt }).showLock

/-- The bytes of a vote frame from SRC to TAG (R417). -/
def State.voteBytes (s : State) (v : Vote) : List Nat :=
  let b := [v.src, v.kind, v.instance_, v.target] ++ leBytes 2 v.seq ++ [v.claim, v.reason, 0, 0]
  b ++ (s.ringSeal 4 s.cycle v.seq b []).2

/-- A vote frame is originated (R417), drawing SEQ from the Squall count; it goes at once unless one has gone into the present train. -/
def State.sendVote (s : State) (v : Vote) : State :=
  let v := { v with seq := s.trg.squallSeq }
  { s with pair.voteOut := s.pair.voteOut ++ [v], pair.voteSent := if s.pair.voteOut == [] then s.voteBytes v else s.pair.voteSent
           trg.squallSeq := (s.trg.squallSeq + 1) % 65536 }

/-- A request to the witness, hot or cold, with the partner's last non-zero claim (R416, R417, R420); none where no witness is
placed (R26). -/
def State.requestVote (s : State) (cold : Bool) (n : Nat) : State :=
  let w := s.rd F.PAIR_IDENT_WITNESS
  if w == 0 || s.bar.benched != 0 then s else
  let s := { s with pair.voting := some (cold, n) }
  s.sendVote { kind := if cold then 2 else 1, src := s.addr, instance_ := s.pat.instance_, target := w, claim := s.pair.partnerLast }

/-- The place of a bulk item in the sending order of R412. -/
def itemRank (item : Nat) : Nat := [9, 9, 0, 1, 4, 2, 3, 5, 7, 6].getD item 9

/-- Put an item among those to send: before the first later one that is not under way; ITEM 0x02 before everything (R412). -/
def insertItem (item : Nat) (body : List Nat) : List (Nat × List Nat × Nat) → List (Nat × List Nat × Nat)
  | [] => [(item, body, 0)]
  | x :: xs =>
    if item == 2 || (x.2.2 == 0 && itemRank item < itemRank x.1) then (item, body, 0) :: x :: xs else x :: insertItem item body xs

/-- Send an item to the partner (R412). -/
def State.sendItem (s : State) (item : Nat) (body : List Nat) : State :=
  { s with pair.bulkOut := insertItem item body s.pair.bulkOut }

end Sys2Proof.Machine
end

