-- ==== Sys2Proof/Machine/Unit.lean ====
section
/-!
DEFINITION. Machine/Unit.lean: the unit as a whole: main-die reset (R507, R508), the announced leave (R106), withdrawal and benching
(R499 to R501).
-/
namespace Sys2Proof.Machine
open Sys2Proof

/-- Register cells whose value lies outside the main die's volatile registers: kept in MRAM or retention SRAM, in the always-on
domain, in the ring ports, or reported by the channels' secondaries (R226, R429, R470, R480, R486, R488, R505, R508, R521). -/
def keptCell (key : Nat) : Bool :=
  let a := key / 32
  a == 0x10 || a == 0x26018 || a == 0x2A020 || a == 0x2A024 || a == 0x2C010 || a == 0x2C014 || a == 0x1E030 ||
  a == 0x1C014 || (0x1C01C ≤ a && a < 0x1C028) || (0x3008 ≤ a && a < 0x3028 && a != 0x300C) || a == 0x3048 ||
  key == F.TRG_STATUS_ADDR.key || key == F.VLK_STATUS_LOCKOUT.key || key == F.TRG_STATUS_SOURCE.key ||
  key == F.TRG_STATUS_WRAP_1.key || key == F.TRG_STATUS_WRAP_2.key ||
  (0x28018 ≤ a && a < 0x28028) || (0x2D004 ≤ a && a < 0x2D040) || (0x200000 ≤ a && a < 0x200018) ||
  (a == 0x24004 && key != F.KEY_STATUS_JOIN_FAIL.key && key != F.KEY_STATUS_MODE.key) ||
  (0x24010 ≤ a && a < 0x24028 && a != 0x24020) || a == 0x2402C || a == 0x24038 || (0x24300 ≤ a && a < 0x24500) ||
  (0x1A600 ≤ a && a < 0x1A700 && a % 0x20 == 0x18)

/-- What a main-die reset leaves of the pattern: MRAM (R42, R46, R48, R508). -/
def Pat.afterReset (p : Pat) : Pat :=
  { p with content := {}, imageDigest := [], runSvn := 0, expired := false, scrubAt := 0, scrubLen := 0, instance_ := 0,
           partnerDigest := [] }

/-- What it leaves of the gate drive: the secondaries' bias lock-outs; the channels go to HIGHZ (R226, R237, R508). -/
def Gd.afterReset (g : Gd) : Gd :=
  { ch := (g.ch.map fun e => (e.1, ({ lockVdd := e.2.lockVdd, lockVee := e.2.lockVee } : Ch))).filter fun e => e.2 != {} }

/-- What it leaves of the queues: Q1, and the fault ring with Q0's entries written to it before (R468, R508). -/
def Que.afterReset (q : Que) : Que := { ring := q.ring, items := q.items.filter (·.1 == 1) }

/-- What it leaves of the ring ports, which keep forwarding and keep ring time (R480, R508). -/
def Trg.afterReset (t : Trg) (leave : Bool) : Trg :=
  { broken := t.broken, unwrapSeen := t.unwrapSeen, lastMaster := t.lastMaster, hopA := t.hopA, hopB := t.hopB, corrA := t.corrA,
    corrB := t.corrB, fwdA := t.fwdA, fwdB := t.fwdB, heardA := t.heardA, heardB := t.heardB, squall := if leave then t.squall else none,
    squallHere := t.squallHere, squallSeq := t.squallSeq, squallAt := t.squallAt, trainAt := t.trainAt, leaveLeft := if leave then t.leaveLeft else 0,
    key := if leave && t.leaveLeft != 0 then t.key else none, epoch := if leave && t.leaveLeft != 0 then t.epoch else 0,
    safeSent := if leave then t.safeSent else none }

/-- What it leaves of the Barograph: counters in retention SRAM, the rest in MRAM (R490, R495, R508). -/
def Bar.afterReset (b : Bar) : Bar := { b with deferred := [] }

/-- What it leaves of the start-up state: pins, supply, the life-cycle states whose first start was made; the source of the start. -/
def Sys.afterReset (x : Sys) (src : Nat) : Sys :=
  { startPending := some src, firstDone := x.firstDone, vinPresent := x.vinPresent, strapPins := x.strapPins }

/-- What it leaves of the clocks: the always-on domain. -/
def Clk.afterReset (c : Clk) : Clk := { aonLost := c.aonLost, band := c.band }

/-- What it leaves of the keys: what MRAM holds, and the partition's legal keys (R374, R382, R390). -/
def Key.afterReset (k : Key) : Key := { k with enrolPlaced := false, pairHeld := [], partnerGen := 0, debugPort := false }

/-- What it leaves of the safety functions: what MRAM holds (R441, R444, R448). -/
def Saf.afterReset (x : Saf) : Saf := { record := x.record, resetCount := x.resetCount, pw := x.pw, log := x.log }

/-- A main-die reset with its source (R507, R508); `leave` says the announced leave of R106 goes on in the ring ports. -/
def State.mainReset (s : State) (src : Nat) (leave : Bool) : State :=
  let s := s.que.q0.foldl State.ringWrite s
  let q1 := s.q 1
  let t : State := { State.reset with
    pending := s.pending
    drawn := s.drawn
    live := s.live.filter fun e => keptCell e.1
    que := s.que.afterReset
    bar := s.bar.afterReset
    sys := s.sys.afterReset src
    pat := s.pat.afterReset
    gd := s.gd.afterReset
    prt := { records := s.prt.records }
    pair := { lockIn := s.pair.lockIn }
    trg := s.trg.afterReset leave
    mrk := { replicas := s.mrk.replicas }
    clk := s.clk.afterReset
    met := { s.met with po := [] }
    bil := s.bil
    key := s.key.afterReset
    saf := s.saf.afterReset
    vlk := { auxPos := s.vlk.auxPos, auxNeg := s.vlk.auxNeg } }
  if q1 == [] then t else t.queLevel 1 q1.length

/-- The announced leave of R106 begins: LEAVE in the slot of 3 cycles, then the unit stops writing. -/
def State.announceLeave (s : State) : State :=
  if s.trg.join == .joined then { s with trg.leaveLeft := 3 } else s

/-- A wake source arises (R483): the first one in Lull starts the wake, one during entry takes effect once entry is complete. -/
def State.wakeBy (s : State) (cause : Nat) : State :=
  match s.rd F.CLK_LULL_STATUS_STATE with
  | 2 => ((s.wr F.CLK_LULL_STATUS_STATE 3).wr F.CLK_LULL_STATUS_WAKE_CAUSE cause).wr64 F.CLK_WAKE_TIME_LO s.now
  | 1 => if s.clk.wakeWait.isNone then { s with clk.wakeWait := some cause } else s
  | _ => s

/-! ### Benching and withdrawal -/

/-- BAR_WD_HIST shows the ledger times of the last three counting withdrawals (R501, R505). -/
def State.showHist (s : State) : State :=
  (List.range 3).foldl (fun s i => s.wr64 (F.BAR_WD_HIST_LO i) (s.bar.wdHist.getD i 0)) s

/-- The unit is benched with a cause (R499, R501): its claim enable is held low and the state is kept in MRAM. -/
def State.bench (s : State) (cause : Nat) : State :=
  if s.bar.benched != 0 then s else
  let s := { s with bar.benched := cause }
  let s := ((s.wrb F.BAR_STATUS_BENCHED true).wr F.BAR_STATUS_BENCH_CAUSE cause).barAdd 0x23 1
  let s := (s.barBlocks 3).claimEval
  s.event (evCode 0xD 0 2) 0

/-- Is this counting withdrawal the third within 24 h of ledger time (R501)? -/
def State.thirdWithdrawal (s : State) : Bool :=
  2 ≤ ((s.bar.wdHist.take 2).filter fun t => s.ledger < t + 691200000).length

/-- Counting withdrawals in the last 24 h (BAR_STATUS.WD_24H). -/
def State.wd24 (s : State) : Nat := (s.bar.wdHist.filter fun t => s.ledger < t + 691200000).length

/-- The claim logic withdraws (R424): the enable falls, the claim becomes 0, the one frame with WITHDRAWING follows. -/
def State.claimWithdraw (s : State) : State :=
  let s := { s with pair.withdrawing := true }
  let s := s.dropClaim psWithdrawing
  { s with pair.seq := (s.pair.seq + 1) % 2 ^ 64 }

/-- Steps 1 to 3 of a withdrawal (R499) with benching (R501): a second fault during one is only recorded in the fault ring (R504).
`save` is false where the early warning's save replaces step 2. -/
def State.withdrawSteps (s : State) (cause reason : Nat) (save : Bool) : State :=
  let s := { s with bar.withdrawing := some cause }
  let s := s.claimWithdraw
  let s := (s.wr F.BAR_STATUS_LAST_CAUSE cause).barAdd (0x19 + cause) 1
  let counts := 1 ≤ cause && cause ≤ 6
  let third := counts && s.thirdWithdrawal
  let s := if counts then ({ s with bar.wdHist := (s.ledger :: s.bar.wdHist).take 3 }).showHist else s
  let s := s.wr F.BAR_STATUS_WD_24H (min 3 s.wd24)
  let s := if save then s.barSave.barBlocks reason else s
  let s := s.event (evCode 0xD 0 1) cause
  if third then s.bench 1 else s

/-- A withdrawal with its reset (R499, R507). -/
def State.withdraw (s : State) (cause : Nat) : State :=
  match s.bar.withdrawing with
  | some _ => s.ringWrite { time := s.now, code := evCode 0xD 0 1, src := s.addr, arg := cause }
  | none => ((s.withdrawSteps cause 2 true).announceLeave).mainReset (if cause == 9 then 7 else 4) true

end Sys2Proof.Machine
end

