-- ==== Sys2Proof/Machine/Keys.lean ====
section
/-!
DEFINITION. Machine/Keys.lean: the key store and the key jobs (chapter 14).
-/
namespace Sys2Proof.Machine
open Sys2Proof

/-! ### Derivation (R377 to R380) -/

/-- `n` bytes of a number, big-endian. -/
def beBytes (n v : Nat) : List Nat := (leBytes n v).reverse

/-- The number that bytes spell, big-endian. -/
def ofBe (bs : List Nat) : Nat := ofLe bs.reverse

/-- KDF(parent, label, context, length) of R377; `ctx` without the generation, `len` in bits. -/
def kdf (parent label ctx : List Nat) (gen len : Nat) : List Nat :=
  ((List.range ((len + 383) / 384)).flatMap fun i =>
    Config.hmac384 parent (beBytes 4 (i + 1) ++ label ++ [0] ++ ctx ++ beBytes 2 gen ++ beBytes 4 len)).take (len / 8)

/-- The order of the P-384 group. -/
def p384Order : Nat :=
  39402006196394479212279040100143613805079739270465446667946905279627659399113263569398956308152294913554433653942643

/-- A P-384 private key from 448 bits of KDF output (R379). -/
def p384Private (k : List Nat) : List Nat := beBytes 48 (ofBe k % (p384Order - 1) + 1)

/-- The labels of R378, in ASCII. -/
def lDevb : List Nat := [0x44, 0x45, 0x56, 0x42]
def lIdnt : List Nat := [0x49, 0x44, 0x4E, 0x54]
def lAtst : List Nat := [0x41, 0x54, 0x53, 0x54]
def lBlob : List Nat := [0x42, 0x4C, 0x4F, 0x42]
def lLegl : List Nat := [0x4C, 0x45, 0x47, 0x4C]
def lSecc : List Nat := [0x53, 0x45, 0x43, 0x43]
def lJoin : List Nat := [0x4A, 0x4F, 0x49, 0x4E]
def lPair : List Nat := [0x50, 0x41, 0x49, 0x52]
def lMntc : List Nat := [0x4D, 0x4E, 0x54, 0x43]
def lLsig : List Nat := [0x4C, 0x53, 0x49, 0x47]
def lImpt : List Nat := [0x49, 0x4D, 0x50, 0x54]

def deviceBytes (d : Nat) : List Nat := beBytes 8 d

def State.cell (cells : SMap KeyCell) (i : Nat) : KeyCell := SMap.get (fun _ => {}) cells i
def State.node (s : State) (i : Nat) : CommitWord := SMap.get (fun _ => {}) s.key.nodes i

/-- The half that the commit word names. -/
def KeyCell.now (c : KeyCell) : KeyHalf := if c.cw.half then c.b else c.a

def State.deviceBranch (s : State) : List Nat := kdf (s.key.root.getD []) lDevb (deviceBytes Config.deviceId) 0 384

/-- Attestation secret (R378). -/
def State.attestSecret (s : State) : List Nat :=
  kdf s.deviceBranch lAtst (beBytes 4 s.pat.boundOwner ++ beBytes 8 s.pat.boundSite) 0 384

/-- The BLOB node in its present generation (R378, R380). -/
def State.blobNode (s : State) : List Nat := kdf s.deviceBranch lBlob (beBytes 4 s.pat.boundOwner) (s.node 0).gen 256

/-- What a blob unwraps to, while it is loadable (R382). -/
def State.unblob (s : State) (c : KeyCell) : Option (List Nat) :=
  if c.cw.valid && c.now.gen == (s.node 0).gen then Config.unwrap s.blobNode c.now.bytes else none

/-- The blob of a use and argument that can be loaded, if one is held. -/
def State.blob (s : State) (use arg : Nat) : Option (List Nat) :=
  ((List.range 64).map (State.cell s.key.slots)).findSome? fun c =>
    if c.cw.valid && c.now.use == use && c.now.arg == arg then s.unblob c else none

/-- Blob mode, as the image declares it (R381). -/
def State.blobMode (s : State) : Bool := s.rdb F.KEY_STATUS_MODE

/-- The site seed (R378). -/
def State.seed (s : State) : Option (List Nat) := s.blob 1 0

/-- A site key: from the seed in tree mode, a blob of its use in blob mode (R378, R381). -/
def State.siteKey (s : State) (use arg : Nat) (label ctx : List Nat) (gen len : Nat) : Option (List Nat) :=
  if s.blobMode then s.blob use arg else s.seed.map fun k => kdf k label ctx gen len

/-- The join key of a device at an address (R378, R391). -/
def State.joinKey (s : State) (device addr : Nat) : Option (List Nat) :=
  s.siteKey 2 device lJoin (deviceBytes device ++ [addr]) (s.node 1).gen 256

/-- Generation of the pair key: its own node's and the SITE node's (R380; log 22). -/
def State.pairGen (s : State) : Nat := ((s.node 1).gen + (s.node 2).gen) % 2 ^ 14

/-- The pair key of a generation (R378). -/
def State.pairKeyOf (s : State) (gen : Nat) : Option (List Nat) :=
  let a := min s.addr s.pair.partnerAddr
  let b := max s.addr s.pair.partnerAddr
  s.siteKey 3 0 lPair [a, b] gen 256

/-- The pair key (R378). -/
def State.pairKey (s : State) : Option (List Nat) := s.pairKeyOf s.pairGen

/-- The maintenance credential key (R378). -/
def State.maintKey (s : State) : Option (List Nat) := s.siteKey 4 0 lMntc [s.addr] (s.node 1).gen 384

/-- A SECC key has been imported (R386). -/
def State.seccImported (s : State) : Bool :=
  ((List.range 64).map (State.cell s.key.slots)).any fun c => c.cw.valid && c.now.use == 5

/-- The SECC key: an imported one replaces the derived one, also while its blob cannot be loaded (R382, R386). None without a root
(R383). -/
def State.seccKey (s : State) : Option (List Nat) :=
  if s.seccImported then s.blob 5 0 else s.key.root.map fun _ => p384Private (kdf s.deviceBranch lSecc [] 0 448)

/-- The derived identity key (R378). -/
def State.identityKey (s : State) : List Nat := p384Private (kdf s.deviceBranch lIdnt [] 0 448)

/-! ### What the registers show (R399, R400) -/

/-- KEY_SLOT[i] and KEY_BLOBS. -/
def State.showSlot (s : State) (i : Nat) : State :=
  let c := State.cell s.key.slots i
  let v := c.cw.valid
  let s := ((s.wrb (F.KEY_SLOT_VALID i) v).wrb (F.KEY_SLOT_HALF i) c.cw.half).wrb (F.KEY_SLOT_LOADABLE i) (s.unblob c).isSome
  let s := (s.wr (F.KEY_SLOT_USE i) (if v then c.now.use else 0)).wr (F.KEY_SLOT_KEY_ID i) (if v then c.now.keyId else 0)
  let s := s.wr F.KEY_BLOBS_USED ((List.range 64).filter fun j => (State.cell s.key.slots j).cw.valid).length
  s.wrb F.KEY_STATUS_SEED ((List.range 64).any fun j => (State.cell s.key.slots j).cw.valid && (State.cell s.key.slots j).now.use == 1)

/-- KEY_CLIENT[j]. -/
def State.showClient (s : State) (j : Nat) : State :=
  let c := State.cell s.key.clients j
  let v := c.cw.valid
  let s := (s.wrb (F.KEY_CLIENT_VALID j) v).wrb (F.KEY_CLIENT_OPERATE j) (v && bit c.now.use 1)
  (s.wrb (F.KEY_CLIENT_OBSERVE j) (v && bit c.now.use 0)).wr (F.KEY_CLIENT_DIGEST j) (if v then u16 c.now.bytes 0 else 0)

/-- KEY_TRUST[j]. -/
def State.showTrust (s : State) (j : Nat) : State :=
  let c := State.cell s.key.digests j
  let v := c.cw.valid
  ((s.wrb (F.KEY_TRUST_VALID j) v).wr (F.KEY_TRUST_USE j) (if v then c.now.use else 0)).wr (F.KEY_TRUST_DIGEST j)
    (if v then u16 c.now.bytes 0 else 0)

/-- KEY_GEN. -/
def State.showGens (s : State) : State := (s.wr F.KEY_GEN_BLOB (s.node 0).gen).wr F.KEY_GEN_SITE (s.node 1).gen

/-- The generation of the pair key in force: the highest that both units hold (R393). -/
def State.showPairGen (s : State) : State :=
  s.wr F.KEY_GEN_PAIR_PAIR (min (s.key.pairHeld.headD 0) s.key.partnerGen)

/-- A new pair-key generation is held; the two most recent are (R393). -/
def State.takePairGen (s : State) : State :=
  ({ s with key.pairHeld := if s.key.pairHeld.headD (2 ^ 14) == s.pairGen then s.key.pairHeld
              else (s.pairGen :: s.key.pairHeld).take 2 }).showPairGen

/-- KEY_COUNTER at a start: the highest COUNTER of all commit words (R387). -/
def State.counterOf (s : State) : Nat :=
  let top (m : SMap KeyCell) : Nat := m.foldl (fun c (e : Nat × KeyCell) => max c e.2.cw.counter) 0
  let nodes := s.key.nodes.foldl (fun c (e : Nat × CommitWord) => max c e.2.counter) 0
  max (max (top s.key.slots) (top s.key.clients)) (max (top s.key.digests) nodes)

/-- Every register that shows the key store. -/
def State.showKeys (s : State) : State :=
  let s := (List.range 64).foldl State.showSlot s
  let s := (List.range 16).foldl State.showClient s
  let s := (List.range 32).foldl State.showTrust s
  let s := s.showGens.wr64 F.KEY_COUNTER_LO s.counterOf
  (s.wr64 F.KEY_DEVICE_ID_LO Config.deviceId).wrb F.KEY_STATUS_COMPAT s.key.deviceKey

/-! ### Job results and life cycle -/

/-- The last job of a side is complete (R399, R400). -/
def State.jobDone (s : State) (side result : Nat) : State :=
  ((s.wrb (F.KEY_JOB_STATUS_DONE.bank side) true).wr (F.KEY_JOB_STATUS_RESULT.bank side) result).inc F.KEY_JOBS

def rOk : Nat := 0
def rBadFormat : Nat := 1
def rWrongDevice : Nat := 2
def rReplay : Nat := 3
def rBadTag : Nat := 4
def rNotEnrolled : Nat := 5
def rState : Nat := 6
def rParentGone : Nat := 8
def rMemory : Nat := 9
def rBusy : Nat := 10

/-- Life-cycle states (R374). -/
def lcBlank : Nat := 0
def lcOpen : Nat := 1
def lcBound : Nat := 2
def lcDebug : Nat := 3

/-- The partition's erasure on the life-cycle line (R375); on RELEASE also its seals, journal and totals (R386). -/
def State.eraseLegal (s : State) (release : Bool) : State :=
  let s := { s with key.legalBranch := [], key.legal := [] }
  if !release then s else
  let t := s.met.tot
  (({ s with
    pat.sealed := []
    bil.journal := []
    met.bnd := []
    met.copies := []
    met.saves := []
    met.tot := { t with impAll := 0, expAll := 0, impT := [], expT := [], reversals := 0, creep := 0, lastDemImp := 0,
                        lastDemExp := 0, maxDemImp := 0, maxDemExp := 0, int.imp := 0, int.exp := 0,
                        sess := {} } }).metSave false []).showSealed

/-- Steps 2 to 5 of R375: erase, signal, clear DESTROY_PENDING, the new root. -/
def State.destroyKeys (s : State) (release : Bool) : State :=
  let s := { s with
    key.root := none
    key.slots := []
    key.clients := []
    key.digests := []
    key.nodes := []
    key.identity := []
    key.debugPort := false
    key.enrolPlaced := false }
  let s := (s.wrb F.KEY_STATUS_ENROLLED false).wrb F.KEY_STATUS_SEED false
  let s := (List.range 12).foldl (fun s i => s.wr (F.KEY_ENROL_DATA i) 0) s
  let lc := s.rd F.KEY_STATUS_LC
  let s := if lc == lcBound then s
    else (({ s with pat.boundOwner := 0, pat.boundSite := 0 } : State).wr F.PAT_OWNER_ID 0).wr64 F.PAT_SITE_ID_LO 0
  let s := (s.eraseLegal release).showKeys
  let s := if lc == lcDebug then { s with key.root := some (List.replicate 48 0xA5), key.deviceKey := false }
    else
      let (v, s) := s.draw 21
      ({ s with key.root := some (beBytes 48 v) } : State)
  let s : State := { s with key.identity := s.identityKey }
  (s.wrb F.KEY_STATUS_COMPAT s.key.deviceKey).wrb F.KEY_STATUS_DESTROY_PENDING false

/-- A life-cycle change (R375): jobs queued in Q7 end STATE. -/
def State.changeLife (s : State) (lc : Nat) (release : Bool) : State :=
  let s := (({ s with sys.firstDone := [] } : State).wr F.KEY_STATUS_LC lc).wrb F.KEY_STATUS_DESTROY_PENDING true
  let s := (s.q 7).foldl (fun s (j : QItem) => if j.kind == 1 then s.jobDone (j.body.headD 0) rState else s) s
  (s.setQ 7 []).destroyKeys release

/-- At the first start of OPEN or BOUND the legal branch node passes to the partition, which derives its signing key (R390). -/
def State.passLegal (s : State) : State :=
  let branch := kdf s.deviceBranch lLegl (deviceBytes Config.deviceId) 0 384
  { s with key.legalBranch := branch, key.legal := p384Private (kdf branch lLsig [] 0 448) }

/-- The word at a place of a byte string, byte 0 lowest. -/
def wordAt (bs : List Nat) (i : Nat) : Nat := u32 bs (4 * i)

/-- At the first start of BOUND the compatibility certificate is written at certificate store offset 0 (R395, R396). -/
def State.issueCompat (s : State) : State :=
  if !s.key.deviceKey then s else
  let cert := Config.compatCertificate (Config.publicKey s.key.identity) (if s.met.tot.clock == 2 then 0 else s.met.tot.cal / 8)
  let words := (List.range ((cert.length + 3) / 4)).foldl (fun (m : SMap Nat) i => SMap.set (fun _ => 0) i (wordAt cert i) m)
    s.key.certs
  { s with key.certs := words }

/-! ### Update messages (R385 to R388) -/

/-- The update message in a side's KEY_JOB_BUF, 112 bytes. -/
def State.jobBuf (s : State) (side : Nat) : List Nat :=
  (List.range 28).flatMap fun i => leBytes 4 (s.rd ((F.KEY_JOB_BUF i).bank side))

def msgOp (m : List Nat) : Nat := u8 m 1
def msgClass (m : List Nat) : Nat := u8 m 2
def msgSlot (m : List Nat) : Nat := u8 m 3
def msgDevice (m : List Nat) : Nat := ofLe ((m.drop 4).take 8)
def msgCounter (m : List Nat) : Nat := ofLe ((m.drop 0xC).take 8)
def msgUse (m : List Nat) : Nat := u8 m 0x14
def msgKind (m : List Nat) : Nat := u8 m 0x15

/-- KIND that a USE of IMPORT takes (R378, R382): AES-256, 384-bit secret, P-384 private key. -/
def kindOfUse (use : Nat) : Nat := [0, 2, 1, 1, 2, 3, 1].getD use 0

/-- Is a slot number in the range of its class? -/
def slotOk (cls slot : Nat) : Bool := slot < [64, 16, 32, 3].getD cls 0

/-- Check 1 of R386. -/
def msgFormatOk (m : List Nat) : Bool :=
  u8 m 0 == 0x21 && slotOk (msgClass m) (msgSlot m) && msgCounter m < 2 ^ 48 &&
  match msgOp m with
  | 1 => msgClass m == 0 && 1 ≤ msgUse m && msgUse m ≤ 6 && msgKind m == kindOfUse (msgUse m)
  | 2 => msgClass m ≤ 2
  | 3 => msgClass m == 3
  | 4 => msgClass m == 1 && msgUse m < 4
  | 5 => msgClass m == 2 && msgUse m == 1
  | 6 => true
  | _ => false

/-- The payload of a message, where its tag verifies (R385). -/
def State.msgPayload (s : State) (m : List Nat) : Option (List Nat) :=
  let counter := leBytes 8 (msgCounter m)
  Config.gcmOpen (kdf s.attestSecret lImpt counter 0 256) (counter ++ [0, 0, 0, 0]) (m.take 0x20)
    ((m.drop 0x20).take 64) ((m.drop 0x60).take 16)

/-- The checks of R386 in their order: the result at the first failure, or the payload. -/
def State.msgCheck (s : State) (m : List Nat) : Nat × List Nat :=
  if !msgFormatOk m then (rBadFormat, [])
  else if !s.rdb F.KEY_STATUS_ENROLLED then (rNotEnrolled, [])
  else if msgDevice m != Config.deviceId then (rWrongDevice, [])
  else if msgCounter m ≤ s.rd64 F.KEY_COUNTER_LO then (rReplay, [])
  else match s.msgPayload m with
    | none => (rBadTag, [])
    | some p => (rOk, p)

/-- Write the half that HALF does not name, then, unless the early warning has come, the commit word (R387). -/
def KeyCell.update (c : KeyCell) (h : KeyHalf) (valid commit : Bool) (counter : Nat) : KeyCell :=
  let c := if c.cw.half then { c with a := h } else { c with b := h }
  if commit then { c with cw := { counter := counter, gen := 0, valid := valid, half := !c.cw.half } } else c

/-- Bytes of key material that a KIND carries. -/
def kindBytes (kind : Nat) : Nat := if kind == 1 then 32 else 48

/-- What an operation writes, `commit` false where the early warning stops it before the commit word (R386, R387). -/
def State.msgApply (s : State) (m p : List Nat) (commit : Bool) : State :=
  let i := msgSlot m
  let n := msgCounter m
  let put (c : KeyCell) (h : KeyHalf) (valid : Bool) : KeyCell := c.update h valid commit n
  let cset (c : KeyCell) (cells : SMap KeyCell) : SMap KeyCell := SMap.set (fun _ => {}) i c cells
  match msgOp m, msgClass m with
  | 1, _ =>
    let h : KeyHalf := { use := msgUse m, kind := msgKind m, keyId := u16 m 0x16, arg := ofLe ((m.drop 0x18).take 8),
                         gen := (s.node 0).gen, bytes := Config.wrap s.blobNode (p.take (kindBytes (msgKind m))) }
    ({ s with key.slots := cset (put (State.cell s.key.slots i) h true) s.key.slots }).showSlot i
  | 2, 0 => ({ s with key.slots := cset (put (State.cell s.key.slots i) {} false) s.key.slots }).showSlot i
  | 2, 1 => ({ s with key.clients := cset (put (State.cell s.key.clients i) {} false) s.key.clients }).showClient i
  | 2, _ => ({ s with key.digests := cset (put (State.cell s.key.digests i) {} false) s.key.digests }).showTrust i
  | 3, _ =>
    if !commit then s else
    let w := s.node i
    let s := { s with key.nodes := SMap.set (fun _ => {}) i { counter := n, gen := (w.gen + 1) % 2 ^ 14, valid := true, half := !w.half }
                        s.key.nodes }
    let s := if i == 0 then (List.range 64).foldl State.showSlot s else s.takePairGen
    s.showGens
  | 4, _ =>
    let h : KeyHalf := { use := msgUse m, keyId := u16 m 0x16, bytes := p.take 48 }
    ({ s with key.clients := cset (put (State.cell s.key.clients i) h true) s.key.clients }).showClient i
  | 5, _ =>
    let h : KeyHalf := { use := msgUse m, keyId := u16 m 0x16, bytes := p.take 48 }
    ({ s with key.digests := cset (put (State.cell s.key.digests i) h true) s.key.digests }).showTrust i
  | _, _ => s

/-- A second site seed (R386). -/
def State.secondSeed (s : State) (m : List Nat) : Bool := msgOp m == 1 && msgUse m == 1 && s.rdb F.KEY_STATUS_SEED

/-- RELEASE is refused while a session value is open or a journal record lacks two holders (R386). -/
def State.releaseRefused (s : State) : Bool :=
  s.rd F.KEY_STATUS_LC != lcBound || s.met.tot.sess.isOpen || s.bil.journal.any fun r => r.holders.length < 2

/-- An update message leaves Q7 and is carried out; `memOk` says that the written half reads back (R386, R387). -/
def State.runMessage (s : State) (side : Nat) (m : List Nat) (memOk : Bool) : State :=
  let (r, p) := s.msgCheck m
  if r != rOk then s.jobDone side r
  else if s.secondSeed m then s.jobDone side rState
  else if msgOp m == 6 then
    if s.releaseRefused then s.jobDone side rState else (s.changeLife lcOpen true).jobDone side rOk
  else if !memOk then s.jobDone side rMemory
  else if s.sys.earlyWarning then s.msgApply m p false
  else ((s.msgApply m p true).wr64 F.KEY_COUNTER_LO (msgCounter m)).jobDone side rOk

/-- The job at the head of Q7, if it is an update message of this operation; a message whose OP is none of the table is taken by the
first of the six that runs, and ends BAD_FORMAT. -/
def State.keyOp (s : State) (op : Nat) (memOk : Bool) : State :=
  match s.q 7 with
  | [] => s
  | j :: js =>
    let m := j.body.drop 1
    if j.kind == 1 && (msgOp m == op || msgOp m == 0 || 6 < msgOp m) then (s.setQ 7 js).runMessage (j.body.headD 0) m memOk else s

/-- KEY_OP_IMPORT (R386). -/
def execKeyOpImport (memOk : Bool) (s : State) : Out := .next (s.keyOp 1 memOk)
/-- KEY_OP_DELETE (R386). -/
def execKeyOpDelete (memOk : Bool) (s : State) : Out := .next (s.keyOp 2 memOk)
/-- KEY_OP_REVOKE (R380, R386). -/
def execKeyOpRevoke (memOk : Bool) (s : State) : Out := .next (s.keyOp 3 memOk)
/-- KEY_OP_SET_CLIENT (R386). -/
def execKeyOpSetClient (memOk : Bool) (s : State) : Out := .next (s.keyOp 4 memOk)
/-- KEY_OP_TRUST (R386). -/
def execKeyOpTrust (memOk : Bool) (s : State) : Out := .next (s.keyOp 5 memOk)
/-- KEY_OP_RELEASE (R375, R386). -/
def execKeyOpRelease (memOk : Bool) (s : State) : Out := .next (s.keyOp 6 memOk)

/-! ### KEY_CMD -/

/-- The address of KEY_CMD (R400). -/
def keyCmdAddr : Nat := 0x24008

/-- A KEY_CMD of a side: DONE clears (R400). -/
def State.keyCmd (s : State) (side : Side) (key : BitVec 16) (f : State → State) : State :=
  s.command side keyCmdAddr key.toNat 0x47A3 fun s => f (s.wrb (F.KEY_JOB_STATUS_DONE.bank side) false)

/-- SUBMIT: the side's message is placed in Q7, or ends BUSY (R385, R397). -/
def State.keySubmit (s : State) (side : Nat) : State :=
  if (s.q 7).length < s.depth 7 then s.enqueue 7 { kind := 1, body := side :: s.jobBuf side } else s.jobDone side rBusy

/-- KEY_SUBMIT (R385). -/
def execKeySubmit (side : Side) (key : BitVec 16) (s : State) : Out := .next (s.keyCmd side key fun s => s.keySubmit side)

/-- ENROL: from the host, in BOUND, while ENROLLED is clear (R384). -/
def State.keyEnrol (s : State) (side : Nat) : State :=
  if side != 0 || s.rd F.KEY_STATUS_LC != lcBound || s.rdb F.KEY_STATUS_ENROLLED then s.accessError side eState keyCmdAddr
  else
    let k := s.attestSecret
    ((List.range 12).foldl (fun (s : State) i => s.wr (F.KEY_ENROL_DATA i) (wordAt k i)) { s with key.enrolPlaced := true }).jobDone side rOk

/-- KEY_ENROL (R384). -/
def execKeyEnrol (side : Side) (key : BitVec 16) (s : State) : Out := .next (s.keyCmd side key fun s => s.keyEnrol side)

/-- A read of word 11 of KEY_ENROL_DATA: the word is given, ENROLLED sets and every word reads zero from then on (R384). -/
def State.enrolRead (s : State) (side : Nat) : State :=
  if s.lullBlocks 0x2420C then s.accessError side eLull 0x2420C else
  let s := { s.accepted side with hbi.data := if side == 0 then s.rd (F.KEY_ENROL_DATA 11) else s.hbi.data }
  if s.key.enrolPlaced then
    (List.range 12).foldl (fun (s : State) i => s.wr (F.KEY_ENROL_DATA i) 0)
      (({ s with key.enrolPlaced := false }).wrb F.KEY_STATUS_ENROLLED true)
  else s

/-- ENROL_DATA_READ (R384). -/
def execEnrolDataRead (side : Side) (s : State) : Out := .next (s.enrolRead side)

/-- The quote of R394. -/
def State.quote (s : State) (side : Nat) : List Nat :=
  let dig (priv : List Nat) : List Nat := Config.sha384 (Config.publicKey priv)
  (List.range 8).flatMap (fun i => leBytes 4 (s.rd ((F.KEY_ATT_CHAL i).bank side))) ++ leBytes 8 Config.deviceId ++
    [s.rd F.KEY_STATUS_LC] ++ leBytes 4 (s.rd F.PAT_RUN_SERIAL) ++ leBytes 4 (s.rd F.PAT_RUN_SVN) ++
    leBytes 8 (s.rd64 F.KEY_COUNTER_LO) ++ dig s.key.identity ++ dig s.key.legal ++ dig (s.seccKey.getD [])

/-- ATTEST (R394); a SECC key whose blob cannot be loaded ends it PARENT_GONE (R382). -/
def State.keyAttest (s : State) (side : Nat) : State :=
  if !s.rdb F.KEY_STATUS_ENROLLED then s.jobDone side rNotEnrolled
  else if s.seccImported && s.seccKey.isNone then s.jobDone side rParentGone
  else
    let h := Config.hmac384 s.attestSecret (lAtst ++ s.quote side)
    ((List.range 12).foldl (fun s i => s.wr ((F.KEY_ATT_RESP i).bank side) (wordAt h i)) s).jobDone side rOk

/-- KEY_ATTEST (R394). -/
def execKeyAttest (side : Side) (key : BitVec 16) (s : State) : Out := .next (s.keyCmd side key fun s => s.keyAttest side)

/-- DEBUG: from the host, in OPEN, while DBG_EN_N is low (R376). -/
def State.keyDebug (s : State) (side : Nat) : State :=
  if side != 0 || s.rd F.KEY_STATUS_LC != lcOpen || !s.key.dbgLow then s.accessError side eState keyCmdAddr
  else { (s.changeLife lcDebug false).jobDone side rOk with key.debugPort := true }

/-- KEY_DEBUG (R376). -/
def execKeyDebug (side : Side) (key : BitVec 16) (dbgLow : Bool) (s : State) : Out :=
  .next ({ s with key.dbgLow := dbgLow }.keyCmd side key fun s => s.keyDebug side)

/-! ### Certificate store and public keys (R389, R399) -/

/-- The word that KEY_PUB_DATA[i] reads for a side. -/
def State.pubWord (s : State) (side i : Nat) : Nat :=
  wordAt (match s.rd (F.KEY_PUB_SEL_SEL.bank side) with
    | 0 => Config.publicKey s.key.identity
    | 1 => if s.key.legal == [] then [] else Config.publicKey s.key.legal
    | 2 => (s.seccKey.map Config.publicKey).getD []
    | _ => if s.key.deviceKey then Config.publicKey Config.deviceKey else []) i

/-- An access of KEY_CERT_DATA: the word at KEY_CERT_ADDR is read or written and the address advances by 4 (R389, R399). Outside the
store, where the spec states no word, a read gives a free value and a write stores nothing (log 23). -/
def State.certAccess (s : State) (side : Nat) (write : Bool) (v : Nat) : State :=
  if s.lullBlocks 0x24034 then s.accessError side eLull 0x24034 else
  let f := F.KEY_CERT_ADDR.bank side
  let a := s.rd f
  let s := s.accepted side
  let inside := a % 4 == 0 && a < 65536
  let s : State := if write then
      if inside then { s with key.certs := SMap.set (fun _ => 0) (a / 4) v s.key.certs } else s
    else
      let w : Nat := if inside then SMap.get (fun _ => 0) s.key.certs (a / 4) else (s.draw 22).1 % 2 ^ 32
      let s : State := if inside then s else (s.draw 22).2
      let s := s.wr (F.KEY_CERT_DATA.bank side) w
      if side == 0 then { s with hbi.data := w } else s
  s.wr f (a + 4)

/-- CERT_DATA_ACCESS (R389). -/
def execCertDataAccess (side : Side) (write : Bool) (value : BitVec 32) (s : State) : Out :=
  .next (s.certAccess side write value.toNat)

/-- 60 s after frames under it stopped, a superseded pair key is erased (R393). -/
def State.erasePairKey (s : State) : State := { s with key.pairHeld := s.key.pairHeld.take 1 }

/-- PAIR_KEY_ERASE (R393). -/
def execPairKeyErase (s : State) : Out := .next s.erasePairKey

end Sys2Proof.Machine
end

