-- ==== Sys2Proof/Machine/Metering.lean ====
section
/-!
DEFINITION. Machine/Metering.lean: the meanings of the metrology and billing commands (chapters 12 and 13).
-/
namespace Sys2Proof.Machine
open Sys2Proof

/-! ### Ticks, saves, checks -/

/-- Four samples complete a ledger tick: MET and BIL apply what waits for it, then the partition books (R62, R318). -/
def State.ledgerTick (s : State) (codes : List Int) (rtc : Nat) : State :=
  let s := s.boundary [(12, 0), (13, 0)]
  if s.met.booking then s.bookTick codes rtc else s

/-- LEDGER_TICK (R318). -/
def execLedgerTick (codes : List Int) (rtc : Nat) (s : State) : Out := .next (s.ledgerTick codes rtc)

/-- At the end of every 8,000th tick a periodic save is written (R331). -/
def State.periodicSave (s : State) : State :=
  if s.met.booking && s.met.tot.ledger % 8000 == 0 && s.met.tot.ledger != 0 then s.metSave false [] else s

/-- PERIODIC_SAVE (R331). -/
def execPeriodicSave (s : State) : Out := .next s.periodicSave

/-- CHECK_PAIR_COUNT (R320). -/
def execCheckPairCount (s : State) : Out := .next s.checkPairs

/-- The comparison of the meter with the stacks' currents (R322): meter mean in 1/4,096 A, stacks' I_OUT in 0.1 A. -/
def State.crossDisagrees (s : State) (iOuts : List Int) : Bool :=
  let a := s.met.pub.means.getD 0 0 * 10
  let b := iOuts.foldl (· + ·) 0 * 4096
  1000 * (a - b).natAbs > s.rd F.MET_XCHK_CFG_PCT * max a.natAbs b.natAbs +
    1000 * 40960 * s.rd F.MET_XCHK_CFG_PER_STACK_A * iOuts.length

/-- A message for the mailbox composed by the role software (R341). -/
def State.compose (s : State) (kind : Nat) (body : List Nat) : State := { s with bil.sent := some { kind := kind, body := body } }

/-- A message that ends in a record goes through Q1, which never loses an entry: with Q1 full its producer holds it (R456, R459). -/
def State.toQ1 (s : State) (kind : Nat) (body : List Nat) : State := s.place 1 { kind := kind, body := body }

/-- XCHK sets after 10 disagreeing cycles and clears after 10 agreeing ones (R322). -/
def State.crossCheck (s : State) (iOuts : List Int) (missing : Bool) : State :=
  if missing || !s.rdb F.MET_XCHK_CFG_ENABLE || s.kind != .outlet then s
  else if s.crossDisagrees iOuts then
    let s : State := { s with met.xBad := min 10 (s.met.xBad + 1), met.xGood := 0 }
    if s.met.xBad == 10 && !s.rdb F.MET_STATUS_XCHK then
      (((s.wrb F.MET_STATUS_XCHK true).wrb F.MET_EVENT_XCHK true).event (evCode 6 2 2) 0).compose 7 [1]
    else s
  else
    let s : State := { s with met.xGood := min 10 (s.met.xGood + 1), met.xBad := 0 }
    if s.met.xGood == 10 && s.rdb F.MET_STATUS_XCHK then (s.wrb F.MET_STATUS_XCHK false).compose 7 [0] else s

/-- METER_CROSS_CHECK (R322). -/
def execMeterCrossCheck (iOuts : List Int) (missing : Bool) (s : State) : Out := .next (s.crossCheck iOuts missing)

/-- VIN recovers without a reset: booking resumes, the ticks not booked are a gap with its bound (R333). -/
def State.meterResume (s : State) (ticks : Nat) : State :=
  if s.met.running && !s.met.booking && !s.rdb F.TH_STATUS_SHUTDOWN then
    let t := s.met.tot
    let s : State := { s with
      met.booking := true
      met.tot.ledger := t.ledger + ticks
      met.tot.cal := if t.clock == 2 then t.cal else t.cal + ticks }
    (s.metGap ticks).unsavedEvent (boundWh s.selBytes ticks)
  else s

/-- METER_RESUME (R333). -/
def execMeterResume (ticks : Nat) (s : State) : Out := .next (s.meterResume ticks)

/-- Three resets of the partition within 24 h of ledger time make the meter suspect (R503). -/
def State.countSelReset (s : State) : State :=
  let l := s.met.tot.ledger
  let s := { s.barAdd 0x25 1 with bar.selResets := (l :: s.bar.selResets).take 3 }
  if (s.bar.selResets.filter fun t => l < t + dayU).length == 3 && !s.rdb F.BAR_STATUS_METER_SUSPECT then
    (s.wrb F.BAR_STATUS_METER_SUSPECT true).event (evCode 6 1 1) 0
  else s

/-- The partition resets alone and recovers; the ticks it did not meter form a gap (R336, R503). -/
def State.selReset (s : State) (rtc : Nat) : State :=
  let s := s.setRtc rtc
  let s : State := { s with met.running := false, met.booking := false, met.last := [0, 0, 0, 0, 0, 0, 0, 0],
                            met.disagree := [0, 0], met.agree := [0, 0], met.chkState := [false, false],
                            met.tot.sess.broken := s.met.tot.sess.broken || s.met.tot.sess.isOpen, bil.lastSeq := 0 }
  let s := s.selStart
  let s := { s with met.tot.sess.broken := s.met.tot.sess.broken || s.met.tot.sess.isOpen }
  let s := if s.met.tot.sess.isOpen then { s with met.tot.int.gap := true }
    else (s.metGap s.met.gapTicks).unsavedEvent (boundWh s.selBytes s.met.gapTicks)
  s.countSelReset

/-- SELVEDGE_RESET (R336). -/
def execSelvedgeReset (rtc : Nat) (s : State) : Out := .next (s.selReset rtc)

/-! ### Pulse inputs and outputs (R325 to R327) -/

/-- Add a pulse to an output's PENDING; saturation sets OVERFLOW (R327). -/
def State.poAdd (s : State) (k n : Nat) : State :=
  let p := s.rd (F.MET_PO_PENDING k) + n
  if p ≤ 65535 then s.wr (F.MET_PO_PENDING k) p
  else ((s.wr (F.MET_PO_PENDING k) 65535).wrb (F.MET_PO_STATUS_OVERFLOW k) true).wrb F.MET_EVENT_PO_OVERFLOW true

/-- A held level of a pulse input (R325, R326): accepted and counted, or rejected as a glitch. -/
def State.pulseEdge (s : State) (i : Nat) (level : Bool) (time held : Nat) : State :=
  if s.inLull then s
  else if held < s.rd (F.MET_PI_CFG_DEBOUNCE i) then s.inc (F.MET_PI_GLITCH i)
  else if level == s.rdb (F.MET_PI_STATUS_LEVEL i) then s
  else
    let s := s.wrb (F.MET_PI_STATUS_LEVEL i) level
    if level == s.rdb (F.MET_PI_CFG_EDGE i) then s
    else
      let s := (s.wr64 (F.MET_PI_COUNT_LO i) (s.rd64 (F.MET_PI_COUNT_LO i) + 1)).wr64 (F.MET_PI_EDGE_TIME_LO i) time
      let s := (List.range 4).foldl (fun (s : State) k =>
        if s.rd (F.MET_PO_CFG_QUANTITY k) == 7 && s.rd (F.MET_PO_CFG_SRC k) == i then s.poAdd k 1 else s) s
      if s.kind != .site then s else
      match s.rd (F.MET_PI_CFG_FUNCTION i) with
      | 1 =>
        let kept := s.mrk.gridPulses.filter fun p => time < p.1 + 10000000000
        ({ s with mrk.gridPulses := (time, s.rd (F.MET_PI_WEIGHT i)) :: kept } : State).toQ1 6 (0 :: leBytes 4 (s.rd (F.MET_PI_WEIGHT i)))
      | 2 => s.toQ1 6 [1, 0, 0, 0, 0]
      | _ => s

/-- The quantity of a pulse output as the read window shows it: mJ, or the number of the demand interval (R327). -/
def State.poQuantity (s : State) (k : Nat) : Nat :=
  let t := s.met.tot
  match s.rd (F.MET_PO_CFG_QUANTITY k) with
  | 8 => if s.bil.isSite then t.int.no else 0
  | 1 => t.impAll / 65536
  | 2 => t.expAll / 65536
  | 3 => t.sess.imp / 65536
  | 4 => t.sess.exp / 65536
  | 5 => getKey t.tariff t.impT / 65536
  | 6 => getKey t.tariff t.expT / 65536
  | _ => 0

/-- The condition of a level quantity (R327). -/
def State.poLevel (s : State) (k : Nat) : Option Bool :=
  match s.rd (F.MET_PO_CFG_QUANTITY k) with
  | 9 => some s.met.tot.sess.isOpen
  | 10 => some (bit s.metState 3 || bit s.metState 5 || bit s.metState 6 || bit s.metState 4)
  | 11 => some (!s.met.booking)
  | _ => none

/-- May a pulse output drive: the active unit, or ALWAYS; never in Lull (R327, R405). -/
def State.poDrives (s : State) (k : Nat) : Bool := (s.en || s.rdb (F.MET_PO_CFG_ALWAYS k)) && !s.inLull

/-- Weight of an output in mJ: WEIGHT mWh, or 1,000,000 / METER_CONST mWh (R327); a demand interval end is one pulse each. -/
def State.poWeight (s : State) (k : Nat) : Rat :=
  let w := s.rd (F.MET_PO_WEIGHT k)
  if s.rd (F.MET_PO_CFG_QUANTITY k) == 8 then 1
  else if w == 0 then mkRat 3600000000 (max 1 (selConst s.selBytes)) else 3600 * w

/-- Whole weights by which a quantity has advanced since the last counted one, and the value at the last of them: the first update, and
the first after a change of QUANTITY, only takes the present value; so does one after the quantity started again (R327). -/
def countWeights (last : Option (Nat × Rat)) (q now : Nat) (weight : Rat) : Nat × Rat :=
  match last with
  | some (q', c) =>
    if q' == q && c ≤ now then
      let n := ((now - c) / weight).floor.toNat
      (n, c + n * weight)
    else (0, now)
  | none => (0, now)

/-- The output starts a pending pulse where it is at rest (R327). -/
def State.poEmit (s : State) (k : Nat) : State :=
  let p := SMap.get (fun _ => ({} : PoSt)) s.met.po k
  if s.rd (F.MET_PO_PENDING k) != 0 && !p.active && !p.gap && s.poDrives k then
    ({ s with met.po := SMap.set (fun _ => {}) k { p with active := true } s.met.po }).wrb (F.MET_PO_STATUS_OUT k) true |>.wr
      (F.MET_PO_PENDING k) (s.rd (F.MET_PO_PENDING k) - 1)
  else s

/-- The 1 ms update of a pulse output (R327): whole weights since the last counted one, or the level. -/
def State.poUpdate (s : State) (k : Nat) : State :=
  match s.poLevel k with
  | some b => s.wrb (F.MET_PO_STATUS_OUT k) (b && s.poDrives k)
  | none =>
    let q := s.rd (F.MET_PO_CFG_QUANTITY k)
    if q == 0 || q == 7 || 8 < q then s.poEmit k
    else
      let p := SMap.get (fun _ => ({} : PoSt)) s.met.po k
      let (n, c) := countWeights p.counted q (s.poQuantity k) (s.poWeight k)
      let s : State := { s with met.po := SMap.set (fun _ => {}) k { p with counted := some (q, c) } s.met.po }
      (s.poAdd k n).poEmit k

/-- PULSE_OUTPUT_UPDATE (R327). -/
def execPulseOutputUpdate (k : Fin 4) (s : State) : Out := .next (s.poUpdate k)

/-- A pulse or its gap reaches WIDTH (R327). -/
def State.poWidthEnd (s : State) (k : Nat) : State :=
  let p := SMap.get (fun _ => ({} : PoSt)) s.met.po k
  let set (p : PoSt) : State := { s with met.po := SMap.set (fun _ => {}) k p s.met.po }
  if p.active then (set { p with active := false, gap := true }).wrb (F.MET_PO_STATUS_OUT k) false
  else if p.gap then (set { p with gap := false }).poEmit k
  else s

/-- PULSE_OUTPUT_WIDTH_END (R327). -/
def execPulseOutputWidthEnd (k : Fin 4) (s : State) : Out := .next (s.poWidthEnd k)

/-! ### Partner values, mirrors -/

/-- Session import and export, completeness so far and unbooked ticks as ITEM 0x04 carries them (R330, R412). -/
def State.sessionItem (s : State) (closed : Bool) : List Nat :=
  let x := s.met.tot.sess
  leBytes 8 (x.imp / 65536) ++ leBytes 8 (x.exp / 65536) ++ [if x.complete then 1 else 0] ++ leBytes 4 x.unbooked ++
    [if closed then 1 else 0]

/-- Every 10 ms the session values go to the partner (R330). -/
def State.partnerValues (s : State) : State :=
  if s.kind == .outlet && s.hasPartner then s.sendItem 4 (s.sessionItem (!s.met.tot.sess.isOpen)) else s

/-- PARTNER_VALUES_SEND (R330). -/
def execPartnerValuesSend (s : State) : Out := .next s.partnerValues

/-- 800 ticks after the own close the SESSION record is written with what is known (R329). -/
def State.standsTimeout (s : State) : State :=
  if s.met.tot.sess.closeLedger + 800 ≤ s.met.tot.ledger then s.trySession true else s

/-- STANDS_TIMEOUT (R329). -/
def execStandsTimeout (s : State) : Out := .next s.standsTimeout

/-- MIRROR_REFRESH (R543). -/
def execMirrorRefresh (s : State) : Out := .next (s.mirrorMet.mirrorBil)

/-! ### The mailbox (R341) -/

/-- The partition accepts a message with a good CRC and the next sequence number; another has no effect and is counted. -/
def State.mailbox (s : State) (seq : Nat) (crcOk : Bool) (f : State → State) : State :=
  if !s.met.running then s
  else if crcOk && seq == (s.bil.lastSeq + 1) % 65536 then f { s with bil.lastSeq := seq }
  else s.inc F.BIL_MBX_REFUSED

/-- Put bytes into a buffer at an offset. -/
def putBytes (buf : List Nat) (offset : Nat) (bs : List Nat) : List Nat :=
  padTo offset buf ++ bs ++ buf.drop (offset + bs.length)

/-- An offered chunk of a role instance's section is compared with the sealed copy; nothing is written over it (R45). A section that is
not sealed has nothing to be compared with. -/
def State.offerChunk (s : State) (inst offset : Nat) (bytes : List Nat) : State :=
  match s.pat.sealed.find? (·.1 == inst) with
  | none => s
  | some (_, held) =>
    let before := if offset == 0 then s.bil.offerDiffers.filter (· != inst) else s.bil.offerDiffers
    let same : Bool := (held.drop offset).take bytes.length == bytes
    { s with bil.offerDiffers := if same || before.contains inst then before else inst :: before }

/-- MBX_OFFER (R45, R341). -/
def execMbxOffer (seq : Nat) (crcOk : Bool) (inst offset : Nat) (bytes : List Nat) (s : State) : Out :=
  .next (s.mailbox seq crcOk fun s => s.offerChunk inst offset bytes)

/-- A section goes to the partition in chunks of 48 bytes: message type, leading bytes, offset, chunk (R341). -/
def State.sendChunks (s : State) (kind : Nat) (head bytes : List Nat) : State :=
  let cs := cutBytes 48 bytes.length bytes
  (List.range cs.length).foldl (fun (s : State) i => s.toQ1 kind (head ++ leBytes 4 (48 * i) ++ cs.getD i [])) s

/-- The offer at load: every selected SELVEDGE section (R45). -/
def State.offerSections (s : State) : State :=
  (s.pat.content.selvedge.filter fun d => s.selected.contains d.instance_).foldl
    (fun (s : State) (d : SelvedgeDecl) => s.sendChunks 1 [d.instance_] d.bytes) s

/-- Seal one section: take it, digest it, journal it (R46, R362). -/
def State.sealOne (s : State) (d : SelvedgeDecl) : State :=
  if s.pat.sealed.any (·.1 == d.instance_) then s else
  let s := { s with pat.sealed := s.pat.sealed ++ [(d.instance_, d.bytes)] }
  let t := s.met.tot
  (s.jrnlWrite 5 t.clockFlags t.ledger t.cal
    ([d.instance_, 0, 0, 0, 0, 0, 0, 0] ++ padTo 48 (Config.sha384 d.bytes))).1

/-- MBX_SEAL (R46): every selected section not yet sealed is sealed. -/
def execMbxSeal (seq : Nat) (crcOk : Bool) (s : State) : Out :=
  .next (s.mailbox seq crcOk fun s =>
    ((s.pat.content.selvedge.filter fun d => s.selected.contains d.instance_).foldl State.sealOne s).showSealed)

/-- A TIME_STEP record (R362): calendar values in 125 µs units. -/
def State.stepRecord (s : State) (old new oldStep newStep origin client flags : Nat) : State :=
  (s.jrnlWrite 3 (flags ||| s.met.tot.clockFlags) s.met.tot.ledger new (leBytes 8 (old / 8) ++ leBytes 8 (new / 8) ++ [oldStep, newStep, origin, client] ++
    leBytes 8 (s.met.tot.hwm / 8))).1

/-- The calendar takes a value at a tick boundary with a clock state; a step to below the high-water mark closes the interval (R344,
R353). -/
def State.adoptCal (s : State) (cal : Nat) (proven : Bool) (step : Nat) : State :=
  { s with met.tot.cal := cal, met.tot.clock := if proven then 0 else 1, met.tot.stepCount := step % 256,
           bil.adoptTick := s.met.tot.ledger, bil.mismatch := false, bil.calProven := proven }

/-- A CAL message (R344): adopted, a step, or a mismatch. -/
def State.calMessage (s : State) (tick calMs : Nat) (proven : Bool) (step : Nat) : State :=
  let t := s.met.tot
  let x : Int := (t.cal : Int) + tick - t.ledger
  let c : Int := 8 * calMs
  let now := (c + t.ledger - tick).toNat
  if t.clock != 2 && step % 256 == t.stepCount && (c - x).natAbs ≤ 800 then s.adoptCal now proven step
  else if t.clock == 2 || step % 256 != t.stepCount then
    let lost := t.clock == 2
    let setBack := now < t.hwm
    let s := (s.adoptCal now proven step).wrb F.BIL_EVENT_TIME_STEP true
    let s := s.stepRecord (if lost then 0 else t.cal) now t.stepCount (step % 256) (if lost then 2 else 0) 255
      (if lost then 2 ^ 20 else 0)
    if setBack then s.closeAtTick true else s
  else
    let s := { s with bil.mismatch := true, met.tot.clock := 1 }
    (s.wrb F.BIL_EVENT_MISMATCH true).event (evCode 7 2 2) 0

/-- MBX_CAL (R344). -/
def execMbxCal (seq : Nat) (crcOk : Bool) (tick calMs : Nat) (proven : Bool) (step : Nat) (s : State) : Out :=
  .next (s.mailbox seq crcOk fun s => s.calMessage tick calMs proven step)

/-- MBX_MARK (R328): a mark taken more than 1 ms after its ring time is LATE. -/
def execMbxMark (seq : Nat) (crcOk close : Bool) (sid time source : Nat) (s : State) : Out :=
  .next (s.mailbox seq crcOk fun s =>
    { s with met.marks := s.met.marks ++ [{ close := close, id := sid, source := source, late := time + 1000000 < s.now,
                                            tick := s.met.tot.ledger }] })

/-- MBX_PARTNER (R329, R330). -/
def execMbxPartner (seq : Nat) (crcOk : Bool) (imp exp : Nat) (complete : Bool) (unbooked : Nat) (closed : Bool) (s : State) : Out :=
  .next (s.mailbox seq crcOk fun s =>
    ({ s with met.pImp := imp, met.pExp := exp, met.pComplete := complete, met.pUnbooked := unbooked,
              met.pClosed := s.met.pClosed || closed, met.pSeen := true }).trySession false)

/-- Book a pulse of the grid meter: WEIGHT mWh of import into the interval and its tariff total (R352); 1 mWh is 3,600 mJ. -/
def Tot.bookPulse (t : Tot) (weight : Nat) : Tot :=
  { t with int.imp := t.int.imp + weight * 3600 * 65536, impT := addKey t.tariff (weight * 3600 * 65536) t.impT }

/-- MBX_PULSE (R351, R352): grid import, or a DEMAND_SYNC edge that closes the interval. -/
def execMbxPulse (seq : Nat) (crcOk sync : Bool) (weight : Nat) (s : State) : Out :=
  .next (s.mailbox seq crcOk fun s =>
    if !s.bil.isSite then s
    else if !sync then { s with met.tot := s.met.tot.bookPulse weight }
    else if s.syncMode && s.bil.ignoreUntil ≤ s.met.tot.ledger then s.closeAtTick false
    else s)

/-- MBX_FLAG (R322): the open session is marked XCHK. -/
def execMbxFlag (seq : Nat) (crcOk xchk : Bool) (s : State) : Out :=
  .next (s.mailbox seq crcOk fun s =>
    { s with met.xchk := xchk, met.tot.sess.xchk := s.met.tot.sess.xchk || (xchk && s.met.tot.sess.isOpen) })

/-- MBX_ACK (R364): a holder's acknowledgement of a record. -/
def execMbxAck (seq : Nat) (crcOk : Bool) (holder record : Nat) (s : State) : Out :=
  .next (s.mailbox seq crcOk fun s =>
    { s with bil.journal := s.bil.journal.map fun r =>
        if r.seq == record && !r.holders.contains holder then { r with holders := holder :: r.holders } else r })

/-- MBX_IMD (R302, R304): the injector starts, stops or takes a phase. -/
def execMbxImd (seq : Nat) (crcOk start phase : Bool) (s : State) : Out :=
  .next (s.mailbox seq crcOk fun s => { s with met.injecting := start, met.phase := phase })

/-- MBX_SITE_PARAM (R349): a chunk of the site calendar copy. -/
def execMbxSiteParam (seq : Nat) (crcOk : Bool) (offset : Nat) (bytes : List Nat) (s : State) : Out :=
  .next (s.mailbox seq crcOk fun s => { s with bil.site := putBytes s.bil.site offset bytes })

/-! ### Calendar commands -/

/-- The distributed calendar: ring time plus CAL_OFFSET, ns (R103). -/
def State.calendar (s : State) : Int := (s.now : Int) + signedOf 64 (s.rd64 F.TRG_CAL_OFFSET_LO)

/-- While the cycle header's VALID is set, a CAL message names the running ledger tick (R341). -/
def State.calSend (s : State) : State :=
  if s.rdb F.TRG_CAL_STATUS_VALID then
    s.toQ1 3 (leBytes 8 s.met.tot.ledger ++ leBytes 8 (s.calendar / 1000000).toNat ++
      [if s.rdb F.TRG_CAL_STATUS_PROVEN then 1 else 0, s.rd F.TRG_CAL_STATUS_STEP_COUNT])
  else s

/-- CAL_SEND (R341). -/
def execCalSend (s : State) : Out := .next s.calSend

/-- No CAL adopted for 10 s of ledger time: the clock is UNPROVEN (R342). -/
def State.calTimeout (s : State) : State :=
  if s.met.tot.clock == 0 && s.bil.adoptTick + 80000 ≤ s.met.tot.ledger then { s with met.tot.clock := 1 } else s

/-- CAL_ADOPT_TIMEOUT (R342). -/
def execCalAdoptTimeout (s : State) : Out := .next s.calTimeout

/-- BIL_CMD TIME_SET (R346): the step is made at the next cycle start; it carries the session's client. -/
def State.timeSet (s : State) (side : Nat) : State :=
  if !s.maint side then s.accessError side eCredential 0x2200C
  else if side == 0 || s.kind != .site || !s.active || !s.rdb F.TRG_CAL_STATUS_PTP_LOCK || !s.rdb F.BIL_STATUS_STEP_PENDING ||
      (match s.bil.lastStep with
        | some t => s.now < t + 10000000000
        | none => false) then s.accessError side eState 0x2200C
  else { s with bil.timeSet := some (SMap.get (fun _ => ({} : ShoreSt)) s.trg.shore side).client }

/-- BIL_TIME_SET (R346). -/
def execBilTimeSet (side : Side) (key : BitVec 16) (s : State) : Out :=
  .next (s.command side 0x2200C key.toNat 0x8B17 fun s => s.timeSet side)

/-- BIL_CMD TAMPER_ACK (R367). -/
def State.tamperAck (s : State) (side : Nat) : State :=
  if !s.maint side then s.accessError side eCredential 0x2200C
  else if s.bil.inForce.any id then s.accessError side eState 0x2200C
  else { s with bil.unacked := false }

/-- BIL_TAMPER_ACK (R367). -/
def execBilTamperAck (side : Side) (key : BitVec 16) (s : State) : Out :=
  .next (s.command side 0x2200C key.toNat 0x8B17 fun s => s.tamperAck side)

/-! ### Boundaries and records -/

/-- INTERVAL_END (R352). -/
def execIntervalEnd (s : State) : Out := .next (if s.met.booking && (!s.syncMode || s.bil.closeAt.isSome) then s.intervalStep else s)

/-- TARIFF_SWITCH (R349). -/
def execTariffSwitch (s : State) : Out := .next (if s.met.booking then s.tariffStep else s)

/-- DEMAND_SYNC_TIMEOUT (R351): the interval closes with NO_SYNC. -/
def execDemandSyncTimeout (s : State) : Out := .next (if s.met.booking && s.syncMode then s.intervalStep else s)

/-- 800 ticks after its tick the oldest waiting boundary is committed (R355). -/
def State.boundaryCommit (s : State) : State :=
  match s.met.bnd with
  | [] => s
  | b :: bs => if b.tick + 800 ≤ s.met.tot.ledger then ({ s with met.bnd := bs }).commitBnd b 0 0 else s

/-- BOUNDARY_COMMIT (R355). -/
def execBoundaryCommit (s : State) : Out := .next s.boundaryCommit

/-- The oldest record not yet sent is signed, where that is still to do, and sent to the replica holders on channel 0x06 (R158,
R363). -/
def State.recordSign (s : State) : State :=
  match s.bil.journal.reverse.find? fun r => !r.sent with
  | none => s
  | some r =>
    if s.key.legal == [] && r.signature.isNone then s else
    let r' := { s.signRec r with sent := true }
    let s := { s with bil.journal := s.bil.journal.map fun (o : JRec) => if o.seq == r.seq then r' else o }
    (s.holdersOf s.addr).foldl (fun (s : State) h => s.ringSend 4 6 h (r'.bytes ++ r'.signature.getD [])) s

/-- RECORD_SIGN (R363). -/
def execRecordSign (s : State) : Out := .next s.recordSign

/-! ### Tamper (R366, R367) -/

/-- A tamper condition begins or ends (R366, R367): `k` 0 cover, 1 terminal cover, 2 Hall cover, 3 magnet. With the partition running the
event is journalled, otherwise the always-on domain stores it. -/
def State.tamper (s : State) (k : Nat) (onset : Bool) (b : List Int) : State :=
  if s.bil.inForce.getD k false == onset then s else
  let s : State := { s with bil.inForce := s.bil.inForce.set k onset, bil.unacked := s.bil.unacked || onset }
  let s := if s.met.running then s.tamperRecord (k + 1) onset true s.rtc b
    else if s.bil.stored.length < 32 then
      ({ s with bil.stored := s.bil.stored ++ [(k + 1, onset, s.sys.vinPresent, s.rtc, b)] }).wr F.CLK_AON_EVENTS
        (s.bil.stored.length + 1)
    else { s with bil.storedLost := min 255 (s.bil.storedLost + 1), bil.tamperLost := min 255 (s.bil.tamperLost + 1) }
  if onset then ((s.wrb F.BIL_EVENT_TAMPER true).event (evCode 8 1 4) (k + 1)).wakeBy 5 else s

/-- COVER_N or TCOVER_N has held a level for 10 ms (R366). -/
def State.coverEdge (s : State) (k : Nat) (opened : Bool) (rtc : Nat) : State :=
  if bit s.tamperDecl.1 k then (s.setRtc rtc).tamper k opened [] else s

/-- TAMPER_COVER_EDGE (R366). -/
def execTamperCoverEdge (terminal opened : Bool) (rtc : Nat) (s : State) : Out :=
  .next (s.coverEdge (if terminal then 1 else 0) opened rtc)

/-- A Hall reading, 0.1 mT: a condition begins with two readings beyond its limit and ends with two within (R366; log 11). -/
def State.hallCondition (s : State) (k : Nat) (beyond : Bool) (b : List Int) : State :=
  let run := s.bil.hallRun.getD (k - 2) 0
  if beyond == s.bil.inForce.getD k false then { s with bil.hallRun := s.bil.hallRun.set (k - 2) 0 }
  else if run == 0 then { s with bil.hallRun := s.bil.hallRun.set (k - 2) 1 }
  else ({ s with bil.hallRun := s.bil.hallRun.set (k - 2) 0 }).tamper k beyond b

/-- The Hall sensor is read (R366): cover below HALL_LO, magnet above HALL_HI. -/
def State.hallReading (s : State) (x y z : Int) (rtc : Nat) : State :=
  let d := s.tamperDecl
  let m := (x * x + y * y + z * z).toNat
  let s := s.setRtc rtc
  let s := if bit d.1 2 then s.hallCondition 2 (m < (10 * d.2.1) * (10 * d.2.1)) [x, y, z] else s
  if bit d.1 3 then s.hallCondition 3 ((10 * d.2.2) * (10 * d.2.2) < m) [x, y, z] else s

/-- HALL_READING (R366). -/
def execHallReading (x y z : Int) (rtc : Nat) (s : State) : Out := .next (s.hallReading x y z rtc)

end Sys2Proof.Machine
end

