-- ==== Sys2Proof/Machine/Vlk.lean ====
section
/-!
DEFINITION. Machine/Vlk.lean: the vehicle link and outlet sequencing (chapter 11).
-/
namespace Sys2Proof.Machine
open Sys2Proof

/-! ### States and signals -/

/-- VLK_STATUS.STATE (R297, R313). -/
def vIdle : Nat := 0
def vPlugged : Nat := 1
def vCableCheck : Nat := 2
def vPreCharge : Nat := 3
def vCharge : Nat := 4
def vStopping : Nat := 5
def vFault : Nat := 6
def vFinished : Nat := 7

/-- VLK_STATUS.CS (R295). -/
def csUnplugged : Nat := 0
def csPlugged : Nat := 1
def csReady : Nat := 2
def csError : Nat := 3

def State.vst (s : State) : Nat := s.rd F.VLK_STATUS_STATE
def State.setVst (s : State) (n : Nat) : State := s.wr F.VLK_STATUS_STATE n

/-- V_REQ of OUTLET_STATUS (R299): the target in cable check and pre-charge, else the EV maximum voltage. -/
def State.vReqNow (s : State) : Nat := if s.vst == vCableCheck || s.vst == vPreCharge then s.vlk.vReq else s.rd F.VLK_EV_MAX_A_V_MAX

/-- PHASE of OUTLET_STATUS (R297). -/
def State.phase (s : State) : Nat := [0, 1, 2, 3, 4, 5, 6, 1].getD s.vst 0

/-- The Selvedge means of the last published tick (R314, R338): amperes and volts in 1/4,096. -/
def State.mean (s : State) (c : Nat) : Int := s.met.pub.means.getD c 0

/-- Present current of the outlet and vehicle-side voltage, in 0.1 A and 0.1 V, to the nearest. -/
def State.iNow (s : State) : Int := rneInt (s.mean 0 * 10) 4096
def State.vNow (s : State) : Int := rneInt (s.mean 2 * 10) 4096

/-- Bus-side differential voltage in 1/4,096 V. -/
def State.busV (s : State) : Int := s.mean 4 - s.mean 5

/-- |I| is at most MRK_SEQ.ZERO. -/
def State.zeroI (s : State) : Bool := (s.mean 0).natAbs ≤ s.rd F.MRK_SEQ_ZERO * 4096

/-- The outlet's applied entry is valid (R15, R134): present, planned, and before APPLY_TIME plus LEASE_MS. -/
def State.planValid (s : State) : Bool :=
  match s.mrk.outlet with
  | none => false
  | some e => e.planned && s.now < s.mrk.applyTime + s.mrk.leaseMs * 1000000

/-- The unit runs the vehicle link: the active unit of an outlet, not silenced (R293, R310). -/
def State.vlinkUp (s : State) : Bool := s.kind == .outlet && s.active && !s.vlk.silent

/-- Indices of DC+ and DC− among the role's contactors (R492). -/
def State.dcContactors (s : State) : List Nat := let n := s.role.contactors.length; [n - 2, n - 1]

/-- Both outlet contactors are commanded closed. -/
def State.contactorsClosed (s : State) : Bool := s.vlk.soPos || s.vlk.soNeg

/-- ITEM 0x06 (R310, R412): session and protocol state, the TLS and TCP state and the last response, for the standby. -/
def State.sendVehicle (s : State) (kind : Nat) (body : List Nat) : State :=
  if s.pair.partnerAddr == 0 then s else
  s.sendItem 6 ([s.rd F.VLK_STATUS_STATE, s.rd F.VLK_STATUS_PROTOCOL, s.rd F.VLK_STATUS_CONTROL, s.rd F.VLK_STATUS_BPT,
    s.rd F.VLK_STATUS_AUTH, if s.vlk.secrets then 1 else 0, if s.vlk.marked then 1 else 0] ++ leBytes 8 (s.rd64 F.VLK_SESSION_ID_LO) ++
    leBytes 2 (bitsOf 16 s.vlk.iReq) ++ leBytes 2 (bitsOf 16 s.vlk.vReq) ++ leBytes 4 s.vlk.vRef ++ kind :: body)

/-- The values offered to the vehicle (R300): maximum current, power and discharge current. -/
def State.offer (s : State) : Nat × Nat × Nat :=
  match s.mrk.outlet with
  | none => (0, 0, 0)
  | some e => (min (min e.iMax (s.rd F.TH_OBS_CREDIT_I_80)) s.role.iRated, e.pMax,
      if e.exportAllowed then e.iExportMax else 0)

/-- Answer the vehicle: the response carries the offer, which VLK_OFFER shows, and whether an emergency shutdown runs (R300, R309). It is kept
as the last response, told to the partner and placed in Q8 (R310, R412, R453). -/
def State.answer (s : State) (kind : Nat) (code : List Nat) : State :=
  let o := s.offer
  let body := code ++ [if s.vlk.esd then 1 else 0] ++ leBytes 2 o.1 ++ leBytes 2 o.2.1 ++ leBytes 2 o.2.2
  let s := (s.wrsat F.VLK_OFFER_I_OFFER o.1).wrsat F.VLK_OFFER_P_OFFER o.2.1
  (({ s with vlk.answer := some { kind := kind, body := body } } : State).sendVehicle kind body).enqueue 8 { kind := kind, body := body }

/-- Response codes: refused (the protocol's failure or not-ready code), ongoing, finished or accepted, finished with a warning. -/
def aRefused : Nat := 0
def aOngoing : Nat := 1
def aDone : Nat := 2
def aWarn : Nat := 3

/-! ### Marks, session starts and ends -/

/-- A session mark through the own mailbox and over the pair link (R328). -/
def State.sessionMark (s : State) (close : Bool) : State :=
  let body := leBytes 8 (s.rd64 F.VLK_SESSION_ID_LO) ++ leBytes 8 s.now ++ [s.addr, if close then 1 else 0]
  let s := s.toQ1 4 body
  if s.pair.partnerAddr == 0 then s else s.sendItem 3 body
/-- The bits of VLK_REFUSE that hold (R296, R442): 0 UNSEALED, 1 JOURNAL, 2 WINDOW, 3 LOCKOUT, 4 SAFETY, 5 EXCLUDED. -/
def State.refusals (s : State) : List Bool :=
  [s.rdb F.PAT_STATUS_UNSEALED_ROLE, s.jrnlLow, s.rdb F.TH_STATUS_REFUSE_PIN || s.rdb F.TH_STATUS_REFUSE_CASE,
   s.rdb F.VLK_STATUS_LOCKOUT,
   s.rdb F.SAF_STATUS_LOCKOUT || bit (s.rd F.SAF_DEMAND_LATCHED) 0 || bit (s.rd F.SAF_DEMAND_LATCHED) 4 ||
     bit (s.rd F.SAF_DEMAND_LATCHED) 5,
   s.rdb (F.MRK_OUT_CFG_EXCLUDE (s.role.rowCol - 1))]

/-- Show the refusals that hold. -/
def State.showRefusals (s : State) : State :=
  let r := s.refusals
  let g (i : Nat) : Bool := r.getD i false
  let s := ((s.wrb F.VLK_REFUSE_UNSEALED (g 0)).wrb F.VLK_REFUSE_JOURNAL (g 1)).wrb F.VLK_REFUSE_WINDOW (g 2)
  ((s.wrb F.VLK_REFUSE_LOCKOUT (g 3)).wrb F.VLK_REFUSE_SAFETY (g 4)).wrb F.VLK_REFUSE_EXCLUDED (g 5)

/-- A start is refused: by R296, or for want of a SECC key (R383). -/
def State.startRefused (s : State) : Bool := s.refusals.any id || s.seccKey.isNone

/-- The session ends: CLOSE mark, event, identifiers of the running session cleared; the state becomes IDLE (R297, R328). -/
def State.toIdle (s : State) : State :=
  let s := if s.vlk.marked then s.sessionMark true else s
  let s := if s.vlk.session then s.event (evCode 9 3 3) (s.rd F.VLK_SESSION_ID_LO) else s
  let s := (((s.setVst vIdle).wr F.VLK_STATUS_PROTOCOL 0).wr F.VLK_STATUS_CONTROL 0).wrb F.VLK_STATUS_BPT false
  let s := ((s.wrb F.VLK_STATUS_TLS false).wr F.VLK_STATUS_AUTH 0).wrb F.VLK_STATUS_SHADOW_OK false
  { s with vlk := { soPos := s.vlk.soPos, soNeg := s.vlk.soNeg, soDsc := s.vlk.soDsc, auxPos := s.vlk.auxPos,
                    auxNeg := s.vlk.auxNeg, answer := s.vlk.answer, validAt := s.vlk.validAt
                    inconclusive := s.vlk.inconclusive } }

/-- IDLE at unplug, once the cable is discharged (R297, R311). -/
def State.unplugEnd (s : State) : State :=
  if s.rd F.VLK_STATUS_CS == csUnplugged && !s.vlk.soDsc && !s.vlk.weldDue && !s.contactorsClosed &&
      (s.vst == vFinished || s.vst == vFault) then s.toIdle else s

/-! ### Contactors -/

/-- Tell the partition's injector to start, stop or take a phase (R302). -/
def State.injector (s : State) (start phase : Bool) : State :=
  let s := s.wrb F.VLK_IMD_STATUS_INJECTING (start && s.active)
  { s with bil.sent := some { kind := 9, body := [if start && s.active then 1 else 0, if phase then 1 else 0] } }

/-- Both contactors are commanded open with the current they break, A; measuring ends (R303, R307, R492). -/
def State.openContactors (s : State) : State :=
  let s := if s.contactorsClosed then
      let a := (s.mean 0).natAbs / 4096
      s.dcContactors.foldl (fun s k => s.contactorOp k a (!s.zeroI)) s
    else s
  ({ s with vlk.soPos := false, vlk.soNeg := false, vlk.half := none }).injector false false

/-- The session enters FAULT (R297); contactors at zero current open at once. -/
def State.toFault (s : State) : State :=
  let s := s.setVst vFault
  if s.contactorsClosed && s.zeroI then s.openContactors else s

/-- The stop sequence of R307 begins. -/
def State.toStopping (s : State) (byPre : Bool) : State :=
  { s.setVst vStopping with vlk.stopAt := s.now, vlk.stopFrom := (s.mrk.demand.getD {}).iRef, vlk.stopByPre := byPre, vlk.vehOpen := false,
                            vlk.stopWait := false }

/-- A stop in the states that have one (R297). -/
def State.stopSession (s : State) : State :=
  if vPlugged ≤ s.vst && s.vst ≤ vCharge then s.toStopping false else s

/-- An emergency shutdown starts (R309): FAULT, DEMAND with MODE 0, a VEHICLE_ESD event, safety function 0 demanded (R431). Without a
session to end, in IDLE and FINISHED, the state stays, as R297 names no way from them to FAULT (log 115). -/
def State.esd (s : State) : State :=
  if s.kind != .outlet then s else
  let s := { s with saf.raised := setBit s.saf.raised 0 true }
  if !s.active || s.vlk.esd then s
  else if s.vst == vIdle || s.vst == vFinished then s.event (evCode 2 0 4) s.role.rowCol else
  let s : State := { s.setVst vFault with vlk.esd := true, vlk.stopWait := false, vlk.stopByPre := false }
  s.event (evCode 2 0 4) s.role.rowCol

/-! ### Connector -/

/-- A connector state takes effect (R295, R297). -/
def State.connector (s : State) (cs : Nat) : State :=
  if s.kind != .outlet then s else
  let old := s.rd F.VLK_STATUS_CS
  let s := s.wr F.VLK_STATUS_CS cs
  if !s.active then s else
  let s := if cs == csError && old != csError then s.event (evCode 9 1 6) 0 else s
  let fall := (old == csReady && cs != csReady) || (cs == csError && old != csError)
  if fall && s.contactorsClosed then s.esd
  else if old == csUnplugged && cs != csUnplugged && s.vst == vIdle then
    let s := (s.setVst vPlugged).barAdd 7 1
    if s.startRefused then (s.showRefusals.inc F.VLK_REFUSED) else s.showRefusals
  else if cs == csUnplugged && s.vst == vPlugged then s.toIdle
  else if cs == csUnplugged && (s.vst == vFinished || s.vst == vFault) then s.unplugEnd
  else if fall || cs == csUnplugged then s.stopSession
  else s

/-- CONNECTOR_STATE_CHANGE (R295). -/
def execConnectorStateChange (cs : Fin 4) (s : State) : Out := .next (s.connector cs)

/-! ### The vehicle's messages -/

/-- A protocol can be used: 1 ISO 15118-20, 2 ISO 15118-2 and 3 DIN SPEC 70121 on the modem path (R292, R294, R313). -/
def State.protocolOn (s : State) (p : Nat) : Bool :=
  match p with
  | 1 => s.rdb F.VLK_CFG_EN_20
  | 2 => s.rdb F.VLK_CFG_EN_2 && s.rdb F.VLK_CFG_MODEM && s.rdb F.VLK_CFG_SCHEME
  | 3 => s.rdb F.VLK_CFG_EN_DIN && s.rdb F.VLK_CFG_MODEM && s.rdb F.VLK_CFG_SCHEME
  | _ => false

/-- The services asked for are offered (R292, R294): control 1 scheduled, 2 dynamic; bidirectional transfer only over ISO 15118-20. -/
def State.serviceOn (s : State) (p control : Nat) (bpt : Bool) : Bool :=
  if p == 1 then ((control == 1 && s.rdb F.VLK_CFG_SCHED_EN) || (control == 2 && s.rdb F.VLK_CFG_DYN_EN)) &&
    (!bpt || s.rdb F.VLK_CFG_BPT_EN)
  else control == 1 && !bpt

/-- Session setup is accepted, with a session identity that the spec does not form (log 27), or refused (R296). -/
def State.sessionSetup (s : State) (p control : Nat) (bpt : Bool) : State :=
  if !s.vlinkUp || s.vst != vPlugged then s
  else if !s.protocolOn p || !s.serviceOn p control bpt then s.answer 1 [aRefused]
  else if s.startRefused then ((s.showRefusals).inc F.VLK_REFUSED).answer 1 [aRefused]
  else if s.vlk.session then s.answer 1 [aDone]
  else
    let s := s.showRefusals
    let id := (s.draw 23).1
    let s := (s.draw 23).2.wr64 F.VLK_SESSION_ID_LO id
    let s := ((s.inc F.VLK_SESSIONS).wr F.VLK_STATUS_PROTOCOL p).wr F.VLK_STATUS_CONTROL control
    let s := ((s.wrb F.VLK_STATUS_BPT bpt).wrb F.VLK_STATUS_TLS (p == 1)).wr F.VLK_STATUS_AUTH 0
    let s := { s with vlk.session := true, vlk.marked := false }
    (s.event (evCode 9 3 2) (s.rd F.VLK_SESSION_ID_LO)).answer 1 [aDone]

/-- V2G_SESSION_SETUP (R296). -/
def execV2gSessionSetup (protocol control : Fin 4) (bpt : Bool) (s : State) : Out := .next (s.sessionSetup protocol control bpt)

/-- A digest is a trusted V2G root (R389). -/
def State.trusts (s : State) (digest : List Nat) : Bool :=
  (List.range 32).any fun j =>
    let c := State.cell s.key.digests j
    c.cw.valid && c.now.use == 1 && c.now.bytes == digest

/-- Store an identification in VLK_EMAID, zero-filled (R298). -/
def State.storeEmaid (s : State) (id : List Nat) : State :=
  (List.range 5).foldl (fun s i => s.wr (F.VLK_EMAID i) (wordAt (padTo 20 id) i)) s

/-- The answer to an authorisation request as AUTH stands. -/
def State.answerAuth (s : State) : State := s.answer 2 [[aRefused, aOngoing, aDone, aRefused].getD (s.rd F.VLK_STATUS_AUTH) 0]

/-- The vehicle's authorisation request (R298); `chainOk` says that a Plug and Charge chain verifies up to the root whose digest is
given. -/
def State.authorise (s : State) (emaid : List Nat) (pnc chainOk : Bool) (root : List Nat) : State :=
  if !s.vlinkUp || s.vst != vPlugged || !s.vlk.session then s
  else if s.rd F.VLK_STATUS_AUTH != 0 then s.answerAuth
  else
    let s := s.storeEmaid emaid
    if pnc && (s.rd F.VLK_STATUS_PROTOCOL != 1 || !chainOk || !s.trusts root) then (s.wr F.VLK_STATUS_AUTH 3).answerAuth
    else if s.rdb F.VLK_CFG_AUTO_AUTH then (s.wr F.VLK_STATUS_AUTH 2).answerAuth
    else ((s.wr F.VLK_STATUS_AUTH 1).event (evCode 9 3 1) 0).answerAuth

/-- V2G_AUTHORIZATION (R298). -/
def execV2gAuthorization (emaid : List Nat) (pnc chainOk : Bool) (root : List Nat) (s : State) : Out :=
  .next (s.authorise emaid pnc chainOk root)

/-- The vehicle's cable check request (R301): the first of a session sends the OPEN mark, which Q1 must be able to take (R459). -/
def State.cableCheck (s : State) (evVmax : Nat) : State :=
  if !s.vlinkUp || !s.vlk.session then s
  else if s.vst == vCableCheck then
    s.answer 3 [if s.vlk.ccStep == 4 then (if s.rdb F.VLK_STATUS_IMD_WARN then aWarn else aDone) else aOngoing]
  else if s.vst == vFault then s.answer 3 [aRefused]
  else if !(s.vst == vPlugged && s.rd F.VLK_STATUS_AUTH == 2) && s.vst != vFinished then s
  else if !s.vlk.marked && (s.refusals.any id || s.depth 1 < (s.q 1).length + 8) then s.answer 3 [aRefused]
  else
    let s := s.setVst vCableCheck
    let s := (s.wr F.VLK_EV_MAX_A_V_MAX evVmax).wrb F.VLK_STATUS_IMD_FAULT false
    let first := !s.vlk.marked
    let s := { s with vlk.ccStep := 0, vlk.marked := true, vlk.vReq := min evVmax s.role.vRated, vlk.iReq := 0, vlk.vRef := 0,
                      vlk.warnRun := 0, vlk.clearRun := 0, vlk.invalidRun := 0, vlk.half := none, vlk.weldDue := false }
    (if first then s.sessionMark false else s).answer 3 [aOngoing]

/-- V2G_CABLE_CHECK (R301). -/
def execV2gCableCheck (evVmax : BitVec 16) (s : State) : Out := .next (s.cableCheck evVmax.toNat)

/-- A pre-charge request with the EV target voltage, 0.1 V (R305). -/
def State.preCharge (s : State) (vTgt : Nat) : State :=
  if !s.vlinkUp || !((s.vst == vCableCheck && s.vlk.ccStep == 4) || s.vst == vPreCharge) then s
  else
    let s := (s.setVst vPreCharge).wr F.VLK_EV_TARGET_V_TGT vTgt
    let s := { s with vlk.vReq := vTgt }
    s.answer 4 [if (s.vNow - (vTgt : Int)).natAbs ≤ s.rd F.VLK_PRE_BAND then aDone else aOngoing]

/-- V2G_PRE_CHARGE (R305). -/
def execV2gPreCharge (vTgt : BitVec 16) (s : State) : Out := .next (s.preCharge vTgt.toNat)

/-- The vehicle starts power delivery (R297). -/
def State.powerStart (s : State) : State :=
  if s.vlinkUp && s.vst == vPreCharge then
    ({ s.setVst vCharge with vlk.vReq := s.rd F.VLK_EV_MAX_A_V_MAX }).answer 5 [aDone]
  else s

/-- V2G_POWER_DELIVERY_START (R297). -/
def execV2gPowerDeliveryStart (s : State) : Out := .next s.powerStart

/-- The vehicle's latest values (R299): 0.1 A, 0.1 V, kW, minutes, kWh. -/
def State.evValues (s : State) (iTgt : Int) (iMax iDis vMax vTgt pMax : Nat) (discharge : Bool) (depart energy : Nat) : State :=
  let dis := discharge && s.rdb F.VLK_STATUS_BPT
  let dyn := s.rd F.VLK_STATUS_CONTROL == 2
  let s := (s.wrsat F.VLK_EV_MAX_A_V_MAX vMax).wrsat F.VLK_EV_MAX_A_I_MAX iMax
  let s := (s.wrsat F.VLK_EV_MAX_B_P_MAX pMax).wrsat F.VLK_EV_MAX_B_I_DIS_MAX iDis
  let s := (s.wrsat F.VLK_EV_TARGET_V_TGT vTgt).wrisat F.VLK_EV_TARGET_I_TGT iTgt
  let s := if dyn then (s.wrsat F.VLK_DEPART_TIME depart).wrsat F.VLK_DEPART_ENERGY energy else s
  let req : Int := if dyn then (if dis then -(iDis : Int) else iMax) else if dis || 0 ≤ iTgt then iTgt else 0
  { s with
    vlk.iReq := req
    vlk.wantsExport := dis
    vlk.vReq := if s.vst == vCableCheck then s.vlk.vReq else if s.vst == vPreCharge then vTgt else vMax }

/-- V2G_CHARGE_LOOP (R299, R300): a vehicle request of a session updates OUTLET_STATUS and is answered with the offer. -/
def execV2gChargeLoop (iTgt : Int) (iMax iDis vMax vTgt pMax : BitVec 16) (discharge : Bool) (depart energy : BitVec 16)
    (s : State) : Out :=
  .next (if s.vlinkUp && s.vlk.session && s.vst != vIdle then
    (s.evValues iTgt iMax.toNat iDis.toNat vMax.toNat vTgt.toNat pMax.toNat discharge depart.toNat energy.toNat).answer 6 [aDone] else s)

/-- The vehicle's stop request, with its report that its own contactors are open (R307). -/
def State.stopRequest (s : State) (vehOpen : Bool) : State :=
  if !s.vlinkUp then s else
  let s := s.stopSession
  (if s.vst == vStopping || s.vst == vFault then { s with vlk.vehOpen := s.vlk.vehOpen || vehOpen } else s).answer 7 [aDone]

/-- V2G_STOP_REQUEST (R307). -/
def execV2gStopRequest (vehOpen : Bool) (s : State) : Out := .next (s.stopRequest vehOpen)

/-- V2G_EMERGENCY_STOP (R309). -/
def execV2gEmergencyStop (s : State) : Out := .next (if s.vlinkUp && s.vst != vIdle then s.esd.answer 8 [aDone] else s)

/-! ### VLK_CTRL -/

def vlkCtrlAddr : Nat := 0x1E00C

/-- The pending authorisation is decided (R298): the first decision stands (R311). -/
def State.decideAuth (s : State) (grant : Bool) : State :=
  if s.rd F.VLK_STATUS_AUTH == 1 then (s.wr F.VLK_STATUS_AUTH (if grant then 2 else 3)).answerAuth else s

/-- VLK_AUTH_GRANT (R298). -/
def execVlkAuthGrant (side : Side) (key : BitVec 16) (s : State) : Out :=
  .next (s.command side vlkCtrlAddr key.toNat 0x5E21 fun s => s.decideAuth true)
/-- VLK_AUTH_DENY (R298). -/
def execVlkAuthDeny (side : Side) (key : BitVec 16) (s : State) : Out :=
  .next (s.command side vlkCtrlAddr key.toNat 0x5E21 fun s => s.decideAuth false)
/-- VLK_STOP (R297). -/
def execVlkStop (side : Side) (key : BitVec 16) (s : State) : Out :=
  .next (s.command side vlkCtrlAddr key.toNat 0x5E21 fun s => s.stopSession)

/-- RESET_LOCKOUT needs the maintenance credential (R308). -/
def State.resetLockout (s : State) (side : Nat) : State :=
  if s.maint side then s.wrb F.VLK_STATUS_LOCKOUT false else s.accessError side eCredential vlkCtrlAddr

/-- VLK_RESET_LOCKOUT (R308). -/
def execVlkResetLockout (side : Side) (key : BitVec 16) (s : State) : Out :=
  .next (s.command side vlkCtrlAddr key.toNat 0x5E21 fun s => s.resetLockout side)
/-- VLK_ESD (R309). -/
def execVlkEsd (side : Side) (key : BitVec 16) (s : State) : Out :=
  .next (s.command side vlkCtrlAddr key.toNat 0x5E21 fun s => s.esd)
/-- AUTH_WAIT_TIMEOUT (R298). -/
def execAuthWaitTimeout (s : State) : Out := .next (s.decideAuth false)

/-! ### Cable check and insulation -/

/-- Close both contactors when R301 step 2 allows it; `ready`: a stack of the column reports READY. -/
def State.closeContactors (s : State) (ready : Bool) : State :=
  if s.kind == .outlet && s.active && s.vst == vCableCheck && s.vlk.ccStep == 0 && ready && s.planValid && !s.vlk.auxPos &&
      !s.vlk.auxNeg && s.busV.natAbs ≤ 60 * 4096 && (s.mean 2).natAbs ≤ 60 * 4096 && s.zeroI then
    s.dcContactors.foldl (fun s k => s.contactorOp k 0 false)
      { s with vlk.soPos := true, vlk.soNeg := true, vlk.ccStep := 1 }
  else s

/-- OUTLET_CONTACTOR_CLOSE (R301). -/
def execOutletContactorClose (ready : Bool) (s : State) : Out := .next (s.closeContactors ready)

/-- Both auxiliary contacts read closed: the ramp of V_REF starts from the bus voltage (R301). -/
def State.auxClosed (s : State) : State :=
  let s := { s with vlk.auxPos := true, vlk.auxNeg := true }
  if s.vst == vCableCheck && s.vlk.ccStep == 1 then
    { s with vlk.ccStep := 2, vlk.vRef := (rneInt (s.busV * 10000) 4096).toNat }
  else s

/-- OUTLET_AUX_CLOSED (R301). -/
def execOutletAuxClosed (s : State) : Out := .next s.auxClosed

/-- OUTLET_AUX_CLOSE_TIMEOUT (R301). -/
def execOutletAuxCloseTimeout (s : State) : Out :=
  .next (if s.vst == vCableCheck && s.vlk.ccStep == 1 then s.toFault.openContactors else s)

/-- The voltage has settled: the insulation measurement runs (R301, R302). -/
def State.ccSettled (s : State) : State :=
  if s.vst == vCableCheck && s.vlk.ccStep == 2 then ({ s with vlk.ccStep := 3, vlk.half := none }).injector true false else s

/-- CABLE_CHECK_SETTLED (R301). -/
def execCableCheckSettled (s : State) : Out := .next s.ccSettled

/-- CABLE_CHECK_TIMEOUT (R301). -/
def execCableCheckTimeout (s : State) : Out :=
  .next (if s.vst == vCableCheck && s.vlk.ccStep != 4 then s.toFault else s)

/-- Total insulation resistance in kΩ from the swing of the response, mV, under ±20 V through 200 kΩ; it saturates (R302, log 28). -/
def rTotalOf (swing : Nat) : Nat := if 40000 ≤ swing then 2 ^ 32 - 1 else min (2 ^ 32 - 1) (200 * swing / (40000 - swing))

/-- The poles' shares of R_TOTAL by the pole-to-PE voltages (R302): kΩ. -/
def polesOf (r p n : Nat) : Nat × Nat :=
  let part (v : Nat) : Nat := if v == 0 then 2 ^ 32 - 1 else min (2 ^ 32 - 1) (r * (p + n) / v)
  (part n, part p)

/-- The lower of the own result and the partner's governs (R304). -/
def State.governingR (s : State) (r : Nat) : Nat := match s.vlk.partnerR with
  | some p => min r p
  | none => r

/-- A threshold of VLK_IMD_CFG, Ω/V, against a result in kΩ: is the result below n tenths of it? -/
def State.belowImd (s : State) (r ohmPerV tenths : Nat) : Bool := r * 1000 * 100 < ohmPerV * s.role.vRated * tenths

/-- Is a result above n tenths of a threshold? -/
def State.aboveImd (s : State) (r ohmPerV tenths : Nat) : Bool := ohmPerV * s.role.vRated * tenths < r * 1000 * 100

/-- The insulation fault of R303. -/
def State.imdFault (s : State) : State :=
  let s := s.wrb F.VLK_STATUS_IMD_FAULT true
  if s.vst == vCableCheck then s.toFault
  else if s.vst == vCharge || s.vst == vPreCharge then
    ({ s with saf.raised := setBit s.saf.raised 4 true }).esd
  else s

/-- What R301 and R303 do with a valid result. -/
def State.actOnImd (s : State) (r : Nat) : State :=
  let below (k t : Nat) : Bool := s.belowImd r k t
  let warnTh := s.rd F.VLK_IMD_CFG_WARN
  if below (s.rd F.VLK_IMD_CFG_FAULT) 10 then s.imdFault
  else
    let low := below warnTh 10
    let s := { s with vlk.warnRun := if low then min 2 (s.vlk.warnRun + 1) else 0,
                      vlk.clearRun := if s.aboveImd r warnTh 11 then min 2 (s.vlk.clearRun + 1) else 0 }
    let passes := s.vst == vCableCheck && s.vlk.ccStep == 3
    let s : State := if passes then { s with vlk.ccStep := 4 } else s
    let s := if (s.vlk.warnRun == 2 || (passes && low)) && !s.rdb F.VLK_STATUS_IMD_WARN then
        (s.wrb F.VLK_STATUS_IMD_WARN true).event (evCode 9 2 4) 0 else s
    if s.vlk.clearRun == 2 then s.wrb F.VLK_STATUS_IMD_WARN false else s

/-- The units' results differ by more than a factor of 2 for three periods (R304). -/
def State.compareImd (s : State) (r : Nat) : State :=
  match s.vlk.partnerR with
  | none => s
  | some p =>
    if 2 * min r p < max r p then
      let s : State := { s with vlk.disagreeRun := min 3 (s.vlk.disagreeRun + 1) }
      if s.vlk.disagreeRun == 3 && !s.rdb F.VLK_IMD_STATUS_DISAGREE then
        (s.wrb F.VLK_IMD_STATUS_DISAGREE true).event (evCode 9 2 5) 0
      else s
    else ({ s with vlk.disagreeRun := 0 }).wrb F.VLK_IMD_STATUS_DISAGREE false

/-- A full period: two half-period averages, mV, the larger movement in their last quarters, mV, and the pole-to-PE voltages, mV. -/
def State.imdPeriod (s : State) (a b : Int) (move : Nat) (vPos vNeg : Int) : State :=
  let swing := (a - b).natAbs
  let valid := 100 * move < swing
  let s := s.wrb F.VLK_IMD_STATUS_VALID valid
  if valid then
    let r := rTotalOf swing
    let p := polesOf r vPos.natAbs vNeg.natAbs
    let s := ((s.wr F.VLK_IMD_R_TOTAL r).wr F.VLK_IMD_R_POS p.1).wr F.VLK_IMD_R_NEG p.2
    let s : State := { s with vlk.invalidRun := 0, vlk.validAt := some s.ledger }
    let s := s.compareImd r
    if s.active then s.actOnImd (s.governingR r) else s
  else
    let s := { s with vlk.invalidRun := min 3 (s.vlk.invalidRun + 1), vlk.warnRun := 0, vlk.clearRun := 0 }
    if s.vlk.invalidRun == 3 && s.active && (s.vst == vCharge || s.vst == vPreCharge) then s.imdFault else s

/-- An injection half-period ends (R302, R303): the phase turns, the partner is told it (R304). -/
def State.imdHalf (s : State) (avg : Int) (move : Nat) (vPos vNeg : Int) : State :=
  if s.kind != .outlet || !(s.contactorsClosed || !s.active) then s else
  let phase := !s.met.phase
  let s := if s.active then
      let s := s.injector true phase
      if s.pair.partnerAddr == 0 then s else s.sendItem 5 [if phase then 1 else 0]
    else s
  match s.vlk.half with
  | none => { s with vlk.half := some (avg, move) }
  | some (a, m) => ({ s with vlk.half := none }).imdPeriod a avg (max m move) vPos vNeg

/-- IMD_HALF_PERIOD (R302). -/
def execImdHalfPeriod (avg : Int) (move : Nat) (vPos vNeg : Int) (s : State) : Out := .next (s.imdHalf avg move vPos vNeg)

/-- PRE_CHARGE_TIMEOUT (R305). -/
def execPreChargeTimeout (s : State) : Out := .next (if s.vst == vPreCharge then s.toStopping true else s)

/-! ### Stopping, discharge, weld check -/

/-- SO_DSC switches on once both contacts read open (R307, R309); VEHICLE_LIVE of an earlier discharge ends with it (log 116). -/
def State.dischargeOn (s : State) : State :=
  if !s.vlk.soDsc && !s.contactorsClosed && !s.vlk.auxPos && !s.vlk.auxNeg && (s.vst == vStopping || s.vst == vFault) then
    ({ s with vlk.soDsc := true } : State).wrb F.VLK_WELD_VEHICLE_LIVE false else s

/-- The vehicle-side voltage is at most 60 V (R307). -/
def State.vehicleDead (s : State) : Bool := (s.mean 2).natAbs ≤ 60 * 4096

/-- The current has been at or below ZERO for 0.5 ms: in a stop with the vehicle open or STOP_WAIT passed, and in FAULT, both
contactors open (R307, R309, R311). -/
def State.stopOpen (s : State) : State :=
  if !s.zeroI then s
  else if (s.vst == vStopping && (s.vlk.vehOpen || s.vlk.stopWait)) || s.vst == vFault then s.openContactors.dischargeOn else s

/-- STOP_CONTACTOR_OPEN (R307). -/
def execStopContactorOpen (s : State) : Out := .next s.stopOpen

/-- STOP_WAIT_EXPIRY (R307). -/
def execStopWaitExpiry (s : State) : Out :=
  .next (if s.vst == vStopping then { s with vlk.stopWait := true } else s)

/-- OUTLET_AUX_OPEN (R307). -/
def execOutletAuxOpen (s : State) : Out :=
  .next ({ s with vlk.auxPos := false, vlk.auxNeg := false }).dischargeOn

/-- The vehicle side has reached 60 V (R307, R311): SO_DSC off, the weld check is due. -/
def State.discharged (s : State) : State :=
  if s.vlk.soDsc && s.vehicleDead then { s with vlk.soDsc := false, vlk.weldDue := true } else s

/-- DISCHARGE_COMPLETE (R307). -/
def execDischargeComplete (s : State) : Out := .next s.discharged

/-- DISCHARGE_TIMEOUT (R307). -/
def execDischargeTimeout (s : State) : Out :=
  .next (if s.vlk.soDsc && !s.vehicleDead then (s.wrb F.VLK_WELD_VEHICLE_LIVE true).setVst vFault else s)

/-- A WELDED result locks the outlet out (R308, R431): recorded in MRAM, an event, the contactor's record. -/
def State.welded (s : State) (pos neg aux : Bool) : State :=
  let s := (((s.wr F.VLK_WELD_RESULT 2).wrb F.VLK_WELD_POS_WELD pos).wrb F.VLK_WELD_NEG_WELD neg).wrb F.VLK_WELD_AUX_FAIL aux
  let s := { s.wrb F.VLK_STATUS_LOCKOUT true with saf.raised := setBit s.saf.raised 5 true }
  let s := s.dcContactors.foldl (fun s k => if aux || (pos && k == s.dcContactors.headD 0) || (neg && k != s.dcContactors.headD 0)
    then s.contactorOp k 0 false else s) s
  s.event (evCode 2 0 3) 0

/-- The stop sequence is complete (R307): FINISHED, or FAULT after a pre-charge timeout. -/
def State.stopDone (s : State) : State :=
  (if s.vst == vStopping then s.setVst (if s.vlk.stopByPre then vFault else vFinished) else s).unplugEnd

/-- A pole is welded: the vehicle-side pole has the bus-side pole's sign and at least WELD_PCT of its magnitude (R308). -/
def State.poleWelded (s : State) (bus veh : Nat) : Bool :=
  0 < s.mean bus * s.mean veh && s.rd F.VLK_STOP_WELD_PCT * (s.mean bus).natAbs ≤ 100 * (s.mean veh).natAbs

/-- The weld check at the first tick after the discharge (R308). -/
def State.weldCheck (s : State) : State :=
  if !s.vlk.weldDue || s.contactorsClosed then s else
  let s := { s with vlk.weldDue := false }
  let s := if s.busV < 100 * 4096 then
      (((({ s with vlk.inconclusive := s.vlk.inconclusive + 1 } : State).wr F.VLK_WELD_RESULT 3).wrb F.VLK_WELD_POS_WELD false).wrb
        F.VLK_WELD_NEG_WELD false).wrb F.VLK_WELD_AUX_FAIL false
    else
      let p := s.poleWelded 4 6
      let n := s.poleWelded 5 7
      if p || n then s.welded p n false
      else (((s.wr F.VLK_WELD_RESULT 1).wrb F.VLK_WELD_POS_WELD false).wrb F.VLK_WELD_NEG_WELD false).wrb F.VLK_WELD_AUX_FAIL false
  s.stopDone

/-- WELD_CHECK (R308). -/
def execWeldCheck (s : State) : Out := .next s.weldCheck

/-- A contact does not read open within OPEN_TIME + 1 ms (R308): WELDED with AUX_FAIL, a contactor fault (R297). -/
def State.auxOpenTimeout (s : State) : State :=
  if !s.contactorsClosed && (s.vlk.auxPos || s.vlk.auxNeg) then (s.welded false false true).setVst vFault else s

/-- OUTLET_AUX_OPEN_TIMEOUT (R308). -/
def execOutletAuxOpenTimeout (s : State) : Out := .next s.auxOpenTimeout

/-- ESD_OPEN_DEADLINE (R309). -/
def execEsdOpenDeadline (s : State) : Out :=
  .next (if s.vlk.esd && s.contactorsClosed then s.openContactors else s)

/-- The plan is no longer valid (R134, R297, R311). -/
def State.planLapse (s : State) : State :=
  if s.kind != .outlet || !s.active || s.planValid then s
  else if s.vst == vCableCheck || s.vst == vPreCharge then s.toFault
  else if s.vst == vCharge then s.toStopping false
  else s

/-- VALID_PLAN_LAPSE (R134, R311). -/
def execValidPlanLapse (s : State) : Out := .next s.planLapse

/-- VEHICLE_LINK_TICK (R62). -/
def execVehicleLinkTick (s : State) : Out := .next (s.boundary [(11, 0)])

/-- The unit has taken the claim of an outlet (R304, R310): it injects again; without SHADOW_OK it is silent and stops the session. -/
def State.vlinkTakeOver (s : State) : State :=
  if s.kind != .outlet then s else
  let s := { s with vlk.half := none, vlk.invalidRun := 0 }
  if s.vst == vIdle || s.rdb F.VLK_STATUS_SHADOW_OK || !s.vlk.session then s
  else ({ s with vlk.silent := true }).stopSession

end Sys2Proof.Machine
end

