-- ==== Sys2Proof/Machine/Thermal.lean ====
section
/-!
DEFINITION. Machine/Thermal.lean: the housekeeping round, sensor groups, coolant loops, the cable observer and die levels (chapter 10).
-/
namespace Sys2Proof.Machine
open Sys2Proof

/-! ### The round's values (R269, R270) -/

/-- Linear conversion from ZERO at x0 to FULL at x1, to the nearest unit. -/
def linear (zero full x x0 x1 : Int) : Int := zero + rneInt ((full - zero) * (x - x0)) (x1 - x0).toNat

/-- The Beta equation, 0.1 °C to the nearest (R270): a thermistor to AGND of NOM · 10 Ω at 25 °C under a 10 kΩ pull-up to 3.3 V, from the
pin voltage in µV; none at or beyond the supplies, where no resistance gives the voltage. -/
def betaTemp (beta nom : Nat) (x : Int) : Option Int :=
  if x ≤ 0 || 3300000 ≤ x then none
  else if beta == 0 || nom == 0 then some (Config.ntcTemp beta nom x)
  else
    let r : Rat := mkRat (10000 * x) (3300000 - x).toNat
    let inv : Rat := mkRat 100 29815 + Config.ln (r / (10 * nom)) / beta
    if inv ≤ 0 then none else some (10 * (1 / inv) - 27315 / 10 + 1 / 2).floor

/-- What a channel's input converts to, if it lies in the valid range of its kind (R270): voltages in µV, currents in µA, channels 56
to 63 in mV. -/
def State.hkConvert (s : State) (k : Nat) (x : Int) : Option Int :=
  if 56 ≤ k then some x
  else if 48 ≤ k then
    let t := Config.internalTemp k x
    if -550 ≤ t && t ≤ 1750 then some t else none
  else
    let full := s.rd (F.TH_HK_CH_PARAM_BETA_FULL k)
    let zero := s.rd (F.TH_HK_CH_PARAM_NOM_ZERO k)
    match s.rd (F.TH_HK_CH_CFG_KIND k) with
    | 0 => if 50000 ≤ x && x ≤ 3250000 then some (linear (signedOf 16 zero) (signedOf 16 full) x 0 3300000) else none
    | 1 => if 3600 ≤ x && x ≤ 21000 then some (linear (signedOf 16 zero) (signedOf 16 full) x 4000 20000) else none
    | 2 => (betaTemp full zero x).filter fun t => -550 ≤ t && t ≤ 2000
    | 3 =>
      let t := Config.ptTemp x
      if -600 ≤ t && t ≤ 2500 then some t else none
    | _ => none

/-- Does a channel feed a group, a coolant loop or the observer (R285)? -/
def State.hkFeeds (s : State) (k : Nat) : Bool :=
  s.rdb (F.TH_HK_CH_CFG_IN_GROUP k) || 48 ≤ k ||
    s.role.cool.any fun c => (c.flowSrc == 2 && c.flowIn == k) || c.pressCh == some k

/-- The channels' values of a round: those that are evaluated, with the value or none (R270, R285). -/
def State.hkRound (s : State) (raw : List Int) : List (Nat × Option Int) :=
  let slow := s.rd F.TH_STATUS_THROTTLE != 0 && s.rd F.TH_ROUNDS % 5 != 0
  ((List.range 64).filter fun k => !slow || s.hkFeeds k).map fun k => (k, s.hkConvert k (raw.getD k 0))

/-- Show one channel's value. -/
def State.showHk (s : State) (e : Nat × Option Int) : State :=
  match e.2 with
  | none => s.wrb (F.TH_HK_CH_VALUE_RANGE_ERR e.1) true
  | some v => (s.wrb (F.TH_HK_CH_VALUE_RANGE_ERR e.1) false).wrisat (F.TH_HK_CH_VALUE_VALUE e.1) v

/-! ### Sensor groups (R271 to R273) -/

/-- The members of a group: 29 case, 30 metrology die, 31 main die; others as IO_MAP declares. -/
def State.groupMembers (s : State) (g : Nat) : List Nat :=
  match g with
  | 29 => [54, 55]
  | 30 => [52, 53]
  | 31 => [48, 49, 50, 51]
  | _ => (List.range 48).filter fun k => s.rdb (F.TH_HK_CH_CFG_IN_GROUP k) && s.rd (F.TH_HK_CH_CFG_GROUP k) == g

/-- Insert into a rising list. -/
def insertInt (v : Int) : List Int → List Int
  | [] => [v]
  | x :: xs => if v ≤ x then v :: x :: xs else x :: insertInt v xs

/-- Twice the median: the middle value, or the mean of the two middle ones (R272). -/
def median2 (vs : List Int) : Int :=
  let t := vs.foldl (fun l v => insertInt v l) []
  let n := t.length
  t.getD ((n - 1) / 2) 0 + t.getD (n / 2) 0

/-- Count in a map of counters. -/
def bump (k : Nat) (yes : Bool) (m : SMap Nat) : SMap Nat :=
  SMap.set (fun _ => 0) k (if yes then min 50 (SMap.get (fun _ => 0) m k + 1) else 0) m

/-- Exclude or readmit a member with its event (R272). -/
def State.setExcluded (s : State) (k : Nat) (x : Bool) : State :=
  let s := { s with th.devRun := bump k false s.th.devRun, th.okRun := bump k false s.th.okRun }
  ((s.wrb (F.TH_HK_CH_VALUE_EXCLUDED k) x).wrb F.TH_EVENT_EXCLUDED true).event
    (if x then evCode 5 2 4 else evCode 5 3 5) k

/-- One member's check against the agreeing median (R272). -/
def State.checkMember (s : State) (g : Nat) (vals : List (Nat × Option Int)) (k : Nat) : State :=
  let ms := s.groupMembers g
  let given := vals.filterMap fun e => if ms.contains e.1 then e.2 else none
  match (vals.find? (·.1 == k)).bind (·.2) with
  | none => if s.rdb (F.TH_HK_CH_VALUE_EXCLUDED k) then { s with th.okRun := bump k false s.th.okRun } else s.setExcluded k true
  | some v =>
    let off : Bool := 2 * s.rd (F.TH_GRP_CFG_DEV g) < (2 * v - median2 given).natAbs
    let s : State := { s with th.devRun := bump k off s.th.devRun, th.okRun := bump k (!off) s.th.okRun }
    if s.rdb (F.TH_HK_CH_VALUE_EXCLUDED k) then
      if SMap.get (fun _ => 0) s.th.okRun k == 50 then s.setExcluded k false else s
    else if 3 ≤ SMap.get (fun _ => 0) s.th.devRun k then s.setExcluded k true
    else s

/-- A group's value and state after its members' checks (R273). -/
def State.formGroup (s : State) (vals : List (Nat × Option Int)) (g : Nat) : State :=
  let ms := s.groupMembers g
  if ms == [] then s else
  let s := ms.foldl (fun s k => s.checkMember g vals k) s
  let healthy := ms.filter fun k => !s.rdb (F.TH_HK_CH_VALUE_EXCLUDED k)
  let excl := (List.range ms.length).foldl (fun m i => setBit m i (s.rdb (F.TH_HK_CH_VALUE_EXCLUDED (ms.getD i 0)))) 0
  let s := (s.wr (F.TH_GRP_STATE_HEALTHY g) healthy.length).wr (F.TH_GRP_STATE_EXCL g) excl
  if healthy.length < 2 then
    if s.rdb (F.TH_GRP_STATE_TOO_HOT g) then s
    else ((s.wrb (F.TH_GRP_STATE_TOO_HOT g) true).wrb F.TH_EVENT_TOO_HOT true).event (evCode 5 1 6) g
  else
    let vs := healthy.filterMap fun k => (vals.find? (·.1 == k)).bind (·.2)
    let s := s.wrb (F.TH_GRP_STATE_TOO_HOT g) false
    match vs with
    | [] => s
    | v :: rest => s.wrisat (F.TH_GRP_STATE_VALUE g) (rest.foldl max v)

/-- A group's value, 0.1 °C; none while it is too hot. -/
def State.grpVal (s : State) (g : Nat) : Option Int :=
  if s.rdb (F.TH_GRP_STATE_TOO_HOT g) then none else some (s.rdi (F.TH_GRP_STATE_VALUE g))

/-- A group's value is above a limit; a too-hot group is above every limit (R273). -/
def State.grpAbove (s : State) (g : Nat) (lim : Int) : Bool := match s.grpVal g with
  | none => true
  | some v => lim < v

/-! ### Die levels, shutdown (R284 to R287) -/

/-- T_j, 0.1 °C, and whether a die group is too hot. -/
def State.tj (s : State) : Int := max (s.rdi (F.TH_GRP_STATE_VALUE 30)) (s.rdi (F.TH_GRP_STATE_VALUE 31))
def State.dieTooHot (s : State) : Bool := (s.grpVal 30).isNone || (s.grpVal 31).isNone

/-- A level is held: entered at `at'` and left below it minus 5 °C (R284). -/
def levelHeld (was : Bool) (t at' : Int) : Bool := at' ≤ t || (was && at' - 50 ≤ t)

/-- The partition saves its totals as on early warning and stops metering (R286). -/
def State.stopMetering (s : State) : State :=
  let open' := s.met.tot.sess.isOpen
  let s : State := { s with met.tot.sess.broken := s.met.tot.sess.broken || open' }
  s.powerFail

/-- A thermal shutdown (R286); it ends a start (R520). -/
def State.thermalShutdown (s : State) (g : Nat) : State :=
  let hot30 := s.grpAbove 30 1499
  if s.rdb F.TH_STATUS_SHUTDOWN then (if hot30 && s.met.booking then s.stopMetering else s) else
  let s := s.withdrawSteps 7 4 true
  let s := (s.wrb F.TH_STATUS_SHUTDOWN true).wrb F.TH_EVENT_SHUTDOWN true
  let s := ((s.wr64 F.TH_SD_TIME_LO s.now).wrisat F.TH_SD_INFO_PEAK s.tj).wr F.TH_SD_INFO_GROUP g
  let s := (s.inc F.TH_SHUTDOWNS).barAdd 5 1
  let s := s.event (evCode 5 0 3) g
  let s : State := { s with sys.running := false, sys.startPending := none }
  if hot30 then s.stopMetering else s

/-- The levels at the end of a round (R284). -/
def State.dieLevels (s : State) : State :=
  let t := s.tj
  let s := (s.wri F.TH_DIE_MAIN (s.rdi (F.TH_GRP_STATE_VALUE 31))).wri F.TH_DIE_METRO (s.rdi (F.TH_GRP_STATE_VALUE 30))
  let hot := s.dieTooHot
  let w := hot || levelHeld (s.rdb F.TH_STATUS_WARN) t 1300
  let old := s.rd F.TH_STATUS_THROTTLE
  let lvl := if hot || levelHeld (old == 2) t 1450 then 2 else if levelHeld (1 ≤ old) t 1400 then 1 else 0
  let s := if w && !s.rdb F.TH_STATUS_WARN then (s.wrb F.TH_EVENT_WARN true).event (evCode 5 2 1) 0 else s
  let s := if old < lvl then (s.wrb F.TH_EVENT_THROTTLE true).event (evCode 5 2 2) lvl else s
  let s := ((s.wrb F.TH_STATUS_WARN w).wr F.TH_STATUS_THROTTLE lvl).wr F.CLK_STATUS_APP_DIV lvl
  if 1500 ≤ t || hot then
    s.thermalShutdown (if s.grpAbove 31 1499 then 31 else 30)
  else s

/-- THERMAL_RESTART (R287): the unit restarts with source THERMAL. -/
def execThermalRestart (s : State) : Out := .next (if s.rdb F.TH_STATUS_SHUTDOWN then s.mainReset 8 false else s)

/-! ### Charging windows (R288) -/

/-- The windows of an outlet, and a stack's case limit (R288). -/
def State.windows (s : State) : State :=
  let pin := s.rd F.TH_OBS_CFG_PIN_GRP
  let lo := s.rdi F.TH_WINDOW_PIN_MIN * 10
  let hi := s.rdi F.TH_WINDOW_PIN_MAX * 10
  let cs := s.rdi F.TH_WINDOW_CASE_MAX * 10
  if s.kind == .outlet then
    let below := match s.grpVal pin with
      | none => false
      | some v => v < lo
    let inside := match s.grpVal pin with
      | none => false
      | some v => lo + 50 ≤ v && v ≤ hi - 50
    let rp := if below || s.grpAbove pin hi then true else if inside then false else s.rdb F.TH_STATUS_REFUSE_PIN
    let rc := if s.grpAbove 29 cs then true else if s.grpAbove 29 (cs - 50) then s.rdb F.TH_STATUS_REFUSE_CASE else false
    let s := (s.wrb F.TH_STATUS_REFUSE_PIN rp).wrb F.TH_STATUS_REFUSE_CASE rc
    if s.vst == vCharge && s.active && (s.grpAbove pin hi || s.grpAbove 29 cs) then s.toStopping false else s
  else if s.kind == .stack then
    { s with th.caseStop := if s.grpAbove 29 cs then true else if s.grpAbove 29 (cs - 50) then s.th.caseStop else false }
  else s

/-! ### T_MODULE (R120, R283) -/

/-- The exact value of an fp32 register; one that is no finite number has no stated value (log 1). -/
def fpReal (b : Nat) : Rat := if nonFinite b then ((Config.free 31 b : Nat) : Rat) else mkRat (Fp.ofBits b).scaled (2 ^ 150)

/-- Loss of the stack in W at an output power in 0.01 W, from its own curve: linear between points of 150 kW; beyond 1,200 kW the
curve states none (log 1). -/
def curveLoss (curve : List Nat) (p : Nat) : Rat :=
  let pt (i : Nat) : Int := ((curve.getD (i + 1) 0 : Nat) : Int) * 100
  let i := p / 15000000
  if 120000000 < p then ((Config.free 32 p : Nat) : Rat)
  else if i == 8 then mkRat (pt 8) 1
  else mkRat (pt i * 15000000 + (pt (i + 1) - pt i) * ((p % 15000000 : Nat) : Int)) 15000000

/-- T_MODULE of a stack, 0.1 °C, rounded up and saturated; a too-hot heat-sink group gives the highest value (R273, R283). -/
def State.tModule (s : State) : Int :=
  match s.grpVal s.role.sinkGrp with
  | none => 32767
  | some v =>
    let loss := curveLoss s.sht.curve (s.sht.vOut * s.sht.iOut).natAbs
    clampI (-32768) 32767 ((v : Rat) + 10 * fpReal (s.rd F.TH_STACK_ZTH) * loss).ceil

/-! ### The end of a round -/

/-- One source of R493: its bin, or the held-back bins under a throttle level (R285). -/
def State.binRound (s : State) (src : Nat) (v : Option Int) : State :=
  let i := 20 * src + tempBin v
  if s.rd F.TH_STATUS_THROTTLE != 0 then
    { s with bar.deferred := SMap.set (fun _ => 0) i (SMap.get (fun _ => 0) s.bar.deferred i + 1) s.bar.deferred }
  else s.tempAdd i 1

/-- The held-back bins are added when the throttle level is left (R285, R493). -/
def State.flushBins (s : State) : State :=
  if s.rd F.TH_STATUS_THROTTLE != 0 then s
  else { s.bar.deferred.foldl (fun (s : State) (e : Nat × Nat) => s.tempAdd e.1 e.2) s with bar.deferred := [] }

/-- The role's group of R493: the heat-sink group of a stack, the pin group of an outlet. -/
def State.roleGroup (s : State) : Option Nat := match s.kind with
  | .stack => some s.role.sinkGrp
  | .outlet => some s.role.pinGrp
  | _ => none

/-- Histograms and thermal cycles of the round (R493, R494). -/
def State.barRound (s : State) : State :=
  let s := s.flushBins
  let s := (s.binRound 0 (s.grpVal 29)).binRound 1 (s.grpVal 31)
  let s := match s.roleGroup with
    | some g => s.binRound 2 (s.grpVal g)
    | none => s
  if s.kind == .stack && (s.grpVal s.role.sinkGrp).isSome then s.rainflow s.tModule else s

def State.cool (s : State) (l : Nat) : CoolSt := SMap.get (fun _ => {}) s.th.cool l
def State.setCool (s : State) (l : Nat) (c : CoolSt) : State := { s with th.cool := SMap.set (fun _ => {}) l c s.th.cool }

/-- A flow fault is reported at its onset (R277). -/
def State.reportFlow (s : State) (l : Nat) : State :=
  if s.rdb (F.TH_LOOP_STATUS_FLOW_LOW l) then s else
  ((s.wrb (F.TH_LOOP_STATUS_FLOW_LOW l) true).wrb F.TH_EVENT_FLOW_LOW true).event (evCode 5 2 7) l

/-- Flow and pressure of a loop at the end of a round (R274, R277): `pulse` is the flow that a pulse input gives, 0.1 L/min. A flow
channel with RANGE_ERR is an unreadable flow at once. -/
def State.coolRound (s : State) (vals : List (Nat × Option Int)) (l pulse : Nat) : State :=
  match s.role.cool[l]? with
  | none => s
  | some d =>
    let val (k : Nat) : Option Int := (vals.find? (·.1 == k)).bind (·.2)
    let q : Option Nat := if d.flowSrc == 2 then (val d.flowIn).map Int.toNat else some pulse
    let c := s.cool l
    let c := if d.flowSrc == 2 then { c with unreadable := q.isNone } else { c with unreadable := c.unreadable && pulse == 0 }
    let q := if c.unreadable then 0 else q.getD 0
    let s := s.wrsat (F.TH_LOOP_STATE_Q l) q
    let s := if c.unreadable then (if d.flowSrc == 2 then s.reportFlow l else s)
      else if s.rd (F.TH_LOOP_STATE_Q_DEM l) ≤ 2 * q then s.wrb (F.TH_LOOP_STATUS_FLOW_LOW l) false else s
    match d.pressCh.bind val with
    | none => s.setCool l c
    | some p =>
      let pMax : Int := s.rd (F.TH_LOOP_PRESS_P_MAX l)
      let pMin : Int := s.rd (F.TH_LOOP_PRESS_P_MIN l)
      let running := 2000 ≤ s.rd (F.TH_LOOP_STATUS_DUTY l)
      let c := { c with high := if pMax < p then min 3 (c.high + 1) else 0,
                        low := if p < pMin && running then min 3 (c.low + 1) else 0 }
      let s := s.setCool l c
      let s := if c.high == 3 && !s.rdb (F.TH_LOOP_STATUS_PRESS_HIGH l) then
          ((s.wrb (F.TH_LOOP_STATUS_PRESS_HIGH l) true).wrb F.TH_EVENT_PRESS true).event (evCode 5 2 8) l else s
      let s := if 10 * p ≤ 9 * pMax then s.wrb (F.TH_LOOP_STATUS_PRESS_HIGH l) false else s
      let s := if c.low == 3 && !s.rdb (F.TH_LOOP_STATUS_PRESS_LOW l) then
          ((s.wrb (F.TH_LOOP_STATUS_PRESS_LOW l) true).wrb F.TH_EVENT_PRESS true).event (evCode 5 2 9) l else s
      if pMin ≤ p then s.wrb (F.TH_LOOP_STATUS_PRESS_LOW l) false else s

/-- A round's values are available (R269 to R273, R284, R288, R493). -/
def State.hkRoundEnd (s : State) (raw : List Int) (flows : List Nat) : State :=
  let vals := s.hkRound raw
  let s := vals.foldl State.showHk s
  let s := (List.range 32).foldl (fun s g => s.formGroup vals g) s
  let s := s.wrb F.TH_STATUS_ANY_TOO_HOT ((List.range 32).any fun g => s.rdb (F.TH_GRP_STATE_TOO_HOT g))
  let s := (List.range 2).foldl (fun s l => s.coolRound vals l (flows.getD l 0)) s
  let s := s.wr F.TH_ROUNDS ((s.rd F.TH_ROUNDS + 1) % 2 ^ 32)
  (s.windows.barRound).dieLevels

/-- HK_ROUND_END (R284). -/
def execHkRoundEnd (raw : List Int) (flows : List Nat) (s : State) : Out := .next (s.hkRoundEnd raw flows)

/-! ### Coolant loops (R274 to R277) -/

/-- Mean coolant temperature of a loop, °C (R278): the mean of the inlet and outlet groups' values. -/
def State.coolantTemp (s : State) (l : Nat) : Rat :=
  mkRat (s.rdi (F.TH_GRP_STATE_VALUE (s.rd (F.TH_LOOP_MAP_IN_GRP l))) +
    s.rdi (F.TH_GRP_STATE_VALUE (s.rd (F.TH_LOOP_MAP_OUT_GRP l)))) 20

/-- Cable resistance at a temperature, Ω (R278). -/
def State.cableRes (s : State) (t : Rat) : Rat := fpReal (s.rd F.TH_OBS_RES20) * (1 + fpReal (s.rd F.TH_OBS_ALPHA) * (t - 20))

/-- A flow to the nearest 0.1 L/min. -/
def roundNat (x : Rat) : Nat := (x + 1 / 2).floor.toNat

/-- Feed-forward of a cable loop, 0.1 L/min (R276). -/
def State.cableFF (s : State) (l : Nat) : Nat :=
  let qNom := s.rd (F.TH_LOOP_FLOW_Q_NOM l)
  let qMin := s.rd (F.TH_LOOP_FLOW_Q_MIN l)
  let forecast := match s.mrk.outlet with
    | some e => e.iForecast
    | none => 0
  let iF : Rat := mkRat (max s.iNow.natAbs forecast) 10
  let target : Rat := mkRat (s.rdi (F.TH_LOOP_FF_TARGET l)) 10
  let heat := iF * iF * s.cableRes target
  let rConv := fpReal (s.rd F.TH_OBS_RCONV)
  let hot := (s.grpVal (s.rd (F.TH_LOOP_MAP_IN_GRP l))).isNone || (s.grpVal (s.rd (F.TH_LOOP_MAP_OUT_GRP l))).isNone
  let q := if hot then 16 * qNom
    else if heat ≤ 0 then qMin
    else
      let req := (target - s.coolantTemp l) / heat
      if req ≤ rConv then 16 * qNom else roundNat (fpReal (s.rd F.TH_OBS_RFLOW) * qNom / (req - rConv))
  min (max q qMin) (16 * qNom)

/-- Feed-forward of a stack loop (R276): in MODE CONNECT, HOLD and RAMP. -/
def State.stackFF (s : State) (l : Nat) : Nat :=
  match s.mrk.stack with
  | some e => if 2 ≤ e.mode && e.mode ≤ 4 then roundNat (mkRat (s.rd (F.TH_LOOP_FLOW_Q_NOM l) * min 10000 e.ceiling) 10000) else 0
  | none => 0

/-- A rise of Q_FF takes effect at once, a fall after the hold (R276). -/
def State.takeFF (s : State) (l q : Nat) : State :=
  let c := s.cool l
  if c.qff ≤ q then (s.setCool l { c with qff := q, holdMax := none }).wrb (F.TH_LOOP_STATUS_HOLDING l) false
  else if s.rd (F.TH_LOOP_FF_HOLD l) == 0 then (s.setCool l { c with qff := q, holdMax := none }).wrb (F.TH_LOOP_STATUS_HOLDING l) false
  else (s.setCool l { c with holdMax := some (max q (c.holdMax.getD 0)) }).wrb (F.TH_LOOP_STATUS_HOLDING l) true

/-- Write the duty of the auxiliary half-bridge bound to a loop (R241, R275). -/
def State.bindDuty (s : State) (a duty : Nat) : State :=
  if s.rdb (F.GDA_HB_CFG_BIND a) then s.setAux a { s.aux a with bound := duty } else s

/-- One coolant loop at a round start (R274, R275). -/
def State.coolStart (s : State) (l : Nat) : State :=
  match s.role.cool[l]? with
  | none => s
  | some d =>
    let off (s : State) (a : Nat) : State := s.bindDuty a 0
    if !s.rdb (F.TH_LOOP_CFG_ENABLE l) || s.inLull then
      let s := off s d.pumpHb
      let s := match d.fan with
        | some a => off s a
        | none => s
      s.wr (F.TH_LOOP_STATUS_DUTY l) 0
    else
      let s := s.takeFF l (if d.kindStack then s.stackFF l else s.cableFF l)
      let c := s.cool l
      let qDem := max (s.rd (F.TH_LOOP_FLOW_Q_MIN l)) c.qff
      let s := s.wrsat (F.TH_LOOP_STATE_Q_DEM l) qDem
      let err : Int := (qDem : Int) - s.rd (F.TH_LOOP_STATE_Q l)
      let applied := s.rd (F.GDA_HB_DUTY_NOW_DUTY d.pumpHb)
      let stuck := applied == 0 || 10000 ≤ applied || (s.rdb (F.GDA_HB_STATUS_CAPPED d.pumpHb) && 9800 ≤ applied) || c.unreadable
      let c := if stuck then c else { c with integral := c.integral + s.rd (F.TH_LOOP_PI_KI l) * err }
      let s := s.setCool l c
      let duty : Int := s.rd (F.TH_LOOP_PUMP_DUTY_MIN l) + s.rd (F.TH_LOOP_PUMP_DUTY_PER_Q l) * qDem +
        s.rd (F.TH_LOOP_PI_KP l) * err + rneInt c.integral 50
      let held := s.rdb (F.TH_LOOP_STATUS_PRESS_HIGH l) || s.rdb (F.TH_LOOP_STATUS_PRESS_LOW l)
      let duty := if held then s.rd (F.TH_LOOP_STATUS_DUTY l) else (clampI 0 10000 duty).toNat
      let s := (s.wr (F.TH_LOOP_STATUS_DUTY l) duty).bindDuty d.pumpHb duty
      match d.fan with
      | none => s
      | some a =>
        let fan := match s.grpVal d.inGrp with
          | none => 10000
          | some t => (clampI 0 10000 (s.rd (F.TH_LOOP_FAN_KP l) * (t - s.rdi (F.TH_LOOP_FAN_T_IN l)))).toNat
        s.bindDuty a fan

/-- A round starts: the TH safe boundary, then the loops' duties (R62, R269, R275). -/
def State.hkRoundStart (s : State) : State := ((s.boundary [(10, 0)]).coolStart 0).coolStart 1

/-- HK_ROUND_START (R269). -/
def execHkRoundStart (s : State) : Out := .next s.hkRoundStart

/-- The hold has run out: Q_FF falls to the highest value seen in it (R276). -/
def State.ffHoldEnd (s : State) (l : Nat) : State :=
  let c := s.cool l
  match c.holdMax with
  | none => s
  | some q => (s.setCool l { c with qff := q, holdMax := none }).wrb (F.TH_LOOP_STATUS_HOLDING l) false

/-- FF_HOLD_END (R276). -/
def execFfHoldEnd (l : Fin 2) (s : State) : Out := .next (s.ffHoldEnd l)

/-- Low or unreadable flow has lasted 2 s at a duty of at least 2,000 (R277). -/
def State.flowFault (s : State) (l : Nat) (noPulse : Bool) : State :=
  match s.role.cool[l]? with
  | none => s
  | some d =>
    if s.rd (F.TH_LOOP_STATUS_DUTY l) < 2000 then s else
    let s := if noPulse && d.flowSrc == 1 then
        (s.setCool l { s.cool l with unreadable := true }).wr (F.TH_LOOP_STATE_Q l) 0 else s
    if 2 * s.rd (F.TH_LOOP_STATE_Q l) < s.rd (F.TH_LOOP_STATE_Q_DEM l) || (s.cool l).unreadable then s.reportFlow l else s

/-- FLOW_FAULT_TIMEOUT (R277). -/
def execFlowFaultTimeout (l : Fin 2) (noPulse : Bool) (s : State) : Out := .next (s.flowFault l noPulse)

/-! ### The observer (R278 to R282) -/

/-- A temperature in 2^-32 °C. -/
def toFix (x : Rat) : Int := (x * (2 ^ 32 : Nat) + 1 / 2).floor
def ofFix (x : Int) : Rat := mkRat x (2 ^ 32)

/-- What the observer works with in one step: 1/Θ (none where Θ is 0), T_f, R_CONV and so on, as exact numbers. -/
structure ObsIn where
  tf : Rat
  theta : Rat
  res20 : Rat
  alpha : Rat
  cap : Rat
  kpin : Rat
  tau : Rat
  tCond : Rat
  tPin : Rat

/-- The observer's inputs from the registers and the cable loop (R278, R279). -/
def State.obsIn (s : State) : ObsIn :=
  let l := s.rd F.TH_OBS_CFG_LOOP
  let qNom : Rat := s.rd (F.TH_LOOP_FLOW_Q_NOM l)
  let q : Rat := s.rd (F.TH_LOOP_STATE_Q l)
  let lowest := qNom / 16
  let q := if q < lowest then lowest else q
  let tau := fpReal (s.rd F.TH_OBS_TAU_PIN)
  { tf := s.coolantTemp l
    theta := fpReal (s.rd F.TH_OBS_RCONV) + fpReal (s.rd F.TH_OBS_RFLOW) * qNom / q
    res20 := fpReal (s.rd F.TH_OBS_RES20)
    alpha := fpReal (s.rd F.TH_OBS_ALPHA)
    cap := fpReal (s.rd F.TH_OBS_CAP)
    kpin := fpReal (s.rd F.TH_OBS_KPIN)
    tau := if tau < 1 / 10 then 1 / 10 else tau
    tCond := mkRat (s.rdi F.TH_OBS_LIMIT_T_COND_MAX) 10
    tPin := mkRat (s.rdi F.TH_OBS_LIMIT_T_PIN_MAX) 10 }

/-- The conductor equation is CAP · dT/dt = c − a · T (R278). -/
def ObsIn.a (o : ObsIn) (i2 : Rat) : Rat := 1 / o.theta - i2 * o.res20 * o.alpha
def ObsIn.c (o : ObsIn) (i2 : Rat) : Rat := i2 * o.res20 * (1 - 20 * o.alpha) + o.tf / o.theta

/-- T_c after a time under a constant mean square of the current: the exact solution; without thermal resistance it is T_f. -/
def ObsIn.conductor (o : ObsIn) (i2 t dt : Rat) : Rat :=
  if o.theta == 0 then o.tf
  else if o.cap == 0 then t
  else if o.a i2 == 0 then t + o.c i2 * dt / o.cap
  else
    let fin := o.c i2 / o.a i2
    fin + (t - fin) * Config.expNeg (o.a i2 * dt / o.cap)

/-- m after a time (R279). -/
def ObsIn.pin (o : ObsIn) (i2 m dt : Rat) : Rat :=
  let fin := o.tf + o.kpin * i2
  fin + (m - fin) * Config.expNeg (dt / o.tau)

/-- b after a time: it moves towards the pin value minus m with 10 s, both solved together, within −5 °C to +30 °C (R279). -/
def ObsIn.bias (o : ObsIn) (i2 pin m b dt : Rat) : Rat :=
  let fin := o.tf + o.kpin * i2
  let d := m - fin
  let e10 := Config.expNeg (dt / 10)
  let x := if o.tau == 10 then pin - fin + (b - (pin - fin) - d * dt / 10) * e10
    else
      let k := d * o.tau / (10 - o.tau)
      pin - fin + k * Config.expNeg (dt / o.tau) + (b - (pin - fin) - k) * e10
  if x < -5 then -5 else if 30 < x then 30 else x

/-- The observer starts or restarts (R280). -/
def State.obsStart (s : State) : State :=
  if s.th.started then s else
  match s.th.partner with
  | some (c, m, b) => { s with th.started := true, th.tc := c, th.m := m, th.b := b }
  | none =>
    if !s.zeroI then
      { s with th.started := true, th.tc := toFix s.obsIn.tCond, th.m := toFix s.obsIn.tPin, th.b := 0 }
    else
      let t := max (s.rdi (F.TH_GRP_STATE_VALUE (s.rd (F.TH_LOOP_MAP_OUT_GRP (s.rd F.TH_OBS_CFG_LOOP)))))
        (s.rdi (F.TH_GRP_STATE_VALUE (s.rd F.TH_OBS_CFG_PIN_GRP)))
      { s with th.started := true, th.tc := toFix (mkRat t 10), th.m := toFix (mkRat t 10), th.b := 0 }

/-- The credit is 0 (R281). -/
def State.noCredit (s : State) (valid : Bool) : Bool :=
  let l := s.rd F.TH_OBS_CFG_LOOP
  !valid || (s.grpVal (s.rd F.TH_OBS_CFG_PIN_GRP)).isNone || (s.grpVal (s.rd (F.TH_LOOP_MAP_IN_GRP l))).isNone ||
    (s.grpVal (s.rd (F.TH_LOOP_MAP_OUT_GRP l))).isNone || s.obsIn.res20 == 0 || s.obsIn.cap == 0

/-- The steady state at a constant current, 0.1 A, keeps both limits (R281). -/
def ObsIn.sustains (o : ObsIn) (b : Rat) (n : Nat) : Bool :=
  let i2 : Rat := mkRat (n * n) 100
  (if o.theta == 0 then decide (o.tf ≤ o.tCond) else decide (0 < o.a i2) && decide (o.c i2 ≤ o.tCond * o.a i2)) &&
    decide (o.tf + o.kpin * i2 + b ≤ o.tPin)

/-- A constant current, 0.1 A, keeps both limits for 100 ms from the estimate (R281): both solutions are monotone in time. -/
def ObsIn.holds100 (o : ObsIn) (tc m b : Rat) (n : Nat) : Bool :=
  let i2 : Rat := mkRat (n * n) 100
  decide (tc ≤ o.tCond) && decide (o.conductor i2 tc (1 / 10) ≤ o.tCond) && decide (m + b ≤ o.tPin) &&
    decide (o.pin i2 m (1 / 10) + b ≤ o.tPin)

/-- The highest current, 0.1 A, up to a bound (R281). -/
def bestCurrent (bound : Nat) (ok : Nat → Bool) : Nat := bisect (fun n => n ≤ bound && ok n) 15 0

/-- One step of the observer and its credit (R280, R281): `iSq` is the mean square of the current over the step, in (1/4,096 A)². -/
def State.obsStep (s : State) (iSq : Nat) (valid : Bool) : State :=
  if s.kind != .outlet then s else
  let s := s.obsStart
  let o := s.obsIn
  let i2 : Rat := mkRat iSq (4096 * 4096)
  let pin : Rat := mkRat (s.rdi (F.TH_GRP_STATE_VALUE (s.rd F.TH_OBS_CFG_PIN_GRP))) 10
  let tc := ofFix s.th.tc
  let m := ofFix s.th.m
  let b := ofFix s.th.b
  let s : State := if valid then
      { s with th.tc := toFix (o.conductor i2 tc (1 / 100)), th.m := toFix (o.pin i2 m (1 / 100)),
               th.b := toFix (o.bias i2 pin m b (1 / 100)) }
    else s
  let tc := ofFix s.th.tc
  let m := ofFix s.th.m
  let b := ofFix s.th.b
  let tenth (x : Rat) : Int := (10 * x + 1 / 2).floor
  let s := ((s.wrisat F.TH_OBS_EST_T_COND (tenth tc)).wrisat F.TH_OBS_EST_T_PIN (tenth (m + b))).wrisat F.TH_OBS_BIAS_BIAS (tenth b)
  if s.noCredit valid then
    ((s.wr F.TH_OBS_CREDIT_I_SUST 0).wr F.TH_OBS_CREDIT_I_80 0).wrb F.TH_OBS_CFG_VALID false
  else
    let bound := min 30000 s.role.iRated
    ((s.wr F.TH_OBS_CREDIT_I_SUST (bestCurrent bound (o.sustains b))).wr F.TH_OBS_CREDIT_I_80
      (bestCurrent bound (o.holds100 tc m b))).wrb F.TH_OBS_CFG_VALID true

/-- OBSERVER_STEP (R280). -/
def execObserverStep (iSq : Nat) (valid : Bool) (s : State) : Out := .next (s.obsStep iSq valid)

/-- The bound of R282 on the reference of DEMAND, 0.1 A. -/
def State.demandBound (s : State) (iMax : Nat) : Nat :=
  let b := min iMax (s.rd F.TH_OBS_CREDIT_I_80)
  let o := s.obsIn
  if o.tCond ≤ ofFix s.th.tc || o.tPin ≤ ofFix s.th.m + ofFix s.th.b then min b (s.rd F.TH_OBS_CREDIT_I_SUST) else b

end Sys2Proof.Machine
end

