-- ==== Sys2Proof/Machine/Loop.lean ====
section
/-!
DEFINITION. Machine/Loop.lean: the loops of the Shuttle engine at a commit (chapters 06 and 07): coefficients and gain regions, the
program parts, the COMMIT list, plausibility counts, references and the mode sequencer.
-/
namespace Sys2Proof.Machine
open Sys2Proof

def State.lp (s : State) (m : Nat) : LoopSt := SMap.get (fun _ => {}) s.sht.loops m
def State.setLp (s : State) (m : Nat) (x : LoopSt) : State := { s with sht.loops := SMap.set (fun _ => {}) m x s.sht.loops }

/-- A word of a loop's state memory. -/
def LoopSt.word (x : LoopSt) (w : Nat) : Nat := SMap.get (fun _ => 0) x.state (w % 256)
def State.word (s : State) (m w : Nat) : Nat := (s.lp m).word w
def State.setWord (s : State) (m w v : Nat) : State :=
  s.setLp m { s.lp m with state := SMap.set (fun _ => 0) (w % 256) (v % 2 ^ 32) (s.lp m).state }

/-- A word of a loop's compensator memory. -/
def State.compWord (s : State) (m w : Nat) : Nat := SMap.get (fun _ => 0) (s.lp m).comp (w % 8192)
def State.setComp (s : State) (m w v : Nat) : State :=
  s.setLp m { s.lp m with comp := SMap.set (fun _ => 0) (w % 8192) (v % 2 ^ 32) (s.lp m).comp }

/-- A repetitive compensator channel. -/
def State.rc (s : State) (e : Nat) : RcSt := SMap.get (fun _ => {}) s.sht.rc e
def State.setRc (s : State) (e : Nat) (x : RcSt) : State := { s with sht.rc := SMap.set (fun _ => {}) e x s.sht.rc }

/-- The freeze conditions of R219, bit by bit. -/
def State.rcFreeze (s : State) (m e : Nat) : Nat :=
  let x := s.rc e
  let l := s.lp m
  let bits := [!x.locked, x.rangeBad, s.rdb (F.SHT_LOOP_STATUS_HOLD_OFF m),
    s.rd (F.SHT_LOOP_MODE_NEXT m) != 0 || l.stop.isSome, l.pcount.any (· != 0), x.freezePeriod, s.rdb (F.SHT_RC_CFG_FREEZE e),
    l.blendK < l.blendN]
  (List.range 8).foldl (fun n i => setBit n i (bits.getD i false)) 0

/-- A rational as binary32 (R168). -/
def fpOfRat (x : Rat) : Nat := ofRatBits x.num x.den

/-! ### Coefficients and gain regions (R190, R191) -/

/-- The set a blend comes from: a region's words, or the captured blend buffer. -/
def State.fromCoef (s : State) (m : Nat) (d : LoopDecl) (n : Nat) : Nat :=
  match (s.lp m).blendFrom with
  | some r => s.rd (F.SHT_LOOP_COEF m (r * d.gset + n))
  | none => (s.lp m).blendBuf.getD n 0

/-- What LD returns for a word of coefficient memory (R191): a gain-set word blended in fp32, a fixed word as it stands. -/
def State.coef (s : State) (m : Nat) (d : LoopDecl) (n : Nat) : Nat :=
  if d.gset ≤ n then s.rd (F.SHT_LOOP_COEF m (n % 512)) else
  let x := s.lp m
  let to' := s.rd (F.SHT_LOOP_COEF m (s.rd (F.SHT_LOOP_STATUS_REGION m) * d.gset + n))
  if x.blendN ≤ x.blendK then to' else
  let fr := s.fromCoef m d n
  fpAdd fr (fpMul (fpRat x.blendK x.blendN) (fpSub to' fr))

/-- The region in which a value lies when each threshold it crosses is taken with its band (R190). -/
def State.regionFor (s : State) (m : Nat) (d : LoopDecl) (v r : Nat) : Nat :=
  let band (j : Nat) (up : Bool) : Option Int := fpBand (s.rd (F.SHT_LOOP_THETA m j)) (s.rd (F.SHT_LOOP_HYST m j)) up
  let above (j : Nat) : Bool := match fpBand v 0 true, band j true with
    | some x, some b => b < x
    | _, _ => false
  let below (j : Nat) : Bool := match fpBand v 0 true, band j false with
    | some x, some b => x < b
    | _, _ => false
  let up := (List.range 8).foldl (fun (q : Nat) _ => if q + 1 < d.nRegions && above q then q + 1 else q) r
  if up != r then up
  else (List.range 8).foldl (fun (q : Nat) _ => if 0 < q && below (q - 1) then q - 1 else q) r

/-- Show the blend position: α × 255 rounded down (SHT_LOOP[m]_STATUS.BLEND). -/
def State.showBlend (s : State) (m : Nat) : State :=
  let x := s.lp m
  s.wr (F.SHT_LOOP_STATUS_BLEND m) (if x.blendN ≤ x.blendK then 255 else x.blendK * 255 / x.blendN)

/-- The gain schedule at a commit: the blend advances, then the committed scheduling variable decides the region (R190, R191). -/
def State.schedule (s : State) (m : Nat) (d : LoopDecl) : State :=
  let x := s.lp m
  let x := { x with blendK := if x.blendK < x.blendN then x.blendK + 1 else x.blendK }
  let s := s.setLp m x
  let r := s.rd (F.SHT_LOOP_STATUS_REGION m)
  let q := s.regionFor m d (x.word d.schedWord) r
  if q == r then s.showBlend m else
  let n := max 1 (min 256 (s.rd (F.SHT_LOOP_SCHED_BLEND_LEN m)))
  let x' : LoopSt :=
    if x.blendK < x.blendN then
      if x.blendFrom == some q then { x with blendFrom := some r, blendK := x.blendN - x.blendK }
      else { x with blendBuf := (List.range d.gset).map (s.coef m d ·), blendFrom := none, blendK := 0, blendN := n }
    else { x with blendFrom := some r, blendK := 0, blendN := n }
  ((s.setLp m x').wr (F.SHT_LOOP_STATUS_REGION m) q).showBlend m

/-! ### Program parts (R178, R183, R184) -/

/-- A control ADC's result as a signed number of counts of 1/16 LSB (R171). -/
def State.adc (s : State) (a : Nat) : Int := s.rdi (F.PWM_ADC_RESULT a)

/-- What the lanes of a loop read: `adcs` gives the 32-bit results. -/
def State.laneEnv (s : State) (m : Nat) (d : LoopDecl) (adcs : List Nat) : LaneEnv where
  stateWord := fun n => s.word m n
  coef := fun n => s.coef m d n
  comp := fun n => s.compWord m n
  adc := fun a => adcs.getD a 0

/-- The results of all sixteen ADCs as a lane loads them. -/
def State.adcWords (s : State) : List Nat := (List.range 16).map fun a => s.rd (F.PWM_ADC_RESULT a)

/-- Lanes of the loop, outcomes, and outcomes that one lane computes: lane j runs the next `per` of them in order. -/
def laneCount (d : LoopDecl) : Nat := max 1 (bitsBelow d.lanes 8).length
def State.outcomes (s : State) (m : Nat) : Nat := let nb := s.rd (F.SHT_LOOP_CTRL_NB m); if nb == 0 then 0 else 2 ^ nb
def outcomesPerLane (n l : Nat) : Nat := max 1 ((n + l - 1) / l)

/-- The bracket width W in counts (R183). -/
def State.width (s : State) (m : Nat) : Nat := 2 ^ s.rd (F.SHT_LOOP_STATUS_BW_NOW m)

/-- The centre of outcome i's bracket, (i − N / 2) × W + W / 2, exact (R183). -/
def centre (n w i : Nat) : Rat := mkRat (2 * (((i : Int) - (n / 2 : Nat)) * w) + w) 2

/-- PREDICT leaves its lane in this state. -/
def State.predictLane (s : State) (m : Nat) (d : LoopDecl) (drawn : Nat) (adcs : List Nat) : Lane :=
  runPart drawn (s.laneEnv m d adcs) false d.predict Lane.fresh

/-- Run OUTCOME for i on a lane that already holds what ran on it before. -/
def State.runOutcome (s : State) (m : Nat) (d : LoopDecl) (drawn : Nat) (adcs : List Nat) (l : Lane) (i : Nat) : Lane :=
  let l := { l with out := [], valid := true, nonfin := false }
  let l := (l.put drawn 0 (fpOfRat (centre (s.outcomes m) (s.width m) i))).put drawn 1 i
  runPart drawn (s.laneEnv m d adcs) true d.outcome l

/-- The lane that computes outcome i, after it has done so. -/
def State.outcomeLane (s : State) (m : Nat) (d : LoopDecl) (drawn : Nat) (adcs : List Nat) (i : Nat) : Lane :=
  let per := outcomesPerLane (s.outcomes m) (laneCount d)
  let first := i / per * per
  (List.range (i - first + 1)).foldl (fun l j => s.runOutcome m d drawn adcs l (first + j)) (s.predictLane m d drawn adcs)

/-- The loop's lowest lane after PREDICT and its outcomes. -/
def State.lowestLane (s : State) (m : Nat) (d : LoopDecl) (drawn : Nat) (adcs : List Nat) : Lane :=
  let per := outcomesPerLane (s.outcomes m) (laneCount d)
  (List.range (min per (s.outcomes m))).foldl (fun l j => s.runOutcome m d drawn adcs l j) (s.predictLane m d drawn adcs)

/-- EXACT in the recovery slot of the lowest lane, with the measured key deviation in register 0 (R178, R186). -/
def State.exactLane (s : State) (m : Nat) (d : LoopDecl) (drawn : Nat) (old new : List Nat) (dev : Int) : Lane :=
  let l := { s.lowestLane m d drawn old with out := [], valid := true, nonfin := false }
  runPart drawn (s.laneEnv m d new) false d.exact (l.put drawn 0 (fpOfInt dev))

/-- Count saturations of a lane (R169). -/
def State.countSat (s : State) (k n : Nat) : State :=
  { s with sht.saturated := SMap.set (fun _ => 0) k (SMap.get (fun _ => 0) s.sht.saturated k + n) s.sht.saturated }

/-- The saturations of a sample (R169): PREDICT in the loop's lowest lane, and each lane's own outcomes. -/
def State.countSats (s : State) (m : Nat) (d : LoopDecl) (drawn : Nat) (adcs : List Nat) : State :=
  let lanes := bitsBelow d.lanes 8
  let n := s.outcomes m
  let per := outcomesPerLane n (laneCount d)
  let pre := s.predictLane m d drawn adcs
  let own (j : Nat) : Nat := if n ≤ j * per then 0 else (s.outcomeLane m d drawn adcs (min n (j * per + per) - 1)).sats - pre.sats
  (List.range lanes.length).foldl (fun x j => x.countSat (lanes.getD j 0) (own j + if j == 0 then pre.sats else 0)) s

/-- BACKGROUND leaves the lowest lane in this state (R178). -/
def State.backgroundLane (s : State) (m : Nat) (d : LoopDecl) (drawn : Nat) (adcs : List Nat) : Lane :=
  runPart drawn (s.laneEnv m d adcs) false d.background (s.predictLane m d drawn adcs)

/-- Cycles that every lane of the loop has left before a conversion end besides PREDICT and its outcomes (R182). -/
def State.spare (s : State) (m : Nat) (d : LoopDecl) : Nat :=
  s.cyclesAvailable d (fun k => SMap.get resetCell s.live k) - d.predict.length -
    (if s.outcomes m == 0 then 0 else outcomesPerLane (s.outcomes m) (laneCount d) * d.outcome.length) - 16

/-- The sample of the BG_DIV samples in which BACKGROUND finishes, running in the spare cycles (R178), 1 the first. -/
def State.backgroundEnd (s : State) (m : Nat) (d : LoopDecl) : Nat :=
  let n := s.spare m d
  max 1 (min d.bgDiv ((d.background.length + n - 1) / max 1 n))

/-- Does BACKGROUND finish in the sample? -/
def State.backgroundDue (s : State) (m : Nat) (d : LoopDecl) : Bool :=
  d.background != [] && !(s.lp m).bgDone && s.backgroundEnd m d ≤ (s.lp m).bgCount + 1

/-- The BG_DIV samples go on by one. -/
def State.backgroundStep (s : State) (m : Nat) (d : LoopDecl) (due : Bool) : State :=
  let x := s.lp m
  let last := d.bgDiv ≤ x.bgCount + 1
  s.setLp m { x with bgCount := if last then 0 else x.bgCount + 1, bgDone := !last && (x.bgDone || due) }

/-- The words that BACKGROUND writes in the sample in which it finishes (R178). -/
def State.background (s : State) (m : Nat) (d : LoopDecl) (drawn : Nat) (adcs : List Nat) : SMap (Option Nat) :=
  if s.backgroundDue m d then (s.backgroundLane m d drawn adcs).out else []

/-- A deviation, saturated to the 21-bit signed range (R183). -/
def sat21 (i : Int) : Int := clampI (-(2 ^ 20 : Nat)) ((2 ^ 20 : Nat) - 1) i

/-- The deviations of the predicted channels from the rounded predictions in scratch registers 2 to 5 (R178, R183). -/
def State.deviations (s : State) (d : LoopDecl) (drawn : Nat) (l : Lane) : List Int :=
  (List.range d.predicted.length).map fun c => sat21 (s.adc (d.predicted.getD c 0) - fpToInt (l.get drawn (2 + c)))

/-- The outcome index of a key deviation (R183). -/
def outcomeIndex (n bw : Nat) (dev : Int) : Int := dev / (2 ^ bw : Nat) + (n / 2 : Nat)

/-! ### Plausibility (R193, R196) -/

/-- Channel number of position c of a loop. -/
def pch (m c : Nat) : Nat := 4 * m + c

/-- The persistence counts at a commit; a channel that becomes implausible on an active unit waits for its attribution (R193, R194). -/
def State.plausible (s : State) (m : Nat) (devs : List Int) : State :=
  (List.range devs.length).foldl (fun (s : State) c =>
    let p := pch m c
    let x := s.lp m
    let dev := (devs.getD c 0).natAbs
    let n := x.pcount.getD c 0
    if !s.rdb (F.SHT_PCH_CFG_ENABLE p) then s.setLp m { x with pcount := x.pcount.set c 0, acting := x.acting.filter (· != c) }
    else
      let persist := max 1 (s.rd (F.SHT_PCH_CFG_PERSIST p))
      let n' := if 16 * s.rd (F.SHT_PCH_LIM_R_LIM p) < dev then n + 1 else n - 1
      let bad := (n < persist && persist ≤ n') || 16 * s.rd (F.SHT_PCH_LIM_R_HARD p) < dev
      let fresh := bad && s.active && !x.acting.contains c && !x.attributing.contains c
      s.setLp m { x with
        pcount := x.pcount.set c n'
        acting := if n' == 0 then x.acting.filter (· != c) else x.acting
        attributing := if fresh then x.attributing ++ [c] else x.attributing }) s

/-- A channel of the loop stands under the hold action (R196). -/
def State.actionHolds (s : State) (m : Nat) : Bool :=
  (s.lp m).acting.any fun c => s.rd (F.SHT_PCH_CFG_ACTION (pch m c)) == 1

/-- A half-bridge of an active unit is held off by protection, by lock-out or by claim gating (R188): not by its own loop, nor by an action of
the plausibility supervisor. -/
def State.gatedOff (s : State) (d : LoopDecl) : Bool :=
  s.active && (!s.en || !s.gd.onPermitted || (bitsBelow d.hbMask 12).any fun h =>
    ((s.hb h).holders.any fun x => x != .loop && x != .plausibility) || s.chLocked (2 * h) || s.chLocked (2 * h + 1))

/-! ### The COMMIT list (R180, R184, R186, R188, R215) -/

/-- Exact fp32 value as a rational; a NaN or infinity gives none. -/
def fpRat? (b : Nat) : Option Rat := (fpExact b).map fun i => mkRat i (2 ^ 150)

/-- SOURCE + CORR[0] × (d − c_i) + the sum over p of CORR[p] × d_p, exact; none where a term is not finite (R184). -/
def commitExact (e : CommitEntry) (src : Nat) (corr : List Rat) : Option Rat :=
  (List.range 4).foldl (fun (a : Option Rat) p =>
    match a, fpRat? (e.corr.getD p 0) with
    | some x, some k => some (x + k * corr.getD p 0)
    | _, _ => none) (fpRat? src)

/-- Do any corrections take part? -/
def corrects (e : CommitEntry) (corr : List Rat) : Bool :=
  (List.range 4).any fun p => corr.getD p 0 != 0 && e.corr.getD p 0 % 2 ^ 31 != 0

/-- The value an entry commits to a state or compensator word: the source as it stands, or corrected and rounded once to fp32. -/
def commitWord (e : CommitEntry) (src : Nat) (corr : List Rat) : Nat :=
  if !corrects e corr then src else
  match commitExact e src corr with
  | some x => fpOfRat x
  | none => nanBits

/-- Nearest integer of a rational, ties to even. -/
def rneRat (x : Rat) : Int := rneInt x.num x.den

/-- A compare value: rounded to the nearest 1/16 tick, ties to even, held within 0 to 16 × P (R184). -/
def commitCompare (e : CommitEntry) (src p : Nat) (corr : List Rat) : Nat :=
  match commitExact e src corr with
  | some x => (clampI 0 (16 * p : Nat) (rneRat x)).toNat
  | none => 0

/-- The running compensator channels that an entry flagged COMPENSATOR feeds (R215): the one whose points it writes, those whose error
word it is. -/
def State.feeds (s : State) (m : Nat) (e : CommitEntry) : List Nat :=
  ((List.range 4).map (4 * m + ·)).filter fun c => s.rdb (F.SHT_RC_CFG_ENABLE c) &&
    ((e.kind == 2 && c == 4 * m + s.word m e.target % 8192 / 2048) || (e.kind == 1 && s.rd (F.SHT_RC_CFG_ERR_WORD c) == e.target % 256))

/-- INT words of a mode as the loop declares them. -/
def mapOf (d : LoopDecl) (mode : Nat) : Option ModeMap := d.modes.find? (·.mode == mode)
def intWords (d : LoopDecl) (mode : Nat) : List Nat := match mapOf d mode with
  | none => []
  | some x => if x.dual then [x.intWord, x.intWord + 1] else [x.intWord]

/-- Integrator words that the sequencer keeps an entry from: the incoming mode's in sample n + 1, the outgoing mode's during the blend
(R211). -/
def State.lockedInts (s : State) (m : Nat) (d : LoopDecl) : List Nat :=
  let x := s.lp m
  let next := s.rd (F.SHT_LOOP_MODE_NEXT m)
  if next == 0 then [] else if x.entered then intWords d x.hoFrom else intWords d next

/-- Is an entry skipped? -/
def State.skips (s : State) (m : Nat) (d : LoopDecl) (e : CommitEntry) : Bool :=
  (e.integrator && (s.rdb (F.SHT_LOOP_STATUS_HOLD_OFF m) || s.actionHolds m ||
    (e.kind == 1 && (s.lockedInts m d).contains e.target))) ||
  (e.compensator && (s.feeds m e).any fun c => s.rcFreeze m c != 0) ||
  (e.kind == 2 && s.rdb (F.SHT_RC_CFG_ENABLE (4 * m + s.word m e.target % 8192 / 2048)))

/-- One entry: `out` the outcome buffer with the corrections that go with it, `bg` BACKGROUND's words. -/
def State.commitEntry (s : State) (m : Nat) (d : LoopDecl) (out bg : SMap (Option Nat)) (corr : List Rat) (e : CommitEntry) : State :=
  if s.skips m d e then s else
  let put (src : Nat) (corr : List Rat) : State := match e.kind with
    | 0 =>
      let h := e.target / 2 % 16
      let v := commitCompare e src (s.hb h).period corr
      if e.target % 2 == 0 then s.wr (F.PWM_HB_CMP_ON_CMP_ON h) v else s.wr (F.PWM_HB_CMP_OFF_CMP_OFF h) v
    | 1 => s.setWord m e.target (commitWord e src corr)
    | _ => s.setComp m (s.word m e.target) (commitWord e src corr)
  match SMap.get (fun _ => none) out e.source with
  | some src => put src corr
  | none => match SMap.get (fun _ => none) bg e.source with
    | some src => put src []
    | none => s

/-- The whole list. -/
def State.commitAll (s : State) (m : Nat) (d : LoopDecl) (out bg : SMap (Option Nat)) (corr : List Rat) : State :=
  d.commit.foldl (fun s e => s.commitEntry m d out bg corr e) s

/-! ### The generator's command (R175, R176, R197, R198) -/

/-- The command that compares prescribe at a position, in 1/16 tick (R197). -/
def commandAt (on off pos : Nat) : Bool := on ≤ pos && pos < off

/-- The length of the interval that would begin at a position, 1/16 tick: to the end of the pulse, or to the next one; none where it has no
end in sight (R197, R198). -/
def HbSt.lengthFrom (x : HbSt) (on : Bool) (pos : Nat) : Option Nat :=
  let p := 16 * x.period
  if on then (if p ≤ x.cmpOff && x.cmpOn == 0 then none else some (min p x.cmpOff - pos))
  else if x.cmpOff ≤ x.cmpOn then none
  else if pos < x.cmpOn then some (x.cmpOn - pos) else some (p - pos + x.cmpOn)

/-- The command at a position of half-bridge h becomes what the compares prescribe (R197), but no interval is shorter than MIN_PULSE (R198):
one that would begin shorter is omitted, and one that runs goes on until it is long enough (log 108); the channels follow (R232). -/
def State.genCommand (s : State) (h pos : Nat) : State :=
  let x := s.hb h
  let min' := 16 * s.rd (F.PWM_HB_MIN_PULSE_MIN_PULSE h)
  let want := commandAt x.cmpOn x.cmpOff pos
  if want == s.rdb (F.PWM_HB_STATUS_OUT h) || (pos : Int) - x.edgeAt < min' || (x.lengthFrom want pos).any (· < min') then s
  else ((s.setHb h { x with edgeAt := pos }).wrb (F.PWM_HB_STATUS_OUT h) want).follow h

/-- The committed compare values reach the generators of a loop: at once, each edge moved to the commit instant counted, or at the
start of the next period (R175, R176). `pos` gives each half-bridge's position, 1/16 tick, in increasing number. -/
def State.generators (s : State) (m : Nat) (d : LoopDecl) (pos : List Nat) : State :=
  let hbs := bitsBelow d.hbMask 12
  (List.range hbs.length).foldl (fun (s : State) i =>
    let h := hbs.getD i 0
    let on := s.rd (F.PWM_HB_CMP_ON_CMP_ON h)
    let off := s.rd (F.PWM_HB_CMP_OFF_CMP_OFF h)
    let p := pos.getD i 0
    let s := s.wr (F.PWM_HB_COUNT_POSITION h) (p / 16)
    let x := s.hb h
    if s.rdb (F.SHT_LOOP_CTRL_UPDATE m) then s.setHb h { x with nextCmp := some (on, off) }
    else if x.cmpOn == on && x.cmpOff == off then s.setHb h { x with nextCmp := none }
    else
      let was := s.rdb (F.PWM_HB_STATUS_OUT h)
      let s := (s.setHb h { x with cmpOn := on, cmpOff := off, nextCmp := none }).genCommand h p
      if s.rdb (F.PWM_HB_STATUS_OUT h) != was then s.inc (F.SHT_LOOP_LATE m) else s) s

end Sys2Proof.Machine
end

