-- ==== Sys2Proof/Machine/Safe.lean ====
section
/-!
DEFINITION. Machine/Safe.lean: the safety functions (chapter 16).
-/
namespace Sys2Proof.Machine
open Sys2Proof

/-! ### Outputs -/

/-- Index of the cross-point of a column among the role's contactors (R492). -/
def State.xpIndex (s : State) (col : Nat) : Nat :=
  ((s.pat.content.crossPoints.filter fun p => p.1 == s.role.rowCol && p.2 < col).length)

/-- Breaking current of a stack's output, A, and whether it is above MRK_SEQ.ZERO (R140, R492). -/
def State.breakA (s : State) : Nat := s.sht.iOut.natAbs / 10
def State.zeroOut (s : State) : Bool := s.sht.iOut.natAbs ≤ 10 * s.rd F.MRK_SEQ_ZERO

/-- The cross-point coil is driven open (R119, R144). -/
def State.xpDropCoil (s : State) : State :=
  if s.mrk.coil == 0 then s else
  ({ s with mrk.coil := 0, mrk.ready := false }).contactorOp (s.xpIndex s.mrk.coil) s.breakA (!s.zeroOut)

/-- The two AC contactors' indices among the role's contactors (R492). -/
def State.acIndex (s : State) : Nat := (s.pat.content.crossPoints.filter fun p => p.1 == s.role.rowCol).length

/-- The stack's AC contactor coils are released (R431, R516). -/
def State.acDrop (s : State) : State :=
  let s := if s.sys.preCoil then s.contactorOp s.acIndex 0 false else s
  let s := if s.sys.mainCoil then s.contactorOp (s.acIndex + 1) 0 false else s
  { s with sys.preCoil := false, sys.mainCoil := false, sys.available := false }

/-- Does the unit drive the output of a code: 0 SO_POS, 1 SO_NEG, 2 SO_DSC, 3 pre-charge and 4 main AC coil, 5 to 20 the cross-point
coils of columns 1 to 16, 21 and 22 SFO[0] and SFO[1] (R440; log 34)? Every one is claim-gated (R405) and belongs to one kind of role:
the outlet's contactors and discharge, the stack's coils; SFO to a unit that holds a role (R16). -/
def State.drives (s : State) (code : Nat) : Bool :=
  s.en &&
  match code, s.kind with
  | 0, .outlet => s.vlk.soPos
  | 1, .outlet => s.vlk.soNeg
  | 2, .outlet => s.vlk.soDsc
  | 3, .stack => s.sys.preCoil
  | 4, .stack => s.sys.mainCoil
  | 21, k => k != .none && s.saf.sfo.getD 0 false
  | 22, k => k != .none && s.saf.sfo.getD 1 false
  | c, .stack => 5 ≤ c && c ≤ 20 && s.mrk.coil == c - 4
  | _, _ => false

/-- The code of tested output i, if it is declared. -/
def State.outCode (s : State) (i : Nat) : Option Nat := s.role.testedOutputs[i]?

/-- Tested output i is driven on now; an off-pulse releases it (R440). -/
def State.outDriven (s : State) (i : Nat) : Bool :=
  match s.outCode i with
  | none => false
  | some c => s.drives c && !s.saf.pulsing.contains i

/-- Show what every output is driven to. -/
def State.showOuts (s : State) : State := (List.range 24).foldl (fun s i => s.wrb (F.SAF_OUT_STATUS_DRIVEN i) (s.outDriven i)) s

/-- Release every tested output and both safety outputs (R441). -/
def State.releaseOutputs (s : State) : State :=
  let t := s.role.testedOutputs
  let s := if t.contains 0 || t.contains 1 then s.openContactors else s
  let s : State := if t.contains 2 then { s with vlk.soDsc := false } else s
  let s := if t.contains 3 || t.contains 4 then s.acDrop else s
  let s := if t.any fun c => 5 ≤ c && c ≤ 20 then s.xpDropCoil else s
  { s with saf.sfo := [false, false] }

/-- The half-bridges of every protection group. -/
def State.groupedHbs (s : State) : List Nat := (List.range 12).filter fun h => (s.groupOf h).isSome

/-- Hold every protection group off, or let it go, for the safety functions (R234, R431). -/
def State.safetyHold (s : State) (on : Bool) : State :=
  s.groupedHbs.foldl (fun s h => if on then (if (s.hb h).holders.contains .safety then s else s.hold h .safety)
    else if (s.hb h).holders.contains .safety then s.release h .safety else s) s

/-! ### Latches, lock-out and what the registers show -/

def State.safeIn (s : State) (k : Nat) : SafeIn := SMap.get (fun _ => {}) s.saf.inputs k
def State.setSafeIn (s : State) (k : Nat) (x : SafeIn) : State := { s with saf.inputs := SMap.set (fun _ => {}) k x s.saf.inputs }
def State.conn (s : State) (j : Nat) : ConnSt := SMap.get (fun _ => {}) s.saf.conns j
def State.setConn (s : State) (j : Nat) (x : ConnSt) : State := { s with saf.conns := SMap.set (fun _ => {}) j x s.saf.conns }

/-- A safety lock-out is in force in either unit (R443). -/
def State.lockedOut (s : State) : Bool := s.saf.record.isSome || s.saf.partnerCause != 0

/-- The functions the role holds (R431). -/
def State.funcMask (s : State) : Nat := match s.kind with
  | .outlet => 0x3D
  | .stack => 0xE
  | _ => 0xC

/-- Own and consumed latches together: what PAIR_DATA carries (R434, R443). -/
def State.ownLatches (s : State) : Nat := (List.range 16).foldl (fun m j => m ||| (s.conn j).latch) s.saf.ownLatch

/-- SAF_DEMAND, SAF_STATUS and SAF_FAULT (R451, R452). -/
def State.showSafety (s : State) : State :=
  let l := s.ownLatches ||| s.saf.partnerLatch
  let s := ((s.wr F.SAF_DEMAND_LATCHED l).wrb F.SAF_STATUS_DEMAND (l != 0)).wrb F.SAF_STATUS_LOCKOUT s.lockedOut
  match s.saf.record with
  | some (c, src) => ((s.wr F.SAF_FAULT_CAUSE c).wr F.SAF_FAULT_SOURCE src).wrb F.SAF_FAULT_FROM_PARTNER false
  | none => ((s.wr F.SAF_FAULT_CAUSE s.saf.partnerCause).wr F.SAF_FAULT_SOURCE 0).wrb F.SAF_FAULT_FROM_PARTNER
      (s.saf.partnerCause != 0)

/-- An outlet with a session beyond PLUGGED shuts down (R431, R441, R450). -/
def State.esdIfOpen (s : State) : State := if vCableCheck ≤ s.vst && s.vst ≤ vStopping then s.esd else s

/-- A safety fault (R441): outputs released, groups held off, emergency shutdown, the lock-out record, LOCKOUT and its event. A record
that stands is kept. -/
def State.safetyFault (s : State) (cause source : Nat) : State :=
  let s := (s.releaseOutputs).safetyHold true
  let s := if s.vst == vCharge || s.vst == vPreCharge then s.esd else s
  let s := if s.saf.record.isSome then s else { s.inc F.SAF_LOCKOUTS with saf.record := some (cause, source) }
  (s.showSafety.showOuts).event (evCode 2 0 1) (cause * 256 + source)

/-! ### Inputs (R433) -/

/-- The pin levels at which the channels of an input demand: open in equivalent mode; A open or B closed in antivalent mode. -/
def demands (antivalent : Bool) (x : SafeIn) : Bool × Bool :=
  (!x.a || !x.firstA, if antivalent then x.b || !x.firstB else !x.b || !x.firstB)

/-- The input demands now. -/
def State.inDemands (s : State) (k : Nat) : Bool :=
  s.rdb (F.SAF_IN_CFG_ENABLE k) && (let d := demands (s.rdb (F.SAF_IN_CFG_MODE k)) (s.safeIn k); d.1 || d.2)

/-- The input demands by a level that has been accepted: such a demand latches (R433, R442). -/
def State.inLatches (s : State) (k : Nat) : Bool :=
  let x := s.safeIn k
  s.rdb (F.SAF_IN_CFG_ENABLE k) && ((x.firstA && !x.a) ||
    (x.firstB && (if s.rdb (F.SAF_IN_CFG_MODE k) then x.b else !x.b)))

/-- Function bits demanded by inputs, and those of them that latch. -/
def State.inputBits (s : State) : Nat :=
  (List.range 4).foldl (fun m k => if s.inDemands k then m ||| s.rd (F.SAF_IN_CFG_FUNCS k) else m) 0
def State.latchBits (s : State) : Nat :=
  (List.range 4).foldl (fun m k => if s.inLatches k then m ||| s.rd (F.SAF_IN_CFG_FUNCS k) else m) 0

/-- The two channels of an input disagree (R433). -/
def State.inDisagrees (s : State) (k : Nat) : Bool :=
  let x := s.safeIn k
  x.firstA && x.firstB && (if s.rdb (F.SAF_IN_CFG_MODE k) then x.a == x.b else x.a != x.b)

/-- A channel's level has held for FILTER and is accepted (R433); `held` in 0.1 ms. -/
def State.safetyInput (s : State) (k : Nat) (chB closed : Bool) (held : Nat) : State :=
  if s.inLull || !s.rdb (F.SAF_IN_CFG_ENABLE k) || held < s.rd (F.SAF_IN_CFG_FILTER k) then s
  else
    let x := s.safeIn k
    let s := s.setSafeIn k (if chB then { x with b := closed, firstB := true } else { x with a := closed, firstA := true })
    let s := (s.wrb (F.SAF_IN_STATUS_A k) (s.safeIn k).a).wrb (F.SAF_IN_STATUS_B k) (s.safeIn k).b
    s.wrb (F.SAF_IN_STATUS_DEMANDING k) (s.inDemands k)

/-- SAFETY_INPUT_CHANGE (R433). -/
def execSafetyInputChange (k : Fin 4) (chB closed : Bool) (held : Nat) (s : State) : Out := .next (s.safetyInput k chB closed held)

/-- SAFETY_DISCREPANCY (R433): `ms` is how long the channels have disagreed. -/
def execSafetyDiscrepancy (k : Fin 4) (ms : Nat) (s : State) : Out :=
  .next (if !s.inLull && s.inDisagrees k && s.rdb (F.SAF_IN_CFG_ENABLE k) && s.rd (F.SAF_IN_CFG_DISC k) < ms then s.safetyFault 1 k else s)

/-! ### Frames (R434 to R439) -/

/-- Bytes 0x00 to 0x0F of a frame (R434). -/
def frameBody (f : SafetyFrame) : List Nat :=
  leBytes 4 f.connId ++ leBytes 2 f.seq ++ leBytes 2 f.wdMs ++ leBytes 2 f.req ++ [f.pState, f.pCause] ++ leBytes 4 f.pairData

/-- The CRC of a frame verifies (R435). -/
def frameCrcOk (f : SafetyFrame) : Bool := f.crc == crc32c (frameBody f)

/-- SF_REQ of the unit's produced frames (R433, R434): own demands that stand or are latched. -/
def State.sfReq (s : State) : Nat := s.inputBits ||| s.saf.ownLatch

/-- A fresh frame of a produced connection (R434, R436). On the pair link LOCKOUT and its cause are those of the unit's own record: a
lock-out held from the partner is not sent back to it (R443; log 125). -/
def State.makeFrame (s : State) (j : Nat) (pairLink : Bool) : SafetyFrame × State :=
  let c := s.conn j
  let f : SafetyFrame := {
    connId := s.rd (F.SAF_CONN_ID j), seq := c.txSeq, wdMs := s.rd (F.SAF_CONN_STATUS_WD_MS j), req := s.sfReq,
    pState := (if s.sys.running then 1 else 0) + (if (if pairLink then s.saf.record.isSome else s.lockedOut) then 2 else 0) +
      (if s.saf.ownLatch != 0 then 4 else 0),
    pCause := match s.saf.record with
      | some (c, _) => c
      | none => if pairLink then 0 else s.saf.partnerCause,
    pairData := if pairLink then s.ownLatches + s.saf.resetCount % 256 * 65536 else 0 }
  let s := s.setConn j { c with txSeq := (c.txSeq + 1) % 65536 }
  ({ f with crc := crc32c (frameBody f) }, s.wr (F.SAF_CONN_STATUS_SEQ j) f.seq)

/-- The consumed connection of a kind (2 ring, 3 pair link) with an identity; of the pair link's two the second is consumed (R436). -/
def State.connFor (s : State) (kind id : Nat) : Option Nat :=
  let js := (List.range 16).filter fun j => s.rd (F.SAF_CONN_CFG_KIND j) == kind
  (if kind == 3 then js.drop 1 else js).find? fun j => s.rd (F.SAF_CONN_ID j) == id

/-- A refused frame: counted; eight within 1 s are a FRAME fault (R437), of which the pair-link connection is never the cause (R443). -/
def State.refuseFrame (s : State) (j : Nat) : State :=
  let s := s.inc (F.SAF_CONN_ERR j)
  let c := s.conn j
  let r := (s.now :: c.refused).take 8
  if r.length == 8 && s.now < r.getD 7 0 + 1000000000 && s.rd (F.SAF_CONN_CFG_KIND j) != 3 then (s.setConn j { c with refused := [] }).safetyFault 5 j
  else s.setConn j { c with refused := r }

/-- A safety frame of a connection is accepted or refused (R437). -/
def State.takeFrame (s : State) (j : Nat) (f : SafetyFrame) : State :=
  let c := s.conn j
  let d := (f.seq + 65536 - s.rd (F.SAF_CONN_STATUS_SEQ j)) % 65536
  if !frameCrcOk f || f.wdMs != s.rd (F.SAF_CONN_STATUS_WD_MS j) then s.refuseFrame j
  else if s.rd (F.SAF_CONN_STATUS_STATE j) == 1 then
    if 1 ≤ d && d ≤ 64 then (s.setConn j { c with inbox := some f }).wr (F.SAF_CONN_STATUS_SEQ j) f.seq else s.refuseFrame j
  else if c.first && d == 1 then
    let s := ((s.setConn j { c with first := false, inbox := some f }).wr (F.SAF_CONN_STATUS_SEQ j) f.seq).wr
      (F.SAF_CONN_STATUS_STATE j) 1
    if s.rd (F.SAF_CONN_CFG_KIND j) == 3 then s.wrb F.SAF_STATUS_PARTNER_ABSENT false else s
  else ((s.setConn j { c with first := true }).wr (F.SAF_CONN_STATUS_SEQ j) f.seq).wr (F.SAF_CONN_STATUS_STATE j) 0

/-- A frame of a kind of connection arrives (R437); one whose CONN_ID the unit does not consume has no connection to act on. -/
def State.safetyFrame (s : State) (kind : Nat) (f : SafetyFrame) : State :=
  match s.connFor kind f.connId with
  | none => s
  | some j => s.takeFrame j f

/-- WD_MS passes without an accepted frame (R438). -/
def State.watchdog (s : State) (j : Nat) : State :=
  if s.rd (F.SAF_CONN_STATUS_STATE j) != 1 || s.inLull then s else
  let c := s.conn j
  let s := s.wr (F.SAF_CONN_STATUS_STATE j) 2
  if s.rd (F.SAF_CONN_CFG_KIND j) == 3 then
    (s.setConn j { c with inbox := none, first := false }).wrb F.SAF_STATUS_PARTNER_ABSENT true
  else
    let f := s.rd (F.SAF_CONN_CFG_ON_EXPIRY j) &&& s.funcMask
    (s.setConn j { c with inbox := none, first := false, latch := c.latch ||| f }).safetyFault 4 j

/-- SAFETY_WATCHDOG_EXPIRY (R438). -/
def execSafetyWatchdogExpiry (j : Fin 16) (s : State) : Out := .next (s.watchdog j)

/-! ### Reset of a lock-out (R443) -/

/-- The recorded cause persists (R443). -/
def State.causePersists (s : State) : Bool :=
  match s.saf.record with
  | none => false
  | some (c, src) =>
    if c == 1 then s.inDisagrees src
    else if c == 2 || c == 3 then s.rdb (F.SAF_OUT_STATUS_READBACK src) != s.outDriven src
    else if c == 4 || c == 5 then s.rd (F.SAF_CONN_STATUS_STATE src) != 1
    else s.paramCrc != s.rd F.SAF_PARAM_CRC

/-- A RESET is carried out: the record clears and it is logged (R443, R448). The reset count advances at the unit that accepted the
command; one whose partner is absent also drops the lock-out it held from it (log 125). -/
def State.clearLockout (s : State) (origin client : Nat) (counts : Bool) : State :=
  let cause := match s.saf.record with
    | some (c, _) => c
    | none => s.saf.partnerCause
  let s := { s with
    saf.record := none
    saf.partnerCause := if s.rdb F.SAF_STATUS_PARTNER_ABSENT then 0 else s.saf.partnerCause
    saf.resetCount := if counts then (s.saf.resetCount + 1) % 256 else s.saf.resetCount }
  let crc := s.rd F.SAF_PARAM_CRC
  (s.safLog 3 origin client cause crc crc 0 0).showSafety

def safCmdAddr : Nat := 0x28008

/-- SAF_CMD RESET (R443). -/
def State.safReset (s : State) (side : Nat) : State :=
  if !s.safety side then s.accessError side eCredential safCmdAddr
  else if s.causePersists then s.accessError side eState safCmdAddr
  else s.clearLockout (originOf side) (s.clientOf side) true

/-- SAF_RESET (R443). -/
def execSafReset (side : Side) (key : BitVec 16) (s : State) : Out :=
  .next (s.command side safCmdAddr key.toNat 0x71D4 fun s => s.safReset side)

/-- Function bits that a present request holds (R442). -/
def State.requested (s : State) : Nat :=
  (List.range 16).foldl (fun m j => m ||| (if s.rd (F.SAF_CONN_STATUS_STATE j) == 1 then (s.conn j).req else 0))
    (s.inputBits ||| s.saf.raised)

/-- Bits of a that are not in b. -/
def bitsWithout (a b : Nat) : Nat := a - (a &&& b)

/-- CLEAR_DEMAND clears the latches that no request holds; it needs the Operate tier (R442). -/
def State.clearDemand (s : State) (side : Nat) : State :=
  if side != 0 && !(SMap.get (fun _ => ({} : ShoreSt)) s.trg.shore side).operate then s.accessError side eCredential safCmdAddr
  else
    let held := s.requested
    let s := { s with saf.ownLatch := s.saf.ownLatch &&& held }
    let s := (List.range 16).foldl (fun (s : State) j =>
      let c := s.conn j
      if c.latch == 0 then s else s.setConn j { c with latch := c.latch &&& held }) s
    s.showSafety

/-- SAF_CLEAR_DEMAND (R442). -/
def execSafClearDemand (side : Side) (key : BitVec 16) (s : State) : Out :=
  .next (s.command side safCmdAddr key.toNat 0x71D4 fun s => s.clearDemand side)

/-- SET_PW (R444): the key is stored by two halves, PW_SET sets, every safety credential closes, SAF_PW_BUF reads zero. -/
def State.setPw (s : State) (side : Nat) : State :=
  let allowed := if s.rdb F.SAF_STATUS_PW_SET then s.safety side else s.maint side
  if !allowed then s.accessError side eCredential safCmdAddr
  else
    let k := (List.range 12).flatMap fun i => wordBytes (s.rd (F.SAF_PW_BUF i))
    let s := { s with saf.pw := s.saf.pw.update { use := 7, bytes := k } true true (s.saf.pw.cw.counter + 1) }
    let s := (List.range 12).foldl (fun (s : State) i => s.wr (F.SAF_PW_BUF i) 0) (s.wrb F.SAF_STATUS_PW_SET true)
    let crc := s.rd F.SAF_PARAM_CRC
    let s := s.safLog 2 (originOf side) (s.clientOf side) 0 crc crc 0 0
    (List.range 5).foldl (fun s k => s.closeCreds k false true) s

/-- SAF_SET_PW (R444). -/
def execSafSetPw (side : Side) (key : BitVec 16) (s : State) : Out :=
  .next (s.command side safCmdAddr key.toNat 0x71D4 fun s => s.setPw side)

/-! ### The evaluation (R432, R439, R440) -/

/-- Act on the accepted frame of one connection (R439, R442, R443). -/
def State.actOnConn (s : State) (j : Nat) : State :=
  let c := s.conn j
  match c.inbox with
  | none => s
  | some f =>
    if s.rd (F.SAF_CONN_CFG_KIND j) == 3 then
      let s := s.setConn j { c with inbox := none }
      let count := f.pairData / 65536 % 256
      let advanced := match s.saf.partnerResets with
        | some n => n != count
        | none => false
      let s := { s with
        saf.partnerLatch := f.pairData % 65536
        saf.partnerCause := if bit f.pState 1 then f.pCause else 0
        saf.partnerResets := some count }
      let s := if advanced && s.saf.record.isSome && !s.causePersists then s.clearLockout 0 255 false else s
      s
    else
      let act := s.rd (F.SAF_CONN_CFG_ACT j)
      let req := f.req &&& act &&& s.funcMask
      let locked := bit f.pState 1
      let dem := bit f.pState 2
      let kept := if dem then c.latch else c.latch &&& f.req
      let latch := kept ||| req ||| (if locked then s.rd (F.SAF_CONN_CFG_ON_EXPIRY j) &&& s.funcMask else 0)
      s.setConn j { c with inbox := none, req := req, producerDemand := dem, producerLocked := locked, latch := latch }

/-- A standby compares every read-back with the active unit's outputs and reports a mismatch once (R440). -/
def State.compareOuts (s : State) (readbacks partnerDrive : Nat) : State :=
  let bad := (List.range 24).filter fun i => (s.outCode i).isSome && bit readbacks i != bit partnerDrive i
  let fresh := bad.filter fun i => !s.saf.mismatch.contains i
  let s := fresh.foldl (fun (s : State) i => s.event (evCode 2 2 5) i) s
  { s with saf.mismatch := bad }

/-- The functions act: what is latched, and what inputs demand before their first acceptance (R431, R433). -/
def State.actOnDemands (s : State) : State :=
  let eff := (s.rd F.SAF_DEMAND_LATCHED ||| s.inputBits) &&& s.funcMask
  let locked := s.lockedOut
  let s := if s.kind == .outlet && (bit eff 0 || bit eff 4 || locked) then s.esdIfOpen else s
  let stop := s.kind == .stack && bit eff 1
  let s := if stop then (s.acDrop).xpDropCoil else s
  let s := if locked then s.releaseOutputs else s
  let s := s.safetyHold (locked || stop)
  let on := s.active && s.en && !locked
  { s with saf.sfo := [on && !bit eff 2, on && !bit eff 3] }

/-- One evaluation of the safety sequencer (R432): the boundary of SAF at the start of a safety cycle, inputs, accepted frames, demands,
read-backs. `partnerDrive` is what the active unit's frames say of its outputs, for a standby. -/
def State.safetyEval (s : State) (readbacks partnerDrive : Nat) : State :=
  if s.inLull then s else
  let s := if s.now % 1000000 < 100000 then s.boundary [(16, 0)] else s
  let s := (List.range 4).foldl (fun (s : State) k => s.wrb (F.SAF_IN_STATUS_DEMANDING k) (s.inDemands k)) s
  let s := (List.range 16).foldl State.actOnConn s
  let s := { s with
    saf.ownLatch := s.saf.ownLatch ||| s.latchBits ||| s.saf.raised ||| (if s.active && !s.saf.wasActive then s.saf.partnerLatch else 0)
    saf.raised := 0
    saf.wasActive := s.active }
  let before := s.rd F.SAF_DEMAND_LATCHED
  let s := s.showSafety
  let fresh := bitsWithout (s.rd F.SAF_DEMAND_LATCHED) before
  let s := if fresh != 0 then s.event (evCode 2 1 2) fresh else s
  let s := s.actOnDemands
  let s := (List.range 24).foldl (fun (s : State) i => s.wrb (F.SAF_OUT_STATUS_READBACK i) (bit readbacks i)) s.showOuts
  if s.active then { s with saf.mismatch := [] } else s.compareOuts readbacks partnerDrive

/-- SAFETY_EVALUATION (R432). -/
def execSafetyEvaluation (readbacks partnerDrive : BitVec 24) (s : State) : Out :=
  .next (s.safetyEval readbacks.toNat partnerDrive.toNat)

/-! ### Off-pulses and read-backs (R440, R441) -/

/-- At its ring-time slot the active unit releases a tested output that it drives on (R440); none within 1 ms of its EN rise (R450). -/
def execOffPulseStart (i : Fin 24) (time : Nat) (s : State) : Out :=
  .next (if s.active && s.outDriven i && !s.sys.earlyWarning && time % 500000000 == i.val * 20000000 &&
      s.rd64 F.PAIR_LAST_TIME_LO + 1000000 ≤ time then ({ s with saf.pulsing := i.val :: s.saf.pulsing }).showOuts else s)

/-- The off-pulse ends (R440, R450): no verdict where the output is no longer to be on. -/
def State.pulseEnd (s : State) (i : Nat) (offOk onOk : Bool) : State :=
  if !s.saf.pulsing.contains i then s else
  let s := ({ s with saf.pulsing := s.saf.pulsing.filter (· != i) }).showOuts
  if !s.outDriven i then s
  else if !offOk then (s.wrb (F.SAF_OUT_STATUS_PASSED i) false).safetyFault 2 i
  else if !onOk then (s.wrb (F.SAF_OUT_STATUS_PASSED i) false).safetyFault 3 i
  else s.wrb (F.SAF_OUT_STATUS_PASSED i) true

/-- OFF_PULSE_END (R440): `offOk` the read-back was off within 150 µs, `onOk` on within 100 µs of the end. -/
def execOffPulseEnd (i : Fin 24) (offOk onOk : Bool) (s : State) : Out := .next (s.pulseEnd i offOk onOk)

/-- A read-back has disagreed with its drive for 1 ms, as the evaluations saw it (R441). -/
def State.readbackStuck (s : State) (i : Nat) : State :=
  if !s.active || (s.outCode i).isNone || s.saf.pulsing.contains i || s.rdb (F.SAF_OUT_STATUS_READBACK i) == s.outDriven i then s
  else if s.outDriven i then s.safetyFault 3 i else s.safetyFault 2 i

/-- READBACK_STUCK (R441). -/
def execReadbackStuck (i : Fin 24) (s : State) : Out := .next (s.readbackStuck i)

/-! ### The parameter set's check (R446, R447) -/

/-- SAF_PARAM_CRC is recomputed; `upset` says that the live set no longer holds what was applied. -/
def State.paramCheck (s : State) (upset : Bool) : State :=
  if !s.inLull && (upset || s.paramCrc != s.rd F.SAF_PARAM_CRC) then s.safetyFault 6 0 else s

/-- PARAM_CRC_CHECK (R446, R447). -/
def execParamCrcCheck (upset : Bool) (s : State) : Out := .next (s.paramCheck upset)

/-- Safety inputs and connections after a start or a wake: inputs not yet accepted, connections in RESYNC (R433, R437). -/
def State.safetyResync (s : State) : State :=
  let s := { s with saf.inputs := [], saf.conns := s.saf.conns.map fun (e : Nat × ConnSt) =>
    (e.1, ({ e.2 with first := false, inbox := none, req := 0 } : ConnSt)) }
  (List.range 16).foldl (fun (s : State) j => s.wr (F.SAF_CONN_STATUS_STATE j) 0) s

end Sys2Proof.Machine
end

