-- ==== Sys2Proof/Machine/Modes.lean ====
section
/-!
DEFINITION. Machine/Modes.lean: references of the output and front-end modes (R206), requests and hand-overs (R208 to R214).
-/
namespace Sys2Proof.Machine
open Sys2Proof

/-! ### Mode codes (R204) -/

def mOff : Nat := 0
def mAfeCurrent : Nat := 1
def mAfeDclink : Nat := 2
def mAfeForming : Nat := 3
def mOutCurrent : Nat := 4
def mOutVoltage : Nat := 5
def mOutPower : Nat := 6
def mOutExport : Nat := 7

/-- The mode in force, and the incoming mode; 0 = no hand-over. -/
def State.nowMode (s : State) (m : Nat) : Nat := s.rd (F.SHT_LOOP_MODE_NOW m)
def State.nextMode (s : State) (m : Nat) : Nat := s.rd (F.SHT_LOOP_MODE_NEXT m)

/-- A loop that declares output modes. -/
def outputLoop (d : LoopDecl) : Bool := d.modes.any fun x => 4 ≤ x.mode

/-- The declared output loops of the unit. -/
def State.outputLoops (s : State) : List LoopDecl := s.loops.filter outputLoop

/-! ### References (R133, R138, R206, R207) -/

/-- The share of the applied entry at an instant: 1 = the whole (R133). -/
def State.share (s : State) (t : Nat) : Rat :=
  match s.mrk.stack with
  | none => 0
  | some e =>
    let fr : Rat := mkRat e.shareFrom 32768
    let to' : Rat := if e.mode == 5 then 0 else mkRat e.shareTo 32768
    if e.mode == 3 then to'
    else if e.mode == 4 || e.mode == 5 then
      if t ≤ s.mrk.stackAt then fr
      else if s.mrk.stackAt + 1000000 * s.mrk.stackRamp ≤ t then to'
      else fr + (to' - fr) * mkRat ((t - s.mrk.stackAt : Nat) : Int) (1000000 * s.mrk.stackRamp)
    else 0

/-- A CONNECT is under way (R142). -/
def State.connecting (s : State) : Bool := s.mrk.seq == .matching || s.mrk.seq == .closing || s.mrk.seq == .closeDebounce

/-- The stack is LEAD by its applied entry. -/
def State.isLead (s : State) : Bool := match s.mrk.stack with
  | some e => e.lead
  | none => false

/-- The latest DEMAND, or one that asks for nothing. -/
def State.dem (s : State) : Demand := s.mrk.demand.getD {}

/-- Ceiling and power cap of the applied entry, 0.1 A and kW. -/
def State.ceiling (s : State) : Nat := match s.mrk.stack with
  | some e => e.ceiling
  | none => 0
def State.pCap (s : State) : Nat := match s.mrk.stack with
  | some e => e.pCap
  | none => 0

/-- EXPORT_ALLOWED and I_EXPORT_MAX of the column's applied outlet entry. -/
def State.exportAllowed (s : State) : Bool := match s.mrk.outlet with
  | some o => o.exportAllowed
  | none => false
def State.exportMax (s : State) : Nat := match s.mrk.outlet with
  | some o => o.iExportMax
  | none => 0

/-- The computed current reference before its bounds, 0.1 A (R206): the share of I_REF, or of the lead stack's current where the column is in
voltage mode, which a LEAD message shows as well as DEMAND (R207, log 109); a ramp to zero replaces it (R138, R140, R207). -/
def State.rawCurrent (s : State) (t : Nat) : Rat :=
  match s.mrk.zeroRamp with
  | some (t0, len, start) => if t0 + len ≤ t then 0 else (start : Rat) * (1 - mkRat ((t - t0 : Nat) : Int) (max 1 len))
  | none =>
    let d := s.dem
    let own := s.share t * (d.iRef : Rat)
    if d.mode == 0 then 0
    else if !s.isLead then
      match s.mrk.lead with
      | some l => if l.shareLead == 0 then own else (l.iLead : Rat) * s.share t * mkRat 32768 l.shareLead
      | none => own
    else own

/-- The stack's own limit of its output current, 0.1 A: 1,000 A and 1.2 MW over the output voltage (R22). -/
def State.stackLimit (s : State) : Rat := if s.sht.vOut ≤ 0 then 10000 else min 10000 (mkRat 120000000 s.sht.vOut.toNat)

/-- CEILING within the stack's own limit, 0.1 A (R22, R206). -/
def State.currentCeiling (s : State) : Rat := min (s.ceiling : Nat) s.stackLimit

/-- OUT_CURRENT's reference, 0.1 A: within 0 to CEILING, and P_CAP over the output voltage (R22, R206). -/
def State.currentRef (s : State) (t : Nat) : Rat :=
  let x := max 0 (min (s.rawCurrent t) s.currentCeiling)
  if s.pCap == 0 || s.sht.vOut ≤ 0 then x else min x (mkRat (s.pCap * 100000 : Nat) s.sht.vOut.toNat)

/-- OUT_EXPORT's reference, 0.1 A, negative; at 0 A without EXPORT_ALLOWED (R206, R208). -/
def State.exportRef (s : State) (t : Nat) : Rat :=
  if !s.exportAllowed then 0 else max (min 0 (s.rawCurrent t)) (-(min (s.ceiling : Rat) (s.share t * (s.exportMax : Nat))))

/-- The voltage reference, 0.1 V: V_REF, or V_BUS while a CONNECT is under way (R206). -/
def State.voltageRef (s : State) : Nat := if s.connecting then s.dem.vBus else s.dem.vRef

/-- A limit under a ramp to zero (R138, R140). -/
def State.ramped (s : State) (t : Nat) (x : Rat) : Rat := match s.mrk.zeroRamp with
  | some _ => min x (max 0 (s.rawCurrent t))
  | none => x

/-- The current limit of OUT_VOLTAGE, 0.1 A (R22, R206). -/
def State.voltageLimit (s : State) (t : Nat) : Rat :=
  if s.connecting then 500 else s.ramped t (min (s.share t * ((s.dem.iRef.natAbs : Nat) : Rat)) s.currentCeiling)

/-- The bound of OUT_POWER's current, 0.1 A (R22, R206). -/
def State.powerLimit (s : State) (t : Nat) : Rat := s.ramped t s.currentCeiling

/-- The references of a mode in their natural units (A, V, kW, kvar, Hz) as the words from REF_WORD on (R204, R206): the reference, then the
current limit of OUT_VOLTAGE and OUT_POWER, or the part of its current that AFE_DCLINK and AFE_FORMING may use, 1 but in a stop (DESIGN
CHOICE, log 110: R222 names one word). `part` is that part. -/
def State.refs (s : State) (m mode t : Nat) (part : Rat := 1) : List Nat :=
  match mode with
  | 1 => [fpOfInt (s.rdi (F.SHT_LOOP_AFE_PQ_P m)), fpOfInt (s.rdi (F.SHT_LOOP_AFE_PQ_Q m))]
  | 2 => [fpRat (s.rd (F.SHT_LOOP_AFE_VDC_VDC m)) 10, fpOfRat part]
  | 3 => [fpRat (s.rd (F.SHT_LOOP_FORM_F_NOM m)) 100, fpOfInt (s.rd (F.SHT_LOOP_FORM_V_NOM m)),
      fpRat (s.rd (F.SHT_LOOP_AFE_VDC_VDC m)) 10, fpOfRat part]
  | 4 => [fpOfRat (s.currentRef t / 10)]
  | 5 => [fpRat s.voltageRef 10, fpOfRat (s.voltageLimit t / 10)]
  | 6 => [fpOfInt s.pCap, fpOfRat (s.powerLimit t / 10)]
  | 7 => [fpOfRat (s.exportRef t / 10)]
  | _ => [0]

/-- How many words the references of a mode take. -/
def refCount : Nat → Nat
  | 1 => 2
  | 2 => 2
  | 3 => 4
  | 5 => 2
  | 6 => 2
  | _ => 1

/-- Write words from a place in state memory on. -/
def State.setWords (s : State) (m w : Nat) (vs : List Nat) : State :=
  (List.range vs.length).foldl (fun s i => s.setWord m (w + i) (vs.getD i 0)) s

/-- What is left of a stop's start: 1 at its beginning, 0 at its end (R213). -/
def StopSt.part (st : StopSt) : Rat := mkRat ((st.n - st.k : Nat) : Int) (max 1 st.n)

/-- The reference words of a stop: the current reference, the current reference vector or the current limit falls linearly to zero (R213). -/
def State.stopRefs (s : State) (m mode t : Nat) (st : StopSt) : List Nat :=
  if mode == mAfeDclink || mode == mAfeForming then s.refs m mode t st.part
  else st.start.map fun v => match fpRat? v with
    | some x => fpOfRat (x * st.part)
    | none => v

/-- The first of the words in which the incoming mode's references stand while its hand-over waits to be entered (log 110). -/
def nextRefWord (d : LoopDecl) : Nat := d.refWord + 4

/-- The commit writes the references of the mode in force, and those of the incoming mode, which the next sample's PART needs (R205, R211),
unless a plausibility action holds them (R196, R206). A stop's own hand-over has the measured current as its reference (R213). -/
def State.writeRefs (s : State) (m : Nat) (d : LoopDecl) (t : Nat) : State :=
  if s.actionHolds m then s else
  let x := s.lp m
  let mode := s.nowMode m
  let now := match x.stop with
    | some st => if mode == mOutVoltage || mode == mOutPower then s.refs m mode t else s.stopRefs m mode t st
    | none => s.refs m mode t
  let s := if mode == mOff then s else s.setWords m d.refWord now
  if s.nextMode m == 0 || x.entered then s
  else s.setWords m (nextRefWord d) (match x.stop with
    | some st => st.start
    | none => s.refs m (s.nextMode m) t)

/-! ### Requests, stops and OFF (R209, R210, R212, R213, R214) -/

/-- OFFSET_WORD and the next word of a DUAL mode. -/
def offsetCount (d : LoopDecl) (mode : Nat) : Nat := match mapOf d mode with
  | some x => if x.dual then 2 else 1
  | none => 1

/-- The loop enters OFF: the mode word, the offset, no hand-over; a request held meanwhile acts from OFF (R213). -/
def State.enterOff (s : State) (m : Nat) (d : LoopDecl) : State :=
  let n := max (offsetCount d (s.nowMode m)) (offsetCount d (s.nextMode m))
  let s := s.setWords m d.offsetWord (List.replicate n 0)
  let s := s.setWord m d.modeWord mOff
  let s := ((s.wr (F.SHT_LOOP_MODE_NOW m) mOff).wr (F.SHT_LOOP_MODE_NEXT m) 0).wrb (F.SHT_LOOP_MODE_STOPPING m) false
  let x := s.lp m
  s.setLp m { x with stop := none, entered := false, hoK := 0, resid := [], req := x.queued.map (·.1),
                     byHost := (x.queued.map (·.2)).getD false, queued := none, retry := none, confirm := (0, 0) }

/-- Samples of the stop ramp: TIME over the sample interval, at least one (R213). -/
def State.stopSamples (s : State) (m : Nat) (d : LoopDecl) : Nat :=
  max 1 (s.rd (F.SHT_LOOP_STOP_TIME m) * 40000 * 2 ^ s.rd (F.PWM_HB_TRIG_SAMPLES d.anchorHb) / max 1 (s.hb d.anchorHb).period)

/-- A stop starts (R213): ignored in OFF and during a stop; a hand-over that has not entered its mode is dropped (R214). -/
def State.startStop (s : State) (m : Nat) (d : LoopDecl) : State :=
  let x := s.lp m
  if s.nowMode m == mOff then
    (s.setLp m { x with req := none, byHost := false, queued := none, retry := none, entered := false }).wr (F.SHT_LOOP_MODE_NEXT m) 0
  else if x.stop.isSome then s
  else
    let mode := s.nowMode m
    let start := if mode == mOutVoltage || mode == mOutPower then [fpRat s.sht.iOut 10]
      else if mode == mAfeCurrent || mode == mAfeForming then [s.word m d.refWord, s.word m (d.refWord + 1)] else [s.word m d.refWord]
    let s := if x.entered then s else s.wr (F.SHT_LOOP_MODE_NEXT m) 0
    (s.setLp m { x with stop := some { start := start, k := 0, n := s.stopSamples m d }, req := none, byHost := false,
                        queued := none, retry := none, confirm := (0, 0) }).wrb (F.SHT_LOOP_MODE_STOPPING m) true

/-- The column that the stack follows. -/
def State.ownColumn (s : State) : Nat := match s.mrk.stack with
  | some e => e.col
  | none => 0

/-- DEMAND with MODE 0 or the outlet's VEHICLE_ESD event: every output loop of a stack of the column is requested OFF (R309). -/
def State.columnOff (s : State) : State :=
  s.outputLoops.foldl (fun (s : State) d => s.startStop d.loop d) { s with mrk.demand := some { s.dem with mode := 0, iRef := 0 } }

/-- A request for a mode: a stop, held during a stop, queued one deep behind a running hand-over, or pending; none while HO_FAIL is
set, nor for a mode that the loop does not declare (R210, R212 to R214). -/
def State.requestMode (s : State) (m : Nat) (d : LoopDecl) (target : Nat) (byHost : Bool) : State :=
  if target == mOff then s.startStop m d
  else if s.rdb (F.SHT_LOOP_MODE_HO_FAIL m) || (mapOf d target).isNone then s
  else
    let x := s.lp m
    if x.stop.isSome || s.nextMode m != 0 then s.setLp m { x with queued := some (target, byHost), retry := none }
    else s.setLp m { x with req := some target, byHost := byHost, retry := none }

/-- The next hand-over towards a target (R209, R210); none where it must wait. `synced` is FLAG_WORD bit 1. -/
def nextDirect (now target : Nat) (synced : Bool) : Option Nat :=
  if now == target then none else
  match now with
  | 0 => if target == 3 then (if synced then none else some 3) else if target == 6 || target == 7 then some 4 else some target
  | 1 => if target == 2 || target == 3 then some target else none
  | 2 => if target == 1 || target == 3 then some target else none
  | 3 => if synced && (target == 1 || target == 2) then some target else none
  | 4 => if target == 5 || target == 6 || target == 7 then some target else none
  | 5 | 6 | 7 => if 4 ≤ target && target ≤ 7 then some 4 else none
  | _ => none

/-- No persistence count of the loop is above 0. -/
def State.countsClear (s : State) (m : Nat) : Bool := (s.lp m).pcount.all (· == 0)

/-- A hand-over may start (R211, R214). -/
def State.mayStart (s : State) (m : Nat) : Bool := !s.rdb (F.SHT_LOOP_STATUS_HOLD_OFF m) && s.countsClear m

/-- A hand-over starts: NEXT = x, STEP = 0 (R211, sample n). -/
def State.beginHandover (s : State) (m next : Nat) : State :=
  let s := s.setLp m { s.lp m with entered := false, hoFrom := s.nowMode m, hoK := 0, resid := [] }
  (s.wr (F.SHT_LOOP_MODE_NEXT m) next).wr (F.SHT_LOOP_MODE_STEP m) 0

/-- What follows a hand-over's end: a target reached is no longer requested, a queued request comes forward (R214). -/
def State.afterHandover (s : State) (m : Nat) : State :=
  let x := s.lp m
  let x : LoopSt := { x with entered := false, hoK := 0, resid := [] }
  let x : LoopSt := if x.req == some (s.nowMode m) then { x with req := none } else x
  let x : LoopSt := match x.queued with
    | some (r, h) => if x.stop.isSome then x else { x with req := some r, byHost := h, queued := none }
    | none => x
  (s.setLp m x).wr (F.SHT_LOOP_MODE_NEXT m) 0

/-- The outgoing output: U of the mode in force, or from OFF the output that produces zero current (R210). -/
def State.outgoing (s : State) (m : Nat) (d : LoopDecl) (zero : List Nat) (n : Nat) : List Nat :=
  match mapOf d (s.nowMode m) with
  | some x => (List.range n).map fun i => s.word m (x.uWord + i)
  | none => (List.range n).map fun i => zero.getD i 0

/-- Enter the incoming mode (R211): the mode word, NOW, OFFSET = r; from OFF the half-bridges follow again. -/
def State.enterMode (s : State) (m : Nat) (d : LoopDecl) (next : Nat) (r : List Nat) : State :=
  let was := s.nowMode m
  let s := (s.setWord m d.modeWord next).setWords m d.offsetWord r
  let s := s.wr (F.SHT_LOOP_MODE_NOW m) next
  let s := s.setLp m { s.lp m with entered := true, resid := r, hoK := 0, abandons := 0 }
  if was == mOff then (bitsBelow d.hbMask 12).foldl (fun s h => s.release h .loop) s else s

/-- An abandoned hand-over (R211, R212): the third in a row towards one target fails and stops the loop. -/
def State.abandon (s : State) (m : Nat) (d : LoopDecl) (next : Nat) : State :=
  let x := s.lp m
  let target := x.req.getD next
  let n := if x.abandonTarget == target then x.abandons + 1 else 1
  let s := (s.wr (F.SHT_LOOP_MODE_NEXT m) 0).inc (F.SHT_LOOP_HO_COUNT_ABANDONED m)
  let s := s.setLp m { x with abandonTarget := target, abandons := n, req := none, retry := some target,
                              retryIn := max 1 (s.rd (F.SHT_LOOP_HO_CFG_RETRY_WAIT m)) }
  let s := s.event (evCode 0xB 3 3) (256 * m + next)
  let s := match (s.lp m).queued with
    | some (r, h) => s.setLp m { s.lp m with req := some r, byHost := h, queued := none, retry := none }
    | none => s
  if n < 3 then s
  else
    let s := (s.wrb (F.SHT_LOOP_MODE_HO_FAIL m) true).event (evCode 0xB 1 4) m
    let s := s.setLp m { s.lp m with abandons := 0, retry := none }
    s.startStop m d

/-- Sample n + 1: the incoming integrator is back-calculated; the hand-over is entered or abandoned (R211). A stop's own hand-over is
never abandoned (R213). -/
def State.backCalc (s : State) (m : Nat) (d : LoopDecl) (zero : List Nat) : State :=
  let next := s.nextMode m
  match mapOf d next with
  | none => s.wr (F.SHT_LOOP_MODE_NEXT m) 0
  | some x =>
    let n := if x.dual then 2 else 1
    let u := s.outgoing m d zero n
    let part := (List.range n).map fun i => s.word m (x.partWord + i)
    let int := (List.range n).map fun i => fpClamp (fpSub (u.getD i 0) (part.getD i 0)) (s.rd (F.SHT_LOOP_INT_MIN m next))
      (s.rd (F.SHT_LOOP_INT_MAX m next))
    let r := (List.range n).map fun i => fpSub (u.getD i 0) (fpAdd (part.getD i 0) (int.getD i 0))
    let s := (s.setWords m x.intWord int).wr (F.SHT_LOOP_RESIDUAL m) (r.getD 0 0)
    if (s.lp m).stop.isNone && r.any (fun v => fpLt (s.rd (F.SHT_LOOP_HO_LIM m)) (fpAbs v)) then s.abandon m d next
    else s.enterMode m d next r

/-- OFFSET moved towards its target by at most HO_SLEW (R211). -/
def slewTo (off target slew : Nat) : Nat :=
  let diff := fpSub target off
  if fpLe (fpAbs diff) slew then target else if fpLt 0 diff then fpAdd off slew else fpSub off slew

/-- Sample n + 1 + k: the offset decays; at zero the hand-over is done (R211). -/
def State.blendStep (s : State) (m : Nat) (d : LoopDecl) : State :=
  let x := s.lp m
  let k := x.hoK + 1
  let bn := max 1 (s.rd (F.SHT_LOOP_HO_CFG_BLEND_N m))
  let off := (List.range x.resid.length).map fun i =>
    let target := match fpRat? (x.resid.getD i 0) with
      | some r => fpOfRat (r * mkRat ((bn - k : Nat) : Int) bn)
      | none => x.resid.getD i 0
    slewTo (s.word m (d.offsetWord + i)) target (s.rd (F.SHT_LOOP_HO_SLEW m))
  let s := (s.setWords m d.offsetWord off).wr (F.SHT_LOOP_MODE_STEP m) (min k 255)
  let s := s.setLp m { s.lp m with hoK := k }
  if off.all fun v => v % 2 ^ 31 == 0 then (s.inc (F.SHT_LOOP_HO_COUNT_DONE m)).afterHandover m else s

/-- HOLD_OFF set during a hand-over cancels it: OFFSET becomes 0, NOW stays (R214). -/
def State.cancelHandover (s : State) (m : Nat) (d : LoopDecl) : State :=
  let n := max (offsetCount d (s.nowMode m)) (offsetCount d (s.nextMode m))
  let s := s.setWords m d.offsetWord (List.replicate n 0)
  let s := s.setLp m { s.lp m with req := none }
  s.afterHandover m

/-- The stop at a commit (R213): an output loop in OUT_VOLTAGE or OUT_POWER first hands over to OUT_CURRENT, with the measured current as
reference; then the ramp runs, and at its end the loop enters OFF. -/
def State.stopStep (s : State) (m : Nat) (d : LoopDecl) (st : StopSt) (t : Nat) : State :=
  let mode := s.nowMode m
  if (mode == mOutVoltage || mode == mOutPower) && (mapOf d mOutCurrent).isSome then
    if s.mayStart m then
      (s.setLp m { s.lp m with stop := some { st with start := [fpRat s.sht.iOut 10] } }).beginHandover m mOutCurrent
    else s
  else if st.ended || st.n ≤ st.k + 1 then s.enterOff m d
  else s.setLp m { s.lp m with stop := some { st with k := st.k + 1, began := some (st.began.getD t) } }

/-- A pending request at a commit: already reached, or its next hand-over starts when it may; a latched plausibility fault keeps the
loop from resuming (R196, R210, R211). -/
def State.requestStep (s : State) (m : Nat) (d : LoopDecl) : State :=
  match (s.lp m).req with
  | none => s
  | some target =>
    if s.nowMode m == target then s.setLp m { s.lp m with req := none }
    else match nextDirect (s.nowMode m) target (bit (s.word m d.flagWord) 1) with
      | none => s
      | some x =>
        if (mapOf d x).isNone then s.setLp m { s.lp m with req := none }
        else if s.mayStart m && !s.rdb (F.SHT_LOOP_STATUS_PLS_FAULT m) then s.beginHandover m x else s

/-- A trip takes a loop to OFF at its next commit; once its half-bridges are free it is requested towards the mode it held (R256, R258). -/
def State.restartStep (s : State) (m : Nat) (d : LoopDecl) (mode : Nat) : State :=
  let s := s.enterOff m d
  if s.rdb (F.SHT_LOOP_STATUS_HOLD_OFF m) then s
  else (s.setLp m { s.lp m with restart := none }).requestMode m d mode false

/-- The running hand-over at a commit (R211, R214). -/
def State.handoverStep (s : State) (m : Nat) (d : LoopDecl) (zero : List Nat) : State :=
  if s.nextMode m == 0 then s
  else if s.rdb (F.SHT_LOOP_STATUS_HOLD_OFF m) then s.cancelHandover m d
  else if (s.lp m).entered then s.blendStep m d else s.backCalc m d zero

/-- The mode sequencer at a commit (R211 to R214). A stop goes on while the offset of an entered hand-over decays. -/
def State.sequence (s : State) (m : Nat) (d : LoopDecl) (zero : List Nat) (t : Nat) : State :=
  let s := s.setLp m { s.lp m with retryIn := (s.lp m).retryIn - 1 }
  let x := s.lp m
  match (if s.nowMode m == mOff then none else x.restart) with
  | some mode => s.restartStep m d mode
  | none =>
    let waits := s.nextMode m != 0 && !x.entered
    let runs := s.nextMode m != 0
    let s := s.handoverStep m d zero
    match (s.lp m).stop with
    | some st => if waits then s else s.stopStep m d st t
    | none => if runs then s else s.requestStep m d

/-! ### Requests that the sequencer makes itself (R208, R209) -/

/-- The hand-over that R208's table asks for in the mode in force. -/
def State.autoTarget (s : State) (m t : Nat) : Option Nat :=
  let v := s.sht.vOut
  let i := s.sht.iOut
  let band : Int := s.rd (F.SHT_LOOP_CV_V_BAND m)
  let vRef : Int := s.dem.vRef
  let zero := s.zeroOut
  let raw := s.rawCurrent t
  match s.nowMode m with
  | 5 => if (s.voltageLimit t ≤ (i : Rat) && v < vRef - 2 * band && !s.connecting) || (!s.isLead && (s.mrk.ready || s.mrk.stopLead)) then some 4
    else none
  | 4 =>
    if s.isLead && (s.dem.mode == 1 || vRef - band ≤ v) then some 5
    else if s.pCap != 0 && ((s.pCap * 100000 : Nat) : Int) ≤ v * i then some 6
    else if raw < 0 && s.exportAllowed && zero then some 7
    else none
  | 6 => if s.pCap == 0 || s.share t * (s.dem.iRef * v : Int) < ((98000 * s.pCap : Nat) : Rat) then some 4 else none
  | 7 => if (0 < raw || !s.exportAllowed) && zero then some 4 else none
  | _ => none

/-- A negative reference without EXPORT_ALLOWED is shown (R208). -/
def State.denyExport (s : State) (m : Nat) (d : LoopDecl) (t : Nat) : State :=
  if outputLoop d && (s.nowMode m == mOutCurrent || s.nowMode m == mOutExport) && s.rawCurrent t < 0 && !s.exportAllowed
  then s.wrb (F.SHT_LOOP_MODE_EXPORT_DENIED m) true else s

/-- R208's rows: a condition that has held for CONFIRM samples is requested, in place of an own request that waits. -/
def State.confirmTarget (s : State) (m : Nat) (d : LoopDecl) (t : Nat) : State :=
  let x := s.lp m
  match s.autoTarget m t with
  | none => s.setLp m { x with confirm := (0, 0) }
  | some target =>
    let n := if x.confirm.1 == target then x.confirm.2 + 1 else 1
    let s := s.setLp m { x with confirm := (target, n) }
    if max 1 (s.rd (F.SHT_LOOP_HO_CFG_CONFIRM m)) ≤ n && x.stop.isNone && s.nextMode m == 0 && x.req != some target &&
        (x.req.isNone || !x.byHost) && x.retry != some target
    then s.requestMode m d target false else s

/-- The sequencer's own requests at a commit, with AUTO set (R208, R209): R208's rows, and AFE_FORMING when FLAG_WORD bit 0 sets. -/
def State.autoRequest (s : State) (m : Nat) (d : LoopDecl) (t : Nat) : State :=
  let s := s.denyExport m d t
  let lost := bit (s.word m d.flagWord) 0
  let fell := lost && !(s.lp m).gridLost
  let s := s.setLp m { s.lp m with gridLost := lost }
  if !s.rdb (F.SHT_LOOP_MODE_AUTO m) then s
  else if outputLoop d then s.confirmTarget m d t
  else if s.rdb (F.SHT_LOOP_MODE_AUTO_ISLAND m) && fell && s.nowMode m != mAfeForming then s.requestMode m d mAfeForming false
  else s

end Sys2Proof.Machine
end

