-- ==== Sys2Proof/Machine/Rc.lean ====
section
/-!
DEFINITION. Machine/Rc.lean: the repetitive compensator channels (R215 to R219).
-/
namespace Sys2Proof.Machine
open Sys2Proof

/-- The fade factor 1. -/
def fadeOne : Nat := 2 ^ 48

/-- The channel's source (R216). -/
def State.rcSource (s : State) (e : Nat) : Nat := s.rd (F.SHT_RC_CFG_SOURCE e)

/-- φ at an instant, in 2^-32 of a period: FIXED from ring time, PHASE_WORD, PULSE and SPECTRAL from their last event at 1/T, with the
running phase correction (R216). -/
def State.rcPhase (s : State) (e t : Nat) : Nat :=
  if s.rcSource e == 3 then
    let p := 1000 * s.rd (F.SHT_RC_PERIOD_PERIOD e)
    t % p * 2 ^ 32 / p
  else
    let x := s.rc e
    let dt := t - x.t0
    let base := if x.validT == 0 then 0 else dt * 2 ^ 32 / (1000 * x.validT)
    let c := if x.corrNs == 0 then x.corr else x.corr * (min dt x.corrNs : Nat) / (x.corrNs : Nat)
    (((x.phi0 + base : Nat) + c) % (2 ^ 32 : Nat)).toNat

/-- What the registers of a channel show. -/
def State.showRc (s : State) (e : Nat) : State :=
  let m := e / 4
  let x := s.rc e
  let f := s.rcFreeze m e
  let s := (s.wrb (F.SHT_RC_STATUS_LOCKED e) x.locked).wr (F.SHT_RC_STATUS_FREEZE e) f
  let s := s.wrb (F.SHT_RC_STATUS_LEARNING e) (x.locked && x.fade == fadeOne && f == 0)
  let s := s.wrb (F.SHT_RC_STATUS_FADING e) (x.fade != 0 && x.fade != fadeOne)
  s.wrsat (F.SHT_RC_PERIOD_NOW e) x.period

/-- A fade of F from its present value, over a time in µs of at most 8 s (R218). -/
def RcSt.fadeOver (x : RcSt) (us : Nat) (rising : Bool) : RcSt :=
  { x with fadeFrom := x.fade, fadeRun := 0, fadeLen := 1000000 * max 1 (min 8000000 us), rising := rising, falling := !rising }

/-- The channel locks: F rises from its present value to 1 over one period (R218). -/
def RcSt.lock (x : RcSt) : RcSt :=
  if x.fade == fadeOne then { x with locked := true, rising := false, falling := false }
  else { x.fadeOver x.period true with locked := true, validT := x.period }

/-- The channel unlocks: learning stops and F falls to 0 over the last valid T (R218). -/
def RcSt.unlock (x : RcSt) : RcSt :=
  let x : RcSt := { x with locked := false, lockCount := 0 }
  if x.fade == 0 then { x with rising := false, falling := false } else x.fadeOver x.validT false

/-- T at which the phase runs: the estimate while the channel is locked, and before it has anything to fade; on unlocking the last valid one
stands until F has fallen (R218). -/
def RcSt.rate (x : RcSt) : RcSt := if x.locked || x.fade == 0 then { x with validT := x.period } else x

/-- A new period estimate, µs (R216). `need` consecutive estimates lock; `ok` carries the further conditions of SPECTRAL; `lo` and `hi`
bound the range; `t` is its ring time, from which a freeze lasts one full period. -/
def State.rcEstimate (s : State) (e est need : Nat) (ok : Bool) (lo hi t : Nat) : State :=
  let x := s.rc e
  let lim := s.rd (F.SHT_RC_RATE_RATE_LIM e)
  let diff := if est < x.period then x.period - est else est - x.period
  let near (k : Nat) : Bool := diff * 10000 ≤ k * lim * x.period
  let inRange := lo ≤ est && est ≤ hi && 10000 ≤ est && est ≤ 8000000
  let n := if x.lockCount == 0 then 1 else if near 1 then x.lockCount + 1 else 1
  let x' : RcSt := { x with rangeBad := !inRange }
  let x' : RcSt :=
    if !inRange then { x'.unlock with period := est }
    else if x.locked && !near 4 then { x'.unlock with period := est, lockCount := 1 }
    else
      let freeze := x.locked && !near 1
      let x' : RcSt := { x' with period := est, lockCount := min n 255, freezePeriod := x'.freezePeriod || freeze
                                 freezeEnd := if freeze then t + 1000 * est else x.freezeEnd }
      (if !x.locked && need ≤ n && ok then x'.lock else x').rate
  (s.setRc e x').showRc e

/-- A pulse edge of a channel with source PULSE (R216): the edge is a multiple of 1/PULSES; the phase error is removed over the next
interval without φ stepping back; AVG intervals give the estimate. -/
def State.rcPulse (s : State) (e t : Nat) : State :=
  let x := s.rc e
  let n := max 1 (s.rd (F.SHT_RC_SRC_PULSES e))
  let avg := max 1 (s.rd (F.SHT_RC_SRC_AVG e))
  let phi := s.rcPhase e t
  let at' : Nat := x.edges % n * 2 ^ 32 / n
  let err := signedOf 32 (bitsOf 32 ((at' : Int) - phi))
  let ivs := match x.lastEdge with
    | none => x.intervals
    | some l => ((t - l) :: x.intervals).take avg
  let expect := if x.validT == 0 then 0 else 1000 * x.validT / n
  let x' : RcSt := { x with
    t0 := t, phi0 := if x.lastEdge.isNone then at' else phi
    corr := if x.lastEdge.isNone then 0 else max err (-((2 ^ 32 / n : Nat) : Int))
    corrNs := expect, edges := (x.edges + 1) % n, lastEdge := some t, intervals := ivs }
  let s := s.setRc e x'
  if ivs.length < avg then s else s.rcEstimate e (rneDiv (n * ivs.foldl (· + ·) 0) (1000 * ivs.length)) 8 true 0 (2 ^ 32) t

/-- The source word of PHASE_WORD as committed last, by this commit where the channel's own loop holds it: its wrap gives the interval
(R216). -/
def State.rcWord (s : State) (m e t : Nat) : State :=
  let x := s.rc e
  let src := s.rd (F.SHT_RC_SRC_SRC_LOOP e)
  let w := s.word src (s.rd (F.SHT_RC_SRC_PHASE_WORD e))
  let at' := if src == m then t else (s.lp src).commitAt
  let wrapped := w + 2 ^ 31 < x.lastWord
  let x' : RcSt := { x with t0 := at', phi0 := w, corr := 0, corrNs := 0, lastWord := w,
                            lastEdge := if wrapped then some t else x.lastEdge }
  let s := s.setRc e x'
  match x.lastEdge with
  | some l => if wrapped then s.rcEstimate e ((t - l + 500) / 1000) 8 true 0 (2 ^ 32) t else s
  | none => s

/-- The point of a channel's memory. -/
def State.point (s : State) (m c j : Nat) : Nat := s.compWord m (2048 * c + j % 2048)

/-- The value learned for a point from memory as it stood and the mean error (R217). -/
def State.learned (s : State) (m c e j : Nat) (mean : Rat) : Nat :=
  let p (i : Nat) : Rat := fpReal (s.point m c (j + 2048 + i - 2))
  let v := fpReal (s.rd (F.SHT_RC_FORGET e)) * (fpReal (s.rd (F.SHT_RC_Q0 e)) * p 2 + fpReal (s.rd (F.SHT_RC_Q1 e)) * (p 1 + p 3) +
    fpReal (s.rd (F.SHT_RC_Q2 e)) * (p 0 + p 4)) + fpReal (s.rd (F.SHT_RC_GAIN e)) * mean
  let lim := max 0 (fpReal (s.rd (F.SHT_RC_LIMIT e)))
  fpOfRat (max (-lim) (min lim v))

/-- The points completed since the last sample take their values (R217); memory reads as it stood before the commit. -/
def State.learn (s : State) (m c e k kPrev : Nat) (mean : Rat) : State :=
  let n := (k + 2048 - kPrev) % 2048
  (List.range n).foldl (fun (s' : State) i =>
    let j := (kPrev + i) % 2048
    s'.setComp m (2048 * c + j) (s.learned m c e j mean)) s

/-- The fade factor after a sample of `dt` ps (R218): linear from its start to 1 or to 0. -/
def RcSt.fadeStep (x : RcSt) (dt : Nat) : RcSt :=
  let run := min x.fadeLen (x.fadeRun + dt)
  if x.rising then { x with fadeRun := run, fade := x.fadeFrom + (fadeOne - x.fadeFrom) * run / x.fadeLen }
  else if x.falling then { x with fadeRun := run, fade := x.fadeFrom - x.fadeFrom * run / x.fadeLen }
  else x

/-- The sample interval of a loop, ps: P × 2.5 ns / S. -/
def State.samplePs (s : State) (d : LoopDecl) : Nat := (s.hb d.anchorHb).period * 2500 / 2 ^ s.rd (F.PWM_HB_TRIG_SAMPLES d.anchorHb)

/-- One channel at a commit of its loop (R215 to R218): ring time t. -/
def State.rcCommit (s : State) (m c t : Nat) (d : LoopDecl) : State :=
  let e := 4 * m + c
  let outWord := s.rd (F.SHT_RC_CFG_OUT_WORD e)
  let x := s.rc e
  let s : State := if !x.clear then s else
    let s := s.setLp m { s.lp m with comp := (s.lp m).comp.filter fun w => !(2048 * c ≤ w.1 && w.1 < 2048 * c + 2048) }
    s.setRc e { x with clear := false }
  if !s.rdb (F.SHT_RC_CFG_ENABLE e) then (if (s.rc e).running then (s.setRc e {}).showRc e else s)
  else
    let x := s.rc e
    let s := if x.running then s else s.setRc e { x with running := true, t0 := t }
    let s := if s.rcSource e == 0 then s.rcWord m e t else s
    let x := s.rc e
    let x : RcSt := if s.rcSource e == 3 then
        let x : RcSt := { x with period := s.rd (F.SHT_RC_PERIOD_PERIOD e), validT := s.rd (F.SHT_RC_PERIOD_PERIOD e) }
        if x.locked then x else x.lock
      else x
    let phi := s.rcPhase e t
    let k := phi / 2 ^ 21
    let x := x.fadeStep (s.samplePs d)
    let s := s.setRc e x
    let frozen := s.rcFreeze m e != 0 || x.fade != fadeOne
    let err : Int := (fpExact (s.word m (s.rd (F.SHT_RC_CFG_ERR_WORD e)))).getD 0
    let phr := (phi + s.rd (F.SHT_RC_CFG_LEAD e) * 2 ^ 21) % 2 ^ 32
    let a := fpReal (s.point m c (phr / 2 ^ 21))
    let b := fpReal (s.point m c (phr / 2 ^ 21 + 1))
    let y := a + mkRat (phr % 2 ^ 21 : Nat) (2 ^ 21) * (b - a)
    let out := fpOfRat (mkRat x.fade fadeOne * y)
    let s' : State :=
      if !x.locked then s
      else
        let done := k != x.kPrev && x.accCount != 0
        let mean : Rat := mkRat x.accSum (2 ^ 150 * max 1 x.accCount)
        let s' := if done && !frozen then s.learn m c e k x.kPrev mean else s
        let keep := k == x.kPrev
        s'.setRc e { x with kPrev := k, accSum := (if keep then x.accSum else 0) + err, accCount := (if keep then x.accCount else 0) + 1 }
    (((s'.setWord m outWord out).wr (F.SHT_RC_PHASE e) phi).showRc e)

/-- A channel with ENABLE clear writes 0 to OUT_WORD (R218). -/
def State.rcZero (s : State) (m c : Nat) : State :=
  if s.rdb (F.SHT_RC_CFG_ENABLE (4 * m + c)) then s else s.setWord m (s.rd (F.SHT_RC_CFG_OUT_WORD (4 * m + c))) 0

/-- Every channel of a loop: the zeros of the channels that do not run come first, so that a word that two name holds an output (log 111). -/
def State.rcAll (s : State) (m t : Nat) (d : LoopDecl) : State :=
  let s := (List.range 4).foldl (fun (s : State) c => s.rcZero m c) s
  (List.range 4).foldl (fun (s : State) c => s.rcCommit m c t d) s

/-! ### Commands -/

/-- Edges of pulse inputs reach the channels that take them (R216, R325). -/
def State.rcEdges (s : State) (i : Nat) (level : Bool) (t : Nat) : State :=
  (List.range 32).foldl (fun (s : State) e =>
    if s.rdb (F.SHT_RC_CFG_ENABLE e) && s.rcSource e == 1 && s.rd (F.SHT_RC_SRC_PULSE_IN e) == i && s.rdb (F.SHT_RC_SRC_EDGE e) != level
    then s.rcPulse e t else s) s

/-- A pulse input's level has stood (R325): counted by the metering side, and an edge for the compensator. -/
def State.pulseInput (s : State) (i : Nat) (level : Bool) (t held : Nat) : State :=
  let ok := !s.inLull && s.rd (F.MET_PI_CFG_DEBOUNCE i) ≤ held
  let s := s.pulseEdge i level t held
  if ok then s.rcEdges i level t else s

/-- PULSE_INPUT_EDGE (R325). -/
def execPulseInputEdge (i : Fin 8) (level : Bool) (time held : Nat) (s : State) : Out := .next (s.pulseInput i level time held)

/-- No wrap or pulse for 2 × T (R216, R218): a channel of source PHASE_WORD or PULSE unlocks. -/
def State.rcTimeout (s : State) (e t : Nat) : State :=
  let x := s.rc e
  if 2 ≤ s.rcSource e || !x.locked || t < x.lastEdge.getD 0 + 2000 * x.period then s else (s.setRc e x.unlock).showRc e

/-- RC_PHASE_TIMEOUT (R216). -/
def execRcPhaseTimeout (e : Fin 32) (time : Nat) (s : State) : Out := .next (s.rcTimeout e time)

/-- A SPECTRAL evaluation of the control ADC that SPEC_ADC names (R216): the strongest line's period, its strength over the band median in
0.1 dB, and the oscillator's phase at an instant. -/
def State.rcSpectral (s : State) (e adc est : Nat) (tenthsDb : Int) (phase t : Nat) : State :=
  if !s.rdb (F.SHT_RC_CFG_ENABLE e) || s.rcSource e != 2 || s.rd (F.SHT_RC_SRC_SPEC_ADC e) != adc then s else
  let hi := s.rd (F.SHT_RC_BAND_P_MAX e)
  let s := s.setRc e { s.rc e with t0 := t, phi0 := phase % 2 ^ 32, corr := 0, corrNs := 0 }
  let s := s.rcEstimate e est 3 (120 ≤ tenthsDb) (1000 * min hi (s.rd (F.SHT_RC_BAND_P_MIN e))) (1000 * hi) t
  if tenthsDb < 60 && (s.rc e).locked then (s.setRc e (s.rc e).unlock).showRc e else s

/-- RC_SPECTRAL_EVAL (R216). -/
def execRcSpectralEval (e : Fin 32) (adc : Fin 16) (period : Nat) (tenthsDb : Int) (phase : BitVec 32) (time : Nat) (s : State) : Out :=
  .next (s.rcSpectral e adc period tenthsDb phase.toNat time)

/-- The fade reached its end: at 1 learning resumes (R218). -/
def State.rcFadeEnd (s : State) (e : Nat) : State :=
  let x := s.rc e
  if (x.rising && x.fade == fadeOne) || (x.falling && x.fade == 0) then
    (s.setRc e { x with rising := false, falling := false, accSum := 0, accCount := 0 }).showRc e
  else s

/-- RC_FADE_END (R218). -/
def execRcFadeEnd (e : Fin 32) (s : State) : Out := .next (s.rcFadeEnd e)

/-- The full period after an estimate that differed by more than RATE_LIM has passed (R216). -/
def State.rcThaw (s : State) (e t : Nat) : State :=
  if !(s.rc e).freezePeriod || t < (s.rc e).freezeEnd then s else (s.setRc e { s.rc e with freezePeriod := false }).showRc e

/-- RC_PERIOD_FREEZE_END (R216). -/
def execRcPeriodFreezeEnd (e : Fin 32) (time : Nat) (s : State) : Out := .next (s.rcThaw e time)

/-- A write of SHT_RC[e]_CFG.CLEAR: every point becomes 0 at the next commit (R218); refused in Lull (R90). -/
def State.rcClear (s : State) (side e : Nat) : State :=
  let a := 0xB000 + 0x40 * e
  if s.lullBlocks a then s.accessError side eLull a else (s.accepted side).setRc e { s.rc e with clear := true }

/-- RC_CLEAR (R218). -/
def execRcClear (side : Side) (e : Fin 32) (s : State) : Out := .next (s.rcClear side e)

end Sys2Proof.Machine
end

