-- ==== Sys2Proof/Machine/Shuttle.lean ====
section
/-!
DEFINITION. Machine/Shuttle.lean: the commands of the Shuttle engine and the PWM generators (chapters 06 and 07).
-/
namespace Sys2Proof.Machine
open Sys2Proof

/-! ### What follows the COMMIT list -/

/-- BW_NOW is held within the loop's BW_MIN to BW_MAX. -/
def State.setBw (s : State) (m : Nat) (d : LoopDecl) (bw : Nat) : State :=
  s.wr (F.SHT_LOOP_STATUS_BW_NOW m) (max d.bwMin (min d.bwMax bw))

/-- A new window of 1,024 samples. -/
def State.newWindow (s : State) (m : Nat) : State :=
  s.setLp m { s.lp m with winN := 0, winOut := 0, winMiss := false, winWide := false }

/-- The review of BW at the end of a window (R185). -/
def State.reviewBw (s : State) (m : Nat) (d : LoopDecl) : State :=
  let x := s.lp m
  if x.winN < 1024 then s else
  let bw := s.rd (F.SHT_LOOP_STATUS_BW_NOW m)
  let s := if !s.rdb (F.SHT_LOOP_CTRL_AUTO_WIDTH m) then s
    else if 20 < x.winOut then s.setBw m d (bw + 1)
    else if !x.winMiss && !x.winWide then s.setBw m d (bw - 1)
    else s
  s.newWindow m

/-- Statistics of a sample at its commit (R184 to R187): a hit or a miss, and the window's counts. -/
def State.countSample (s : State) (m : Nat) (d : LoopDecl) (hit outside : Bool) (dev : Int) : State :=
  let s := s.reviewBw m d
  let s := if hit then s.inc (F.SHT_LOOP_HITS m) else s.inc (F.SHT_LOOP_MISSES m)
  let x := s.lp m
  s.setLp m { x with
    winN := x.winN + 1
    winOut := x.winOut + if !hit && outside then 1 else 0
    winMiss := x.winMiss || !hit
    winWide := x.winWide || s.outcomes m * s.width m ≤ 4 * dev.natAbs }

/-- Place a trace entry in Q15; full, it replaces the oldest (R458). -/
def State.placeTrace (s : State) (e : TraceEntry) : State :=
  if s.que.q15.length < s.depth 15 then
    ({ s with que.q15 := s.que.q15 ++ [e] }).queLevel 15 (s.que.q15.length + 1)
  else ({ s with que.q15 := s.que.q15.drop 1 ++ [e] } : State).inc (F.QUE_Q_LOST 15)

/-- The trace entry of a commit (R467) as its eight words. -/
def State.traceWords (s : State) (m lane : Nat) (d : LoopDecl) (hit : Option Nat) (late : Bool) (dev : Int) (t : Nat) : List Nat :=
  let flags := (if hit.isSome then 1 else 2) + (if late then 4 else 0) + (if s.rdb (F.SHT_LOOP_STATUS_HOLD_OFF m) then 8 else 0)
  let first := match d.commit.find? (·.kind == 1) with
    | some e => s.word m e.target
    | none => 0
  [t % 2 ^ 32, t / 2 ^ 32 % 2 ^ 32, m + 256 * lane + 65536 * flags + 2 ^ 24 * hit.getD 255, bitsOf 32 dev,
   s.rd (F.SHT_LOOP_STATUS_REGION m) + 256 * s.nowMode m, s.rd (F.PWM_HB_CMP_ON_CMP_ON d.anchorHb),
   s.rd (F.PWM_HB_CMP_OFF_CMP_OFF d.anchorHb), first]

/-- Record a commit for every lane of the loop that traces it; a throttle level suspends it (R285). -/
def State.traceCommit (s : State) (m : Nat) (d : LoopDecl) (hit : Option Nat) (late : Bool) (dev : Int) (t : Nat) : State :=
  let s := s.setLp m { s.lp m with commits := (s.lp m).commits + 1 }
  (bitsBelow d.lanes 8).foldl (fun (s : State) k =>
    if s.rd F.TH_STATUS_THROTTLE == 0 && s.rdb (F.SHT_LANE_CTRL_TRACE k) && (s.lp m).commits % max 1 (s.rd (F.SHT_LANE_CTRL_TRACE_DIV k)) == 0
    then s.placeTrace { words := s.traceWords m k d hit late dev t } else s) s

/-- A standby takes the shadow words that it has received (R413); the mode in force follows MODE_WORD. A hand-over into that mode that the
standby's own sequencer holds, from its shadow run or from the partner's report of it, goes on at its step (R214); one that it does not know
starts from the offset that the words show. -/
def State.takeShadow (s : State) (m : Nat) (d : LoopDecl) : State :=
  if s.en then s else
  let mine := s.pair.shadowWait.filter (·.1 == m)
  let s : State := { s with pair.shadowWait := s.pair.shadowWait.filter (·.1 != m) }
  let s := mine.foldl (fun (s : State) (e : Nat × Nat × Nat) => s.setWord m e.2.1 e.2.2) s
  let mode := s.word m d.modeWord % 16
  if mine == [] || mode == s.nowMode m then s
  else
    let n := offsetCount d mode
    let off := (List.range n).map fun i => s.word m (d.offsetWord + i)
    let s := s.wr (F.SHT_LOOP_MODE_NOW m) mode
    if off.all fun v => v % 2 ^ 31 == 0 then s.wr (F.SHT_LOOP_MODE_NEXT m) 0
    else if s.nextMode m == mode then s.setLp m { s.lp m with entered := true, resid := if (s.lp m).resid == [] then off else (s.lp m).resid }
    else (s.wr (F.SHT_LOOP_MODE_NEXT m) mode).setLp m { s.lp m with entered := true, resid := off, hoK := 0 }

/-- A live write of BW takes effect at the next commit and starts a new window (R185). -/
def State.takeBw (s : State) (m : Nat) (d : LoopDecl) : State :=
  let f := F.SHT_LOOP_CTRL_BW m
  if !s.hbi.liveKeys.contains f.key then s else
  let s : State := { s with live := SMap.set resetCell f.key (SMap.get resetCell s.tbuf f.key) s.live
                            hbi.liveKeys := s.hbi.liveKeys.filter (· != f.key) }
  (s.setBw m d (s.rd f)).newWindow m

/-- The loop's safe boundary at the end of an anchor sample's commit (R177): tacked and live values, a changed BW with a new window (R185),
and in OFF the half-bridges by the normal off path (R213). -/
def State.loopBoundary (s : State) (m : Nat) (d : LoopDecl) : State :=
  let bw := s.rd (F.SHT_LOOP_CTRL_BW m)
  let s := s.boundary (loopParts d)
  let s := if s.rd (F.SHT_LOOP_CTRL_BW m) != bw then (s.setBw m d (s.rd (F.SHT_LOOP_CTRL_BW m))).newWindow m else s
  if s.nowMode m != mOff then s
  else (bitsBelow d.hbMask 12).foldl (fun s h => if (s.hb h).holders.contains .loop then s else s.hold h .loop) s

/-- A figure joins those of the last 1 s; only what may still be the least is kept, least first. -/
def pushLeast (t v : Nat) (l : List (Nat × Nat)) : List (Nat × Nat) :=
  (l.filter fun e => t < e.1 + 1000000000 && e.2 < v) ++ [(t, v)]

/-- SLACK of the loop's lanes: the fewest unused cycles before a conversion end over the last 1 s, under the shortest interval of R182; the
lowest lane's spare cycles run BACKGROUND first (R178, R201). -/
def State.showSlack (s : State) (m : Nat) (d : LoopDecl) (t : Nat) : State :=
  let x := s.lp m
  let n := s.spare m d
  let bg := if x.bgDone then 0 else d.background.length - x.bgCount * n
  let low := pushLeast t (n - bg) x.slackLow
  let rest := pushLeast t n x.slackRest
  let s := s.setLp m { x with slackLow := low, slackRest := rest }
  let lanes := bitsBelow d.lanes 8
  lanes.foldl (fun (s : State) k =>
    s.wrsat (F.SHT_LANE_STATUS_SLACK k) ((if k == lanes.headD 0 then low else rest).headD (0, 0)).2) s

/-- What a sample's commit is made from: the chosen outcome, its words with the corrections, the deviations. -/
structure Commit where
  hit : Option Nat := none
  out : SMap (Option Nat) := []
  corr : List Rat := []
  devs : List Int := []
  outside : Bool := false
  late : Nat := 0
  anchor : Bool := false
  drawn : Nat := 0
  adcs : List Nat := []

/-- The commit of a sample (R184, R186, R187): plausibility, the COMMIT list, the sequencer with its own requests (R208: the commit of the
last confirming sample is the sample n of R211), references, compensators, gain schedule, statistics, generators, shadow words, trace, and
the boundary of an anchor sample. -/
def State.commitSample (s : State) (m : Nat) (d : LoopDecl) (c : Commit) (pos zero : List Nat) (t : Nat) : State :=
  let s := s.showSlack m d t
  let due := s.backgroundDue m d
  let bg := s.background m d c.drawn c.adcs
  let s := if due then
      s.countSat ((bitsBelow d.lanes 8).headD 0) ((s.backgroundLane m d c.drawn c.adcs).sats - (s.predictLane m d c.drawn c.adcs).sats) else s
  let s := s.plausible m c.devs
  let s := s.wrb (F.SHT_LOOP_STATUS_HOLD_OFF m) (s.gatedOff d)
  let s := (s.commitAll m d c.out bg c.corr).backgroundStep m d due
  let s := s.setLp m { s.lp m with nonfinite := false, miss := none }
  let s := ((s.autoRequest m d t).sequence m d zero t).writeRefs m d t
  let s := (s.rcAll m t d).schedule m d
  let s := (s.countSample m d c.hit.isSome c.outside (c.devs.getD 0 0)).takeBw m d
  let s := (s.generators m d pos).inc (F.SHT_LOOP_LATE m) c.late
  let s := s.takeShadow m d
  let s := s.traceCommit m d c.hit (c.late != 0) (c.devs.getD 0 0) t
  let s := s.setLp m { s.lp m with commitAt := t }
  if c.anchor then s.loopBoundary m d else s

/-! ### Sampling -/

/-- A sample event of the anchor carrier (R172): the loop's ADCs hold and start their bursts. -/
def State.adcTrigger (s : State) (m k : Nat) : State :=
  match s.loopDecl m with
  | none => s
  | some d =>
    if s.inLull || (s.lp m).event.isSome || 2 ^ s.rd (F.PWM_HB_TRIG_SAMPLES d.anchorHb) ≤ k then s
    else s.setLp m { s.lp m with event := some k, late := 0 }

/-- ADC_TRIGGER (R172). -/
def execAdcTrigger (m k : Fin 8) (s : State) : Out := .next (s.adcTrigger m k)

/-- A trigger finds an ADC converting (R173): it starts at the end of that conversion. The sample of a loop then takes the exact path, and its
commit counts the trigger in LATE (R187). -/
def State.adcDeferred (s : State) (m k a : Nat) : State :=
  if s.inLull then s
  else if (s.loopOfAdc a).isNone then s.inc (F.PWM_ADC_DEFER a)
  else match s.loopDecl m with
    | none => s
    | some d =>
      if (s.lp m).event.isNone || !bit d.adcMask a then s
      else (s.setLp m { s.lp m with deferred := some k, deferN := (s.lp m).deferN + 1 }).inc (F.PWM_ADC_DEFER a)

/-- ADC_TRIGGER_DEFERRED (R173). -/
def execAdcTriggerDeferred (m k : Fin 8) (a : Fin 16) (s : State) : Out := .next (s.adcDeferred m k a)

/-- The result of a burst of B conversions (R171): the mean of the codes, offset-binary made two's complement, in counts of 1/16 LSB. -/
def burstMean (b : Nat) (codes : List Nat) : Int :=
  ((16 / b : Nat) : Int) * (List.range b).foldl (fun (t : Int) i => t + (((codes.getD i 32768 % 65536 : Nat) : Int) - 32768)) 0

/-- An ADC's result is stored as its burst's mean (R171). -/
def State.storeResult (s : State) (a : Nat) (codes : List Nat) : State :=
  s.wri (F.PWM_ADC_RESULT a) (burstMean (2 ^ s.rd (F.PWM_ADC_CFG_BURST a)) codes)

/-- The results of some ADCs, from the codes of each burst (R171). -/
def State.storeResults (s : State) (as : List Nat) (codes : List (List Nat)) : State :=
  (as.zip codes).foldl (fun (s : State) x => s.storeResult x.1 x.2) s

/-- The sums of the frame period for the partner's cross-check (R194). -/
def State.addSums (s : State) (m : Nat) (d : LoopDecl) (devs : List Int) : State :=
  let x := s.lp m
  let sums := (List.range d.predicted.length).map fun c =>
    let (a, b, n) := x.sums.getD c (0, 0, 0)
    (a + s.adc (d.predicted.getD c 0), b + devs.getD c 0, n + 1)
  let overs := (List.range d.predicted.length).filter fun c =>
    x.overs.contains c || 16 * s.rd (F.SHT_PCH_LIM_R_LIM (pch m c)) < (devs.getD c 0).natAbs
  s.setLp m { x with sums := sums, overs := overs }

/-- The results of a sample stand and its stack output is known; the trigger that waited, if any, starts the next sample. -/
def State.takeSample (s : State) (m : Nat) (d : LoopDecl) (codes : List (List Nat)) (vOut iOut : Int) : State :=
  let s := { s.storeResults (bitsBelow d.adcMask 16) codes with sht.vOut := vOut, sht.iOut := iOut, drawn := s.drawn + 1 }
  let x := s.lp m
  s.setLp m { x with event := x.deferred, late := x.deferN, deferred := none, deferN := 0 }

/-- The outcome index of a sample's key deviation lies in the bracket. -/
def State.inBracket (s : State) (m : Nat) (devs : List Int) : Bool :=
  let i := outcomeIndex (s.outcomes m) (s.rd (F.SHT_LOOP_STATUS_BW_NOW m)) (devs.getD 0 0)
  0 ≤ i && i < (s.outcomes m : Nat)

/-- The conditions of a hit (R184). -/
def State.hits (s : State) (m : Nat) (d : LoopDecl) (drawn : Nat) (old : List Nat) (late : Nat) (pre : Lane) (devs : List Int) : Bool :=
  let i := outcomeIndex (s.outcomes m) (s.rd (F.SHT_LOOP_STATUS_BW_NOW m)) (devs.getD 0 0)
  let lane := s.outcomeLane m d drawn old i.toNat
  s.outcomes m != 0 && s.inBracket m devs && late == 0 && !pre.nonfin && lane.valid && !lane.nonfin &&
    (List.range devs.length).all fun c => c == 0 || (devs.getD c 0).natAbs ≤ 16 * s.rd (F.SHT_PCH_SPEC_SPEC (pch m c))

/-- A sample that ends with these codes is a hit. -/
def State.sampleHits (s : State) (m : Nat) (d : LoopDecl) (codes : List (List Nat)) (vOut iOut : Int) : Bool :=
  let u := s.takeSample m d codes vOut iOut
  let pre := u.predictLane m d s.drawn s.adcWords
  let devs := u.deviations d s.drawn pre
  (u.addSums m d devs).hits m d s.drawn s.adcWords (s.lp m).late pre devs

/-- The conversion end of a sample (R183, R184, R186): the outcome of the key deviation's bracket is committed, or the sample is a
miss, of which nothing but PREDICT's own part has counted. `codes` gives each ADC's burst by increasing ADC; `vOut` and `iOut` the stack's
output, 0.1 V and 0.1 A; `pos` the positions of the half-bridges; `zero` the output that produces zero current; `t` the commit's ring
time. -/
def State.conversionEnd (s : State) (m : Nat) (codes : List (List Nat)) (vOut iOut : Int) (pos zero : List Nat) (t : Nat) : State :=
  match s.loopDecl m, (s.lp m).event with
  | some d, some k =>
    if s.inLull then s else
    let old := s.adcWords
    let drawn := s.drawn
    let late := (s.lp m).late
    let s := s.takeSample m d codes vOut iOut
    let pre := s.predictLane m d drawn old
    let devs := s.deviations d drawn pre
    let s := s.addSums m d devs
    if s.hits m d drawn old late pre devs then
      let n := s.outcomes m
      let i := (outcomeIndex n (s.rd (F.SHT_LOOP_STATUS_BW_NOW m)) (devs.getD 0 0)).toNat
      let corr := ((devs.getD 0 0 : Rat) - centre n (s.width m) i) :: (devs.drop 1).map fun (v : Int) => (v : Rat)
      (s.countSats m d drawn old).commitSample m d { hit := some i, out := (s.outcomeLane m d drawn old i).out, corr := corr, devs := devs
                                                     outside := false, late := late, anchor := k == 0, drawn := drawn, adcs := old } pos zero t
    else
      let outside := s.outcomes m != 0 && late == 0 && !pre.nonfin && !s.inBracket m devs
      (s.countSat ((bitsBelow d.lanes 8).headD 0) pre.sats).setLp m { s.lp m with
        miss := some { dev := devs, oldAdc := old, drawn := drawn, late := late, outside := outside, anchor := k == 0 } }
  | _, _ => s

/-- CONVERSION_END (R184). -/
def execConversionEnd (m : Fin 8) (codes : List (List (BitVec 16))) (vOut iOut : Int) (pos : List Nat) (zero : List (BitVec 32))
    (time : Nat) (s : State) : Out :=
  .next (s.conversionEnd m (codes.map fun l => l.map BitVec.toNat) vOut iOut pos (zero.map BitVec.toNat) time)

/-- EXACT is done in the recovery slot (R186): it commits, or a non-finite result makes no commit, and a second in a row withdraws the
unit (R189). -/
def State.exactCommit (s : State) (m : Nat) (pos zero : List Nat) (t : Nat) : State :=
  match s.loopDecl m, (s.lp m).miss with
  | some d, some ms =>
    let lane := s.exactLane m d ms.drawn ms.oldAdc s.adcWords (ms.dev.getD 0 0)
    let s := s.countSat ((bitsBelow d.lanes 8).headD 0) (lane.sats - (s.lowestLane m d ms.drawn ms.oldAdc).sats)
    if lane.nonfin then
      let again := (s.lp m).nonfinite
      let s := s.setLp m { s.lp m with miss := none, nonfinite := true }
      let s := (s.wrb (F.SHT_LOOP_STATUS_NONFINITE m) true).wrb F.SHT_STATUS_NONFINITE true
      let s := s.event (evCode 1 1 4) m
      if again then s.withdraw 5 else s
    else
      s.commitSample m d { hit := none, out := lane.out, corr := [], devs := ms.dev, outside := ms.outside, late := ms.late,
                           anchor := ms.anchor, drawn := ms.drawn, adcs := ms.oldAdc } pos zero t
  | _, _ => s

/-- EXACT_COMMIT (R186). -/
def execExactCommit (m : Fin 8) (pos : List Nat) (zero : List (BitVec 32)) (time : Nat) (s : State) : Out :=
  .next (s.exactCommit m pos (zero.map BitVec.toNat) time)

/-- BW_WINDOW_END (R185). -/
def execBwWindowEnd (m : Fin 8) (s : State) : Out := .next (match s.loopDecl m with
  | some d => s.reviewBw m d
  | none => s)

/-! ### Plausibility (R194, R196) -/

/-- The loop's half-bridges are turned off by the normal off path and the fault latches (R196). -/
def State.plsOff (s : State) (m : Nat) (d : LoopDecl) : State :=
  ((bitsBelow d.hbMask 12).foldl (fun s h => s.hold h .plausibility) s).wrb (F.SHT_LOOP_STATUS_PLS_FAULT m) true

/-- The channel's ACTION on a plant fault (R196). -/
def State.plsAction (s : State) (m c : Nat) (d : LoopDecl) : State :=
  match s.rd (F.SHT_PCH_CFG_ACTION (pch m c)) with
  | 2 => (s.startStop m d).wrb (F.SHT_LOOP_STATUS_PLS_FAULT m) true
  | 3 => s.plsOff m d
  | _ => if (s.lp m).pcount.getD c 0 == 0 then s else s.setLp m { s.lp m with acting := c :: (s.lp m).acting }

/-- The attribution of an implausible channel on the active unit (R194): `frame` says a valid partner frame arrived within 3 µs. -/
def State.attribute (s : State) (m c : Nat) (frame : Bool) : State :=
  match s.loopDecl m with
  | none => s
  | some d =>
    let x := s.lp m
    if !x.attributing.contains c then s else
    let s := s.setLp m { x with attributing := x.attributing.filter (· != c) }
    let p := pch m c
    let own := x.means.getD c 0
    let theirs := SMap.get (fun _ => 0) s.pair.partnerMeans p
    let near : Bool := (own - theirs).natAbs ≤ s.rd (F.SHT_PCH_CFG_X_LIM p)
    let within : Bool := (theirs - (own - x.devMeans.getD c 0)).natAbs ≤ s.rd (F.SHT_PCH_LIM_R_LIM p)
    if !s.pair.formed || !frame || (!near && !within) then
      ((s.wr (F.SHT_LOOP_STATUS_ATTRIB m) 4).plsOff m d).event (evCode 0xB 1 2) (256 * m + c)
    else if near then ((s.wr (F.SHT_LOOP_STATUS_ATTRIB m) 1).plsAction m c d).event (evCode 0xB 1 1) (256 * m + c)
    else (s.wr (F.SHT_LOOP_STATUS_ATTRIB m) 2).withdraw 4

/-- PLAUSIBILITY_ATTRIBUTE (R194). -/
def execPlausibilityAttribute (m : Fin 8) (c : Fin 4) (frame : Bool) (s : State) : Out := .next (s.attribute m c frame)

/-- A 1 written to PLS_FAULT: it clears while every persistence count is 0 and the loop resumes (R196). -/
def State.plsClear (s : State) (m : Nat) : State :=
  if !s.countsClear m || !s.rdb (F.SHT_LOOP_STATUS_PLS_FAULT m) then s
  else match s.loopDecl m with
    | none => s.wrb (F.SHT_LOOP_STATUS_PLS_FAULT m) false
    | some d => (bitsBelow d.hbMask 12).foldl (fun s h => s.release h .plausibility) (s.wrb (F.SHT_LOOP_STATUS_PLS_FAULT m) false)

/-- PLS_FAULT_CLEAR (R196). -/
def execPlsFaultClear (side : Side) (m : Fin 8) (s : State) : Out :=
  .next (if s.lullBlocks (0x9004 + 0x100 * m) then s.accessError side eLull (0x9004 + 0x100 * m) else (s.accepted side).plsClear m)

/-! ### Generators (R176, R177, R197, R199) -/

/-- The synchronisation source that acts (R199, R421). -/
def State.syncSource (s : State) (h : Nat) : Nat := s.sourceOf (fun k => SMap.get resetCell s.live k) h

/-- The ADCs bound to no loop that a half-bridge's sample events trigger (R202, R203). -/
def State.freeAdcs (s : State) (h : Nat) : List Nat :=
  (List.range 16).filter fun a => (s.loopOfAdc a).isNone && s.rd (F.PWM_ADC_CFG_SOURCE a) == h

/-- A counter reloads at period start (R176, R177, R197, R199): `err` is its distance from its ring-time target in ticks; `codes` the
bursts of the unbound ADCs that its sample events triggered, by increasing number. -/
def State.counterReload (s : State) (h : Nat) (err : Int) (codes : List (List Nat)) : State :=
  if s.inLull then s else
  let src := s.syncSource h
  let p := if src == 1 then (s.hb (s.rd (F.PWM_HB_SYNC_REF h))).period else s.rd (F.PWM_HB_PERIOD_PERIOD h)
  let x := s.hb h
  let x : HbSt := { x with period := p, edgeAt := max (-1000000) (x.edgeAt - (16 * x.period : Nat)) }
  let x : HbSt := match x.nextCmp with
    | some (on, off) => { x with cmpOn := on, cmpOff := off, nextCmp := none }
    | none => x
  let s := (s.setHb h x).wrb (F.PWM_HB_STATUS_ALIGNED h) (src == 2 && err.natAbs ≤ 1)
  let s := (s.wr (F.PWM_HB_COUNT_POSITION h) 0).storeResults (s.freeAdcs h) codes
  let s := if (s.loopOfHb h).isSome then s else
    let s := s.boundary [(6, h), (7, h), (9, h)]
    s.setHb h { s.hb h with cmpOn := s.rd (F.PWM_HB_CMP_ON_CMP_ON h), cmpOff := s.rd (F.PWM_HB_CMP_OFF_CMP_OFF h) }
  s.genCommand h 0

/-- COUNTER_RELOAD (R197). -/
def execCounterReload (h : Fin 12) (err : Int) (codes : List (List (BitVec 16))) (s : State) : Out :=
  .next (s.counterReload h err (codes.map fun l => l.map BitVec.toNat))

/-- The counter reaches a compare instant (R197, R198): `pos` in 1/16 tick. -/
def State.commandChange (s : State) (h pos : Nat) : State :=
  if s.inLull then s else (s.wr (F.PWM_HB_COUNT_POSITION h) (pos / 16)).genCommand h pos

/-- PWM_COMMAND_CHANGE (R197). -/
def execPwmCommandChange (h : Fin 12) (pos : Nat) (s : State) : Out := .next (s.commandChange h pos)

/-! ### Modes (R210, R212, R213) -/

def modeReqAddr (m : Nat) : Nat := 0xA030 + 0x100 * m

/-- A request by MODE_REQ (R210): refused with COMMAND where the loop does not declare the mode, and with STATE while HO_FAIL is set
(R212). -/
def State.modeRequest (s : State) (side m req : Nat) : State :=
  match s.loopDecl m with
  | none => s.accessError side eCommand (modeReqAddr m)
  | some d =>
    if req != 0 && (mapOf d req).isNone then s.accessError side eCommand (modeReqAddr m)
    else if req != 0 && s.rdb (F.SHT_LOOP_MODE_HO_FAIL m) then s.accessError side eState (modeReqAddr m)
    else s.requestMode m d req true

/-- MODE_REQUEST (R210). -/
def execModeRequest (side : Side) (key : BitVec 16) (m : Fin 8) (req : BitVec 4) (s : State) : Out :=
  .next (s.command side (modeReqAddr m) key.toNat 0x4D0E fun s => s.modeRequest side m req.toNat)

/-- RETRY_WAIT samples have passed (R212): the target is requested again if it is still asked for, by the condition of R208 or R209 or by a
host request. -/
def State.handoverRetry (s : State) (m t : Nat) : State :=
  match s.loopDecl m, (s.lp m).retry with
  | some d, some target =>
    let x := s.lp m
    if x.retryIn != 0 then s
    else if x.byHost || s.autoTarget m t == some target ||
        (target == mAfeForming && s.rdb (F.SHT_LOOP_MODE_AUTO_ISLAND m) && bit (s.word m d.flagWord) 0)
    then s.setLp m { x with retry := none, req := some target } else s.setLp m { x with retry := none }
  | _, _ => s

/-- HANDOVER_RETRY (R212). -/
def execHandoverRetry (m : Fin 8) (time : Nat) (s : State) : Out := .next (s.handoverRetry m time)

/-- TIME has passed since the stop's ramp began (R213): the next commit enters OFF, for state changes only at a commit (R187). -/
def State.stopRampEnd (s : State) (m time : Nat) : State :=
  match (s.lp m).stop with
  | some st =>
    if st.began.any fun b => b + s.rd (F.SHT_LOOP_STOP_TIME m) * 100000 ≤ time then
      s.setLp m { s.lp m with stop := some { st with ended := true } }
    else s
  | none => s

/-- STOP_RAMP_END (R213). -/
def execStopRampEnd (m : Fin 8) (time : Nat) (s : State) : Out := .next (s.stopRampEnd m time)

/-- HO_FAIL_CLEAR (R212). -/
def execHoFailClear (side : Side) (m : Fin 8) (s : State) : Out :=
  .next (if s.lullBlocks (0xA000 + 0x100 * m) then s.accessError side eLull (0xA000 + 0x100 * m)
    else (s.accepted side).wrb (F.SHT_LOOP_MODE_HO_FAIL m) false)

end Sys2Proof.Machine
end

