-- ==== Sys2Proof/Machine/Prot.lean ====
section
/-!
DEFINITION. Machine/Prot.lean: power-stage protection and fault retry (chapter 09).
-/
namespace Sys2Proof.Machine
open Sys2Proof

/-! ### Group states (R268) -/

def gArmed : Nat := 0
def gTripped : Nat := 1
def gWait : Nat := 2
def gCheck : Nat := 3
def gLockout : Nat := 4
def gTest : Nat := 5

def State.grp (s : State) (g : Nat) : GrpSt := SMap.get (fun _ => {}) s.prt.grp g
def State.setGrp (s : State) (g : Nat) (x : GrpSt) : State := { s with prt.grp := SMap.set (fun _ => {}) g x s.prt.grp }
def State.gst (s : State) (g : Nat) : Nat := s.rd (F.PRT_GRP_STATE_STATE g)

/-- Set a group's STATE with what PRT_STATUS shows of it. -/
def State.setGst (s : State) (g st : Nat) : State :=
  let s := s.wr (F.PRT_GRP_STATE_STATE g) st
  let s := s.wr F.PRT_STATUS_HELD (setBit (s.rd F.PRT_STATUS_HELD) g (st != gArmed))
  s.wr F.PRT_STATUS_LOCKOUT (setBit (s.rd F.PRT_STATUS_LOCKOUT) g (st == gLockout))

/-- The channels of a group. -/
def State.groupChs (s : State) (g : Nat) : List Nat := (s.groupHbs g).flatMap fun h => [2 * h, 2 * h + 1]

/-- ARG of the protection events (R263, R463). -/
def State.tripArg (s : State) (g : Nat) : Nat :=
  g * 2 ^ 24 + s.rd (F.PRT_GRP_STATE_CAUSE g) * 2 ^ 20 + s.rd (F.PRT_GRP_STATE_LEGS g)

/-! ### Holding and releasing (R255, R256) -/

/-- Every half-bridge of a group is held off by a holder. -/
def State.holdGroup (s : State) (g : Nat) (who : Holder) : State := (s.groupHbs g).foldl (fun s h => s.hold h who) s
def State.letGroup (s : State) (g : Nat) (who : Holder) : State := (s.groupHbs g).foldl (fun s h => s.release h who) s

/-- Loops with a half-bridge in a group go to OFF at their next commit, to be restarted towards the mode they were in (R256, R258). -/
def State.stopLoops (s : State) (g : Nat) : State :=
  s.loops.foldl (fun (s : State) d =>
    if !(s.groupHbs g).any (bit d.hbMask ·) || (s.lp d.loop).restart.isSome || s.nowMode d.loop == mOff then s
    else
      let m := d.loop
      let mode := if (s.lp m).stop.isSome then mOff else s.nowMode m
      s.setLp m { s.lp m with restart := some mode, stop := none }) s

/-- Groups that ALSO_OFF of a group names. -/
def State.alsoOff (s : State) (g : Nat) : List Nat := (bitsBelow (s.rd (F.PRT_GRP_CFG_ALSO_OFF g)) 8).filter (· != g)

/-- Held because of a group: the group itself, its ALSO_OFF groups, the loops (R256). -/
def State.holdFor (s : State) (g : Nat) : State :=
  let s := (s.holdGroup g .protection).stopLoops g
  (s.alsoOff g).foldl (fun s k => (s.holdGroup k .alsoOff).stopLoops k) s

/-- Class short: channels that are on turn off softly, the others hold DRIVE_OFF (R255, R256). -/
def State.softOff (s : State) (g : Nat) : State :=
  (s.groupChs g).foldl (fun (s : State) n =>
    let s := s.setCh n { s.ch n with protHold := true }
    if s.chState n == onSt then (s.setCh n { s.ch n with edge := .off, segmented := false, segs := [] }).setChState n softSt else s) s

/-- Loops in OFF that wait for a restart and whose half-bridges no holder but the loop itself keeps: requested towards their mode (R258). One
that has not committed since its trip enters OFF first (restartStep). -/
def State.restartLoops (s : State) : State :=
  s.loops.foldl (fun (s : State) d =>
    let m := d.loop
    match (s.lp m).restart with
    | none => s
    | some mode =>
      if s.nowMode m != mOff || (bitsBelow d.hbMask 12).any fun h => ((s.hb h).holders.filter (· != .loop)) != [] then s
      else
        let s := s.setLp m { s.lp m with restart := none }
        if mode == mOff then s else s.requestMode m d mode false) s

/-- A group is let go: its channels, its half-bridges, the ALSO_OFF groups that no other held group names, the loops (R256, R258). -/
def State.letGo (s : State) (g : Nat) : State :=
  let s := (s.groupChs g).foldl (fun (s : State) n =>
    let s := s.setCh n { s.ch n with protHold := false }
    if s.rdb (F.GDI_CH_STATUS_ENABLE n) then s else s.setChState n hizSt) s
  let s := if s.en then s else s.showReleased
  let s := s.letGroup g .protection
  let s := (s.alsoOff g).foldl (fun (s : State) k =>
    if (s.groups.filter (· != g)).any fun o => s.gst o != gArmed && (s.alsoOff o).contains k then s else s.letGroup k .alsoOff) s
  s.restartLoops

/-! ### Detection (R249 to R257, R262) -/

/-- Set the FAULTED bits of a group's legs. -/
def State.showLegs (s : State) (g : Nat) : State :=
  (s.groupHbs g).foldl (fun s h => s.wrb (F.PRT_HB_STATUS_FAULTED h) (bit (s.rd (F.PRT_GRP_STATE_LEGS g)) h)) s

/-- A cause that explains a trip by itself (R262). -/
def explains (cause : Nat) : Bool := cause == 2 || cause == 3 || cause == 4 || cause == 7

/-- Does a detection explain a trip of the group within its first 5 µs (R262)? -/
def sensor (cause : Nat) : Bool := cause == 2 || cause == 3 || cause == 4

/-- The group's first detection (R256, R258). -/
def State.firstDetection (s : State) (g : Nat) (short : Bool) (cause t : Nat) : State :=
  let x := s.grp g
  let recent := match x.lastTrip with
    | some l => t ≤ l + 60000000000
    | none => false
  let s := s.setGrp g { x with t0 := t, short := short, explained := explains cause || recent, collecting := true
                               doubt := false, lastTrip := some t }
  let s := (s.setGst g gTripped).wr (F.PRT_GRP_STATE_CAUSE g) cause
  let s := ((s.wrb (F.PRT_GRP_STATE_MULTI g) false).wrb (F.PRT_GRP_STATE_UNEXPLAINED g) false).wr (F.PRT_GRP_STATE_LEGS g) 0
  let s := (s.wr64 (F.PRT_GRP_TRIP_TIME_LO g) t).showLegs g
  let s := if short then s.softOff g else s
  s.holdFor g

/-- A further detection of the same trip (R256, R257, R262, R264). -/
def State.laterDetection (s : State) (g : Nat) (short : Bool) (cause t : Nat) : State :=
  let x := s.grp g
  let ex := x.explained || (sensor cause && t ≤ x.t0 + 5000)
  let s := s.setGrp g { x with short := x.short || short, explained := ex }
  if short && !x.short then s.softOff g else s

/-- A hard-short or phase-current detection of the group, on this unit or the partner, within 5 µs of a trip's first detection explains
it also after its collection (R262). -/
def State.explain (s : State) (g t : Nat) : State :=
  let x := s.grp g
  if t ≤ x.t0 + 5000 then s.setGrp g { x with explained := true, doubt := false } else s

/-- A detector trips at an instant: `leg` is its half-bridge where the detection makes it a faulted leg (R256). On a standby only
hard-short and phase-current detectors act: they are reported (R261). -/
def State.detect (s : State) (h : Nat) (short : Bool) (cause t : Nat) (leg : Bool) : State :=
  match s.groupOf h with
  | none => s
  | some g =>
    if !s.active then
      if sensor cause then { s with prt.standbyLegs := setBit s.prt.standbyLegs h true } else s
    else
      let st := s.gst g
      let s := if st == gArmed then s.firstDetection g short cause t
        else if st == gTripped && (s.grp g).collecting then s.laterDetection g short cause t
        else if sensor cause then s.explain g t
        else s
      if leg && (st == gArmed || (st == gTripped && (s.grp g).collecting)) then
        (s.wr (F.PRT_GRP_STATE_LEGS g) (setBit (s.rd (F.PRT_GRP_STATE_LEGS g)) h true)).showLegs g
      else s

/-- A group's self-test runs a detector's item: its trips are masked (R265). -/
def State.underTest (s : State) (h kind item : Nat) : Bool :=
  match s.groupOf h with
  | none => false
  | some g => s.gst g == gTest && (s.grp g).testItems.head? == some (kind, item)

/-- Desaturation of channel n (R250): on an active unit, in DRIVE_ON. `now` says the detector reads tripped after the change. -/
def State.desat (s : State) (n : Nat) (now : Bool) (t : Nat) : State :=
  let s := s.wrb (F.PRT_CH_STATUS_DESAT_NOW n) now
  if !now || !s.rdb (F.PRT_CH_DESAT_ENABLE n) || !s.active || s.chState n != onSt || s.underTest (n / 2) 1 n then s
  else (s.wrb (F.PRT_CH_STATUS_DESAT_LATCH n) true).detect (n / 2) true 1 t true

/-- DESAT_TRIP (R250). -/
def execDesatTrip (n : Fin 24) (now : Bool) (time : Nat) (s : State) : Out := .next (s.desat n now time)

/-- Hard-short of half-bridge h (R251): in every state. -/
def State.hardShort (s : State) (h : Nat) (now : Bool) (t : Nat) : State :=
  if !s.rdb (F.PRT_HB_HS_ENABLE h) then s.wrb (F.PRT_HB_STATUS_HS_NOW h) false
  else
    let s := s.wrb (F.PRT_HB_STATUS_HS_NOW h) now
    if !now || s.underTest h 2 h then s else (s.wrb (F.PRT_HB_STATUS_HS_LATCH h) true).detect h true 2 t true

/-- HARD_SHORT_TRIP (R251). -/
def execHardShortTrip (h : Fin 12) (now : Bool) (time : Nat) (s : State) : Out := .next (s.hardShort h now time)

/-- The phase-current detector of ADC a (R252). -/
def State.phaseCurrent (s : State) (a : Nat) (now : Bool) (t : Nat) : State :=
  if !s.rdb (F.PRT_ADC_CFG_ENABLE a) then s.wrb (F.PRT_ADC_CFG_NOW a) false
  else
    let s := s.wrb (F.PRT_ADC_CFG_NOW a) now
    let h := s.rd (F.PRT_ADC_CFG_HB a)
    let off := s.rdb (F.PRT_ADC_CFG_ACTION a)
    if !now || s.underTest h 3 a then s
    else (s.wrb (F.PRT_ADC_CFG_LATCH a) true).detect h (!off) (if off then 4 else 3) t true

/-- PHASE_CURRENT_TRIP (R252). -/
def execPhaseCurrentTrip (a : Fin 16) (now : Bool) (time : Nat) (s : State) : Out := .next (s.phaseCurrent a now time)

/-- The gate-voltage detector of channel n (R253): in an on interval below ON_LEVEL, in an off interval above OFF_LEVEL; not in HIGHZ or
SOFT_OFF. -/
def State.gateVoltage (s : State) (n : Nat) (now : Bool) (t : Nat) : State :=
  let st := s.chState n
  let acts := s.rdb (F.PRT_CH_GATE_ENABLE n) && (st == onSt || st == offSt)
  let s := s.wrb (F.PRT_CH_STATUS_GV_NOW n) (now && acts)
  if !now || !acts || !s.active || s.underTest (n / 2) 4 n then s
  else (s.wrb (F.PRT_CH_STATUS_GV_LATCH n) true).detect (n / 2) (st == onSt) (if st == onSt then 5 else 6) t true

/-- GATE_VOLTAGE_TRIP (R253). -/
def execGateVoltageTrip (n : Fin 24) (now : Bool) (time : Nat) (s : State) : Out := .next (s.gateVoltage n now time)

/-- A soft turn-off ends by level or by TIME: the channel sinks at its SNK current and holds DRIVE_OFF (R255). -/
def State.softEnd (s : State) (n : Nat) (byTime : Bool) : State :=
  if s.chState n != softSt then s else
  let s := s.setCh n { s.ch n with edge := .off, segmented := false, segs := [s.rd (F.GDI_CH_SNK_CODE n)] }
  let s := if byTime then s.wrb (F.PRT_CH_STATUS_SOFT_TIMEOUT n) true else s
  s.setChState n offSt

/-- SOFT_OFF_END (R255). -/
def execSoftOffEnd (n : Fin 24) (byTime : Bool) (s : State) : Out := .next (s.softEnd n byTime)

/-! ### Judgement, waits and lock-out (R257, R258, R260, R262, R263) -/

/-- A group locks out (R258, R260): records in MRAM against each half-bridge, the event, the count, the hold. -/
def State.lockGroup (s : State) (g cause : Nat) (multi : Bool) : State :=
  let s := (s.setGst g gLockout).wr (F.PRT_GRP_STATE_CAUSE g) cause
  let s := s.wrb (F.PRT_GRP_STATE_MULTI g) multi
  let s := { s with prt.records :=
    (s.groupHbs g).foldl (fun (m : SMap (Option (Nat × Bool))) h => SMap.set (fun _ => none) h (some (cause, multi)) m) s.prt.records }
  let s := (s.setGrp g { s.grp g with collecting := false }).barAdd (0x0F + cause) 1
  (s.holdFor g).event (evCode 1 0 2) (s.tripArg g)

/-- How many bits of a number below 12 are set. -/
def legCount (legs : Nat) : Nat := (bitsBelow legs 12).length

/-- A trip that nothing has explained within 5 µs of its first detection: UNEXPLAINED, and the unit withdraws (R262). -/
def State.settleDoubts (s : State) (t : Nat) : State :=
  (List.range 8).foldl (fun (s : State) g =>
    let x := s.grp g
    if !x.doubt || t < x.t0 + 5000 then s
    else ((s.setGrp g { x with doubt := false }).wrb (F.PRT_GRP_STATE_UNEXPLAINED g) true).withdraw 3) s

/-- The trip is judged at the end of its collection (R257, R258); what explains it may still come within its 5 µs (R262). -/
def State.judge (s : State) (g t : Nat) : State :=
  let x := s.grp g
  let cause := s.rd (F.PRT_GRP_STATE_CAUSE g)
  let s := (s.inc (F.PRT_GRP_TRIPS g)).barAdd (0x0F + cause) 1
  let s := s.event (evCode 1 1 1) (s.tripArg g)
  let s := s.setGrp g { x with collecting := false, doubt := !x.explained && (cause == 1 || cause == 5 || cause == 6) }
  let kept := x.history.filter fun e => x.t0 ≤ e + 60000000000
  let k := 1 + kept.length
  let s :=
    if 2 ≤ legCount (s.rd (F.PRT_GRP_STATE_LEGS g)) && x.short then s.lockGroup g cause true
    else if !s.rdb (F.PRT_GRP_CFG_RETRY g) || 3 < k then (s.setGrp g { s.grp g with history := kept }).lockGroup g cause false
    else
      let ms := if k == 1 then 10 else if k == 2 then 100 else 1000
      let s := s.setGrp g { s.grp g with history := kept ++ [x.t0], waitEnd := t + 1000000 * ms }
      ((s.setGst g gWait).wr (F.PRT_GRP_STATE_TRIES g) k).wr (F.PRT_GRP_WAIT_LEFT g) ms
  s.settleDoubts t

/-- The collection period ends: 2 µs after the first detection, every soft turn-off ended (R257). -/
def State.collectionEnd (s : State) (g t : Nat) : State :=
  if s.gst g == gTripped && (s.grp g).collecting && (s.grp g).t0 + 2000 ≤ t && (s.groupChs g).all fun n => s.chState n != softSt
  then s.judge g t else s

/-- TRIP_COLLECTION_END (R257). -/
def execTripCollectionEnd (g : Fin 8) (time : Nat) (s : State) : Out := .next (s.collectionEnd g time)

/-- The state of a group, or while it is tested the one that its test returns to. -/
def State.gstUnder (s : State) (g : Nat) : Nat := if s.gst g == gTest then (s.grp g).testFrom else s.gst g

/-- Set the state that a group has apart from a running test. -/
def State.setGstUnder (s : State) (g st : Nat) : State :=
  if s.gst g == gTest then s.setGrp g { s.grp g with testFrom := st } else s.setGst g st

/-- WAIT ends: CHECK, also under a running self-test (R258, R264). -/
def State.waitEnd (s : State) (g t : Nat) : State :=
  if s.active && s.gstUnder g == gWait && (s.grp g).waitEnd ≤ t then
    ((s.setGrp g { s.grp g with checkAt := t }).setGstUnder g gCheck).wr (F.PRT_GRP_WAIT_LEFT g) 0
  else s

/-- PRT_WAIT_END (R258). -/
def execPrtWaitEnd (g : Fin 8) (time : Nat) (s : State) : Out := .next (s.waitEnd g time)

/-- The release check of a group (R259); `enable` asks for the claim enable as well. -/
def State.releaseCheck (s : State) (g : Nat) (enable : Bool) : Bool :=
  (s.groupChs g).all (fun n => !s.chLocked n && !(s.rdb (F.PRT_CH_STATUS_GV_NOW n) && s.chState n == offSt)) &&
  (s.groupHbs g).all (fun h => !s.rdb (F.PRT_HB_STATUS_HS_NOW h)) &&
  (List.range 16).all (fun a => !(s.rdb (F.PRT_ADC_CFG_NOW a) && (s.groupHbs g).contains (s.rd (F.PRT_ADC_CFG_HB a)))) &&
  s.gst g != gTest && (!enable || s.en)

/-- The group returns to ARMED (R258, R259). -/
def State.armGroup (s : State) (g : Nat) : State := ((s.setGst g gArmed).wr (F.PRT_GRP_WAIT_LEFT g) 0).letGo g

/-- PRT_RELEASE (R259). -/
def execPrtRelease (g : Fin 8) (s : State) : Out :=
  .next (if s.active && s.gst g == gCheck && s.releaseCheck g true then s.armGroup g else s)

/-- The release check has not held within 1 s of CHECK: lock-out with cause RELEASE (R258). -/
def State.releaseTimeout (s : State) (g t : Nat) : State :=
  if !s.active || s.gstUnder g != gCheck || t < (s.grp g).checkAt + 1000000000 then s
  else if s.gst g == gTest then
    let s := (s.lockGroup g 9 false).setGst g gTest
    s.setGrp g { s.grp g with testFrom := gLockout }
  else s.lockGroup g 9 false

/-- PRT_RELEASE_TIMEOUT (R258). -/
def execPrtReleaseTimeout (g : Fin 8) (time : Nat) (s : State) : Out := .next (s.releaseTimeout g time)

/-! ### RESET (R260, R261) -/

def prtCmdAddr : Nat := 0x1A008

/-- A locked-out group is cleared (R260). -/
def State.clearGroup (s : State) (g : Nat) : State :=
  let s := { s with prt.records := s.prt.records.filter fun e => !(s.groupHbs g).contains e.1 }
  let s := s.setGrp g { s.grp g with history := [] }
  ((s.wrb (F.PRT_GRP_STATE_MULTI g) false).wr (F.PRT_GRP_STATE_TRIES g) 0).armGroup g

/-- Locked-out groups of a mask. -/
def State.lockedGroups (s : State) (mask : Nat) : List Nat := (bitsBelow mask 8).filter fun g => s.gst g == gLockout

/-- RESET of the named groups, where their release checks hold apart from the claim enable (R260). -/
def State.resetGroups (s : State) (mask : Nat) : Option State :=
  let gs := s.lockedGroups mask
  if gs.all fun g => s.releaseCheck g false then some (gs.foldl (fun s g => s.clearGroup g) s) else none

/-- PRT_CMD RESET (R260): an accepted one is passed to the partner (R261). -/
def State.prtReset (s : State) (side mask : Nat) : State :=
  if !s.maint side then s.accessError side eCredential prtCmdAddr else
  match s.resetGroups mask with
  | none => s.accessError side eState prtCmdAddr
  | some s => if s.pair.formed then s.sendItem 2 [mask % 256] else s

/-- PRT_RESET (R260). -/
def execPrtReset (side : Side) (key : BitVec 16) (groups : BitVec 8) (s : State) : Out :=
  .next (s.command side prtCmdAddr key.toNat 0x9C31 fun s => s.prtReset side groups.toNat)

/-! ### Self-test (R265, R266) -/

/-- The items of a group's test: (kind, number). -/
def State.testItems (s : State) (g : Nat) : List (Nat × Nat) :=
  let chs := s.groupChs g
  let adcs := (List.range 16).filter fun a => s.rdb (F.PRT_ADC_CFG_ENABLE a) && (s.groupHbs g).contains (s.rd (F.PRT_ADC_CFG_HB a))
  chs.map (fun n => (1, n)) ++ (s.groupHbs g).map (fun h => (2, h)) ++ adcs.map (fun a => (3, a)) ++
    chs.map (fun n => (4, n)) ++ chs.map (fun n => (5, n)) ++ chs.map (fun n => (6, n))

/-- The result field of a kind of test. -/
def testField (g kind : Nat) : Field :=
  match kind with
  | 1 => F.PRT_GRP_TEST_DESAT g
  | 2 => F.PRT_GRP_TEST_HS g
  | 3 => F.PRT_GRP_TEST_ADC g
  | 4 => F.PRT_GRP_TEST_GATE g
  | 5 => F.PRT_GRP_TEST_SOFT g
  | _ => F.PRT_GRP_TEST_BIAS g

/-- Rank of a result code: PASS lowest, then in the order of the codes (R266). -/
def testRank (code : Nat) : Nat := if code == 1 then 0 else code + 1

/-- A group's test ends: DONE, back to the state it started from, or to LOCKOUT where an item failed; an ARMED group is let go. -/
def State.endTest (s : State) (g : Nat) : State :=
  let x := s.grp g
  let s := (s.setGrp g { x with testItems := [] }).wrb (F.PRT_GRP_TEST_DONE g) true
  if x.testFrom == gArmed then s.armGroup g else s.setGst g x.testFrom

/-- A group's test starts: STATE reads TEST, the group is held off (R265). -/
def State.startTest (s : State) (g : Nat) : State :=
  let s := (List.range 6).foldl (fun s k => s.wr (testField g (k + 1)) 0) s
  let s := ((s.wrb (F.PRT_GRP_TEST_DONE g) false).wr (F.PRT_GRP_TEST_FAIL_KIND g) 0).wr (F.PRT_GRP_TEST_FAIL_ITEM g) 0
  let s := s.setGrp g { s.grp g with testFrom := s.gst g, testItems := s.testItems g, testSeen := [] }
  let s := (s.setGst g gTest).holdGroup g .protection
  if (s.grp g).testItems == [] then s.endTest g else s

/-- May TEST of a group be accepted (R265)? -/
def State.mayTest (s : State) (g : Nat) : Bool :=
  !s.active || s.gst g == gWait || s.gst g == gCheck || s.gst g == gLockout ||
    s.loops.all fun d => !(s.groupHbs g).any (bit d.hbMask ·) || s.nowMode d.loop == mOff

/-- Declared groups of a mask. -/
def State.namedGroups (s : State) (mask : Nat) : List Nat := s.groups.filter fun g => bit mask g

/-- PRT_CMD TEST (R265). -/
def State.prtTest (s : State) (side mask : Nat) : State :=
  let gs := s.namedGroups mask
  if gs.all s.mayTest then (gs.filter fun g => s.gst g != gTest).foldl (fun s g => s.startTest g) s
  else s.accessError side eState prtCmdAddr

/-- PRT_TEST (R265). -/
def execPrtTest (side : Side) (key : BitVec 16) (groups : BitVec 8) (s : State) : Out :=
  .next (s.command side prtCmdAddr key.toNat 0x9C31 fun s => s.prtTest side groups.toNat)

/-- Show a result of a kind: the worst of the group's items (R266). -/
def State.testResult (s : State) (g kind code : Nat) : State :=
  let x := s.grp g
  let old := s.rd (testField g kind)
  let s := if x.testSeen.contains kind && testRank code < testRank old then s else s.wr (testField g kind) code
  s.setGrp g { x with testSeen := if x.testSeen.contains kind then x.testSeen else kind :: x.testSeen }

/-- TEST_ABORT of a group: ABORTED for the items not run (R265). -/
def State.abortTest (s : State) (g : Nat) : State :=
  if s.gst g != gTest then s else
  ((s.grp g).testItems.foldl (fun (s : State) (i : Nat × Nat) => s.testResult g i.1 6) s).endTest g

/-- PRT_TEST_ABORT (R265). -/
def execPrtTestAbort (side : Side) (key : BitVec 16) (groups : BitVec 8) (s : State) : Out :=
  .next (s.command side prtCmdAddr key.toNat 0x9C31 fun s => (s.namedGroups groups.toNat).foldl (fun s g => s.abortTest g) s)

/-- An item of a test is done with its result (R266); a failing one locks the group out with cause SELF_TEST. -/
def State.itemDone (s : State) (g code : Nat) : State :=
  match (s.grp g).testItems with
  | [] => s
  | (kind, item) :: rest =>
    if s.gst g != gTest then s else
    let s := s.testResult g kind code
    let s := s.setGrp g { s.grp g with testItems := rest }
    let s := if code ≤ 1 || code == 6 then s else
      let s := if s.rd (F.PRT_GRP_TEST_FAIL_KIND g) == 0 then
          (s.wr (F.PRT_GRP_TEST_FAIL_KIND g) kind).wr (F.PRT_GRP_TEST_FAIL_ITEM g) item else s
      let s := s.event (evCode 1 1 5) (g * 2 ^ 24 + kind)
      let s := (s.lockGroup g 8 false).setGst g gTest
      s.setGrp g { s.grp g with testFrom := gLockout }
    if rest == [] then s.endTest g else s

/-- PRT_TEST_ITEM_DONE (R266). -/
def execPrtTestItemDone (g : Fin 8) (code : Fin 7) (s : State) : Out := .next (s.itemDone g code)

/-- Groups that wait for their start test and whose channels have all left bias lock-out are tested now (R513). -/
def State.startWaitingTests (s : State) : State :=
  let ready := s.sys.testWait.filter fun g => g < 8 && (s.groupChs g).all fun n => !s.chLocked n
  let s : State := { s with sys.testWait := s.sys.testWait.filter fun g => !ready.contains g }
  ready.foldl (fun s g => s.startTest g) s

/-! ### Across the pair (R261, R410) -/

/-- Is a cause one of a short-class detector (R249)? -/
def shortCause (cause : Nat) : Bool := cause == 1 || cause == 2 || cause == 3 || cause == 5

/-- A group of a unit that becomes active while it is TRIPPED: a collection of its own from the claim raise, with the class of the trip's
CAUSE, explained where its cause says so or by the trip that the partner had within 60 s (R261, R262). -/
def State.prtTakeOver (s : State) (t : Nat) : State :=
  s.groups.foldl (fun (s : State) g =>
    if s.gst g != gTripped then s else
    let x := s.grp g
    let cause := s.rd (F.PRT_GRP_STATE_CAUSE g)
    let recent := match x.lastTrip with
      | some l => t ≤ l + 60000000000
      | none => false
    let s := s.setGrp g { x with t0 := t, collecting := true, short := shortCause cause, explained := explains cause || recent
                                 doubt := false, lastTrip := some t }
    (s.wr64 (F.PRT_GRP_TRIP_TIME_LO g) t).holdFor g) s

/-- What a standby takes of its partner's group (R261); a lock-out seen there becomes its own, with its record. -/
def State.takeProt (s : State) (g : Nat) (e : ProtEntry) (t : Nat) : State :=
  let s : State := { s with pair.prot := SMap.set (fun _ => {}) g e s.pair.prot }
  if e.state == gLockout then
    if s.gst g == gLockout || s.gst g == gTest then s
    else (s.wr (F.PRT_GRP_STATE_LEGS g) e.legs).lockGroup g e.cause e.multi
  else if s.active then
    if e.legs == 0 then s else
    let s := s.explain g t
    if s.gst g == gTripped && (s.grp g).collecting then
      (s.wr (F.PRT_GRP_STATE_LEGS g) (s.rd (F.PRT_GRP_STATE_LEGS g) ||| e.legs)).showLegs g
    else s
  else if s.gst g == gLockout || s.gst g == gTest then s
  else
    let x := s.grp g
    let trip := if e.state == gTripped then (if s.gst g == gTripped then x.lastTrip else some t)
      else match x.lastTrip, e.history.getLast? with
        | some l, some h => some (max l h)
        | l, h => l.or h
    let s := s.setGrp g { x with history := e.history, waitEnd := e.waitEnd, collecting := false, lastTrip := trip,
                                 checkAt := if e.state == gCheck && s.gst g != gCheck then t else x.checkAt }
    let was := s.gst g
    let s := (s.wr (F.PRT_GRP_STATE_CAUSE g) e.cause).wr (F.PRT_GRP_STATE_LEGS g) e.legs
    let s := (s.wrb (F.PRT_GRP_STATE_MULTI g) e.multi).wrb (F.PRT_GRP_STATE_UNEXPLAINED g) e.unexplained
    let s := (s.wr (F.PRT_GRP_STATE_TRIES g) e.tries).setGst g e.state
    if e.state == gArmed then (if was == gArmed then s else s.letGo g) else if was == gArmed then s.holdFor g else s

/-- ITEM 0x02: a RESET accepted by the partner is applied here under R260. -/
def execPairItemPrtReset (groups : BitVec 8) (s : State) : Out := .next ((s.resetGroups groups.toNat).getD s)

/-- At start, a group with a lock-out record starts in LOCKOUT (R260). -/
def State.startGroups (s : State) : State :=
  s.groups.foldl (fun (s : State) g =>
    match (s.groupHbs g).findSome? fun h => SMap.get (fun _ => none) s.prt.records h with
    | none => s
    | some (cause, multi) =>
      (((s.setGst g gLockout).wr (F.PRT_GRP_STATE_CAUSE g) cause).wrb (F.PRT_GRP_STATE_MULTI g) multi).holdFor g) s

end Sys2Proof.Machine
end

