-- ==== Sys2Proof/Machine/GateCmd.lean ====
section
/-!
DEFINITION. Machine/GateCmd.lean: bias supervision, edges and their segments, the barrier refresh, the auxiliary half-bridges
(R226 to R243).
-/
namespace Sys2Proof.Machine
open Sys2Proof

/-! ### Bias supervision (R226 to R228) -/

/-- VDD_ISO's falling threshold, 0.1 V (R226). -/
def State.vddFall (s : State) (n : Nat) : Nat := 105 + 15 * s.rd (F.GDI_CH_SUPPLY_VDD_UV n)

/-- VEE_ISO's lock-out threshold, 0.1 V; none where it is disabled (R226). -/
def State.veeLimit (s : State) (n : Nat) : Option Int :=
  if s.rd (F.GDI_CH_SUPPLY_VEE_UV n) == 0 then none else some (-5 - 10 * (s.rd (F.GDI_CH_SUPPLY_VEE_UV n) : Int))

/-- What the primary shows of a channel's secondary at a refresh (R226): its lock-outs and its last bias report. -/
def State.showBias (s : State) (n : Nat) (vdd vee : Nat) : State :=
  let s := (s.wrb (F.GDI_CH_STATUS_UV_VDD n) (s.ch n).lockVdd).wrb (F.GDI_CH_STATUS_UV_VEE n) (s.ch n).lockVee
  (s.wr (F.GDI_CH_MON_VDD n) vdd).wr (F.GDI_CH_MON_VEE n) vee

/-- What the entry into lock-out does on the primary side (R227, R228). -/
def State.lockOutActs (s : State) (n t : Nat) : State :=
  let s := (s.inc (F.GDI_CH_UV_COUNT n)).wr F.GDI_UV_EVENT_CH (setBit (s.rd F.GDI_UV_EVENT_CH) n true)
  let s := (s.hold (n / 2) .lockout).event (evCode 1 1 3) n
  let s := s.detect (n / 2) false 7 t false
  if s.active && s.partnerReady && !bit s.pair.partnerUv n then s.startYield 2 else s

/-- A channel's bias has left its window for 1 µs (R226, R227). -/
def State.biasLock (s : State) (n vdd vee t : Nat) : State :=
  let low := vdd < s.vddFall n
  let high := match s.veeLimit n with
    | none => false
    | some l => l < signedOf 16 vee
  let was := s.chLocked n
  let c := s.ch n
  let s := s.setCh n { c with lockVdd := c.lockVdd || low, lockVee := c.lockVee || high }
  if !s.rdb (F.GDI_CH_STATUS_LINK n) then s else
  let s := s.showBias n vdd vee
  if was || !s.chLocked n then s else s.lockOutActs n t

/-- BIAS_UNDERVOLTAGE (R226 to R228). -/
def execBiasUndervoltage (n : Fin 24) (vdd vee : BitVec 16) (time : Nat) (s : State) : Out :=
  .next (s.biasLock n vdd.toNat vee.toNat time)

/-- A channel's bias has stood beyond its release thresholds for 100 µs (R226); its half-bridge is let go when both its channels are
free (R227), and a group whose self-test waited for it is tested (R513). -/
def State.biasRelease (s : State) (n vdd vee : Nat) : State :=
  let good := s.vddFall n + 8 ≤ vdd
  let low := match s.veeLimit n with
    | none => true
    | some l => signedOf 16 vee ≤ l - 3
  let c := s.ch n
  let s := s.setCh n { c with lockVdd := c.lockVdd && !good, lockVee := c.lockVee && !low }
  if !s.rdb (F.GDI_CH_STATUS_LINK n) then s else
  let s := s.showBias n vdd vee
  let h := n / 2
  let s := if s.chLocked (2 * h) || s.chLocked (2 * h + 1) then s else s.release h .lockout
  s.startWaitingTests

/-- BIAS_RELEASE (R226). -/
def execBiasRelease (n : Fin 24) (vdd vee : BitVec 16) (s : State) : Out := .next (s.biasRelease n vdd.toNat vee.toNat)

/-! ### The enable across the barrier (R236, R237) -/

/-- DIE_OK: every link of the die is refreshed (R245). -/
def State.showDie (s : State) (n : Nat) : State :=
  let d := n / 4
  s.wr F.GDI_STATUS_DIE_OK (setBit (s.rd F.GDI_STATUS_DIE_OK) d
    ((List.range 4).all fun k => s.rdb (F.GDI_CH_STATUS_LINK (4 * d + k))))

/-- ENABLE_OFF_HOLD_END (R236, R405): every channel without its enable enters HIGHZ, and the claim-gated outputs are released. -/
def execEnableOffHoldEnd (s : State) : Out := .next s.enterHighz.showReleased

/-- The first on edges are permitted: channels follow their generators (R236). -/
def State.firstOn (s : State) : State :=
  if !s.en then s else
  let s : State := { s with gd.onPermitted := true }
  let s := (List.range 24).foldl (fun s n => s.setCh n { s.ch n with fresh := false }) s
  (List.range 12).foldl (fun s h => s.follow h) s

/-- FIRST_ON_EDGE_PERMITTED (R236, R405). -/
def execFirstOnEdgePermitted (s : State) : Out := .next s.firstOn

/-- A secondary has received no valid refresh for 200 ns: the enable counts as fallen (R237). A turn-on that waited for its dead time
does not come about. -/
def State.refreshLoss (s : State) (n : Nat) : State :=
  if !s.rdb (F.GDI_CH_STATUS_LINK n) then s else
  let s := ((s.wrb (F.GDI_CH_STATUS_LINK n) false).wrb (F.GDI_CH_STATUS_ENABLE n) false).showDie n
  let s := s.offEdge n
  match (s.hb (n / 2)).waiting with
  | some .high => if n % 2 == 0 then s.setHb (n / 2) { s.hb (n / 2) with waiting := none } else s
  | some .low => if n % 2 == 1 then s.setHb (n / 2) { s.hb (n / 2) with waiting := none } else s
  | none => s

/-- REFRESH_LOSS (R237). -/
def execRefreshLoss (n : Fin 24) (s : State) : Out := .next (s.refreshLoss n)

/-- What the primary does with the lock-out state that a first refresh shows: held while a channel of the half-bridge is in lock-out,
with the acts of an entry where the primary had last seen the channel free (R226, R227). -/
def State.takeBias (s : State) (n t : Nat) (wasFree : Bool) : State :=
  let h := n / 2
  if s.chLocked n && wasFree then s.lockOutActs n t
  else if s.chLocked n then s.hold h .lockout
  else if s.chLocked (2 * h) || s.chLocked (2 * h + 1) then s
  else s.release h .lockout

/-- Valid refreshes resume: the primary takes the secondary's state, and the channel takes the enable (R226, R237). -/
def State.refreshResume (s : State) (n vdd vee t : Nat) : State :=
  if s.rdb (F.GDI_CH_STATUS_LINK n) then s else
  let wasFree := !s.rdb (F.GDI_CH_STATUS_UV_VDD n) && !s.rdb (F.GDI_CH_STATUS_UV_VEE n)
  let s := ((s.wrb (F.GDI_CH_STATUS_LINK n) true).showDie n).showBias n vdd vee
  let s := (s.takeBias n t wasFree).startWaitingTests
  if !s.en || !s.ownsGates then s else
  let s := (s.wrb (F.GDI_CH_STATUS_ENABLE n) true).setCh n { s.ch n with fresh := true }
  if s.chState n == hizSt then s.setChState n offSt else s

/-- BARRIER_REFRESH_RESUME (R226, R237). -/
def execBarrierRefreshResume (n : Fin 24) (vdd vee : BitVec 16) (time : Nat) (s : State) : Out :=
  .next (s.refreshResume n vdd.toNat vee.toNat time)

/-! ### Edges (R230 to R233) -/

/-- The running segment ends and the next starts; entering the segment that holds completes the edge (R230, R231). -/
def State.segmentEnd (s : State) (n : Nat) (byLevel : Bool) : State :=
  let c := s.ch n
  if !c.segmented || c.edge == .none || segHolds c.segs c.seg then s else
  let mask := if byLevel && c.segs.getD c.seg 0 / 2 ^ 30 == 1 then setBit c.byLevel c.seg true else c.byLevel
  let s := s.setCh n { c with seg := c.seg + 1, byLevel := mask }
  if segHolds c.segs (c.seg + 1) then
    s.wr (if c.edge == .on then F.GDI_CH_SEG_END_ON n else F.GDI_CH_SEG_END_OFF n) mask
  else s

/-- GATE_SEGMENT_END (R230, R231). -/
def execGateSegmentEnd (n : Fin 24) (byLevel : Bool) (s : State) : Out := .next (s.segmentEnd n byLevel)

/-- The other device's dead time has elapsed: the waiting device turns on, unless its on interval would be shorter than 10 ns (64
sixteenths of a tick; R232, R233). -/
def State.deadTimeEnd (s : State) (h interval : Nat) : State :=
  match (s.hb h).waiting with
  | none => s
  | some d =>
    if interval < 64 then s.cancelWait h else
    let s := s.setHb h { s.hb h with waiting := none }
    match d with
    | .high => s.startEdge (2 * h) true
    | .low => s.startEdge (2 * h + 1) true

/-- DEAD_TIME_END (R232, R233). -/
def execDeadTimeEnd (h : Fin 12) (interval : Nat) (s : State) : Out := .next (s.deadTimeEnd h interval)

/-! ### Auxiliary half-bridges (R240 to R243) -/

/-- AUX_DRV_UNDERVOLTAGE (R240): every auxiliary channel holds its sink on. -/
def execAuxDrvUndervoltage (s : State) : Out :=
  .next ((List.range 6).foldl (fun s a => s.auxSink a) (s.wrb F.GDA_STATUS_UV_DRV true))

/-- AUX_DRV_RECOVER (R240): the channels resume at their next carrier period. -/
def execAuxDrvRecover (s : State) : Out := .next (s.wrb F.GDA_STATUS_UV_DRV false)

/-- An on interval shorter than 40 ticks is omitted (R241). -/
def orOmitted (ticks : Nat) : Nat := if ticks < 40 then 0 else ticks

/-- The forced refresh off-time of 100 ticks starts the coming carrier period (R242). -/
def State.auxRefresh (s : State) (a : Nat) : Bool :=
  9900 ≤ s.auxDuty a && (s.aux a).periods == 0 && s.rd (F.GDA_HB_CFG_MODE a) < 2

/-- The duty's part of the period, rounded down to a whole tick (R241). -/
def State.auxPart (s : State) (a : Nat) : Nat := s.auxDuty a * s.rd (F.GDA_HB_PERIOD_PERIOD a) / 10000

/-- The high side's on interval of the coming carrier period, ticks: in complementary mode less the dead time that its turn-on waits
for (R241), in a refresh period less the off-time of 100 ticks (R242). -/
def State.auxOn (s : State) (a : Nat) : Nat :=
  let off := if s.auxRefresh a then 100 else 0
  match s.rd (F.GDA_HB_CFG_MODE a) with
  | 0 => orOmitted (s.auxPart a - max off (s.rd (F.GDA_HB_CFG_DT a)))
  | 1 => orOmitted (s.auxPart a - off)
  | _ => 0

/-- The low side's on interval of the coming carrier period, ticks: the rest of the period after its dead time in complementary mode,
the duty's part in low-only mode (R241). -/
def State.auxLow (s : State) (a : Nat) : Nat :=
  match s.rd (F.GDA_HB_CFG_MODE a) with
  | 0 => orOmitted (s.rd (F.GDA_HB_PERIOD_PERIOD a) - s.auxPart a - (if s.auxOn a == 0 then 0 else s.rd (F.GDA_HB_CFG_DT a)))
  | 2 => orOmitted (s.auxPart a)
  | _ => 0

/-- The low side's pulse centred in the forced off-time, ticks: 250 ns − 2 · DT, if that is at least 20 ns (R242). -/
def State.auxPulse (s : State) (a : Nat) : Nat :=
  let w := 100 - 2 * s.rd (F.GDA_HB_CFG_DT a)
  if s.auxRefresh a && s.rd (F.GDA_HB_CFG_MODE a) == 0 && 8 ≤ w then w else 0

/-- A carrier period starts (R241 to R243): settings apply, the bootstrap's recovery ends the hold and caps the duty. -/
def State.auxPeriod (s : State) (a : Nat) (recovered : Bool) : State :=
  let s := s.boundary [(8, a)]
  let x := s.aux a
  let back := x.bstWait && recovered
  let s := if back then (s.wrb (F.GDA_HB_STATUS_BST_UV a) false).wrb (F.GDA_HB_STATUS_CAPPED a) true else s
  let s := s.setAux a { x with bstWait := x.bstWait && !recovered, periods := (x.periods + 1) % 64 }
  let duty := s.auxDuty a
  let s := (s.wr (F.GDA_HB_DUTY_NOW_DUTY a) duty).wrb (F.GDA_HB_STATUS_REFRESH a) (9900 ≤ duty)
  let free := s.en && s.ownsAux && s.gd.onPermitted && !s.rdb F.GDA_STATUS_UV_DRV
  let high := if free && !(s.aux a).bstWait then s.auxOn a else 0
  let s := s.setAux a { s.aux a with
    highTicks := high
    lowTicks := if free then s.auxLow a else 0
    pulseTicks := if free then s.auxPulse a else 0 }
  s.wrb (F.GDA_HB_STATUS_OUT a) (high != 0)

/-- AUX_PERIOD_START (R241 to R243). -/
def execAuxPeriodStart (a : Fin 6) (recovered : Bool) (s : State) : Out := .next (s.auxPeriod a recovered)

/-- A bootstrap undervoltage (R243): the high side turns off and stays off until a new period after the recovery. -/
def State.bootstrapUv (s : State) (a : Nat) : State :=
  let s := ((s.inc (F.GDA_HB_BST_UV_COUNT a)).wrb (F.GDA_HB_STATUS_BST_UV a) true).wrb (F.GDA_HB_STATUS_OUT a) false
  let s := s.setAux a { s.aux a with bstWait := true, highTicks := 0 }
  (s.barAdd 0x19 1).event (evCode 1 1 3) (2 * a)

/-- BOOTSTRAP_UNDERVOLTAGE (R243). -/
def execBootstrapUndervoltage (a : Fin 6) (s : State) : Out := .next (s.bootstrapUv a)

end Sys2Proof.Machine
end

