-- ==== Sys2Proof/Machine/PairCmd.lean ====
section
/-!
DEFINITION. Machine/PairCmd.lean: the pair (chapter 15): take-over, frames and items, heartbeats, votes, hand-over.
-/
namespace Sys2Proof.Machine
open Sys2Proof

/-! ### Take-over (R102, R163, R261, R304, R310, R425) -/

/-- A site unit becomes cycle master (R102): CYCLE and RING_TIME go on, MASTER_NEW stands for 8 cycles; the Marker solves afresh and
sends DUTY (R163); the calendar of the last header is held where its VALID was set (R345). -/
def State.becomeMaster (s : State) : State :=
  if s.kind != .site then s else
  let s : State := { s with
    trg.masterNew := if s.rdb F.TRG_STATUS_MASTER then s.trg.masterNew else 8
    trg.provisional := false
    trg.away := s.rdb F.TRG_STATUS_MASTER && s.trg.away
    mrk.solving := none
    mrk.dutyChanged := true
    bil.holdsCal := s.bil.holdsCal || s.rdb F.TRG_CAL_STATUS_VALID }
  ((s.discardAhead.wrb F.TRG_STATUS_MASTER true).wrb F.MRK_STATUS_ACTIVE true).wrb F.MRK_STATUS_FOLLOW false

/-- The unit has taken its claim at ring time t: protection and the vehicle link take over; a cold take-over starts every loop and the
role from OFF (R425). -/
def State.takeOver (s : State) (cold : Bool) (t : Nat) : State :=
  let s := (s.prtTakeOver t).vlinkTakeOver.becomeMaster
  if !cold then { s with sys.roleStarted := true } else
  let s := s.loops.foldl (fun (s : State) d => s.enterOff d.loop d) s
  { s with sys.roleStarted := false }

/-! ### The frame that the unit sends (R108, R407 to R412) -/

/-- STATE of the unit's frames (R407). -/
def State.stateWord (s : State) : Nat :=
  s.rd F.PAIR_STATUS_STATE * 4096 + (if s.bar.withdrawing.isNone && s.bar.benched == 0 then 2048 else 0) +
    (if s.pair.handover.isSome then 1024 else 0) + (if s.pair.withdrawing then 512 else 0) + (if s.grant then 256 else 0)

/-- A time's sixteen bits from a bit upward; 0 is sent as 1 (R410). -/
def timeTag (t low : Nat) : Nat := if t / 2 ^ low % 65536 == 0 then 1 else t / 2 ^ low % 65536

/-- The PROT entry of a group as a number of 11 bytes (R410). -/
def State.protEntry (s : State) (g : Nat) : Nat :=
  let bits (b : Bool) (i : Nat) : Nat := if b then 2 ^ i else 0
  if !s.active then
    let rec1 := (s.groupHbs g).findSome? fun h => SMap.get (fun _ => none) s.prt.records h
    let legs := (s.groupHbs g).foldl (fun m h => if bit s.prt.standbyLegs h then m + 2 ^ h else m) 0
    match rec1 with
    | some (cause, multi) => gLockout * 2 ^ 20 + bits multi 19 + cause * 4096 + legs
    | none => legs
  else
    let x := s.grp g
    let head := s.gst g * 2 ^ 20 + bits (s.rdb (F.PRT_GRP_STATE_MULTI g)) 19 + bits (s.rdb (F.PRT_GRP_STATE_UNEXPLAINED g)) 18 +
      s.rd (F.PRT_GRP_STATE_TRIES g) * 65536 + s.rd (F.PRT_GRP_STATE_CAUSE g) * 4096 + s.rd (F.PRT_GRP_STATE_LEGS g)
    let hist := (List.range 3).foldl (fun n i => match x.history[i]? with
      | some t => n + timeTag (t / 2 ^ 24 + 1) 0 * 2 ^ (24 + 16 * i)
      | none => n) 0
    let wait := if s.gst g == gWait then timeTag (x.waitEnd + 2 ^ 20 - 1) 20 * 2 ^ 72 else 0
    head + hist + wait

/-- The PROT block. -/
def State.protBytes (s : State) : List Nat := s.groups.flatMap fun g => leBytes 11 (s.protEntry g)

/-- Insert into an ascending list without repeats. -/
def insertNat (v : Nat) : List Nat → List Nat
  | [] => [v]
  | x :: xs => if v < x then v :: x :: xs else if v == x then x :: xs else x :: insertNat v xs

/-- The words of a loop's state that a COMMIT entry or the sequencer writes (R413): of its references those of each mode it declares, in force
and incoming (log 110). -/
def shadowWords (d : LoopDecl) : List Nat :=
  let commit := (d.commit.filter (·.kind == 1)).map (·.target % 256)
  let refs := d.modes.flatMap fun x => (List.range (refCount x.mode)).flatMap fun i => [d.refWord + i, nextRefWord d + i]
  let ints := d.modes.flatMap fun x => if x.dual then [x.intWord, x.intWord + 1] else [x.intWord]
  let offs := if d.modes.any (·.dual) then [d.offsetWord, d.offsetWord + 1] else [d.offsetWord]
  (commit ++ refs ++ ints ++ offs ++ [d.modeWord]).foldl (fun l w => insertNat (w % 256) l) []

/-- The shadow list: (loop, word) by loop and word number (R413). -/
def State.shadowList (s : State) : List (Nat × Nat) :=
  (List.range 8).flatMap fun m => match s.loopDecl m with
    | none => []
    | some d => (shadowWords d).map fun w => (m, w)

/-- Declared predicted channels p = 4m + c, increasing. -/
def State.predicted (s : State) : List (Nat × Nat) :=
  (List.range 8).flatMap fun m => match s.loopDecl m with
    | none => []
    | some d => (List.range d.predicted.length).map fun c => (m, c)

/-- Slice words that fit a TYPE 0x01 frame with S channels and G groups (R409, R411). -/
def sliceWords (sCount g : Nat) : Nat := min 21 ((86 - 2 * sCount - 11 * g) / 4)

/-- The frame period ends: the sums become its means and deviations (R194). -/
def State.closePeriod (s : State) : State :=
  (List.range 8).foldl (fun (s : State) m =>
    let x := s.lp m
    if x.sums == [] && x.overs == [] then s else
    s.setLp m { x with
      means := (List.range 4).map fun c => match x.sums[c]? with
        | some (a, _, n) => if n == 0 then x.means.getD c 0 else rneInt a (16 * n)
        | none => x.means.getD c 0
      devMeans := (List.range 4).map fun c => match x.sums[c]? with
        | some (_, b, n) => if n == 0 then x.devMeans.getD c 0 else rneInt b (16 * n)
        | none => x.devMeans.getD c 0
      sums := [], overs := [] }) s

/-- EXCEED of the frame period (R409): the active unit's alone. -/
def State.exceed (s : State) : Nat :=
  if !s.active then 0 else
  s.predicted.foldl (fun n p => if (s.lp p.1).overs.contains p.2 then n + 2 ^ (4 * p.1 + p.2) else n) 0

/-- A TYPE 0x01 payload (R409). -/
def State.shadowPayload (s : State) (exceed : Nat) : List Nat :=
  let l := s.shadowList
  let n := s.rd F.PAIR_BUDGET_SLICE_N
  let ws := (List.range (if l == [] then 0 else n)).map fun i =>
    let e := l.getD ((s.pair.slice + i) % l.length) (0, 0)
    s.word e.1 e.2
  [n, 0] ++ leBytes 2 (s.key.pairHeld.headD 0) ++ leBytes 4 exceed ++
    (s.predicted.flatMap fun p => leBytes 2 (bitsOf 16 ((s.lp p.1).means.getD p.2 0))) ++ s.protBytes ++ leBytes 2 s.pair.slice ++
    ws.flatMap wordBytes

/-- The next part of the pending items (R412) and what is then left of them. -/
def bulkPart (room : Nat) (items : List (Nat × List Nat × Nat)) : Option (List Nat) × List (Nat × List Nat × Nat) :=
  match items with
  | [] => (none, [])
  | (item, body, sent) :: rest =>
    let n := min room (body.length - sent)
    let last := sent + n == body.length
    let flags := (if sent == 0 then 1 else 0) + (if last then 2 else 0)
    (some ([item, flags] ++ leBytes 2 sent ++ [n] ++ (body.drop sent).take n), if last then rest else (item, body, sent + n) :: rest)

/-- UV: channels in bias lock-out (R412). -/
def State.uvBits (s : State) : Nat := (List.range 24).foldl (fun n i => if s.chLocked i then n + 2 ^ i else n) 0

/-- The pair-link connection that the unit produces (R436). -/
def State.pairConn (s : State) : Option Nat := (List.range 16).find? fun j => s.rd (F.SAF_CONN_CFG_KIND j) == 3

/-- The state of a loop's sequencer as the partner takes it (R214). -/
def State.seqState (s : State) (m : Nat) : SeqState :=
  let x := s.lp m
  { loop := m, next := s.nextMode m, entered := x.entered, k := x.hoK, resid := x.resid, hoFrom := x.hoFrom
    req := x.req.map fun r => (r, x.byHost), queued := x.queued, retry := x.retry.map fun r => (r, x.retryIn)
    abandonTarget := x.abandonTarget, abandons := x.abandons, stop := x.stop.map fun t => (t.start, t.k, t.n) }

/-- What of a sequencer changes only with a request, a hand-over or a stop, and not with every sample. -/
def seqSteps (q : SeqState) : SeqState :=
  { q with k := 0, retry := q.retry.map fun r => (r.1, 0), stop := q.stop.map fun t => (t.1, 0, t.2.2) }

/-- A flag and an optional value as bytes. -/
def flagByte (b : Bool) : Nat := if b then 1 else 0
def optBytes (o : Option (Nat × Nat)) : List Nat := match o with
  | some (a, b) => [1, a % 256] ++ leBytes 2 b
  | none => [0, 0, 0, 0]

/-- A sequencer's state as bytes. -/
def seqBytes (q : SeqState) : List Nat :=
  let asked (o : Option (Nat × Bool)) : Option (Nat × Nat) := o.map fun r => (r.1, flagByte r.2)
  let words (ws : List Nat) : List Nat := [ws.length % 256] ++ ws.flatMap (leBytes 4)
  [q.loop, q.next, flagByte q.entered] ++ leBytes 2 q.k ++ words q.resid ++ [q.hoFrom] ++ optBytes (asked q.req) ++ optBytes (asked q.queued) ++
    optBytes q.retry ++ [q.abandonTarget, q.abandons] ++
    match q.stop with
    | some (ws, k, n) => [1] ++ words ws ++ leBytes 4 k ++ leBytes 4 n
    | none => [0]

/-- The role-software state that state memory does not hold (R412), and what of it makes a change that is sent at once. -/
def State.roleBytes (s : State) : List Nat :=
  [flagByte s.sys.available, flagByte s.sys.preCoil, flagByte s.sys.mainCoil, flagByte s.vlk.soPos, flagByte s.vlk.soNeg,
    flagByte s.vlk.soDsc, s.vlk.ccStep]
def State.seqStates (s : State) : List SeqState := s.loops.map fun d => s.seqState d.loop
def State.roleKey (s : State) : List Nat := s.roleBytes ++ s.seqStates.flatMap fun q => seqBytes (seqSteps q)

/-- Items sent every 10 ms and every 1 s while the pair is formed, and the role-software state at each change (R412). -/
def State.periodicItems (s : State) (t : Nat) : State :=
  let k := t / 10000000
  if !s.pair.formed then s else
  let due := k != s.pair.itemAt
  let s : State := { s with pair.itemAt := k }
  let s := if due && s.kind == .outlet then
      s.sendItem 7 (leBytes 8 (bitsOf 64 s.th.tc) ++ leBytes 8 (bitsOf 64 s.th.m) ++ leBytes 8 (bitsOf 64 s.th.b)) else s
  let s := if due || s.roleKey != s.pair.roleSent then
      ({ s with pair.roleSent := s.roleKey } : State).sendItem 9 (s.roleBytes ++ s.seqStates.flatMap seqBytes) else s
  if !due then s
  else if k % 100 == 0 then s.sendItem 1 (s.role.digest ++ [s.addr] ++ leBytes 8 Config.deviceId) else s

/-- The pair key in force, under which frames are sent (R393). -/
def State.sendKey (s : State) : Option (List Nat) := s.pairKeyOf (s.rd F.KEY_GEN_PAIR_PAIR)

/-- A frame with its PAYLOAD encrypted and its TAG, from TYPE on (R108): the nonce is the sender's address, 0x50, the frame count and two
zero bytes; the fields before PAYLOAD are authenticated (log 98). SEQ is the low 16 bits of the count. -/
def State.sealFrame (s : State) (typ t : Nat) (payload : List Nat) : State :=
  let n := s.pair.seq
  let head := [typ, s.own] ++ leBytes 2 s.stateWord ++ leBytes 2 (n % 65536) ++ leBytes 4 t
  let p := padTo 96 payload
  let c : List Nat × List Nat := match s.sendKey with
    | some k => Config.gcmSeal k ([s.addr, 0x50] ++ leBytes 8 n ++ [0, 0]) head p
    | none => (p, [])
  { s with pair.frame := head ++ c.1 ++ c.2, pair.payload := p, pair.lastType := typ, pair.seq := (n + 1) % 2 ^ 64, prt.standbyLegs := 0 }

/-- A frame is composed (R407 to R409, R412). -/
def State.composeFrame (s : State) (t : Nat) : State :=
  let exceed := s.exceed
  let s := (s.closePeriod).periodicItems t
  let seq := s.pair.seq
  let (typ, payload, s) : Nat × List Nat × State :=
    match seq % 8, s.pairConn, bulkPart (91 - 11 * s.groups.length) s.pair.bulkOut with
    | 3, some j, _ =>
      let (f, s) := s.makeFrame j true
      (2, s.protBytes ++ frameBody f ++ leBytes 4 f.crc ++ leBytes 3 s.uvBits, s)
    | 7, _, (some part, rest) => (3, s.protBytes ++ part, { s with pair.bulkOut := rest })
    | _, _, _ =>
      let p := s.shadowPayload exceed
      (1, p, { s with pair.slice := (s.pair.slice + s.rd F.PAIR_BUDGET_SLICE_N) % max 1 s.shadowList.length })
  s.sealFrame typ t payload

/-- The end of the unit's own frame: the PAIR block's safe boundary (R62), then the frame; a withdrawing unit sends none after its one
frame (R407), a unit without a partner sends none. Each µs also settles what 5 µs leave unexplained (R262). -/
def State.frameSend (s : State) (t : Nat) : State :=
  let s := (s.boundary [(15, 0)]).settleDoubts t
  if s.pair.partnerAddr == 0 || s.pair.withdrawing || s.inLull then s else s.composeFrame t

/-- PAIR_FRAME_SEND (R108). -/
def execPairFrameSend (time : Nat) (s : State) : Out := .next (s.frameSend time)

/-! ### The partner's frames (R404, R406, R409, R410, R195) -/

/-- The ring time nearest to t whose bits from `low` are the sixteen given and whose lower bits are 0 (R410). -/
def rebuild (t tag low : Nat) : Nat :=
  let m := 2 ^ (low + 16)
  let d := (tag % 65536 * 2 ^ low + m - t % m) % m
  if 2 * d ≤ m then t + d else t + d - m

/-- A PROT entry as it is received at ring time t (R410). -/
def protOf (e t : Nat) : ProtEntry where
  state := e / 2 ^ 20 % 8
  multi := bit e 19
  unexplained := bit e 18
  tries := e / 65536 % 4
  cause := e / 4096 % 16
  legs := e % 4096
  history := (List.range 3).filterMap fun i =>
    let h := e / 2 ^ (24 + 16 * i) % 65536
    if h == 0 then none else some (rebuild t h 24)
  waitEnd := let w := e / 2 ^ 72 % 65536
    if w == 0 then 0 else rebuild t w 20

/-- A unit whose role names a partner enters FORMING once it has joined (R514): the digest goes out; the list and items start afresh. -/
def State.startForming (s : State) : State :=
  if s.pair.partnerAddr == 0 || s.trg.join != .joined || s.rd F.PAIR_STATUS_STATE != psNone || s.pair.mismatch then s
  else if s.bar.benched != 0 then s.setPairState psCold
  else
    let s := (((s.setPairState psForming).wr F.PAIR_STATUS_PARTNER_CLAIM 0).wr F.PAIR_BULK_ITEMS 0).wr F.PAT_PARTNER_SERIAL 0
    let s : State := { s with pair.formed := false, pair.received := [], pair.shadowWait := [], pair.incomplete := [],
                              pair.voting := none, pair.bulkOut := [], pair.wordAt := [], th.partner := none }
    s.sendItem 1 (s.role.digest ++ [s.addr] ++ leBytes 8 Config.deviceId)

/-- What every valid frame's header does (R404, R406, R416): the link, the claim logic, a raise on HANDOVER or WITHDRAWING. -/
def State.takeHead (s : State) (h : PairHead) (t : Nat) : State :=
  let broke := s.pair.missed != 0
  let s : State := { s with pair.missed := 0, pair.lost := false, pair.good := if broke then 1 else min 10000 (s.pair.good + 1)
                            pair.lastFrame := t, pair.partnerSeq := h.seq, pair.pState := h.pState, pair.pHealthy := h.healthy
                            pair.partnerLast := if h.claim % 256 == 0 then s.pair.partnerLast else h.claim % 256 }
  let s := (s.wrb F.PAIR_STATUS_LINK true).wr F.PAIR_STATUS_PARTNER_CLAIM h.claim
  let s := if broke && s.rd F.PAIR_STATUS_STATE == psHot then s.setPairState psCold else s
  let s := s.startForming
  let hot := s.rd F.PAIR_STATUS_STATE == psHot && s.own == 0 && s.bar.benched == 0
  let s := if hot && h.handover && h.claim % 256 != 0 then
      ((s.raiseClaim (nextClaim (h.claim % 256)) true (some 3)).takeOver false t)
    else if hot && h.withdrawing && h.claim % 256 == 0 then
      ((s.raiseClaim (nextClaim s.pair.partnerLast) true (some 4)).takeOver false t)
    else s
  let s := if h.pState == psForming && s.pair.formed && !(s.pair.bulkOut.any fun (e : Nat × List Nat × Nat) => e.1 == 1) then
      s.sendItem 1 (s.role.digest ++ [s.addr] ++ leBytes 8 Config.deviceId) else s
  s.claimEval

/-- The PROT block in increasing group number (R410, R261). -/
def State.takeProts (s : State) (prot : List Nat) (t : Nat) : State :=
  (List.range s.groups.length).foldl (fun (s : State) i => match prot[i]? with
    | some e => s.takeProt (s.groups.getD i 0) (protOf e t) t
    | none => s) s

/-- The standby's cross-check of a channel (R195): three TYPE 0x01 frames in a row beyond X_LIM while the active unit's residual is
within R_LIM. -/
def State.crossMeans (s : State) (means : List Int) (exceed : Nat) : State :=
  let ps := s.predicted
  let s := (List.range ps.length).foldl (fun (s : State) i =>
    let p := 4 * (ps.getD i (0, 0)).1 + (ps.getD i (0, 0)).2
    let own := (s.lp (ps.getD i (0, 0)).1).means.getD (ps.getD i (0, 0)).2 0
    let theirs := means.getD i 0
    let far : Bool := s.rd (F.SHT_PCH_CFG_X_LIM p) < (own - theirs).natAbs
    let n := if far && !bit exceed p then SMap.get (fun _ => 0) s.pair.xCount p + 1 else 0
    { s with pair.partnerMeans := SMap.set (fun _ => 0) p theirs s.pair.partnerMeans
             pair.xCount := SMap.set (fun _ => 0) p n s.pair.xCount }) s
  { s with pair.partnerExceed := exceed }

/-- A slice word: the standby takes it at its next commit (R413), and PAIR_SHADOW shows the largest age seen (R414). -/
def State.takeWord (s : State) (i v t : Nat) : State :=
  match s.shadowList[i]? with
  | none => s
  | some (m, w) =>
    let age := match SMap.get (fun _ => none) s.pair.wordAt i with
      | some a => (t - a + 999) / 1000
      | none => 0
    let s : State := { s with
      pair.received := insertNat i s.pair.received
      pair.wordAt := SMap.set (fun _ => none) i (some t) s.pair.wordAt
      pair.shadowWait := (s.pair.shadowWait.filter fun e => !(e.1 == m && e.2.1 == w)) ++ [(m, w, v)] }
    s.wrsat F.PAIR_SHADOW_AGE_MAX (max age (s.rd F.PAIR_SHADOW_AGE_MAX))

/-- A TYPE 0x01 frame (R409). -/
def State.shadowFrame (s : State) (f : PairFrame) (t : Nat) : State :=
  if s.pair.partnerAddr == 0 || s.inLull || s.pair.withdrawing then s else
  let s := (s.takeHead f.head t).takeProts f.prot t
  let s := ({ s with key.partnerGen := f.pkeyGen } : State).showPairGen
  let s := s.crossMeans f.means f.exceed
  let l := s.shadowList.length
  let s := if s.en || l == 0 then s
    else (List.range f.words.length).foldl (fun (s : State) i => s.takeWord ((f.sliceIdx + i) % l) (f.words.getD i 0) t) s
  let bad := if s.active || !s.pair.formed then [] else s.predicted.filter fun p => 3 ≤ SMap.get (fun _ => 0) s.pair.xCount (4 * p.1 + p.2)
  if bad == [] then s else (bad.foldl (fun (s : State) p => s.wr (F.SHT_LOOP_STATUS_ATTRIB p.1) 2) s).withdraw 4

/-- PAIR_SHADOW_FRAME (R409). -/
def execPairShadowFrame (frame : PairFrame) (time : Nat) (s : State) : Out := .next (s.shadowFrame frame time)

/-- A TYPE 0x02 frame (R412): PROT, the partner's safety frame, UV. -/
def State.pairSafety (s : State) (h : PairHead) (prot : List Nat) (f : SafetyFrame) (uv t : Nat) : State :=
  if s.pair.partnerAddr == 0 || s.inLull || s.pair.withdrawing then s else
  let s := (s.takeHead h t).takeProts prot t
  ({ s with pair.partnerUv := uv } : State).safetyFrame 3 f

/-- PAIR_SAFETY_FRAME (R412, R228, R437). -/
def execPairSafetyFrame (head : PairHead) (prot : List Nat) (safety : SafetyFrame) (uv : BitVec 24) (time : Nat) (s : State) : Out :=
  .next (s.pairSafety head prot safety uv.toNat time)

/-! ### Heartbeats and votes (R415 to R420) -/

/-- A partner frame is not complete and valid when due; the third in a row is partner loss, acted on by pair state (R416). A run of
misses leaves STANDBY_HOT standing until it ends or partner loss is settled (log 45). `item` is the ITEM of which the frame carried a
part, 0 none: it is then received incomplete (R415; log 123). -/
def State.heartbeatMissed (s : State) (item : Nat) : State :=
  if s.pair.partnerAddr == 0 || s.pair.lost || !s.rdb F.PAIR_STATUS_LINK then s else
  let s : State := { s with pair.missed := s.pair.missed + 1, pair.good := 0
                            pair.incomplete := if item == 0 || s.pair.incomplete.contains item then s.pair.incomplete
                              else item :: s.pair.incomplete }
  let s := s.inc F.PAIR_MISSED
  if s.pair.missed < 3 then s else
  let s := (({ s with pair.lost := true }).wrb F.PAIR_STATUS_LINK false).event (evCode 3 1 1) 0
  let st := s.rd F.PAIR_STATUS_STATE
  if st == psHot then s.requestVote false 1
  else if st == psForming then (({ s with pair.formed := false }).wr F.PAT_PARTNER_SERIAL 0).setPairState psNone
  else s

/-- HEARTBEAT_MISSED (R416). -/
def execHeartbeatMissed (item : Fin 10) (time : Nat) (s : State) : Out :=
  .next (if time < s.pair.lastFrame then s else s.heartbeatMissed item)

/-- COLD_REQUEST_DUE (R416): COLD_WAIT has passed while the partner is lost, the claim is 0 and the unit is STANDBY_COLD. -/
def State.coldDue (s : State) : State :=
  if s.pair.lost && s.own == 0 && s.rd F.PAIR_STATUS_STATE == psCold && s.rdb F.PAIR_CFG_ALLOW_COLD then s.requestVote true 1 else s

def execColdRequestDue (s : State) : Out := .next s.coldDue

/-- The other members of a role instance for a requester (R418): the ROLE section's units; both of them for a floater. -/
def State.partnersOf (s : State) (inst src : Nat) : List Nat :=
  match s.pat.content.roles.find? (·.instance_ == inst) with
  | none => []
  | some r => [r.unitA, r.unitB].filter fun a => a != src && a != 0

/-- A unit is a member of a role instance, as its ROLE section names it or as a floater whose span holds it. -/
def State.memberOf (s : State) (inst src : Nat) : Bool :=
  (s.pat.content.roles.any fun r => r.instance_ == inst && (r.unitA == src || r.unitB == src)) ||
    s.pat.content.units.any fun u => u.addr == src && u.span.contains inst

/-- The witness decides (R418). -/
def State.voteRequest (s : State) (cold : Bool) (src inst claim t : Nat) : State :=
  if !s.mrk.duty.witnesses.contains (inst, s.addr) || !s.memberOf inst src || s.bar.withdrawing.isSome || s.bar.benched != 0 ||
      s.inLull then s
  else
    let recent : Bool := match SMap.get (fun _ => none) s.pair.grantAt inst with
      | some a => t < a + 100000000
      | none => false
    let cyc := s.rd64 F.TRG_CYCLE_LO
    let present : Bool := (s.partnersOf inst src).any fun p => match SMap.get (fun _ => none) s.pair.slotAt p with
      | some c => cyc < c + 3
      | none => false
    if recent then s.sendVote { kind := 4, src := s.addr, instance_ := inst, target := src, reason := 1 }
    else if cold && present then s.sendVote { kind := 4, src := s.addr, instance_ := inst, target := src, reason := 2 }
    else
      let s : State := { s with pair.grantAt := SMap.set (fun _ => none) inst (some t) s.pair.grantAt }
      (s.inc F.PAIR_WIT_GRANTS).sendVote { kind := 3, src := s.addr, instance_ := inst, target := src, claim := nextClaim claim }

/-- VOTE_REQUEST_RECEIVE (R418): the first copy of a request; a second one is no command. -/
def execVoteRequestReceive (cold : Bool) (src inst : Nat) (claim : BitVec 8) (time : Nat) (s : State) : Out :=
  .next (s.voteRequest cold src inst claim.toNat time)

/-- Which request a GRANT answers at a standby (R406, R419): the one under way, and a hot one at a unit that is still STANDBY_HOT after
its last request went unanswered (R420); none at a unit that is no standby. -/
def State.grantFor (s : State) : Option Bool :=
  let st := s.rd F.PAIR_STATUS_STATE
  if st != psHot && st != psCold then none
  else match s.pair.voting with
    | some (cold, _) => some cold
    | none => if st == psHot then some false else none

/-- A GRANT (R419): the requester takes the claim; the unit whose partner it names sets its claim to 0. -/
def State.voteGrant (s : State) (inst target claim t : Nat) : State :=
  if inst != s.pat.instance_ || inst == 0 then s
  else if target == s.addr then
    match s.grantFor with
    | none => s
    | some cold =>
      if s.own != 0 || s.bar.benched != 0 || s.pair.withdrawing then s else
      let s := s.inc F.PAIR_VOTES_GRANTED
      (s.raiseClaim claim true (some (if cold then 2 else 1))).takeOver cold t
  else if target == s.pair.partnerAddr && s.own != 0 then ((s.dropClaim psCold).wr F.PAIR_LAST_CAUSE 5)
  else s

/-- VOTE_GRANT_RECEIVE (R419, R406). -/
def execVoteGrantReceive (inst target : Nat) (claim : BitVec 8) (time : Nat) (s : State) : Out :=
  .next (s.voteGrant inst target claim.toNat time)

/-- A DENY to the requester (R419); a hot standby whose vote is settled so is STANDBY_COLD from then on (log 45). -/
def State.voteDeny (s : State) (inst target reason : Nat) : State :=
  if inst != s.pat.instance_ || inst == 0 || target != s.addr || s.pair.voting.isNone then s else
  let s := (({ s with pair.voting := none }).inc F.PAIR_VOTES_DENIED).event (evCode 3 3 4) reason
  if s.rd F.PAIR_STATUS_STATE == psHot then s.setPairState psCold else s

/-- VOTE_DENY_RECEIVE (R419). -/
def execVoteDenyReceive (inst target : Nat) (reason : BitVec 8) (s : State) : Out := .next (s.voteDeny inst target reason.toNat)

/-- A hot request without an answer: repeated up to four in all, then NO_VOTE and handled as unwitnessed (R420). -/
def State.voteRetry (s : State) : State :=
  match s.pair.voting with
  | some (false, n) =>
    if n < 4 then s.requestVote false (n + 1)
    else (({ s with pair.voting := none }).wrb F.PAIR_STATUS_NO_VOTE true).event (evCode 3 1 3) 0
  | _ => s

/-- VOTE_RETRY (R420). -/
def execVoteRetry (s : State) : Out := .next s.voteRetry

/-! ### PAIR_LOCK and hand-over (R404, R423) -/

/-- The inactive slot: the one that SLOT does not name, A where it names none (R42). -/
def State.inactive (s : State) : Nat := if s.pat.slot == 1 then 2 else 1

/-- Write the commit record (R42): COUNTER increases by 1. -/
def State.commitRecord (s : State) (oneshot slot : Nat) : State :=
  { s with pat.counter := (s.pat.counter + 1) % 2 ^ 32, pat.oneshot := oneshot, pat.slot := slot }

/-- The standby has taken the outputs: what the hand-over was for follows, an ARM or a controlled reset resets the unit (R50, R509). An
ARM's reset writes ONESHOT for the inactive slot. -/
def State.finishYield (s : State) : State :=
  match s.pair.handover with
  | none => s
  | some p =>
    let s := ({ s with pair.handover := none }).wr F.PAIR_LAST_CAUSE 3
    if p == 1 then
      ({ s.commitRecord s.inactive s.pat.slot with pat.updState := 4 } : State).announceLeave.mainReset 7 true
    else if p == 3 then s.announceLeave.mainReset 5 true
    else s

/-- PAIR_LOCK_I changes (R404). -/
def State.lockInput (s : State) (level : Bool) : State :=
  let was := s.own
  let s := (({ s with pair.lockIn := level }).wrb F.PAIR_STATUS_PL_IN level).claimEval
  if was != 0 && s.own == 0 then s.finishYield else s

/-- PAIR_LOCK_INPUT (R404). -/
def execPairLockInput (level : Bool) (time : Nat) (s : State) : Out := .next (if time < s.pair.lastFrame then s else s.lockInput level)

/-- PAIR_CMD. -/
def pairCmdAddr : Nat := 0x2600C

/-- PAIR_CMD HANDOVER (R423): refused with STATE unless the unit is active and its partner STANDBY_HOT and healthy. -/
def State.pairHandover (s : State) (side : Nat) : State :=
  if s.active && s.partnerReady then s.startYield 0 else s.accessError side eState pairCmdAddr

/-- PAIR_HANDOVER (R423). -/
def execPairHandover (side : Side) (key : BitVec 16) (s : State) : Out :=
  .next (s.command side pairCmdAddr key.toNat 0x2C95 fun s => s.pairHandover side)

/-- The standby has not raised its claim by 3 µs: the active unit keeps its claim; an ARM ends with NO_STANDBY (R423). -/
def State.handoverTimeout (s : State) : State :=
  match s.pair.handover with
  | none => s
  | some p =>
    let s : State := { s with pair.handover := none }
    if p == 1 then ({ s with pat.updResult := 14 }).wr F.PAT_UPD_STATUS_RESULT 14 else s

/-- HANDOVER_TIMEOUT (R423). -/
def execHandoverTimeout (s : State) : Out := .next s.handoverTimeout

/-- A cold standby enters STANDBY_HOT (R415): 10 ms of frames without a miss, the whole shadow list, every item complete, no
persistence count. -/
def State.hotEntry (s : State) : State :=
  if s.rd F.PAIR_STATUS_STATE == psCold && s.pair.formed && s.rdb F.PAIR_STATUS_LINK && s.bar.benched == 0 && s.pair.good == 10000 &&
      s.pair.received.length == s.shadowList.length && s.pair.incomplete == [] &&
      s.loops.all fun d => s.countsClear d.loop
  then s.setPairState psHot else s

/-- STANDBY_HOT_ENTRY (R415). -/
def execStandbyHotEntry (s : State) : Out := .next s.hotEntry

/-! ### Items (R412) -/

/-- An item has been received complete (PAIR_BULK). -/
def State.itemSeen (s : State) (item : Nat) : State :=
  ({ s with pair.incomplete := s.pair.incomplete.erase item } : State).wr F.PAIR_BULK_ITEMS (setBit (s.rd F.PAIR_BULK_ITEMS) (item - 1) true)

/-- The role figures go to the partner when the pair forms (R491). -/
def State.sendFigures (s : State) : State :=
  let c := s.bar.cnt
  let scal (i : Nat) : List Nat := leBytes 8 (SMap.get (fun _ => 0) c.scalar i)
  let temps := (List.range 20).flatMap fun b => leBytes 4 (SMap.get (fun _ => 0) c.tempHist (40 + b) / 50)
  s.sendItem 9 (scal 8 ++ scal 2 ++ scal 3 ++ scal 7 ++ c.page 2 ++ temps ++ c.page 4)

/-- The partner's role section differs (R23): no pair is formed; a unit that was forming runs as a single unit of its role with its
outputs disabled from then on, and the configuration error is raised once. An active unit keeps its claim: it forms no pair by R514. -/
def State.pairMismatch (s : State) (addr : Nat) : State :=
  let st := s.rd F.PAIR_STATUS_STATE
  let s := ({ s with pair.formed := false } : State).wr F.PAT_PARTNER_SERIAL 0
  if s.pair.mismatch || st != psForming then s
  else (({ s with pair.mismatch := true } : State).setPairState psNone).claimEval.configError 6 addr

/-- The pair forms on equal ROLE digests (R514), fails on different ones (R23). A unit that ran alone for a difference forms its pair
once the partner shows an equal section. -/
def State.formPair (s : State) (digest : List Nat) (serial addr t : Nat) : State :=
  if digest != s.role.digest then s.pairMismatch addr
  else
    let s := if s.pair.mismatch then ({ s with pair.mismatch := false } : State).startForming else s
    let st := s.rd F.PAIR_STATUS_STATE
    let fresh := !s.pair.formed
    let s : State := { s with pair.formed := true, pair.itemAt := t / 10000000 }
    let s := s.wr F.PAT_PARTNER_SERIAL serial
    let s := if fresh then s.sendFigures else s
    if st != psForming then s
    else if s.partner != 0 then s.setPairState psCold
    else if s.pair.pState == psForming && s.pair.partnerAddr < s.addr then s.setPairState psCold
    else ((s.raiseClaim 1 false none).takeOver true t)

/-- ITEM 0x01 (R514, R31, R55). -/
def State.itemDigest (s : State) (digest image : List Nat) (serial addr t : Nat) : State :=
  if addr != s.pair.partnerAddr || addr == 0 then s else
  let s := s.itemSeen 1
  let s := ({ s with pat.partnerDigest := image }).wrb F.PAT_STATUS_MIXED (image != s.pat.imageDigest)
  s.formPair digest serial addr t

/-- PAIR_ITEM_ROLE_DIGEST (R514). -/
def execPairItemRoleDigest (digest image : List Nat) (serial addr time : Nat) (s : State) : Out :=
  .next (s.itemDigest digest image serial addr time)

/-- PAIR_ITEM_SESSION_MARK (R328): the partner's mark goes to the own mailbox. -/
def execPairItemSessionMark (close : Bool) (sid time source : Nat) (s : State) : Out :=
  .next ((s.itemSeen 3).toQ1 4 (leBytes 8 sid ++ leBytes 8 time ++ [source, if close then 1 else 0]))

/-- ITEM 0x04 (R330): mirrored and passed to the partition as PARTNER. -/
def State.itemValues (s : State) (imp exp : Nat) (complete : Bool) (unbooked : Nat) (closed : Bool) : State :=
  let s := ((s.itemSeen 4).wr64 F.MET_PARTNER_IMP_LO imp).wr64 F.MET_PARTNER_EXP_LO exp
  s.toQ1 5 (leBytes 8 imp ++ leBytes 8 exp ++ [if complete then 1 else 0] ++ leBytes 4 unbooked ++ [if closed then 1 else 0])

/-- PAIR_ITEM_SESSION_VALUES (R330). -/
def execPairItemSessionValues (imp exp : Nat) (complete : Bool) (unbooked : Nat) (closed : Bool) (s : State) : Out :=
  .next (s.itemValues imp exp complete unbooked closed)

/-- PAIR_ITEM_IMD_PHASE (R304): the phase by which the standby reads the lines. -/
def execPairItemImdPhase (phase : Bool) (s : State) : Out :=
  .next (if s.active then s.itemSeen 5 else { s.itemSeen 5 with met.phase := phase })

/-- ITEM 0x06 (R310): the standby's shadow of the vehicle session. -/
def State.itemVehicle (s : State) (v : VehicleSession) : State :=
  let s := s.itemSeen 6
  if s.active || s.kind != .outlet then s else
  let s := (((s.wr F.VLK_STATUS_STATE v.state).wr F.VLK_STATUS_PROTOCOL v.protocol).wr F.VLK_STATUS_CONTROL v.control).wrb
    F.VLK_STATUS_BPT v.bpt
  let s := ((s.wr F.VLK_STATUS_AUTH v.auth).wr64 F.VLK_SESSION_ID_LO v.sid).wrb F.VLK_STATUS_SHADOW_OK v.complete
  { s with vlk.session := v.state != 0, vlk.marked := v.marked, vlk.secrets := v.complete, vlk.iReq := v.iReq, vlk.vReq := v.vReq
           vlk.vRef := v.vRef, vlk.answer := some { kind := v.answer.1, body := v.answer.2 } }

/-- PAIR_ITEM_VEHICLE_SESSION (R310). -/
def execPairItemVehicleSession (session : VehicleSession) (s : State) : Out := .next (s.itemVehicle session)

/-- ITEM 0x07 (R280): the active unit's T_c, m and b. A standby's observer starts from the first of a forming; an observer that ran before
then starts again from it. -/
def State.itemObserver (s : State) (tc m b : Int) : State :=
  let s := s.itemSeen 7
  { s with th.partner := some (tc, m, b), th.started := s.th.started && (s.active || s.th.partner.isSome) }

/-- PAIR_ITEM_OBSERVER (R280). -/
def execPairItemObserver (tc m b : Int) (s : State) : Out := .next (s.itemObserver tc m b)

/-- PAIR_ITEM_MRK_VALUES (R117): the standby site unit takes the live MRK values. Their shadows follow, so that a PLAN's own TACK at the
standby unit leaves them as they are (DESIGN CHOICE, log 101: R117 names the live values alone). -/
def execPairItemMrkValues (values : List (Nat × Nat)) (s : State) : Out :=
  .next (if s.kind != .site || s.active then s.itemSeen 8 else
    values.foldl (fun (s : State) (e : Nat × Nat) => if planningKey e.1 then s.load e.1 (landed e.1 e.2) else s) (s.itemSeen 8))

/-- The larger of two contactor counts, field by field (R491). -/
def ContactorCount.larger (c : ContactorCount) (d : Nat × Nat × Nat × Nat) : ContactorCount where
  ops := max c.ops d.1
  eqOps := max c.eqOps d.2.1
  loadOps := max c.loadOps d.2.2.1
  breakMax := max c.breakMax d.2.2.2

/-- A standby takes the state of the active unit's sequencer (R214): a loop that runs a hand-over or a stop goes on with it at its step. -/
def State.takeSeq (s : State) (q : SeqState) : State :=
  match s.loopDecl q.loop with
  | none => s
  | some _ =>
    let x := s.lp q.loop
    let same := s.nextMode q.loop == q.next && x.entered == q.entered
    let done := (x.stop.map (·.k)).getD 0
    let x : LoopSt := { x with
      entered := q.entered, hoK := if same then max x.hoK q.k else q.k, resid := q.resid, hoFrom := q.hoFrom
      req := q.req.map (·.1), byHost := (q.req.map (·.2)).getD false, queued := q.queued
      retry := q.retry.map (·.1), retryIn := (q.retry.map (·.2)).getD 0
      abandonTarget := q.abandonTarget, abandons := q.abandons
      stop := q.stop.map fun t => { start := t.1, k := max done t.2.1, n := t.2.2, began := x.stop.bind (·.began) } }
    let s := (s.setLp q.loop x).wr (F.SHT_LOOP_MODE_NEXT q.loop) q.next
    s.wrb (F.SHT_LOOP_MODE_STOPPING q.loop) q.stop.isSome

/-- ITEM 0x09 (R491, R412): the larger figures, and on a standby the role-software state. -/
def State.itemFigures (s : State) (f : RoleFigures) (r : RoleState) : State :=
  let s := s.itemSeen 9
  let top (i v : Nat) (m : SMap Nat) : SMap Nat :=
    SMap.set (fun _ => 0) i (min (max (SMap.get (fun _ => 0) m i) v) (2 ^ barWidth i - 1)) m
  let c := s.bar.cnt
  let s : State := { s with
    bar.cnt.scalar := top 7 f.plugCycles (top 3 f.eExp (top 2 f.eImp (top 8 f.lifeUsed c.scalar)))
    bar.cnt.contactor := (List.range (min 20 f.contactors.length)).foldl (fun m k =>
      SMap.set (fun _ => {}) k ((SMap.get (fun _ => {}) m k : ContactorCount).larger (f.contactors.getD k (0, 0, 0, 0))) m) c.contactor
    bar.cnt.tempHist := (List.range (min 20 f.tempHist.length)).foldl (fun m b =>
      SMap.set (fun _ => 0) (40 + b) (max (SMap.get (fun _ => 0) m (40 + b)) (f.tempHist.getD b 0 % 2 ^ 32 * 50)) m) c.tempHist
    bar.cnt.rainflow := (List.range (min 32 f.rainflow.length)).foldl (fun m b =>
      SMap.set (fun _ => 0) b (min (max (SMap.get (fun _ => 0) m b) (f.rainflow.getD b 0)) (2 ^ 32 - 1)) m) c.rainflow
    bar.cnt.rainMax := max c.rainMax f.rainMax }
  let s : State := { s with vlk.partnerR := r.rTotal }
  if s.active then s else
  let s : State := { s with sys.available := r.available, sys.preCoil := r.preCoil, sys.mainCoil := r.mainCoil, vlk.soPos := r.soPos
                            vlk.soNeg := r.soNeg, vlk.soDsc := r.soDsc, vlk.ccStep := r.ccStep }
  r.seqs.foldl State.takeSeq s

/-- PAIR_ITEM_ROLE_FIGURES (R491). -/
def execPairItemRoleFigures (fig : RoleFigures) (role : RoleState) (s : State) : Out := .next (s.itemFigures fig role)

end Sys2Proof.Machine
end

