-- ==== Sys2Proof/Machine/Image.lean ====
section
/-!
DEFINITION. Machine/Image.lean: pattern images: their layout, the checks of R43, and what a load of an image and of a role sets
(R31 to R48, and the content refusals that R78, R104, R135, R181, R254, R271, R316, R348, R381, R411, R427, R436 and R454 add).
-/
namespace Sys2Proof.Machine
open Sys2Proof

/-! ### Layout (R32, R33, R40) -/

/-- n bytes of a slot from a byte offset. -/
def Slot.bytes (x : Slot) (off n : Nat) : List Nat :=
  (List.range n).map fun i => SMap.get (fun _ => 0) x.mem ((off + i) / 4) / 256 ^ ((off + i) % 4) % 256

/-- A little-endian number of n bytes at an offset of a slot. -/
def Slot.num (x : Slot) (off n : Nat) : Nat := ofLe (x.bytes off n)

/-- An entry of the section table (R33). -/
structure Section where
  typ : Nat
  scope : Nat
  flags : Nat
  offset : Nat
  length : Nat
  zero : Nat
  digest : List Nat
deriving DecidableEq, Repr, Inhabited

def Slot.imageLength (x : Slot) : Nat := x.num 8 4
def Slot.sectionCount (x : Slot) : Nat := x.num 0xC 2
def Slot.serial (x : Slot) : Nat := x.num 0x10 4
def Slot.svn (x : Slot) : Nat := x.num 0x14 4
def Slot.siteId (x : Slot) : Nat := x.num 0x18 8
def Slot.ownerId (x : Slot) : Nat := x.num 0x20 4

/-- Entry i of the section table. -/
def Slot.section (x : Slot) (i : Nat) : Section where
  typ := x.num (0x100 + 64 * i) 1
  scope := x.num (0x101 + 64 * i) 1
  flags := x.num (0x102 + 64 * i) 2
  offset := x.num (0x104 + 64 * i) 4
  length := x.num (0x108 + 64 * i) 4
  zero := x.num (0x10C + 64 * i) 4
  digest := x.bytes (0x110 + 64 * i) 48

/-- The section table. -/
def Slot.sections (x : Slot) : List Section := (List.range x.sectionCount).map x.section

/-- The bytes of a section. -/
def Slot.sectionBytes (x : Slot) (e : Section) : List Nat := x.bytes e.offset e.length

/-- The end of the section table. -/
def Slot.tableEnd (x : Slot) : Nat := 0x100 + 64 * x.sectionCount

/-- The header keeps R32; `limit` is the highest byte offset written plus 1 during VERIFY. -/
def Slot.headerOk (x : Slot) (limit : Option Nat) : Bool :=
  x.bytes 0 4 == [0x53, 0x4B, 0x50, 0x54] && x.num 4 2 == 1 && x.num 6 2 == 256 &&
  1 ≤ x.sectionCount && x.sectionCount ≤ 512 && 256 + 64 * x.sectionCount + 304 ≤ x.imageLength && x.imageLength ≤ 12582912 &&
  (match limit with
    | some top => decide (x.imageLength ≤ top)
    | none => true) &&
  x.num 0xE 2 < 2 && (x.bytes 0x30 208).all (· == 0) && x.siteId != 0 && x.ownerId != 0

/-- A section-table entry keeps R33. -/
def Slot.entryOk (x : Slot) (e : Section) : Bool :=
  e.offset % 256 == 0 && (x.tableEnd + 255) / 256 * 256 ≤ e.offset && e.offset + e.length ≤ x.imageLength - 304 && e.length != 0 &&
    e.flags == 0 && e.zero == 0

/-- The trailer's offset (R40). -/
def Slot.trailer (x : Slot) : Nat := x.imageLength - 304

/-- The signer record stands under an authority key and names the header's owner (R40). -/
def Slot.signerOk (x : Slot) : Bool :=
  x.num x.trailer 4 == x.ownerId &&
    Config.authorityKeys.any fun k => Config.ecdsaVerify k (x.bytes x.trailer 112) (x.bytes (x.trailer + 112) 96)

/-- The image signature stands under the signer's key (R40). -/
def Slot.signatureOk (x : Slot) : Bool :=
  Config.ecdsaVerify ((x.bytes (x.trailer + 8) 97).drop 1) (x.bytes 0 x.tableEnd) (x.bytes (x.trailer + 208) 96)

/-! ### Content (R34, R39) -/

/-- The section of a type and scope. -/
def Slot.find (x : Slot) (typ scope : Nat) : Option Section := x.sections.find? fun e => e.typ == typ && e.scope == scope

/-- What an image declares: what its sections spell (log 3), with the parts that the spec lays out read from their bytes: the tack
groups, the LANES and SELVEDGE sections, the digests of the ROLE and SAFETY sections. -/
def Slot.content (x : Slot) : Content :=
  let c := Config.parseContent (x.bytes 0 x.imageLength)
  let digestOf (typ scope : Nat) : List Nat := match x.find typ scope with
    | some e => e.digest
    | none => []
  { c with
    tackGroups := match x.find 6 0 with
      | some e => x.sectionBytes e
      | none => []
    selvedge := (x.sections.filter (·.typ == 0xA)).map fun e => { instance_ := e.scope, bytes := x.sectionBytes e }
    roles := c.roles.map fun r => { r with
      digest := digestOf 2 r.instance_, safetyDigest := digestOf 9 r.instance_
      loops := match x.find 4 r.instance_ with
        | some e => loopsAt (x.sectionBytes e) r.loops
        | none => [] } }

/-- Every LANES section keeps its layout (R179, R181). -/
def Slot.lanesKept (x : Slot) : Bool := (x.sections.filter (·.typ == 4)).all fun e => lanesShapeOk (x.sectionBytes e)

/-- The kind of a role instance by its number (R33). -/
def kindOfInst (i : Nat) : RoleKind :=
  if i == 1 then .site else if 2 ≤ i && i ≤ 33 then .stack else if 34 ≤ i && i ≤ 49 then .outlet else .none

/-- Role instances that TOPOLOGY declares. -/
def declaredInsts (c : Content) : List Nat := (c.units.flatMap fun u => u.instance_ :: u.span).filter (· != 0)

/-- SCOPE values permitted for a TYPE (R34). -/
def scopeOk (typ scope : Nat) : Bool :=
  if [1, 5, 6, 7].contains typ then scope == 0
  else if typ == 2 || typ == 3 then 1 ≤ scope && scope ≤ 49
  else if typ == 4 || typ == 9 then 2 ≤ scope && scope ≤ 49
  else if typ == 8 then scope ≤ 49
  else if typ == 0xA then 34 ≤ scope && scope ≤ 49
  else typ == 0xB && scope == 1

/-- Sections present and unique (R34). -/
def Slot.presenceOk (x : Slot) (c : Content) : Bool :=
  let t := x.sections.map fun e => (e.typ, e.scope)
  let has (typ scope : Nat) : Bool := t.contains (typ, scope)
  t.all (fun e => scopeOk e.1 e.2) && t.all (fun e => t.count e == 1) &&
  [(1, 0), (5, 0), (6, 0), (8, 0), (11, 1)].all t.contains &&
  (declaredInsts c).all fun i => has 2 i && (kindOfInst i == .site || (has 3 i && has 4 i && has 9 i)) &&
    (kindOfInst i != .outlet || has 10 i)

/-- A REGISTER_INIT value lies within its field's range (R39). -/
def initOk (e : Nat × Nat × Nat) : Bool :=
  match fieldDefAt e.2.1 with
  | none => false
  | some f => e.2.2 < 2 ^ f.width && f.nearer e.2.2 == e.2.2

/-- The depth that an image gives a queue, and the size of an entry (R453). -/
def depthIn (c : Content) (q : Nat) : Nat := match c.queues.find? (·.1 == q) with
  | some e => e.2
  | none => (queueTable.getD q (0, 0, 0, 0)).2.2.2
def entrySize (q : Nat) : Nat := (queueTable.getD q (0, 0, 0, 0)).2.1
def leastDepth (q : Nat) : Nat := (queueTable.getD q (0, 0, 0, 0)).2.2.1

/-- Queue depths (R454). -/
def queuesOk (c : Content) : Bool :=
  (List.range 16).all (fun q => leastDepth q ≤ depthIn c q && depthIn c q ≤ 4095) &&
    ((List.range 14).map fun i => depthIn c (i + 2) * entrySize (i + 2)).sum ≤ 393216 && depthIn c 0 * 16 + depthIn c 1 * 64 ≤ 65536

/-- Tack groups: every block has one of 0 to 15, MRK's is its own alone (R39, R135). -/
def tackOk (c : Content) : Bool :=
  20 ≤ c.tackGroups.length && (c.tackGroups.take 20).all (· ≤ 15) &&
    (List.range 20).all fun b => b == 4 || c.tackGroups.getD b 0 != c.tackGroups.getD 4 0

/-- Paired-field groups: two to four fields, no field twice, one tack group (R39). -/
def pairedOk (c : Content) : Bool :=
  let all := c.pairedGroups.flatten
  let grp (k : Nat) : Nat := c.tackGroups.getD (blockOf (k / 32)) 0
  c.pairedGroups.all (fun g => 2 ≤ g.length && g.length ≤ 4 && g.all fun k => grp k == grp (g.headD 0)) && all.all fun k => all.count k == 1

/-! ### Start values (R38, R179) -/

/-- Give a field a start value: live value, shadow and tack buffer alike (R38). -/
def State.ld (s : State) (f : Field) (v : Nat) : State := s.load f.key (v % 2 ^ f.width)
def State.ldb (s : State) (f : Field) (b : Bool) : State := s.ld f (if b then 1 else 0)

/-- Give every staged field of a word its bits. -/
def State.ldWord (s : State) (addr w : Nat) : State :=
  match regAt addr with
  | none => s
  | some r => r.fields.foldl (fun (s : State) f => if f.staged then s.load (f.at addr 0).key (f.bits w) else s) s

/-- REGISTER_INIT of a scope (R38). -/
def State.loadInit (s : State) (scope : Nat) : State :=
  (s.pat.content.regInit.filter (·.1 == scope)).foldl (fun (s : State) e => s.load e.2.1 e.2.2) s

/-- The start values that a LANES descriptor gives (R179, R201, R222). -/
def State.loadLoop (s : State) (d : LoopDecl) : State :=
  let m := d.loop
  let s := ((s.ld (F.SHT_LOOP_CTRL_BW m) d.bw).ld (F.SHT_LOOP_CTRL_NB m) d.nb).ldb (F.SHT_LOOP_CTRL_AUTO_WIDTH m) d.autoWidth
  let s := (s.ldb (F.SHT_LOOP_CTRL_UPDATE m) d.updateNext).ldb (F.SHT_LOOP_CTRL_DECLARED m) true
  let s := (s.ld (F.SHT_LOOP_WORDS_MODE_WORD m) d.modeWord).ld (F.SHT_LOOP_WORDS_OFFSET_WORD m) d.offsetWord
  let s := (s.ld (F.SHT_LOOP_WORDS_REF_WORD m) d.refWord).ld (F.SHT_LOOP_WORDS_FLAG_WORD m) d.flagWord
  let s := (List.range (min 512 d.coef.length)).foldl (fun (s : State) w => s.ld (F.SHT_LOOP_COEF m w) (d.coef.getD w 0)) s
  let s := (List.range 7).foldl (fun (s : State) j =>
    (s.ld (F.SHT_LOOP_THETA m j) (d.theta.getD j 0)).ld (F.SHT_LOOP_HYST m j) (d.hyst.getD j 0)) s
  let s := d.modes.foldl (fun (s : State) (x : ModeMap) =>
    ((((s.ld (F.SHT_LOOP_MAP_U_WORD m x.mode) x.uWord).ld (F.SHT_LOOP_MAP_PART_WORD m x.mode) x.partWord).ld
      (F.SHT_LOOP_MAP_INT_WORD m x.mode) x.intWord).ldb (F.SHT_LOOP_MAP_DUAL m x.mode) x.dual).ldb (F.SHT_LOOP_MAP_DECLARED m x.mode) true) s
  let s := (List.range d.predicted.length).foldl (fun (s : State) c =>
    let p := 4 * m + c
    let w := d.pchStart.getD c (0, 0, 0)
    (((s.ldWord (0x8800 + 0x10 * p) w.1).ldWord (0x8804 + 0x10 * p) w.2.1).ldWord (0x8808 + 0x10 * p) w.2.2).ld (F.SHT_PCH_CFG_ADC p)
      (d.predicted.getD c 0)) s
  (bitsBelow d.lanes 8).foldl (fun (s : State) k => s.ld (F.SHT_LANE_STATUS_LOOP k) m) s

/-- The common REGISTER_INIT values of the SHT and MRK blocks: they stand over the start values that LANES and SITE_PLAN give. -/
def State.loadInitRole (s : State) : State :=
  (s.pat.content.regInit.filter fun e => e.1 == 0 && ([4, 5] : List Nat).contains (blockOf (e.2.1 / 32))).foldl
    (fun (s : State) e => s.load e.2.1 e.2.2) s

/-- The state that a role instance of an image would start with, as far as content checks read it (R38, R179). -/
def trialState (c : Content) (inst : Nat) : State :=
  let s := ({ State.reset with pat.content := c, pat.instance_ := inst } : State).loadInit 0
  let s := s.role.loops.foldl (fun (s : State) d => s.loadLoop d) s
  s.loadInitRole.loadInit inst

/-- The safe boundary that a field shares (R78): of a whole block, of a loop, of a half-bridge bound to no loop; none else. -/
def State.sharedBoundary (s : State) (key : Nat) : Option (Nat × Nat) :=
  let b := blockOf (key / 32)
  let p := s.partOf (key / 32)
  if [0, 1, 2, 17, 18, 19].contains b then some (0, 0)
  else if b == 12 || b == 13 then some (0, 12)
  else if [3, 4, 10, 11, 14, 15, 16].contains b then some (0, b)
  else if b == 5 then (if p < 12 then some (1, p) else none)
  else if [6, 7, 9].contains b && p < 12 then match s.loopOfHb p with
    | some d => some (1, d.loop)
    | none => some (2, p)
  else none

/-- Every field of a group lies in blocks whose boundary is the whole block's (R62). -/
def wholeBlocks (g : List Nat) : Bool := g.all fun k => !([5, 6, 7, 8, 9] : List Nat).contains (blockOf (k / 32))

/-- Every paired-field group has one boundary for a role instance (R78). -/
def sharedOk (c : Content) (inst : Nat) : Bool :=
  let s := trialState c inst
  c.pairedGroups.all fun g => match s.sharedBoundary (g.headD 0) with
    | none => false
    | some b => g.all fun k => s.sharedBoundary k == some b

/-- R78 for the role instances that a unit selects. A unit that selects none has no loops of its own to judge a half-bridge by: its groups
of whole blocks are judged, and one of half-bridges or loops must share its boundary in some role of the image (log 96). -/
def sharedFor (c : Content) (insts : List Nat) : Bool :=
  if insts != [] then insts.all (sharedOk c)
  else
    sharedOk { c with pairedGroups := c.pairedGroups.filter wholeBlocks } 0 &&
      (c.pairedGroups.filter fun g => !wholeBlocks g).all fun g => c.roles.any fun r => sharedOk { c with pairedGroups := [g] } r.instance_

/-- The lane sets of R170. -/
def laneSets : List Nat := [1, 2, 4, 8, 16, 32, 64, 128, 3, 12, 48, 192, 15, 240]

/-- The ranges of a loop descriptor and the limits of R181 that need no start value. -/
def loopDeclOk (d : LoopDecl) : Bool :=
  d.loop ≤ 7 && laneSets.contains d.lanes && d.hbMask < 4096 && d.adcMask < 65536 && bit d.adcMask d.keyAdc && bit d.hbMask d.anchorHb &&
  d.nb ≤ 3 && d.bwMin ≤ d.bw && d.bw ≤ d.bwMax && d.bwMax ≤ 15 && 1 ≤ d.bgDiv && d.bgDiv ≤ 255 && 1 ≤ d.nRegions && d.nRegions ≤ 8 &&
  1 ≤ d.predicted.length && d.predicted.length ≤ 4 && d.predicted.headD 16 == d.keyAdc && d.predicted.all (bit d.adcMask ·) &&
  1 ≤ d.nCoef && d.nCoef ≤ 512 && 1 ≤ d.nState && d.nState ≤ 256 && d.nCmp ≤ 12 && d.nCState ≤ 48 && 1 ≤ d.gset && d.gset ≤ 48 &&
  d.nRegions * d.gset ≤ d.nCoef &&
  d.predict.length + d.outcome.length + d.exact.length + d.background.length ≤ 1024 && d.exact.length ≤ 150 &&
  (d.predict ++ d.outcome ++ d.exact ++ d.background).all fun w => w / 2 ^ 58 ≤ 0xB

/-- No loop has both front-end and output modes (R204; log 113). -/
def modesOk (d : LoopDecl) : Bool := d.modes.all (·.mode ≤ 3) || d.modes.all (4 ≤ ·.mode)

/-- The lane programs of a role instance stay within R181 and R182. -/
def lanesOk (c : Content) (r : RoleDecl) : Bool :=
  let s := trialState c r.instance_
  let init : Cand := fun k => SMap.get resetCell s.live k
  let once (f : LoopDecl → Nat) : Bool := (List.range 16).all fun i => (r.loops.filter fun d => bit (f d) i).length ≤ 1
  (r.kind == .site || (1 ≤ r.loops.length && r.loops.length ≤ 8)) &&
  r.loops.all (fun d => loopDeclOk d && modesOk d) && once (fun d => 2 ^ d.loop) && once (·.lanes) && once (·.hbMask) && once (·.adcMask) &&
  r.loops.all fun d =>
    ((bitsBelow d.hbMask 12).all fun h => h == d.anchorHb ||
      (init (F.PWM_HB_SYNC_SOURCE h).key == 1 && init (F.PWM_HB_SYNC_REF h).key == d.anchorHb)) && s.loopFits d init

/-- The coverage check on the start values (R254). -/
def coverageOk (c : Content) (inst : Nat) : Bool :=
  let s := trialState c inst
  s.groups.all fun g => s.covered g fun k => SMap.get resetCell s.live k

/-- Sensor groups of IO_MAP (R271). -/
def sensorsOk (r : RoleDecl) : Bool :=
  let inGroup (g : Nat) : List HkDecl := r.hk.filter fun k => k.group == some g
  !r.byChannel && r.hk.all (fun k => k.group.isNone || (r.hk.filter fun o => o.k == k.k && o.group.isSome).length == 1) &&
    r.hk.all fun k => match k.group with
      | none => true
      | some g => g ≤ 28 && k.k < 48 && 2 ≤ (inGroup g).length && (inGroup g).length ≤ 8

/-- Days of a month; year 0 stands for every year. -/
def monthDays (y m : Nat) : Nat :=
  if m == 2 then (if y % 4 == 0 && (y % 100 != 0 || y % 400 == 0) then 29 else 28) else if [4, 6, 9, 11].contains m then 30 else 31

/-- A possible date. -/
def dateOk (y m d : Nat) : Bool := 1 ≤ m && m ≤ 12 && 1 ≤ d && d ≤ monthDays y m

/-- A calendar part keeps R348. -/
def calendarOk (b : List Nat) : Bool :=
  let tariff (t : Nat) : Bool := 1 ≤ t && t ≤ 16
  let offset := signedOf 16 (u16 b 4)
  let seasons := (List.range 4).filter fun i => u8 b (0x13 + 4 * i) == 1
  let specials := (List.range 64).filter fun j => u8 b (0x6E2 + 8 * j) != 0
  let date (j : Nat) : Nat × Nat × Nat := (u16 b (0x6E0 + 8 * j), u8 b (0x6E2 + 8 * j), u8 b (0x6E3 + 8 * j))
  tariff (u8 b 0) && 1 ≤ u8 b 1 && u8 b 1 ≤ 60 && u8 b 2 ≤ 1 && u8 b 3 < 16 && (-720 ≤ offset && offset ≤ 840 : Bool) &&
  (List.range 4).all (fun i => u8 b (0x13 + 4 * i) ≤ 1) && seasons != [] &&
  seasons.all (fun i => dateOk 0 (u8 b (0x10 + 4 * i)) (u8 b (0x11 + 4 * i)) && u8 b (0x12 + 4 * i) ≤ 7) &&
  (List.range 8).all (fun w => (List.range 7).all fun d => u8 b (0x20 + 8 * w + d) ≤ 31) &&
  (List.range 32).all (fun d =>
    let p := 0x60 + 52 * d
    u8 b p ≤ 12 && (List.range (min 12 (u8 b p))).all fun i =>
      u16 b (p + 4 + 4 * i) < 1440 && tariff (u8 b (p + 6 + 4 * i)) && (i == 0 || u16 b (p + 4 * i) < u16 b (p + 4 + 4 * i))) &&
  specials.all fun j => dateOk (date j).1 (date j).2.1 (date j).2.2 && u8 b (0x6E4 + 8 * j) ≤ 31 &&
    (specials.filter fun i => date i == date j).length == 1

/-- A SELVEDGE section keeps R316 and R348 for its outlet. -/
def selvedgeOk (c : Content) (d : SelvedgeDecl) : Bool :=
  let b := d.bytes
  u16 b 0 == 1 && u16 b 2 == 256 && 1 ≤ selConst b && selConst b ≤ 100000 &&
  (List.range 8).all (fun i => u8 b (0x18 + 16 * i) ≤ 63) && 10 ≤ u16 b 0x90 && u16 b 0x90 ≤ 500 && 10 ≤ u16 b 0x92 && u16 b 0x92 ≤ 500 &&
  calendarOk (b.drop 256) &&
  match c.roles.find? (·.instance_ == d.instance_) with
  | some r => selI b == r.iRated && selV b == r.vRated
  | none => true

/-- The safety connections of the site (R434, R436). -/
def connsOk (c : Content) : Bool :=
  let all := c.roles.flatMap fun r => r.conns
  let links (u : Nat) : List ConnDecl := (all.filter fun k => k.unit == u && k.kind == 3)
  let produced := all.filter fun k => k.kind == 1 || (k.kind == 3 && (links k.unit).head? == some k)
  all.all (fun k => k.connId != 0 && 1 ≤ k.wdMs && k.wdMs ≤ 1000 && (all.filter fun o => o.unit == k.unit).length ≤ 16) &&
  produced.all (fun k => (produced.filter fun o => o.connId == k.connId).length == 1) &&
  all.all (fun k => (all.filter fun o => o.unit == k.unit && o.kind == 1).length ≤ 4) &&
  c.roles.all fun r => r.unitB == 0 || r.kind == .site ||
    match links r.unitA, links r.unitB with
    | [a, b], [x, y] => a.connId == y.connId && b.connId == x.connId
    | _, _ => false

/-- A pair's frames fit (R411). -/
def pairFits (r : RoleDecl) (groups : Nat) : Bool :=
  r.unitB == 0 || (2 * (r.loops.map (·.predicted.length)).sum + 11 * groups ≤ 82 && groups ≤ 6)

/-- A whole register word lies within the ranges of its fields, reserved bits zero (R39). -/
def wordOk (addr w : Nat) : Bool :=
  match regAt addr with
  | none => false
  | some r => w < 2 ^ 32 && (r.reserved &&& w) == 0 && r.fields.all fun f => f.nearer (f.bits w) == f.bits w

/-- The values of a role's LANES, IO_MAP and SAFETY declarations lie within the ranges of their fields (R39, R179, R270, R274). -/
def rangesOk (r : RoleDecl) : Bool :=
  r.loops.all (fun d =>
    (d.coef ++ d.theta ++ d.hyst).all (· < 2 ^ 32) && d.coef.length ≤ 512 && d.theta.length ≤ 7 && d.hyst.length ≤ 7 &&
    [d.modeWord, d.offsetWord, d.refWord, d.flagWord, d.schedWord].all (· < 256) &&
    d.commit.all (fun c => c.kind ≤ 3 && c.target < 256 && c.source < 256 && c.corr.all (· < 2 ^ 32)) &&
    d.modes.all (fun x => x.mode < 8 && x.uWord < 256 && x.partWord < 256 && x.intWord < 256) &&
    (List.range d.pchStart.length).all fun c =>
      let p := 4 * d.loop + c
      let w := d.pchStart.getD c (0, 0, 0)
      wordOk (0x8800 + 0x10 * p) w.1 && wordOk (0x8804 + 0x10 * p) w.2.1 && wordOk (0x8808 + 0x10 * p) w.2.2) &&
  r.hk.all (fun k => k.k < 48 && k.kind < 8 && ((k.group.getD 0) < 32 : Bool)) && r.cool.length ≤ 2 &&
  r.cool.all (fun c => c.pumpHb < 6 && (c.fan.getD 0) < 6 && c.flowSrc < 4 && c.flowIn < 64 && 1 ≤ c.pulsesPerL && c.pulsesPerL < 256 &&
    c.inGrp < 32 && c.outGrp < 32 && ((c.pressCh.getD 0) < 64 : Bool)) &&
  r.hbGroup.all (fun e => e.1 < 12 && e.2 < 8) && r.testedOutputs.all (· ≤ 22) &&
  r.safetySet.all fun e => safetyKey e.1 && initOk (0, e.1, e.2)

/-- SITE_PLAN gives MRK fields values within their ranges (R34, R39). -/
def planOk (p : SitePlanDecl) : Bool := p.init.all fun e => blockOf (e.1 / 32) == 4 && initOk (1, e.1, e.2)

/-- The role instances that a unit of this address selects: its own and its span (R35). -/
def selectsOf (c : Content) (addr : Nat) : List Nat :=
  match c.units.find? (·.addr == addr) with
  | none => []
  | some u => (u.instance_ :: u.span).filter (· != 0)

/-- The content checks (R39 and the refusals added to it); R78 for the role instances that the unit selects. -/
def contentOk (c : Content) (addr : Nat) : Bool :=
  queuesOk c && tackOk c && pairedOk c && c.regInit.all initOk && sharedFor c (selectsOf c addr) &&
  c.roles.all (fun r => kindOfInst r.instance_ == r.kind && lanesOk c r && coverageOk c r.instance_ && sensorsOk r && rangesOk r && planOk c.sitePlan &&
    pairFits r (trialState c r.instance_).groups.length) &&
  c.units.all (fun u => (u.instance_ != 1 || u.strap.isSome) && u.span.length ≤ 8) &&
  !(c.blobMode && 62 < c.units.length) && c.selvedge.all (selvedgeOk c) && calendarOk c.sitePlan.calBytes && connsOk c

/-! ### The checks of R43 -/

/-- The Selvedge comparison (R46): every sealed section is carried with its digest. -/
def sealOk (c : Content) (sealed : List (Nat × List Nat)) : Bool :=
  sealed.all fun e => c.selvedge.any fun d => d.instance_ == e.1 && Config.sha384 d.bytes == Config.sha384 e.2

/-- check(s) of R43, in its order: the first failure's code of R58, 0 = OK. `memOk` says MRAM gave the slot's words; `limit` is given
during VERIFY. -/
def State.checkSlot (s : State) (x : Slot) (memOk : Bool) (limit : Option Nat) : Nat :=
  if x.empty then 13
  else if !memOk then 12
  else if !x.headerOk limit then 1
  else if !x.sections.all x.entryOk then 1
  else if !x.signerOk then 2
  else if s.pat.boundOwner != 0 && x.ownerId != s.pat.boundOwner then 3
  else if !x.signatureOk then 4
  else if x.svn < s.pat.svnMin then 5
  else if s.pat.boundSite != 0 && x.siteId != s.pat.boundSite then 7
  else if !x.sections.all fun e => Config.sha384 (x.sectionBytes e) == e.digest then 6
  else if !(x.presenceOk x.content && x.lanesKept && contentOk x.content s.addr) then 10
  else if !sealOk x.content s.pat.sealed then 8
  else 0

/-- Slot 1 is A, 2 is B (R42). -/
def State.slotOf (s : State) (n : Nat) : Slot := if n == 2 then s.pat.slotB else s.pat.slotA
def State.setSlot (s : State) (n : Nat) (x : Slot) : State :=
  if n == 2 then { s with pat.slotB := x } else { s with pat.slotA := x }

/-- Mirror the update's state to PAT_UPD_STATUS and the binding to its registers (R55, R58). -/
def State.showUpdate (s : State) : State :=
  let s := (s.wr F.PAT_UPD_STATUS_STATE s.pat.updState).wr F.PAT_UPD_STATUS_RESULT s.pat.updResult
  let s := (s.wr F.PAT_UPD_STATUS_OWNER s.pat.updOwner).wr F.PAT_UPD_STATUS_OWNER_CLIENT (if s.pat.updOwner == 2 then s.pat.updClient else 0)
  ((s.wr F.PAT_SVN_MIN s.pat.svnMin).wr F.PAT_OWNER_ID s.pat.boundOwner).wr64 F.PAT_SITE_ID_LO s.pat.boundSite

/-! ### Load of a role (R35, R38) -/

/-- What the loops of a role bind: lanes, half-bridges and protection groups (R170, R248, R203, R268). -/
def State.showBound (s : State) : State :=
  let loops := s.loops
  let s := s.wr F.SHT_STATUS_LANE_BOUND (loops.foldl (fun m d => m ||| d.lanes) 0)
  let s := s.wr F.SHT_STATUS_LOOP_ON (loops.foldl (fun m d => setBit m d.loop true) 0)
  let s := loops.foldl (fun (s : State) d => s.wr (F.SHT_LOOP_STATUS_BW_NOW d.loop) (s.rd (F.SHT_LOOP_CTRL_BW d.loop))) s
  let s := (List.range 12).foldl (fun (s : State) h =>
    let bound := (s.loopOfHb h).isSome
    let g := s.groupOf h
    let s := ((s.wrb (F.PWM_HB_STATUS_BOUND h) bound).wrb (F.PRT_HB_CFG_IN_GROUP h) g.isSome).wr (F.PRT_HB_CFG_GROUP h) (g.getD 0)
    let x : HbSt := { s.hb h with
      holders := (if bound then [Holder.loop] else []) ++ (if g.isNone then [Holder.noGroup] else [])
      period := s.rd (F.PWM_HB_PERIOD_PERIOD h)
      cmpOn := s.rd (F.PWM_HB_CMP_ON_CMP_ON h)
      cmpOff := s.rd (F.PWM_HB_CMP_OFF_CMP_OFF h) }
    (s.setHb h x).showHeld h) s
  s.wr F.PRT_STATUS_DECLARED (s.groups.foldl (fun m g => setBit m g true) 0)

/-- What IO_MAP declares of sensors and coolant loops (R270, R274, R283, R291). -/
def State.loadSensors (s : State) : State :=
  let r := s.role
  let s := r.hk.foldl (fun (s : State) (k : HkDecl) =>
    ((s.ld (F.TH_HK_CH_CFG_KIND k.k) k.kind).ldb (F.TH_HK_CH_CFG_IN_GROUP k.k) k.group.isSome).ld (F.TH_HK_CH_CFG_GROUP k.k)
      (k.group.getD 0)) s
  let s := (List.range 8).foldl (fun (s : State) i => s.ld (F.TH_HK_CH_CFG_KIND (48 + i)) 4) s
  let s := (List.range 29).foldl (fun (s : State) g =>
    s.ld (F.TH_GRP_CFG_MEMBERS g) (r.hk.filter fun k => k.group == some g).length) s
  let s := ((s.ld (F.TH_GRP_CFG_MEMBERS 29) 2).ld (F.TH_GRP_CFG_MEMBERS 30) 2).ld (F.TH_GRP_CFG_MEMBERS 31) 4
  let s := (List.range (min 2 r.cool.length)).foldl (fun (s : State) l =>
    let c := r.cool.getD l {}
    let s := (s.ldb (F.TH_LOOP_CFG_KIND l) c.kindStack).ld (F.TH_LOOP_CFG_PUMP_HB l) c.pumpHb
    let s := (s.ldb (F.TH_LOOP_CFG_FAN_EN l) c.fan.isSome).ld (F.TH_LOOP_CFG_FAN_HB l) (c.fan.getD 0)
    let s := (s.ld (F.TH_LOOP_CFG_FLOW_SRC l) c.flowSrc).ld (F.TH_LOOP_CFG_FLOW_IN l) c.flowIn
    let s := ((s.ld (F.TH_LOOP_CFG_PULSES_L l) c.pulsesPerL).ld (F.TH_LOOP_MAP_IN_GRP l) c.inGrp).ld (F.TH_LOOP_MAP_OUT_GRP l) c.outGrp
    let s := (s.ldb (F.TH_LOOP_MAP_PRESS_EN l) c.pressCh.isSome).ld (F.TH_LOOP_MAP_PRESS_CH l) (c.pressCh.getD 0)
    let s := s.ldb (F.GDA_HB_CFG_BIND c.pumpHb) true
    match c.fan with
    | some a => s.ldb (F.GDA_HB_CFG_BIND a) true
    | none => s) s
  ((s.ld F.TH_OBS_CFG_PIN_GRP r.pinGrp).ld F.TH_OBS_CFG_LOOP r.obsLoop).wr F.BAR_RF_CFG_GROUP (if r.kind == .stack then r.sinkGrp else 0)

/-- The safety connections and tested outputs of the unit (R434, R436, R440). -/
def State.loadSafety (s : State) : State :=
  let s := (s.role.conns.filter (·.unit == s.addr)).foldl (fun (s : State) (c : ConnDecl) =>
    ((((s.ld (F.SAF_CONN_CFG_KIND c.j) c.kind).ld (F.SAF_CONN_CFG_ACT c.j) c.act).ld (F.SAF_CONN_CFG_ON_EXPIRY c.j) c.onExpiry).ld
      (F.SAF_CONN_ID c.j) c.connId).ld (F.SAF_CONN_STATUS_WD_MS c.j) c.wdMs) s
  (List.range (min 24 s.role.testedOutputs.length)).foldl (fun (s : State) i => s.wrb (F.SAF_OUT_STATUS_TESTED i) true) s

/-- The safety parameter set that takes force (R48): the stored one where it is based on the loaded section, else the section's; the
replacement is logged. -/
def State.loadParams (s : State) : State :=
  let put (s : State) (l : List (Nat × Nat)) : State := l.foldl (fun (s : State) e => s.load e.1 e.2) s
  let t := put s s.role.safetySet
  match s.pat.safetyStored with
  | none => t.wr F.SAF_PARAM_CRC t.paramCrc
  | some (digest, l) =>
    if digest == s.role.safetyDigest then
      let t := put t l
      t.wr F.SAF_PARAM_CRC t.paramCrc
    else
      let old := put t l
      let t : State := { t with pat.safetyStored := none }
      let t := t.wr F.SAF_PARAM_CRC t.paramCrc
      let diff := (l.filter fun e => SMap.get resetCell t.live e.1 != e.2).map (·.1)
      t.safLog 4 3 255 0 old.paramCrc t.paramCrc diff.length (regPlace ((diff.foldl min (diff.headD 0)) / 32))

/-- The partner of a unit in a role instance, 0 for a single unit (R23). -/
def State.partnerOf (s : State) (inst addr : Nat) : Nat :=
  match s.pat.content.roles.find? (·.instance_ == inst) with
  | none => 0
  | some r => if r.unitA == addr then r.unitB else if r.unitB == addr then r.unitA else 0

/-- The unit takes a role instance with a partner (R35, R38): what its sections add to the common values loaded at the start. Registers
that no section of the role names keep what was written since. -/
def State.loadRole (s : State) (inst partner : Nat) : State :=
  let s : State := { s with pat.instance_ := inst, pair.partnerAddr := partner }
  let r := s.role
  let s := r.loops.foldl (fun (s : State) d => s.loadLoop d) s
  let s := if r.kind == .site then s.pat.content.sitePlan.init.foldl (fun (s : State) e => s.load e.1 e.2) s else s
  let s := (s.loadInitRole.loadInit inst).loadSensors
  let s := (s.loadParams).loadSafety
  let s := (s.showBound).startGroups
  let s := (s.ld F.PAIR_IDENT_INSTANCE inst).ld F.PAIR_IDENT_PARTNER partner
  let sCount := s.predicted.length
  let g := s.groups.length
  let s := ((s.ld F.PAIR_BUDGET_S sCount).ld F.PAIR_BUDGET_G g).ld F.PAIR_BUDGET_SLICE_N (sliceWords sCount g)
  let s := s.wr F.PAIR_SHADOW_WORDS s.shadowList.length
  let s := ((s.ld F.VLK_CFG_PHY r.phy).ldb F.VLK_CFG_MODEM r.modem).ldb F.VLK_CFG_SCHEME r.pilot
  let s := s.wrb F.SHT_STATUS_SHADOW (!s.en)
  let s : State := { s with
    bil.inst := if r.kind == .outlet then inst else s.bil.inst
    bil.isSite := r.kind == .site }
  let s := if r.kind == .site then s.sendChunks 10 [] s.pat.content.sitePlan.calBytes else s
  s.showSealed.mirrorBil

/-- The sections that a unit copies into configuration SRAM (R35): the common ones and those of the instances it selects. -/
def State.selectedSections (s : State) (x : Slot) : List Section :=
  x.sections.filter fun e => e.scope == 0 || (selectsOf s.pat.content s.addr).contains e.scope

/-- Their size in bytes. -/
def State.selectedSize (s : State) (x : Slot) : Nat := ((s.selectedSections x).map (·.length)).sum

/-- The slot the unit runs from, none for the golden image. -/
def State.runSlot (s : State) : Nat := s.rd F.PAT_STATUS_RUN_SLOT

/-- The sections are copied: a scrub pass is as long as the words of configuration SRAM that hold them (R35, R54), and the selected SELVEDGE
sections are offered to the partition (R45). -/
def State.copySections (s : State) : State :=
  let words := ((s.selectedSections (s.slotOf s.runSlot)).map fun e => (e.length + 7) / 8).sum
  ({ s with pat.scrubLen := words, pat.scrubAt := 0 } : State).showSealed.offerSections

/-- The unit has an address: it selects its sections (R35) and takes its own role; without an entry it runs with no role (R35), with
sections of more than 4 MiB it refuses the image's content. A unit that a floater has replaced comes back as a floater (R29). -/
def State.takeEntry (s : State) : State :=
  match s.pat.content.units.find? (·.addr == s.addr) with
  | none => (s.wr F.PAT_STATUS_REJECT_CODE 9).configError 8 s.addr
  | some u =>
    if 4194304 < s.selectedSize (s.slotOf s.runSlot) then s.wr F.PAT_STATUS_REJECT_CODE 10
    else
      let s := s.copySections
      if u.instance_ == 0 || s.pat.spareOf != 0 then s
      else s.loadRole u.instance_ (s.partnerOf u.instance_ s.addr)

/-- A start settles the address afresh (R104): an address by position lasts until the reset. The strap value read at power-on gives an
address that TOPOLOGY declares as strapped, under the golden image the address itself (R44); 0 waits for a train; 97 to 127 leave the unit
unassigned. -/
def State.takeStrap (s : State) : State :=
  let v := s.sys.strapPins
  let s := ((s.wr F.TRG_STATUS_ADDR 0).wr F.TRG_STATUS_SOURCE 0).wr F.TRG_STRAP_POSITION 0
  let s := (({ s with trg.posTried := false } : State).loadInit 0).showSealed
  let take (s : State) : State := (s.wr F.TRG_STATUS_ADDR v).wr F.TRG_STATUS_SOURCE 1
  if v == 0 then s
  else if 97 ≤ v then s.configError 5 v
  else if s.runSlot == 3 then take s
  else match s.pat.content.units.find? fun u => u.strap == some v && u.addr == v with
    | none => (s.wr F.PAT_STATUS_REJECT_CODE 9).configError 8 v
    | some _ => (take s).takeEntry

/-- An image is loaded from a slot (R38, R43). -/
def State.loadSlot (s : State) (n : Nat) : State :=
  let x := s.slotOf n
  let s : State := { s with
    pat.content := x.content, pat.imageDigest := Config.sha384 (x.bytes 0 x.tableEnd), pat.runSvn := x.svn, pat.expired := false
    pat.scrubAt := 0, pat.scrubLen := ((x.sections.filter (·.scope == 0)).map fun e => (e.length + 7) / 8).sum }
  let s := ((s.wr F.PAT_RUN_SERIAL x.serial).wr F.PAT_RUN_SVN x.svn).wr F.PAT_STATUS_RUN_SLOT n
  s.wrb F.KEY_STATUS_MODE x.content.blobMode

/-- The golden image is loaded: no role, no outputs (R44). Its SVN and its digest are those of its own header and table, its scrub pass its
own words (log 92). -/
def State.loadGolden (s : State) : State :=
  let g := s.pat.golden
  let svn := ofLe ((g.drop 0x14).take 4)
  let table := g.take (0x100 + 64 * ofLe ((g.drop 0xC).take 2))
  let s : State := { s with pat.content := {}, pat.imageDigest := Config.sha384 table, pat.runSvn := svn, pat.scrubAt := 0
                            pat.scrubLen := (g.length + 7) / 8 }
  ((s.wr F.PAT_STATUS_RUN_SLOT 3).wr F.PAT_RUN_SERIAL 0).wr F.PAT_RUN_SVN svn

/-- The attempt order of R43. `memA` and `memB` say that MRAM gave the words of slot A and B. -/
def State.selectImage (s : State) (memA memB : Bool) : State :=
  let mem (n : Nat) : Bool := if n == 2 then memB else memA
  let check (s : State) (n : Nat) : Nat := s.checkSlot (s.slotOf n) (mem n) none
  let reject (s : State) (code : Nat) : State := s.wr F.PAT_STATUS_REJECT_CODE code
  let one := s.pat.oneshot
  let s := if one != 0 then s.commitRecord 0 s.pat.slot else s
  if one != 0 && check s one == 0 then
    let s := ((s.loadSlot one).wrb F.PAT_STATUS_TRIAL true).wrb F.PAT_STATUS_FALLBACK (one != s.pat.slot)
    { s with pat.trialAt := s.ledger }
  else
    let s := if one != 0 then reject s (check s one) else s
    if s.pat.slot != 0 && check s s.pat.slot == 0 then s.loadSlot s.pat.slot
    else
      let s := if s.pat.slot != 0 then reject s (check s s.pat.slot) else s
      let i := s.inactive
      if check s i == 0 then (s.loadSlot i).wrb F.PAT_STATUS_FALLBACK true
      else (reject s (check s i)).loadGolden

/-- PAT_UPD_STATUS.STATE and the owner at a start (R542). -/
def State.startUpdate (s : State) : State :=
  let trial := s.rdb F.PAT_STATUS_TRIAL
  let st := s.pat.updState
  let n := if trial then 5 else if st == 4 || st == 5 then 7 else if 1 ≤ st && st ≤ 3 then 0 else st
  ({ s with pat.updState := n, pat.updOwner := if trial then s.pat.updOwner else 0, pat.updClient := if trial then s.pat.updClient else 0 }
    : State).showUpdate

end Sys2Proof.Machine
end

