-- ==== Sys2Proof/Machine/PatCmd.lean ====
section
/-!
DEFINITION. Machine/PatCmd.lean: the update procedure, the seal and the scrub (R46 to R54, R57, R542).
-/
namespace Sys2Proof.Machine
open Sys2Proof

/-- PAT_CMD. -/
def patCmdAddr : Nat := 0x2008

/-- A side as an update owner (R49): the host, or the shore client that admitted the session. -/
def State.ownerCode (s : State) (side : Nat) : Nat × Nat := if side == 0 then (1, 0) else (2, s.clientOf side)

/-- The update is owned by another side (R49). -/
def State.foreignOwner (s : State) (side : Nat) : Bool :=
  s.pat.updOwner != 0 && (s.pat.updOwner, s.pat.updClient) != s.ownerCode side

/-- Set the update's state and result. -/
def State.setUpdate (s : State) (st result : Nat) : State := ({ s with pat.updState := st, pat.updResult := result } : State).showUpdate

/-- The update loses its owner (R49). -/
def State.dropOwner (s : State) : State := ({ s with pat.updOwner := 0, pat.updClient := 0 } : State).showUpdate

/-- The inactive slot is marked empty (R49). -/
def State.emptySlot (s : State) : State := s.setSlot s.inactive { s.slotOf s.inactive with empty := true, top := 0 }

/-- A command of the procedure: OWNER from another side, else the command (R49, R57). -/
def State.patCommand (s : State) (side : Side) (key : BitVec 16) (f : State → State) : State :=
  s.command side patCmdAddr key.toNat 0x5A7E fun s => if s.foreignOwner side then s.accessError side eOwner patCmdAddr else f s

/-- OPEN (R49). -/
def State.patOpen (s : State) (side : Nat) : State :=
  if s.pat.updState == 4 || s.pat.updState == 5 then s.accessError side eState patCmdAddr else
  let (o, c) := s.ownerCode side
  ({ s.emptySlot with pat.updOwner := o, pat.updClient := c } : State).setUpdate 1 s.pat.updResult

/-- PAT_OPEN (R49). -/
def execPatOpen (side : Side) (key : BitVec 16) (s : State) : Out := .next (s.patCommand side key fun s => s.patOpen side)

/-- VERIFY (R49). -/
def State.patVerify (s : State) (side : Nat) : State :=
  if s.pat.updState == 1 || s.pat.updState == 3 then s.setUpdate 2 s.pat.updResult else s.accessError side eState patCmdAddr

/-- PAT_VERIFY (R49). -/
def execPatVerify (side : Side) (key : BitVec 16) (s : State) : Out := .next (s.patCommand side key fun s => s.patVerify side)

/-- The checks of R43 on the inactive slot are done (R49). -/
def State.verifyDone (s : State) (memOk : Bool) : State :=
  if s.pat.updState != 2 then s else
  let x := s.slotOf s.inactive
  let r := s.checkSlot x memOk (some x.top)
  s.setUpdate (if r == 0 then 3 else 1) r

/-- PAT_VERIFY_DONE (R49, R43). -/
def execPatVerifyDone (memOk : Bool) (s : State) : Out := .next (s.verifyDone memOk)

/-- The SAFETY section of an instance in some content, by its digest; empty where there is none. -/
def safetyOf (c : Content) (inst : Nat) : List Nat := ((c.roles.find? (·.instance_ == inst)).getD {}).safetyDigest

/-- An ARM would replace a running SAFETY section (R48). -/
def State.changesSafety (s : State) : Bool :=
  let new := (s.slotOf s.inactive).content
  (selectsOf s.pat.content s.addr).any fun i => safetyOf s.pat.content i != [] && safetyOf new i != safetyOf s.pat.content i

/-- The unit is armed and resets (R49, R507). -/
def State.armReset (s : State) : State :=
  ({ s.commitRecord s.inactive s.pat.slot with pat.updState := 4 } : State).announceLeave.mainReset 7 true

/-- ARM and ARM_SINGLE (R48 to R50): STATE unless VERIFIED, CREDENTIAL where R48 needs it; an active unit hands over first under ARM. -/
def State.patArm (s : State) (side : Nat) (single : Bool) : State :=
  if s.pat.updState != 3 then s.accessError side eState patCmdAddr
  else if s.changesSafety && !s.safety side then (s.accessError side eCredential patCmdAddr).setUpdate 3 11
  else if single || !s.active then s.armReset
  else if s.partnerReady && s.pair.formed then s.startYield 1
  else (s.accessError side eState patCmdAddr).setUpdate 3 14

/-- PAT_ARM (R50). -/
def execPatArm (side : Side) (key : BitVec 16) (s : State) : Out := .next (s.patCommand side key fun s => s.patArm side false)

/-- PAT_ARM_SINGLE (R50). -/
def execPatArmSingle (side : Side) (key : BitVec 16) (s : State) : Out := .next (s.patCommand side key fun s => s.patArm side true)

/-- COMMIT in trial (R51, R41): the record, PAT_SVN_MIN, the binding; the owner is released. The first COMMIT enters BOUND (R374). -/
def State.patCommit (s : State) (side : Nat) : State :=
  if s.pat.updState != 5 || !s.rdb F.PAT_STATUS_TRIAL then s.accessError side eState patCmdAddr else
  let n := s.runSlot
  let x := s.slotOf n
  let first := s.pat.boundOwner == 0
  let s := s.commitRecord 0 n
  let s : State := { s with
    pat.svnMin := max s.pat.svnMin s.pat.runSvn
    pat.expired := false
    pat.boundOwner := if first then x.ownerId else s.pat.boundOwner
    pat.boundSite := if first then x.siteId else s.pat.boundSite }
  let s := (s.wrb F.PAT_STATUS_TRIAL false).wrb F.PAT_STATUS_FALLBACK false
  let s := (s.setUpdate 6 s.pat.updResult).dropOwner
  if first && s.rd F.KEY_STATUS_LC == lcOpen then s.changeLife lcBound false else s

/-- PAT_COMMIT (R51). -/
def execPatCommit (side : Side) (key : BitVec 16) (s : State) : Out := .next (s.patCommand side key fun s => s.patCommit side)

/-- Ownership ends without a COMMIT and the inactive slot is left empty (R49, R51). -/
def State.endUpdate (s : State) : State :=
  (s.emptySlot.setUpdate (if 1 ≤ s.pat.updState && s.pat.updState ≤ 3 then 0 else s.pat.updState) s.pat.updResult).dropOwner

/-- A trial ends (R51): PAT_TRIAL_LEFT reads 0; a standby withdraws and resets, an active unit does when it is next standby. -/
def State.trialExpiry (s : State) : State :=
  if !s.rdb F.PAT_STATUS_TRIAL then s else
  let s : State := { s with pat.expired := true }
  if s.active then s else s.withdraw 9

/-- ABORT (R51): a trial ends as its expiry does; refused while ARMED; else ownership is released and the inactive slot left empty. -/
def State.patAbort (s : State) (side : Nat) : State :=
  if s.pat.updState == 4 || s.pat.updOwner == 0 && s.pat.updState != 5 then s.accessError side eState patCmdAddr
  else if s.pat.updState == 5 then s.trialExpiry
  else s.endUpdate

/-- PAT_ABORT (R51). -/
def execPatAbort (side : Side) (key : BitVec 16) (s : State) : Out := .next (s.patCommand side key fun s => s.patAbort side)

/-- SEAL (R46): refused with COMMAND, CREDENTIAL or STATE, in that order; a unit in DEBUG does not seal (R376); else the partition is
told. -/
def State.patSeal (s : State) (side : Nat) : State :=
  if side == 0 then s.accessError side eCommand patCmdAddr
  else if !s.safety side then s.accessError side eCredential patCmdAddr
  else if s.rdb F.PAT_STATUS_TRIAL || s.runSlot == 0 || s.runSlot == 3 || s.runSlot != s.pat.slot ||
      s.rd F.KEY_STATUS_LC == lcDebug then
    s.accessError side eState patCmdAddr
  else s.toQ1 2 []

/-- PAT_SEAL (R46). -/
def execPatSeal (side : Side) (key : BitVec 16) (s : State) : Out :=
  .next (s.command side patCmdAddr key.toNat 0x5A7E fun s => s.patSeal side)

/-- 600 s without a command or slot write from the owner (R49): the update loses its owner and the slot is left empty. -/
def execUpdateOwnerTimeout (s : State) : Out := .next (if s.pat.updOwner == 0 then s else s.endUpdate)

/-- TRIAL_EXPIRY (R51): PAT_TRIAL_LEFT reaches 0. -/
def execTrialExpiry (s : State) : Out := .next s.trialExpiry

/-- TRIAL_DEFERRED_REVERT (R51): the unit whose trial expired while it was active is standby. -/
def execTrialDeferredRevert (s : State) : Out := .next (if s.pat.expired && !s.active then s.withdraw 9 else s)

/-- An uncorrectable word (R54, R482, R500): the unit withdraws; in Lull it wakes first. -/
def State.memoryFault (s : State) : State :=
  if s.inLull then ({ s with clk.scrubBad := true } : State).wakeBy 6 else s.withdraw 1

/-- One configuration word is compared (R54). -/
def State.scrubWord (s : State) (f : ScrubFinding) : State :=
  let at_ := s.pat.scrubAt + 1
  let s := if s.pat.scrubLen ≤ at_ then
      ({ s with pat.scrubAt := 0 } : State).wr F.PAT_SCRUB_PASSES (s.rd F.PAT_SCRUB_PASSES + 1)
    else { s with pat.scrubAt := at_ }
  match f with
  | .equal => s
  | .sramFixed => (s.wr F.PAT_SCRUB_FIXED (s.rd F.PAT_SCRUB_FIXED + 1)).barAdd 0xA 1
  | .mramFixed => s.barAdd 0xC 1
  | .uncorrectable => s.memoryFault

/-- SCRUB_WORD (R54). -/
def execScrubWord (finding : ScrubFinding) (s : State) : Out := .next (s.scrubWord finding)

end Sys2Proof.Machine
end

