-- ==== Sys2Proof/Machine/Ring.lean ====
section
/-!
DEFINITION. Machine/Ring.lean: the Tararorn ring (chapter 04): trains, slots, Squall frames, breaks, mastership, ring time, joining,
leaving and the ring key.
-/
namespace Sys2Proof.Machine
open Sys2Proof

/-! ### Membership -/

/-- TRG_MEMBERS of an address. -/
def State.member (s : State) (a : Nat) : Bool := bit (s.rd (F.TRG_MEMBERS (a / 32))) (a % 32)
def State.setMember (s : State) (a : Nat) (b : Bool) : State :=
  if 127 < a then s else s.wr (F.TRG_MEMBERS (a / 32)) (setBit (s.rd (F.TRG_MEMBERS (a / 32))) (a % 32) b)

def State.isMaster (s : State) : Bool := s.rdb F.TRG_STATUS_MASTER

/-- The unit counts as joined (R105): its partner can be formed with (R514). -/
def State.nowJoined (s : State) : State :=
  let s := ({ s with trg.join := .joined } : State).setMember s.addr true
  let s := if s.rd F.SYS_START_PHASE == 6 then s.wr F.SYS_START_PHASE 7 else s
  let s := if s.rd F.SYS_START_SOURCE == 4 && s.bar.benched == 0 then s.event (evCode 0xD 3 3) 0 else s
  s.startForming

/-- The unit is off the ring; it joins again under R105 (R106). A master keeps the ring key, with which its trains go on, and writes no slot
(log 97). -/
def State.offRing (s : State) : State :=
  let s := ({ s with trg.join := .idle, trg.slot := none } : State).setMember s.addr false
  if s.isMaster then { s with trg.away := true, mrk.invalid := true }
  else ({ s with trg.key := none, trg.nextKey := none } : State).wrb F.TRG_STATUS_KEYED false

/-! ### The cycle master (R94, R96, R102, R345, R346) -/

/-- A master holds the ring key it generated or took over, and is joined unless it has left (R106, R107). -/
def State.ringKeyOwn (s : State) : State :=
  let s := if s.trg.key.isSome then s else
    let (v, s) := s.draw 40
    ({ s with trg.key := some (beBytes 32 v), trg.keyCycle := s.cycle } : State).wrb F.TRG_STATUS_KEYED true
  if s.trg.join == .joined || s.trg.away then s else s.nowJoined

/-- CAL_OFFSET at a cycle start (R345, R346): a step that is authorised, a slew of at most 50 ms per second, or STEP_PENDING. -/
def State.calSlew (s : State) : State :=
  if s.kind != .site || !s.active || !s.rdb F.TRG_CAL_STATUS_PTP_LOCK || !s.bil.holdsCal then s else
  let off := signedOf 64 (s.rd64 F.TRG_CAL_OFFSET_LO)
  let d := s.bil.ptpOffset - off
  let clear (s : State) : State := (s.wrb F.BIL_STATUS_STEP_PENDING false).wr F.BIL_TIME_PENDING_S 0
  match s.bil.timeSet with
  | some client =>
    let old := s.rd F.TRG_CAL_STATUS_STEP_COUNT
    let s := (clear (s.wr64 F.TRG_CAL_OFFSET_LO (bitsOf 64 s.bil.ptpOffset))).wr F.TRG_CAL_STATUS_STEP_COUNT (old + 1)
    let unit (o : Int) : Nat := (((s.now : Int) + o) / 125000).toNat
    ({ s with bil.timeSet := none, bil.lastStep := some s.now } : State).stepRecord (unit off) (unit s.bil.ptpOffset) old
      (s.rd F.TRG_CAL_STATUS_STEP_COUNT) 1 client 0
  | none =>
    if d.natAbs ≤ 2000000000 then clear (s.wr64 F.TRG_CAL_OFFSET_LO (bitsOf 64 (off + clampI (-1250) 1250 d)))
    else
      let was := s.rdb F.BIL_STATUS_STEP_PENDING
      let sec := d.tdiv 1000000000
      let s := (s.wrb F.BIL_STATUS_STEP_PENDING true).wrisat F.BIL_TIME_PENDING_S sec
      if was then s else s.event (evCode 7 2 1) (bitsOf 32 sec)

/-- PROVEN is carried while the master holds a calendar within 100 µs of its grandmaster for 16 intervals (R103). -/
def State.showProven (s : State) : State :=
  if s.active then s.wrb F.TRG_CAL_STATUS_PROVEN (s.bil.holdsCal && s.trg.ptpGood == 16) else s

/-- The cycle header's bytes before its TAG (R96). -/
def headerFieldBytes (h : RingHeader) : List Nat :=
  let b (x : Bool) (i : Nat) : Nat := if x then 2 ^ i else 0
  [b h.wrapped 0 + b h.unwrapNext 1 + b h.masterNew 2, h.master] ++ leBytes 2 h.epoch ++ leBytes 8 h.cycle ++ leBytes 8 h.ringTime ++
    leBytes 8 (bitsOf 64 h.calOffset) ++ leBytes 2 (b h.proven 0 + b h.valid 1 + h.stepCount * 256) ++ leBytes 2 h.tackMask ++
    [h.tackTarget, 0, 0, 0] ++ leBytes 8 h.tackTime

/-- The master's header goes out with its TAG (R96, R107). -/
def State.sendHeader (s : State) (h : RingHeader) : State :=
  { s with trg.header := h, trg.headerBytes := headerFieldBytes h ++ (s.ringSeal 1 h.cycle 0 (headerFieldBytes h) []).2 }

/-- The safety frame of a cycle: produced ring connection j in the cycles with CYCLE modulo N = j (R436). -/
def State.cycleFrame (s : State) (cycle : Nat) : State :=
  let js := (List.range 16).filter fun j => s.rd (F.SAF_CONN_CFG_KIND j) == 1
  match js[cycle % max 1 js.length]? with
  | none => { s with trg.safeSent := none }
  | some j =>
    let (f, s) := s.makeFrame j false
    { s with trg.safeSent := some f }

/-- The bytes of the data slot with its TAG (R97, R107): the fragment or nothing, and LEAVE; a key job's payload is encrypted. -/
def State.sealData (s : State) (cycle : Nat) (x : Option QItem) (leave : Bool) : List Nat :=
  let kind := (x.map (·.kind)).getD 0
  let body := ((x.map (·.body)).getD []).take 48
  let head := [s.addr, kind / 8, kind % 4 + (if leave then 4 else 0), body.length]
  if kind / 8 == 5 then
    let c := s.ringSeal 2 cycle 0 head (padTo 48 body)
    head ++ c.1 ++ c.2
  else
    let b := head ++ padTo 48 body
    b ++ (s.ringSeal 2 cycle 0 b []).2

/-- The bytes of the safety slot with its TAG (R98, R107); zeros where the unit produces no ring connection. -/
def State.sealSafety (s : State) (cycle : Nat) (f : Option SafetyFrame) : List Nat :=
  let b := match f with
    | some f => frameBody f ++ leBytes 4 f.crc
    | none => padTo 20 []
  b ++ (s.ringSeal 3 cycle 0 b []).2

/-- Write both slots into the trains of a cycle (R95). -/
def State.putSlots (s : State) (cycle : Nat) (x : Option QItem) (leave : Bool) : State :=
  { s with trg.slotCycle := some cycle, trg.slotSent := x, trg.slotLeave := leave, trg.slotBytes := s.sealData cycle x leave
           trg.safeBytes := s.sealSafety cycle s.trg.safeSent }

/-- A fragment on channel 0x05 has gone during a rekey: the last delivery so far (R107). -/
def State.deliveredAt (s : State) (x : Option QItem) : State :=
  if x.any fun q => q.kind / 8 == 5 then { s with trg.rekey := s.trg.rekey.map fun k => (k.1, s.now) } else s

/-- The unit writes its slots into a train (R95): the same content in both directions of one cycle. The first cycle in which it writes
with a valid tag is its join (R105). LEAVE stands for 3 cycles, then the unit stops (R106); during them the data slot carries no fragment
and the safety slot repeats the last safety frame (DESIGN CHOICE, log 97: the spec names no payload for these cycles). -/
def State.writeSlots (s : State) (cycle : Nat) : State :=
  if s.trg.slotCycle == some cycle then s
  else if s.trg.leaveLeft != 0 then
    let s := ({ s with trg.leaveLeft := s.trg.leaveLeft - 1 } : State).putSlots cycle none true
    if s.trg.leaveLeft == 0 then s.offRing else s
  else if s.trg.key.isNone || s.addr == 0 || !s.sys.running || s.trg.away || s.inLull then s
  else
    let s := if s.trg.join == .joined then s else s.nowJoined
    let x := s.trg.slot
    ({ (s.cycleFrame cycle).putSlots cycle x false with trg.slot := none } : State).deliveredAt x

/-- UNWRAP_NEXT in the header of a cycle (R100). -/
def State.unwrapSign (s : State) (unwrapNext : Bool) (cycle : Nat) : State :=
  if unwrapNext && s.trg.unwrapSeen.isNone then { s with trg.unwrapSeen := some cycle } else s

/-- A cycle starts at the master, which writes its own slots into the trains it sends (R94 to R96). -/
def State.cycleStart (s : State) (time : Nat) (unwrapNext wrapped : Bool) : State :=
  if s.kind != .site || !s.isMaster then s else
  let s := s.ringKeyOwn
  let s := (s.wr64 F.TRG_CYCLE_LO (s.cycle + 1)).wr64 F.TRG_RING_TIME_LO (max s.now time)
  let s := s.boundary [(3, 0)]
  let s := (s.calSlew.wrb F.TRG_CAL_STATUS_VALID (s.active && s.bil.holdsCal)).showProven
  let tack : Nat × Nat × Nat := match s.hbi.rtackSent with
    | some (g, target, t) => if time < t then (g, target, t) else (0, 0, 0)
    | none => (0, 0, 0)
  let h : RingHeader := {
    wrapped := wrapped, unwrapNext := unwrapNext, masterNew := s.trg.masterNew != 0, master := s.addr, epoch := s.trg.epoch
    cycle := s.cycle, ringTime := s.now, calOffset := signedOf 64 (s.rd64 F.TRG_CAL_OFFSET_LO)
    proven := s.rdb F.TRG_CAL_STATUS_PROVEN, valid := s.rdb F.TRG_CAL_STATUS_VALID, stepCount := s.rd F.TRG_CAL_STATUS_STEP_COUNT
    tackMask := tack.1, tackTarget := tack.2.1, tackTime := tack.2.2 }
  let s : State := { s.sendHeader h with trg.masterNew := s.trg.masterNew - 1, trg.lastMaster := s.addr }
  (s.unwrapSign unwrapNext s.cycle).writeSlots s.cycle

/-- CYCLE_START (R94). -/
def execCycleStart (time : Nat) (unwrapNext wrapped : Bool) (s : State) : Out := .next (s.cycleStart time unwrapNext wrapped)

/-- At ring start a site unit with a strap address that has received no train for 50 ms starts trains (R102); a unit that has joined a
ring does so only with its pair's claim (R101). `time` is the own clock's, ns. -/
def State.provisionalStart (s : State) (time : Nat) : State :=
  if s.kind == .site && s.rd F.TRG_STATUS_SOURCE == 1 && s.sys.running && s.trg.join != .joined && !s.trg.away && !s.isMaster &&
      !s.inLull && s.trg.trainAt.all (fun t => t + 50000000 ≤ time) then
    (({ s with trg.provisional := true } : State).wrb F.TRG_STATUS_MASTER true).ringKeyOwn
  else s

/-- PROVISIONAL_MASTER (R102). -/
def execProvisionalMaster (time : Nat) (s : State) : Out := .next (s.provisionalStart time)

/-! ### A train passes (R95 to R98, R104, R106, R417, R436) -/

/-- The place of a channel in the order of R97. -/
def channelRank (ch : Nat) : Nat := [9, 0, 2, 5, 6, 1, 4, 3].getD ch 9

/-- The unit takes its position's address (R104). -/
def State.takePosition (s : State) (hop master : Nat) : State :=
  if s.trg.posTried || s.sys.strapPins != 0 || s.addr != 0 || !s.sys.running || s.trg.broken != [] then s else
  let s : State := { s with trg.posTried := true }
  let i := if master == s.pat.content.siteA then some 0 else if master == s.pat.content.siteB then some 1 else none
  match i.bind fun i => s.pat.content.units.find? fun u => u.strap.isNone && u.hops[i]? == some hop with
  | some u => (((s.wr F.TRG_STATUS_ADDR u.addr).wr F.TRG_STATUS_SOURCE 2).wr F.TRG_STRAP_POSITION hop).takeEntry
  | none => (s.wr F.PAT_STATUS_REJECT_CODE 9).configError 8 hop

/-- The link a train came in by: its measured delay and its neighbour (R103, R114). -/
def State.measureLink (s : State) (dirB : Bool) (delay neighbour : Nat) : State :=
  if dirB then (s.wr F.TRG_HOP_DELAY_1 delay).wr F.TRG_NEIGHBOUR_PORT_1 neighbour
  else (s.wr F.TRG_HOP_DELAY_2 delay).wr F.TRG_NEIGHBOUR_PORT_2 neighbour

/-- HOP and CORRECTION of a train, as received and as forwarded (R96). -/
def State.takeHop (s : State) (dirB : Bool) (hop correction delay forward : Nat) : State :=
  let h := (hop + 1) % 256
  let c := (correction + delay) % 2 ^ 32
  let f := (c + forward) % 2 ^ 32
  if dirB then { s with trg.hopB := h, trg.corrB := c, trg.fwdB := f } else { s with trg.hopA := h, trg.corrA := c, trg.fwdA := f }

/-- The vote frame at the head has gone with a train; the next one goes with the one that has now passed (R417). -/
def State.nextVote (s : State) : State :=
  let vs := s.pair.voteOut.drop 1
  { s with pair.voteOut := vs, pair.voteSent := match vs with
    | [] => s.pair.voteSent
    | v :: _ => s.voteBytes v }

/-- A train's delimiter passes (R96): hop count, CORRECTION, the neighbour on the receiving port; a position address is taken on a whole
ring (R104: neither the train nor, by its header, the ring is wrapped); the slots are written as it passes. In Lull and in reset the ring
ports only forward, and finish an announced leave (R106, R154, R480, R508). The master's own trains end at it (R95). -/
def State.train (s : State) (dirB wrapped ringWrapped : Bool) (cycle hop correction delay forward neighbour master time : Nat) : State :=
  let s := ({ s with trg.trainAt := some time } : State).measureLink dirB delay neighbour
  if s.isMaster then s else
  let s := s.takeHop dirB hop correction delay forward
  let s := if !dirB && !wrapped && !ringWrapped && !s.inLull then s.takePosition s.trg.hopA master else s
  let s := s.writeSlots cycle
  if dirB || s.inLull then s else s.nextVote

/-! ### Tags (R107) -/

/-- A frame of a source fails its tag: counted; the 16th within 1 s raises a security event. -/
def State.tagFail (s : State) (src : Nat) : State :=
  let s := s.inc F.TRG_AUTH_FAIL
  let old := (SMap.get (fun _ => []) s.trg.fails src).filter fun t => s.now < t + 1000000000
  let l := s.now :: old
  if 16 ≤ l.length then
    ({ s with trg.fails := SMap.set (fun _ => []) src [] s.trg.fails } : State).event (evCode 8 1 1) src
  else { s with trg.fails := SMap.set (fun _ => []) src l s.trg.fails }

/-! ### The cycle header (R71, R96, R102, R103) -/

/-- A ring-wide TACK of a header (R71, R96): applied once; late, it sets LATE with a configuration error. -/
def State.headerTack (s : State) (h : RingHeader) : State :=
  if h.tackMask == 0 || (h.tackTarget != 127 && h.tackTarget != s.addr) then s else
  let k := (h.tackMask, h.tackTime)
  if s.hbi.rtackDone == some k || s.hbi.rtackDue.contains k then s
  else if h.tackTime < s.now then
    (({ s with hbi.rtackDone := some k } : State).wrb F.HBI_TACK_STATUS_LATE true).configError 2 h.tackMask
  else { s with hbi.rtackDue := s.hbi.rtackDue ++ [k] }

/-- Ring time by a train: RING_TIME plus CORRECTION plus the own receive delay (R103). -/
def State.trainTime (s : State) (h : RingHeader) (dirB : Bool) : Nat :=
  h.ringTime + (if dirB then s.trg.corrB else s.trg.corrA) / 16

/-- Ring time follows the train, never back (R103). `arrival` is a local timestamp that steering does not move. Where both directions have
been heard in one cycle and their ring times differ by more than 20 ns, the time is suspect and direction A is followed. -/
def State.followTime (s : State) (h : RingHeader) (dirB : Bool) (arrival : Nat) : State :=
  let t := s.trainTime h dirB
  let x := some (h.cycle, (t : Int) - arrival)
  let s : State := if dirB then { s with trg.heardB := x } else { s with trg.heardA := x }
  let was := s.rdb F.TRG_STATUS_TIME_SUSPECT
  let bad : Bool := match s.trg.heardA, s.trg.heardB with
    | some (ca, oa), some (cb, ob) => if ca == cb then 20 < (oa - ob).natAbs else was
    | _, _ => was
  let s := s.wrb F.TRG_STATUS_TIME_SUSPECT bad
  let s := if bad && !was then s.event (evCode 4 2 5) 0 else s
  if dirB && bad then s else s.wr64 F.TRG_RING_TIME_LO (max s.now t)

/-- A provisional master hears the train of a master with a lower address: it stops its own, and is on no ring until it joins that one
(R102, R105). -/
def State.stepDown (s : State) : State :=
  let s := ({ s with trg.provisional := false, trg.grants := [], trg.rekey := none, trg.leaveLeft := 0 } : State).wrb F.TRG_STATUS_MASTER false
  (List.range 4).foldl (fun (s : State) i => s.wr (F.TRG_MEMBERS i) 0) s.offRing

/-- Is the header of a cycle not yet seen? One more than 4 cycles behind is that of another ring's count (log 99). -/
def State.newCycle (s : State) (h : RingHeader) : Bool := s.cycle < h.cycle || h.cycle + 4 < s.cycle

/-- What the header of a new cycle sets: CYCLE, the calendar, a key change, MASTER, UNWRAP_NEXT (R96, R100, R102, R103, R107). -/
def State.headerFields (s : State) (h : RingHeader) : State :=
  let s := s.wr64 F.TRG_CYCLE_LO h.cycle
  let s := s.wr64 F.TRG_CAL_OFFSET_LO (bitsOf 64 h.calOffset)
  let s := ((s.wr F.TRG_CAL_STATUS_STEP_COUNT h.stepCount).wrb F.TRG_CAL_STATUS_VALID h.valid).wrb F.TRG_CAL_STATUS_PROVEN
    (h.proven && h.valid)
  let s : State := if s.trg.nextKey.isSome && h.epoch == (s.trg.epoch + 1) % 65536 then
      { s with trg.key := s.trg.nextKey, trg.nextKey := none, trg.epoch := h.epoch, trg.keyCycle := h.cycle } else s
  ({ s with trg.lastMaster := h.master } : State).unwrapSign h.unwrapNext h.cycle

/-- The header of another master is taken: ring time with the adjustment `steer` that steering then makes (R473), at a new cycle its
fields, then its TACK; the block's safe boundary follows where the unit is awake. -/
def State.takeHeader (s : State) (h : RingHeader) (dirB : Bool) (arrival : Nat) (steer : Int) : State :=
  let fresh := s.newCycle h
  let s := (s.followTime h dirB arrival).wrisat F.CLK_STEER steer
  let s := if fresh then s.headerFields h else s
  if s.inLull || !s.sys.running then s else
  let s := s.headerTack h
  if fresh then s.boundary [(3, 0)] else s

/-- A header arrives (R96, R102, R103, R107): one that fails its tag is discarded and counted. A unit without the key cannot check one:
its ring ports follow the time in Lull and in reset (R480, R508), else it takes none. A provisional master, which holds a key of its own,
stops for a master with a lower address and else takes no header (log 99). -/
def State.cycleHeader (s : State) (h : RingHeader) (dirB tagOk : Bool) (arrival : Nat) (steer : Int) : State :=
  if h.master == s.addr then s
  else if s.isMaster then (if s.trg.provisional && h.master < s.addr then s.stepDown else s)
  else if s.trg.key.isNone then (if s.inLull || !s.sys.running then s.takeHeader h dirB arrival steer else s)
  else if !tagOk then s.tagFail h.master
  else s.takeHeader h dirB arrival steer

/-- CYCLE_HEADER_RECEIVE (R96, R103). -/
def execCycleHeaderReceive (header : RingHeader) (dirB tagOk : Bool) (arrival : Nat) (steer : Int) (s : State) : Out :=
  .next (s.cycleHeader header dirB tagOk arrival steer)

/-! ### Data slots (R97, R105, R106) -/

/-- A message of the shore link (R110): the header and its body. -/
def shoreMessage (typ req target status index : Nat) (body : List Nat) : List Nat :=
  leBytes 4 (8 + body.length) ++ leBytes 2 typ ++ leBytes 2 req ++ [target, status] ++ leBytes 2 index ++ body

/-- A shore session's own state. -/
def State.session (s : State) (k : Nat) : ShoreSt := SMap.get (fun _ => ({} : ShoreSt)) s.trg.shore k
def State.setSession (s : State) (k : Nat) (x : ShoreSt) : State := { s with trg.shore := SMap.set (fun _ => ({} : ShoreSt)) k x s.trg.shore }

/-- The active site unit forwards a session's request to a unit: it enters Q13 in pieces that leave room for its bookkeeping, each of kind
4 · unit + first + 2 · last; the session, its client and its rights go before the message (R89, R110, R453). -/
def State.forward (s : State) (session unit : Nat) (q : ShoreReq) : State :=
  let x := s.session session
  let msg := [session, x.client, (if x.observe then 1 else 0) + (if x.operate then 2 else 0)] ++
    shoreMessage q.typ q.reqId q.target 0 0 q.body
  let ps := cutBytes 1008 msg.length msg
  (List.range ps.length).foldl (fun (s : State) i => s.place 13
    { kind := 4 * unit + (if i == 0 then 1 else 0) + (if i + 1 == ps.length then 2 else 0), body := ps.getD i [] }) s

/-- A unit woken for a record request has joined: the requests that wait for it go to it (R160). -/
def State.forwardWaiting (s : State) (a : Nat) : State :=
  [1, 2, 3, 4].foldl (fun (s : State) k =>
    let x := s.session k
    let mine := x.outstanding.filter (·.waits == some a)
    if mine == [] then s else
    let sent := x.outstanding.map fun q => if q.waits == some a then ({ q with waits := none, tried := q.tried ++ [a] } : ShoreReq) else q
    let s := s.setSession k { x with outstanding := sent }
    mine.foldl (fun (s : State) q => s.forward k a q) s) s

/-- A unit is off the ring (R28, R106, R154): since now, unless the Marker has placed it in Lull, which is no loss to the Marker; a floater's
role ends with its stay. -/
def State.noteLeave (s : State) (src : Nat) : State :=
  let lull := s.mrk.lullUnits.contains src
  let since := SMap.get (fun _ => none) s.mrk.outSince src
  { s with mrk.invalid := s.mrk.invalid || !lull
           mrk.outSince := if lull || since.isSome then s.mrk.outSince else SMap.set (fun _ => none) src (some s.now) s.mrk.outSince
           mrk.floats := if lull then s.mrk.floats else s.mrk.floats.filter (·.1 != src) }

/-- A unit is on the ring: what was noted of its absence ends. A woken unit counts as woken until its report comes (R155). -/
def State.noteJoin (s : State) (src : Nat) : State :=
  { s with trg.grants := s.trg.grants.filter (·.addr != src), mrk.lullUnits := s.mrk.lullUnits.filter (· != src)
           mrk.withdrawn := s.mrk.withdrawn.filter (· != src), mrk.outSince := SMap.set (fun _ => none) src none s.mrk.outSince }

/-- The master's view of a slot: a first one is a join, LEAVE is a leave; both are reported to the Marker. -/
def State.membership (s : State) (src : Nat) (leave : Bool) : State :=
  if leave then
    if !s.member src then s else
    let s := (s.noteLeave src).setMember src false
    if s.isMaster then s.event (evCode 4 2 4) src else s
  else if s.member src then s
  else
    let s := (s.setMember src true).noteJoin src
    (if s.isMaster then s.event (evCode 4 3 3) src else s).forwardWaiting src

/-- Little-endian numbers of a body. -/
def leNat (bs : List Nat) : Nat := bs.foldr (fun b n => b % 256 + 256 * n) 0

/-- A forwarded ACCESS request is complete at the unit it addresses: it waits behind those before it (R89, R110). -/
def State.takeJob (s : State) (src channel : Nat) (msg : List Nat) : State :=
  if channel != 3 || src != s.trg.lastMaster || leNat ((msg.drop 7).take 2) != 1 then s else
  let rights := msg.getD 2 0
  { s with trg.jobs := s.trg.jobs ++ [{ session := msg.getD 0 0, client := msg.getD 1 0, observe := bit rights 0, operate := bit rights 1,
                                        typ := 1, reqId := leNat ((msg.drop 9).take 2), body := msg.drop 15 }] }

/-- A fragment is reassembled on its channel (R97); fragments for this unit enter Q5, one that finds it full ends its message. -/
def State.reassemble (s : State) (x : DataSlot) : State :=
  let k := 8 * x.src + x.channel % 8
  let buf := SMap.get (fun _ => []) s.trg.reasm k
  let dest := if x.first then x.payload.headD 0 else buf.headD 0
  let drop (s : State) : State := { s with trg.reasm := SMap.set (fun _ => []) k [] s.trg.reasm }
  if !(dest == 127 || dest == s.addr) || (!x.first && buf == []) then drop s
  else if s.depth 5 ≤ (s.q 5).length then (drop s).inc (F.QUE_Q_LOST 5)
  else
    let s := s.enqueue 5 { kind := 8 * x.channel + (if x.first then 1 else 0) + (if x.last then 2 else 0), body := x.src :: x.payload }
    let msg := (if x.first then [] else buf) ++ x.payload.take 48
    if x.last then ({ drop s with trg.message := some (x.src, x.channel, msg) } : State).takeJob x.src x.channel (msg.drop 1)
    else { s with trg.reasm := SMap.set (fun _ => []) k msg s.trg.reasm }

/-- Cycles whose slots of one source are remembered: a copy arrives within 55 µs of its cycle's start (R95). -/
def seenCycles : Nat := 4

/-- Has the slot of a source been taken in this cycle already (R95)? -/
def slotSeen (m : SMap (List Nat)) (src cycle : Nat) : Bool := (SMap.get (fun _ => []) m src).contains cycle

/-- Remember that the slot of a source has been taken in a cycle. -/
def slotTaken (m : SMap (List Nat)) (src cycle : Nat) : SMap (List Nat) :=
  SMap.set (fun _ => []) src ((cycle :: SMap.get (fun _ => []) m src).take seenCycles) m

/-- A data slot of a cycle arrives in either direction (R95, R97, R107): the first copy with a valid tag is taken, the second ignored. -/
def State.dataSlot (s : State) (x : DataSlot) (cycle : Nat) (tagOk : Bool) : State :=
  if s.inLull || s.trg.key.isNone || x.src == 0 || 96 < x.src || x.src == s.addr then s
  else if !tagOk then s.tagFail x.src
  else if slotSeen s.trg.dataSeen x.src cycle then s
  else
    let s : State := { s with pair.slotAt := SMap.set (fun _ => none) x.src (some cycle) s.pair.slotAt
                              trg.dataSeen := slotTaken s.trg.dataSeen x.src cycle }
    let s := s.membership x.src x.leave
    if x.payload == [] || x.channel == 0 || 7 < x.channel then s else s.reassemble x

/-- DATA_SLOT_RECEIVE (R97): the payload of channel 0x05 as it is decrypted (R107). -/
def execDataSlotReceive (slot : DataSlot) (cycle : Nat) (tagOk : Bool) (s : State) : Out := .next (s.dataSlot slot cycle tagOk)

/-- A safety slot of a cycle arrives in either direction (R95, R98, R107): the first copy with a valid tag goes to its connection. -/
def State.safetySlot (s : State) (src cycle : Nat) (f : SafetyFrame) (tagOk : Bool) : State :=
  if s.inLull || s.trg.key.isNone || src == 0 || 96 < src || src == s.addr then s
  else if !tagOk then s.tagFail src
  else if slotSeen s.trg.safeSeen src cycle then s
  else ({ s with trg.safeSeen := slotTaken s.trg.safeSeen src cycle } : State).safetyFrame 2 f

/-- SAFETY_FRAME_RECEIVE (R98, R437). -/
def execSafetyFrameReceive (src cycle : Nat) (frame : SafetyFrame) (tagOk : Bool) (s : State) : Out :=
  .next (s.safetySlot src cycle frame tagOk)

/-! ### Squall frames (R99, R461, R462) -/

/-- SQUALL_EVENT (R99): an event that a block of the unit raises. Classes 0x0 and 0xF are reserved (R463). -/
def execSquallEvent (code : BitVec 16) (arg : BitVec 32) (s : State) : Out :=
  .next (if evClass code.toNat == 0 || evClass code.toNat == 15 then s else s.event code.toNat arg.toNat)

/-- The bytes of a Squall frame from SRC to TAG (R99, R107). -/
def State.sealSquall (s : State) (cycle : Nat) (e : Ev) : List Nat :=
  let b := [s.addr, e.count] ++ leBytes 2 e.code ++ leBytes 2 s.trg.squallSeq ++ leBytes 4 e.time
  b ++ (s.ringSeal 4 cycle s.trg.squallSeq b []).2

/-- Events pending for the frame that arose in a cycle before this one. -/
def State.squallLate (s : State) (cycle : Nat) : Nat :=
  let h := s.trg.squallHere
  if h.1 < cycle then h.2.1 + h.2.2 else h.2.2

/-- The unit originates its Squall frame into an eligible train, at most one into each (R99); events that it carries from an earlier cycle
are counted as deferred (R113). -/
def State.squallSend (s : State) (cycle : Nat) : State :=
  match s.trg.squall with
  | none => s
  | some e =>
    if cycle % 3 != s.addr % 3 || s.trg.key.isNone || s.addr == 0 || s.inLull || s.trg.squallAt == some cycle then s else
    let s := s.inc F.TRG_SQUALL_DEFER (s.squallLate cycle)
    { s with trg.squall := none, trg.squallSent := some (e, s.trg.squallSeq), trg.squallBytes := s.sealSquall cycle e
             trg.squallAt := some cycle, trg.squallSeq := (s.trg.squallSeq + 1) % 65536 }

/-- SQUALL_SEND (R99). -/
def execSquallSend (cycle : Nat) (s : State) : Out := .next (s.squallSend cycle)

/-- The ring time of a received event (R461). -/
def eventTime (now low : Nat) : Nat :=
  let t := now / 2 ^ 32 * 2 ^ 32 + low % 2 ^ 32
  if now < t then t - 2 ^ 32 else t

/-- The column of an outlet unit, as TOPOLOGY and the floaters' places give it (R28); 0 where the unit holds none. -/
def State.columnOfUnit (s : State) (u : Nat) : Nat :=
  let place : Option (Nat × Nat × Nat) := s.mrk.floats.find? (·.1 == u)
  match s.pat.content.roles.find? fun r => r.kind == .outlet &&
      (match place with
      | some f => r.instance_ == f.2.1
      | none => r.unitA == u || r.unitB == u) with
  | some r => r.rowCol
  | none => 0

/-- What every unit takes from an event of the ring: VEHICLE_ESD of a stack's column (R309); which units are withdrawn and which benched
(R25, R158, R159). -/
def State.unitHears (s : State) (src code : Nat) : State :=
  let n := code % 1024
  if evClass code == 2 && n == 4 then
    (if s.kind == .stack && s.ownColumn != 0 && s.columnOfUnit src == s.ownColumn then s.columnOff else s)
  else if evClass code != 0xD then s
  else if n == 1 then { s with mrk.withdrawn := src :: s.mrk.withdrawn.filter (· != src) }
  else if n == 2 then { s with mrk.benched := src :: s.mrk.benched.filter (· != src) }
  else if n == 3 then { s with mrk.benched := s.mrk.benched.filter (· != src), mrk.withdrawn := s.mrk.withdrawn.filter (· != src) }
  else s

/-- What a unit of the site pair takes from an event for the Marker's next snapshot (R122, R130, R156): a stack's trip, a withdrawal,
benching, a break and its end. -/
def State.siteHears (s : State) (src code : Nat) : State :=
  if s.kind != .site then s else
  let n := code % 1024
  if (evClass code == 1 || evClass code == 0xD) && (n == 1 || n == 2) then { s with mrk.invalid := true }
  else if evClass code == 4 && n == 1 then { s with mrk.breaks := src :: s.mrk.breaks.filter (· != src) }
  else if evClass code == 4 && n == 2 then { s with mrk.breaks := s.mrk.breaks.filter (· != src) }
  else s

/-- What the unit takes from an event of the ring beside its entry in Q0. -/
def State.markerHears (s : State) (src code : Nat) : State := (s.unitHears src code).siteHears src code

/-- Is a frame the second copy of one taken lately, by SRC and SEQ (R99)? Both copies arrive within 4 cycles (log 99). -/
def State.squallTwice (s : State) (src seq : Nat) : Bool :=
  (SMap.get (fun _ => []) s.trg.squallSeen src).any fun q => q.1 == seq && s.cycle ≤ q.2 + seenCycles

/-- SQUALL_RECEIVE (R99): removed by its originator, a second copy discarded, else entered in Q0 (R457). -/
def State.squallReceive (s : State) (f : SquallFrame) (tagOk : Bool) : State :=
  if s.inLull || f.src == s.addr || s.trg.key.isNone then s
  else if !tagOk then s.tagFail f.src
  else
    if s.squallTwice f.src f.seq then s else
    let old := (SMap.get (fun _ => []) s.trg.squallSeen f.src).filter fun q => s.cycle ≤ q.2 + seenCycles
    let s : State := { s with trg.squallSeen := SMap.set (fun _ => []) f.src ((f.seq, s.cycle) :: old) s.trg.squallSeen }
    (s.enterQ0 { time := eventTime s.now f.time, code := f.code, src := f.src, count := max 1 f.count, arg := 0 }).markerHears f.src f.code

def execSquallReceive (frame : SquallFrame) (tagOk : Bool) (s : State) : Out := .next (s.squallReceive frame tagOk)

/-! ### Breaks (R100) -/

/-- Show the wrapped ports. -/
def State.showWrap (s : State) : State :=
  (s.wrb F.TRG_STATUS_WRAP_1 (s.trg.broken.contains 1)).wrb F.TRG_STATUS_WRAP_2 (s.trg.broken.contains 2)

/-- A receive link is declared broken (R100): the unit wraps, counts the break and originates LINK_DOWN. -/
def State.linkBreak (s : State) (port : Nat) : State :=
  if s.trg.broken.contains port then s else
  let s := ({ s with trg.broken := port :: s.trg.broken, trg.unwrapSeen := none } : State).showWrap
  let s := if port == 1 then s.wr F.TRG_NEIGHBOUR_PORT_1 0 else s.wr F.TRG_NEIGHBOUR_PORT_2 0
  (((s.wr F.TRG_BREAKS (s.rd F.TRG_BREAKS + 1)).barAdd 6 1).event (evCode 4 1 1) port).markerHears s.addr (evCode 4 1 1)

/-- LINK_BREAK (R100). -/
def execLinkBreak (port : Fin 2) (s : State) : Out := .next (s.linkBreak (port.val + 1))

/-- RING_UNWRAP (R100): the link has stood for 1 s; the master has set UNWRAP_NEXT in a header and the next cycle has started. -/
def execRingUnwrap (port : Fin 2) (s : State) : Out :=
  .next (if s.trg.broken.contains (port.val + 1) && s.trg.unwrapSeen.any (· < s.cycle) then
    ((({ s with trg.broken := s.trg.broken.filter (· != port.val + 1) } : State).showWrap).event (evCode 4 3 2) 0).markerHears s.addr
      (evCode 4 3 2) else s)

/-! ### PTP (R103, R345) -/

/-- A sync of the grandmaster arrives (R103): `calendar` is the grandmaster's calendar less ring time, ns. The first lock of an active
site unit that holds no calendar is a step without authorisation (R345). -/
def State.ptpSync (s : State) (offset calendar : Int) (locked : Bool) (port : Nat) : State :=
  if s.kind != .site then s else
  let s : State := { s with bil.ptpOffset := calendar, trg.ptpGood := if offset.natAbs ≤ 100000 then min 16 (s.trg.ptpGood + 1) else 0 }
  let s := ((s.wrisat F.TRG_PTP_OFFSET offset).wrb F.TRG_CAL_STATUS_PTP_LOCK locked).wr F.TRG_CAL_STATUS_PTP_PORT port
  let s := if s.active && !s.bil.holdsCal && locked then
      let s := (s.wr64 F.TRG_CAL_OFFSET_LO (bitsOf 64 calendar)).wr F.TRG_CAL_STATUS_STEP_COUNT (s.rd F.TRG_CAL_STATUS_STEP_COUNT + 1)
      ({ s with bil.holdsCal := true } : State).wrb F.TRG_CAL_STATUS_VALID true
    else s
  s.showProven

/-- PTP_SYNC (R103). -/
def execPtpSync (offset calendar : Int) (locked : Bool) (port : Fin 3) (s : State) : Out :=
  .next (s.ptpSync offset calendar locked port.val)

/-- PTP_SYNC_TIMEOUT (R103): 60 s without a sync message. -/
def execPtpSyncTimeout (s : State) : Out := .next (if s.kind != .site then s else ({ s with trg.ptpGood := 0 } : State).showProven)

/-! ### Joining (R105, R383, R391, R392) -/

/-- The digest of the TOPOLOGY section of the running image (R37); empty for the golden image. -/
def State.topologyDigest (s : State) : List Nat :=
  if s.runSlot == 1 || s.runSlot == 2 then match (s.slotOf s.runSlot).find 1 0 with
    | some e => e.digest
    | none => []
  else []

/-- The unit writes its join request (R105); a unit without a join key makes none (R383). -/
def State.joinRequest (s : State) (dirB : Bool) : State :=
  if s.addr == 0 || s.trg.join != .idle || s.trg.leaveLeft != 0 || s.isMaster || s.inLull || !s.sys.running ||
      (s.joinKey Config.deviceId s.addr).isNone then s
  else
    { s with trg.join := .requested
             trg.joinWith := s.joinKey Config.deviceId s.addr
             trg.window := [1, s.addr, s.sys.strapPins, if dirB then s.trg.hopB else s.trg.hopA] ++ leBytes 8 Config.deviceId ++
               padTo 48 s.topologyDigest }

/-- JOIN_REQUEST (R105). -/
def execJoinRequest (dirB : Bool) (s : State) : Out := .next (s.joinRequest dirB)

/-- The master takes a request (R105): at most one a cycle; an address that is joined or granted is refused; else it begins the
attestation of R391 under the join key then in force (R398). A device that asks again for its own granted address begins afresh (R391,
R392; log 99). -/
def State.joinTake (s : State) (r : JoinReq) : State :=
  if !s.isMaster || s.trg.tookCycle == some s.cycle || s.inLull then s else
  let s : State := { s with trg.tookCycle := some s.cycle, trg.grants := s.trg.grants.filter fun g => !(g.addr == r.addr && g.device == r.device) }
  if s.member r.addr || r.addr == s.addr || s.trg.grants.any (·.addr == r.addr) then s
  else match s.joinKey r.device r.addr with
    | none => s
    | some key =>
      let (v, s) := s.draw 41
      let nonce := beBytes 16 v
      let s : State := { s with
        trg.grants := s.trg.grants ++ [{ addr := r.addr, device := r.device, challenge := nonce, key := key }]
        trg.devices := SMap.set (fun _ => 0) r.addr r.device s.trg.devices
        trg.digests := SMap.set (fun _ => []) r.addr r.digest s.trg.digests }
      s.ringSend 4 2 r.addr ([0x31, r.addr, 0, 0] ++ nonce)

/-- The standby site unit keeps what a join request that passes it tells (R37, R116). -/
def State.noteWindow (s : State) (r : JoinReq) : State :=
  if s.kind != .site || s.inLull then s else
  { s with trg.devices := SMap.set (fun _ => 0) r.addr r.device s.trg.devices
           trg.digests := SMap.set (fun _ => []) r.addr r.digest s.trg.digests }

/-- The join windows of a cycle's two trains: direction A's before direction B's (R105). -/
def State.joinWindows (s : State) (windowA windowB : Option JoinReq) : State :=
  if !s.isMaster then ((windowA.toList ++ windowB.toList).foldl State.noteWindow s) else
  match windowA, windowB with
  | some r, _ => s.joinTake r
  | none, some r => s.joinTake r
  | none, none => s

/-- JOIN_WINDOW_TAKE (R105). -/
def execJoinWindowTake (windowA windowB : Option JoinReq) (s : State) : Out := .next (s.joinWindows windowA windowB)

/-- What the HMAC of a join response covers (R377, R391). -/
def joinMessage (nonce : List Nat) (device addr : Nat) (digest : List Nat) (lc : Nat) : List Nat :=
  nonce ++ deviceBytes device ++ [addr] ++ padTo 48 digest ++ [lc]

/-- A unit whose address is refused is unassigned: it holds no address and no role (R105, R35). -/
def State.unassign (s : State) : State :=
  let s := (((s.wr F.TRG_STATUS_ADDR 0).wr F.TRG_STATUS_SOURCE 0).ld F.PAIR_IDENT_INSTANCE 0).ld F.PAIR_IDENT_PARTNER 0
  { s with pat.instance_ := 0, pair.partnerAddr := 0 }

/-- The joiner learns what became of its request (R105, R391): `none` says the address is in use; else it answers the challenge. -/
def State.joinChal (s : State) (nonce : Option (List Nat)) : State :=
  if s.trg.join != .requested then s else
  match nonce with
  | none =>
    ((((({ s with trg.join := .idle } : State).wrb F.TRG_STATUS_CONFLICT true).configError 5 s.addr).event (evCode 4 1 6) 0)).unassign
  | some n => match s.trg.joinWith with
    | none => s
    | some key =>
      ({ s with trg.join := .challenged, trg.challenge := n
                trg.window := [2, s.addr, 0, 0] ++
                 (Config.hmac384 key (joinMessage n Config.deviceId s.addr s.topologyDigest (s.rd F.KEY_STATUS_LC))).take 32 } :
        State).inc F.KEY_JOBS

/-- JOIN_CHAL_RECEIVE (R391). -/
def execJoinChalReceive (nonce : Option (List Nat)) (s : State) : Out := .next (s.joinChal nonce)

/-- The body of RING_KEY for an address (R392): the current key, and the next while one is held, each wrapped under its join key. -/
def State.ringKeyBody (s : State) (addr : Nat) (key : List Nat) : List Nat :=
  let next : List Nat := match s.trg.nextKey with
    | some k => leBytes 2 ((s.trg.epoch + 1) % 65536) ++ Config.wrap key k
    | none => []
  [0x32, addr] ++ leBytes 2 s.trg.epoch ++ Config.wrap key (s.trg.key.getD []) ++ next

/-- Is a join response right for a grant (R391)? The life-cycle state of the joiner is one of four. -/
def State.joinProof (s : State) (g : JoinGrant) (addr : Nat) (response : List Nat) : Bool :=
  (List.range 4).any fun lc =>
    (Config.hmac384 g.key (joinMessage g.challenge g.device addr (SMap.get (fun _ => []) s.trg.digests addr) lc)).take 32 == response

/-- The master checks a join response (R391): RING_KEY on success, else no key and a security event. -/
def State.joinCheck (s : State) (addr : Nat) (response : List Nat) : State :=
  match s.trg.grants.find? (·.addr == addr) with
  | none => s
  | some g =>
    if !s.isMaster then s else
    let s := s.inc F.KEY_JOBS
    if s.joinProof g addr response then s.ringSend 4 2 addr (s.ringKeyBody addr g.key)
    else ({ s with trg.grants := s.trg.grants.filter (·.addr != addr) } : State).event (evCode 8 1 3) addr

/-- JOIN_RESPONSE_CHECK (R391). -/
def execJoinResponseCheck (addr : Nat) (response : List Nat) (s : State) : Out := .next (s.joinCheck addr response)

/-- JOIN_RETRY (R391): 1 s after a refused attestation the unit requests again, its JOIN_FAIL set. -/
def execJoinRetry (s : State) : Out :=
  .next (if s.trg.join == .challenged && s.trg.key.isNone then ({ s with trg.join := .idle } : State).wrb F.KEY_STATUS_JOIN_FAIL true
    else if s.trg.join == .requested then { s with trg.join := .idle } else s)

/-- The joiner loads the keys it unwraps under the join key it requested with (R398); one that fails is discarded and the unit requests
again (R392). -/
def State.ringKey (s : State) (epoch : Nat) (wrapped : List Nat) (next : Option (Nat × List Nat)) : State :=
  if s.trg.join != .challenged then s else
  match s.trg.joinWith with
  | none => s
  | some key =>
    let s := s.inc F.KEY_JOBS
    match Config.unwrap key wrapped with
    | none => { s with trg.join := .idle }
    | some k =>
      ({ s with trg.key := some k, trg.epoch := epoch % 65536
                trg.nextKey := next.bind fun n => Config.unwrap key n.2 } : State).wrb F.TRG_STATUS_KEYED true

/-- RING_KEY_RECEIVE (R392). -/
def execRingKeyReceive (epoch : Nat) (wrapped : List Nat) (next : Option (Nat × List Nat)) (s : State) : Out :=
  .next (s.ringKey epoch wrapped next)

/-- REKEY_DELIVERY_RECEIVE (R392): a joined unit holds the next key; `epoch` is the one it comes into use with. -/
def execRekeyDeliveryReceive (epoch : Nat) (wrapped : List Nat) (s : State) : Out :=
  .next (if s.trg.join != .joined || epoch % 65536 != (s.trg.epoch + 1) % 65536 then s else
    let s := s.inc F.KEY_JOBS
    match (s.joinKey Config.deviceId s.addr).bind fun key => Config.unwrap key wrapped with
    | none => s
    | some k => { s with trg.nextKey := some k })

/-! ### Leaving and rekeying (R106, R107) -/

/-- TRG_CTRL. -/
def trgCtrlAddr : Nat := 0x300C

/-- LEAVE_COMMAND (R106). -/
def execLeaveCommand (side : Side) (key : BitVec 16) (s : State) : Out :=
  .next (s.command side trgCtrlAddr key.toNat 0x7A4D fun s => s.announceLeave)

/-- Has no data slot of an address been taken for 40 cycles (R106)? -/
def State.silent (s : State) (addr : Nat) : Bool :=
  match SMap.get (fun _ => none) s.pair.slotAt addr with
  | some c => c + 40 ≤ s.cycle
  | none => true

/-- DECLARED_LEAVE (R106): the master declares a unit left whose slot was absent for 40 cycles. -/
def execDeclaredLeave (addr : Nat) (s : State) : Out :=
  .next (if s.isMaster && addr != s.addr && addr ≤ 96 && s.silent addr then
    { s.membership addr true with trg.grants := s.trg.grants.filter (·.addr != addr) } else s)

/-- The master generates the next key and delivers it to every unit (R107). -/
def State.startRekey (s : State) : State :=
  if s.trg.rekey.isSome || s.trg.key.isNone then s else
  let (v, s) := s.draw 40
  let s : State := { s with trg.nextKey := some (beBytes 32 v) }
  let dests := ((List.range 97).drop 1).filter fun a => s.member a && a != s.addr
  let s := dests.foldl (fun (s : State) a => match s.joinKey (SMap.get (fun _ => 0) s.trg.devices a) a with
    | some key => s.ringSend 4 5 a (s.ringKeyBody a key)
    | none => s) s
  { s with trg.rekey := some (dests, s.now) }

/-- REKEY_COMMAND (R107): refused with COMMAND unless the unit is master. -/
def execRekeyCommand (side : Side) (key : BitVec 16) (s : State) : Out :=
  .next (s.command side trgCtrlAddr key.toNat 0x7A4D fun s =>
    if s.isMaster then s.startRekey else s.accessError side eCommand trgCtrlAddr)

/-- REKEY_DUE (R107): before CYCLE advances 2^32 cycles under one key. -/
def execRekeyDue (s : State) : Out := .next (if s.isMaster then s.startRekey else s)

/-- Does a delivery of the next key still wait for the data slot (R107)? -/
def State.deliveryWaits (s : State) : Bool := (s.q 4 ++ s.heldFor 4 ++ s.trg.slot.toList).any fun x => x.kind / 8 == 5

/-- EPOCH_ADVANCE (R107): 100 ms or more after the last delivery. -/
def execEpochAdvance (time : Nat) (s : State) : Out :=
  .next (match s.trg.rekey, s.isMaster with
    | some (_, t), true =>
      if time < t + 100000000 || s.deliveryWaits then s else
      { s with trg.key := s.trg.nextKey, trg.nextKey := none, trg.epoch := (s.trg.epoch + 1) % 65536, trg.keyCycle := s.cycle
               trg.rekey := none }
    | _, _ => s)

end Sys2Proof.Machine
end

