-- ==== Sys2Proof/Machine/Que.lean ====
section
/-!
DEFINITION. Machine/Que.lean: the queue fabric, the host mailbox, the trace buffer and subscriptions (chapter 17).
-/
namespace Sys2Proof.Machine
open Sys2Proof

/-! ### The fabric (R455 to R460) -/

/-- Set Q10 with its level registers. -/
def State.setQ10 (s : State) (xs : List Ev) : State := ({ s with que.q10 := xs } : State).queLevel 10 xs.length

/-- The entry of Q4 that goes next: the oldest of the channel served first (R97). -/
def nextFragment (xs : List QItem) : Option QItem :=
  xs.foldl (fun (best : Option QItem) x => match best with
    | none => some x
    | some b => if channelRank (x.kind / 8) < channelRank (b.kind / 8) then some x else some b) none

/-- The fragments that an entry of Q13 or Q14 places in Q4: a forwarded request of kind 4 · target + first + 2 · last on channel 3, a
Barograph copy for the holder on channel 6. -/
def feedFragments (q : Nat) (x : QItem) : List QItem :=
  if q == 13 then
    let first := bit x.kind 0
    fragmentsOf 3 first (bit x.kind 1) (if first then (x.kind / 4) :: x.body else x.body)
  else fragments 6 (x.kind :: x.body)

/-- Has a queue an entry that its sink, or the queue it feeds, has room for? Q7 and Q11 are emptied by the security core's own steps
and by the host. `ready` says which outside sinks have room. -/
def State.queReady (s : State) (ready q : Nat) : Bool :=
  let free4 := s.depth 4 - (s.q 4).length
  match q with
  | 0 => s.que.q0 != []
  | 4 => s.q 4 != [] && s.trg.slot.isNone
  | 6 => s.q 6 != [] && 0 < free4
  | 7 => false
  | 10 => s.que.q10 != []
  | 11 => false
  | 13 => match s.q 13 with
    | [] => false
    | x :: _ => (feedFragments 13 x).length ≤ free4
  | 14 => match s.q 14 with
    | [] => false
    | x :: _ => (feedFragments 14 x).length ≤ free4
  | 15 => s.que.q15 != []
  | q => s.q q != [] && bit ready q

/-- A producer that held an entry places it (R456). -/
def State.refill (s : State) (q : Nat) : State :=
  match s.heldFor q with
  | [] => s
  | x :: xs =>
    if (s.q q).length < s.depth q then
      ({ s with que.held := SMap.set (fun _ => []) q xs s.que.held } : State).setQ q (s.q q ++ [x])
    else s

/-- Words of the trace buffer of 1 MiB (R467). -/
def traceWordsMax : Nat := 262144

/-- An entry enters the trace buffer; a full one loses its oldest entry, of which words may have been read (R467). -/
def State.traceIn (s : State) (e : TraceEntry) : State :=
  let ws := s.que.trace
  let s : State := if ws.length + 8 ≤ traceWordsMax then { s with que.trace := ws ++ e.words }
    else
      let k := if ws.length % 8 == 0 then 8 else ws.length % 8
      ({ s with que.trace := ws.drop k ++ e.words } : State).inc F.QUE_TRACE_LOST
  s.wr F.QUE_TRACE_LEVEL s.que.trace.length

/-- The head of a queue is handed to its outside sink. -/
def State.handOut (s : State) (q : Nat) : State :=
  match s.q q with
  | [] => s
  | x :: xs => ({ s with que.sent := SMap.set (fun _ => none) q (some x) s.que.sent } : State).setQ q xs

/-- The head of a queue moves (R453, R460). -/
def State.moveHead (s : State) (q : Nat) : State :=
  match q with
  | 0 => match s.que.q0 with
    | [] => s
    | e :: es => (s.setQ0 es).ringWrite e
  | 1 => match s.q 1 with
    | [] => s
    | x :: _ => ({ s with bil.sent := some x } : State).handOut 1
  | 4 => match nextFragment (s.q 4) with
    | none => s
    | some x => ({ s with trg.slot := some x } : State).setQ 4 ((s.q 4).erase x)
  | 6 => match s.q 6 with
    | [] => s
    | x :: xs => (s.setQ 6 xs).setQ 4 (s.q 4 ++ [x])
  | 10 => match s.que.q10 with
    | [] => s
    | e :: es =>
      let s := (s.setQ10 es).enterQ0 e
      if squallWorthy e.code then s.squallPend e else s
  | 13 => match s.q 13 with
    | [] => s
    | x :: xs => (s.setQ 13 xs).setQ 4 (s.q 4 ++ feedFragments 13 x)
  | 14 => match s.q 14 with
    | [] => s
    | x :: xs => (s.setQ 14 xs).setQ 4 (s.q 4 ++ feedFragments 14 x)
  | 15 => match s.que.q15 with
    | [] => s
    | e :: es => (({ s with que.q15 := es } : State).queLevel 15 es.length).traceIn e
  | q => s.handOut q

/-- The queue that a fabric slot serves: ranks in order, queues of one rank in increasing number, which is the order of the numbers
(R453, R460). -/
def State.served (s : State) (ready : Nat) : Option Nat := (List.range 16).find? fun q => s.queReady ready q

/-- One fabric slot (R460). -/
def State.queueMove (s : State) (ready : Nat) : State :=
  if s.inLull then s else
  match s.served ready with
  | none => s
  | some q => (s.moveHead q).refill q

/-- QUEUE_MOVE (R460). -/
def execQueueMove (ready : BitVec 16) (s : State) : Out := .next (s.queueMove ready.toNat)

/-! ### The host mailbox (R464, R465) -/

/-- QUE_MBX_CTRL. -/
def mbxCtrlAddr : Nat := 0x2A340

/-- An event as the four words of an entry (R461). -/
def Ev.words (e : Ev) : List Nat :=
  [e.time % 2 ^ 32, e.time / 2 ^ 32 % 2 ^ 32, e.code % 65536 + 65536 * (e.src % 256) + 2 ^ 24 * (e.count % 256), e.arg % 2 ^ 32]

/-- QUE_MBX_OUT[i]: the head of Q11 (R465). -/
def State.mbxOut (s : State) (i : Nat) : Nat := match s.que.q11 with
  | [] => 0
  | e :: _ => e.words.getD i 0

/-- POP (R465). -/
def State.mbxPop (s : State) (side : Nat) : State :=
  match s.que.q11 with
  | [] => s.accessError side eState mbxCtrlAddr
  | _ :: es => s.setQ11 es

/-- QUE_MBX_POP (R465). -/
def execQueMbxPop (side : Side) (key : BitVec 16) (s : State) : Out :=
  .next (s.command side mbxCtrlAddr key.toNat 0x3E90 fun s => s.mbxPop side)

/-- The event that the host has written to QUE_MBX_IN, with the unit's TIME and SRC (R465). -/
def State.mbxIn (s : State) : Ev :=
  let w := s.rd (F.QUE_MBX_IN 2)
  { time := s.now, code := w % 65536, src := s.addr, count := max 1 (w / 2 ^ 24), arg := s.rd (F.QUE_MBX_IN 3) }

/-- PUSH (R465). -/
def State.mbxPush (s : State) (side : Nat) : State :=
  if evClass s.mbxIn.code != 0xE then s.accessError side eCommand mbxCtrlAddr
  else if s.depth 10 ≤ s.que.q10.length then s.accessError side eState mbxCtrlAddr
  else s.setQ10 (s.que.q10 ++ [s.mbxIn])

/-- QUE_MBX_PUSH (R465). -/
def execQueMbxPush (side : Side) (key : BitVec 16) (s : State) : Out :=
  .next (s.command side mbxCtrlAddr key.toNat 0x3E90 fun s => s.mbxPush side)

/-! ### Trace (R467) -/

/-- What a read of QUE_TRACE_DATA returns. -/
def State.traceHead (s : State) : Nat := s.que.trace.headD 0

/-- A read of QUE_TRACE_DATA removes the oldest word (R467). -/
def State.traceDrop (s : State) : State :=
  ({ s with que.trace := s.que.trace.drop 1 } : State).wr F.QUE_TRACE_LEVEL (s.que.trace.drop 1).length

/-- The value that a read drives on the host bus. -/
def State.drive (s : State) (side v : Nat) : State := if side == 0 then { s with hbi.data := v } else s

/-- TRACE_READ (R467). -/
def State.traceRead (s : State) (side : Nat) : State :=
  if s.lullBlocks 0x2A400 then (s.accessError side eLull 0x2A400).drive side 0
  else (s.traceDrop.accepted side).drive side s.traceHead

def execTraceRead (side : Side) (s : State) : Out := .next (s.traceRead side)

/-! ### Shore messages and subscriptions (R110, R466) -/

/-- The bytes of an event in the fault ring (R461). -/
def Ev.bytes (e : Ev) : List Nat := e.words.flatMap (leBytes 4)

/-- A message for a session enters Q12 in entries of 1,024 bytes; the kind is the session. Nothing waits on Q12 (R453, R455). -/
def State.toShore (s : State) (session : Nat) (msg : List Nat) : State :=
  s.placeAll 12 ((cutBytes 1024 msg.length msg).map fun p => { kind := session, body := p })

/-- A message of a target to a session: at the active site unit into Q12, elsewhere over channel 3 to the site unit (R89, R110). -/
def State.toSession (s : State) (session : Nat) (msg : List Nat) : State :=
  if s.kind == .site && s.active then s.toShore session msg else s.ringReply 3 s.trg.lastMaster (session :: msg)

/-- A subscription's next message: LOST, N and up to 64 entries (R466). -/
def Subscription.message (sub : Subscription) (own : Nat) : List Nat :=
  let es := sub.waiting.take 64
  shoreMessage 0x8004 sub.reqId own 0 0xFFFF (leBytes 2 sub.lost ++ leBytes 2 es.length ++ es.flatMap Ev.bytes)

/-- A subscription sends while matching entries are pending, one message every 10 ms at most (R466). -/
def State.subSend (s : State) (session time : Nat) : State :=
  match s.que.subs.find? (·.session == session) with
  | none => s
  | some sub =>
    let early : Bool := match sub.sentAt with
      | some t => time < t + 10000000
      | none => false
    if sub.waiting == [] || early then s else
    let s' : Subscription := { sub with waiting := sub.waiting.drop 64, lost := 0, sentAt := some time }
    ({ s with que.subs := s.que.subs.map fun x => if x.session == session then s' else x } : State).toSession session
      (sub.message s.addr)

/-- SUBSCRIPTION_SEND (R466). -/
def execSubscriptionSend (session : Fin 4) (time : Nat) (s : State) : Out := .next (s.subSend (session.val + 1) time)

/-- A subscription is set, replaced or ended (R466). -/
def State.subscribe (s : State) (session reqId classes maxSev scope : Nat) : State :=
  let rest := s.que.subs.filter (·.session != session)
  { s with que.subs := if classes == 0 then rest else
      rest ++ [{ session := session, reqId := reqId, classes := classes, maxSev := maxSev, scopeAll := scope == 1 }] }

end Sys2Proof.Machine
end

