-- ==== Sys2Proof/Machine/Hbi.lean ====
section
/-!
DEFINITION. Machine/Hbi.lean: the register interface (chapter 03): values that reads return, levels, TACK, credentials and the indirect
window.
-/
namespace Sys2Proof.Machine
open Sys2Proof

/-! ### What a read returns (R64, R79, R453, R465) -/

/-- SHT_RC[e]_PEEK_DATA: the committed value of the point that PEEK_IDX names (R221). -/
def State.peekData (s : State) (e : Nat) : Nat :=
  SMap.get (fun _ => 0) (SMap.get (fun _ => {}) s.sht.loops (e / 4)).comp (2048 * (e % 4) + s.rd (F.SHT_RC_PEEK_IDX_IDX e))

/-- PRT_GRP[g]_WAIT_LEFT: the ms of WAIT that are left at the ring time held, rounded up (R258, R267; log 94). -/
def State.waitLeft (s : State) (g : Nat) : Nat :=
  if s.rd (F.PRT_GRP_STATE_STATE g) == 2 then ((SMap.get (fun _ => {}) s.prt.grp g).waitEnd - s.now + 999999) / 1000000 else 0

/-- Registers whose value is computed at the read: LEVEL, QUE_Q[q]_DEPTH and _ENTRY, QUE_MBX_OUT, KEY_PUB_DATA, SHT_RC[e]_PEEK_DATA,
PRT_GRP[g]_WAIT_LEFT. -/
def State.derived (s : State) (side addr : Nat) : Option Nat :=
  if blockOf addr != 20 && addr == blockBase (blockOf addr) then some (s.readLevel (blockOf addr) side)
  else if 0xB03C ≤ addr && addr < 0xB83C && addr % 64 == 0x3C then some (s.peekData ((addr - 0xB03C) / 64))
  else if 0x1A60C ≤ addr && addr < 0x1A70C && addr % 32 == 0xC then some (s.waitLeft ((addr - 0x1A60C) / 32))
  else if 0x2A100 ≤ addr && addr < 0x2A200 && addr % 16 == 0 then
    let q := (addr - 0x2A100) / 16
    some (s.rd (F.QUE_Q_DEPTH_LEVEL q) + 65536 * s.depth q + 2 ^ 28 * (queueTable.getD q (0, 0, 0, 0)).1)
  else if 0x2A100 ≤ addr && addr < 0x2A200 && addr % 16 == 4 then some (queueTable.getD ((addr - 0x2A100) / 16) (0, 0, 0, 0)).2.1
  else if 0x2A300 ≤ addr && addr < 0x2A310 then some (s.mbxOut ((addr - 0x2A300) / 4))
  else if addr == 0x2A400 then some s.traceHead
  else if addr == F.BAR_LIFE_USED.addr then some (s.barGet 8)
  else if 0x24240 ≤ addr && addr < 0x242A0 then some (s.pubWord side ((addr - 0x24240) / 4))
  else none

/-- MRK_LOCAL.LEASE_LEFT: ms to lease expiry at the ring time held (R165). -/
def State.leaseLeft (s : State) : Nat := match s.mrk.lease with
  | some (_, e) => min 255 ((e - s.now) / 1000000)
  | none => 0

/-- Whole seconds of a span that are left, rounded up: `gone` is the time since its begin, `unit` a second in the same unit. -/
def secondsLeft (span unit gone : Nat) : Nat := span - min span (gone / unit)

/-- PAT_TRIAL_LEFT: 900 s from the load of the trial image, by ledger ticks, the unit's own clock (R51, R317; log 94). -/
def State.trialLeft (s : State) : Nat :=
  if s.rdb F.PAT_STATUS_TRIAL && !s.pat.expired then secondsLeft 900 8000 (s.ledger - s.pat.trialAt) else 0

/-- HBI_CRED_STATUS.LOCK_LEFT of a side: 300 s from the begin of the lock-out, by ledger ticks (R81, R92; log 94). -/
def State.lockLeft (s : State) (side : Nat) : Nat :=
  if (s.side side).lockedOut then secondsLeft 300 8000 (s.ledger - (s.side side).lockAt) else 0

/-- MRK_CURTAIL_HOLD.LEFT: seconds until the standing MRK_CURTAIL lapses, in ring time (R150, R165). -/
def State.curtailLeft (s : State) : Nat :=
  if s.rd F.MRK_CURTAIL_KW == 0xFFFFFF then 0
  else secondsLeft (s.rd F.MRK_CURTAIL_HOLD_HOLD) 1000000000 (s.now - s.mrk.curtailAt)

/-- VLK_IMD_STATUS.AGE: the age of the last valid result in 0.1 s, by ledger ticks; it saturates (R313). -/
def State.imdAge (s : State) : Nat := match s.vlk.validAt with
  | some t => min 65535 ((s.ledger - t) / 800)
  | none => 0

/-- What a register's fields that show time passing contribute to its word. -/
def State.timed (s : State) (side addr : Nat) : Nat :=
  if addr == F.MRK_LOCAL_LEASE_LEFT.addr then s.leaseLeft
  else if addr == F.PAT_TRIAL_LEFT.addr then s.trialLeft
  else if addr == F.HBI_CRED_STATUS_LOCK_LEFT.addr then s.lockLeft side * 1024
  else if addr == F.VLK_IMD_STATUS_AGE.addr then s.imdAge
  else if addr == F.MRK_CURTAIL_HOLD_LEFT.addr then s.curtailLeft * 65536
  else 0

/-- The value that a read of a register returns. -/
def State.value (s : State) (side addr : Nat) (r : RegDef) : Nat := match s.derived side addr with
  | some v => v
  | none => r.fields.foldl (fun (n : Nat) f => n + s.readField addr side f * 2 ^ f.lsb) (s.timed side addr)

/-- A read of a register without effects of its own: the word, and the state with its RC fields cleared, or the refusal (R63, R64,
R90). -/
def State.plainRead (s : State) (side addr : Nat) : Except Nat (Nat × State) :=
  if s.lullBlocks addr then .error eLull else
  match (if addr % 4 == 0 then regAt addr else none) with
  | none => .error eAddr
  | some r => .ok (s.value side addr r, s.clearRc addr side r)

/-! ### LEVEL (R79, R80) -/

/-- A write of a block's LEVEL register. -/
def State.levelWrite (s : State) (side b v : Nat) : State :=
  let a := blockBase b
  if s.lullBlocks a then s.accessError side eLull a
  else if v / 65536 % 65536 != 0x1E7A then s.accessError side eCommand a
  else if (v &&& 0xFCFE) != 0 then s.accessError side eReserved a
  else if v % 2 == 1 && !s.blockCred b side then s.accessError side eCredential a
  else (s.accepted side).wr (levelField b side) (v % 2)

/-- LEVEL_WRITE (R79). -/
def execLevelWrite (side : Side) (b : Fin 20) (value : BitVec 32) (s : State) : Out := .next (s.levelWrite side b.val value.toNat)

/-! ### TACK (R69 to R71) -/

/-- LOCAL_TACK (R69): a write of HBI_TACK. -/
def execLocalTack (side : Side) (mask : BitVec 16) (s : State) : Out := .next ((s.accepted side).tack mask.toNat)

/-- A falling edge on HB_TACK_N (R69): pulses below 20 ns are ignored, edges within 1 µs of the first are one TACK. -/
def State.pinTack (s : State) (widthNs time : Nat) : State :=
  let again : Bool := match s.hbi.pinAt with
    | some t => time < t + 1000
    | none => false
  if widthNs < 20 || again || s.rd F.HBI_PIN_TACK_MASK == 0 then s
  else ({ s with hbi.pinAt := some time } : State).tack (s.rd F.HBI_PIN_TACK_MASK)

/-- TACK_PIN_EDGE (R69). -/
def execTackPinEdge (widthNs time : Nat) (s : State) : Out := .next (s.pinTack widthNs time)

/-- 1 ms after its first pending write a paired-field group whose pending values do not agree loses them: shadow and tack buffer too read
as the live values again (R77). -/
def State.pfgTimeout (s : State) (g : Nat) : State :=
  match s.numberedGroups.find? (·.1 == g) with
  | none => s
  | some x =>
    let mine := (s.hbi.pfgPending.filter (·.1 == g)).map (·.2.1)
    if mine == [] || s.groupAgrees x.2 s.pendMarks s.pendCand then s else
    ({ s with shadow := SMap.copyKeys resetCell (fun _ v => v) s.live mine s.shadow
              tbuf := SMap.copyKeys resetCell (fun _ v => v) s.live mine s.tbuf
              hbi.pfgPending := s.hbi.pfgPending.filter (·.1 != g)
              hbi.pfgWritten := s.hbi.pfgWritten.filter fun k => !mine.contains k
              hbi.pfgTacked := s.hbi.pfgTacked.filter fun k => !mine.contains k } : State).pfgError g

/-- PFG_LIVE_TIMEOUT (R77). -/
def execPfgLiveTimeout (g : Nat) (s : State) : Out := .next (s.pfgTimeout g)

/-- HBI_RTACK_CMD. -/
def rtackAddr : Nat := 0x1060

/-- GO (R70): `time` is the ring time of the write. -/
def State.rtackGo (s : State) (side time : Nat) : State :=
  let target := s.rd F.HBI_RTACK_MASK_TARGET
  let t := s.rd64 F.HBI_RTACK_TIME_LO
  let waits : Bool := match s.hbi.rtackSent with
    | some (_, _, u) => time < u
    | none => false
  if s.kind != .site || !s.active || !((1 ≤ target && target ≤ 96) || target == 127) ||
      t < time + 100000 || time + 10000000000 < t then s.accessError side eCommand rtackAddr
  else if waits then s.accessError side eState rtackAddr
  else
    let mine := target == 127 || target == s.addr
    let k := (s.rd F.HBI_RTACK_MASK_MASK, t)
    { s with hbi.rtackSent := some (k.1, target, t)
             hbi.rtackDue := if mine then s.hbi.rtackDue ++ [k] else s.hbi.rtackDue }

/-- RING_TACK_REQUEST (R70). -/
def execRingTackRequest (side : Side) (key : BitVec 16) (time : Nat) (s : State) : Out :=
  .next (s.command side rtackAddr key.toNat 0x6B2C fun s => s.rtackGo side time)

/-- Ring time reaches the instant of ring-wide TACKs that the unit holds (R70, R71). -/
def State.rtackInstant (s : State) (time : Nat) : State :=
  let due := s.hbi.rtackDue.filter fun k => k.2 ≤ time
  let s : State := { s with
    hbi.rtackDue := s.hbi.rtackDue.filter fun k => time < k.2
    hbi.rtackDone := match due.getLast? with
      | some k => some k
      | none => s.hbi.rtackDone
    hbi.rtackSent := match s.hbi.rtackSent with
      | some x => if x.2.2 ≤ time then none else some x
      | none => none }
  due.foldl (fun (s : State) k => s.tack k.1) s

/-- RING_TACK_INSTANT (R70). -/
def execRingTackInstant (time : Nat) (s : State) : Out := .next (s.rtackInstant time)

/-! ### Credentials (R81, R82) -/

/-- The side byte of a side (R81). -/
def sideByte (side : Nat) : Nat := if side == 0 then 1 else 2

/-- A read of HBI_CRED_CHAL[0] draws a challenge (R81). -/
def State.newChallenge (s : State) (side : Nat) : State :=
  let (v, s) := s.draw 50
  let s := (List.range 4).foldl (fun (s : State) i => s.wr ((F.HBI_CRED_CHAL i).bank side) (v / 2 ^ (32 * i))) s
  s.setSide side { s.side side with chalValid := true }

/-- The challenge read: the first word of the new challenge is returned. -/
def State.readChallenge (s : State) (side : Nat) : State :=
  let s := (s.newChallenge side).accepted side
  s.drive side (s.rd ((F.HBI_CRED_CHAL 0).bank side))

/-- CRED_CHALLENGE_READ (R81). -/
def execCredChallengeRead (side : Side) (s : State) : Out := .next (s.readChallenge side)

/-- HBI_CRED_CMD. -/
def credCmdAddr : Nat := 0x1064

/-- The key of a credential: the maintenance key of the key store, or the key of the safety password (R81, R378, R444). -/
def State.credKey (s : State) (safety : Bool) : Option (List Nat) :=
  if safety then (if s.rdb F.SAF_STATUS_PW_SET then some s.saf.pw.now.bytes else none) else s.maintKey

/-- The response that opens a credential (R81): 16 bytes of HMAC-SHA-384 over challenge, side, ring address and kind. The challenge's
words stand in it with their lowest byte first (the model's choice, log 95). -/
def State.credResponse (s : State) (side : Nat) (safety : Bool) (key : List Nat) : List Nat :=
  (Config.hmac384 key ((List.range 4).flatMap (fun i => leBytes 4 (s.rd ((F.HBI_CRED_CHAL i).bank side))) ++
    [sideByte side, s.addr, if safety then 2 else 1])).take 16

/-- The response words that the side wrote. -/
def State.credGiven (s : State) (side : Nat) : List Nat :=
  (List.range 4).flatMap fun i => leBytes 4 (s.rd ((F.HBI_CRED_RESP i).bank side))

/-- A failure (R81): the fifth in a row locks the side out for 300 s. -/
def State.credFail (s : State) (side : Nat) : State :=
  let n := s.rd (F.HBI_CRED_STATUS_FAILS.bank side) + 1
  let s := s.wr (F.HBI_CRED_STATUS_FAILS.bank side) (min n 5)
  if n < 5 then s else
  (s.setSide side { s.side side with lockedOut := true, lockAt := s.ledger }).event (evCode 8 1 2) (sideByte side)

/-- An open command (R81): `fresh` says that the challenge is at most 60 s old. A challenge that a command has used stays valid until it
is 60 s old or a new one is read (the model's choice, log 95). -/
def State.credOpen (s : State) (side : Nat) (safety fresh : Bool) : State :=
  if (s.side side).lockedOut then s.accessError side eCredential credCmdAddr else
  let ok : Bool := (s.side side).chalValid && fresh && match s.credKey safety with
    | some k => s.credGiven side == s.credResponse side safety k
    | none => false
  if !ok then s.credFail side else
  let s := s.wr (F.HBI_CRED_STATUS_FAILS.bank side) 0
  if safety then s.wrb (F.HBI_CRED_STATUS_SAFETY_OPEN.bank side) true else s.wrb (F.HBI_CRED_STATUS_MAINT_OPEN.bank side) true

/-- CRED_OPEN_MAINTENANCE (R81). -/
def execCredOpenMaintenance (side : Side) (key : BitVec 16) (fresh : Bool) (s : State) : Out :=
  .next (s.command side credCmdAddr key.toNat 0x3C1D fun s => s.credOpen side false fresh)

/-- CRED_OPEN_SAFETY (R81). -/
def execCredOpenSafety (side : Side) (key : BitVec 16) (fresh : Bool) (s : State) : Out :=
  .next (s.command side credCmdAddr key.toNat 0x3C1D fun s => s.credOpen side true fresh)

/-- Close all (R81, R82). -/
def State.credClose (s : State) (side : Nat) : State :=
  if (s.side side).lockedOut then s.accessError side eCredential credCmdAddr else s.closeCreds side true true

/-- CRED_CLOSE_ALL (R82). -/
def execCredCloseAll (side : Side) (key : BitVec 16) (s : State) : Out :=
  .next (s.command side credCmdAddr key.toNat 0x3C1D fun s => s.credClose side)

/-- CRED_TIMEOUT (R82). -/
def execCredTimeout (side : Side) (safety : Bool) (s : State) : Out := .next (s.closeCreds side (!safety) safety)

/-- The lock-out ends (R81). -/
def State.credLockoutEnd (s : State) (side : Nat) : State :=
  if !(s.side side).lockedOut then s else
  (s.setSide side { s.side side with lockedOut := false }).wr (F.HBI_CRED_STATUS_FAILS.bank side) 0

/-- CRED_LOCKOUT_END (R81). -/
def execCredLockoutEnd (side : Side) (s : State) : Out := .next (s.credLockoutEnd side)

/-! ### What the indirect space holds (R83) -/

/-- The ranges of R83: first and last address. -/
def idxRanges : List (Nat × Nat) :=
  [(0, 0xFFFF), (0x100000, 0x1FFFFF), (0x200000, 0x200FFF), (0x300000, 0x37FFFF), (0x1000000, 0x1BFFFFF), (0x8000000, 0x803FFFF)]

/-- The range of an indirect address, by its place in R83's table. -/
def idxRange (a : Nat) : Option Nat := (List.range 6).find? fun i => (idxRanges.getD i (1, 0)).1 ≤ a && a ≤ (idxRanges.getD i (1, 0)).2

def rAlwaysOn : Nat := 2
def rSlot : Nat := 4
def rLive : Nat := 5

/-- Word i of 32 bits of a number. -/
def word32 (v i : Nat) : Nat := v / 2 ^ (32 * i) % 2 ^ 32

/-- Offsets 0x000 to 0x3FF of the Selvedge read window (R338). -/
def State.metWord (s : State) (a : Nat) : Nat :=
  let m := s.met
  let t := m.tot
  let mean (c : Nat) : Nat := bitsOf 32 (m.pub.means.getD c 0)
  if a == 0x000 || a == 0x02C then m.pub.seq % 2 ^ 32
  else if a == 0x004 then mean 0
  else if a == 0x008 then mean 2
  else if a == 0x00C then bitsOf 32 m.pub.power
  else if a == 0x010 then mean 1
  else if a == 0x014 then mean 3
  else if 0x018 ≤ a && a < 0x028 then mean (4 + (a - 0x018) / 4)
  else if a == 0x028 then m.pub.flags
  else if 0x040 ≤ a && a < 0x068 then
    let v := [t.ledger, t.impAll / 65536, t.expAll / 65536, t.sess.imp / 65536, t.sess.exp / 65536].getD ((a - 0x040) / 8) 0
    word32 v ((a - 0x040) / 4 % 2)
  else if 0x068 ≤ a && a < 0x084 then
    [t.reversals, t.sess.reversals, t.creep, m.saveSeq, m.gapTicks, m.bound, s.metState].getD ((a - 0x068) / 4) 0 % 2 ^ 32
  else 0

/-- Offsets 0x400 to 0x5FF: the partition-sourced BIL values, each at its register offset (R369). -/
def State.bilWord (s : State) (a : Nat) : Nat :=
  match regAt (0x22000 + (a - 0x400)) with
  | none => 0
  | some r =>
    let t := s.mirrorBil
    r.fields.foldl (fun (n : Nat) f => if f.acc == .ro then n + t.rd (f.at (0x22000 + (a - 0x400)) 0) * 2 ^ f.lsb else n) 0

/-- The Selvedge read window (R338, R369). -/
def State.windowWord (s : State) (a : Nat) : Nat :=
  if a < 0x400 then s.metWord a
  else if a < 0x600 then s.bilWord a
  else if 0x1000 ≤ a && a < 0x1400 then
    match s.pat.sealed.find? (·.1 == (a - 0x1000) / 0x40 + 1) with
    | some (_, bytes) => if a % 0x40 < 48 then u32 (Config.sha384 bytes) (a % 0x40) else 0
    | none => 0
  else 0

/-- The journal view: 1,024 slots from BIL_JRNL_VIEW of the reading side; an empty slot reads zero (R369). -/
def State.journalWord (s : State) (side a : Nat) : Nat :=
  let i := (s.rd (F.BIL_JRNL_VIEW.bank side) + (a - 0x100000) / 256) % 16384
  match s.bil.journal.find? (·.inSlot i) with
  | some r => u32 (r.bytes ++ r.signature.getD []) ((a % 256) + if i == r.slot then 0 else 256)
  | none => 0

/-- An entry of the fault ring as it is read; an unwritten one reads zero (R461). -/
def State.ringWord (s : State) (a : Nat) : Nat :=
  match SMap.get (fun _ => none) s.que.ring ((a - 0x300000) / 16) with
  | some e => e.words.getD (a / 4 % 4) 0
  | none => 0

/-- The word at a readable indirect address (R83), with the error a data access then meets (R63, R90). Where the spec gives the address
no content, the word is a free value (log 46). -/
def State.idxWord (s : State) (side a : Nat) : Nat × Nat × State :=
  if a < 0x10000 then (s.windowWord a, 0, s)
  else if 0x100000 ≤ a && a < 0x140000 then (s.journalWord side a, 0, s)
  else if 0x140000 ≤ a && a < 0x150000 then
    (u32 (SMap.get (fun _ => []) s.saf.log ((a - 0x140000) / 64)) (a % 64), 0, s)
  else if 0x200000 ≤ a && a < 0x201000 then
    match s.plainRead side a with
    | .ok (v, s) => (v, 0, s)
    | .error e => (0, e, s)
  else if 0x300000 ≤ a && a < 0x310000 then (s.ringWord a, 0, s)
  else if 0x310000 ≤ a && a < 0x310A00 then (u32 (s.bar.cnt.page ((a - 0x310000) / 0x200)) (a % 0x200), 0, s)
  else if 0x8000000 ≤ a then
    match s.plainRead side (a - 0x8000000) with
    | .ok (v, s) => (v, 0, s)
    | .error e => (0, e, s)
  else
    let (v, s) := s.draw 46
    (v % 2 ^ 32, 0, s)

/-! ### The indirect window (R84 to R86) -/

def State.idxAddr (s : State) (side : Nat) : Nat := s.rd (F.HBI_IDX_ADDR.bank side)
def State.idxReady (s : State) (side : Nat) : Bool := s.rdb (F.HBI_IDX_STATUS_READY.bank side)
def State.idxWait (s : State) (side : Nat) : Bool := s.rdb (F.HBI_IDX_STATUS_WAIT.bank side)
def State.setReady (s : State) (side : Nat) (b : Bool) : State := s.wrb (F.HBI_IDX_STATUS_READY.bank side) b
def State.setWait (s : State) (side : Nat) (b : Bool) : State := s.wrb (F.HBI_IDX_STATUS_WAIT.bank side) b

/-- The window holds a target port, or none; LOCKED shows it. -/
def State.setPort (s : State) (side : Nat) (p : Option Nat) : State :=
  (s.setSide side { s.side side with port := p }).wrb (F.HBI_IDX_STATUS_LOCKED.bank side) p.isSome

/-- Another window holds a port. -/
def State.portHeld (s : State) (side p : Nat) : Bool := (List.range 5).any fun k => k != side && (s.side k).port == some p

/-- Why a slot write is refused, if it is (R49, R53). -/
def State.slotRefusal (s : State) (side : Nat) : Option Nat :=
  if s.inLull then some eLull
  else if s.foreignOwner side then some eOwner
  else if s.pat.updOwner == 0 || !(s.pat.updState == 1 || s.pat.updState == 3) then some eState
  else none

/-- A slot write (R49): a write in VERIFIED returns to OPEN. -/
def State.slotWrite (s : State) (off v : Nat) : State :=
  let x := s.slotOf s.inactive
  let s := s.setSlot s.inactive { x with mem := SMap.set (fun _ => 0) (off / 4) v x.mem, top := max x.top (off + 4), empty := false }
  if s.pat.updState == 3 then s.setUpdate 1 s.pat.updResult else s

/-- A posted word meets its target: refused, or taken with READY clear until the target's answer (R72, R84). -/
def State.idxPost (s : State) (side v : Nat) : State :=
  let a := s.idxAddr side
  let taken (s : State) : State :=
    ((s.setSide side { s.side side with posted := some (a, v) }).wr (F.HBI_IDX_DATA.bank side) v).setReady side false
  if a / 0x1000000 == 1 then
    match s.slotRefusal side with
    | some e => (s.accessError side e a 1).setReady side true
    | none => taken ((s.slotWrite (a - 0x1000000) v).accepted side)
  else if 0x8000000 ≤ a then
    match s.liveRefusal side (a - 0x8000000) v with
    | some e => (s.accessError side e (a - 0x8000000) 2).setReady side true
    | none => taken (s.liveWrite side (a - 0x8000000) v)
  else
    match s.writeRefusal side a v with
    | some e => (s.accessError side e a 1).setReady side true
    | none => taken (s.writeReg side a v 1)

/-- The window acquires its target port, or waits for it (R85); then the word that waits is posted, or the fetch starts (R84). A
write-only target takes words at once. -/
def State.idxLock (s : State) (side : Nat) : State :=
  match idxRange (s.idxAddr side) with
  | none => s
  | some p =>
    if s.portHeld side p then ((s.setPort side none).setReady side false).setWait side true
    else
      let s := (s.setPort side (some p)).setWait side false
      match (s.side side).waitPost with
      | some v => (s.setSide side { s.side side with waitPost := none }).idxPost side v
      | none =>
        if p == rSlot then
          ((s.setSide side { s.side side with fetchErr := 0 }).wr (F.HBI_IDX_DATA.bank side) 0).setReady side true
        else (s.setSide side { s.side side with fetching := true }).setReady side false

/-- The window turns to an address (R84). -/
def State.idxGoto (s : State) (side a : Nat) : State :=
  let s := s.wr (F.HBI_IDX_ADDR.bank side) a
  let s := s.setSide side { s.side side with stopAtEnd := false, fetching := false, nextAddr := none }
  let s := if (s.side side).port == idxRange a then s else s.setPort side none
  s.idxLock side

/-- A write of HBI_IDX_ADDR (R84): it takes effect after a posted write, or one that still waits for its port, is complete. -/
def State.idxAddrWrite (s : State) (side a : Nat) : State :=
  match (if a % 4 == 0 then idxRange a else none) with
  | none => s.accessError side eAddr 0x1020
  | some p =>
    if s.inLull && p != rAlwaysOn then s.accessError side eLull 0x1020
    else if (s.side side).posted.isSome || (s.side side).waitPost.isSome then (s.accepted side).setSide side { s.side side with nextAddr := some a }
    else (s.accepted side).idxGoto side a

/-- IDX_ADDR_WRITE (R84). -/
def execIdxAddrWrite (side : Side) (addr : BitVec 32) (s : State) : Out := .next (s.idxAddrWrite side addr.toNat)

/-- Why an access to HBI_IDX_DATA is refused, if it is (R84, R86, R90). -/
def State.idxRefusal (s : State) (side : Nat) : Option Nat :=
  if (s.side side).stopAtEnd then some eAddr
  else if !s.idxReady side then some eNotReady
  else if s.inLull && idxRange (s.idxAddr side) != some rAlwaysOn then some eLull
  else none

/-- A refused access to HBI_IDX_DATA: PATH and the address as the window's target gives them (R88). -/
def State.idxRefused (s : State) (side e : Nat) : State :=
  let a := s.idxAddr side
  let s := s.setSide side { s.side side with stopAtEnd := false }
  if 0x8000000 ≤ a then s.accessError side e (a - 0x8000000) 2 else s.accessError side e a 1

/-- The auto-increment (R84, R86): the next word of the range, or ERR at its end. -/
def State.idxAdvance (s : State) (side : Nat) (fetch : Bool) : State :=
  let a := s.idxAddr side
  if idxRange (a + 4) == idxRange a then
    if fetch then s.idxGoto side (a + 4) else s.wr (F.HBI_IDX_ADDR.bank side) (a + 4)
  else (s.wrb (F.HBI_IDX_STATUS_ERR.bank side) true).setSide side { s.side side with stopAtEnd := true }

/-- A read of HBI_IDX_DATA: the word and the state after it, or the refusal. -/
def State.idxDataRead (s : State) (side : Nat) : Nat × State :=
  match s.idxRefusal side with
  | some e => (0, s.idxRefused side e)
  | none =>
    if (s.side side).fetchErr != 0 then (0, s.idxRefused side (s.side side).fetchErr)
    else
      let v := s.rd (F.HBI_IDX_DATA.bank side)
      let s := s.accepted side
      (v, if s.rdb (F.HBI_IDX_CTRL_INC.bank side) then s.idxAdvance side true else s)

/-- IDX_DATA_READ (R84). -/
def State.readIdxData (s : State) (side : Nat) : State := (s.idxDataRead side).2.drive side (s.idxDataRead side).1

def execIdxDataRead (side : Side) (s : State) : Out := .next (s.readIdxData side)

/-- A write of HBI_IDX_DATA (R84, R85). -/
def State.idxDataWrite (s : State) (side v : Nat) : State :=
  match s.idxRefusal side, idxRange (s.idxAddr side) with
  | some e, _ => s.idxRefused side e
  | none, none => s
  | none, some p =>
    if p != rAlwaysOn && p != rSlot && p != rLive then s.idxRefused side eRoWrite
    else if s.portHeld side p then
      (((s.accepted side).setSide side { s.side side with waitPost := some v }).setReady side false).setWait side true
    else (s.setPort side (some p)).idxPost side v

/-- IDX_DATA_WRITE (R84). -/
def execIdxDataWrite (side : Side) (value : BitVec 32) (s : State) : Out := .next (s.idxDataWrite side value.toNat)

/-- The fetched word arrives (R84). -/
def State.idxFetchDone (s : State) (side : Nat) : State :=
  if !(s.side side).fetching then s else
  let (v, e, s) := s.idxWord side (s.idxAddr side)
  ((s.setSide side { s.side side with fetching := false, fetchErr := e }).wr (F.HBI_IDX_DATA.bank side) v).setReady side true

/-- IDX_FETCH_DONE (R84). -/
def execIdxFetchDone (side : Side) (s : State) : Out := .next (s.idxFetchDone side)

/-- The target has taken the posted word (R84). -/
def State.idxPostDone (s : State) (side : Nat) : State :=
  let x := s.side side
  if x.posted.isNone then s else
  let s := s.setSide side { x with posted := none }
  match x.nextAddr with
  | some a => s.idxGoto side a
  | none =>
    let s := s.setReady side true
    if s.rdb (F.HBI_IDX_CTRL_INC.bank side) then s.idxAdvance side false else s

/-- IDX_POST_DONE (R84). -/
def execIdxPostDone (side : Side) (s : State) : Out := .next (s.idxPostDone side)

/-- IDX_RELEASE (R85): the port is freed, everything else of the window stays; a window that waits for a port goes on waiting. -/
def State.idxRelease (s : State) (side : Nat) : State := s.setPort side none

def execIdxRelease (side : Side) (s : State) : Out := .next ((s.accepted side).idxRelease side)

/-- IDX_PORT_TIMEOUT (R85): 1 µs with READY set and no data access. -/
def execIdxPortTimeout (side : Side) (s : State) : Out := .next (if s.idxReady side then s.setPort side none else s)

/-- A port that the window waits for may be free (R85). -/
def State.idxPortFree (s : State) (side : Nat) : State := if s.idxWait side then s.idxLock side else s

/-- IDX_PORT_FREE (R85). -/
def execIdxPortFree (side : Side) (s : State) : Out := .next (s.idxPortFree side)

end Sys2Proof.Machine
end

