-- ==== Sys2Proof/Machine/MrkUnit.lean ====
section
/-!
DEFINITION. Machine/MrkUnit.lean: what every unit does with plans, reports, DEMAND, LEAD, leases and cross-points (chapter 05).
-/
namespace Sys2Proof.Machine
open Sys2Proof

/-! ### Messages (R119 to R121, R132 to R134, R137, R157, R207) -/

def i16 (v : Int) : List Nat := leBytes 2 (bitsOf 16 v)

/-- STACK_STATUS (R119). -/
def stackStatusBytes (r : StackStatus) : List Nat :=
  let b (x : Bool) (i : Nat) : Nat := if x then 2 ^ i else 0
  [0x11, r.row, b r.available 0 + b r.lockedOut 1 + b r.connectFail 2 + b r.releaseFail 3 + b r.demandLost 4 + b r.ready 5, r.closed] ++
    i16 r.iOut ++ leBytes 2 r.vOut ++ i16 r.pIn ++ i16 r.tModule ++ leBytes 2 r.lifeUsed ++ leBytes 2 r.xpWear ++ leBytes 4 r.eIn ++
    [0, 0, 0, 0]

/-- OUTLET_STATUS (R121). -/
def outletStatusBytes (r : OutletStatus) : List Nat :=
  [0x12, r.col, r.phase, if r.wantsExport then 1 else 0] ++ i16 r.iReq ++ leBytes 2 r.iEvMax ++ leBytes 2 r.pEvMax ++
    leBytes 2 r.vPresent ++ leBytes 2 r.vReq ++ leBytes 2 r.iSust ++ leBytes 2 r.i80 ++ [0, 0, 0, 0, 0, 0]

/-- A stack entry of PLAN (R133). -/
def stackEntryBytes (e : StackEntry) : List Nat :=
  [e.row, e.col, e.mode, if e.lead then 1 else 0] ++ leBytes 2 e.shareFrom ++ leBytes 2 e.shareTo ++ leBytes 2 e.ceiling ++ leBytes 2 e.pCap

/-- An outlet entry of PLAN (R134). -/
def outletEntryBytes (e : OutletEntry) : List Nat :=
  [e.col, if e.planned then 1 else 0, if e.exportAllowed then 1 else 0, e.stackCount] ++ leBytes 2 e.iMax ++ leBytes 2 e.iExportMax ++
    leBytes 2 e.pMax ++ leBytes 2 e.iForecast

/-- PLAN (R132). -/
def planBytes (p : Plan) : List Nat :=
  let b (x : Bool) (i : Nat) : Nat := if x then 2 ^ i else 0
  [1, b p.discarded 0 + b p.capBound 1 + b p.degraded 2, p.stackEntries.length, p.outlets.length] ++ leBytes 4 p.planNo ++
    leBytes 8 p.applyTime ++ [p.leaseMs, p.rampMs, 0, 0] ++ p.stackEntries.flatMap stackEntryBytes ++ p.outlets.flatMap outletEntryBytes

/-- DEMAND (R137). -/
def demandBytes (d : Demand) : List Nat := [2, d.col, d.mode, d.seq] ++ i16 d.iRef ++ leBytes 2 d.vRef ++ leBytes 2 d.vBus ++ [0, 0]

/-- LEAD (R207). -/
def leadBytes (l : Lead) : List Nat := [4, l.col, l.row, l.seq] ++ i16 l.iLead ++ leBytes 2 l.shareLead ++ [0, 0]

/-- DUTY (R157). -/
def dutyBytes (d : Duty) : List Nat :=
  [3, d.witnesses.length] ++ d.witnesses.flatMap (fun w => [w.1, w.2]) ++ [d.replicas.length] ++
    d.replicas.flatMap fun r => [r.1, r.2.1, r.2.2]

/-! ### Reports (R118 to R121) -/

/-- The stack's report (R119, R268, R290). -/
def State.stackStatus (s : State) : StackStatus where
  row := s.role.rowCol
  available := s.sys.available && s.groups.all (fun g => s.gst g == gArmed) && !s.th.caseStop &&
    s.loops.all fun d => !s.rdb (F.SHT_LOOP_MODE_HO_FAIL d.loop)
  lockedOut := s.groups.any fun g => s.gst g == gLockout
  connectFail := s.mrk.connectFail
  releaseFail := s.mrk.releaseFail
  demandLost := s.mrk.demandLost || s.mrk.leadLost
  ready := s.mrk.ready
  closed := s.mrk.closed
  iOut := s.sht.iOut
  vOut := s.sht.vOut.toNat
  pIn := s.sht.pIn
  tModule := s.tModule
  lifeUsed := s.barGet 8 / 65536
  xpWear := s.xpWear
  eIn := ((s.mrk.eIn / 360) % (2 ^ 32 : Nat)).toNat

/-- The outlet's report (R121, R299). -/
def State.outletStatus (s : State) : OutletStatus where
  col := s.role.rowCol
  phase := s.phase
  wantsExport := s.vlk.wantsExport
  iReq := s.vlk.iReq
  iEvMax := s.rd F.VLK_EV_MAX_A_I_MAX
  pEvMax := s.rd F.VLK_EV_MAX_B_P_MAX
  vPresent := (rneInt (s.busV * 10) 4096).toNat
  vReq := s.vReqNow
  iSust := s.rd F.TH_OBS_CREDIT_I_SUST
  i80 := s.rd F.TH_OBS_CREDIT_I_80

/-- 7.0 ms into the Marker cycle (R118): an active stack or outlet unit reports. `curve` is the stack's curve where it is sent: every
60 s and at a change. -/
def State.reportSample (s : State) (curve : Option (List Nat)) : State :=
  if !s.active || s.inLull then s else
  match s.kind with
  | .stack =>
    let s := ({ s with mrk.eIn := s.mrk.eIn + s.sht.pIn } : State).stackEnergy (s.sht.iOut * s.sht.vOut)
    let s := s.ringSend 4 7 127 (stackStatusBytes s.stackStatus)
    match curve with
    | none => s
    | some c =>
      let s : State := { s with sht.curve := c }
      s.ringSend 4 7 127 ([0x14, s.role.rowCol] ++ c.flatMap (leBytes 2))
  | .outlet => s.ringSend 4 7 127 (outletStatusBytes s.outletStatus)
  | _ => s

/-- REPORT_SAMPLE (R118). -/
def execReportSample (curve : Option (List Nat)) (s : State) : Out := .next (s.reportSample curve)

/-! ### Plans at a unit (R134 to R136, R139 to R141) -/

/-- Show the lease in MRK_LOCAL. -/
def State.showLease (s : State) : State :=
  s.wr F.MRK_LOCAL_COLUMN (match s.mrk.lease with
    | some (c, _) => c
    | none => 0)

/-- The members of a role instance as they stand: a floater in the place of the unit it replaced (R28). -/
def State.unitsOf (s : State) (r : RoleDecl) : List Nat :=
  ([r.unitA, r.unitB].filter (· != 0)).map fun a =>
    ((s.mrk.floats.find? fun f => f.2.1 == r.instance_ && f.2.2 == a).map (·.1)).getD a

/-- The floater of TOPOLOGY whose span a unit has (R29): a replaced unit has that of the floater that replaced it. The first argument bounds
the chain of replacements. -/
def State.floaterRoot (s : State) : Nat → Nat → Nat
  | 0, a => a
  | n + 1, a => match s.mrk.floats.find? (·.2.2 == a) with
    | none => a
    | some f => s.floaterRoot n f.1

/-- The span of a unit (R27): its own as TOPOLOGY declares it, or that of the floater that replaced it (R29). -/
def State.spanOf (s : State) (a : Nat) : List Nat :=
  let u := if a == s.addr && s.pat.spareOf != 0 then s.pat.spareOf else s.floaterRoot s.mrk.floats.length a
  match s.pat.content.units.find? (·.addr == u) with
  | some x => if x.instance_ == 0 then x.span else []
  | none => []

/-- MRK_STACK[r]_STATE and MRK_OUT[c]_STATE show the committed plan (R165). -/
def State.showCommitted (s : State) (p : Plan) : State :=
  let s := (p.stackEntries.filter fun e => 1 ≤ e.row && e.row ≤ 32).foldl (fun (s : State) e =>
    ((s.wr (F.MRK_STACK_STATE_MODE e.row) e.mode).wr (F.MRK_STACK_STATE_COLUMN e.row) e.col).wr (F.MRK_STACK_STATE_SHARE e.row) e.shareTo) s
  (p.outlets.filter fun e => 1 ≤ e.col && e.col ≤ 16).foldl (fun (s : State) e =>
    (s.wr (F.MRK_OUT_STATE_STACKS e.col) e.stackCount).wr (F.MRK_OUT_STATE_I_MAX e.col) e.iMax) s

/-- The units of the rows that a plan places in Lull (R133, R154). -/
def State.planLull (s : State) (p : Plan) : List Nat :=
  (s.pat.content.roles.filter fun r => r.kind == .stack && p.stackEntries.any fun e => e.row == r.rowCol && e.mode == 1).flatMap s.unitsOf

/-- The standby site unit keeps the committed plan as its own, with the units that it places in Lull (R116). -/
def State.followPlan (s : State) (p : Plan) : State :=
  let lull := (s.planLull p).filter fun a => !s.mrk.lullUnits.contains a
  ({ s with mrk.committed := p, mrk.lullUnits := s.mrk.lullUnits ++ lull } : State).showCommitted p

/-- A PLAN message is held complete (R115, R135): from the MASTER of the header, before its TACK instant. -/
def State.planReceive (s : State) (p : Plan) (src : Nat) : State :=
  if s.inLull || src != s.trg.lastMaster || p.applyTime < s.now + 1000000 then s else
  let s : State := { s with mrk.plan := some p }
  if s.kind == .site && !s.active then s.followPlan p else s

/-- PLAN_RECEIVE (R135). -/
def execPlanReceive (plan : Plan) (src : Nat) (s : State) : Out := .next (s.planReceive plan src)

/-- A plan is missed (R136): counted, and an event. -/
def State.planMissed (s : State) : State := (s.inc F.MRK_LOCAL_MISSED).event (evCode 0xA 2 4) 0

/-- A plan's TACK instant (R135, R136): its TACK of the MRK block's group; without the whole plan the unit keeps its entries. -/
def State.planTack (s : State) (time : Nat) : State :=
  if s.inLull then s else
  match s.mrk.plan with
  | some p =>
    if p.applyTime ≤ time + 1000000 then ({ s with mrk.plan := none, mrk.latched := some p } : State).tack (2 ^ s.tackGroup 4)
    else s.planMissed
  | none => s.planMissed

/-- PLAN_TACK (R135). -/
def execPlanTack (time : Nat) (s : State) : Out := .next (s.planTack time)

/-- The output loops whose hand-overs R208 requests: those with AUTO set. -/
def State.autoLoops (s : State) : List LoopDecl := s.outputLoops.filter fun d => s.rdb (F.SHT_LOOP_MODE_AUTO d.loop)

/-- Every output loop with AUTO set is requested into a mode (R208). -/
def State.requestOutput (s : State) (mode : Nat) : State :=
  s.autoLoops.foldl (fun (s : State) d => s.requestMode d.loop d mode false) s

/-- Some loops stop where they are not OFF (R213). -/
def State.stopThese (s : State) (ds : List LoopDecl) : State :=
  ds.foldl (fun (s : State) d => if s.nowMode d.loop == mOff then s else s.startStop d.loop d) s

/-- Every output loop stops. -/
def State.stopOutput (s : State) : State := s.stopThese s.outputLoops

/-- Does the unit's running image declare a cross-point of its row (R37)? -/
def State.fitted (s : State) (col : Nat) : Bool := s.pat.content.crossPoints.contains (s.role.rowCol, col)

/-- No ramp to zero has a cause any more. -/
def State.endRamp (s : State) : State :=
  if s.mrk.demandLost || s.mrk.leadLost || s.mrk.leaseRamp then s else { s with mrk.zeroRamp := none }

/-- The lease is granted or renewed (R20, R37, R133, R139): E = APPLY_TIME + LEASE_MS; a ramp of R140 under way ends. -/
def State.renewLease (s : State) (p : Plan) (col : Nat) : State :=
  ({ s with mrk.lease := some (col, p.applyTime + p.leaseMs * 1000000), mrk.leaseRamp := false } : State).endRamp.showLease

/-- A CONNECT starts (R142): voltage control towards V_BUS. -/
def State.startConnect (s : State) : State :=
  ({ s with mrk.seq := .matching, mrk.connectFail := false, mrk.ready := false, mrk.stopLead := false } : State).requestOutput mOutVoltage

/-- The entry that the stack follows from now on, with its plan's times (R133). With another column its latest DEMAND and LEAD are no longer
the stack's; in a column in current mode a lost LEAD is followed until the next entry (log 109). -/
def State.takeEntryOf (s : State) (p : Plan) (e : StackEntry) : State :=
  let moved := match s.mrk.stack with
    | some o => o.col != e.col
    | none => true
  let back := s.mrk.leadLost && s.dem.mode == 2
  ({ s with mrk.stack := some e, mrk.outlet := p.outlets.find? (·.col == e.col), mrk.stackAt := p.applyTime, mrk.stackRamp := p.rampMs
            mrk.stopLead := !e.lead && (s.mrk.stopLead || s.isLead)
            mrk.demand := if moved then none else s.mrk.demand
            mrk.demandLost := s.mrk.demandLost && !moved
            mrk.lead := if moved || back || e.lead then none else s.mrk.lead
            mrk.leadLost := s.mrk.leadLost && !moved && !back && !e.lead } : State).endRamp

/-- A plan that grants the stack no cross-point (R140): without a lease its output stops, where AUTO requests it (R208); a lease that is held
runs on at its share until the ramp of R140. -/
def State.noColumn (s : State) (p : Plan) (e : StackEntry) : State :=
  if s.mrk.lease.isSome then s
  else
    let s := s.takeEntryOf p e
    if e.col == 0 then s.stopThese s.autoLoops else s.stopOutput

/-- The unit's own stack entry is applied (R133, R139 to R144). A stack never holds two cross-points (R21); an entry for a cross-point that
it cannot hold changes nothing of what it follows. -/
def State.applyStack (s : State) (p : Plan) (e : StackEntry) : State :=
  let s := s.wr F.MRK_LOCAL_MODE e.mode
  let s : State := if e.mode == 1 then { s with clk.lullNext := true } else s
  let other := (s.mrk.coil != 0 && s.mrk.coil != e.col) || (s.mrk.closed != 0 && s.mrk.closed != e.col)
  if e.col == 0 || !(2 ≤ e.mode && e.mode ≤ 5) then s.noColumn p e
  else if !s.fitted e.col || other then s
  else
    let s := (s.takeEntryOf p e).renewLease p e.col
    if e.mode == 2 && s.mrk.seq == .idle && s.mrk.coil == 0 && s.mrk.closed == 0 then s.startConnect
    else if e.mode == 5 && s.mrk.seq == .connected then { s with mrk.seq := .rampOut, mrk.rampOutAt := p.applyTime }
    else s

/-- The leases of an outlet's column after a plan (R139): an entry for the column grants or renews its row's, one for another column ends
it, and a row without an entry keeps its own until it expires. -/
def State.noteLeases (s : State) (p : Plan) : State :=
  { s with mrk.leases := p.stackEntries.foldl (fun m e =>
      if e.col == s.role.rowCol && 2 ≤ e.mode && e.mode ≤ 5 then SMap.set (fun _ => 0) e.row (p.applyTime + p.leaseMs * 1000000) m
      else if e.col != 0 then SMap.set (fun _ => 0) e.row 0 m else m) s.mrk.leases }

/-- The unit applies its entries of the latched plan (R134, R135). -/
def State.planApply (s : State) (p : Plan) : State :=
  let s : State := { s with mrk.latched := none, mrk.applied := p, mrk.applyTime := p.applyTime, mrk.leaseMs := p.leaseMs,
                            mrk.rampMs := p.rampMs }
  let s := s.wr F.MRK_PLAN_NO p.planNo
  match s.kind with
  | .stack => s.applyStack p ((p.stackEntries.find? (·.row == s.role.rowCol)).getD { row := s.role.rowCol })
  | .outlet =>
    let o := p.outlets.find? (·.col == s.role.rowCol)
    let was := (s.mrk.demand.getD {}).iRef
    let low : Bool := match o with
      | some e => (e.iMax : Int) < was
      | none => false
    ({ s with mrk.outlet := o, mrk.rampFrom := if low then some was else none } : State).noteLeases p
  | _ => s

/-- The cells of the planning registers (R117). -/
def planningCells : List Nat :=
  regsMrk.flatMap fun r =>
    let addrs := match r.dims with
      | [] => [r.base]
      | (st, n) :: _ => (List.range n).map fun i => r.base + st * i
    addrs.flatMap fun a => (r.fields.map fun f => a * 32 + f.lsb).filter planningKey

/-- The active site unit sends its live planning values to its partner (R117). -/
def State.sendPlanning (s : State) : State :=
  if s.kind != .site || !s.active || s.pair.partnerAddr == 0 then s else
  s.sendItem 8 (planningCells.flatMap fun k => leBytes 4 k ++ leBytes 4 (SMap.get resetCell s.live k))

/-- The pins, forbids and excludes in force (R130, R161). -/
def State.constraints (s : State) : List Nat :=
  ((List.range 33).drop 1).flatMap (fun r => [s.rd (F.MRK_STACK_CFG_EXCLUDE r), s.rd (F.MRK_STACK_CFG_PIN r), s.rd (F.MRK_STACK_CFG_PIN_COL r)]) ++
    ((List.range 17).drop 1).flatMap fun c => [s.rd (F.MRK_OUT_CFG_EXCLUDE c), s.rd (F.MRK_OUT_FORBID c)]

/-- A Marker cycle starts (R123, R135): tacked values of the block are applied, the latched plan too. -/
def State.markerApply (s : State) (time : Nat) : State :=
  let tacked := s.hbi.tackParts.contains (4, 0)
  let was := if tacked then s.constraints else []
  let s := s.boundary [(4, 0)]
  let s : State := if tacked then { s.sendPlanning with mrk.invalid := s.mrk.invalid || was != s.constraints } else s
  match s.mrk.latched with
  | some p => if p.applyTime ≤ time then s.planApply p else s
  | none => s

/-! ### DEMAND and LEAD (R137, R138, R206, R207, R282, R305 to R307) -/

/-- A cross-point of the outlet's column is leased, by whichever plan last granted or renewed it (R137, R139). -/
def State.columnLeased (s : State) (time : Nat) : Bool := s.mrk.leases.any fun e => time < e.2

/-- MODE of DEMAND: voltage in cable check and pre-charge, current in charge and stopping, else off (R300, R301, R305, R309). -/
def State.demandMode (s : State) : Nat :=
  if s.vlk.esd then 0
  else if s.vst == vCableCheck || s.vst == vPreCharge then 1
  else if s.vst == vCharge || s.vst == vStopping then 2 else 0

/-- The reference of MODE 1 moves by SLEW in 100 µs, 0.1 mV (R301, R305); before the contactors are closed it is the bus voltage. -/
def State.nextVRef (s : State) : Nat :=
  let bus := (rneInt (s.busV * 10000) 4096).toNat
  let goal := s.vlk.vReq * 1000
  let step := s.rd F.VLK_CC_SLEW
  if s.vst == vCableCheck && s.vlk.ccStep < 2 then bus
  else if s.vst != vCableCheck && s.vst != vPreCharge then s.vlk.vRef
  else if s.vlk.vRef < goal then min goal (s.vlk.vRef + step) else max goal (s.vlk.vRef - step)

/-- I_MAX as it applies at a time: a lower one is reached linearly over RAMP_MS from APPLY_TIME (R134). -/
def State.iMaxAt (s : State) (time : Nat) : Nat := match s.mrk.outlet with
  | none => 0
  | some e => match s.mrk.rampFrom with
    | none => e.iMax
    | some i =>
      let len := s.mrk.rampMs * 1000000
      if s.mrk.applyTime + len ≤ time then e.iMax
      else (i - (i - (e.iMax : Int)) * ((time - s.mrk.applyTime : Nat) : Int) / len).toNat

/-- The outlet's own limit, 0.1 A: 3,000 A and the connector rating (R22). -/
def State.outletLimit (s : State) : Nat := min 30000 s.role.iRated

/-- I_REF, 0.1 A: in MODE 1 up to 50 A; in CHARGE the request within R282 and the offer; in STOPPING the ramp of R307. -/
def State.demandRef (s : State) (time : Nat) : Int :=
  let bound := min s.outletLimit (s.demandBound (s.iMaxAt time))
  if s.demandMode == 1 then (min 500 bound : Nat)
  else if s.vst == vCharge then
    clampI (-(min s.outletLimit (min s.offer.2.2 (s.rd F.TH_OBS_CREDIT_I_80)) : Nat)) bound s.vlk.iReq
  else if s.vst == vStopping then
    let len := s.mrk.rampMs * 1000000
    if s.vlk.stopAt + len ≤ time then 0
    else s.vlk.stopFrom - s.vlk.stopFrom * ((time - s.vlk.stopAt : Nat) : Int) / max 1 len
  else 0

/-- The active outlet unit writes DEMAND in ring cycles with CYCLE a multiple of 4 while its column is leased (R137). -/
def State.demandSend (s : State) (cycle time : Nat) : State :=
  if s.kind != .outlet || !s.active || cycle % 4 != 0 || !s.columnLeased time then s else
  let s : State := { s with vlk.vRef := s.nextVRef }
  let mode := s.demandMode
  let d : Demand := {
    col := s.role.rowCol, mode := mode, seq := s.mrk.demandSeq
    iRef := s.demandRef time
    vRef := if mode == 1 then s.vlk.vRef / 1000 else s.vReqNow
    vBus := (rneInt (s.busV * 10) 4096).toNat }
  ({ s with mrk.demand := some d, mrk.demandSeq := (s.mrk.demandSeq + 1) % 256 } : State).ringSend 4 1 127 (demandBytes d)

/-- DEMAND_SEND (R137). -/
def execDemandSend (cycle time : Nat) (s : State) : Out := .next (s.demandSend cycle time)

/-- A stack takes the DEMAND of its column (R138); MODE 0 requests OFF (R309). -/
def State.demandReceive (s : State) (d : Demand) : State :=
  if s.kind != .stack || s.ownColumn == 0 || d.col != s.ownColumn then s else
  let s := ({ s with mrk.demand := some d, mrk.demandLost := false } : State).endRamp
  if d.mode == 0 then s.columnOff else s

/-- DEMAND_RECEIVE (R138). -/
def execDemandReceive (demand : Demand) (s : State) : Out := .next (s.demandReceive demand)

/-- The current that a ramp to zero starts from, 0.1 A: the output current in a voltage or power mode, else the reference. -/
def State.rampStart (s : State) (time : Nat) : Int :=
  if s.outputLoops.any fun d => s.nowMode d.loop == mOutVoltage || s.nowMode d.loop == mOutPower then s.sht.iOut
  else clampI (-(s.ceiling : Nat)) (s.ceiling : Nat) (rneRat (s.rawCurrent time))

/-- The ramp to zero starts, unless one runs. -/
def State.startRamp (s : State) (time len : Nat) : State :=
  if s.mrk.zeroRamp.isSome then s else { s with mrk.zeroRamp := some (time, len, s.rampStart time) }

/-- No DEMAND for 1 ms (R138). -/
def State.demandGone (s : State) (time : Nat) : State :=
  if s.kind != .stack || s.mrk.lease.isNone then s else
  { s.startRamp time (s.mrk.rampMs * 1000000) with mrk.demandLost := true }

/-- DEMAND_LOST (R138). -/
def execDemandLost (time : Nat) (s : State) : Out := .next (s.demandGone time)

/-- The lead stack writes LEAD (R207): in OUT_VOLTAGE, with another stack connected, in cycles with CYCLE modulo 4 equal to 2. `iLead`
is its mean output current over the preceding ring cycle. -/
def State.leadSend (s : State) (cycle time : Nat) (iLead : Int) : State :=
  let joined := s.mrk.applied.stackEntries.any fun e => e.col == s.ownColumn && e.row != s.role.rowCol && 2 ≤ e.mode && e.mode ≤ 5
  if s.kind != .stack || !s.active || cycle % 4 != 2 || !s.isLead || s.ownColumn == 0 || !joined ||
      !s.outputLoops.any (fun d => s.nowMode d.loop == mOutVoltage) then s else
  let l : Lead := { col := s.ownColumn, row := s.role.rowCol, seq := s.mrk.leadSeq, iLead := iLead
                    shareLead := (s.share time * 32768).floor.toNat }
  ({ s with mrk.leadSeq := (s.mrk.leadSeq + 1) % 256 } : State).ringSend 4 1 127 (leadBytes l)

/-- LEAD_SEND (R207). -/
def execLeadSend (cycle time : Nat) (iLead : Int) (s : State) : Out := .next (s.leadSend cycle time iLead)

/-- A following stack takes the LEAD of its column (R206). -/
def State.leadReceive (s : State) (l : Lead) : State :=
  if s.kind != .stack || s.ownColumn == 0 || l.col != s.ownColumn || l.row == s.role.rowCol then s else
  ({ s with mrk.lead := some l, mrk.leadLost := false } : State).endRamp

/-- LEAD_RECEIVE (R206). -/
def execLeadReceive (lead : Lead) (s : State) : Out := .next (s.leadReceive lead)

/-- A stack that follows LEAD has had none for 1 ms (R207). -/
def State.leadGone (s : State) (time : Nat) : State :=
  if s.kind != .stack || s.isLead || s.mrk.lead.isNone || s.dem.mode == 0 then s else
  { s.startRamp time (s.mrk.rampMs * 1000000) with mrk.leadLost := true }

/-- LEAD_LOST (R207). -/
def execLeadLost (time : Nat) (s : State) : Out := .next (s.leadGone time)

/-! ### Leases and switching sequences (R139 to R145) -/

/-- At E − RAMP_MS of a lease that is not renewed, the ramp to zero by E starts (R140). -/
def State.leaseRampStart (s : State) (time : Nat) : State :=
  match s.mrk.lease with
  | some (_, e) =>
    if s.kind != .stack || time + s.mrk.rampMs * 1000000 < e || e ≤ time || s.mrk.leaseRamp then s
    else { s.startRamp time (e - time) with mrk.leaseRamp := true }
  | none => s

/-- LEASE_RAMP_START (R140). -/
def execLeaseRampStart (time : Nat) (s : State) : Out := .next (s.leaseRampStart time)

/-- At E the coil is driven open; a current above ZERO is a breaking current with its event and count (R140): LEASE_BREAK's ARG holds the
row in bits [31:24] and the current in [15:0] (DESIGN CHOICE, log 74: R463 gives no bit places). -/
def State.leaseExpiry (s : State) (time : Nat) : State :=
  match s.mrk.lease with
  | some (_, e) =>
    if s.kind != .stack || time < e then s else
    let hot := s.mrk.coil != 0 && !s.zeroOut
    let s := if hot then (s.barAdd 0x24 1).event (evCode 0xA 1 1) (s.role.rowCol * 2 ^ 24 + s.breakA % 65536) else s
    let driven := s.mrk.coil != 0
    let s := s.xpDropCoil
    let s : State := { s with mrk.lease := none, mrk.leaseRamp := false, mrk.ready := false
                              mrk.seq := if driven then .opening else if s.mrk.closed == 0 then .idle else s.mrk.seq }
    let s := if driven || s.mrk.closed != 0 then s else ({ s with mrk.stack := none } : State).stopOutput
    s.showLease
  | none => s

/-- LEASE_EXPIRY (R140). -/
def execLeaseExpiry (time : Nat) (s : State) : Out := .next (s.leaseExpiry time)

/-- V_OUT lies within MRK_SEQ.MATCH of V_BUS of the latest DEMAND, or both at 60 V or less (R142). -/
def State.matched (s : State) : Bool :=
  let v := s.sht.vOut
  let bus : Int := s.dem.vBus
  s.mrk.demand.isSome && (1000 * (v - bus).natAbs ≤ s.rd F.MRK_SEQ_MATCH * s.dem.vBus || (bus ≤ 600 && v ≤ 600))

/-- The voltage has matched for 0.5 ms: the coil of the leased cross-point is driven closed (R20, R21, R142). -/
def State.voltageMatched (s : State) : State :=
  match s.mrk.lease with
  | some (c, _) =>
    if s.mrk.seq == .matching && s.mrk.coil == 0 && s.mrk.closed == 0 && s.fitted c && s.matched then
      ({ s with mrk.coil := c, mrk.seq := .closing } : State).contactorOp (s.xpIndex c) 0 false
    else s
  | none => s

/-- CONNECT_VOLTAGE_MATCHED (R142). -/
def execConnectVoltageMatched (s : State) : Out := .next s.voltageMatched

/-- A CONNECT fails: the coil is driven open, CONNECT_FAIL is set (R143). -/
def State.failConnect (s : State) : State :=
  let s := s.xpDropCoil.stopOutput
  ({ s with mrk.seq := .idle, mrk.connectFail := true, mrk.ready := false } : State).event (evCode 0xA 2 2) s.role.rowCol

/-- CONNECT_MATCH_TIMEOUT (R143). -/
def execConnectMatchTimeout (s : State) : Out := .next (if s.mrk.seq == .matching then s.failConnect else s)

/-- XP_AUX_CLOSED (R142): the auxiliary contact reads closed, the debounce starts. -/
def State.xpClosed (s : State) : State :=
  if s.mrk.seq == .closing then { s with mrk.closed := s.mrk.coil, mrk.seq := .closeDebounce } else s

def execXpAuxClosed (s : State) : Out := .next s.xpClosed

/-- XP_AUX_CLOSE_TIMEOUT (R143). -/
def execXpAuxCloseTimeout (s : State) : Out := .next (if s.mrk.seq == .closing then s.failConnect else s)

/-- A debounce ends: READY after closing, in voltage control where the stack is LEAD and DEMAND MODE is 1, else in current control at
share 0 (R142); after opening CLOSED reads 0 and the lease is released (R144). -/
def State.debounceEnd (s : State) : State :=
  match s.mrk.seq with
  | .closeDebounce =>
    let s : State := { s with mrk.seq := .connected, mrk.ready := true }
    if s.isLead && s.dem.mode == 1 then s else s.requestOutput mOutCurrent
  | .openDebounce =>
    let s := s.stopOutput
    ({ s with mrk.seq := .idle, mrk.closed := 0, mrk.lease := none, mrk.leaseRamp := false, mrk.releaseFail := false
              mrk.stack := none } : State).endRamp.showLease
  | _ => s

/-- XP_DEBOUNCE_END (R142, R144). -/
def execXpDebounceEnd (s : State) : Out := .next s.debounceEnd

/-- The instant at which the share of a RAMP_OUT has come to 0 (R144). -/
def State.rampOutEnd (s : State) : Nat := s.mrk.rampOutAt + s.mrk.stackRamp * 1000000

/-- The current has been at zero for 0.5 ms after the ramp of RAMP_OUT: the coil is driven open (R144). -/
def State.rampOutZero (s : State) (time : Nat) : State :=
  if s.mrk.seq == .rampOut && s.zeroOut && s.rampOutEnd + 500000 ≤ time then { s.xpDropCoil with mrk.seq := .opening } else s

/-- RAMP_OUT_ZERO_HELD (R144). -/
def execRampOutZeroHeld (time : Nat) (s : State) : Out := .next (s.rampOutZero time)

/-- The current has not held at zero by RAMP_MS + 5 ms: the coil stays closed (R145). -/
def State.releaseFailed (s : State) (time : Nat) : State :=
  if s.mrk.seq == .rampOut && !s.mrk.releaseFail && s.rampOutEnd + 5000000 ≤ time then
    ({ s with mrk.releaseFail := true } : State).event (evCode 0xA 2 3) s.role.rowCol else s

/-- RELEASE_FAIL (R145). -/
def execReleaseFail (time : Nat) (s : State) : Out := .next (s.releaseFailed time)

/-- XP_AUX_OPEN (R144). -/
def State.xpOpen (s : State) : State := if s.mrk.seq == .opening then { s with mrk.seq := .openDebounce } else s

def execXpAuxOpen (s : State) : Out := .next s.xpOpen

/-! ### Duties and replicas (R157 to R159, R364) -/

/-- The owner sends a new holder what a lost one held: its journal records and Barograph blocks (R159). -/
def State.refillHolder (s : State) (h : Nat) : State :=
  let s := s.bil.journal.reverse.foldl (fun (s : State) r => match r.signature with
    | some g => s.ringSend 4 6 h (r.bytes ++ g)
    | none => s) s
  s.bar.blocks.reverse.foldl (fun (s : State) b => s.ringSend 4 6 h (b.bytes Config.deviceId)) s

/-- A unit is lost, withdrawn or benched, as far as this unit has heard (R159): it is off the ring though not placed in Lull. -/
def State.gone (s : State) (a : Nat) : Bool :=
  s.mrk.benched.contains a || s.mrk.withdrawn.contains a ||
    (a != s.addr && !s.mrk.lullUnits.contains a && (!s.member a || (SMap.get (fun _ => none) s.pair.slotAt a).any fun c => c + 40 ≤ s.cycle))

/-- The units that keep copies of an owner's records though a DUTY gives the duty to others: those that were placed in Lull (R159, R160). -/
def State.noteCopies (s : State) (d : Duty) : List (Nat × Nat) :=
  let old := (s.mrk.duty.replicas.flatMap fun r => [(r.1, r.2.1), (r.1, r.2.2)]) ++ s.mrk.copies
  let now := d.replicas.flatMap fun r => [(r.1, r.2.1), (r.1, r.2.2)]
  (old.filter fun x => x.2 != 0 && !now.contains x && !s.gone x.2).eraseDups

/-- A new holder is sent what a lost one held; for one that was only placed in Lull no copy is moved (R159). -/
def State.refillHolders (s : State) (old new : List Nat) : State :=
  if (old.filter fun h => !new.contains h).any s.gone then (new.filter fun h => !old.contains h).foldl State.refillHolder s else s

/-- The unit takes the duties of a DUTY (R157): its holders, its witness. A hot standby without its partner asks a witness newly placed at
once (R26). -/
def State.takeDuty (s : State) (d : Duty) : State :=
  let old := s.holdersOf s.addr
  let s : State := { s with mrk.copies := s.noteCopies d, mrk.duty := d }
  let s := s.refillHolders old (s.holdersOf s.addr)
  let w := match d.witnesses.find? (·.1 == s.pat.instance_) with
    | some x => x.2
    | none => 0
  let had := s.rd F.PAIR_IDENT_WITNESS
  let s := if s.pat.instance_ == 0 then s else (s.wr F.PAIR_IDENT_WITNESS w).wrb F.PAIR_STATUS_UNWITNESSED (w == 0)
  if w != had && w != 0 && s.pair.lost && s.rd F.PAIR_STATUS_STATE == psHot then s.requestVote false 1 else s

/-- A holder stores a record or block unchanged and returns its sequence number (R158); of blocks it keeps the newest 256 of an owner
(R497). -/
def State.storeReplica (s : State) (owner : Nat) (block : Bool) (seq : Nat) (bytes : List Nat) : State :=
  let all := (owner, block, seq, bytes) :: s.mrk.replicas.filter fun r => !(r.1 == owner && r.2.1 == block && r.2.2.1 == seq)
  let blocks := (all.filter fun r => r.1 == owner && r.2.1).drop 256
  let kept := if block then all.filter fun r => !blocks.contains r else all
  ({ s with mrk.replicas := kept } : State).ringReply 6 owner (leBytes 8 seq)

/-- REPLICA_WRITE_RECEIVE (R158). -/
def execReplicaWriteReceive (owner : Nat) (block : Bool) (seq : Nat) (bytes : List Nat) (s : State) : Out :=
  .next (if s.inLull then s else s.storeReplica owner block seq bytes)

/-- An acknowledgement of a holder is passed to the partition as ACK (R341, R364). -/
def State.replicaAck (s : State) (holder seq : Nat) : State := s.compose 8 (holder :: leBytes 8 seq)

/-- REPLICA_ACK_RECEIVE (R364). -/
def execReplicaAckReceive (holder seq : Nat) (s : State) : Out := .next (s.replicaAck holder seq)

end Sys2Proof.Machine
end

