-- ==== Sys2Proof/Machine/MrkSolve.lean ====
section
/-!
DEFINITION. Machine/MrkSolve.lean: what the Marker solves from a snapshot (R125 to R131, R133, R134, R141, R142, R144 to R151, R161,
R162), as functions of the snapshot alone. Currents in 0.1 A, voltages in 0.1 V, powers in W.
-/
namespace Sys2Proof.Machine.Plan
open Sys2Proof Sys2Proof.Machine

/-! ### Where a row stands (R131, R141 to R145) -/

/-- A row between plans. `blocked`: it has no entry but CLOSED is not 0. -/
inductive Stand where
  | lost | asleep | blocked | idle
  | connecting (col : Nat)
  | on (col share : Nat)
  | leaving (col : Nat)
deriving DecidableEq, Repr, Inhabited

/-- Where a row stands by its committed entry and its report. -/
def Row.stand (r : Row) : Stand :=
  if r.asleep then .asleep
  else if r.age == .lost then .lost
  else if r.entry.mode == 2 then
    if r.connectFail then (if r.closed == 0 then .idle else .blocked)
    else if r.ready && r.closed == r.entry.col then .on r.entry.col 0 else .connecting r.entry.col
  else if r.entry.mode == 3 || r.entry.mode == 4 then .on r.entry.col r.entry.shareTo
  else if r.entry.mode == 5 then (if r.closed == 0 then .idle else .leaving r.entry.col)
  else if r.closed == 0 then .idle else .blocked

/-- The column a row stands in; 0 none. -/
def Stand.col : Stand → Nat
  | .connecting c => c
  | .on c _ => c
  | _ => 0

/-- Does the column need stacks (R125, R161)? One past 100 ms, excluded, or outside phases 2 to 4 needs none. -/
def Col.needs (c : Col) : Bool := !c.excluded && c.age != .lost && (c.phase == 2 || c.phase == 3 || c.phase == 4)

/-- In phases 2 and 3 the column needs one stack alone (R125). -/
def Col.single (c : Col) : Bool := c.phase == 2 || c.phase == 3

def Snap.col (w : Snap) (c : Nat) : Col := (w.cols.find? (·.col == c)).getD {}

/-- The row may not stay in its column: a limit, an exclusion, a forbid, the outlet's phase or its loss requires it to go (R125, R128,
R161, R22). A held assignment stays (R162). -/
def Snap.mustLeave (w : Snap) (r : Row) (c : Nat) : Bool :=
  !w.hold && (w.col c).age != .frozen && (!r.available || r.excluded || !r.cols.contains c || !(w.col c).needs)

/-! ### Splitting a column's current (R129) -/

/-- The ceiling of a stack at a voltage, rounded down to 1 A (R126, R129). -/
def Row.ceiling (r : Row) (v : Nat) : Nat :=
  let a := if v == 0 then 10000 else min 10000 (120000000 / v)
  let b := if r.pCap == 0 || v == 0 then a else min a (r.pCap * 100000 / v)
  b / 10 * 10

/-- Rises of the loss over the eight 150 kW segments of a curve, 0.1 kW. -/
def slopes (curve : List Nat) : List Int :=
  (List.range 8).map fun i => (curve.getD (i + 2) 0 : Int) - (curve.getD (i + 1) 0 : Int)

/-- The power up to which a stack's incremental loss stays below, or does not exceed, a value, W. -/
def powerBelow (curve : List Nat) (l : Int) : Nat := 150000 * ((slopes curve).takeWhile (· < l)).length
def powerUpTo (curve : List Nat) (l : Int) : Nat := 150000 * ((slopes curve).takeWhile (· ≤ l)).length

/-- Insert into a list in rising order. -/
def insertRat (x : Rat) : List Rat → List Rat
  | [] => [x]
  | y :: ys => if x ≤ y then x :: y :: ys else y :: insertRat x ys

/-- The level to which equal amounts fill rooms given in rising order. -/
def fillLevel (rest : Rat) : List Rat → Rat
  | [] => 0
  | x :: xs => if rest ≤ x * ((xs.length + 1 : Nat) : Rat) then rest / ((xs.length + 1 : Nat) : Rat) else fillLevel (rest - x) xs

/-- Fill rooms equally, each up to its bound. -/
def fill (rest : Rat) (rooms : List Rat) : List Rat :=
  let l := fillLevel rest (rooms.foldr insertRat [])
  let whole := rooms.foldl (· + ·) 0 ≤ rest
  rooms.map fun x => if whole then x else min x l

/-- Powers of a column's stacks at equal incremental losses (R129): every stack takes what lies below the common incremental loss, the
rest is spread equally over those whose curves have that very slope (log 50). -/
def split (rows : List Row) (v : Nat) (p : Rat) : List Rat :=
  let cap (r : Row) : Rat := mkRat (r.ceiling v * v) 100
  let upTo (l : Int) (r : Row) : Rat := min (cap r) ((powerUpTo r.curve l : Nat) : Rat)
  let below (l : Int) (r : Row) : Rat := min (cap r) ((powerBelow r.curve l : Nat) : Rat)
  let ls := ((rows.flatMap fun r => slopes r.curve).map fun (l : Int) => (l : Rat)).foldr insertRat []
  match ls.find? fun l => p ≤ (rows.map (upTo l.floor)).foldl (· + ·) 0 with
  | none => rows.map cap
  | some l =>
    let low := rows.map (below l.floor)
    let room := rows.map fun r => upTo l.floor r - below l.floor r
    List.zipWith (· + ·) low (fill (p - low.foldl (· + ·) 0) room)

/-- Loss of a stack at an output power, W. -/
def Row.loss (r : Row) (p : Rat) : Rat := curveLoss r.curve (p * 100).floor.toNat

/-- What the stacks of a column can carry. -/
def reach (rows : List Row) (v : Nat) : Nat := (rows.map (·.ceiling v)).foldl (· + ·) 0

/-- Output powers of a column's stacks at a current. -/
def outputs (rows : List Row) (v i : Nat) : List Rat := split rows v (mkRat (min i (reach rows v) * v) 100)

/-- AC input power of a column's stacks at a current (R126, R149). -/
def inputPower (rows : List Row) (v i : Nat) : Rat :=
  (List.zipWith (fun r p => p + r.loss p) rows (outputs rows v i)).foldl (· + ·) 0

/-- AC power that a column's stacks return when the outlet exports a current (R151). -/
def returnPower (rows : List Row) (v i : Nat) : Rat :=
  (List.zipWith (fun r p => p - r.loss p) rows (outputs rows v i)).foldl (· + ·) 0

/-! ### Serving the outlets within the caps (R126, R149, R151) -/

/-- A target: the column of each row of the snapshot, 0 none. -/
abbrev Target := List Nat

/-- The rows that a target places in a column. -/
def Snap.inCol (w : Snap) (t : Target) (c : Nat) : List Row := ((w.rows.zip t).filter fun x => x.2 == c && c != 0).map (·.1)

/-- The largest n up to 100,000 for which a condition that fails once fails ever after. -/
def bisect (ok : Nat → Bool) : Nat → Nat → Nat → Nat
  | 0, lo, _ => lo
  | k + 1, lo, hi => if hi ≤ lo + 1 then lo else
    let m := (lo + hi) / 2
    if ok m then bisect ok k m hi else bisect ok k lo m

/-- A current scaled by n / 100,000 and rounded down to 1 A (R126). -/
def scaled (i n : Nat) : Nat := i * n / 100000 / 10 * 10

/-- The input power that a target draws for currents of some columns. -/
def Snap.drawOf (w : Snap) (t : Target) (is : List (Nat × Nat)) : Rat :=
  (is.map fun x => inputPower (w.inCol t x.1) (w.col x.1).v x.2).foldl (· + ·) 0

/-- I_EXPORT_MAX of every exporting column: one common factor keeps the returned power within the export cap (R151). -/
def Snap.exports (w : Snap) (t : Target) : List (Nat × Nat) :=
  let cs := w.cols.filter fun c => c.needs && c.back != 0
  let at_ (n : Nat) : List (Nat × Nat) := cs.map fun c => (c.col, scaled (min c.back (reach (w.inCol t c.col) c.v)) n)
  let back (is : List (Nat × Nat)) : Rat := (is.map fun x => returnPower (w.inCol t x.1) (w.col x.1).v x.2).foldl (· + ·) 0
  if w.exportCap ≤ 0 then cs.map fun c => (c.col, 0)
  else if back (at_ 100000) ≤ w.exportCap then at_ 100000
  else at_ (bisect (fun n => back (at_ n) ≤ w.exportCap) 17 0 100000)

def served (is : List (Nat × Nat)) (c : Nat) : Nat := ((is.find? (·.1 == c)).map (·.2)).getD 0

/-- The current that each column is planned to export under a target: what its outlet asks to return, within its I_EXPORT_MAX. -/
def Snap.gives (w : Snap) (t : Target) : List (Nat × Nat) :=
  let es := w.exports t
  (w.cols.filter fun c => c.needs && c.give != 0).map fun c => (c.col, min c.give (served es c.col))

/-- The AC power that a target returns, which counts negative in the sum that the import cap bounds (R149). -/
def Snap.returned (w : Snap) (t : Target) : Rat :=
  ((w.gives t).map fun x => returnPower (w.inCol t x.1) (w.col x.1).v x.2).foldl (· + ·) 0

/-- Serve the classes in order (R126): in full while the cap allows, then one class by a common factor, then none. -/
def Snap.serveClasses (w : Snap) (t : Target) : List Nat → Rat → List (Nat × Nat)
  | [], _ => []
  | k :: ks, rest =>
    let cs := w.cols.filter fun c => c.needs && c.prio == k
    let at_ (n : Nat) : List (Nat × Nat) := cs.map fun c => (c.col, scaled c.want n)
    let full := w.drawOf t (at_ 100000)
    if full ≤ rest then at_ 100000 ++ w.serveClasses t ks (rest - full)
    else at_ (bisect (fun n => w.drawOf t (at_ n) ≤ rest) 17 0 100000) ++ (ks.flatMap fun k' =>
      (w.cols.filter fun c => c.needs && c.prio == k').map fun c => (c.col, 0))

/-- The current that each outlet is to carry under a target (R126, R149). -/
def Snap.serve (w : Snap) (t : Target) : List (Nat × Nat) := w.serveClasses t [0, 1, 2, 3] (w.importCap + w.returned t)

/-- The cap of R148 holds a planned current down. -/
def Snap.capBound (w : Snap) (is : List (Nat × Nat)) : Bool := w.cols.any fun c => c.needs && served is c.col < scaled c.want 100000

/-- The export that a column's stacks must be able to carry: what its outlet asks for, scaled by one factor to the export cap (R151). -/
def Snap.giveNeed (w : Snap) (c : Col) : Nat :=
  let sum : Nat := (w.cols.map fun x => if x.needs then x.give * x.v else 0).foldl (· + ·) 0
  if !c.needs || w.exportCap ≤ 0 || sum == 0 then 0
  else scaled c.give (min 100000 (w.exportCap * 10000000 / (sum : Rat)).floor.toNat)

/-! ### Cost and choice (R127, R128, R161, R162) -/

def maxR (a b : Rat) : Rat := if a ≤ b then b else a
def ratSum (l : List Rat) : Rat := l.foldl (· + ·) 0

/-- Cross-point operations that bring a row from one column to another (R127). -/
def opsBetween (here goal : Nat) : Nat := if here == goal then 0 else (if here == 0 then 0 else 1) + (if goal == 0 then 0 else 1)

/-- The cost of a target against where the rows stand (R127): operations at zero current, starts, and H of running. -/
def Snap.cost (w : Snap) (t : Target) : Rat :=
  let is := w.serve t
  let gs := w.gives t
  let running := w.cols.flatMap fun c => List.zip (w.inCol t c.col) (outputs (w.inCol t c.col) c.v (max (served is c.col) (served gs c.col)))
  let age (r : Row) : Rat := 1 + 4 * mkRat r.lifeUsed 65536
  let efficiency := ratSum (running.map fun x => x.1.loss x.2 / 1000) * w.hours * w.tw
  let ops := ratSum ((w.rows.zip t).map fun x =>
    ((opsBetween x.1.stand.col x.2 : Nat) : Rat) * w.wWear * (1 + 3 * mkRat x.1.xpWear 65536))
  let damage := ratSum (running.map fun x => w.wDamage * age x.1 * x.2 / 1200000) * w.hours
  let starts := ratSum ((w.rows.zip t).map fun x =>
    if x.2 != 0 && x.1.stand.col == 0 then w.wDamage * age x.1 * mkRat 1 100 else 0)
  let credit := ratSum (w.cols.map fun c =>
    let i : Rat := (min (served is c.col) (reach (w.inCol t c.col) c.v) : Nat)
    w.wCredit * maxR 0 (i - (c.iSust : Rat)) / maxR 1 (maxR (c.iSust : Rat) (mkRat c.rating 10)) * w.hours)
  let planned := ratSum (w.cols.map fun c => inputPower (w.inCol t c.col) c.v (served is c.col)) - w.returned t
  let percent : Rat := if w.eLimit ≤ 0 then 0 else 100 * (w.eInt + planned * w.tLeft) / w.eLimit
  efficiency + ops + damage + starts + credit + w.wHeadroom * maxR 0 (percent - (w.hr : Rat))

/-- What a target leaves unserved, by priority class; a column in phase 2 or 3 without a stack counts its whole current. -/
def Snap.shortfall (w : Snap) (t : Target) : List Nat :=
  let is := w.serve t
  (List.range 4).map fun k => ((w.cols.filter fun c => c.needs && c.prio == k).map fun c =>
    let rs := w.inCol t c.col
    let need := max (served is c.col) (w.giveNeed c)
    if c.single && rs == [] then 500 else need - min need (reach rs c.v)).foldl (· + ·) 0

/-- The columns that a target may give a row (R19, R21, R122, R141, R161, R162). A held assignment leaves every row where it stands. A pin
binds while its column needs a stack; in a column that needs one alone it does so together with the column's other pins (`pinsMet`). -/
def Snap.options (w : Snap) (r : Row) : List Nat :=
  let here := r.stand.col
  let open_ := (w.cols.filter fun c => c.needs && c.age == .fresh && r.cols.contains c.col).map (·.col)
  match r.stand with
  | .lost => [0]
  | .asleep => [0]
  | _ =>
    if r.age == .frozen || (here != 0 && (w.col here).age == .frozen) then [here]
    else if w.hold then [here]
    else if r.excluded || !r.available then [0]
    else match r.pin with
      | some p => if !open_.contains p then 0 :: open_ else if (w.col p).single then p :: 0 :: open_.filter (· != p) else [p]
      | none => 0 :: open_

/-- Every combination of the rows' options. -/
def combine : List (List Nat) → List Target
  | [] => [[]]
  | os :: rest => os.flatMap fun o => (combine rest).map fun t => o :: t

/-- Rows that can stand nowhere else than in a column: frozen there or held there (R122, R162). -/
def Snap.stuck (w : Snap) (c : Nat) : List Row := w.rows.filter fun r => r.stand.col == c && (w.options r == [c])

/-- A column in phase 2 or 3 has at most one stack beside none that is stuck there (R125). -/
def Snap.alone (w : Snap) (t : Target) (c : Col) : Bool :=
  !c.single || (w.inCol t c.col).length ≤ max 1 (w.stuck c.col).length

/-- A column in phase 2 or 3 to which rows are pinned has one of them, unless a row is stuck there (R161). -/
def Snap.pinsMet (w : Snap) (t : Target) (c : Col) : Bool :=
  let pinned := w.rows.filter fun r => (w.options r).head? == some c.col && 1 < (w.options r).length
  !c.single || pinned == [] || w.stuck c.col != [] || (w.inCol t c.col).any pinned.contains

/-- A target keeps to the limit of phases 2 and 3 and to the pins there. -/
def Snap.fits (w : Snap) (t : Target) : Bool := w.cols.all fun c => w.alone t c && w.pinsMet t c

/-- Every target that meets the limits, pins and forbids. -/
def Snap.targets (w : Snap) : List Target := (combine (w.rows.map w.options)).filter w.fits

def lexLess : List Nat → List Nat → Bool
  | x :: xs, y :: ys => x < y || (x == y && lexLess xs ys)
  | _, _ => false

/-- Is target a to be preferred to b: it serves more, class 0 first, or as much at less cost? -/
def Snap.better (w : Snap) (a b : Target) : Bool :=
  let x := w.shortfall a
  let y := w.shortfall b
  lexLess x y || (x == y && w.cost a < w.cost b)

/-- The best of some targets; the earlier of equal ones (log 50). -/
def Snap.best (w : Snap) (ts : List Target) : Target :=
  match ts with
  | [] => w.rows.map fun _ => 0
  | t :: rest => rest.foldl (fun b x => if w.better x b then x else b) t

/-- The present assignment, less what a limit, a loss, a phase or a pin requires to go. -/
def Snap.keep (w : Snap) : Target := w.rows.map fun r =>
  let here := r.stand.col
  if (w.options r).contains here then here else (w.options r).headD 0

/-- Cross-point operations that a target makes. -/
def Snap.ops (w : Snap) (t : Target) : Nat := ((w.rows.zip t).map fun x => opsBetween x.1.stand.col x.2).foldl (· + ·) 0

/-- Of targets that serve as much as the best one, the cheapest of those with the fewest operations: the operations that a limit, a loss,
a phase or a pin requires (R128). -/
def Snap.required (w : Snap) (ts : List Target) (b : Target) : Target :=
  let same := ts.filter fun t => w.shortfall t == w.shortfall b
  let n := same.foldl (fun m t => min m (w.ops t)) (w.ops b)
  w.best (same.filter fun t => w.ops t == n)

/-- The target that the Marker takes of some (R127, R128): operations that nothing requires must gain MIN_GAIN. -/
def Snap.choose (w : Snap) (ts : List Target) : Target :=
  let b := w.best ts
  let r := w.required ts b
  if w.ops r < w.ops b && w.cost r < w.cost b + w.minGain then r else b

/-! ### A step (R131, R133, R134, R141 to R145) -/

/-- The rows that carry a column in this step: connected, staying, or unable to leave yet since the others cannot carry the present
I_MAX. -/
def Snap.carriers (w : Snap) (t : Target) (c : Nat) : List Row :=
  let on := (w.rows.zip t).filter fun x => match x.1.stand with
    | .on d _ => d == c
    | _ => false
  let stay := (on.filter fun x => x.2 == c).map (·.1)
  let enough := max (w.col c).was (w.giveNeed (w.col c)) ≤ reach stay (w.col c).v
  (on.filter fun x => x.2 == c || (!enough && !w.mustLeave x.1 c)).map (·.1)

/-- Shares of 1/32,768 that sum to 32,768, in the ratio of some powers; what rounding leaves goes to the first ones. -/
def shares (ps : List Rat) : List Nat :=
  let sum := ratSum ps
  if sum ≤ 0 then [] else
  let fl := ps.map fun p => (p * 32768 / sum).floor.toNat
  let left := 32768 - fl.foldl (· + ·) 0
  (List.range fl.length).map fun i => fl.getD i 0 + (if i < left then 1 else 0)

/-- The shares of a column's carriers, by row, at the current that the plan lets it carry, or at the export that its outlet asks for. -/
def Snap.sharesOf (w : Snap) (t : Target) (i c : Nat) : List (Nat × Nat) :=
  let rs := w.carriers t c
  (rs.map (·.row)).zip (shares (outputs rs (w.col c).v (max (max i 1) (w.giveNeed (w.col c)))))

/-- The lead of a column (R129): the present one while it carries; else the largest share, the lower row on a tie; before any stack
carries, the connecting one. -/
def Snap.lead (w : Snap) (t : Target) (i c : Nat) : Nat :=
  let sh := w.sharesOf t i c
  match (w.carriers t c).find? (·.entry.lead) with
  | some r => r.row
  | none =>
    if sh != [] then (sh.foldl (fun (b : Nat × Nat) x => if b.2 < x.2 then x else b) (0, 0)).1
    else
      let cs := (w.rows.zip t).filter fun x => match x.1.stand with
        | .connecting d => d == c
        | .idle => x.2 == c
        | _ => false
      ((cs.find? fun x => x.1.entry.lead && x.1.entry.col == c) <|> cs.head?).elim 0 (·.1.row)

/-- I_MAX of a column in this step (R126, R122): the served current within what the carriers can carry. -/
def Snap.iMax (w : Snap) (t : Target) (is : List (Nat × Nat)) (c : Nat) : Nat :=
  let k := w.col c
  if k.age == .frozen then k.was
  else if !k.needs then 0
  else min (served is c) (reach (w.carriers t c) k.v)

/-- The entry of a row (R133). -/
def Snap.entry (w : Snap) (t : Target) (is : List (Nat × Nat)) (r : Row) (goal : Nat) : StackEntry :=
  let base : StackEntry := { row := r.row, pCap := r.pCap, ceiling := r.ceiling 0 }
  let inCol (c mode sf st : Nat) : StackEntry :=
    { base with col := c, mode := mode, shareFrom := sf, shareTo := st, ceiling := r.ceiling (w.col c).v,
                lead := mode != 5 && w.lead t (w.iMax t is c) c == r.row }
  match r.stand with
  | .lost => base
  | .asleep => { base with mode := 1 }
  | .blocked => base
  | .idle => if goal != 0 && r.available && r.age == .fresh then inCol goal 2 0 0 else base
  | .connecting c => if r.available then inCol c 2 0 0 else base
  | .on c share =>
    if (w.carriers t c).any (·.row == r.row) then
      let st := ((w.sharesOf t (w.iMax t is c) c).find? (·.1 == r.row)).elim share (·.2)
      if r.age == .frozen || (w.col c).age == .frozen then inCol c 3 share share
      else inCol c (if st == share then 3 else 4) share st
    else inCol c 5 share 0
  | .leaving c => if r.releaseFail && 3 ≤ r.renewals then base else inCol c 5 0 0

/-- The entry of a column (R134); I_FORECAST is put in from the later steps. -/
def Snap.outletEntry (w : Snap) (t : Target) (is es : List (Nat × Nat)) (c : Col) : OutletEntry :=
  let i := w.iMax t is c.col
  let back := min (served es c.col) (reach (w.carriers t c.col) c.v)
  { col := c.col, planned := !c.excluded, exportAllowed := back != 0
    stackCount := ((w.rows.zip t).filter fun x => match x.1.stand with
      | .on d _ => d == c.col
      | _ => false).length
    iMax := i, iExportMax := back, pMax := min c.pMax ((i * c.v + 99999) / 100000) }

/-- One step: its entries. -/
structure Step where
  stackEntries : List StackEntry := []
  outlets : List OutletEntry := []
deriving DecidableEq, Repr, Inhabited

def Snap.step (w : Snap) (t : Target) : Step :=
  let is := w.serve t
  let es := w.exports t
  { stackEntries := (w.rows.zip t).map fun x => w.entry t is x.1 x.2, outlets := w.cols.map fun c => w.outletEntry t is es c }

/-! ### Run-ahead (R123, R130, R142, R144) -/

/-- A row as the snapshot at `snap` will show it after an entry applied at `at_`: sequences advance by their declared times; what a
report sampled 3 ms before the snapshot shows is seen. -/
def Row.after (r : Row) (e : StackEntry) (at_ snap rampMs : Nat) : Row :=
  let since := if r.entry.mode == e.mode && r.entry.col == e.col then r.since else at_
  let seen (ns : Nat) : Bool := since + ns + 3000000 ≤ snap
  let up := seen ((6 + r.closeMs) * 1000000)
  let down := seen (rampMs * 1000000 + 1500000 + r.openMs * 1000000)
  let r' : Row := { r with entry := e, since := since }
  if e.mode == 2 then { r' with ready := up, closed := if up then e.col else 0 }
  else if e.mode == 5 then { r' with ready := false, closed := if down then 0 else e.col }
  else r'

/-- The snapshot of the next step. -/
def Snap.after (w : Snap) (s : Step) (at_ : Nat) : Snap :=
  { w with
    rows := w.rows.map fun r => match s.stackEntries.find? (·.row == r.row) with
      | some e => r.after e at_ at_ w.rampMs
      | none => r
    cols := w.cols.map fun c => match s.outlets.find? (·.col == c.col) with
      | some e => { c with was := e.iMax }
      | none => c }

/-- Steps from one that applies at `at_`, n of them. -/
def steps (t : Target) : Nat → Snap → Nat → List Step
  | 0, _, _ => []
  | n + 1, w, at_ =>
    let s := w.step t
    s :: steps t n (w.after s at_) (at_ + 10000000)

end Sys2Proof.Machine.Plan
end

