-- ==== Sys2Proof/Machine/Marker.lean ====
section
/-!
DEFINITION. Machine/Marker.lean: the Marker of the site pair (chapter 05): reports, the snapshot, the solve and its plan, Lull placement,
duties, curtailment and hold.
-/
namespace Sys2Proof.Machine
open Sys2Proof

/-! ### Reports at the site pair (R118 to R122, R130, R143) -/

/-- A report reaches a unit of the site pair. -/
def State.siteListens (s : State) : Bool := s.kind == .site && !s.inLull

/-- The change of a stack's E_IN from one report to the next, Wh: a wrapping count of 32 bits that falls while the stack exports. A change
that no stack can have made in the time between the reports is another unit's count, and adds nothing (log 102). -/
def energyStep (was now span : Nat) : Int :=
  let d := signedOf 32 ((now + 2 ^ 32 - was % 2 ^ 32) % 2 ^ 32)
  if d.natAbs ≤ span / 2000000 + 1 then d else 0

/-- A STACK_STATUS is kept, with what it changes: AVAILABLE, the energy of the running interval (R148); its units count as awake. -/
def State.storeReport (s : State) (time : Nat) (r : StackStatus) (old : Option (Nat × StackStatus)) : State :=
  let no := s.met.tot.int.no
  let units := (s.pat.content.roles.filter fun d => d.kind == .stack && d.rowCol == r.row).flatMap s.unitsOf
  let s : State := if s.mrk.intNo == no then s else { s with mrk.intNo := no, mrk.eInt := 0 }
  let d : Int := match old with
    | some (t, was) => energyStep was.eIn r.eIn (time - t)
    | none => 0
  ({ s with mrk.stackRep := SMap.set (fun _ => none) r.row (some (time, r)) s.mrk.stackRep, mrk.eInt := s.mrk.eInt + d
            mrk.waking := s.mrk.waking.filter fun w => !(units.contains w.1 && w.2 < time) } : State).wrb
    (F.MRK_STACK_STATE_AVAILABLE r.row) r.available

/-- A cross-point whose CONNECT failed is not planned through for 60 s (R143). -/
def State.quarantine (s : State) (row col : Nat) : State :=
  if s.mrk.quarantine.contains (row, col) then s else
  ({ s with mrk.quarantine := (row, col) :: s.mrk.quarantine } : State).wrb (F.MRK_STACK_STATE_QUARANTINE row) true

/-- A STACK_STATUS arrives: CONNECT_FAIL of the CONNECT that the stack's applied entry asked for puts the cross-point in quarantine; it,
RELEASE_FAIL and the loss of AVAILABLE end the run-ahead (R130, R143). -/
def State.stackReport (s : State) (time : Nat) (r : StackStatus) : State :=
  if !s.siteListens || r.row == 0 || 32 < r.row then s else
  let old : Option (Nat × StackStatus) := SMap.get (fun _ => none) s.mrk.stackRep r.row
  let was : StackStatus := (old.map (·.2)).getD {}
  let s := s.storeReport time r old
  let tried := s.mrk.applied.stackEntries.find? fun e => e.row == r.row && e.mode == 2
  let failed := match tried with
    | some e => r.connectFail && !s.mrk.quarantine.contains (r.row, e.col)
    | none => false
  let ends := (was.available && !r.available) || (r.releaseFail && !was.releaseFail) || (r.connectFail && !was.connectFail) || failed
  let s : State := { s with mrk.invalid := s.mrk.invalid || ends }
  match tried with
  | some e => if failed then s.quarantine r.row e.col else s
  | none => s

/-- STACK_STATUS_RECEIVE (R119). -/
def execStackStatusReceive (time : Nat) (report : StackStatus) (s : State) : Out := .next (s.stackReport time report)

/-- STACK_CURVE_RECEIVE (R120): V_BAND, then LOSS[0] to LOSS[8]. -/
def State.curveReport (s : State) (time row : Nat) (curve : List Nat) : State :=
  if !s.siteListens || row == 0 || 32 < row then s else
  { s with mrk.curves := SMap.set (fun _ => none) row (some (time, curve)) s.mrk.curves }

def execStackCurveReceive (time row : Nat) (curve : List Nat) (s : State) : Out := .next (s.curveReport time row curve)

/-- OUTLET_STATUS_RECEIVE (R121): stored; a change of phase ends the run-ahead (R130). -/
def State.outletReport (s : State) (time : Nat) (r : OutletStatus) : State :=
  if !s.siteListens || r.col == 0 || 16 < r.col then s else
  let old : Option (Nat × OutletStatus) := SMap.get (fun _ => none) s.mrk.outletRep r.col
  let changed : Bool := match old with
    | some (_, o) => o.phase != r.phase
    | none => true
  { s with mrk.outletRep := SMap.set (fun _ => none) r.col (some (time, r)) s.mrk.outletRep
           mrk.invalid := s.mrk.invalid || changed }

def execOutletStatusReceive (time : Nat) (report : OutletStatus) (s : State) : Out := .next (s.outletReport time report)

/-- 60 s after CONNECT_FAIL (R143). -/
def State.endQuarantine (s : State) (row col : Nat) : State :=
  let s : State := { s with mrk.quarantine := s.mrk.quarantine.filter (· != (row, col)) }
  if s.mrk.quarantine.any (·.1 == row) || 32 < row || row == 0 then s else s.wrb (F.MRK_STACK_STATE_QUARANTINE row) false

/-- QUARANTINE_END (R143). -/
def execQuarantineEnd (row col : Nat) (s : State) : Out := .next (s.endQuarantine row col)

/-! ### The caps (R147, R148, R150) -/

/-- No curtailment. -/
def noCurtail : Nat := 0xFFFFFF

/-- The demand limit in force, kW (R147). -/
def State.demandLimit (s : State) : Nat := min (s.rd (F.MRK_DEMAND_LIMIT_KW s.met.tot.tariff)) (s.rd F.MRK_GRID_CAP_KW)

/-- A grid meter is declared: a pulse input of its function (R148, R326). -/
def State.gridDeclared (s : State) : Bool := (List.range 8).any fun i => s.rd (F.MET_PI_CFG_FUNCTION i) == 1

/-- The sum of the stacks' P_IN as last reported, kW. -/
def State.pInSum (s : State) : Int := (s.mrk.stackRep.map fun e => match e.2 with
  | some (_, r) => r.pIn
  | none => 0).foldl (· + ·) 0

/-- The same over the last 10 s (R148). -/
def State.pInMean (s : State) : Rat :=
  if s.mrk.pInSums == [] then (s.pInSum : Rat) else mkRat (s.mrk.pInSums.foldl (· + ·) 0) s.mrk.pInSums.length

/-- Grid meter power over the last 10 s, kW, by its pulses (R148). -/
def State.gridPower (s : State) (t0 : Nat) : Rat :=
  mkRat (((s.mrk.gridPulses.filter fun p => t0 < p.1 + 10000000000).map (·.2)).foldl (· + ·) 0 * 360 : Nat) 1000000

/-- The grid meter's pulses are stale: none for 10 s while the stacks import more than 10 % of the demand limit (R122). -/
def State.gridStale (s : State) (t0 : Nat) : Bool :=
  s.gridDeclared && !(s.mrk.gridPulses.any fun p => t0 < p.1 + 10000000000) && (s.demandLimit : Rat) < 10 * s.pInMean

/-- The age of the demand interval's state, ns, at a time. -/
def State.intAge (s : State) (t0 : Nat) : Nat := t0 - s.mrk.intAt

/-- E_int, Wh: from the partition where a grid meter is declared, else summed from E_IN (R148); past 5 s an import at MRK_GRID_CAP is
assumed from the last value (R122). -/
def State.energyInt (s : State) (t0 : Nat) : Rat :=
  let e : Rat := if s.gridDeclared then mkRat s.mrk.intHeld.imp (65536 * 3600000) else (s.mrk.eInt : Rat)
  if 5000000000 < s.intAge t0 then e + mkRat (s.rd F.MRK_GRID_CAP_KW * s.intAge t0 : Nat) 3600000000 else e

/-- T_left, hours (R148). -/
def State.timeLeft (s : State) (t0 : Nat) : Rat :=
  let i := s.mrk.intHeld
  mkRat (i.start + i.len - (s.mrk.ledgerHeld + s.intAge t0 / 125000) : Nat) (8000 * 3600)

/-- P_other, kW (R148): what the grid meter shows beyond the stacks over the last 10 s; stale pulses are replaced by the stacks' sum
(R122). -/
def State.powerOther (s : State) (t0 : Nat) : Rat :=
  if !s.gridDeclared || s.gridStale t0 then 0 else Plan.maxR 0 (s.gridPower t0 - s.pInMean)

/-- P_H, kW, while a demand interval runs (R148). -/
def State.headroom (s : State) (t0 : Nat) : Option Rat :=
  if s.mrk.intHeld.len == 0 then none else
  let t : Rat := mkRat s.mrk.intHeld.len (8000 * 3600)
  some (((s.demandLimit : Rat) * 1000 * t - s.energyInt t0) / Plan.maxR (s.timeLeft t0) (mkRat 1 60) / 1000 - s.powerOther t0)

/-- The curtailment of R150, where there is one. -/
def State.capCurtail (s : State) : Option Rat := if s.rd F.MRK_CURTAIL_KW == noCurtail then none else some (s.rd F.MRK_CURTAIL_KW : Nat)

/-- The import cap, kW (R148). -/
def State.importCap (s : State) (t0 : Nat) : Rat :=
  let low (a : Rat) (b : Option Rat) : Rat := match b with
    | some x => min a x
    | none => a
  Plan.maxR 0 (low (low (s.rd F.MRK_GRID_CAP_KW : Nat) s.capCurtail) (s.headroom t0))

/-- A cap is the lowest of the three. -/
def State.bindsCap (s : State) (t0 : Nat) (c : Option Rat) : Bool := match c with
  | some x => Plan.maxR 0 x ≤ s.importCap t0
  | none => false

/-- CURTAILED and DEMAND_BOUND of the active site unit (R148, R150). -/
def State.showCaps (s : State) : State :=
  if s.kind != .site || !s.active then s else
  (s.wrb F.MRK_STATUS_CURTAILED (s.bindsCap s.now s.capCurtail)).wrb F.MRK_STATUS_DEMAND_BOUND (s.bindsCap s.now (s.headroom s.now))

/-! ### Curtailment, hold and replan (R117, R130, R150, R162) -/

/-- MRK_CTRL and MRK_CURTAIL. -/
def mrkCtrlAddr : Nat := 0x4008
def curtailAddr : Nat := 0x402C

/-- A write of MRK_CURTAIL starts the curtailment and its hold (R150). -/
def State.curtail (s : State) (kw : Nat) : State :=
  ({ s.wr F.MRK_CURTAIL_KW kw with mrk.curtailAt := s.now } : State).showCaps.sendPlanning

/-- CURTAIL_WRITE (R150); a standby site unit refuses it with STATE (R117). -/
def State.curtailWrite (s : State) (side v : Nat) : State :=
  if s.lullBlocks curtailAddr then s.accessError side eLull curtailAddr
  else if 0xFFFFFF < v then s.accessError side eReserved curtailAddr
  else if s.kind == .site && !s.active then s.accessError side eState curtailAddr
  else (s.accepted side).curtail v

def execCurtailWrite (side : Side) (value : BitVec 32) (s : State) : Out := .next (s.curtailWrite side value.toNat)

/-- The curtailment lapses (R150); with HOLD 0 it lasts. -/
def State.curtailLapse (s : State) : State :=
  if s.rd F.MRK_CURTAIL_HOLD_HOLD == 0 then s else
  (s.wr F.MRK_CURTAIL_KW noCurtail).showCaps.sendPlanning

/-- CURTAIL_LAPSE (R150). -/
def execCurtailLapse (s : State) : Out := .next s.curtailLapse

/-- A command of MRK_CTRL; a standby site unit refuses it (R117, R165). -/
def State.mrkCommand (s : State) (side key : Nat) (f : State → State) : State :=
  s.command side mrkCtrlAddr key 0x2B6E fun s => if s.kind == .site && !s.active then s.accessError side eState mrkCtrlAddr else f s

/-- HOLD_ON, HOLD_OFF (R162). -/
def State.freeze (s : State) (on : Bool) : State := s.wrb F.MRK_STATUS_HOLD on

def execMrkHoldOn (side : Side) (key : BitVec 16) (s : State) : Out := .next (s.mrkCommand side key.toNat fun s => s.freeze true)

def execMrkHoldOff (side : Side) (key : BitVec 16) (s : State) : Out := .next (s.mrkCommand side key.toNat fun s => s.freeze false)

/-- REPLAN (R130): the run-ahead is dropped. -/
def State.replan (s : State) : State := { s with mrk.invalid := true }

def execMrkReplan (side : Side) (key : BitVec 16) (s : State) : Out := .next (s.mrkCommand side key.toNat fun s => s.replan)

/-! ### The snapshot (R22, R122, R125, R143, R147 to R151, R161) -/

/-- Put a role in its place by row or column. -/
def insertRole (x : RoleDecl) : List RoleDecl → List RoleDecl
  | [] => [x]
  | y :: ys => if x.rowCol ≤ y.rowCol then x :: y :: ys else y :: insertRole x ys

/-- The roles of stacks and outlets that the pattern declares, by rising row and column. -/
def State.stackRoles (s : State) : List RoleDecl :=
  (s.pat.content.roles.filter fun r => r.kind == .stack && r.rowCol != 0).foldr insertRole []
def State.outletRoles (s : State) : List RoleDecl :=
  (s.pat.content.roles.filter fun r => r.kind == .outlet && r.rowCol != 0).foldr insertRole []

/-- How old a report of a time is at the snapshot (R122). -/
def ageAt (t0 t : Nat) : Plan.Age :=
  if t + 100000000 < t0 then .lost else if t + 30000000 < t0 then .frozen else .fresh

/-- The role is in Lull by the Marker's placement and not being woken (R154, R155). -/
def State.roleAsleep (s : State) (r : RoleDecl) : Bool :=
  (s.unitsOf r).any fun a => s.mrk.lullUnits.contains a && !s.mrk.waking.any fun w => w.1 == a

/-- The role is being woken: the Marker counts on it (R155). -/
def State.roleWaking (s : State) (r : RoleDecl) : Bool := (s.unitsOf r).any fun a => s.mrk.waking.any fun w => w.1 == a

/-- The TOPOLOGY digest that a unit reported when it joined; none where this unit has not heard it. -/
def State.toldDigest (s : State) (a : Nat) : Option (List Nat) :=
  let d := SMap.get (fun _ => []) s.trg.digests a
  if d == [] then none else some d

/-- An update is under way: some joined unit reported another TOPOLOGY (R37). -/
def State.updateShows (s : State) : Bool :=
  ((List.range 97).drop 1).any fun a => s.member a && (s.toldDigest a).any fun d => d != s.topologyDigest

/-- The running images of the row's units declare what the Marker's own does (R37): each reported the same TOPOLOGY; a unit whose report
this unit has not heard counts as the same only while no update shows (log 100). -/
def State.sameTopology (s : State) (r : RoleDecl) : Bool := (s.unitsOf r).all fun a => match s.toldDigest a with
  | some d => d == s.topologyDigest
  | none => a == s.addr || !s.updateShows

/-- The columns that a row may be planned to (R19, R37, R143, R161). -/
def State.rowCols (s : State) (r : RoleDecl) : List Nat :=
  if !s.sameTopology r then [] else
  (s.pat.content.crossPoints.filter fun x => x.1 == r.rowCol && 1 ≤ x.2 && x.2 ≤ 16 &&
    !bit (s.rd (F.MRK_OUT_FORBID x.2)) (r.rowCol - 1) && !s.mrk.quarantine.contains x).map (·.2)

/-- A pin that names an unfitted or forbidden cross-point (R161). -/
def State.pinErr (s : State) (r : RoleDecl) : Bool :=
  let c := s.rd (F.MRK_STACK_CFG_PIN_COL r.rowCol)
  s.rdb (F.MRK_STACK_CFG_PIN r.rowCol) && (!s.pat.content.crossPoints.contains (r.rowCol, c) || bit (s.rd (F.MRK_OUT_FORBID c)) (r.rowCol - 1))

/-- A row of the snapshot. -/
def State.snapRow (s : State) (t0 : Nat) (r : RoleDecl) : Plan.Row :=
  let rep : Option (Nat × StackStatus) := SMap.get (fun _ => none) s.mrk.stackRep r.rowCol
  let st : StackStatus := (rep.map (·.2)).getD {}
  let age : Plan.Age := match rep with
    | some (t, _) => if (s.unitsOf r).any s.member then ageAt t0 t else .lost
    | none => .lost
  let curve : List Nat := match SMap.get (fun _ => none) s.mrk.curves r.rowCol with
    | some (t, c) => if t + 600000000000 < t0 then s.pat.content.sitePlan.defaultCurve else c
    | none => s.pat.content.sitePlan.defaultCurve
  { row := r.rowCol, age := age, available := st.available, connectFail := st.connectFail, releaseFail := st.releaseFail
    ready := st.ready, closed := st.closed, lifeUsed := st.lifeUsed, xpWear := st.xpWear, curve := curve
    entry := (s.mrk.committed.stackEntries.find? (·.row == r.rowCol)).getD { row := r.rowCol }
    since := SMap.get (fun _ => 0) s.mrk.seqSince r.rowCol, renewals := SMap.get (fun _ => 0) s.mrk.renewals r.rowCol
    cols := s.rowCols r, excluded := s.rdb (F.MRK_STACK_CFG_EXCLUDE r.rowCol)
    pin := if s.rdb (F.MRK_STACK_CFG_PIN r.rowCol) && !s.pinErr r then some (s.rd (F.MRK_STACK_CFG_PIN_COL r.rowCol)) else none
    pCap := s.rd (F.MRK_STACK_CFG_P_CAP r.rowCol), asleep := s.roleAsleep r, closeMs := r.closeTime, openMs := r.openTime }

/-- The Marker may grant an outlet export (R151). -/
def State.mayExport (s : State) (o : OutletStatus) (col : Nat) : Bool :=
  o.phase == 4 && o.wantsExport && s.rdb (F.MRK_OUT_CFG_EXPORT_EN col) && s.rd F.MRK_EXPORT_CAP_KW != 0

/-- A column of the snapshot, with the feasible current of R125 and the current it may export (R151). -/
def State.snapCol (s : State) (t0 : Nat) (r : RoleDecl) : Plan.Col :=
  let rep : Option (Nat × OutletStatus) := SMap.get (fun _ => none) s.mrk.outletRep r.rowCol
  let o : OutletStatus := (rep.map (·.2)).getD {}
  let age : Plan.Age := match rep with
    | some (t, _) => ageAt t0 t
    | none => .lost
  let early := o.phase == 2 || o.phase == 3
  let v := if early then o.vReq else o.vPresent
  let byPower := if o.vPresent == 0 then 65535 else o.pEvMax * 100000 / o.vPresent
  let limit := min o.iEvMax (min byPower (min r.iRated (min 30000 o.i80)))
  { col := r.rowCol, phase := o.phase, age := age, excluded := s.rdb (F.MRK_OUT_CFG_EXCLUDE r.rowCol)
    prio := s.rd (F.MRK_OUT_CFG_PRIORITY r.rowCol), v := v
    want := if early then min 500 r.iRated else if o.phase == 4 then min o.iReq.toNat limit else 0
    back := if s.mayExport o r.rowCol then limit else 0
    give := if s.mayExport o r.rowCol then min (-o.iReq).toNat limit else 0
    iSust := o.iSust, rating := r.iRated
    was := ((s.mrk.committed.outlets.find? (·.col == r.rowCol)).getD {}).iMax
    pMax := if early then 65535 else o.pEvMax }

/-- Some input is stale (R122). -/
def State.degraded (s : State) (rows : List Plan.Row) (cols : List Plan.Col) (t0 : Nat) : Bool :=
  rows.any (fun r => !r.asleep && r.age != .fresh) || cols.any (fun c => c.age != .fresh) || s.met.tot.clock != 0 ||
    5000000000 < s.intAge t0 || s.gridStale t0 ||
    s.stackRoles.any fun r => !s.roleAsleep r && match SMap.get (fun _ => none) s.mrk.curves r.rowCol with
      | some (t, _) => t + 600000000000 < t0
      | none => true

/-- The snapshot at the start of a Marker cycle (R123). -/
def State.snapshot (s : State) (t0 : Nat) : Plan.Snap where
  rows := s.stackRoles.map (s.snapRow t0)
  cols := s.outletRoles.map (s.snapCol t0)
  importCap := s.importCap t0 * 1000
  exportCap := (s.rd F.MRK_EXPORT_CAP_KW * 1000 : Nat)
  hold := s.rdb F.MRK_STATUS_HOLD
  hours := mkRat (s.rd F.MRK_COST_CFG_HOLD) 3600
  minGain := mkRat (s.rd F.MRK_COST_CFG_MIN_GAIN) 100
  tw := mkRat (s.rd (F.MRK_TARIFF_W_W s.met.tot.tariff)) 256
  wWear := mkRat (s.rd F.MRK_WEIGHT_A_WEAR) 100
  wDamage := mkRat (s.rd F.MRK_WEIGHT_A_DAMAGE) 100
  wCredit := mkRat (s.rd F.MRK_WEIGHT_B_CREDIT) 100
  wHeadroom := mkRat (s.rd F.MRK_WEIGHT_B_HEADROOM) 100
  hr := s.rd F.MRK_HEADROOM_HR
  eInt := s.energyInt t0
  tLeft := s.timeLeft t0
  eLimit := (s.demandLimit : Rat) * 1000 * mkRat s.mrk.intHeld.len (8000 * 3600)
  rampMs := s.rd F.MRK_SEQ_RAMP
  degraded := s.degraded (s.stackRoles.map (s.snapRow t0)) (s.outletRoles.map (s.snapCol t0)) t0

/-! ### Committing a plan (R116, R123, R124, R130, R132, R135, R145) -/

/-- The row's entry goes on in its mode and column. -/
def State.sameEntry (s : State) (e : StackEntry) : Bool :=
  s.mrk.committed.stackEntries.any fun o => o.row == e.row && o.mode == e.mode && o.col == e.col

/-- Which rows hold no lease, and which columns (100 + their number) stand in phase 0 (R152). -/
def State.idleNow (s : State) (p : Plan) : List (Nat × Bool) :=
  (p.stackEntries.map fun (e : StackEntry) => (e.row, e.col == 0)) ++ p.outlets.map fun (e : OutletEntry) =>
    (100 + e.col, match SMap.get (fun _ => none) s.mrk.outletRep e.col with
      | some (_, r) => r.phase == 0
      | none => false)

/-- Keep the time since which a row or column idles; 0 while it does not. -/
def markIdle (t0 : Nat) (m : SMap Nat) (x : Nat × Bool) : SMap Nat :=
  SMap.set (fun _ => 0) x.1 (if x.2 then (if SMap.get (fun _ => 0) m x.1 == 0 then max 1 t0 else SMap.get (fun _ => 0) m x.1) else 0) m

/-- The plan is committed: sent, held for its TACK, shown (R123, R132, R135). -/
def State.commitPlan (s : State) (p : Plan) : State :=
  let t0 := p.applyTime - 10000000
  let s : State := { s with
    mrk.seqSince := p.stackEntries.foldl (fun m e => if s.sameEntry e then m else SMap.set (fun _ => 0) e.row p.applyTime m) s.mrk.seqSince
    mrk.renewals := p.stackEntries.foldl (fun m e =>
      let failed : Bool := match SMap.get (fun _ => none) s.mrk.stackRep e.row with
        | some (_, r) => r.releaseFail
        | none => false
      SMap.set (fun _ => 0) e.row (if e.mode == 5 && failed then SMap.get (fun _ => 0) m e.row + 1 else 0) m) s.mrk.renewals
    mrk.idleSince := (s.idleNow p).foldl (markIdle t0) s.mrk.idleSince }
  let s := (({ s with mrk.committed := p, mrk.plan := some p, mrk.solving := none } : State).showCommitted p)
  let s := s.ringSend 6 1 127 (planBytes p)
  (s.stackRoles.filter fun r => 1 ≤ r.rowCol && r.rowCol ≤ 32).foldl (fun (s : State) r => (s.wrb (F.MRK_STACK_STATE_PIN_ERR r.rowCol) (s.pinErr r)).wrb
    (F.MRK_STACK_STATE_LULL r.rowCol) (s.roleAsleep r)) s

/-- I_FORECAST of a column: the highest current of the later steps (R134). -/
def forecast (later : List Plan.Step) (c : Nat) : Nat := later.foldl (fun m x =>
  match x.outlets.find? (·.col == c) with
  | some y => max m y.iMax
  | none => m) 0

/-- The plan of a step, with the forecast of the later ones (R132, R134). -/
def State.planOf (s : State) (t0 : Nat) (st : Plan.Step) (later : List Plan.Step) (bound degraded : Bool) : Plan where
  discarded := s.mrk.discarded
  capBound := bound
  degraded := degraded
  planNo := t0 / 10000000 + 1
  applyTime := t0 + 10000000
  leaseMs := s.rd F.MRK_SEQ_LEASE
  rampMs := s.rd F.MRK_SEQ_RAMP
  stackEntries := st.stackEntries
  outlets := st.outlets.map fun e => { e with iForecast := forecast later e.col }

/-- A value has moved by more than a share in hundredths of what it was. -/
def movedBy (was now pc : Nat) : Bool := was * pc < 100 * (if was < now then now - was else was - now)

/-- A feasible current or a cap has moved beyond the bounds of R130 since the last snapshot. -/
def State.movedFar (s : State) (w : Plan.Snap) : Bool :=
  w.cols.any (fun c => movedBy (SMap.get (fun _ => 0) s.mrk.feasible c.col) c.want 5) ||
    movedBy s.mrk.lastCap (w.importCap / 1000).floor.toNat 2 || movedBy s.mrk.lastExport (w.exportCap / 1000).floor.toNat 2

/-- Rows that are lost by the age of their report. -/
def lostRows (w : Plan.Snap) : List Nat := (w.rows.filter fun r => r.age == .lost && !r.asleep).map (·.row)

/-- The run-ahead is dropped where R130 says so, by what came before the snapshot, and the drop counted. -/
def State.dropAhead (s : State) (w : Plan.Snap) : State :=
  let drop := s.mrk.ahead != [] && (s.mrk.invalid || s.movedFar w || (lostRows w).any fun r => !s.mrk.lostRows.contains r)
  let s : State := { s with
    mrk.discarded := drop
    mrk.invalid := false
    mrk.lostRows := lostRows w
    mrk.feasible := w.cols.foldl (fun m c => SMap.set (fun _ => 0) c.col c.want m) s.mrk.feasible
    mrk.lastCap := (w.importCap / 1000).floor.toNat
    mrk.lastExport := (w.exportCap / 1000).floor.toNat }
  if drop then s.discardAhead else s

/-- What the Marker reads anew at a snapshot: the partition's demand interval while it runs, the stacks' P_IN (R122, R148). -/
def State.readInputs (s : State) (t0 : Nat) : State :=
  let s : State := if s.met.running then { s with mrk.intHeld := s.met.tot.int, mrk.ledgerHeld := s.ledger, mrk.intAt := t0 } else s
  { s with mrk.pInSums := (s.pInSum :: s.mrk.pInSums).take 1000 }

/-- The active site unit takes its snapshot at t = 0 (R123): every report and event received before. The bits that it shows of the caps and
of stale inputs hold from here on. -/
def State.takeSnapshot (s : State) (t0 : Nat) : State :=
  if s.kind != .site || !s.active then s else
  let s := s.readInputs t0
  let w := s.snapshot t0
  let s := ({ s with mrk.solving := some t0, mrk.snap := w } : State).dropAhead w
  ((s.wrb F.MRK_STATUS_DEGRADED w.degraded).wrb F.MRK_STATUS_CURTAILED (s.bindsCap t0 s.capCurtail)).wrb F.MRK_STATUS_DEMAND_BOUND
    (s.bindsCap t0 (s.headroom t0))

/-- A Marker cycle starts (R123, R135): every unit applies its basted entries, then the active site unit takes its snapshot. -/
def State.markerCycle (s : State) (time : Nat) : State :=
  if s.inLull then s else (s.markerApply time).takeSnapshot time

/-- MARKER_CYCLE_START (R123). -/
def execMarkerCycleStart (time : Nat) (s : State) : Out := .next (s.markerCycle time)

/-- A target is committed: step 0 as the plan, steps 1 to 7 as the run-ahead (R123). -/
def State.commitTarget (s : State) (t0 : Nat) (w : Plan.Snap) (t : Plan.Target) : State :=
  match Plan.steps t 8 w (t0 + 10000000) with
  | [] => s
  | st :: later =>
    let s := s.commitPlan (s.planOf t0 st later (w.capBound (w.serve t)) w.degraded)
    { s with mrk.ahead := later.map fun x => (x.stackEntries, x.outlets) }

/-! ### Witness and replica placement (R156 to R159) -/

/-- Where an address stands in direction A from unit A of the site pair; none for an address that TOPOLOGY does not name. -/
def State.ringPos (s : State) (a : Nat) : Option Nat := (s.pat.content.units.find? (·.addr == a)).map fun u => u.hops.headD 0

/-- Hops between two units over the ring path in use (R156): the shorter way round; on a wrapped ring the way that does not pass the
break, which lies before the later of two units that reported LINK_DOWN. -/
def State.hopsBetween (s : State) (a b : Nat) : Nat :=
  let n := max 1 s.pat.content.units.length
  match s.ringPos a, s.ringPos b with
  | some x, some y =>
    let d := if x ≤ y then y - x else x - y
    let ends := s.mrk.breaks.filterMap s.ringPos
    match ends.find? fun p => ends.contains ((p + n - 1) % n) || ends.length == 1 with
    | none => min d (n - d)
    | some p =>
      let x' := (x + n - p) % n
      let y' := (y + n - p) % n
      if x' ≤ y' then y' - x' else x' - y'
  | _, _ => 127

/-- A unit runs the golden image: it joined with no TOPOLOGY, and counts as withdrawn (R44). -/
def State.runsGolden (s : State) (a : Nat) : Bool := (s.toldDigest a).any fun d => d.all (· == 0)

/-- A unit may take witness or replica duties (R25, R158): joined, not withdrawn or benched, not in Lull nor selected for it. -/
def State.dutiable (s : State) (selected : List Nat) (a : Nat) : Bool :=
  s.member a && !s.mrk.benched.contains a && !s.mrk.withdrawn.contains a && !s.runsGolden a && !s.mrk.lullUnits.contains a &&
    !selected.contains a

/-- The order of roles for witness duty (R156): a floater that has taken a role ranks by that role, and a unit that a floater replaced as
a floater of the span. -/
def State.roleRank (s : State) (a : Nat) : Nat :=
  match s.pat.content.roles.find? fun r => (s.unitsOf r).contains a with
  | some r => match r.kind with
    | .outlet => 2
    | .stack => 3
    | .site => 4
    | .none => 0
  | none => if s.spanOf a == [] then 0 else 1

/-- The least of some addresses by a key, then by address. -/
def leastBy (key : Nat → List Nat) (xs : List Nat) : Option Nat :=
  xs.foldl (fun (b : Option Nat) x => match b with
    | none => some x
    | some y => if Plan.lexLess (key x ++ [x]) (key y ++ [y]) then some x else some y) none

/-- The farther member's hops. -/
def State.farHops (s : State) (r : RoleDecl) (a : Nat) : Nat := ((s.unitsOf r).map (s.hopsBetween a)).foldl max 0

/-- The joined addresses. -/
def State.joinedAddrs (s : State) : List Nat := ((List.range 97).drop 1).filter s.member

/-- A unit may be the witness of a pair, given the duties held: eligible, no member, at most 4 pairs (R25). -/
def State.mayWitness (s : State) (selected : List Nat) (r : RoleDecl) (held : List (Nat × Nat)) (a : Nat) : Bool :=
  s.dutiable selected a && !(s.unitsOf r).contains a && (held.filter (·.2 == a)).length < 4

/-- The witnesses that stay (R156): each while it may be one and lies within 10 hops. -/
def State.standingWitnesses (s : State) (selected : List Nat) (rs : List RoleDecl) : List (Nat × Nat) :=
  rs.foldl (fun held r =>
    let old := ((s.mrk.duty.witnesses.find? (·.1 == r.instance_)).map (·.2)).getD 0
    if old != 0 && s.mayWitness selected r held old && s.farHops r old ≤ 10 then held ++ [(r.instance_, old)] else held) []

/-- Place a witness for a pair that has none, given all duties held (R156): within 10 hops by duties, role, hops and address, else the
nearest eligible unit. -/
def State.placeWitness (s : State) (selected : List Nat) (r : RoleDecl) (held : List (Nat × Nat)) : List (Nat × Nat) :=
  if held.any (·.1 == r.instance_) then held else
  let able := s.joinedAddrs.filter (s.mayWitness selected r held)
  let near := able.filter fun a => s.farHops r a ≤ 10
  let pick := match leastBy (fun a => [(held.filter (·.2 == a)).length, s.roleRank a, s.farHops r a]) near with
    | some a => some a
    | none => leastBy (fun a => [s.farHops r a]) able
  match pick with
  | some a => held ++ [(r.instance_, a)]
  | none => held

/-- The pairs that the pattern declares. -/
def State.pairRoles (s : State) : List RoleDecl := s.pat.content.roles.filter fun r => r.unitA != 0 && r.unitB != 0

/-- Holders of an owner: those that stand now and those placed. -/
abbrev Holders := List (Nat × List Nat)

/-- For how many owners a unit holds replicas. -/
def ownersOf (hs : Holders) (a : Nat) : Nat := (hs.filter fun h => h.2.contains a).length

/-- The holders that stay (R158, R159): each while it may hold, for at most 8 owners. -/
def State.standingHolders (s : State) (selected owners : List Nat) : Holders :=
  owners.foldl (fun hs o =>
    hs ++ [(o, ((s.holdersOf o).filter fun a => a != o && s.dutiable selected a && ownersOf hs a < 8).eraseDups)]) []

/-- One more holder of an owner's records (R158): other than the owner's partner, floaters and site units, fewest owners, fewest hops, then
the lowest address (DESIGN CHOICE, log 103: R158 names no order after the hops). -/
def State.placeHolder (s : State) (selected : List Nat) (o : Nat) (hs : Holders) : Holders :=
  let mine := ((hs.find? (·.1 == o)).map (·.2)).getD []
  if 2 ≤ mine.length then hs else
  let able := s.joinedAddrs.filter fun a => s.dutiable selected a && a != o && !mine.contains a && ownersOf hs a < 8
  let partner (a : Nat) : Bool := s.pat.content.roles.any fun r => (s.unitsOf r).contains o && (s.unitsOf r).contains a
  let favoured (a : Nat) : Bool := s.roleRank a == 0 || s.roleRank a == 1 || s.roleRank a == 4
  match leastBy (fun a => [if partner a then 1 else 0, if favoured a then 0 else 1, ownersOf hs a, s.hopsBetween o a]) able with
  | none => hs
  | some a => hs.map fun h => if h.1 == o then (o, h.2 ++ [a]) else h

/-- The duties of this cycle (R156 to R159): what stands stays, counted whole, before anything is placed. A unit in Lull keeps its
holders. -/
def State.placeDuties (s : State) (selected : List Nat) : Duty :=
  let owners := s.joinedAddrs
  let hs := owners.foldl (fun hs o => s.placeHolder selected o (s.placeHolder selected o hs)) (s.standingHolders selected owners)
  { witnesses := s.pairRoles.foldl (fun ws r => s.placeWitness selected r ws) (s.standingWitnesses selected s.pairRoles)
    replicas := (s.mrk.duty.replicas.filter fun r => s.mrk.lullUnits.contains r.1 && !s.member r.1) ++
      hs.map fun h => (h.1, h.2.getD 0 0, h.2.getD 1 0) }

/-- MRK_DUTY, MRK_REPLICA and the two status bits show the duties (R156, R159, R165). -/
def State.showDuties (s : State) (d : Duty) : State :=
  let s := (s.pairRoles.filter fun r => 1 ≤ r.instance_ && r.instance_ ≤ 49).foldl (fun (s : State) r =>
    let w := ((d.witnesses.find? (·.1 == r.instance_)).map (·.2)).getD 0
    let h := if w == 0 then 0 else s.farHops r w
    ((s.wr (F.MRK_DUTY_WITNESS r.instance_) w).wr (F.MRK_DUTY_HOPS r.instance_) h).wrb (F.MRK_DUTY_FAR r.instance_) (10 < h)) s
  let short (r : Nat × Nat × Nat) : Bool := !(r.2.1 != 0 && s.member r.2.1) || !(r.2.2 != 0 && s.member r.2.2)
  let s := (d.replicas.filter fun r => 1 ≤ r.1 && r.1 ≤ 96).foldl (fun (s : State) r =>
    ((s.wr (F.MRK_REPLICA_HOLDER_1 r.1) r.2.1).wr (F.MRK_REPLICA_HOLDER_2 r.1) r.2.2).wrb (F.MRK_REPLICA_SHORT r.1) (short r)) s
  (s.wrb F.MRK_STATUS_REPLICA_SHORT (d.replicas.any short)).wrb F.MRK_STATUS_NO_WITNESS
    (s.pairRoles.any fun r => !d.witnesses.any (·.1 == r.instance_))

/-- A DUTY from the MASTER of the header is taken; the standby site unit shows it (R115, R116, R157). -/
def State.dutyReceive (s : State) (d : Duty) (src : Nat) : State :=
  if s.inLull || src != s.trg.lastMaster then s
  else if s.kind == .site && !s.active then (s.takeDuty d).showDuties d else s.takeDuty d

/-- DUTY_RECEIVE (R157, R115). -/
def execDutyReceive (duty : Duty) (src : Nat) (s : State) : Out := .next (s.dutyReceive duty src)

/-- DUTY goes out in the cycle of a change and every 1 s (R157, R163). -/
def State.sendDuties (s : State) (t0 : Nat) (d : Duty) : State :=
  let due := s.mrk.dutyChanged || d != s.mrk.duty || s.mrk.dutyAt + 1000000000 ≤ t0
  let s := s.showDuties d
  if !due then s else
  (({ s with mrk.dutyAt := t0, mrk.dutyChanged := false } : State).ringSend 6 1 127 (dutyBytes d)).takeDuty d

/-! ### Lull placement (R152 to R155) -/

/-- What connecting a row costs once (R127). -/
def connectCost (w : Plan.Snap) (r : Plan.Row) : Rat :=
  w.wWear * (1 + 3 * mkRat r.xpWear 65536) + w.wDamage * (1 + 4 * mkRat r.lifeUsed 65536) * mkRat 1 100

/-- Rows in rising order of a cost, the lower row first on a tie. -/
def insertRow (cost : Plan.Row → Rat) (x : Plan.Row) : List Plan.Row → List Plan.Row
  | [] => [x]
  | y :: ys => if cost x ≤ cost y then x :: y :: ys else y :: insertRow cost x ys

/-- The columns in phase 1 or later (R153). -/
def reserveCols (w : Plan.Snap) : List Nat := (w.cols.filter fun c => c.age != .lost && 1 ≤ c.phase).map (·.col)

/-- The reserve of R153 holds with some idle rows awake and others asleep. -/
def reserveOk (reserve : Nat) (cols : List Nat) (awake asleep : List Plan.Row) : Bool :=
  min reserve (awake.length + asleep.length) ≤ awake.length &&
    cols.all fun c => awake.any (fun r => r.cols.contains c) || !asleep.any fun r => r.cols.contains c

/-- Place eligible idle rows in Lull, the dearest to connect first, while the reserve holds (R152). -/
def placeLull (reserve : Nat) (cols : List Nat) : List Plan.Row → List Plan.Row → List Plan.Row → List Plan.Row
  | [], _, asleep => asleep
  | r :: rs, awake, asleep =>
    let awake' := awake.filter (·.row != r.row)
    if reserveOk reserve cols awake' (r :: asleep) then placeLull reserve cols rs awake' (r :: asleep) else placeLull reserve cols rs awake asleep

/-- Wake rows in Lull, the cheapest to connect first, while the reserve falls short and the row helps it (R153). -/
def wakeRows (reserve : Nat) (cols : List Nat) : List Plan.Row → List Plan.Row → List Plan.Row → List Nat
  | [], _, _ => []
  | r :: rs, awake, asleep =>
    let helps := awake.length < reserve || cols.any fun c => r.cols.contains c && !awake.any fun x => x.cols.contains c
    if !reserveOk reserve cols awake asleep && helps then
      r.row :: wakeRows reserve cols rs (r :: awake) (asleep.filter (·.row != r.row))
    else wakeRows reserve cols rs awake asleep

/-- The unit's role has idled for IDLE_MIN (R152): a row without a lease, a column (100 + its number) in phase 0. -/
def State.idledLong (s : State) (t0 k : Nat) : Bool :=
  let t := SMap.get (fun _ => 0) s.mrk.idleSince k
  t != 0 && t + s.rd F.MRK_LULL_IDLE_MIN * 1000000000 ≤ t0

/-- A role meets the conditions 1, 2, 3 and 5 of R152; `updating` are the units known to be in an update state of R53. -/
def State.lullEligible (s : State) (t0 : Nat) (updating : List Nat) (r : RoleDecl) : Bool :=
  s.rdb F.MRK_LULL_ENABLE && (s.unitsOf r).all (fun a => s.member a && !updating.contains a) &&
  match r.kind with
  | .stack => !s.rdb (F.MRK_STACK_CFG_NO_LULL r.rowCol) && s.idledLong t0 r.rowCol
  | .outlet => s.rdb F.MRK_LULL_OUTLETS && s.idledLong t0 (100 + r.rowCol)
  | _ => false

/-- The unit holds a witness or replica duty (R152). -/
def State.hasDuty (s : State) (a : Nat) : Bool :=
  s.mrk.duty.witnesses.any (·.2 == a) || s.mrk.duty.replicas.any fun r => r.2.1 == a || r.2.2 == a

/-- The awake idle rows of a target, which an excluded row is not (R153, R161). -/
def idleRows (w : Plan.Snap) (t : Plan.Target) : List Plan.Row :=
  ((w.rows.zip t).filter fun x => x.2 == 0 && x.1.stand == .idle && x.1.age == .fresh && x.1.available && !x.1.excluded).map (·.1)

/-- WAKE goes to the units of a role (R155), to at most 32 in one cycle. -/
def State.sendWake (s : State) (t0 : Nat) (r : RoleDecl) : State :=
  (s.unitsOf r).foldl (fun (s : State) a =>
    if s.mrk.waking.any (·.1 == a) || !s.mrk.lullUnits.contains a || 32 ≤ (s.mrk.waking.filter fun w => w.2 == t0).length then s else
    ({ s with mrk.waking := s.mrk.waking ++ [(a, t0)] } : State).ringSend 6 2 a [0x04]) s

/-- The role is placed in Lull: a stack by MODE LULL of this plan, an outlet by LULL messages (R154, R479). -/
def State.sendLull (s : State) (r : RoleDecl) : State :=
  let s : State := { s with mrk.lullUnits := s.mrk.lullUnits ++ (s.unitsOf r).filter fun a => !s.mrk.lullUnits.contains a }
  if r.kind == .outlet then (s.unitsOf r).foldl (fun (s : State) a => s.ringSend 6 2 a [0x05]) s else s

/-- The roles selected for Lull in this cycle: R152 but for condition 7 (R158). -/
def State.selectLull (s : State) (t0 : Nat) (w : Plan.Snap) (t : Plan.Target) (updating : List Nat) : List RoleDecl :=
  let cost := connectCost w
  let idle := idleRows w t
  let asleep := w.rows.filter (·.asleep)
  let able := (idle.filter fun r => s.stackRoles.any fun d => d.rowCol == r.row && s.lullEligible t0 updating d).foldr (insertRow cost) []
  let rows := placeLull (s.rd F.MRK_LULL_RESERVE) (reserveCols w) able.reverse idle asleep
  (s.stackRoles.filter fun d => able.any (·.row == d.rowCol) && rows.any (·.row == d.rowCol)) ++
    s.outletRoles.filter fun d => s.lullEligible t0 updating d && !s.roleAsleep d

/-- The rows on whose waking the Marker counts (R155). -/
def State.wakingRows (s : State) (w : Plan.Snap) : List Plan.Row :=
  w.rows.filter fun x => !x.excluded && s.stackRoles.any fun r => r.rowCol == x.row && s.roleWaking r

/-- The rows in Lull that must wake (R153): for the reserve, to which rows being woken count, and where awake stacks leave an outlet
short. -/
def State.rowsToWake (s : State) (w : Plan.Snap) (t : Plan.Target) : List Nat :=
  let cost := connectCost w
  let asleep := w.rows.filter (·.asleep)
  let awake := idleRows w t ++ s.wakingRows w
  let reserve := wakeRows (s.rd F.MRK_LULL_RESERVE) (reserveCols w) (asleep.foldr (insertRow cost) []) awake asleep
  if (w.shortfall t).all (· == 0) then reserve else
  let counted (r : Plan.Row) : Bool := r.asleep || awake.any (·.row == r.row)
  let w' : Plan.Snap := { w with rows := w.rows.map fun r => if counted r then ({ r with asleep := false, age := .fresh, available := true } : Plan.Row) else r }
  let t' := w'.best w'.targets
  reserve ++ ((w.rows.zip t').filter fun x => x.1.asleep && x.2 != 0 && !reserve.contains x.1.row).map (·.1.row)

/-! ### The solve (R123, R124) -/

/-- Duties, Lull and wakes of a cycle (R152 to R159). -/
def State.placeWork (s : State) (t0 : Nat) (w : Plan.Snap) (t : Plan.Target) (updating : List Nat) : State :=
  let chosen := s.selectLull t0 w t updating
  let s := s.sendDuties t0 (s.placeDuties (chosen.flatMap s.unitsOf))
  let s := (chosen.filter fun r => !(s.unitsOf r).any s.hasDuty).foldl State.sendLull s
  let wake := s.rowsToWake w t
  (s.stackRoles.filter fun r => wake.contains r.rowCol).foldl (fun (s : State) r => s.sendWake t0 r) s

/-- The snapshot that the solve under way works from, with its instant. -/
def State.solveOf (s : State) : Option (Nat × Plan.Snap) :=
  if s.kind != .site || !s.active || s.inLull then none else s.mrk.solving.map fun t0 => (t0, s.mrk.snap)

/-- The Marker's solve has run to its end (R123): the cheapest target within the limits. -/
def State.solve (s : State) (updating : List Nat) : State :=
  match s.solveOf with
  | none => s
  | some (t0, w) =>
    let t := w.choose w.targets
    ((s.wrb F.MRK_STATUS_SUBOPTIMAL false).commitTarget t0 w t).placeWork t0 w t updating

/-- SOLVE_COMPLETE (R123). -/
def execSolveComplete (updating : List Nat) (s : State) : Out := .next (s.solve updating)

/-- The previous plan, each I_MAX lowered to the present caps (R124). -/
def State.lowered (s : State) (w : Plan.Snap) : Plan.Step :=
  let is := w.serve w.keep
  { stackEntries := s.mrk.committed.stackEntries
    outlets := s.mrk.committed.outlets.map fun e => { e with iMax := min e.iMax (Plan.served is e.col) } }

/-- What is committed where no feasible solution was found (R124): the run-ahead's step 1 while no invalidating event has occurred, else the
previous plan lowered; with the later steps. -/
def State.fallBack (s : State) (w : Plan.Snap) : Plan.Step × List Plan.Step :=
  match s.mrk.ahead, s.mrk.invalid with
  | (a, b) :: rest, false => ({ stackEntries := a, outlets := b }, rest.map fun x => { stackEntries := x.1, outlets := x.2 })
  | _, _ => (s.lowered w, [])

/-- The solve is not complete at 6.0 ms (R124): `best` is the best feasible target found so far, if there is one. Either fall-back is a
cycle under R124, which MRK_OVERRUNS counts (R164; log 104). -/
def State.solveDeadline (s : State) (best : Option (List Nat)) (updating : List Nat) : State :=
  match s.solveOf with
  | none => s
  | some (t0, w) =>
    let s := s.inc F.MRK_OVERRUNS
    match best.filter w.targets.contains with
    | some t => (((s.wrb F.MRK_STATUS_SUBOPTIMAL true).commitTarget t0 w t)).placeWork t0 w t updating
    | none =>
      let (st, later) := s.fallBack w
      let s := (s.wrb F.MRK_STATUS_SUBOPTIMAL false).commitPlan (s.planOf t0 st later (w.capBound (w.serve w.keep)) w.degraded)
      ({ s with mrk.ahead := later.map fun x => (x.stackEntries, x.outlets) } : State).placeWork t0 w w.keep updating

/-- SOLVE_DEADLINE (R124). -/
def execSolveDeadline (best : Option (List Nat)) (updating : List Nat) (s : State) : Out := .next (s.solveDeadline best updating)

/-! ### Wakes (R155) -/

/-- A WAKE message from the MASTER of the header (R115): a unit in Lull that it names wakes (R155, R483), any other ignores it (R485), but the
standby site unit keeps it in mind (R116). -/
def State.wakeReceive (s : State) (target src : Nat) : State :=
  if src != s.trg.lastMaster then s
  else if s.inLull then (if target == s.addr then s.wakeBy 1 else s)
  else if s.kind == .site && !s.active && !s.mrk.waking.any (·.1 == target) then { s with mrk.waking := s.mrk.waking ++ [(target, s.now)] }
  else s

/-- WAKE_RECEIVE (R155). -/
def execWakeReceive (target src : Nat) (s : State) : Out := .next (s.wakeReceive target src)

/-- A woken unit has not joined within 50 ms: it counts as out of the ring from its WAKE (R155). One that joined and has not reported is no
longer counted on. -/
def State.wakeTimeout (s : State) (a : Nat) : State :=
  match s.mrk.waking.find? (·.1 == a) with
  | none => s
  | some w =>
    let s : State := { s with mrk.waking := s.mrk.waking.filter (·.1 != a) }
    if s.member a then s else
    { s with mrk.lullUnits := s.mrk.lullUnits.filter (· != a), mrk.invalid := true
             mrk.outSince := SMap.set (fun _ => none) a (some w.2) s.mrk.outSince }

/-- WAKE_JOIN_TIMEOUT (R155). -/
def execWakeJoinTimeout (addr : Nat) (s : State) : Out := .next (s.wakeTimeout addr)

end Sys2Proof.Machine
end

