-- ==== Sys2Proof/Machine/Clk.lean ====
section
/-!
DEFINITION. Machine/Clk.lean: clocks, supplies, the early warning and Lull (chapter 18).
-/
namespace Sys2Proof.Machine
open Sys2Proof

/-! ### Clocks (R473, R474) -/

/-- XO25 against RTC32, ppm (R474): more than 500 ppm is an unexplained fault of a unit with VIN. -/
def State.clockMonitor (s : State) (ppm : Int) : State :=
  if !s.sys.running || s.inLull || ppm.natAbs ≤ 500 then s else s.withdraw 6

/-- CLOCK_MONITOR (R474). -/
def execClockMonitor (ppm : Int) (s : State) : Out := .next (s.clockMonitor ppm)

/-- A PLL loses lock with VIN present (R474); in Lull only PLL_SER runs. -/
def State.pllLoss (s : State) (pll : Nat) : State :=
  if !s.sys.running || (s.inLull && pll != 2) then s else
  (s.wr F.CLK_STATUS_LOCK (setBit (s.rd F.CLK_STATUS_LOCK) pll false)).withdraw 6

/-- PLL_LOCK_LOSS (R474). -/
def execPllLockLoss (pll : Fin 5) (s : State) : Out := .next (s.pllLoss pll.val)

/-- No RTC32 edge for 1 ms (R474): RTC_FAIL; without VIN the real-time clock has stopped and does not count as surviving. -/
def State.rtcLoss (s : State) : State :=
  let s := (s.wrb F.CLK_AON_STATUS_RTC_FAIL true).wrb F.CLK_STATUS_RTC_FAIL true
  if s.sys.vinPresent then s else { s with clk.aonLost := true }

/-- RTC32_LOSS (R474). -/
def execRtc32Loss (s : State) : Out := .next s.rtcLoss

/-! ### Supplies (R475, R476) -/

/-- The 1 s round of the always-on domain (R476, R480, R490): VBAT in mV, the always-on sensor in 0.1 °C, the real-time clock. The
seconds counters advance with it. -/
def State.vbatMeasure (s : State) (mv : Nat) (tAon : Int) (rtc : Nat) : State :=
  let s := (s.setRtc rtc).wrsat F.CLK_AON_VBAT mv
  let s := (s.wrb F.CLK_STATUS_VBAT_LOW (mv < 2400)).wrb F.CLK_AON_STATUS_VBAT_LOW (mv < 2400)
  let s := (s.wrisat F.CLK_TEMP_T_AON tAon).wrb F.CLK_AON_STATUS_CHARGING (s.rdb F.CLK_AON_CFG_CHARGE && s.sys.vinPresent && mv < 3300)
  let s := if s.sys.vinPresent then s.barAdd 0 1 else s
  if s.inLull then (s.barAdd 1 1).inc F.CLK_LULL_SECONDS else s

/-- VBAT_MEASURE (R476). -/
def execVbatMeasure (mv : Nat) (tAon : Int) (rtc : Nat) (s : State) : Out := .next (s.vbatMeasure mv tAon rtc)

/-- VIN crosses 9.0 V (R476): the always-on domain's source. A real-time clock that has failed is no longer held by XO25 (R474; log 126).
Without VIN neither die runs and the pulse outputs are released (R507, R538). -/
def State.supplySwitch (s : State) (vin : Bool) : State :=
  let s := s.wrb F.CLK_AON_STATUS_SOURCE (!vin)
  if vin then { s with sys.vinPresent := true }
  else ({ s.releasePulses true with
    sys.vinPresent := false, sys.running := false, met.running := false, met.booking := false
    clk.aonLost := s.clk.aonLost || s.rdb F.CLK_AON_STATUS_RTC_FAIL } : State).wrb F.CLK_AON_STATUS_CHARGING false

/-- AON_SUPPLY_SWITCH (R476). -/
def execAonSupplySwitch (vin : Bool) (s : State) : Out := .next (s.supplySwitch vin)

/-- VBAT falls below 1.8 V without VIN (R476, R485): the real-time clock, retention SRAM and the stored tamper events are lost. -/
def State.aonReset (s : State) : State :=
  if s.sys.vinPresent then s else
  let s : State := { s with
    que := { sent := s.que.sent }
    met.copies := []
    bil.stored := []
    bil.storedLost := 0
    bar.cnt := {}
    bar.retentionOk := false
    bar.retSeq := 0
    clk.aonLost := true }
  let s := (((s.wr64 F.CLK_AON_RTC_LO 0).wr F.CLK_AON_EVENTS 0).wrb F.CLK_AON_CFG_CHARGE false).wrb F.CLK_AON_STATUS_RTC_FAIL false
  ((s.wr F.QUE_FR_HEAD 0).wr F.QUE_FR_OVERFLOW 0).wrb F.CLK_AON_STATUS_POR true

/-- AON_RESET (R476). -/
def execAonReset (s : State) : Out := .next s.aonReset

/-! ### Retention and refresh (R481, R482) -/

/-- The band of R482 at a temperature in 0.1 °C: entered at its lower limit, left 3 °C below it. -/
def refreshBand (old : Nat) (t : Int) : Nat :=
  let up : Nat := if 1250 ≤ t then 3 else if 1050 ≤ t then 2 else if 850 ≤ t then 1 else 0
  let stay : Nat := if 1220 ≤ t then 3 else if 1020 ≤ t then 2 else if 820 ≤ t then 1 else 0
  max up (min old stay)

/-- The sequencer finishes a pass or meets a bad word (R482): the temperature is the always-on sensor's in Lull, else group 31's. -/
def State.retentionScrub (s : State) (f : ScrubFinding) : State :=
  let t := if s.inLull then s.rdi F.CLK_TEMP_T_AON else (s.grpVal 31).getD (s.rdi F.CLK_TEMP_T_AON)
  let b := refreshBand s.clk.band t
  let s := ({ s with clk.band := b } : State).wr F.CLK_TEMP_REFRESH b
  match f with
  | .equal => s
  | .sramFixed => s.barAdd 0xD 1
  | .mramFixed => s.barAdd 0xD 1
  | .uncorrectable => s.memoryFault

/-- RETENTION_SCRUB (R482). -/
def execRetentionScrub (finding : ScrubFinding) (s : State) : Out := .next (s.retentionScrub finding)

/-! ### Early warning (R332, R356, R477, R485, R499) -/

/-- The early warning asserts (R477): a withdrawal with cause EARLY_WARNING, the partition's save, the Barograph save. In Lull the
partition is already saved; a start or a wake stops (R485, R520). -/
def State.earlyWarningOn (s : State) : State :=
  if s.sys.earlyWarning || !s.sys.vinPresent then s else
  let s := ({ s with sys.earlyWarning := true } : State).wrb F.CLK_STATUS_EW true
  if s.inLull then s else
  let s : State := { s with sys.startPending := none, clk.lullNext := false }
  let s := match s.bar.withdrawing with
    | some _ => s
    | none => if s.sys.running then s.withdrawSteps 8 2 false else s.claimWithdraw
  s.powerFail.barSave

/-- EARLY_WARNING (R477). -/
def execEarlyWarning (s : State) : Out := .next s.earlyWarningOn

/-- The early warning clears before brown-out (R478): a main-die reset; in Lull nothing was stopped. -/
def State.earlyWarningOff (s : State) : State :=
  if !s.sys.earlyWarning then s
  else if s.inLull then ({ s with sys.earlyWarning := false } : State).wrb F.CLK_STATUS_EW false
  else s.mainReset 3 false

/-- EARLY_WARNING_CLEAR (R478). -/
def execEarlyWarningClear (s : State) : Out := .next s.earlyWarningOff

/-! ### Entering Lull (R154, R468, R479) -/

/-- A LULL message from the MASTER of the header at an outlet unit (R479); the standby site unit keeps the placement as its own (R116). -/
def State.lullMessage (s : State) (target src : Nat) : State :=
  if s.kind == .site && !s.active && src == s.trg.lastMaster && !s.mrk.lullUnits.contains target then
    { s with mrk.lullUnits := s.mrk.lullUnits ++ [target] }
  else if s.kind == .outlet && target == s.addr && src == s.trg.lastMaster && !s.inLull then { s with clk.lullNext := true } else s

/-- LULL_MESSAGE_RECEIVE (R479). -/
def execLullMessageReceive (target src : Nat) (s : State) : Out := .next (s.lullMessage target src)

/-- The causes for which the unit refuses Lull, as CLK_LULL_STATUS.REFUSE (R479). -/
def State.lullRefusals (s : State) : Nat :=
  let b (x : Bool) (i : Nat) : Nat := if x then 2 ^ i else 0
  b s.mrk.lease.isSome 0 + b (s.loops.any fun d => s.nowMode d.loop != mOff) 1 +
    b (s.met.tot.sess.isOpen || (s.kind == .outlet && s.vst != vIdle)) 2 + b (1 ≤ s.pat.updState && s.pat.updState ≤ 5) 3 +
    b (s.ownLatches != 0 || s.lockedOut) 4

/-- A queue's entries are discarded and counted (R468). -/
def State.discard (s : State) (q : Nat) : State :=
  let n := (s.q q).length
  if n == 0 then s else (s.setQ q []).inc (F.QUE_Q_LOST q) n

/-- A queue is drained to its sink. -/
def State.drain (s : State) (q : Nat) : State :=
  (s.q q).foldl (fun (s : State) x => match q with
    | 1 => ({ s with bil.sent := some x } : State).handOut 1
    | _ => s.handOut q) s

/-- Q1, Q2 and Q14 are drained, Q3 to Q13 and Q15 discarded and counted (R468). -/
def State.lullQueues (s : State) : State :=
  let s := ((s.drain 1).drain 2).drain 14
  let s := [3, 4, 5, 6, 7, 8, 9, 12, 13].foldl State.discard s
  let s := if s.que.q10 == [] then s else (s.setQ10 []).inc (F.QUE_Q_LOST 10) s.que.q10.length
  let s := if s.que.q11 == [] then s else (s.setQ11 []).inc (F.QUE_Q_LOST 11) s.que.q11.length
  let n := s.que.q15.length
  if n == 0 then { s with que.held := [] }
  else (({ s with que.q15 := [], que.held := [] } : State).queLevel 15 0).inc (F.QUE_Q_LOST 15) n

/-- Steps 3 to 7 of R479: queues, partition, keys, clocks. STATE reads LULL; a wake source that arose meanwhile wakes the unit (R483). -/
def State.finishLull (s : State) : State :=
  let s := (s.lullQueues.setRtc s.clk.lullRtc).releasePulses true
  let s := s.powerFail
  let s : State := { s with met.running := false, trg.join := .idle, trg.key := none, trg.nextKey := none, trg.leaveLeft := 0
                            key.pairHeld := [], mrk.plan := none, mrk.latched := none, pair.formed := false }
  let s := (s.setMember s.addr false).wrb F.TRG_STATUS_KEYED false
  let s := (s.wr F.CLK_STATUS_LOCK 4).inc F.CLK_LULL_ENTRIES
  let s := s.wr F.CLK_LULL_STATUS_STATE 2
  match s.clk.wakeWait with
  | some c => ({ s with clk.wakeWait := none } : State).wakeBy c
  | none => s

/-- Entry goes on once the announced leave is made, 3 cycles later (R154, R479); an early warning stops it where it stands (R485). -/
def State.lullProceed (s : State) : State :=
  if s.rd F.CLK_LULL_STATUS_STATE == 1 && s.trg.leaveLeft == 0 && !s.sys.earlyWarning then s.finishLull else s

/-- The unit enters Lull (R479): its claim becomes 0, then it makes the announced leave; a unit that is on no ring has none to make. -/
def State.enterLull (s : State) (rtc : Nat) : State :=
  let s := ({ s with clk.lullNext := false, clk.lullRtc := rtc } : State).wr F.CLK_LULL_STATUS_STATE 1
  ((s.dropClaim psNone).announceLeave).lullProceed

/-- The APPLY_TIME at which a unit told to sleep does so, or refuses (R479). -/
def State.lullEntry (s : State) (rtc : Nat) : State :=
  if !s.clk.lullNext || s.inLull || s.sys.earlyWarning || s.rd F.CLK_LULL_STATUS_STATE != 0 then s
  else if s.lullRefusals != 0 then ({ s with clk.lullNext := false } : State).wr F.CLK_LULL_STATUS_REFUSE s.lullRefusals
  else s.enterLull rtc

/-- LULL_ENTRY (R479). -/
def execLullEntry (rtc : Nat) (s : State) : Out := .next (s.lullEntry rtc)

/-! ### Waking (R483, R484) -/

/-- CLK_CMD. -/
def clkCmdAddr : Nat := 0x2C008

/-- CLK_CMD WAKE: no effect while awake (R487). -/
def State.hostWake (s : State) : State := if s.inLull then s.wakeBy 2 else s

/-- HOST_WAKE (R483). -/
def execHostWake (side : Side) (key : BitVec 16) (s : State) : Out :=
  .next (s.command side clkCmdAddr key.toNat 0x5C03 fun s => s.hostWake)

/-- PLUG_WAKE (R483). -/
def State.plugWake (s : State) : State := if s.kind == .outlet then s.wakeBy 3 else s

def execPlugWake (s : State) : Out := .next s.plugWake

/-- SAFETY_WAKE (R433, R483): a channel of an enabled input leaves its healthy level. -/
def execSafetyWake (k : Fin 4) (s : State) : Out :=
  .next (if s.inLull && s.rdb (F.SAF_IN_CFG_ENABLE k.val) then s.wakeBy 4 else s)

/-- Full control is reached (R484): clocks, the partition recovered, safety connections in RESYNC, the observer to restart, the TACKs
that fell in Lull applied at the first safe boundaries (R90). -/
def State.wakeComplete (s : State) (rtc : Nat) : State :=
  if s.rd F.CLK_LULL_STATUS_STATE != 3 || s.sys.earlyWarning then s else
  let s := ((s.wr F.CLK_LULL_STATUS_STATE 0).wr F.CLK_STATUS_LOCK 31).setRtc rtc
  let s := if s.met.running then s else s.selStart
  let s : State := { s with
    th.started := false
    th.partner := none
    trg.leaveLeft := 0
    pair.missed := 0
    pair.lost := false
    clk.wakeWait := none }
  let s := s.safetyResync.applyAtOnce
  if s.clk.scrubBad then ({ s with clk.scrubBad := false } : State).withdraw 1 else s

/-- WAKE_COMPLETE (R484). -/
def execWakeComplete (rtc : Nat) (s : State) : Out := .next (s.wakeComplete rtc)

/-! ### Trains at a unit that enters Lull (R96, R479) -/

/-- TRAIN_DELIMITER (R96): the last of its LEAVE slots lets a unit that enters Lull go on. -/
def execTrainDelimiter (dirB wrapped ringWrapped : Bool) (cycle hop correction delay forward neighbour master time : Nat) (s : State) : Out :=
  .next (s.train dirB wrapped ringWrapped cycle hop correction delay forward neighbour master time).lullProceed

end Sys2Proof.Machine
end

