-- ==== Sys2Proof/Machine/Start.lean ====
section
/-!
DEFINITION. Machine/Start.lean: resets, the start sequence, self-tests, role start (chapter 20), floaters (R27 to R29, R427), the
Barograph's own commands and the unit's fault policy (chapter 19).
-/
namespace Sys2Proof.Machine
open Sys2Proof

/-! ### Resets (R507 to R509) -/

/-- The Selvedge partition loses its logic (R507): what it keeps lies in MRAM and retention SRAM (R331). -/
def State.selvedgeOff (s : State) : State :=
  { s with met.running := false, met.booking := false, met.last := [0, 0, 0, 0, 0, 0, 0, 0], met.disagree := [0, 0], met.agree := [0, 0],
           met.chkState := [false, false], met.marks := [], met.bnd := [], met.injecting := false, met.phase := false, met.po := []
           bil.lastSeq := 0 }

/-- The TRG block's base (R62). -/
def trgBase : Nat := 0x3000

/-- VIN has returned after falling below 9.0 V (R507): the main die and the partition restart, the ring ports too; the always-on domain
where POR is set. -/
def State.powerOn (s : State) : State :=
  let s := if s.rdb F.CLK_AON_STATUS_POR then ((s.wr64 F.CLK_AON_RTC_LO 0).wrb F.CLK_AON_CFG_CHARGE false) else s
  let s := s.selvedgeOff.mainReset 1 false
  let s := s.wrb F.CLK_AON_STATUS_SOURCE false
  { s with live := s.live.filter fun e => !(trgBase * 32 ≤ e.1 && e.1 < (trgBase + 0x1000) * 32)
           trg := {}, sys.vinPresent := true, sys.earlyWarning := false }

/-- POWER_ON (R507). -/
def execPowerOn (s : State) : Out := .next s.powerOn

/-- The brown-out reset at 12.0 V with VIN at or above 9.0 V (R507). -/
def State.brownOut (s : State) : State :=
  if !s.sys.vinPresent then s else
  { s.selvedgeOff.mainReset 2 false with sys.earlyWarning := false }

/-- BROWN_OUT_RESET (R507). -/
def execBrownOutReset (s : State) : Out := .next s.brownOut

/-- RESET_N low for 10 µs (R507); the master declares the leave (R508). -/
def execResetPin (s : State) : Out := .next (s.mainReset 6 false)

/-- SYS_CMD. -/
def sysCmdAddr : Nat := 0x8

/-- A reset by command with its announced leave (R508, R509). -/
def State.commandReset (s : State) : State := s.announceLeave.mainReset 5 true

/-- A remote reset is the integrator's decision that a replaced unit takes its own place again (R29; log 91). -/
def State.recall (s : State) (side : Nat) : State := if side == 0 then s else { s with pat.spareOf := 0 }

/-- SYS_CMD RESET (R509): an active unit hands over first, where a STANDBY_HOT partner exists. -/
def State.sysReset (s : State) (side : Nat) : State :=
  if s.active then (if s.partnerReady then s.startYield 3 else s.accessError side eState sysCmdAddr) else (s.recall side).commandReset

/-- SYS_RESET (R509). -/
def execSysReset (side : Side) (key : BitVec 16) (s : State) : Out :=
  .next (s.command side sysCmdAddr key.toNat 0x1D62 fun s => s.sysReset side)

/-- SYS_RESET_FORCE (R509). -/
def execSysResetForce (side : Side) (key : BitVec 16) (s : State) : Out :=
  .next (s.command side sysCmdAddr key.toNat 0x1D62 fun s => (s.recall side).commandReset)

/-! ### Faults of the unit (R432, R498, R500) -/

/-- LOCKSTEP_MISMATCH (R500). -/
def execLockstepMismatch (s : State) : Out := .next (s.withdraw 2)

/-- UNCORRECTABLE_ERROR (R500). -/
def execUncorrectableError (s : State) : Out := .next s.memoryFault

/-! ### The start sequence (R510 to R512) -/

/-- Step 2 and the life cycle's first transitions (R374, R375, R510): a pending destruction completes; BLANK becomes OPEN; DEBUG becomes
OPEN where DBG_EN_N is high. -/
def State.startLife (s : State) (dbgLow : Bool) : State :=
  let s : State := { s with key.dbgLow := dbgLow }
  let s := if s.rdb F.KEY_STATUS_DESTROY_PENDING then s.destroyKeys false else s
  let lc := s.rd F.KEY_STATUS_LC
  if lc == lcBlank || (lc == lcDebug && !dbgLow) then s.changeLife lcOpen false else s

/-- Step 3: the first start of a life-cycle state (R390, R395, R510, R518). At the first start of BOUND ledger time
and every count "since commissioning" begin at 0 (R518). -/
def State.startFirst (s : State) : State :=
  let lc := s.rd F.KEY_STATUS_LC
  let first := !s.sys.firstDone.contains lc
  let s := s.wrb F.SYS_START_FIRST first
  if !first then s else
  let s : State := { s with sys.firstDone := lc :: s.sys.firstDone }
  let s := if lc == lcOpen || lc == lcBound then s.passLegal else s
  if lc != lcBound then s else
  let s : State := { s.issueCompat with met.saves := [], met.copies := [], met.tot := {}, met.running := false }
  let s := (List.range 8).foldl (fun (s : State) g => s.wr (F.PRT_GRP_TRIPS g) 0) s
  let s := (((s.wr F.SYS_STARTS 0).wr F.CLK_LULL_ENTRIES 0).wr F.CLK_LULL_SECONDS 0).wr F.TH_SHUTDOWNS 0
  (((s.wr F.VLK_SESSIONS 0).wr F.PAIR_SWITCHOVERS 0).wr F.SAF_LOCKOUTS 0).wr F.BAR_BLOCK_NO 0

/-- Step 4S: a partition that does not run starts (R334, R357, R362, R363, R366); a failed test keeps it stopped (R512). -/
def State.startPartition (s : State) (ok : Bool) : State :=
  if !ok then { s with met.running := false, met.booking := false }
  else if s.met.running then s else s.selStart

/-- The Barograph is restored (R495): the retention copy where VBAT held and it is as recent as the newest save, else that save. -/
def State.barRestore (s : State) : State :=
  let pick (a b : Option (Nat × BarCounters)) : Option (Nat × BarCounters) := match a, b with
    | some x, some y => if x.1 < y.1 then some y else some x
    | some x, none => some x
    | none, y => y
  match pick (SMap.get (fun _ => none) s.bar.saves 0) (SMap.get (fun _ => none) s.bar.saves 1) with
  | none => { s.wrb F.BAR_STATUS_RESTORED false with bar.retentionOk := true }
  | some (q, c) =>
    if s.bar.retentionOk && q ≤ s.bar.retSeq then s.wrb F.BAR_STATUS_RESTORED false
    else { s.wrb F.BAR_STATUS_RESTORED true with bar.cnt := c, bar.retSeq := q, bar.retentionOk := true }

/-- The benched state of MRAM is shown (R501). -/
def State.benchRestore (s : State) : State :=
  (((s.wrb F.BAR_STATUS_BENCHED (s.bar.benched != 0)).wr F.BAR_STATUS_BENCH_CAUSE s.bar.benched).wr F.BAR_STATUS_WD_24H (min 3 s.wd24)).showHist

/-- Step 5: image, sections, registers, records (R35, R38, R43, R54, R104, R501, R510). -/
def State.startLoad (s : State) (memA memB : Bool) : State :=
  let s := ((s.barRestore.selectImage memA memB).startUpdate.showBound).showKeys
  let s := s.takeStrap
  let s := s.wrb F.SAF_STATUS_PW_SET s.saf.pw.cw.valid
  ((s.safetyResync).showSafety).benchRestore

/-- A start (R510): steps 1 to 5. `straps` is read after a loss of power only; `bist` is the first failing item of R512, 0 none; `selOk`
is the result of step 4S; `memA` and `memB` say that MRAM gave the words of slots A and B. -/
def State.startBegin (s : State) (straps bist : Nat) (selOk : Bool) (rtc : Nat) (memA memB dbgLow : Bool) : State :=
  match s.sys.startPending with
  | none => s
  | some src =>
    if !s.sys.vinPresent || s.sys.earlyWarning then s else
    let s := s.setRtc rtc
    let s : State := { s with sys.startPending := none, sys.startRtc := s.rtc
                              sys.strapPins := if src == 1 || src == 2 then straps % 128 else s.sys.strapPins }
    let s := (((s.wr F.SYS_START_SOURCE src).wr F.SYS_START_PHASE 1).wr F.CLK_STATUS_LOCK 31).wr F.TRG_STRAP_STRAP s.sys.strapPins
    let s := (s.startLife dbgLow).startFirst
    let s := (s.wr F.SYS_START_BIST_FAIL bist).startPartition selOk
    let s := s.startLoad memA memB
    let s : State := { s with sys.running := true, bar.withdrawing := none, clk.aonLost := false }
    let s := (s.inc F.SYS_STARTS).wr F.SYS_START_PHASE 6
    let s := s.event (evCode 0xD 3 4) src
    if bist != 0 || !selOk then s.bench 2 else s

/-- START_BEGIN (R510). -/
def execStartBegin (straps : BitVec 7) (bist : Fin 10) (selOk : Bool) (rtc : Nat) (memA memB dbgLow : Bool) (s : State) : Out :=
  .next (s.startBegin straps.toNat bist.val selOk rtc memA memB dbgLow)

/-! ### Step 7 (R265, R513, R515) -/

/-- The unit's ROLE section names it alone (R515). -/
def State.single (s : State) : Bool := s.kind != .none && s.pair.partnerAddr == 0 && s.rdb F.PAIR_FLOAT_VALID == false

/-- Step 7: every declared group is tested once its channels have left bias lock-out; the others wait. A single unit then takes claim
0x01 (R515); a unit with no role has completed its start. -/
def State.selfTest (s : State) (time : Nat) : State :=
  if !s.sys.running || s.trg.join != .joined || s.rd F.SYS_START_PHASE != 7 then s else
  let (ready, wait) := s.groups.partition fun g => (s.groupChs g).all fun n => !s.chLocked n
  let s := ready.foldl (fun (s : State) g => s.startTest g) s
  let s : State := { s with sys.testWait := wait }
  let s := wait.foldl (fun (s : State) g => s.holdGroup g .protection) s
  let s := s.wr F.SYS_START_PHASE 8
  if s.kind == .none then s.startDone
  else if s.single && s.own == 0 && s.bar.benched == 0 then (s.raiseClaim 1 false none).takeOver true time
  else if s.rd F.PAIR_STATUS_STATE != psNone && s.rd F.PAIR_STATUS_STATE != psForming then s.stepEight (s.rd F.PAIR_STATUS_STATE)
  else s

/-- COMPARATOR_SELF_TEST (R513). -/
def execComparatorSelfTest (time : Nat) (s : State) : Out := .next (s.selfTest time)

/-- 5 s after step 7, a group that still waits has its items reported NOT_RUN (R513). -/
def State.selfTestTimeout (s : State) : State :=
  (s.sys.testWait.filter (· < 8)).foldl (fun (s : State) g => (s.testItems g).foldl (fun (s : State) (i : Nat × Nat) => s.testResult g i.1 0) s) s

/-- COMPARATOR_TEST_TIMEOUT (R513). -/
def execComparatorTestTimeout (s : State) : Out := .next s.selfTestTimeout

/-- No valid partner frame within 2 s of joining (R515): a site unit that is cycle master takes claim 0x01 without a vote, any other
treats its partner as lost from STANDBY_COLD. -/
def State.formingTimeout (s : State) (time : Nat) : State :=
  let st := s.rd F.PAIR_STATUS_STATE
  if s.trg.join != .joined || s.pair.partnerAddr == 0 || s.pair.mismatch || s.rdb F.PAIR_STATUS_LINK || s.own != 0 || !(st == psForming || st == psNone) ||
      s.bar.benched != 0 then s
  else if s.kind == .site && s.isMaster then (s.raiseClaim 1 false none).takeOver true time
  else ({ s with pair.lost := true, pair.formed := false } : State).setPairState psCold

/-- FORMING_TIMEOUT (R515). -/
def execFormingTimeout (time : Nat) (s : State) : Out := .next (s.formingTimeout time)

/-! ### Role start (R516) -/

/-- The AC pre-charge coil closes. -/
def State.acPreCharge (s : State) : State := ({ s with sys.preCoil := true, sys.preOk := false } : State).contactorOp s.acIndex 0 false

/-- The active unit starts its role (R516). -/
def State.roleStart (s : State) : State :=
  if !s.active || s.sys.roleStarted || s.inLull then s else
  let go (s : State) : State := ({ s with sys.roleStarted := true } : State).startDone
  match s.kind with
  | .stack => if s.groups.all (fun g => s.gst g == gArmed) && !s.sys.down then (go s).acPreCharge else s
  | .outlet =>
    let s := ({ s with th.started := false } : State).obsStart
    go (s.setVst (if s.rd F.VLK_STATUS_CS == csUnplugged then vIdle else vPlugged))
  | .site => go { s with trg.ptpGood := 0, mrk.invalid := true }
  | .none => s

/-- ROLE_START (R516). -/
def execRoleStart (s : State) : Out := .next s.roleStart

/-- The DC link has reached V_PRE (R209, R516): the main AC coil closes and AFE_DCLINK is requested. -/
def State.preChargeDone (s : State) : State :=
  if !s.active || !s.sys.preCoil || s.sys.preOk then s else
  let s := ({ s with sys.preOk := true, sys.mainCoil := true } : State).contactorOp (s.acIndex + 1) 0 false
  s.loops.foldl (fun (s : State) d => if d.modes.any (·.mode == mAfeDclink) && s.rdb (F.SHT_LOOP_MODE_AUTO d.loop) then s.requestMode d.loop d mAfeDclink false else s) s

/-- PRECHARGE_COMPLETE (R516). -/
def execPrechargeComplete (s : State) : Out := .next s.preChargeDone

/-- The DC link has not reached V_PRE within T_PRE (R516). -/
def State.preChargeFail (s : State) : State :=
  if !s.active || !s.sys.preCoil || s.sys.preOk then s else
  let s := (s.acDrop.wrb F.SYS_START_ROLE_FAIL true).wr F.SYS_START_ROLE_TRIES (min 3 (s.rd F.SYS_START_ROLE_TRIES + 1))
  { s with sys.down := s.rd F.SYS_START_ROLE_TRIES == 3 }

/-- PRECHARGE_TIMEOUT (R516). -/
def execPrechargeTimeout (s : State) : Out := .next s.preChargeFail

/-- 60 s after a failed pre-charge (R516). -/
def State.preChargeRetry (s : State) : State :=
  if s.active && s.kind == .stack && s.sys.roleStarted && !s.sys.down && !s.sys.preCoil && !s.sys.mainCoil &&
      s.rd F.SYS_START_ROLE_TRIES != 0 && s.groups.all (fun g => s.gst g == gArmed) then s.acPreCharge else s

/-- PRECHARGE_RETRY (R516). -/
def execPrechargeRetry (s : State) : Out := .next s.preChargeRetry

/-- 1 ms after the main auxiliary contact reads closed, the pre-charge coil is released (R516). -/
def State.preCoilOff (s : State) : State :=
  if s.sys.preCoil && s.sys.mainCoil && s.sys.preOk then ({ s with sys.preCoil := false } : State).contactorOp s.acIndex 0 false else s

/-- PRECHARGE_COIL_RELEASE (R516). -/
def execPrechargeCoilRelease (s : State) : Out := .next s.preCoilOff

/-- The DC link has held for 100 ms (R516). -/
def State.stackAvailable (s : State) : State :=
  if s.active && s.kind == .stack && s.sys.mainCoil && s.loops.any fun d => s.nowMode d.loop == mAfeDclink then
    { s with sys.available := true } else s

/-- STACK_AVAILABLE (R516). -/
def execStackAvailable (s : State) : Out := .next s.stackAvailable

/-! ### Floaters (R27 to R29, R427) -/

/-- The pair a floater takes first: the site pair, outlet pairs, stack pairs; within a class the lowest lower address (R28). -/
def floaterRank (r : RoleDecl) : Nat × Nat :=
  (match r.kind with
    | .site => 0
    | .outlet => 1
    | _ => 2, min r.unitA r.unitB)

/-- Does pair a come before pair b (R28)? -/
def floaterBefore (a b : RoleDecl) : Bool :=
  (floaterRank a).1 < (floaterRank b).1 || ((floaterRank a).1 == (floaterRank b).1 && (floaterRank a).2 < (floaterRank b).2)

/-- A member of a role instance, as TOPOLOGY names it, whose present unit the report names (R28). -/
def State.reportedMember (s : State) (report : List Nat) (r : RoleDecl) : Option Nat :=
  [r.unitA, r.unitB].find? fun a => report.contains (((s.mrk.floats.find? fun f => f.2.1 == r.instance_ && f.2.2 == a).map (·.1)).getD a)

/-- The pairs of a floater's span of which the report names a member and in which no floater stands yet (R28). -/
def State.qualifying (s : State) (report : List Nat) (f : Nat) : List RoleDecl :=
  (s.spanOf f).filterMap fun i => s.pat.content.roles.find? fun r => r.instance_ == i && r.unitB != 0 &&
    (s.reportedMember report r).isSome && !s.mrk.floats.any fun x => x.2.1 == i

/-- The one that the floater takes. -/
def State.floaterChoice (s : State) (report : List Nat) (f : Nat) : Option RoleDecl :=
  (s.qualifying report f).foldl (fun (o : Option RoleDecl) r => match o with
    | none => some r
    | some p => some (if floaterBefore r p then r else p)) none

/-- The units that may take a place over (R27 to R29): joined, not themselves reported, with a span, and holding no role of a span yet; by
rising address (log 105). -/
def State.freeFloaters (s : State) (report : List Nat) : List Nat :=
  ((List.range 97).drop 1).filter fun f => (s.member f || f == s.addr) && !report.contains f && !(s.spanOf f).isEmpty &&
    !s.mrk.floats.any (·.1 == f)

/-- A unit's duties in the last DUTY become another's (R28). -/
def dutyMoved (d : Duty) (old new : Nat) : Duty :=
  let f (a : Nat) : Nat := if a == old then new else a
  { witnesses := d.witnesses.map fun w => (w.1, f w.2), replicas := d.replicas.map fun h => (h.1, f h.2.1, f h.2.2) }

/-- A floater joins a pair of its span as standby in place of a member (R28, R427). -/
def State.floaterJoin (s : State) (r : RoleDecl) (member : Nat) : State :=
  let other := if r.unitA == member then r.unitB else r.unitA
  let s := s.loadRole r.instance_ other
  let s := (s.wrb F.PAIR_FLOAT_VALID true).wr F.PAIR_FLOAT_ENTRY ((s.spanOf s.addr).findIdx (· == r.instance_))
  let s := (s.wr F.PAIR_FLOAT_MEMBER (if other < member then 1 else 0)).wr F.PAIR_FLOAT_REPLACED member
  s.startForming

/-- What a role leaves in a unit that gives it up: nothing of its equipment stays commanded (R16, R29). -/
def State.dropRole (s : State) : State :=
  let s := s.dropClaim psNone
  let s := (s.ld F.PAIR_IDENT_INSTANCE 0).ld F.PAIR_IDENT_PARTNER 0
  { s.wr F.PAT_PARTNER_SERIAL 0 with
    pat.instance_ := 0
    pair := { lockIn := s.pair.lockIn, seq := s.pair.seq, grantAt := s.pair.grantAt, slotAt := s.pair.slotAt }
    vlk := { auxPos := s.vlk.auxPos, auxNeg := s.vlk.auxNeg, inconclusive := s.vlk.inconclusive }
    mrk.coil := 0, mrk.stack := none, mrk.outlet := none, mrk.lease := none, mrk.seq := .idle, mrk.zeroRamp := none, mrk.ready := false
    sys.preCoil := false, sys.preOk := false, sys.mainCoil := false, sys.available := false, sys.roleStarted := false
    sht := {}
    th.started := false
    saf.sfo := [false, false] }

/-- The unit whose place a floater takes becomes a floater of the same span, until the integrator decides otherwise (R29; log 91). -/
def State.becomeSpare (s : State) : State :=
  ({ s with pat.spareOf := s.floaterRoot s.mrk.floats.length s.addr } : State).dropRole

/-- The units that the Marker reports (R28): benched, or out of the ring for more than 60 s. -/
def State.reportOut (s : State) : List Nat :=
  s.mrk.benched ++ ((List.range 97).drop 1).filter fun a => (SMap.get (fun _ => none) s.mrk.outSince a).any fun t => t + 60000000000 < s.now

/-- One floater takes the first pair of its span that qualifies, with the duties of the unit that it replaces (R28). -/
def State.placeFloater (report : List Nat) (s : State) (f : Nat) : State :=
  match s.floaterChoice report f with
  | none => s
  | some r =>
    let member := (s.reportedMember report r).getD 0
    { s with mrk.floats := s.mrk.floats ++ [(f, r.instance_, member)], mrk.duty := dutyMoved s.mrk.duty member f }

/-- What the floaters' places mean to this unit: a floater that has been given a place joins that pair as standby (R28), a unit that is
replaced and holds no claim becomes a floater (R29). -/
def State.floaterOwn (s : State) (given : List (Nat × Nat × Nat)) : State :=
  if s.pat.instance_ == 0 then match given.find? (·.1 == s.addr) with
    | some f => if s.bar.benched != 0 then s else match s.pat.content.roles.find? (·.instance_ == f.2.1) with
      | some r => s.floaterJoin r f.2.2
      | none => s
    | none => s
  else if s.own == 0 && !s.rdb F.PAIR_FLOAT_VALID &&
      s.mrk.floats.any fun f => f.1 != s.addr && f.2.1 == s.pat.instance_ && f.2.2 == s.addr then s.becomeSpare
  else s

/-- The Marker reports members that are benched or have been out of the ring for more than 60 s (R28), with the places that floaters
hold: the active site unit from what it holds, every other unit from the report. Every unit places the free floaters alike. -/
def State.floaterReport (s : State) (report : List Nat) (taken : List (Nat × Nat × Nat)) : State :=
  if s.trg.join != .joined then s else
  let serves := s.kind == .site && s.active
  let out := if serves then s.reportOut else report
  let s : State := if serves then s else { s with mrk.floats := taken }
  let had := s.mrk.floats.length
  let s := (s.freeFloaters out).foldl (State.placeFloater out) s
  s.floaterOwn (s.mrk.floats.drop had)

/-- FLOATER_TAKEOVER (R28, R29). -/
def execFloaterTakeover (report : List Nat) (taken : List (Nat × Nat × Nat)) (s : State) : Out := .next (s.floaterReport report taken)

/-- A standby floater leaves its pair (R29): it holds no role again, FLT_SEL's VALID clears. No message tells the Marker (log 106). -/
def State.floaterLeave (s : State) : State :=
  let s := ({ s with mrk.floats := s.mrk.floats.filter (·.1 != s.addr) } : State).dropRole
  (((s.wrb F.PAIR_FLOAT_VALID false).wr F.PAIR_FLOAT_ENTRY 0).wr F.PAIR_FLOAT_MEMBER 0).wr F.PAIR_FLOAT_REPLACED 0

/-- PAIR_CMD RELEASE (R29, R430): a remote command, refused with COMMAND unless the unit is a floater holding a role; an active one leaves
when it is next standby. -/
def State.pairRelease (s : State) (side : Nat) : State :=
  if side == 0 || !s.rdb F.PAIR_FLOAT_VALID then s.accessError side eCommand pairCmdAddr
  else if s.active then { s with pair.releaseWait := true }
  else s.floaterLeave

/-- PAIR_RELEASE (R29). -/
def execPairRelease (side : Side) (key : BitVec 16) (s : State) : Out :=
  .next (s.command side pairCmdAddr key.toNat 0x2C95 fun s => s.pairRelease side)

/-- FLOATER_DEFERRED_RELEASE (R29). -/
def execFloaterDeferredRelease (s : State) : Out :=
  .next (if s.pair.releaseWait && !s.active && s.rdb F.PAIR_FLOAT_VALID then s.floaterLeave else s)

/-! ### The Barograph's commands (R489, R495, R497, R502, R503) -/

/-- Seconds of the case group's histogram from bin a to below bin b, in halves of a bin (R493). -/
def caseHalves (m : SMap Nat) (l : List (Nat × Nat)) : Nat := (l.map fun x => x.2 * SMap.get (fun _ => 0) m x.1).foldl (· + ·) 0

/-- BAR_STATUS.PROFILE (R489): after a year of powered time, the share of 85 °C to 105 °C above 8 %, or of 105 °C and more above 2 %. -/
def State.profileOver (s : State) : Bool :=
  let on := s.barGet 0
  let h := s.bar.cnt.tempHist
  let warm := caseHalves h [(12, 1), (13, 2), (14, 1)]
  let hot := caseHalves h ((14, 1) :: [15, 16, 17, 18, 19].map fun b => (b, 2))
  31536000 ≤ on && (8 * on * 100 < 100 * warm || 2 * on * 100 < 100 * hot)

/-- The 60 s save (R495). -/
def State.baroSave (s : State) : State := if s.sys.earlyWarning then s else (s.barSave).wrb F.BAR_STATUS_PROFILE s.profileOver

/-- BAROGRAPH_SAVE (R495). -/
def execBarographSave (s : State) : Out := .next s.baroSave

/-- Every 24 h of ledger time (R497). -/
def State.baroDaily (s : State) : State :=
  if s.ledger < s.bar.lastDaily + 691200000 then s else ({ s with bar.lastDaily := s.ledger } : State).barBlocks 1

/-- BAROGRAPH_DAILY (R497). -/
def execBarographDaily (s : State) : Out := .next s.baroDaily

/-- BAR_CMD. -/
def barCmdAddr : Nat := 0x2D008

/-- BAR_SNAPSHOT (R497). -/
def execBarSnapshot (side : Side) (key : BitVec 16) (s : State) : Out :=
  .next (s.command side barCmdAddr key.toNat 0x6D58 fun s => s.barBlocks 5)

/-- BAR_CMD UNBENCH (R502): over the shore link with the maintenance credential; the unit rejoins as standby. -/
def State.unbench (s : State) (side : Nat) : State :=
  if side == 0 || s.bar.benched == 0 then s.accessError side eState barCmdAddr
  else if !s.maint side then s.accessError side eCredential barCmdAddr
  else
    let s := ({ s with bar.benched := 0, bar.wdHist := [], bar.selResets := [], pat.spareOf := 0 } : State).benchRestore
    let s := (s.wrb F.BAR_STATUS_METER_SUSPECT false).event (evCode 0xD 3 3) 0
    let s := if s.pat.instance_ == 0 && s.trg.join == .joined then s.takeEntry.startForming else s
    if s.rd F.PAIR_STATUS_STATE == psCold && !s.rdb F.PAIR_STATUS_LINK then (s.setPairState psNone).startForming else s

/-- BAR_UNBENCH (R502). -/
def execBarUnbench (side : Side) (key : BitVec 16) (s : State) : Out :=
  .next (s.command side barCmdAddr key.toNat 0x6D58 fun s => s.unbench side)

/-- METER_SUSPECT_EXPIRY (R503): 30 days of ledger time without a reset of the partition alone. -/
def State.suspectExpiry (s : State) : State :=
  if s.ledger < s.bar.selResets.headD 0 + 20736000000 then s else s.wrb F.BAR_STATUS_METER_SUSPECT false

def execMeterSuspectExpiry (s : State) : Out := .next s.suspectExpiry

end Sys2Proof.Machine
end

