-- ==== Sys2Proof/Machine/Fabric.lean ====
section
/-!
DEFINITION. Machine/Fabric.lean: the register fabric: a word access of a side to any direct address, and the remote requests that run as
sequences of them (R63, R64, R83, R88, R89).
-/
namespace Sys2Proof.Machine
open Sys2Proof

/-- The state that a command leaves. -/
def leaves (s : State) : Out → State
  | .next t => t
  | _ => s

/-- A write of a keyed command register: its key, its reserved bits, then the command that the bits of `mask` spell; one that no table
lists is refused with COMMAND (R88). -/
def State.keyed (s : State) (side addr v want mask : Nat) (act : Nat → Option (State → Out)) : State :=
  s.command side addr (v / 65536) want fun s =>
    let c := v % 65536
    if (c &&& mask) != c then s.accessError side eReserved addr
    else match act c with
      | some f => leaves s (f s)
      | none => s.accessError side eCommand addr

/-- Several one-bit commands of a register, in turn. -/
def inTurn (fs : List (Bool × (State → Out))) : State → Out := fun s =>
  .next (fs.foldl (fun (s : State) f => if f.1 then leaves s (f.2 s) else s) s)

/-- The command registers (R57, R70, R81, R114, R165, R268, R313, R371, R400, R430, R452, R471, R487, R506, R522): `time` is the ring time
of the access, `fresh` that the side's challenge is at most 60 s old. None for any other address. -/
def State.commandWrite (s : State) (side : Side) (addr v time : Nat) (fresh : Bool) : Option State :=
  let key := BitVec.ofNat 16 (v / 65536)
  let on (want mask : Nat) (act : Nat → Option (State → Out)) : Option State := some (s.keyed side addr v want mask act)
  if addr == sysCmdAddr then on 0x1D62 3 fun c => match c with
    | 1 => some (execSysReset side key)
    | 2 => some (execSysResetForce side key)
    | _ => none
  else if addr == rtackAddr then on 0x6B2C 1 fun c => some (inTurn [(bit c 0, execRingTackRequest side key time)])
  else if addr == credCmdAddr then on 0x3C1D 3 fun c => match c with
    | 1 => some (execCredOpenMaintenance side key fresh)
    | 2 => some (execCredOpenSafety side key fresh)
    | 3 => some (execCredCloseAll side key)
    | _ => none
  else if addr == patCmdAddr then on 0x5A7E 0xFF fun c => match c with
    | 1 => some (execPatOpen side key)
    | 2 => some (execPatVerify side key)
    | 3 => some (execPatArm side key)
    | 4 => some (execPatArmSingle side key)
    | 5 => some (execPatCommit side key)
    | 6 => some (execPatAbort side key)
    | 7 => some (execPatSeal side key)
    | _ => none
  else if addr == trgCtrlAddr then on 0x7A4D 3 fun c =>
    some (inTurn [(bit c 1, execRekeyCommand side key), (bit c 0, execLeaveCommand side key)])
  else if addr == mrkCtrlAddr then on 0x2B6E 3 fun c => match c with
    | 1 => some (execMrkHoldOn side key)
    | 2 => some (execMrkHoldOff side key)
    | 3 => some (execMrkReplan side key)
    | _ => none
  else if addr == prtCmdAddr then on 0x9C31 0xFF03 fun c => match c % 4 with
    | 1 => some (execPrtReset side key (BitVec.ofNat 8 (c / 256)))
    | 2 => some (execPrtTest side key (BitVec.ofNat 8 (c / 256)))
    | 3 => some (execPrtTestAbort side key (BitVec.ofNat 8 (c / 256)))
    | _ => none
  else if addr == vlkCtrlAddr then on 0x5E21 7 fun c => match c with
    | 1 => some (execVlkAuthGrant side key)
    | 2 => some (execVlkAuthDeny side key)
    | 3 => some (execVlkStop side key)
    | 4 => some (execVlkResetLockout side key)
    | 5 => some (execVlkEsd side key)
    | _ => none
  else if addr == 0x2200C then on 0x8B17 3 fun c => match c with
    | 1 => some (execBilTimeSet side key)
    | 2 => some (execBilTamperAck side key)
    | _ => none
  else if addr == keyCmdAddr then on 0x47A3 3 fun c => match c with
    | 0 => some (execKeySubmit side key)
    | 1 => some (execKeyEnrol side key)
    | 2 => some (execKeyAttest side key)
    | _ => some (execKeyDebug side key s.key.dbgLow)
  else if addr == pairCmdAddr then on 0x2C95 3 fun c => match c with
    | 1 => some (execPairHandover side key)
    | 2 => some (execPairRelease side key)
    | _ => none
  else if addr == safCmdAddr then on 0x71D4 3 fun c => match c with
    | 1 => some (execSafReset side key)
    | 2 => some (execSafClearDemand side key)
    | 3 => some (execSafSetPw side key)
    | _ => none
  else if addr == mbxCtrlAddr then on 0x3E90 3 fun c =>
    some (inTurn [(bit c 0, execQueMbxPop side key), (bit c 1, execQueMbxPush side key)])
  else if addr == clkCmdAddr then on 0x5C03 1 fun c => some (inTurn [(bit c 0, execHostWake side key)])
  else if addr == barCmdAddr then on 0x6D58 3 fun c => match c with
    | 1 => some (execBarSnapshot side key)
    | 2 => some (execBarUnbench side key)
    | _ => none
  else match (List.finRange 8).find? fun (m : Fin 8) => addr == modeReqAddr m.val with
    | some m => on 0x4D0E 15 fun c => some (execModeRequest side key m (BitVec.ofNat 4 c))
    | none => none

/-- A write whose bit `n` is a command of its own: the other bits are written as the access codes say; if that is accepted and the bit
is 1 the command runs. -/
def State.bitCommand (s : State) (side addr v n : Nat) (f : State → Out) : State :=
  let t := s.writeReg side addr (v &&& (2 ^ 32 - 1 - 2 ^ n))
  if t.hbi.refused.isNone && bit v n then leaves t (f t) else t

/-- Registers whose write does more than its access codes say (R69, R79, R84, R85, R150, R196, R218, R389); none for any other address. -/
def State.specialWrite (s : State) (side : Side) (addr v : Nat) : Option State :=
  if addr == blockBase (blockOf addr) then
    (if h : blockOf addr < 20 then some (leaves s (execLevelWrite side ⟨blockOf addr, h⟩ (BitVec.ofNat 32 v) s)) else none)
  else if addr == F.HBI_TACK_MASK.addr then
    some (if v < 65536 then leaves s (execLocalTack side (BitVec.ofNat 16 v) s) else s.accessError side eReserved addr)
  else if addr == F.HBI_IDX_ADDR.addr then some (leaves s (execIdxAddrWrite side (BitVec.ofNat 32 v) s))
  else if addr == F.HBI_IDX_DATA.addr then some (leaves s (execIdxDataWrite side (BitVec.ofNat 32 v) s))
  else if addr == F.HBI_IDX_CTRL_INC.addr then some (s.bitCommand side addr v 1 (execIdxRelease side))
  else if addr == curtailAddr then some (leaves s (execCurtailWrite side (BitVec.ofNat 32 v) s))
  else if addr == F.MRK_CURTAIL_HOLD_HOLD.addr then
    (let t := s.writeReg side addr v
     some (if t.hbi.refused.isNone then t.sendPlanning else t))
  else if addr == F.KEY_CERT_DATA.addr then some (leaves s (execCertDataAccess side true (BitVec.ofNat 32 v) s))
  else match (List.finRange 8).find? fun (m : Fin 8) => addr == (F.SHT_LOOP_STATUS_PLS_FAULT m.val).addr with
    | some m => some (s.bitCommand side addr v 31 (execPlsFaultClear side m))
    | none => match (List.finRange 32).find? fun (e : Fin 32) => addr == (F.SHT_RC_CFG_CLEAR e.val).addr with
      | some e => some (s.bitCommand side addr v 29 (execRcClear side e))
      | none => none

/-- A direct write of a side (R63, R64, R88): the direct window ends at 0x3FFFF (R60). -/
def State.writeWord (s : State) (side : Side) (addr v time : Nat) (fresh : Bool) : State :=
  if 0x40000 ≤ addr then s.accessError side eAddr addr
  else match s.commandWrite side addr v time fresh with
    | some t => t
    | none => match s.specialWrite side addr v with
      | some t => t
      | none => s.writeReg side addr v

/-- REGISTER_WRITE (R64). -/
def execRegisterWrite (side : Side) (addr value : BitVec 32) (time : Nat) (fresh : Bool) (s : State) : Out :=
  .next (s.writeWord side addr.toNat value.toNat time fresh)

/-- A read without a command of its own: the word, zero where it is refused (R63, R64, R90). -/
def State.readReg (s : State) (side addr : Nat) : Nat × State :=
  match s.plainRead side addr with
  | .ok (v, t) => (v, t.accepted side)
  | .error e => (0, s.accessError side e addr)

/-- A direct read of a side: the word and the state after it. -/
def State.readWord (s : State) (side : Side) (addr : Nat) : Nat × State :=
  if 0x40000 ≤ addr then (0, s.accessError side eAddr addr)
  else if addr == (F.HBI_CRED_CHAL 0).addr then
    (let t := leaves s (execCredChallengeRead side s)
     (t.rd ((F.HBI_CRED_CHAL 0).bank side), t))
  else if addr == F.HBI_IDX_DATA.addr then ((s.idxDataRead side).1, leaves s (execIdxDataRead side s))
  else if addr == F.QUE_TRACE_DATA.addr then (if s.lullBlocks addr then 0 else s.traceHead, leaves s (execTraceRead side s))
  else if addr == F.KEY_CERT_DATA.addr then
    (let t := leaves s (execCertDataAccess side false 0 s)
     (if s.lullBlocks addr then 0 else t.rd (F.KEY_CERT_DATA.bank side), t))
  else if addr == (F.KEY_ENROL_DATA 11).addr then
    (if s.lullBlocks addr then 0 else s.rd (F.KEY_ENROL_DATA 11), leaves s (execEnrolDataRead side s))
  else s.readReg side addr

/-- REGISTER_READ (R64): the host's read drives the word on HB_D. -/
def State.registerRead (s : State) (side : Side) (addr : Nat) : State := (s.readWord side addr).2.drive side (s.readWord side addr).1

def execRegisterRead (side : Side) (addr : BitVec 32) (s : State) : Out := .next (s.registerRead side addr.toNat)

/-! ### Remote requests (R89, R110, R111) -/

/-- How far a remote request has come: the words of its completed read operations, those of the operation under way, the word accesses
made, and the operation refused with its code. -/
structure RemoteRun where
  s : State
  words : List Nat := []
  part : List Nat := []
  made : Nat := 0
  refused : Option (Nat × Nat) := none

/-- The window's transfer under way completes before an access. -/
def State.idxComplete (s : State) (side : Nat) : State := (s.idxFetchDone side).idxPostDone side

/-- Under the golden image remote access reaches the SYS, PAT, KEY and BAR blocks (R44), and the session's own instruments in HBI, without
which no image could be written (log 92); any other block is refused with STATE. -/
def State.goldenShuts (s : State) (addr : Nat) : Bool := s.runSlot == 3 && !([0, 1, 2, 14, 19] : List Nat).contains (blockOf addr)

/-- One word access of operation i. A refused one stops the request (R89); so does a reset that ends the unit's execution of it. -/
def RemoteRun.word (r : RemoteRun) (side : Side) (job : RemoteJob) (ready : List Nat) (time : Nat) (fresh : Bool) (i : Nat) (op : AccessOp)
    (k : Nat) : RemoteRun :=
  if r.refused.isSome || !r.s.trg.jobs.contains job then r else
  let s := if ready.contains r.made then r.s.idxComplete side else r.s
  let s : State := { s with hbi.refused := none }
  let addr := op.addr + if op.fixed then 0 else 4 * k
  if r.s.goldenShuts addr then { r with s := s.accessError side eState addr, made := r.made + 1, refused := some (i, eState) } else
  let x : Nat × State := if op.write then (0, s.writeWord side addr (op.words.getD k 0) time fresh) else s.readWord side addr
  { r with
    s := x.2
    made := r.made + 1
    part := if op.write then r.part else r.part ++ [x.1]
    refused := x.2.hbi.refused.map fun e => (i, e) }

/-- One operation of a request: the words of a read operation that completes go into the response (R111). -/
def RemoteRun.op (r : RemoteRun) (side : Side) (job : RemoteJob) (ready : List Nat) (time : Nat) (fresh : Bool) (i : Nat) (op : AccessOp) :
    RemoteRun :=
  let r := (List.range op.count).foldl (fun (r : RemoteRun) k => r.word side job ready time fresh i op k) { r with part := [] }
  if r.refused.isSome then r else { r with words := r.words ++ r.part }

/-- A request is answered at the active site unit: it is no longer outstanding (R110). -/
def State.resolve (s : State) (session typ reqId target : Nat) : State :=
  let x := s.session session
  match x.outstanding.find? fun q => q.typ == typ && q.reqId == reqId && q.target == target with
  | some q => s.setSession session { x with outstanding := x.outstanding.erase q }
  | none => s

/-- The active site unit answers an open session. -/
def State.answerShore (s : State) (session typ reqId target status index : Nat) (body : List Nat) : State :=
  if !(s.session session).isOpen then s
  else (s.resolve session typ reqId target).toShore session (shoreMessage (0x8000 + typ) reqId target status index body)

/-- This unit's answer to a session's request: to the session at the active site unit, else over the ring to it (R89, R110). -/
def State.answerSession (s : State) (channel session typ reqId status index : Nat) (body : List Nat) : State :=
  if s.kind == .site && s.active then s.answerShore session typ reqId s.addr status index body
  else s.ringReply channel s.trg.lastMaster (session :: shoreMessage (0x8000 + typ) reqId s.addr status index body)

/-- A session's client and rights as its request tells them to this unit; the unit that holds the session knows them. -/
def State.knowSession (s : State) (session client : Nat) (observe operate : Bool) : State :=
  let x := s.session session
  if x.isOpen then s else s.setSession session { x with client := client, observe := observe, operate := operate }

/-- The data words of a write. -/
def bodyWords : Nat → List Nat → List Nat
  | 0, _ => []
  | n + 1, bs => leNat (bs.take 4) :: bodyWords n (bs.drop 4)

/-- The operations of an ACCESS body, at most `n`; none where it does not parse (R111). -/
def parseOps : Nat → List Nat → Option (List AccessOp)
  | _, [] => some []
  | n + 1, kind :: flags :: c0 :: c1 :: a0 :: a1 :: a2 :: a3 :: rest =>
    let count := leNat [c0, c1]
    let data := if kind == 2 then 4 * count else 0
    if !(kind == 1 || kind == 2) || 1 < flags || count == 0 || 256 < count || rest.length < data then none
    else match parseOps n (rest.drop data) with
      | none => none
      | some ops => some ({ write := kind == 2, fixed := flags == 1, count := count, addr := leNat [a0, a1, a2, a3],
                            words := bodyWords (data / 4) rest } :: ops)
  | _, _ => none

/-- A subscription at its target: set, replaced or ended, and answered (R466). -/
def State.subscribed (s : State) (k reqId : Nat) (body : List Nat) : State :=
  (s.subscribe k reqId (leNat (body.take 2)) (body.getD 2 0) (body.getD 3 0)).answerSession 3 k 4 reqId 0 0xFFFF []

/-- An ACCESS executes word by word (R89, R111): `ready` names the word accesses before which the session's window completes its
transfer. A reset on the way ends it without an answer. -/
def State.runAccess (s : State) (job : RemoteJob) (side : Side) (ready : List Nat) (time : Nat) (fresh : Bool) : State :=
  match parseOps 256 job.body with
  | none => ({ s with trg.jobs := s.trg.jobs.erase job } : State).answerSession 3 side 1 job.reqId 0x22 0xFFFF []
  | some ops =>
    let r := (List.range ops.length).foldl (fun (r : RemoteRun) i => r.op side job ready time fresh i (ops.getD i {})) { s := s }
    if !r.s.trg.jobs.contains job then r.s else
    let t : State := { r.s with trg.jobs := r.s.trg.jobs.erase job }
    let body := r.words.flatMap (leBytes 4)
    match r.refused with
    | some (i, e) => t.answerSession 3 side 1 job.reqId e i body
    | none => t.answerSession 3 side 1 job.reqId 0 0xFFFF body

/-- The unit executes the oldest request that has reached it (R89, R110). -/
def State.remoteRequest (s : State) (ready : List Nat) (time : Nat) (fresh : Bool) : State :=
  match s.trg.jobs with
  | [] => s
  | job :: rest =>
    if s.inLull || s.trg.join != .joined then s
    else if h : 1 ≤ job.session ∧ job.session ≤ 4 then
      let side : Side := ⟨job.session, by omega⟩
      let s := s.knowSession side job.client job.observe job.operate
      if job.typ == 4 then ({ s with trg.jobs := rest } : State).subscribed side job.reqId job.body
      else s.runAccess job side ready time fresh
    else { s with trg.jobs := rest }

/-- REMOTE_REQUEST (R89). -/
def execRemoteRequest (ready : List Nat) (time : Nat) (fresh : Bool) (s : State) : Out := .next (s.remoteRequest ready time fresh)

end Sys2Proof.Machine
end

