-- ==== Sys2Proof/Machine/Shore.lean ====
section
/-!
DEFINITION. Machine/Shore.lean: the shore link: sessions, requests and records (R82, R109 to R112, R160, R466).
-/
namespace Sys2Proof.Machine
open Sys2Proof

/-! ### Sessions (R82, R109) -/

/-- The side of a session. -/
def sideOf (session : Fin 4) : Nat := session.val + 1

/-- TRG_SHORE_SESS.OPEN. -/
def State.showSessions (s : State) : State := s.wr F.TRG_SHORE_SESS_OPEN ([1, 2, 3, 4].filter fun k => (s.session k).isOpen).length

/-- A session ends: its side's holdings, its subscription here and what the unit knows of it go (R82, R109). -/
def State.endSession (s : State) (k : Nat) : State :=
  let s := (s.endSide k).setSession k {}
  ({ s with que.subs := s.que.subs.filter (·.session != k), trg.jobs := s.trg.jobs.filter (·.session != k) } : State).showSessions

/-- SHORE_SESSION_TIMEOUT (R109). -/
def execShoreSessionTimeout (session : Fin 4) (s : State) : Out := .next (s.endSession (sideOf session))

/-- A session is closed by its client; a unit that the session reached takes it the same way (R82). -/
def State.closeSession (s : State) (k : Nat) : State := s.endSession k

/-- SHORE_SESSION_CLOSE (R82). -/
def execShoreSessionClose (session : Fin 4) (s : State) : Out := .next (s.closeSession (sideOf session))

/-- The shore client entry with a digest that admits: a valid one with a right set (R109, R389). -/
def State.clientEntry (s : State) (digest : List Nat) : Option Nat :=
  (List.range 16).find? fun j => s.rdb (F.KEY_CLIENT_VALID j) && (State.cell s.key.clients j).now.bytes == digest &&
    (s.rdb (F.KEY_CLIENT_OBSERVE j) || s.rdb (F.KEY_CLIENT_OPERATE j))

/-- A session that client entry j admits, with the entry's rights. -/
def State.admitted (s : State) (j : Nat) : ShoreSt :=
  { isOpen := true, client := j, observe := s.rdb (F.KEY_CLIENT_OBSERVE j), operate := s.rdb (F.KEY_CLIENT_OPERATE j) }

/-- A handshake on port 4720: `tlsOk` says TLS and its mutual authentication succeed, `digest` is that of the client's public key. A fifth
is refused (R109). -/
def State.connect (s : State) (tlsOk : Bool) (digest : List Nat) : State :=
  if !tlsOk || s.inLull || s.kind != .site || !s.active || !s.rdb F.TRG_SHORE_CFG_ENABLE then s else
  match s.clientEntry digest, [1, 2, 3, 4].find? fun k => !(s.session k).isOpen with
  | some j, some k =>
    ((s.endSession k).setSession k (s.admitted j)).showSessions
  | _, _ => s

/-- SHORE_CONNECT (R109). -/
def execShoreConnect (tlsOk : Bool) (digest : List Nat) (s : State) : Out := .next (s.connect tlsOk digest)

/-! ### Requests (R110, R111) -/

def stUnreachable : Nat := 0x20
def stBusy : Nat := 0x21
def stBadMessage : Nat := 0x22
def stRights : Nat := 0x23
def stNotFound : Nat := 0x24

/-- A request of an open session at the active site unit: a LENGTH outside 8 to 8,188 closes the session, a ninth outstanding request
finds it busy (R110). -/
def State.shoreRequest (s : State) (k typ reqId target length : Nat) (f : State → State) : State :=
  if s.kind != .site || !s.active || !(s.session k).isOpen then s
  else if length < 8 || 8188 < length then (s.answerShore k typ reqId target stBadMessage 0xFFFF []).endSession k
  else if 8 ≤ (s.session k).outstanding.length then
    s.toShore k (shoreMessage (0x8000 + typ) reqId target stBusy 0xFFFF [])
  else f s

/-- A refusal of a request that was not forwarded. -/
def State.refuse (s : State) (k typ reqId target status : Nat) : State :=
  s.toShore k (shoreMessage (0x8000 + typ) reqId target status 0xFFFF [])

/-- A unit that a request can reach (R110). -/
def State.reachable (s : State) (a : Nat) : Bool := 1 ≤ a && a ≤ 96 && (a == s.addr || s.member a)

/-- A request to this unit itself waits behind those before it (R110). -/
def State.ownJob (s : State) (k : Nat) (q : ShoreReq) : State :=
  let x := s.session k
  { s with trg.jobs := s.trg.jobs ++ [{ session := k, client := x.client, observe := x.observe, operate := x.operate, typ := q.typ,
                                        reqId := q.reqId, body := q.body }] }

/-- A request becomes outstanding; one to another unit is forwarded, one to this unit waits to be executed (R89, R110). -/
def State.dispatch (s : State) (k : Nat) (q : ShoreReq) : State :=
  if !s.reachable q.target then s.refuse k q.typ q.reqId q.target stUnreachable else
  let x := s.session k
  let s := s.setSession k { x with outstanding := x.outstanding ++ [q] }
  if q.target == s.addr then s.ownJob k q else s.forward k q.target q

/-- An ACCESS request (R111): its format, then the session's rights, then its target. -/
def State.access (s : State) (k reqId target length : Nat) (body : List Nat) : State :=
  s.shoreRequest k 1 reqId target length fun s =>
    match parseOps 256 body with
    | none => s.refuse k 1 reqId target stBadMessage
    | some ops =>
      let x := s.session k
      if (ops.any (·.write) && !x.operate) || (ops.any (!·.write) && !x.observe) then s.refuse k 1 reqId target stRights
      else s.dispatch k { typ := 1, reqId := reqId, target := target, body := body }

/-- SHORE_ACCESS (R111). -/
def execShoreAccess (session : Fin 4) (reqId target length : Nat) (body : List Nat) (s : State) : Out :=
  .next (s.access (sideOf session) reqId target length body)

/-- A response of another unit comes back over the ring: to its session if the request is outstanding; a message of a subscription goes to
its session (R110, R466). -/
def State.remoteResponse (s : State) (k typ reqId target status index : Nat) (body : List Nat) : State :=
  let x := s.session k
  let asked := x.outstanding.any fun q => 0x8000 + q.typ == typ && q.reqId == reqId && q.target == target
  if s.kind != .site || !s.active || !x.isOpen then s
  else if asked then s.answerShore k (typ - 0x8000) reqId target status index body
  else if typ == 0x8004 && body != [] then s.toShore k (shoreMessage typ reqId target status index body)
  else s

/-- REMOTE_RESPONSE (R110). -/
def execRemoteResponse (session : Fin 4) (typ reqId target status index : Nat) (body : List Nat) (s : State) : Out :=
  .next (s.remoteResponse (sideOf session) typ reqId target status index body)

/-- 100 ms have passed without an answer (R110). -/
def State.unreachable (s : State) (k reqId target : Nat) : State :=
  match (s.session k).outstanding.find? fun q => q.reqId == reqId && q.target == target with
  | none => s
  | some q => s.answerShore k q.typ reqId target stUnreachable 0xFFFF []

/-- REMOTE_UNREACHABLE (R110). -/
def execRemoteUnreachable (session : Fin 4) (reqId target : Nat) (s : State) : Out :=
  .next (s.unreachable (sideOf session) reqId target)

/-- KEEPALIVE (R109, R110): answered by the site unit. -/
def State.keepalive (s : State) (k reqId target length : Nat) : State :=
  s.shoreRequest k 5 reqId target length fun s => s.refuse k 5 reqId target 0

/-- SHORE_KEEPALIVE (R110). -/
def execShoreKeepalive (session : Fin 4) (reqId target length : Nat) (s : State) : Out :=
  .next (s.keepalive (sideOf session) reqId target length)

/-! ### Subscriptions (R466) -/

/-- Is this the active site unit, at which sessions end? -/
def State.servesShore (s : State) : Bool := s.kind == .site && s.active

/-- The subscription takes effect at its target: at once, or behind the requests that reached it before (R110). -/
def State.subscribeJob (s : State) (k : Nat) (q : ShoreReq) : State :=
  if s.trg.jobs == [] then s.subscribed k q.reqId q.body else s.ownJob k q

/-- EVENT_SUBSCRIBE (R466): at the active site unit it goes to its target, at a target it takes effect. -/
def State.eventSubscribe (s : State) (k reqId target length : Nat) (body : List Nat) : State :=
  let q : ShoreReq := { typ := 4, reqId := reqId, target := target, body := body }
  if s.servesShore then s.shoreRequest k 4 reqId target length fun s =>
    if body.length != 4 || 1 < body.getD 3 0 then s.refuse k 4 reqId target stBadMessage
    else if target != s.addr || s.trg.jobs != [] then s.dispatch k q
    else
      let x := s.session k
      (s.setSession k { x with outstanding := x.outstanding ++ [q] }).subscribed k reqId body
  else if s.inLull || s.trg.join != .joined || target != s.addr || body.length != 4 then s
  else s.subscribeJob k q

/-- SHORE_EVENT_SUBSCRIBE (R466). -/
def execShoreEventSubscribe (session : Fin 4) (reqId target length : Nat) (body : List Nat) (s : State) : Out :=
  .next (s.eventSubscribe (sideOf session) reqId target length body)

/-! ### Records (R112, R160) -/

/-- A JOURNAL_GET or BAROGRAPH_GET body. -/
structure RecordAsk where
  owner : Nat := 0
  /-- 0 legal journal, 1 safety change log, 2 Barograph. -/
  what : Nat := 0
  first : Nat := 0
  count : Nat := 0
deriving DecidableEq, Repr, Inhabited

/-- The body of a record request by its TYPE; none where it is not one (R112). -/
def recordAsk (typ : Nat) (body : List Nat) : Option RecordAsk :=
  let q : RecordAsk := if typ == 2 then
      { owner := body.getD 0 0, what := body.getD 1 0, first := leNat ((body.drop 4).take 8), count := leNat ((body.drop 12).take 2) }
    else { owner := body.getD 0 0, what := 2, first := leNat ((body.drop 4).take 4), count := leNat ((body.drop 8).take 2) }
  let zeros := body.getD 2 0 == 0 && body.getD 3 0 == 0 && (typ == 2 || body.getD 1 0 == 0)
  if body.length == (if typ == 2 then 14 else 10) && zeros && (typ != 2 || q.what ≤ 1) && 1 ≤ q.count && q.count ≤ 64 then some q else none

/-- A record that this unit holds, as the owner or as a replica holder (R112, R158): a signed legal record, a record of the safety change
log, a Barograph block. -/
def State.recordAt (s : State) (q : RecordAsk) (n : Nat) : Option (List Nat) :=
  if q.owner != s.addr then
    if q.what == 1 then none else
      (s.mrk.replicas.find? fun r => r.1 == q.owner && r.2.1 == (q.what == 2) && r.2.2.1 == n).map fun r => r.2.2.2
  else match q.what with
    | 0 => match s.bil.journal.find? (·.seq == n) with
      | some r => r.signature.map fun g => r.bytes ++ g
      | none => none
    | 1 =>
      let b := SMap.get (fun _ => []) s.saf.log (n % 1024)
      if b != [] && leNat (b.take 8) == n then some b else none
    | _ => (s.bar.blocks.find? (·.no == n)).map fun b => b.bytes Config.deviceId

/-- The records from the first asked for up to one that this unit does not hold. -/
def State.recordsFrom (s : State) (q : RecordAsk) : Nat → Nat → List (List Nat)
  | 0, _ => []
  | n + 1, at_ => match s.recordAt q at_ with
    | none => []
    | some b => b :: s.recordsFrom q n (at_ + 1)

/-- This unit's answer to a record request: STATUS, and the serving address with the records found (R112). -/
def State.recordAnswer (s : State) (q : RecordAsk) : Nat × List Nat :=
  let rs := s.recordsFrom q q.count q.first
  (if rs.length == q.count then 0 else stNotFound, [s.addr, 0, 0, 0] ++ rs.flatMap id)

/-- Who may hold an owner's records: the owner, and except of the safety change log its two replica holders and those that kept their
copies in Lull (R112, R158 to R160). -/
def State.recordHolders (s : State) (q : RecordAsk) : List Nat :=
  if q.what == 1 then [q.owner]
  else q.owner :: s.holdersOf q.owner ++ (s.mrk.copies.filter (·.1 == q.owner)).map (·.2)

/-- A unit in Lull is woken for a record (R155, R160). -/
def State.wakeFor (s : State) (a : Nat) : State :=
  if s.mrk.waking.any (·.1 == a) then s
  else ({ s with mrk.waking := s.mrk.waking ++ [(a, s.now)] } : State).ringSend 6 2 a [0x04]

/-- A record request goes to the next unit that may hold the records: a joined one serves it, otherwise one in Lull is woken; with none left
the last answer stands (R112, R160). `n` bounds the holders. -/
def State.recordRoute (k : Nat) (r : ShoreReq) (q : RecordAsk) : Nat → (Nat × List Nat) → State → State
  | 0, last, s => s.answerShore k r.typ r.reqId r.target last.1 0xFFFF last.2
  | n + 1, last, s =>
    let left := (s.recordHolders q).filter fun a => !r.tried.contains a
    let keep (s : State) (r' : ShoreReq) : State :=
      let x := (s.resolve k r.typ r.reqId r.target).session k
      (s.resolve k r.typ r.reqId r.target).setSession k { x with outstanding := x.outstanding ++ [r'] }
    match left.find? fun a => s.reachable a with
    | some a =>
      let r' : ShoreReq := { r with tried := r.tried ++ [a], waits := none }
      if a == s.addr then
        if (s.recordAnswer q).2.length ≤ 4 then State.recordRoute k r' q n (s.recordAnswer q) (keep s r')
        else s.answerShore k r.typ r.reqId r.target (s.recordAnswer q).1 0xFFFF (s.recordAnswer q).2
      else (keep s r').forward k a r'
    | none => match left.find? fun a => s.mrk.lullUnits.contains a with
      | some a => (keep s { r with waits := some a }).wakeFor a
      | none => s.answerShore k r.typ r.reqId r.target last.1 0xFFFF last.2

/-- A record request (R112): at the active site unit it goes to a unit that may hold the records, at that unit it is served on channel
0x04. -/
def State.recordGet (s : State) (typ k reqId target length : Nat) (body : List Nat) : State :=
  if s.servesShore then s.shoreRequest k typ reqId target length fun s =>
    match recordAsk typ body with
    | none => s.refuse k typ reqId target stBadMessage
    | some q =>
      let r : ShoreReq := { typ := typ, reqId := reqId, target := target, body := body }
      let x := s.session k
      State.recordRoute k r q ((s.recordHolders q).length + 1) (stNotFound, [s.addr, 0, 0, 0]) (s.setSession k { x with outstanding := x.outstanding ++ [r] })
  else match recordAsk typ body with
    | none => s
    | some q =>
      if s.inLull || s.trg.join != .joined then s else
      s.ringReply 4 s.trg.lastMaster
        (k :: shoreMessage (0x8000 + typ) reqId target (s.recordAnswer q).1 0xFFFF (s.recordAnswer q).2)

/-- SHORE_JOURNAL_GET (R112). -/
def execShoreJournalGet (session : Fin 4) (reqId target length : Nat) (body : List Nat) (s : State) : Out :=
  .next (s.recordGet 2 (sideOf session) reqId target length body)

/-- SHORE_BAROGRAPH_GET (R112). -/
def execShoreBarographGet (session : Fin 4) (reqId target length : Nat) (body : List Nat) (s : State) : Out :=
  .next (s.recordGet 3 (sideOf session) reqId target length body)

/-- Records come in on channel 0x04 in answer to a request (R112): an answer without any record sends the request on. -/
def State.recordTransfer (s : State) (k typ reqId target status : Nat) (body : List Nat) : State :=
  if !s.servesShore then s else
  match (s.session k).outstanding.find? fun q => 0x8000 + q.typ == typ && q.reqId == reqId && q.target == target with
  | none => s
  | some r => match recordAsk r.typ r.body with
    | none => s
    | some q =>
      if body.length ≤ 4 then State.recordRoute k r q ((s.recordHolders q).length + 1) (status, body) s
      else s.answerShore k r.typ reqId target status 0xFFFF body

/-- RECORD_TRANSFER (R112). -/
def execRecordTransfer (session : Fin 4) (typ reqId target status : Nat) (body : List Nat) (s : State) : Out :=
  .next (s.recordTransfer (sideOf session) typ reqId target status body)

end Sys2Proof.Machine
end

