-- ==== Sys2Proof/Machine/Dispatch.lean ====
section
/-!
DEFINITION. Machine/Dispatch.lean: one arm per command of the opcode table, each one direct call of its meaning.
-/
namespace Sys2Proof.Machine
open Sys2Proof

def exec (i : Instr) (s : State) : Host.Outcome State Fault Refusal :=
  match i with
  | .powerOn => Sys2Proof.Machine.execPowerOn s
  | .startBegin straps bist selOk rtc memA memB dbgLow => Sys2Proof.Machine.execStartBegin straps bist selOk rtc memA memB dbgLow s
  | .brownOutReset => Sys2Proof.Machine.execBrownOutReset s
  | .earlyWarning => Sys2Proof.Machine.execEarlyWarning s
  | .earlyWarningClear => Sys2Proof.Machine.execEarlyWarningClear s
  | .resetPin => Sys2Proof.Machine.execResetPin s
  | .sysReset side key => Sys2Proof.Machine.execSysReset side key s
  | .sysResetForce side key => Sys2Proof.Machine.execSysResetForce side key s
  | .comparatorSelfTest time => Sys2Proof.Machine.execComparatorSelfTest time s
  | .formingTimeout time => Sys2Proof.Machine.execFormingTimeout time s
  | .roleStart => Sys2Proof.Machine.execRoleStart s
  | .prechargeComplete => Sys2Proof.Machine.execPrechargeComplete s
  | .prechargeTimeout => Sys2Proof.Machine.execPrechargeTimeout s
  | .prechargeRetry => Sys2Proof.Machine.execPrechargeRetry s
  | .patOpen side key => Sys2Proof.Machine.execPatOpen side key s
  | .patVerify side key => Sys2Proof.Machine.execPatVerify side key s
  | .patVerifyDone memOk => Sys2Proof.Machine.execPatVerifyDone memOk s
  | .patArm side key => Sys2Proof.Machine.execPatArm side key s
  | .patArmSingle side key => Sys2Proof.Machine.execPatArmSingle side key s
  | .patCommit side key => Sys2Proof.Machine.execPatCommit side key s
  | .patAbort side key => Sys2Proof.Machine.execPatAbort side key s
  | .patSeal side key => Sys2Proof.Machine.execPatSeal side key s
  | .updateOwnerTimeout => Sys2Proof.Machine.execUpdateOwnerTimeout s
  | .trialExpiry => Sys2Proof.Machine.execTrialExpiry s
  | .trialDeferredRevert => Sys2Proof.Machine.execTrialDeferredRevert s
  | .scrubWord finding => Sys2Proof.Machine.execScrubWord finding s
  | .registerWrite side addr value time fresh => Sys2Proof.Machine.execRegisterWrite side addr value time fresh s
  | .levelWrite side b value => Sys2Proof.Machine.execLevelWrite side b value s
  | .localTack side mask => Sys2Proof.Machine.execLocalTack side mask s
  | .tackPinEdge widthNs time => Sys2Proof.Machine.execTackPinEdge widthNs time s
  | .pfgLiveTimeout g => Sys2Proof.Machine.execPfgLiveTimeout g s
  | .ringTackRequest side key time => Sys2Proof.Machine.execRingTackRequest side key time s
  | .ringTackInstant time => Sys2Proof.Machine.execRingTackInstant time s
  | .credChallengeRead side => Sys2Proof.Machine.execCredChallengeRead side s
  | .credOpenMaintenance side key fresh => Sys2Proof.Machine.execCredOpenMaintenance side key fresh s
  | .credOpenSafety side key fresh => Sys2Proof.Machine.execCredOpenSafety side key fresh s
  | .credCloseAll side key => Sys2Proof.Machine.execCredCloseAll side key s
  | .credTimeout side safety => Sys2Proof.Machine.execCredTimeout side safety s
  | .credLockoutEnd side => Sys2Proof.Machine.execCredLockoutEnd side s
  | .idxAddrWrite side addr => Sys2Proof.Machine.execIdxAddrWrite side addr s
  | .idxDataRead side => Sys2Proof.Machine.execIdxDataRead side s
  | .idxDataWrite side value => Sys2Proof.Machine.execIdxDataWrite side value s
  | .idxFetchDone side => Sys2Proof.Machine.execIdxFetchDone side s
  | .idxPostDone side => Sys2Proof.Machine.execIdxPostDone side s
  | .idxRelease side => Sys2Proof.Machine.execIdxRelease side s
  | .idxPortTimeout side => Sys2Proof.Machine.execIdxPortTimeout side s
  | .idxPortFree side => Sys2Proof.Machine.execIdxPortFree side s
  | .remoteRequest ready time fresh => Sys2Proof.Machine.execRemoteRequest ready time fresh s
  | .remoteResponse session typ reqId target status index body => Sys2Proof.Machine.execRemoteResponse session typ reqId target status index body s
  | .remoteUnreachable session reqId target => Sys2Proof.Machine.execRemoteUnreachable session reqId target s
  | .cycleStart time unwrapNext wrapped => Sys2Proof.Machine.execCycleStart time unwrapNext wrapped s
  | .trainDelimiter dirB wrapped ringWrapped cycle hop correction delay forward neighbour master time => Sys2Proof.Machine.execTrainDelimiter dirB wrapped ringWrapped cycle hop correction delay forward neighbour master time s
  | .cycleHeaderReceive header dirB tagOk arrival steer => Sys2Proof.Machine.execCycleHeaderReceive header dirB tagOk arrival steer s
  | .dataSlotReceive slot cycle tagOk => Sys2Proof.Machine.execDataSlotReceive slot cycle tagOk s
  | .squallEvent code arg => Sys2Proof.Machine.execSquallEvent code arg s
  | .squallSend cycle => Sys2Proof.Machine.execSquallSend cycle s
  | .squallReceive frame tagOk => Sys2Proof.Machine.execSquallReceive frame tagOk s
  | .linkBreak port => Sys2Proof.Machine.execLinkBreak port s
  | .ringUnwrap port => Sys2Proof.Machine.execRingUnwrap port s
  | .provisionalMaster time => Sys2Proof.Machine.execProvisionalMaster time s
  | .ptpSync offset calendar locked port => Sys2Proof.Machine.execPtpSync offset calendar locked port s
  | .ptpSyncTimeout => Sys2Proof.Machine.execPtpSyncTimeout s
  | .joinRequest dirB => Sys2Proof.Machine.execJoinRequest dirB s
  | .joinWindowTake windowA windowB => Sys2Proof.Machine.execJoinWindowTake windowA windowB s
  | .joinChalReceive nonce => Sys2Proof.Machine.execJoinChalReceive nonce s
  | .joinResponseCheck addr response => Sys2Proof.Machine.execJoinResponseCheck addr response s
  | .joinRetry => Sys2Proof.Machine.execJoinRetry s
  | .ringKeyReceive epoch wrapped next => Sys2Proof.Machine.execRingKeyReceive epoch wrapped next s
  | .rekeyDeliveryReceive epoch wrapped => Sys2Proof.Machine.execRekeyDeliveryReceive epoch wrapped s
  | .leaveCommand side key => Sys2Proof.Machine.execLeaveCommand side key s
  | .declaredLeave addr => Sys2Proof.Machine.execDeclaredLeave addr s
  | .rekeyCommand side key => Sys2Proof.Machine.execRekeyCommand side key s
  | .rekeyDue => Sys2Proof.Machine.execRekeyDue s
  | .epochAdvance time => Sys2Proof.Machine.execEpochAdvance time s
  | .pairFrameSend time => Sys2Proof.Machine.execPairFrameSend time s
  | .pairShadowFrame frame time => Sys2Proof.Machine.execPairShadowFrame frame time s
  | .pairSafetyFrame head prot safety uv time => Sys2Proof.Machine.execPairSafetyFrame head prot safety uv time s
  | .heartbeatMissed item time => Sys2Proof.Machine.execHeartbeatMissed item time s
  | .pairItemRoleDigest digest image serial addr time => Sys2Proof.Machine.execPairItemRoleDigest digest image serial addr time s
  | .pairItemPrtReset groups => Sys2Proof.Machine.execPairItemPrtReset groups s
  | .pairItemSessionMark close sid time source => Sys2Proof.Machine.execPairItemSessionMark close sid time source s
  | .pairItemSessionValues imp exp complete unbooked closed => Sys2Proof.Machine.execPairItemSessionValues imp exp complete unbooked closed s
  | .pairItemImdPhase phase => Sys2Proof.Machine.execPairItemImdPhase phase s
  | .pairItemVehicleSession session => Sys2Proof.Machine.execPairItemVehicleSession session s
  | .pairItemObserver tc m b => Sys2Proof.Machine.execPairItemObserver tc m b s
  | .pairItemMrkValues values => Sys2Proof.Machine.execPairItemMrkValues values s
  | .pairItemRoleFigures fig role => Sys2Proof.Machine.execPairItemRoleFigures fig role s
  | .shoreConnect tlsOk digest => Sys2Proof.Machine.execShoreConnect tlsOk digest s
  | .shoreSessionTimeout session => Sys2Proof.Machine.execShoreSessionTimeout session s
  | .shoreAccess session reqId target length body => Sys2Proof.Machine.execShoreAccess session reqId target length body s
  | .shoreJournalGet session reqId target length body => Sys2Proof.Machine.execShoreJournalGet session reqId target length body s
  | .shoreBarographGet session reqId target length body => Sys2Proof.Machine.execShoreBarographGet session reqId target length body s
  | .shoreEventSubscribe session reqId target length body => Sys2Proof.Machine.execShoreEventSubscribe session reqId target length body s
  | .shoreKeepalive session reqId target length => Sys2Proof.Machine.execShoreKeepalive session reqId target length s
  | .recordTransfer session typ reqId target status body => Sys2Proof.Machine.execRecordTransfer session typ reqId target status body s
  | .markerCycleStart time => Sys2Proof.Machine.execMarkerCycleStart time s
  | .solveComplete updating => Sys2Proof.Machine.execSolveComplete updating s
  | .solveDeadline best updating => Sys2Proof.Machine.execSolveDeadline best updating s
  | .reportSample curve => Sys2Proof.Machine.execReportSample curve s
  | .stackStatusReceive time report => Sys2Proof.Machine.execStackStatusReceive time report s
  | .stackCurveReceive time row curve => Sys2Proof.Machine.execStackCurveReceive time row curve s
  | .outletStatusReceive time report => Sys2Proof.Machine.execOutletStatusReceive time report s
  | .planReceive plan src => Sys2Proof.Machine.execPlanReceive plan src s
  | .planTack time => Sys2Proof.Machine.execPlanTack time s
  | .dutyReceive duty src => Sys2Proof.Machine.execDutyReceive duty src s
  | .demandSend cycle time => Sys2Proof.Machine.execDemandSend cycle time s
  | .demandReceive demand => Sys2Proof.Machine.execDemandReceive demand s
  | .demandLost time => Sys2Proof.Machine.execDemandLost time s
  | .leadSend cycle time iLead => Sys2Proof.Machine.execLeadSend cycle time iLead s
  | .leadReceive lead => Sys2Proof.Machine.execLeadReceive lead s
  | .leadLost time => Sys2Proof.Machine.execLeadLost time s
  | .leaseRampStart time => Sys2Proof.Machine.execLeaseRampStart time s
  | .leaseExpiry time => Sys2Proof.Machine.execLeaseExpiry time s
  | .connectVoltageMatched => Sys2Proof.Machine.execConnectVoltageMatched s
  | .connectMatchTimeout => Sys2Proof.Machine.execConnectMatchTimeout s
  | .xpAuxClosed => Sys2Proof.Machine.execXpAuxClosed s
  | .xpAuxCloseTimeout => Sys2Proof.Machine.execXpAuxCloseTimeout s
  | .xpDebounceEnd => Sys2Proof.Machine.execXpDebounceEnd s
  | .rampOutZeroHeld time => Sys2Proof.Machine.execRampOutZeroHeld time s
  | .releaseFail time => Sys2Proof.Machine.execReleaseFail time s
  | .xpAuxOpen => Sys2Proof.Machine.execXpAuxOpen s
  | .quarantineEnd row col => Sys2Proof.Machine.execQuarantineEnd row col s
  | .curtailWrite side value => Sys2Proof.Machine.execCurtailWrite side value s
  | .curtailLapse => Sys2Proof.Machine.execCurtailLapse s
  | .mrkHoldOn side key => Sys2Proof.Machine.execMrkHoldOn side key s
  | .mrkHoldOff side key => Sys2Proof.Machine.execMrkHoldOff side key s
  | .mrkReplan side key => Sys2Proof.Machine.execMrkReplan side key s
  | .wakeReceive target src => Sys2Proof.Machine.execWakeReceive target src s
  | .wakeJoinTimeout addr => Sys2Proof.Machine.execWakeJoinTimeout addr s
  | .replicaWriteReceive owner block seq bytes => Sys2Proof.Machine.execReplicaWriteReceive owner block seq bytes s
  | .replicaAckReceive holder seq => Sys2Proof.Machine.execReplicaAckReceive holder seq s
  | .floaterTakeover report taken => Sys2Proof.Machine.execFloaterTakeover report taken s
  | .pairRelease side key => Sys2Proof.Machine.execPairRelease side key s
  | .floaterDeferredRelease => Sys2Proof.Machine.execFloaterDeferredRelease s
  | .adcTrigger m k => Sys2Proof.Machine.execAdcTrigger m k s
  | .adcTriggerDeferred m k a => Sys2Proof.Machine.execAdcTriggerDeferred m k a s
  | .conversionEnd m codes vOut iOut pos zero time => Sys2Proof.Machine.execConversionEnd m codes vOut iOut pos zero time s
  | .exactCommit m pos zero time => Sys2Proof.Machine.execExactCommit m pos zero time s
  | .bwWindowEnd m => Sys2Proof.Machine.execBwWindowEnd m s
  | .plausibilityAttribute m c frame => Sys2Proof.Machine.execPlausibilityAttribute m c frame s
  | .plsFaultClear side m => Sys2Proof.Machine.execPlsFaultClear side m s
  | .counterReload h err codes => Sys2Proof.Machine.execCounterReload h err codes s
  | .pwmCommandChange h pos => Sys2Proof.Machine.execPwmCommandChange h pos s
  | .deadTimeEnd h interval => Sys2Proof.Machine.execDeadTimeEnd h interval s
  | .gateSegmentEnd n byLevel => Sys2Proof.Machine.execGateSegmentEnd n byLevel s
  | .modeRequest side key m req => Sys2Proof.Machine.execModeRequest side key m req s
  | .handoverRetry m time => Sys2Proof.Machine.execHandoverRetry m time s
  | .stopRampEnd m time => Sys2Proof.Machine.execStopRampEnd m time s
  | .hoFailClear side m => Sys2Proof.Machine.execHoFailClear side m s
  | .rcPhaseTimeout e time => Sys2Proof.Machine.execRcPhaseTimeout e time s
  | .rcSpectralEval e adc period tenthsDb phase time => Sys2Proof.Machine.execRcSpectralEval e adc period tenthsDb phase time s
  | .rcFadeEnd e => Sys2Proof.Machine.execRcFadeEnd e s
  | .rcPeriodFreezeEnd e time => Sys2Proof.Machine.execRcPeriodFreezeEnd e time s
  | .rcClear side e => Sys2Proof.Machine.execRcClear side e s
  | .biasUndervoltage n vdd vee time => Sys2Proof.Machine.execBiasUndervoltage n vdd vee time s
  | .biasRelease n vdd vee => Sys2Proof.Machine.execBiasRelease n vdd vee s
  | .enableOffHoldEnd => Sys2Proof.Machine.execEnableOffHoldEnd s
  | .refreshLoss n => Sys2Proof.Machine.execRefreshLoss n s
  | .auxDrvUndervoltage => Sys2Proof.Machine.execAuxDrvUndervoltage s
  | .auxDrvRecover => Sys2Proof.Machine.execAuxDrvRecover s
  | .auxPeriodStart a recovered => Sys2Proof.Machine.execAuxPeriodStart a recovered s
  | .bootstrapUndervoltage a => Sys2Proof.Machine.execBootstrapUndervoltage a s
  | .desatTrip n now time => Sys2Proof.Machine.execDesatTrip n now time s
  | .hardShortTrip h now time => Sys2Proof.Machine.execHardShortTrip h now time s
  | .phaseCurrentTrip a now time => Sys2Proof.Machine.execPhaseCurrentTrip a now time s
  | .gateVoltageTrip n now time => Sys2Proof.Machine.execGateVoltageTrip n now time s
  | .softOffEnd n byTime => Sys2Proof.Machine.execSoftOffEnd n byTime s
  | .tripCollectionEnd g time => Sys2Proof.Machine.execTripCollectionEnd g time s
  | .prtWaitEnd g time => Sys2Proof.Machine.execPrtWaitEnd g time s
  | .prtRelease g => Sys2Proof.Machine.execPrtRelease g s
  | .prtReleaseTimeout g time => Sys2Proof.Machine.execPrtReleaseTimeout g time s
  | .prtReset side key groups => Sys2Proof.Machine.execPrtReset side key groups s
  | .prtTest side key groups => Sys2Proof.Machine.execPrtTest side key groups s
  | .prtTestAbort side key groups => Sys2Proof.Machine.execPrtTestAbort side key groups s
  | .prtTestItemDone g code => Sys2Proof.Machine.execPrtTestItemDone g code s
  | .hkRoundStart => Sys2Proof.Machine.execHkRoundStart s
  | .hkRoundEnd raw flows => Sys2Proof.Machine.execHkRoundEnd raw flows s
  | .thermalRestart => Sys2Proof.Machine.execThermalRestart s
  | .ffHoldEnd l => Sys2Proof.Machine.execFfHoldEnd l s
  | .flowFaultTimeout l noPulse => Sys2Proof.Machine.execFlowFaultTimeout l noPulse s
  | .observerStep iSq valid => Sys2Proof.Machine.execObserverStep iSq valid s
  | .connectorStateChange cs => Sys2Proof.Machine.execConnectorStateChange cs s
  | .v2gSessionSetup protocol control bpt => Sys2Proof.Machine.execV2gSessionSetup protocol control bpt s
  | .v2gAuthorization emaid pnc chainOk root => Sys2Proof.Machine.execV2gAuthorization emaid pnc chainOk root s
  | .v2gCableCheck evVmax => Sys2Proof.Machine.execV2gCableCheck evVmax s
  | .v2gPreCharge vTgt => Sys2Proof.Machine.execV2gPreCharge vTgt s
  | .v2gPowerDeliveryStart => Sys2Proof.Machine.execV2gPowerDeliveryStart s
  | .v2gChargeLoop iTgt iMax iDis vMax vTgt pMax discharge depart energy => Sys2Proof.Machine.execV2gChargeLoop iTgt iMax iDis vMax vTgt pMax discharge depart energy s
  | .v2gStopRequest vehOpen => Sys2Proof.Machine.execV2gStopRequest vehOpen s
  | .v2gEmergencyStop => Sys2Proof.Machine.execV2gEmergencyStop s
  | .vlkAuthGrant side key => Sys2Proof.Machine.execVlkAuthGrant side key s
  | .vlkAuthDeny side key => Sys2Proof.Machine.execVlkAuthDeny side key s
  | .vlkStop side key => Sys2Proof.Machine.execVlkStop side key s
  | .vlkResetLockout side key => Sys2Proof.Machine.execVlkResetLockout side key s
  | .vlkEsd side key => Sys2Proof.Machine.execVlkEsd side key s
  | .authWaitTimeout => Sys2Proof.Machine.execAuthWaitTimeout s
  | .outletContactorClose ready => Sys2Proof.Machine.execOutletContactorClose ready s
  | .outletAuxCloseTimeout => Sys2Proof.Machine.execOutletAuxCloseTimeout s
  | .cableCheckSettled => Sys2Proof.Machine.execCableCheckSettled s
  | .cableCheckTimeout => Sys2Proof.Machine.execCableCheckTimeout s
  | .imdHalfPeriod avg move vPos vNeg => Sys2Proof.Machine.execImdHalfPeriod avg move vPos vNeg s
  | .preChargeTimeout => Sys2Proof.Machine.execPreChargeTimeout s
  | .stopContactorOpen => Sys2Proof.Machine.execStopContactorOpen s
  | .stopWaitExpiry => Sys2Proof.Machine.execStopWaitExpiry s
  | .outletAuxOpen => Sys2Proof.Machine.execOutletAuxOpen s
  | .dischargeComplete => Sys2Proof.Machine.execDischargeComplete s
  | .dischargeTimeout => Sys2Proof.Machine.execDischargeTimeout s
  | .weldCheck => Sys2Proof.Machine.execWeldCheck s
  | .esdOpenDeadline => Sys2Proof.Machine.execEsdOpenDeadline s
  | .ledgerTick codes rtc => Sys2Proof.Machine.execLedgerTick codes rtc s
  | .periodicSave => Sys2Proof.Machine.execPeriodicSave s
  | .checkPairCount => Sys2Proof.Machine.execCheckPairCount s
  | .meterCrossCheck iOuts missing => Sys2Proof.Machine.execMeterCrossCheck iOuts missing s
  | .meterResume ticks => Sys2Proof.Machine.execMeterResume ticks s
  | .selvedgeReset rtc => Sys2Proof.Machine.execSelvedgeReset rtc s
  | .pulseInputEdge n level time held => Sys2Proof.Machine.execPulseInputEdge n level time held s
  | .pulseOutputUpdate k => Sys2Proof.Machine.execPulseOutputUpdate k s
  | .pulseOutputWidthEnd k => Sys2Proof.Machine.execPulseOutputWidthEnd k s
  | .partnerValuesSend => Sys2Proof.Machine.execPartnerValuesSend s
  | .standsTimeout => Sys2Proof.Machine.execStandsTimeout s
  | .mirrorRefresh => Sys2Proof.Machine.execMirrorRefresh s
  | .mbxOffer seq crcOk inst offset bytes => Sys2Proof.Machine.execMbxOffer seq crcOk inst offset bytes s
  | .mbxSeal seq crcOk => Sys2Proof.Machine.execMbxSeal seq crcOk s
  | .mbxCal seq crcOk tick calMs proven step => Sys2Proof.Machine.execMbxCal seq crcOk tick calMs proven step s
  | .mbxMark seq crcOk close sid time source => Sys2Proof.Machine.execMbxMark seq crcOk close sid time source s
  | .mbxPartner seq crcOk imp exp complete unbooked closed => Sys2Proof.Machine.execMbxPartner seq crcOk imp exp complete unbooked closed s
  | .mbxPulse seq crcOk sync weight => Sys2Proof.Machine.execMbxPulse seq crcOk sync weight s
  | .mbxFlag seq crcOk xchk => Sys2Proof.Machine.execMbxFlag seq crcOk xchk s
  | .mbxAck seq crcOk holder record => Sys2Proof.Machine.execMbxAck seq crcOk holder record s
  | .mbxImd seq crcOk start phase => Sys2Proof.Machine.execMbxImd seq crcOk start phase s
  | .mbxSiteParam seq crcOk offset bytes => Sys2Proof.Machine.execMbxSiteParam seq crcOk offset bytes s
  | .calSend => Sys2Proof.Machine.execCalSend s
  | .calAdoptTimeout => Sys2Proof.Machine.execCalAdoptTimeout s
  | .bilTimeSet side key => Sys2Proof.Machine.execBilTimeSet side key s
  | .bilTamperAck side key => Sys2Proof.Machine.execBilTamperAck side key s
  | .intervalEnd => Sys2Proof.Machine.execIntervalEnd s
  | .tariffSwitch => Sys2Proof.Machine.execTariffSwitch s
  | .demandSyncTimeout => Sys2Proof.Machine.execDemandSyncTimeout s
  | .boundaryCommit => Sys2Proof.Machine.execBoundaryCommit s
  | .recordSign => Sys2Proof.Machine.execRecordSign s
  | .tamperCoverEdge terminal opened rtc => Sys2Proof.Machine.execTamperCoverEdge terminal opened rtc s
  | .hallReading x y z rtc => Sys2Proof.Machine.execHallReading x y z rtc s
  | .keySubmit side key => Sys2Proof.Machine.execKeySubmit side key s
  | .keyOpImport memOk => Sys2Proof.Machine.execKeyOpImport memOk s
  | .keyOpDelete memOk => Sys2Proof.Machine.execKeyOpDelete memOk s
  | .keyOpRevoke memOk => Sys2Proof.Machine.execKeyOpRevoke memOk s
  | .keyOpSetClient memOk => Sys2Proof.Machine.execKeyOpSetClient memOk s
  | .keyOpTrust memOk => Sys2Proof.Machine.execKeyOpTrust memOk s
  | .keyOpRelease memOk => Sys2Proof.Machine.execKeyOpRelease memOk s
  | .keyEnrol side key => Sys2Proof.Machine.execKeyEnrol side key s
  | .enrolDataRead side => Sys2Proof.Machine.execEnrolDataRead side s
  | .keyAttest side key => Sys2Proof.Machine.execKeyAttest side key s
  | .keyDebug side key dbgLow => Sys2Proof.Machine.execKeyDebug side key dbgLow s
  | .certDataAccess side write value => Sys2Proof.Machine.execCertDataAccess side write value s
  | .pairKeyErase => Sys2Proof.Machine.execPairKeyErase s
  | .pairLockInput level time => Sys2Proof.Machine.execPairLockInput level time s
  | .voteRequestReceive cold src inst claim time => Sys2Proof.Machine.execVoteRequestReceive cold src inst claim time s
  | .voteGrantReceive inst target claim time => Sys2Proof.Machine.execVoteGrantReceive inst target claim time s
  | .voteDenyReceive inst target reason => Sys2Proof.Machine.execVoteDenyReceive inst target reason s
  | .voteRetry => Sys2Proof.Machine.execVoteRetry s
  | .coldRequestDue => Sys2Proof.Machine.execColdRequestDue s
  | .pairHandover side key => Sys2Proof.Machine.execPairHandover side key s
  | .handoverTimeout => Sys2Proof.Machine.execHandoverTimeout s
  | .standbyHotEntry => Sys2Proof.Machine.execStandbyHotEntry s
  | .lockstepMismatch => Sys2Proof.Machine.execLockstepMismatch s
  | .safetyEvaluation readbacks partnerDrive => Sys2Proof.Machine.execSafetyEvaluation readbacks partnerDrive s
  | .safetyInputChange k chB closed held => Sys2Proof.Machine.execSafetyInputChange k chB closed held s
  | .safetyDiscrepancy k ms => Sys2Proof.Machine.execSafetyDiscrepancy k ms s
  | .safetyFrameReceive src cycle frame tagOk => Sys2Proof.Machine.execSafetyFrameReceive src cycle frame tagOk s
  | .safetyWatchdogExpiry j => Sys2Proof.Machine.execSafetyWatchdogExpiry j s
  | .offPulseStart n time => Sys2Proof.Machine.execOffPulseStart n time s
  | .offPulseEnd n offOk onOk => Sys2Proof.Machine.execOffPulseEnd n offOk onOk s
  | .readbackStuck n => Sys2Proof.Machine.execReadbackStuck n s
  | .safReset side key => Sys2Proof.Machine.execSafReset side key s
  | .safClearDemand side key => Sys2Proof.Machine.execSafClearDemand side key s
  | .safSetPw side key => Sys2Proof.Machine.execSafSetPw side key s
  | .paramCrcCheck upset => Sys2Proof.Machine.execParamCrcCheck upset s
  | .queueMove ready => Sys2Proof.Machine.execQueueMove ready s
  | .queMbxPop side key => Sys2Proof.Machine.execQueMbxPop side key s
  | .queMbxPush side key => Sys2Proof.Machine.execQueMbxPush side key s
  | .subscriptionSend session time => Sys2Proof.Machine.execSubscriptionSend session time s
  | .traceRead side => Sys2Proof.Machine.execTraceRead side s
  | .clockMonitor ppm => Sys2Proof.Machine.execClockMonitor ppm s
  | .pllLockLoss pll => Sys2Proof.Machine.execPllLockLoss pll s
  | .rtc32Loss => Sys2Proof.Machine.execRtc32Loss s
  | .vbatMeasure mv tAon rtc => Sys2Proof.Machine.execVbatMeasure mv tAon rtc s
  | .aonSupplySwitch vin => Sys2Proof.Machine.execAonSupplySwitch vin s
  | .aonReset => Sys2Proof.Machine.execAonReset s
  | .lullMessageReceive target src => Sys2Proof.Machine.execLullMessageReceive target src s
  | .lullEntry rtc => Sys2Proof.Machine.execLullEntry rtc s
  | .hostWake side key => Sys2Proof.Machine.execHostWake side key s
  | .plugWake => Sys2Proof.Machine.execPlugWake s
  | .wakeComplete rtc => Sys2Proof.Machine.execWakeComplete rtc s
  | .retentionScrub finding => Sys2Proof.Machine.execRetentionScrub finding s
  | .barographSave => Sys2Proof.Machine.execBarographSave s
  | .barographDaily => Sys2Proof.Machine.execBarographDaily s
  | .barSnapshot side key => Sys2Proof.Machine.execBarSnapshot side key s
  | .barUnbench side key => Sys2Proof.Machine.execBarUnbench side key s
  | .meterSuspectExpiry => Sys2Proof.Machine.execMeterSuspectExpiry s
  | .vehicleLinkTick => Sys2Proof.Machine.execVehicleLinkTick s
  | .shoreSessionClose session => Sys2Proof.Machine.execShoreSessionClose session s
  | .registerRead side addr => Sys2Proof.Machine.execRegisterRead side addr s
  | .firstOnEdgePermitted => Sys2Proof.Machine.execFirstOnEdgePermitted s
  | .barrierRefreshResume n vdd vee time => Sys2Proof.Machine.execBarrierRefreshResume n vdd vee time s
  | .comparatorTestTimeout => Sys2Proof.Machine.execComparatorTestTimeout s
  | .outletAuxClosed => Sys2Proof.Machine.execOutletAuxClosed s
  | .outletAuxOpenTimeout => Sys2Proof.Machine.execOutletAuxOpenTimeout s
  | .prechargeCoilRelease => Sys2Proof.Machine.execPrechargeCoilRelease s
  | .stackAvailable => Sys2Proof.Machine.execStackAvailable s
  | .validPlanLapse => Sys2Proof.Machine.execValidPlanLapse s
  | .safetyWake k => Sys2Proof.Machine.execSafetyWake k s
  | .uncorrectableError => Sys2Proof.Machine.execUncorrectableError s

end Sys2Proof.Machine
end

