-- ==== Sys2Proof/Machine/Step.lean ====
section
/-!
DEFINITION. Machine/Step.lean: one step of the block: the command at the front of the queue, or idling.
-/
namespace Sys2Proof.Machine
open Sys2Proof

/-- A step takes the command at the front of the queue and runs it on the rest; with no command waiting the block idles (log 47). -/
def step (s : State) : Host.Outcome State Fault Refusal :=
  match s.pending with
  | [] => .next s
  | c :: cs => exec c { s with pending := cs }

/-- The command that a word spells is put at the front of the queue; no word spells one (log 48). -/
def State.withFetchWord (s : State) (nbits w : Nat) : State :=
  match decodeTableWord nbits w with
  | some c => { s with pending := c :: s.pending }
  | none => s

end Sys2Proof.Machine
end

