-- ==== Sys2Proof/Safety.lean ====
section
/-!
DEFINITION. Safety.lean: what counts as a safe step and a sound state, in the terms the claims use.
-/
namespace Sys2Proof.Machine
open Sys2Proof

/-- A step that neither faults nor refuses. -/
def Completes (s : State) : Prop := ∃ t, step s = .next t

/-- A command answers a next state of which P holds. -/
def Answers (c : Instr) (s : State) (P : State → Prop) : Prop := ∃ t, exec c s = .next t ∧ P t

/-- The register stores hold each cell once, in rising order, and no cell at its reset value: equal registers are equal data. -/
def State.canonical (s : State) : Prop :=
  SMap.wf resetCell s.live = true ∧ SMap.wf resetCell s.shadow = true ∧ SMap.wf resetCell s.tbuf = true

/-- Live writes that wait for the rest of their paired-field group are of cells with a shadow (R72, R77). -/
def State.pendStaged (s : State) : Bool := s.hbi.pfgPending.all fun e => stagedKey e.2.1

/-- The shadows of the blocks in the tack groups of a mask stand in the tack buffers (R68). -/
def Latched (mask : Nat) (s t : State) : Prop :=
  ∀ k, stagedKey k = true → blockOf (k / 32) < 20 → bit mask (s.tackGroup (blockOf (k / 32))) = true →
    SMap.get resetCell t.tbuf k = SMap.get resetCell s.shadow k

/-! ### Frames -/

/-- The parts of the state beside the live registers. -/
inductive Part where
  | hbi | que | bar | sys | pat | gd | sht | prt | pair | trg | mrk | th | clk | met | bil | key | saf | vlk | drawn | shadow | tbuf
deriving DecidableEq, Repr

/-- Is a part the same in two states? -/
def Part.same (s t : State) : Part → Prop
  | .hbi => t.hbi = s.hbi
  | .que => t.que = s.que
  | .bar => t.bar = s.bar
  | .sys => t.sys = s.sys
  | .pat => t.pat = s.pat
  | .gd => t.gd = s.gd
  | .sht => t.sht = s.sht
  | .prt => t.prt = s.prt
  | .pair => t.pair = s.pair
  | .trg => t.trg = s.trg
  | .mrk => t.mrk = s.mrk
  | .th => t.th = s.th
  | .clk => t.clk = s.clk
  | .met => t.met = s.met
  | .bil => t.bil = s.bil
  | .key => t.key = s.key
  | .saf => t.saf = s.saf
  | .vlk => t.vlk = s.vlk
  | .drawn => t.drawn = s.drawn
  | .shadow => t.shadow = s.shadow
  | .tbuf => t.tbuf = s.tbuf

/-- Some registers' cells. -/
inductive Reach where
  /-- One field of one register. -/
  | cell (f : Field)
  /-- One field of every register of an array and of every side's copy. -/
  | family (f : Field)
  /-- Every field of the register at an address, every side's copy. -/
  | word (addr : Nat)
  /-- The BS and LV fields, which a safe boundary changes (R67, R177). -/
  | staged
  /-- Every field of the registers of the block at a base address. -/
  | block (base : Nat)
  /-- The fields that a write changes at once or a read clears (R64). -/
  | soft
  /-- The fields that a main-die reset puts back to their reset values (R507, R508). -/
  | lost
  /-- The LEVEL registers of the blocks, every side's (R79). -/
  | levels
  /-- A side's copies (R79, R91). -/
  | side (n : Nat)
  /-- The Marker's planning registers (R117). -/
  | planning
  /-- Every field: the load of a role section sets them (R38). -/
  | all
deriving DecidableEq, Repr

/-- The base of the register, or of the array of registers, that a cell lies in. -/
def familyOf (key : Nat) : Option Nat := (regAt (key / 32 % bankStride)).map (·.base)

/-- Does a set of cells hold a key? -/
def Reach.has (k : Nat) : Reach → Bool
  | .cell f => f.key == k
  | .family f => k % 32 == f.lsb && familyOf k == familyOf f.key
  | .word a => k / 32 % bankStride == a
  | .staged => stagedKey k
  | .block b => b * 32 ≤ k && k < (b + 0x1000) * 32
  | .soft => match fieldDefAt k with
    | some f => [Acc.wo, .rw, .w1c, .w1s, .rc].contains f.acc
    | none => false
  | .lost => !keptCell k
  | .levels => k % 32 == 0 && (List.range 20).any (blockBase · == k / 32 % bankStride)
  | .side n => k / 32 / bankStride == n
  | .planning => planningKey k
  | .all => true

/-- A frame: the queue of commands, every part outside `ps` and every live register cell outside `rs` are unchanged. -/
structure Frame (ps : List Part) (rs : List Reach) (s t : State) : Prop where
  pending : t.pending = s.pending
  parts : ∀ p, p ∉ ps → p.same s t
  live : ∀ k, (rs.any (Reach.has k)) = false → SMap.get resetCell t.live k = SMap.get resetCell s.live k

/-- A command changes nothing outside its frame, from any state: its own cells `rs` and those of the operations it shares. -/
def Keeps (c : Instr) (ps : List Part) (rs : List Reach) (shared : List Reach := []) : Prop :=
  ∀ s t, exec c s = .next t → Frame ps (rs ++ shared) s t

/-- Registers that a keyed command changes when it is refused (R64, R88). -/
def reachKeyed : List Reach :=
  [.cell F.HBI_ERR_ADDR, .cell F.HBI_ERR_COUNT, .cell F.HBI_ERR_INFO_CODE, .cell F.HBI_ERR_INFO_PATH, .cell F.HBI_ERR_INFO_SIDE]

/-- Registers that saved blocks of the Barograph change (R495). -/
def reachBlocks : List Reach :=
  [.cell (F.QUE_Q_DEPTH_LEVEL 14), .cell (F.QUE_Q_HWM 14), .cell (F.QUE_Q_LOST 14), .cell F.BAR_BLOCK_NO, .cell F.QUE_STATUS_FULL,
    .cell F.QUE_STATUS_NONEMPTY]

/-- Registers that a main-die reset changes (R507, R508). -/
def reachReset : List Reach :=
  [.cell (F.QUE_Q_DEPTH_LEVEL 1), .cell (F.QUE_Q_DEPTH_LEVEL 11), .cell (F.QUE_Q_HWM 1), .cell (F.QUE_Q_HWM 11),
    .cell (F.QUE_Q_LOST 11), .cell F.QUE_FR_HEAD, .cell F.QUE_FR_OVERFLOW, .cell F.QUE_IRQ_STATUS_EVENT_LOCAL,
    .cell F.QUE_IRQ_STATUS_EVENT_REMOTE, .cell F.QUE_IRQ_STATUS_FR_OVERFLOW, .cell F.QUE_IRQ_STATUS_MBX_OUT, .cell F.QUE_STATUS_FULL,
    .cell F.QUE_STATUS_NONEMPTY, .lost]

/-- Registers that an event changes (R461, R463): the fault ring and the queues it enters. -/
def reachEvent : List Reach :=
  [.cell (F.QUE_Q_DEPTH_LEVEL 0), .cell (F.QUE_Q_DEPTH_LEVEL 11), .cell (F.QUE_Q_HWM 0), .cell (F.QUE_Q_HWM 11), .cell (F.QUE_Q_LOST 0),
    .cell (F.QUE_Q_LOST 11), .cell F.QUE_FR_HEAD, .cell F.QUE_FR_OVERFLOW, .cell F.QUE_IRQ_STATUS_EVENT_LOCAL,
    .cell F.QUE_IRQ_STATUS_EVENT_REMOTE, .cell F.QUE_IRQ_STATUS_FR_OVERFLOW, .cell F.QUE_IRQ_STATUS_MBX_OUT, .cell F.QUE_STATUS_FULL,
    .cell F.QUE_STATUS_NONEMPTY]

/-- Registers that a record of the journal changes (R353). -/
def reachJournal : List Reach :=
  reachEvent ++ ([.cell F.BIL_EVENT_JRNL_LOW] : List Reach)

/-- Registers that the end of a self-test changes (R266). -/
def reachEndTest : List Reach :=
  [.cell F.GDI_STATUS_DRIVE, .cell F.PAIR_STATUS_PL_OUT, .cell F.PRT_STATUS_HELD, .cell F.PRT_STATUS_LOCKOUT,
    .family (F.GDI_CH_SEG_END_OFF 0), .family (F.GDI_CH_SEG_END_ON 0), .family (F.GDI_CH_STATUS_STATE 0), .family (F.GDI_HB_OMIT 0),
    .family (F.GDI_HB_STATUS_HELD_OFF 0), .family (F.GDI_HB_STATUS_HIGH_ON 0), .family (F.GDI_HB_STATUS_LOW_ON 0),
    .family (F.PRT_GRP_STATE_STATE 0), .family (F.PRT_GRP_TEST_DONE 0), .family (F.PRT_GRP_WAIT_LEFT 0),
    .family (F.SHT_LOOP_MODE_NEXT 0), .family (F.SHT_LOOP_MODE_STOPPING 0)]

/-- Registers that the start of a self-test changes (R265). -/
def reachTest : List Reach :=
  reachEndTest ++ ([.family (F.PRT_GRP_TEST_FAIL_ITEM 0), .family (F.PRT_GRP_TEST_FAIL_KIND 0), .family (F.PRT_GRP_TEST_DESAT 0),
    .family (F.PRT_GRP_TEST_HS 0), .family (F.PRT_GRP_TEST_ADC 0), .family (F.PRT_GRP_TEST_GATE 0), .family (F.PRT_GRP_TEST_SOFT 0),
    .family (F.PRT_GRP_TEST_BIAS 0)] : List Reach)

/-- Registers that a safe boundary changes (R68, R76, R182, R446, R448). -/
def reachBoundary : List Reach :=
  reachEvent ++ ([.cell F.HBI_PFG_ERR_COUNT, .cell F.HBI_PFG_ERR_GROUP, .cell F.HBI_TACK_STATUS_PENDING, .cell F.SAF_LOG_LOST,
    .cell F.SAF_LOG_SEQ_HI, .cell F.SAF_LOG_SEQ_LO, .cell F.SAF_PARAM_CRC, .cell F.SHT_STATUS_BUDGET, .family (F.PWM_HB_SYNC_PHASE 0),
    .staged] : List Reach)

/-- Registers that a change of claims changes (R404 to R406). -/
def reachClaim : List Reach :=
  [.cell F.CLK_AON_STATUS_POR, .cell F.GDA_STATUS_DRIVE, .cell F.GDI_STATUS_DRIVE, .cell F.MRK_DISCARDS, .cell F.MRK_STATUS_ACTIVE,
    .cell F.MRK_STATUS_FOLLOW, .cell F.PAIR_LAST_CAUSE, .cell F.PAIR_LAST_LATENCY, .cell F.PAIR_STATUS_EN, .cell F.PAIR_STATUS_GRANT,
    .cell F.PAIR_STATUS_OWN_CLAIM, .cell F.PAIR_STATUS_PL_OUT, .cell F.PAIR_STATUS_STATE, .cell F.SHT_STATUS_SHADOW,
    .cell F.SYS_START_PHASE, .cell F.SYS_START_TIME, .cell F.TRG_STATUS_MASTER, .cell F.VLK_IMD_STATUS_INJECTING,
    .family (F.GDA_HB_STATUS_OUT 0), .family (F.GDI_CH_SEG_END_OFF 0), .family (F.GDI_CH_SEG_END_ON 0),
    .family (F.GDI_CH_STATUS_ENABLE 0), .family (F.GDI_CH_STATUS_STATE 0), .family (F.GDI_HB_STATUS_HIGH_ON 0),
    .family (F.GDI_HB_STATUS_LOW_ON 0), .family (F.MET_PO_STATUS_OUT 0)]

/-- Registers that a lock-out of a group changes (R259). -/
def reachLock : List Reach :=
  reachEvent ++ ([.cell F.GDI_STATUS_DRIVE, .cell F.PRT_STATUS_HELD, .cell F.PRT_STATUS_LOCKOUT, .family (F.GDI_CH_SEG_END_OFF 0),
    .family (F.GDI_CH_SEG_END_ON 0), .family (F.GDI_CH_STATUS_STATE 0), .family (F.GDI_HB_STATUS_HELD_OFF 0),
    .family (F.GDI_HB_STATUS_HIGH_ON 0), .family (F.GDI_HB_STATUS_LOW_ON 0), .family (F.PRT_GRP_STATE_CAUSE 0),
    .family (F.PRT_GRP_STATE_MULTI 0), .family (F.PRT_GRP_STATE_STATE 0)] : List Reach)

/-- Registers that a safety fault changes (R441). -/
def reachSafety : List Reach :=
  reachEvent ++ ([.cell F.GDI_STATUS_DRIVE, .cell F.SAF_DEMAND_LATCHED, .cell F.SAF_FAULT_CAUSE, .cell F.SAF_FAULT_FROM_PARTNER,
    .cell F.SAF_FAULT_SOURCE, .cell F.SAF_LOCKOUTS, .cell F.SAF_STATUS_DEMAND, .cell F.SAF_STATUS_LOCKOUT,
    .cell F.VLK_IMD_STATUS_INJECTING, .cell F.VLK_STATUS_STATE, .family (F.GDI_CH_SEG_END_OFF 0), .family (F.GDI_CH_SEG_END_ON 0),
    .family (F.GDI_CH_STATUS_STATE 0), .family (F.GDI_HB_OMIT 0), .family (F.GDI_HB_STATUS_HELD_OFF 0),
    .family (F.GDI_HB_STATUS_HIGH_ON 0), .family (F.GDI_HB_STATUS_LOW_ON 0), .family (F.SAF_OUT_STATUS_DRIVEN 0)] : List Reach)

/-- Registers that a change of the life-cycle state changes (R372, R385). -/
def reachLife : List Reach :=
  [.cell (F.QUE_Q_DEPTH_LEVEL 7), .cell (F.QUE_Q_HWM 7), .cell F.KEY_BLOBS_USED, .cell F.KEY_COUNTER_HI, .cell F.KEY_COUNTER_LO,
    .cell F.KEY_DEVICE_ID_HI, .cell F.KEY_DEVICE_ID_LO, .cell F.KEY_GEN_BLOB, .cell F.KEY_GEN_SITE, .cell F.KEY_JOBS,
    .cell F.KEY_STATUS_COMPAT, .cell F.KEY_STATUS_DESTROY_PENDING, .cell F.KEY_STATUS_ENROLLED, .cell F.KEY_STATUS_LC,
    .cell F.KEY_STATUS_SEED, .cell F.PAT_OWNER_ID, .cell F.PAT_SITE_ID_HI, .cell F.PAT_SITE_ID_LO, .cell F.PAT_STATUS_SEALED,
    .cell F.PAT_STATUS_UNSEALED_ROLE, .cell F.QUE_STATUS_FULL, .cell F.QUE_STATUS_NONEMPTY, .family (F.KEY_CLIENT_DIGEST 0),
    .family (F.KEY_CLIENT_OBSERVE 0), .family (F.KEY_CLIENT_OPERATE 0), .family (F.KEY_CLIENT_VALID 0), .family (F.KEY_ENROL_DATA 0),
    .family F.KEY_JOB_STATUS_DONE, .family F.KEY_JOB_STATUS_RESULT, .family (F.KEY_SLOT_HALF 0), .family (F.KEY_SLOT_KEY_ID 0),
    .family (F.KEY_SLOT_LOADABLE 0), .family (F.KEY_SLOT_USE 0), .family (F.KEY_SLOT_VALID 0), .family (F.KEY_TRUST_DIGEST 0),
    .family (F.KEY_TRUST_USE 0), .family (F.KEY_TRUST_VALID 0)]

/-- Registers that mirror the partition (R339). -/
def reachMirror : List Reach :=
  [.cell F.BIL_CAL_HI, .cell F.BIL_CAL_LO, .cell F.BIL_HWM_HI, .cell F.BIL_HWM_LO, .cell F.BIL_INT_EXP_HI, .cell F.BIL_INT_EXP_LO,
    .cell F.BIL_INT_IMP_HI, .cell F.BIL_INT_IMP_LO, .cell F.BIL_INT_LEFT, .cell F.BIL_INT_MINUTES, .cell F.BIL_INT_NO,
    .cell F.BIL_INT_SYNC, .cell F.BIL_JRNL_FREE, .cell F.BIL_JRNL_SEQ_HI, .cell F.BIL_JRNL_SEQ_LO, .cell F.BIL_LAST_DEM_EXP,
    .cell F.BIL_LAST_DEM_IMP, .cell F.BIL_LEDGER_HI, .cell F.BIL_LEDGER_LO, .cell F.BIL_MAX_DEM_EXP, .cell F.BIL_MAX_DEM_IMP,
    .cell F.BIL_STATUS_BEHIND_HWM, .cell F.BIL_STATUS_CLOCK, .cell F.BIL_STATUS_DEFAULT, .cell F.BIL_STATUS_JRNL_LOW,
    .cell F.BIL_STATUS_SITE, .cell F.BIL_STATUS_SUPPRESS, .cell F.BIL_STATUS_TAMPER_OPEN, .cell F.BIL_STATUS_TARIFF,
    .cell F.BIL_TAMPER_COVER_OPEN, .cell F.BIL_TAMPER_DECL, .cell F.BIL_TAMPER_HALL_OPEN, .cell F.BIL_TAMPER_LOST,
    .cell F.BIL_TAMPER_MAGNET, .cell F.BIL_TAMPER_TCOVER_OPEN, .cell F.BIL_TAMPER_UNACKED, .cell F.BIL_TIME_STEP_COUNT,
    .family (F.BIL_T_EXP_HI 0), .family (F.BIL_T_EXP_LO 0), .family (F.BIL_T_IMP_HI 0), .family (F.BIL_T_IMP_LO 0)]

/-- Registers that a withdrawal changes (R498 to R500). -/
def reachWithdraw : List Reach :=
  reachClaim ++ reachEvent ++ reachBlocks ++ ([.cell F.BAR_SAVE_SEQ, .cell F.BAR_STATUS_BENCHED, .cell F.BAR_STATUS_BENCH_CAUSE,
    .cell F.BAR_STATUS_LAST_CAUSE, .cell F.BAR_STATUS_WD_24H, .family (F.BAR_WD_HIST_HI 0),
    .family (F.BAR_WD_HIST_LO 0)] : List Reach)

end Sys2Proof.Machine
end

