-- ==== Sys2Proof/WellFormed.lean ====
section
/-!
DEFINITION. WellFormed.lean: the commands whose operands the spec's layouts can carry. An operand whose Lean type already bounds it needs
no check; what is checked is the width of each field of a message, frame or request.
-/
namespace Sys2Proof

/-- A number that fits in n bits. -/
def fits (n v : Nat) : Bool := v < 2 ^ n

/-- A signed number that fits in n bits. -/
def fitsInt (n : Nat) (v : Int) : Bool := -(2 : Int) ^ (n - 1) ≤ v && v < (2 : Int) ^ (n - 1)

/-- A string of bytes. -/
def bytesOk (bs : List Nat) : Bool := bs.all (fits 8)

/-- A unit's ring address (R92). -/
def unitOk (a : Nat) : Bool := 1 ≤ a && a ≤ 96

/-- A stack entry of PLAN (R133). -/
def StackEntry.ok (e : StackEntry) : Bool :=
  1 ≤ e.row && e.row ≤ 32 && e.col ≤ 16 && e.mode ≤ 5 && fits 16 e.shareFrom && fits 16 e.shareTo && fits 16 e.ceiling && fits 16 e.pCap

/-- An outlet entry of PLAN (R134). -/
def OutletEntry.ok (e : OutletEntry) : Bool :=
  1 ≤ e.col && e.col ≤ 16 && fits 8 e.stackCount && fits 16 e.iMax && fits 16 e.iExportMax && fits 16 e.pMax && fits 16 e.iForecast

/-- A PLAN message (R132): its time is a multiple of 10 ms. -/
def Plan.ok (p : Plan) : Bool :=
  fits 32 p.planNo && fits 64 p.applyTime && p.applyTime % 10000000 == 0 && fits 8 p.leaseMs && fits 8 p.rampMs &&
    p.stackEntries.length ≤ 32 && p.outlets.length ≤ 16 && p.stackEntries.all StackEntry.ok && p.outlets.all OutletEntry.ok

/-- A DEMAND message (R137). -/
def Demand.ok (d : Demand) : Bool :=
  1 ≤ d.col && d.col ≤ 16 && d.mode ≤ 2 && fits 8 d.seq && fitsInt 16 d.iRef && fits 16 d.vRef && fits 16 d.vBus

/-- A LEAD message (R207). -/
def Lead.ok (l : Lead) : Bool :=
  1 ≤ l.col && l.col ≤ 16 && 1 ≤ l.row && l.row ≤ 32 && fits 8 l.seq && fitsInt 16 l.iLead && fits 16 l.shareLead

/-- A cycle header (R96). -/
def RingHeader.ok (h : RingHeader) : Bool :=
  unitOk h.master && fits 16 h.epoch && fits 64 h.cycle && fits 64 h.ringTime && fitsInt 64 h.calOffset && fits 8 h.stepCount &&
    fits 16 h.tackMask && (h.tackMask == 0 || unitOk h.tackTarget || h.tackTarget == 127) && fits 64 h.tackTime

/-- A data slot (R97). -/
def DataSlot.ok (x : DataSlot) : Bool := unitOk x.src && 1 ≤ x.channel && x.channel ≤ 7 && x.payload.length ≤ 48 && bytesOk x.payload

/-- A Squall frame (R99). -/
def SquallFrame.ok (f : SquallFrame) : Bool :=
  unitOk f.src && 1 ≤ f.count && fits 8 f.count && fits 16 f.code && fits 16 f.seq && fits 32 f.time

/-- A safety frame (R434). -/
def SafetyFrame.ok (f : SafetyFrame) : Bool :=
  fits 32 f.connId && fits 16 f.seq && fits 16 f.wdMs && fits 16 f.req && fits 8 f.pState && fits 8 f.pCause && fits 32 f.pairData &&
    fits 32 f.crc

/-- A join request (R105). -/
def JoinReq.ok (q : JoinReq) : Bool := unitOk q.addr && fits 7 q.strap && fits 8 q.hop && fits 64 q.device && q.digest.length == 48 && bytesOk q.digest

/-- A member's place that a floater holds: the floater, the role instance, the member (R28). -/
def placeOk (x : Nat × Nat × Nat) : Bool := unitOk x.1 && fits 8 x.2.1 && unitOk x.2.2

/-- A DUTY message (R157). -/
def Duty.ok (d : Duty) : Bool :=
  d.witnesses.length ≤ 255 && d.replicas.length ≤ 255 && d.witnesses.all (fun w => fits 8 w.1 && fits 8 w.2) &&
    d.replicas.all fun r => unitOk r.1 && fits 8 r.2.1 && fits 8 r.2.2

/-- The operands of a command are what the spec's layouts can carry. -/
def WellFormed : Instr → Bool
  | .planReceive p src => p.ok && unitOk src
  | .demandReceive d => d.ok
  | .leadReceive l => l.ok
  | .cycleHeaderReceive h _ _ _ _ => h.ok
  | .trainDelimiter _ _ _ cycle hop _ _ _ _ _ _ => fits 64 cycle && fits 8 hop
  | .dataSlotReceive x cycle _ => x.ok && fits 64 cycle
  | .squallReceive f _ => f.ok
  | .safetyFrameReceive src cycle f _ => unitOk src && fits 64 cycle && f.ok
  | .pairSafetyFrame _ _ f _ _ => f.ok
  | .joinWindowTake a b => a.all JoinReq.ok && b.all JoinReq.ok
  | .remoteRequest ready _ _ => ready.all (fits 16)
  | .dutyReceive d src => d.ok && unitOk src
  | .wakeReceive target src => unitOk target && unitOk src
  | .floaterTakeover report taken => report.all unitOk && taken.all placeOk
  | .shoreConnect _ digest => digest.length == 48 && bytesOk digest
  | .shoreAccess _ reqId target _ body => fits 16 reqId && fits 8 target && bytesOk body
  | .shoreJournalGet _ reqId target _ body => fits 16 reqId && fits 8 target && bytesOk body
  | .shoreBarographGet _ reqId target _ body => fits 16 reqId && fits 8 target && bytesOk body
  | .shoreEventSubscribe _ reqId target _ body => fits 16 reqId && fits 8 target && bytesOk body
  | .recordTransfer _ typ reqId target status body => fits 16 typ && fits 16 reqId && fits 8 target && fits 8 status && bytesOk body
  | .remoteResponse _ typ reqId target status index body =>
    fits 16 typ && fits 16 reqId && fits 8 target && fits 8 status && fits 16 index && bytesOk body
  | .replicaWriteReceive owner _ seq bytes => unitOk owner && fits 64 seq && bytesOk bytes
  | _ => true

end Sys2Proof
end

