-- ==== Sys2Proof/Certificates/Slice0/Obligations.lean ====
section
/-!
DEFINITION. Certificates/Slice0/Obligations.lean: the statements for the provers.
-/
open Sys2Proof Sys2Proof.Machine

/-- The five resets leave a start pending with their source. POWER_ON, BROWN_OUT_RESET with VIN present, RESET_PIN, SYS_RESET_FORCE,
SYS_RESET of a unit that is not active, and the clearing of the early warning outside Lull each answer a state that runs nothing and has
a start pending with the source of SYS_START; POWER_ON also empties the ring port state and stops the partition, which RESET_PIN leaves
as it is but for its pulse outputs. Rests on R507, R508, R509, R478. -/
def Obligations.ResetsStartTheUnit : Prop :=
  (∀ (s : State), Answers (.powerOn) s fun t => t.sys.startPending = some 1 ∧ t.sys.vinPresent = true ∧ t.trg = {} ∧ t.met.running =
      false) ∧
  (∀ (s : State), s.sys.vinPresent = true → Answers (.brownOutReset) s fun t => t.sys.startPending = some 2 ∧ t.sys.earlyWarning = false
      ∧ t.met.running = false) ∧
  (∀ (s : State), Answers (.resetPin) s fun t => t.sys.startPending = some 6 ∧ t.sys.running = false ∧ t.saf.pw = s.saf.pw ∧ t.met =
      { s.met with po := [] } ∧ t.bil = s.bil) ∧
  (∀ (side : Side) (s : State), Answers (.sysResetForce side 0x1D62#16) s fun t => t.sys.startPending = some 5 ∧ t.sys.running = false) ∧
  (∀ (side : Side) (s : State), s.active = false → Answers (.sysReset side 0x1D62#16) s fun t => t.sys.startPending = some 5 ∧
      t.sys.running = false) ∧
  (∀ (s : State), s.sys.earlyWarning = true → s.inLull = false → Answers (.earlyWarningClear) s fun t => t.sys.startPending = some 3 ∧
      t.sys.earlyWarning = false)

/-- An unexplained fault outside a withdrawal resets the unit with source WITHDRAWAL. LOCKSTEP_MISMATCH, CLOCK_MONITOR above 500 ppm and
PLL_LOCK_LOSS of a running unit that is not in Lull, UNCORRECTABLE_ERROR, an uncorrectable scrub finding: with no withdrawal under way
each answers a state with a start pending from source 4 and the withdrawal recorded. EARLY_WARNING of a running unit marks the warning
and the withdrawal, without a reset. Rests on R474, R477, R498, R499, R500, R507. -/
def Obligations.FaultsWithdrawTheUnit : Prop :=
  (∀ (s : State), s.bar.withdrawing = none → Answers (.lockstepMismatch) s fun t => t.sys.startPending = some 4 ∧ t.bar.withdrawing =
      some 2) ∧
  (∀ (s : State), s.bar.withdrawing = none → s.inLull = false → Answers (.uncorrectableError) s fun t => t.sys.startPending = some 4 ∧
      t.bar.withdrawing = some 1) ∧
  (∀ (ppm : Int) (s : State), s.sys.running = true → s.inLull = false → 500 < ppm.natAbs → s.bar.withdrawing = none → Answers
      (.clockMonitor ppm) s fun t => t.sys.startPending = some 4 ∧ t.bar.withdrawing = some 6) ∧
  (∀ (pll : Fin 5) (s : State), s.sys.running = true → s.inLull = false → s.bar.withdrawing = none → Answers (.pllLockLoss pll) s fun t
      => t.sys.startPending = some 4 ∧ t.bar.withdrawing = some 6) ∧
  (∀ (s : State), s.bar.withdrawing = none → s.inLull = false → Answers (.retentionScrub .uncorrectable) s fun t => t.sys.startPending =
      some 4) ∧
  (∀ (s : State), s.sys.earlyWarning = false → s.sys.vinPresent = true → s.inLull = false → s.sys.running = true → s.bar.withdrawing =
      none → Answers (.earlyWarning) s fun t => t.sys.earlyWarning = true ∧ t.sys.startPending = none ∧ t.bar.withdrawing = some 8)

/-- The steps of a start and of a role start have their effect. START_BEGIN with its source pending, VIN and a passing self-test leaves the
unit running in phase 6; COMPARATOR_SELF_TEST of a unit without a role completes the start, FORMING_TIMEOUT lets a pair member start as
STANDBY_COLD, COMPARATOR_TEST_TIMEOUT keeps the groups that waited; ROLE_START closes the pre-charge coil of a stack unit; the
pre-charge commands drive coils, ROLE_FAIL and availability as R516 says. Rests on R510, R513, R515, R516. -/
def Obligations.StartSequence : Prop :=
  (∀ (straps : BitVec 7) (rtc src : Nat) (memA memB dbgLow : Bool) (s : State), s.sys.startPending = some src → s.sys.vinPresent = true
      → s.sys.earlyWarning = false → Answers (.startBegin straps 0 true rtc memA memB dbgLow) s fun t => t.sys.running = true ∧ t.rd
      F.SYS_START_PHASE = 6 ∧ t.bar.withdrawing = none) ∧
  (∀ (time : Nat) (s : State), s.sys.running = true → s.trg.join = .joined → s.rd F.SYS_START_PHASE = 7 → s.kind = .none → Answers
      (.comparatorSelfTest time) s fun t => t.rd F.SYS_START_PHASE = 15 ∧ t.rdb F.CLK_AON_STATUS_POR = false) ∧
  (∀ (g : Fin 8) (s : State), s.sys.testWait = [g.val] → g.val ∈ s.groups → (s.grp g.val).testSeen = [] → Answers
      (.comparatorTestTimeout) s fun t => t.rd (F.PRT_GRP_TEST_DESAT g.val) = 0 ∧ t.rd (F.PRT_GRP_TEST_BIAS g.val) = 0 ∧ t.sys = s.sys) ∧
  (∀ (time : Nat) (s : State), s.trg.join = .joined → s.pair.partnerAddr ≠ 0 → s.rdb F.PAIR_STATUS_LINK = false → s.own = 0 → s.rd
      F.PAIR_STATUS_STATE = psForming → s.bar.benched = 0 → s.kind ≠ .site → Answers (.formingTimeout time) s fun t => t.rd
      F.PAIR_STATUS_STATE = psCold ∧ t.pair.lost = true ∧ t.pair.formed = false) ∧
  (∀ (s : State), s.active = true → s.sys.roleStarted = false → s.inLull = false → s.kind = .stack → s.groups = [] → s.sys.down = false
      → Answers (.roleStart) s fun t => t.sys.roleStarted = true ∧ t.sys.preCoil = true ∧ t.sys.preOk = false) ∧
  (∀ (s : State), s.active = true → s.sys.preCoil = true → s.sys.preOk = false → s.loops = [] → Answers (.prechargeComplete) s fun t =>
      t.sys.preOk = true ∧ t.sys.mainCoil = true) ∧
  (∀ (s : State), s.active = true → s.sys.preCoil = true → s.sys.preOk = false → Answers (.prechargeTimeout) s fun t => t.rdb
      F.SYS_START_ROLE_FAIL = true ∧ t.sys.preCoil = false ∧ t.sys.mainCoil = false) ∧
  (∀ (s : State), s.active = true → s.kind = .stack → s.sys.roleStarted = true → s.sys.down = false → s.sys.preCoil = false →
      s.sys.mainCoil = false → s.rd F.SYS_START_ROLE_TRIES = 1 → s.groups = [] → Answers (.prechargeRetry) s fun t => t.sys.preCoil =
      true ∧ t.sys.preOk = false) ∧
  (∀ (s : State), s.sys.preCoil = true → s.sys.mainCoil = true → s.sys.preOk = true → Answers (.prechargeCoilRelease) s fun t =>
      t.sys.preCoil = false ∧ t.sys.mainCoil = true) ∧
  (∀ (d : LoopDecl) (s : State), s.active = true → s.kind = .stack → s.sys.mainCoil = true → d ∈ s.loops → s.nowMode d.loop = mAfeDclink
      → Answers (.stackAvailable) s fun t => t = { s with sys.available := true })

/-- Floaters, the Barograph's own commands and benching. FLOATER_TAKEOVER makes the one free floater that the report concerns a standby in
the place of the reported member; a remote PAIR_RELEASE lets a standby floater go and an active one wait, FLOATER_DEFERRED_RELEASE lets
it go once it is no longer active; BAROGRAPH_SAVE writes the counters to the next of the two saves, BAROGRAPH_DAILY and BAR_SNAPSHOT
write the five pages as blocks with their reason, BAR_UNBENCH over the shore with the maintenance credential empties the withdrawal
history, METER_SUSPECT_EXPIRY clears the flag after 30 days. Rests on R28, R29, R427, R495, R497, R502, R503. -/
def Obligations.FloatersAndTheBarograph : Prop :=
  (∀ (report : List Nat) (taken : List (Nat × Nat × Nat)) (r : RoleDecl) (s : State), s.trg.join = .joined → s.kind = .none →
      s.pat.instance_ = 0 → s.bar.benched = 0 → ({ s with mrk.floats := taken } : State).freeFloaters report = [s.addr] →
      ({ s with mrk.floats := taken } : State).floaterChoice report s.addr = some r → s.pat.content.roles.find? (·.instance_ ==
      r.instance_) = some r → Answers (.floaterTakeover report taken) s fun t => t.rdb F.PAIR_FLOAT_VALID = true ∧ t.rd
      F.PAIR_FLOAT_REPLACED = (({ s with mrk.floats := taken } : State).reportedMember report r).getD 0 % 128) ∧
  (∀ (side : Side) (s : State), s.inLull = false → side ≠ 0 → s.rdb F.PAIR_FLOAT_VALID = true → Answers (.pairRelease side 0x2C95#16) s
      fun t => (s.active = true → t.pair.releaseWait = true ∧ t.pat.instance_ = s.pat.instance_) ∧ (s.active = false → t.pat.instance_ =
      0 ∧ t.rdb F.PAIR_FLOAT_VALID = false ∧ t.own = 0)) ∧
  (∀ (side : Side) (s : State), s.inLull = false → side ≠ 0 → s.rdb F.PAIR_FLOAT_VALID = true → s.active = false → Answers (.pairRelease
      side 0x2C95#16) s fun t => t.pat.instance_ = 0 ∧ t.rdb F.PAIR_FLOAT_VALID = false) ∧
  (∀ (s : State), s.pair.releaseWait = true → s.active = false → s.rdb F.PAIR_FLOAT_VALID = true → Answers (.floaterDeferredRelease) s
      fun t => t.pat.instance_ = 0 ∧ t.pair.releaseWait = false ∧ t.rdb F.PAIR_FLOAT_VALID = false) ∧
  (∀ (s : State), s.sys.earlyWarning = false → Answers (.barographSave) s fun t => t.rd F.BAR_SAVE_SEQ = (s.rd F.BAR_SAVE_SEQ + 1) % 2 ^
      32 ∧ SMap.get (fun _ => none) t.bar.saves ((s.rd F.BAR_SAVE_SEQ + 1) % 2) = some (s.rd F.BAR_SAVE_SEQ + 1, s.bar.cnt) ∧ t.bar.cnt
      = s.bar.cnt) ∧
  (∀ (s : State), s.bar.lastDaily + 691200000 ≤ s.ledger → Answers (.barographDaily) s fun t => t.bar.lastDaily = s.ledger ∧ t.rd
      F.BAR_BLOCK_NO = (s.rd F.BAR_BLOCK_NO + 5) % 2 ^ 32 ∧ (t.bar.blocks.take 5).map (fun b => (b.page, b.reason)) =
      [(4, 1), (3, 1), (2, 1), (1, 1), (0, 1)]) ∧
  (∀ (side : Side) (s : State), s.inLull = false → Answers (.barSnapshot side 0x6D58#16) s fun t => t.rd F.BAR_BLOCK_NO = (s.rd
      F.BAR_BLOCK_NO + 5) % 2 ^ 32 ∧ (t.bar.blocks.take 5).map (fun b => (b.page, b.reason)) = [(4, 5), (3, 5), (2, 5), (1, 5), (0, 5)]) ∧
  (∀ (side : Side) (s : State), s.inLull = false → side ≠ 0 → s.bar.benched ≠ 0 → s.maint side = true → Answers (.barUnbench side
      0x6D58#16) s fun t => t.bar.benched = 0 ∧ t.bar.wdHist = [] ∧ t.bar.selResets = []) ∧
  (∀ (s : State), s.bar.selResets.headD 0 + 20736000000 ≤ s.ledger → Answers (.meterSuspectExpiry) s fun t => t = s.wrb
      F.BAR_STATUS_METER_SUSPECT false)

/-- Clocks, supplies, Lull and waking. RTC32_LOSS sets RTC_FAIL; VBAT_MEASURE shows the battery and advances the powered seconds;
AON_SUPPLY_SWITCH shows the source; AON_RESET without VIN empties what VBAT held; a repaired word of retention SRAM is counted; a LULL
message arms Lull; LULL_ENTRY of a joined unit drops its claim and begins the announced leave, of a unit on no ring enters Lull;
HOST_WAKE, PLUG_WAKE and SAFETY_WAKE wake with their cause; WAKE_COMPLETE ends Lull: the clocks run and so does the partition. Rests on
R474, R476, R479, R482, R483, R484, R487. -/
def Obligations.ClocksSuppliesAndLull : Prop :=
  (∀ (s : State), s.sys.vinPresent = true → Answers (.rtc32Loss) s fun t => t.rdb F.CLK_AON_STATUS_RTC_FAIL = true ∧ t.rdb
      F.CLK_STATUS_RTC_FAIL = true ∧ t.clk = s.clk) ∧
  (∀ (mv rtc : Nat) (tAon : Int) (s : State), mv < 2 ^ 32 → s.inLull = false → Answers (.vbatMeasure mv tAon rtc) s fun t => t.rd
      F.CLK_AON_VBAT = mv ∧ t.rdb F.CLK_STATUS_VBAT_LOW = decide (mv < 2400) ∧ (s.sys.vinPresent = true → t.barGet 0 = min (s.barGet 0 +
      1) (2 ^ 64 - 1))) ∧
  (∀ (vin : Bool) (s : State), Answers (.aonSupplySwitch vin) s fun t => t.sys.vinPresent = vin ∧ t.rdb F.CLK_AON_STATUS_SOURCE = !vin) ∧
  (∀ (s : State), s.sys.vinPresent = false → Answers (.aonReset) s fun t => t.rdb F.CLK_AON_STATUS_POR = true ∧ t.que.ring = [] ∧
      t.bar.cnt = {} ∧ t.bar.retentionOk = false ∧ t.clk.aonLost = true) ∧
  (∀ (s : State), Answers (.retentionScrub .sramFixed) s fun t => t.barGet 0xD = min (s.barGet 0xD + 1) (2 ^ 32 - 1)) ∧
  (∀ (target src : Nat) (s : State), s.kind = .outlet → target = s.addr → src = s.trg.lastMaster → s.inLull = false → Answers
      (.lullMessageReceive target src) s fun t => t = { s with clk.lullNext := true }) ∧
  (∀ (rtc : Nat) (s : State), s.clk.lullNext = true → s.inLull = false → s.sys.earlyWarning = false → s.rd F.CLK_LULL_STATUS_STATE = 0 →
      s.lullRefusals = 0 → s.trg.join = .joined → Answers (.lullEntry rtc) s fun t => t.rd F.CLK_LULL_STATUS_STATE = 1 ∧ t.trg.leaveLeft
      = 3 ∧ t.own = 0 ∧ t.clk.lullNext = false) ∧
  (∀ (rtc : Nat) (s : State), s.clk.lullNext = true → s.inLull = false → s.sys.earlyWarning = false → s.rd F.CLK_LULL_STATUS_STATE = 0 →
      s.lullRefusals = 0 → s.trg.join ≠ .joined → s.trg.leaveLeft = 0 → s.clk.wakeWait = none → Answers (.lullEntry rtc) s fun t =>
      t.inLull = true ∧ t.rd F.CLK_STATUS_LOCK = 4 ∧ t.trg.key = none ∧ t.met.running = false) ∧
  (∀ (side : Side) (s : State), s.inLull = true → Answers (.hostWake side 0x5C03#16) s fun t => t.rd F.CLK_LULL_STATUS_STATE = 3 ∧ t.rd
      F.CLK_LULL_STATUS_WAKE_CAUSE = 2) ∧
  (∀ (s : State), s.inLull = true → s.kind = .outlet → Answers (.plugWake) s fun t => t.rd F.CLK_LULL_STATUS_STATE = 3 ∧ t.rd
      F.CLK_LULL_STATUS_WAKE_CAUSE = 3) ∧
  (∀ (k : Fin 4) (s : State), s.inLull = true → s.rdb (F.SAF_IN_CFG_ENABLE k.val) = true → Answers (.safetyWake k) s fun t => t.rd
      F.CLK_LULL_STATUS_STATE = 3 ∧ t.rd F.CLK_LULL_STATUS_WAKE_CAUSE = 4) ∧
  (∀ (rtc : Nat) (s : State), s.rd F.CLK_LULL_STATUS_STATE = 3 → s.sys.earlyWarning = false → s.clk.scrubBad = false → Answers
      (.wakeComplete rtc) s fun t => t.rd F.CLK_LULL_STATUS_STATE = 0 ∧ t.inLull = false ∧ t.rd F.CLK_STATUS_LOCK = 31 ∧ t.met.running =
      true ∧ t.th.started = false ∧ t.clk.wakeWait = none)

/-- The update commands have the effect of R49 to R51 and R46. From the owner or with no owner, outside Lull: OPEN takes ownership and marks
the inactive slot empty; VERIFY shows VERIFYING, and its end VERIFIED where the checks of R43 pass, OPEN where they fail, with RESULT;
ARM of a unit that is not active and ARM_SINGLE write ONESHOT for the inactive slot and reset with source UPDATE, ARM of an active unit
with a ready partner hands over first; COMMIT in trial writes SLOT, raises PAT_SVN_MIN, ends the trial and shows COMMITTED, and the
first one binds the unit; ABORT releases the update and empties the slot, in trial it ends the trial as its expiry does; SEAL over the
shore with the safety credential tells the partition. Rests on R46, R49, R50, R51. -/
def Obligations.UpdateProcedure : Prop :=
  (∀ (side : Side) (s : State), s.inLull = false → s.foreignOwner side = false → s.pat.updState ≠ 4 → s.pat.updState ≠ 5 → Answers
      (.patOpen side 0x5A7E#16) s fun t => t.pat.updState = 1 ∧ t.rd F.PAT_UPD_STATUS_STATE = 1 ∧ (t.slotOf s.inactive).empty = true ∧
      t.pat.updOwner = (if side.val = 0 then 1 else 2) ∧ t.pat.updClient = (if side.val = 0 then 0 else s.clientOf side)) ∧
  (∀ (side : Side) (s : State), s.inLull = false → s.foreignOwner side = false → (s.pat.updState = 1 ∨ s.pat.updState = 3) → Answers
      (.patVerify side 0x5A7E#16) s fun t => t.pat.updState = 2 ∧ t.rd F.PAT_UPD_STATUS_STATE = 2 ∧ t.pat.updOwner = s.pat.updOwner) ∧
  (∀ (memOk : Bool) (r : Nat) (s : State), s.pat.updState = 2 → s.checkSlot (s.slotOf s.inactive) memOk (some (s.slotOf s.inactive).top)
      = r → r < 256 → Answers (.patVerifyDone memOk) s fun t => t.pat.updState = (if r = 0 then 3 else 1) ∧ t.rd F.PAT_UPD_STATUS_STATE
      = (if r = 0 then 3 else 1) ∧ t.pat.updResult = r ∧ t.rd F.PAT_UPD_STATUS_RESULT = r) ∧
  (∀ (side : Side) (s : State), s.inLull = false → s.foreignOwner side = false → s.pat.updState = 3 → (s.changesSafety = false ∨
      s.safety side = true) → s.active = false → Answers (.patArm side 0x5A7E#16) s fun t => t.pat.updState = 4 ∧ t.pat.oneshot =
      s.inactive ∧ t.pat.slot = s.pat.slot ∧ t.sys.startPending = some 7 ∧ t.sys.running = false) ∧
  (∀ (side : Side) (s : State), s.inLull = false → s.foreignOwner side = false → s.pat.updState = 3 → (s.changesSafety = false ∨
      s.safety side = true) → s.active = true → s.partnerReady = true → s.pair.formed = true → Answers (.patArm side 0x5A7E#16) s fun t
      => t.pair.handover = some 1 ∧ t.pat = s.pat) ∧
  (∀ (side : Side) (s : State), s.inLull = false → s.foreignOwner side = false → s.pat.updState = 3 → (s.changesSafety = false ∨
      s.safety side = true) → Answers (.patArmSingle side 0x5A7E#16) s fun t => t.pat.updState = 4 ∧ t.pat.oneshot = s.inactive ∧
      t.pat.slot = s.pat.slot ∧ t.sys.startPending = some 7 ∧ t.sys.running = false) ∧
  (∀ (side : Side) (s : State), s.inLull = false → s.foreignOwner side = false → s.pat.updState = 5 → s.rdb F.PAT_STATUS_TRIAL = true →
      s.pat.boundOwner ≠ 0 → Answers (.patCommit side 0x5A7E#16) s fun t => t.pat.updState = 6 ∧ t.pat.updOwner = 0 ∧ t.pat.oneshot = 0
      ∧ t.pat.slot = s.runSlot ∧ t.pat.svnMin = max s.pat.svnMin s.pat.runSvn ∧ t.rdb F.PAT_STATUS_TRIAL = false) ∧
  (∀ (side : Side) (s : State), s.inLull = false → s.foreignOwner side = false → s.pat.updState = 5 → s.rdb F.PAT_STATUS_TRIAL = true →
      s.pat.boundOwner = 0 → s.rd F.KEY_STATUS_LC = lcOpen → Answers (.patCommit side 0x5A7E#16) s fun t => t.pat.updState = 6 ∧
      t.pat.updOwner = 0 ∧ t.pat.oneshot = 0 ∧ t.pat.slot = s.runSlot ∧ t.pat.boundOwner = (s.slotOf s.runSlot).ownerId ∧
      t.pat.boundSite = (s.slotOf s.runSlot).siteId ∧ t.rd F.KEY_STATUS_LC = lcBound) ∧
  (∀ (side : Side) (s : State), s.inLull = false → s.foreignOwner side = false → 1 ≤ s.pat.updState → s.pat.updState ≤ 3 →
      s.pat.updOwner ≠ 0 → Answers (.patAbort side 0x5A7E#16) s fun t => t.pat.updState = 0 ∧ t.pat.updOwner = 0 ∧ t.pat.updClient = 0 ∧
      (t.slotOf s.inactive).empty = true ∧ t.rd F.PAT_UPD_STATUS_STATE = 0) ∧
  (∀ (side : Side) (s : State), s.inLull = false → s.foreignOwner side = false → s.pat.updState = 5 → s.rdb F.PAT_STATUS_TRIAL = true →
      s.bar.withdrawing = none → s.active = true → Answers (.patAbort side 0x5A7E#16) s fun t => t.pat.expired = true ∧ t.trialLeft = 0
      ∧ t.sys.startPending = s.sys.startPending) ∧
  (∀ (side : Side) (s : State), s.inLull = false → s.foreignOwner side = false → s.pat.updState = 5 → s.rdb F.PAT_STATUS_TRIAL = true →
      s.bar.withdrawing = none → s.active = false → Answers (.patAbort side 0x5A7E#16) s fun t => t.sys.startPending = some 7 ∧
      t.bar.withdrawing = some 9) ∧
  (∀ (side : Side) (s : State), s.inLull = false → side ≠ 0 → s.safety side = true → s.rdb F.PAT_STATUS_TRIAL = false → s.runSlot ≠ 0 →
      s.runSlot ≠ 3 → s.runSlot = s.pat.slot → s.rd F.KEY_STATUS_LC ≠ lcDebug → s.heldFor 1 = [] → (s.q 1).length < s.depth 1 → Answers
      (.patSeal side 0x5A7E#16) s fun t => t.q 1 = s.q 1 ++ [{ kind := 2, body := [] }] ∧ t.pat = s.pat)

/-- Owner time-out, the end of a trial and the configuration scrub. UPDATE_OWNER_TIMEOUT releases the owner and leaves the inactive slot
empty; TRIAL_EXPIRY of an active unit waits, of any other it withdraws with cause 9 and resets with source UPDATE, and so does
TRIAL_DEFERRED_REVERT once the unit is not active; SCRUB_WORD advances the pass and counts a completed one, a word that it rewrites in
SRAM or in MRAM is counted, and an uncorrectable word withdraws the unit. Rests on R49, R51, R54. -/
def Obligations.UpdateTimesAndScrub : Prop :=
  (∀ (s : State), s.pat.updOwner ≠ 0 → Answers (.updateOwnerTimeout) s fun t => t.pat.updOwner = 0 ∧ t.pat.updClient = 0 ∧ (t.slotOf
      s.inactive).empty = true ∧ t.rd F.PAT_UPD_STATUS_OWNER = 0) ∧
  (∀ (s : State), s.rdb F.PAT_STATUS_TRIAL = true → s.bar.withdrawing = none → s.active = true → Answers (.trialExpiry) s fun t =>
      t.pat.expired = true ∧ t.trialLeft = 0 ∧ t.sys.startPending = s.sys.startPending) ∧
  (∀ (s : State), s.rdb F.PAT_STATUS_TRIAL = true → s.bar.withdrawing = none → s.active = false → Answers (.trialExpiry) s fun t =>
      t.sys.startPending = some 7 ∧ t.bar.withdrawing = some 9) ∧
  (∀ (s : State), s.pat.expired = true → s.active = false → s.bar.withdrawing = none → Answers (.trialDeferredRevert) s fun t =>
      t.sys.startPending = some 7 ∧ t.bar.withdrawing = some 9) ∧
  (∀ (s : State), s.pat.scrubAt + 1 < s.pat.scrubLen → Answers (.scrubWord .equal) s fun t => t =
      { s with pat.scrubAt := s.pat.scrubAt + 1 }) ∧
  (∀ (s : State), s.pat.scrubAt + 1 < s.pat.scrubLen → Answers (.scrubWord .sramFixed) s fun t => t.rd F.PAT_SCRUB_FIXED = (s.rd
      F.PAT_SCRUB_FIXED + 1) % 2 ^ 32 ∧ t.barGet 0xA = min (s.barGet 0xA + 1) (2 ^ 32 - 1) ∧ t.pat.scrubAt = s.pat.scrubAt + 1) ∧
  (∀ (s : State), s.pat.scrubLen ≤ s.pat.scrubAt + 1 → Answers (.scrubWord .mramFixed) s fun t => t.pat.scrubAt = 0 ∧ t.rd
      F.PAT_SCRUB_PASSES = (s.rd F.PAT_SCRUB_PASSES + 1) % 2 ^ 32 ∧ t.barGet 0xC = min (s.barGet 0xC + 1) (2 ^ 32 - 1)) ∧
  (∀ (s : State), s.inLull = false → s.bar.withdrawing = none → Answers (.scrubWord .uncorrectable) s fun t => t.sys.startPending = some
      4 ∧ t.bar.withdrawing = some 1)

/-- LEVEL, TACK and paired-field groups. LEVEL_WRITE with its key, no reserved bit and the credential that expert level needs sets the
level; LOCAL_TACK, TACK_PIN_EDGE and RING_TACK_INSTANT latch the shadows of the groups they name into the tack buffers;
RING_TACK_REQUEST at the active site unit schedules a TACK; PFG_LIVE_TIMEOUT discards the pending values of a group that does not agree,
in shadow and tack buffer too, and counts the error. Rests on R68, R69, R70, R77, R79. -/
def Obligations.LevelsTacksAndGroups : Prop :=
  (∀ (side : Side) (b : Fin 20) (value : BitVec 32) (s : State), s.lullBlocks (blockBase b.val) = false → value.toNat / 65536 = 0x1E7A →
      value.toNat &&& 0xFCFE = 0 → s.blockCred b.val side = true → Answers (.levelWrite side b value) s fun t => t.expert b.val side =
      (value.toNat % 2 == 1)) ∧
  (∀ (side : Side) (mask : BitVec 16) (s : State), Answers (.localTack side mask) s fun t => Latched mask.toNat s t) ∧
  (∀ (widthNs time : Nat) (s : State), 20 ≤ widthNs → s.hbi.pinAt = none → s.rd F.HBI_PIN_TACK_MASK ≠ 0 → Answers (.tackPinEdge widthNs
      time) s fun t => t.hbi.pinAt = some time ∧ Latched (s.rd F.HBI_PIN_TACK_MASK) s t) ∧
  (∀ (g : Nat) (x : Nat × List Nat) (e : Nat × Nat × Nat) (s : State), s.numberedGroups.find? (·.1 == g) = some x → e ∈ s.hbi.pfgPending
      → e.1 = g → s.groupAgrees x.2 s.pendMarks s.pendCand = false → Answers (.pfgLiveTimeout g) s fun t => t.hbi.pfgPending =
      s.hbi.pfgPending.filter (·.1 != g) ∧ t.rd F.HBI_PFG_ERR_GROUP = g % 512 ∧ t.rd F.HBI_PFG_ERR_COUNT = min (s.rd F.HBI_PFG_ERR_COUNT
      + 1) 255 ∧ (∀ p ∈ s.hbi.pfgPending, p.1 = g → SMap.get resetCell t.shadow p.2.1 = SMap.get resetCell s.live p.2.1 ∧ SMap.get
      resetCell t.tbuf p.2.1 = SMap.get resetCell s.live p.2.1)) ∧
  (∀ (side : Side) (time : Nat) (s : State), s.kind = .site → s.active = true → 1 ≤ s.rd F.HBI_RTACK_MASK_TARGET → s.rd
      F.HBI_RTACK_MASK_TARGET ≤ 96 → time + 100000 ≤ s.rd64 F.HBI_RTACK_TIME_LO → s.rd64 F.HBI_RTACK_TIME_LO ≤ time + 10000000000 →
      s.hbi.rtackSent = none → Answers (.ringTackRequest side 0x6B2C#16 time) s fun t => t.hbi.rtackSent = some (s.rd
      F.HBI_RTACK_MASK_MASK, s.rd F.HBI_RTACK_MASK_TARGET, s.rd64 F.HBI_RTACK_TIME_LO)) ∧
  (∀ (time mask at_ : Nat) (s : State), s.hbi.rtackDue = [(mask, at_)] → at_ ≤ time → Answers (.ringTackInstant time) s fun t =>
      t.hbi.rtackDue = [] ∧ t.hbi.rtackDone = some (mask, at_) ∧ Latched mask s t)

/-- Challenges and credentials. CRED_CHALLENGE_READ draws a challenge of four words and makes it valid; an open command whose response is
right opens its credential and clears FAILS, another counts a failure and the fifth locks out for 300 s; close all and CRED_TIMEOUT
close credentials and return blocks to basic level; CRED_LOCKOUT_END ends the lock-out. The challenge is a free value (log 1). Rests on
R79, R81, R82. -/
def Obligations.Credentials : Prop :=
  (∀ (side : Side) (s : State), Answers (.credChallengeRead side) s fun t => (t.side side).chalValid = true ∧ t.drawn = s.drawn + 1 ∧ (∀
      i : Fin 4, t.rd ((F.HBI_CRED_CHAL i.val).bank side) = Config.free 50 s.drawn / 2 ^ (32 * i.val) % 2 ^ 32)) ∧
  (∀ (side : Side) (k : List Nat) (s : State), (s.side side).lockedOut = false → (s.side side).chalValid = true → s.credKey false = some
      k → s.credGiven side = s.credResponse side false k → Answers (.credOpenMaintenance side 0x3C1D#16 true) s fun t => t.maint side =
      true ∧ t.rd (F.HBI_CRED_STATUS_FAILS.bank side) = 0) ∧
  (∀ (side : Side) (s : State), (s.side side).lockedOut = false → (((s.credKey false).any fun k => s.credGiven side == s.credResponse
      side false k) = false) → Answers (.credOpenMaintenance side 0x3C1D#16 true) s fun t => t.rd (F.HBI_CRED_STATUS_FAILS.bank side) =
      min (s.rd (F.HBI_CRED_STATUS_FAILS.bank side) + 1) 5 ∧ (t.side side).lockedOut = decide (5 ≤ s.rd (F.HBI_CRED_STATUS_FAILS.bank
      side) + 1)) ∧
  (∀ (side : Side) (k : List Nat) (s : State), (s.side side).lockedOut = false → (s.side side).chalValid = true → s.credKey true = some
      k → s.credGiven side = s.credResponse side true k → Answers (.credOpenSafety side 0x3C1D#16 true) s fun t => t.safety side = true
      ∧ t.rd (F.HBI_CRED_STATUS_FAILS.bank side) = 0) ∧
  (∀ (side : Side) (s : State), (s.side side).lockedOut = false → (((s.credKey true).any fun k => s.credGiven side == s.credResponse
      side true k) = false) → Answers (.credOpenSafety side 0x3C1D#16 true) s fun t => t.rd (F.HBI_CRED_STATUS_FAILS.bank side) = min
      (s.rd (F.HBI_CRED_STATUS_FAILS.bank side) + 1) 5 ∧ (t.side side).lockedOut = decide (5 ≤ s.rd (F.HBI_CRED_STATUS_FAILS.bank side)
      + 1)) ∧
  (∀ (side : Side) (s : State), (s.side side).lockedOut = false → Answers (.credCloseAll side 0x3C1D#16) s fun t => t.maint side = false
      ∧ t.safety side = false ∧ (∀ b : Fin 20, t.expert b.val side = false)) ∧
  (∀ (side : Side) (safety : Bool) (s : State), Answers (.credTimeout side safety) s fun t => (if safety then t.safety side = false ∧
      t.maint side = s.maint side ∧ (∀ b : Fin 20, safetyBlock b.val = true → t.expert b.val side = false) else t.maint side = false ∧
      t.safety side = s.safety side)) ∧
  (∀ (side : Side) (s : State), (s.side side).lockedOut = true → Answers (.credLockoutEnd side) s fun t => (t.side side).lockedOut =
      false ∧ t.rd (F.HBI_CRED_STATUS_FAILS.bank side) = 0 ∧ t.lockLeft side = 0)

/-- The indirect window. A write of HBI_IDX_ADDR locks a free port and starts a fetch, or waits for a port that another window holds; the
fetched word sets READY; a read returns it and INC advances the address within the range; a slot word of the update owner is posted and
written; its completion sets READY; RELEASE and 1 µs without access free the port; a window that waits takes a port that is free. Rests
on R49, R83, R84, R85. -/
def Obligations.IndirectWindow : Prop :=
  (∀ (side : Side) (addr : BitVec 32) (p : Nat) (s : State), addr.toNat % 4 = 0 → idxRange addr.toNat = some p → p ≠ rSlot → s.inLull =
      false → (s.side side).posted = none → (s.side side).waitPost = none → s.portHeld side p = false → Answers (.idxAddrWrite side
      addr) s fun t => t.idxAddr side = addr.toNat ∧ (t.side side).port = some p ∧ (t.side side).fetching = true ∧ t.idxReady side =
      false ∧ t.idxWait side = false) ∧
  (∀ (side : Side) (addr : BitVec 32) (p : Nat) (s : State), addr.toNat % 4 = 0 → idxRange addr.toNat = some p → s.inLull = false →
      (s.side side).posted = none → (s.side side).waitPost = none → s.portHeld side p = true → Answers (.idxAddrWrite side addr) s fun t
      => t.idxAddr side = addr.toNat ∧ (t.side side).port = none ∧ t.idxWait side = true ∧ t.idxReady side = false) ∧
  (∀ (side : Side) (s : State), (s.side side).fetching = true → Answers (.idxFetchDone side) s fun t => (t.side side).fetching = false ∧
      t.idxReady side = true ∧ (s.idxAddr side < 0x10000 → t.rd (F.HBI_IDX_DATA.bank side) = s.windowWord (s.idxAddr side) % 2 ^ 32)) ∧
  (∀ (side : Side) (s : State), s.idxRefusal side = none → (s.side side).fetchErr = 0 → s.rdb (F.HBI_IDX_CTRL_INC.bank side) = false →
      Answers (.idxDataRead side) s fun t => t.idxAddr side = s.idxAddr side ∧ (side = 0 → t.hbi.data = s.rd F.HBI_IDX_DATA ∧ t.hbi.errN
      = false)) ∧
  (∀ (side : Side) (p : Nat) (s : State), s.idxRefusal side = none → (s.side side).fetchErr = 0 → s.rdb (F.HBI_IDX_CTRL_INC.bank side) =
      true → idxRange (s.idxAddr side) = some p → idxRange (s.idxAddr side + 4) = some p → p ≠ rSlot → (s.side side).waitPost = none →
      s.portHeld side p = false → Answers (.idxDataRead side) s fun t => t.idxAddr side = s.idxAddr side + 4 ∧ (t.side side).fetching =
      true) ∧
  (∀ (side : Side) (value : BitVec 32) (s : State), s.idxRefusal side = none → idxRange (s.idxAddr side) = some rSlot → s.portHeld side
      rSlot = false → s.slotRefusal side = none → Answers (.idxDataWrite side value) s fun t => (t.side side).posted = some (s.idxAddr
      side, value.toNat) ∧ t.idxReady side = false ∧ SMap.get (fun _ => 0) (t.slotOf s.inactive).mem ((s.idxAddr side - 0x1000000) / 4)
      = value.toNat) ∧
  (∀ (side : Side) (x : Nat × Nat) (s : State), (s.side side).posted = some x → (s.side side).nextAddr = none → s.rdb
      (F.HBI_IDX_CTRL_INC.bank side) = false → Answers (.idxPostDone side) s fun t => (t.side side).posted = none ∧ t.idxReady side =
      true ∧ t.idxAddr side = s.idxAddr side) ∧
  (∀ (side : Side) (s : State), Answers (.idxRelease side) s fun t => (t.side side).port = none ∧ t.idxWait side = s.idxWait side ∧
      t.rdb (F.HBI_IDX_STATUS_LOCKED.bank side) = false ∧ t.idxAddr side = s.idxAddr side ∧ t.idxReady side = s.idxReady side) ∧
  (∀ (side : Side) (s : State), s.idxReady side = true → Answers (.idxPortTimeout side) s fun t => (t.side side).port = none ∧ t.rdb
      (F.HBI_IDX_STATUS_LOCKED.bank side) = false ∧ t.idxAddr side = s.idxAddr side) ∧
  (∀ (side : Side) (p : Nat) (s : State), s.idxWait side = true → idxRange (s.idxAddr side) = some p → p ≠ rSlot → s.portHeld side p =
      false → (s.side side).waitPost = none → Answers (.idxPortFree side) s fun t => t.idxWait side = false ∧ (t.side side).port = some
      p ∧ (t.side side).fetching = true)

/-- Plain register accesses and the remote request. A write of PWM_HB[n]_PERIOD at expert level with the maintenance credential reaches the
shadow and not the live value, one of HBI_PIN_TACK the live value, one of QUE_MBX_OUT[0] is refused with RO_WRITE, one of an address
without a register with ADDR, both recorded; a read of HBI_PIN_TACK drives the register on HB_D; a remote request whose one operation is
the read of one word makes that access for the session and answers with the word. Rests on R63, R64, R67, R79, R88, R89, R111. -/
def Obligations.RegisterAccess : Prop :=
  (∀ (n : Fin 12) (side : Side) (value : BitVec 32) (time : Nat) (fresh : Bool) (s : State), s.inLull = false → value.toNat < 65536 →
      s.expert 6 side = true → s.maint side = true → Answers (.registerWrite side (BitVec.ofNat 32 (F.PWM_HB_PERIOD_PERIOD n.val).addr)
      value time fresh) s fun t => t.rdShadow (F.PWM_HB_PERIOD_PERIOD n.val) = value.toNat ∧ t.rd (F.PWM_HB_PERIOD_PERIOD n.val) = s.rd
      (F.PWM_HB_PERIOD_PERIOD n.val) ∧ t.hbi.refused = none) ∧
  (∀ (side : Side) (value : BitVec 32) (time : Nat) (fresh : Bool) (s : State), s.inLull = false → Answers (.registerWrite side
      0x2A300#32 value time fresh) s fun t => t.hbi.refused = some eRoWrite ∧ t.rd F.HBI_ERR_INFO_CODE = eRoWrite ∧ t.rd F.HBI_ERR_ADDR
      = 0x2A300) ∧
  (∀ (side : Side) (value : BitVec 32) (time : Nat) (fresh : Bool) (s : State), value.toNat < 65536 → Answers (.registerWrite side
      0x1010#32 value time fresh) s fun t => t.rd F.HBI_PIN_TACK_MASK = value.toNat ∧ t.hbi.refused = none) ∧
  (∀ (side : Side) (value : BitVec 32) (time : Nat) (fresh : Bool) (s : State), s.inLull = false → Answers (.registerWrite side
      0x3FFFC#32 value time fresh) s fun t => t.hbi.refused = some eAddr ∧ t.rd F.HBI_ERR_INFO_CODE = eAddr ∧ t.rd F.HBI_ERR_ADDR =
      0x3FFFC ∧ (side = 0 → t.hbi.errN = true)) ∧
  (∀ (side : Side) (s : State), Answers (.registerRead side 0x1010#32) s fun t => (side = 0 → t.hbi.data = s.rd F.HBI_PIN_TACK_MASK) ∧
      t.live = s.live ∧ t.hbi.refused = none) ∧
  (∀ (job : RemoteJob) (rest : List RemoteJob) (side : Side) (a time : Nat) (fresh : Bool) (x : Nat × State) (s : State), s.trg.jobs =
      job :: rest → s.inLull = false → s.trg.join = .joined → side ≠ 0 → job.session = side.val → job.typ = 1 → parseOps 256 job.body =
      some [{ count := 1, addr := a }] → (s.session job.session).isOpen = true → s.goldenShuts a = false →
      ({ s with hbi.refused := none } : State).readWord side a = x → x.2.hbi.refused = none → job ∈ x.2.trg.jobs → Answers
      (.remoteRequest [] time fresh) s fun t => t = ({ x.2 with trg.jobs := x.2.trg.jobs.erase job } : State).answerSession 3 side.val 1
      job.reqId 0 0xFFFF (leBytes 4 x.1))

/-- The queue fabric, the host mailbox, the trace and subscriptions. QUEUE_MOVE outside Lull takes the head of Q0 to the fault ring at
FR_HEAD, which advances; POP removes the head of Q11 and keeps the interrupt only while entries are left; PUSH of a class 0xE event
places it in Q10; a subscription with entries sends up to 64 of them; a read of QUE_TRACE_DATA returns and removes the oldest word.
Rests on R457, R460, R461, R465, R466, R467. -/
def Obligations.QueuesAndTrace : Prop :=
  (∀ (ready : BitVec 16) (e : Ev) (es : List Ev) (s : State), s.inLull = false → s.que.q0 = e :: es → s.heldFor 0 = [] → Answers
      (.queueMove ready) s fun t => t.que.q0 = es ∧ SMap.get (fun _ => none) t.que.ring (s.rd F.QUE_FR_HEAD) = some e ∧ t.rd
      F.QUE_FR_HEAD = (s.rd F.QUE_FR_HEAD + 1) % 4096) ∧
  (∀ (side : Side) (e : Ev) (es : List Ev) (s : State), s.inLull = false → s.que.q11 = e :: es → Answers (.queMbxPop side 0x3E90#16) s
      fun t => t.que.q11 = es ∧ t.rdb F.QUE_IRQ_STATUS_MBX_OUT = (es != []) ∧ t.que.ring = s.que.ring) ∧
  (∀ (side : Side) (s : State), s.inLull = false → evClass s.mbxIn.code = 0xE → s.que.q10.length < s.depth 10 → Answers (.queMbxPush
      side 0x3E90#16) s fun t => t.que.q10 = s.que.q10 ++ [s.mbxIn] ∧ t.que.ring = s.que.ring) ∧
  (∀ (session : Fin 4) (time : Nat) (sub : Subscription) (s : State), s.que.subs.find? (·.session == session.val + 1) = some sub →
      sub.waiting ≠ [] → sub.sentAt = none → Answers (.subscriptionSend session time) s fun t => t.que.subs.find? (·.session ==
      session.val + 1) = some { sub with waiting := sub.waiting.drop 64, lost := 0, sentAt := some time }) ∧
  (∀ (side : Side) (s : State), s.inLull = false → Answers (.traceRead side) s fun t => t.que.trace = s.que.trace.drop 1 ∧ (side = 0 →
      t.hbi.data = s.que.trace.headD 0))

/-- Shore sessions and requests. A client whose key admits opens a free session with its rights, closing or 300 s of silence end one with
all that its side held; a well-formed request with the rights becomes outstanding, one with a wrong LENGTH closes the session, a ninth
finds it busy; KEEPALIVE is answered at once; a response of another unit and 100 ms without one are answered to the client. Rests on
R82, R109, R110, R111. -/
def Obligations.ShoreSessions : Prop :=
  (∀ (digest : List Nat) (j k : Nat) (s : State), s.inLull = false → s.kind = .site → s.active = true → s.rdb F.TRG_SHORE_CFG_ENABLE =
      true → s.clientEntry digest = some j → [1, 2, 3, 4].find? (fun k => !(s.session k).isOpen) = some k → Answers (.shoreConnect true
      digest) s fun t => t.session k = s.admitted j ∧ t.pair = s.pair) ∧
  (∀ (session : Fin 4) (s : State), Answers (.shoreSessionTimeout session) s fun t => t.session (session.val + 1) = {} ∧ t.side
      (session.val + 1) = {} ∧ t.maint (session.val + 1) = false ∧ t.safety (session.val + 1) = false ∧ (∀ x ∈ t.que.subs, x.session ≠
      session.val + 1)) ∧
  (∀ (session : Fin 4) (s : State), Answers (.shoreSessionClose session) s fun t => t.session (session.val + 1) = {} ∧ t.side
      (session.val + 1) = {} ∧ t.maint (session.val + 1) = false ∧ t.safety (session.val + 1) = false ∧ (∀ x ∈ t.que.subs, x.session ≠
      session.val + 1)) ∧
  (∀ (session : Fin 4) (reqId target length : Nat) (body : List Nat) (ops : List AccessOp) (s : State), s.kind = .site → s.active = true
      → (s.session (session.val + 1)).isOpen = true → 8 ≤ length → length ≤ 8188 → (s.session (session.val + 1)).outstanding.length < 8
      → parseOps 256 body = some ops → (s.session (session.val + 1)).observe = true → (s.session (session.val + 1)).operate = true →
      s.reachable target = true → Answers (.shoreAccess session reqId target length body) s fun t => (t.session (session.val +
      1)).outstanding = (s.session (session.val + 1)).outstanding ++ [{ typ := 1, reqId := reqId, target := target, body := body }]) ∧
  (∀ (session : Fin 4) (reqId target length : Nat) (body : List Nat) (s : State), s.kind = .site → s.active = true → (s.session
      (session.val + 1)).isOpen = true → length < 8 → Answers (.shoreAccess session reqId target length body) s fun t => t.session
      (session.val + 1) = {}) ∧
  (∀ (session : Fin 4) (reqId target length : Nat) (s : State), s.kind = .site → s.active = true → (s.session (session.val + 1)).isOpen
      = true → 8 ≤ length → length ≤ 8188 → (s.session (session.val + 1)).outstanding.length < 8 → Answers (.shoreKeepalive session
      reqId target length) s fun t => t = s.toShore (session.val + 1) (shoreMessage 0x8005 reqId target 0 0xFFFF [])) ∧
  (∀ (session : Fin 4) (reqId target length : Nat) (s : State), s.kind = .site → s.active = true → (s.session (session.val + 1)).isOpen
      = true → 8 ≤ length → length ≤ 8188 → 8 ≤ (s.session (session.val + 1)).outstanding.length → Answers (.shoreKeepalive session
      reqId target length) s fun t => t = s.toShore (session.val + 1) (shoreMessage 0x8005 reqId target stBusy 0xFFFF [])) ∧
  (∀ (session : Fin 4) (typ reqId target status index : Nat) (body : List Nat) (s : State), s.kind = .site → s.active = true →
      (s.session (session.val + 1)).isOpen = true → (s.session (session.val + 1)).outstanding.any (fun q => 0x8000 + q.typ == 0x8000 +
      typ && q.reqId == reqId && q.target == target) = true → Answers (.remoteResponse session (0x8000 + typ) reqId target status index
      body) s fun t => t = (s.resolve (session.val + 1) typ reqId target).toShore (session.val + 1) (shoreMessage (0x8000 + typ) reqId
      target status index body)) ∧
  (∀ (session : Fin 4) (reqId target : Nat) (q : ShoreReq) (s : State), (s.session (session.val + 1)).isOpen = true → (s.session
      (session.val + 1)).outstanding.find? (fun q => q.reqId == reqId && q.target == target) = some q → Answers (.remoteUnreachable
      session reqId target) s fun t => t = (s.resolve (session.val + 1) q.typ reqId target).toShore (session.val + 1) (shoreMessage
      (0x8000 + q.typ) reqId target stUnreachable 0xFFFF []))

/-- Records and subscriptions over the shore link. At a target a subscription request replaces the session's subscription, at the active
site unit one to another unit becomes outstanding; a record request at a unit that may hold the records is answered on channel 0x04 with
what it holds, at the active site unit that owns them to the session; records that come in for an outstanding request go to the client.
Rests on R112, R466. -/
def Obligations.RecordsAndSubscriptions : Prop :=
  (∀ (session : Fin 4) (reqId target length : Nat) (body : List Nat) (s : State), s.servesShore = false → s.inLull = false → s.trg.join
      = .joined → s.trg.jobs = [] → target = s.addr → body.length = 4 → leNat (body.take 2) ≠ 0 → Answers (.shoreEventSubscribe session
      reqId target length body) s fun t => t.que.subs = s.que.subs.filter (·.session != session.val + 1) ++
      [{ session := session.val + 1, reqId := reqId, classes := leNat (body.take 2), maxSev := body.getD 2 0, scopeAll := body.getD 3 0 == 1 }]) ∧
  (∀ (session : Fin 4) (reqId target length : Nat) (body : List Nat) (s : State), s.kind = .site → s.active = true → (s.session
      (session.val + 1)).isOpen = true → 8 ≤ length → length ≤ 8188 → (s.session (session.val + 1)).outstanding.length < 8 → body.length
      = 4 → body.getD 3 0 ≤ 1 → target ≠ s.addr → s.reachable target = true → Answers (.shoreEventSubscribe session reqId target length
      body) s fun t => (t.session (session.val + 1)).outstanding = (s.session (session.val + 1)).outstanding ++
      [{ typ := 4, reqId := reqId, target := target, body := body }]) ∧
  (∀ (session : Fin 4) (reqId target length : Nat) (body : List Nat) (q : RecordAsk) (s : State), s.servesShore = false → recordAsk 2
      body = some q → s.inLull = false → s.trg.join = .joined → Answers (.shoreJournalGet session reqId target length body) s fun t => t
      = s.ringReply 4 s.trg.lastMaster ((session.val + 1) :: shoreMessage 0x8002 reqId target (s.recordAnswer q).1 0xFFFF
      (s.recordAnswer q).2)) ∧
  (∀ (session : Fin 4) (reqId target length : Nat) (body : List Nat) (q : RecordAsk) (s : State), s.kind = .site → s.active = true →
      (s.session (session.val + 1)).isOpen = true → 8 ≤ length → length ≤ 8188 → (s.session (session.val + 1)).outstanding.length < 8 →
      recordAsk 2 body = some q → q.owner = s.addr → s.reachable s.addr = true → 4 < (s.recordAnswer q).2.length → Answers
      (.shoreJournalGet session reqId target length body) s fun t => t = ((s.setSession (session.val + 1)
      { s.session (session.val + 1) with outstanding := (s.session (session.val + 1)).outstanding ++ [{ typ := 2, reqId := reqId, target := target, body := body }] }).answerShore
      (session.val + 1) 2 reqId target (s.recordAnswer q).1 0xFFFF (s.recordAnswer q).2)) ∧
  (∀ (session : Fin 4) (reqId target length : Nat) (body : List Nat) (q : RecordAsk) (s : State), s.servesShore = false → recordAsk 3
      body = some q → s.inLull = false → s.trg.join = .joined → Answers (.shoreBarographGet session reqId target length body) s fun t =>
      t = s.ringReply 4 s.trg.lastMaster ((session.val + 1) :: shoreMessage 0x8003 reqId target (s.recordAnswer q).1 0xFFFF
      (s.recordAnswer q).2)) ∧
  (∀ (session : Fin 4) (reqId target length : Nat) (body : List Nat) (q : RecordAsk) (s : State), s.kind = .site → s.active = true →
      (s.session (session.val + 1)).isOpen = true → 8 ≤ length → length ≤ 8188 → (s.session (session.val + 1)).outstanding.length < 8 →
      recordAsk 3 body = some q → q.owner = s.addr → s.reachable s.addr = true → 4 < (s.recordAnswer q).2.length → Answers
      (.shoreBarographGet session reqId target length body) s fun t => t = ((s.setSession (session.val + 1)
      { s.session (session.val + 1) with outstanding := (s.session (session.val + 1)).outstanding ++ [{ typ := 3, reqId := reqId, target := target, body := body }] }).answerShore
      (session.val + 1) 3 reqId target (s.recordAnswer q).1 0xFFFF (s.recordAnswer q).2)) ∧
  (∀ (session : Fin 4) (typ reqId target status : Nat) (body : List Nat) (r : ShoreReq) (q : RecordAsk) (s : State), s.servesShore =
      true → (s.session (session.val + 1)).outstanding.find? (fun q => 0x8000 + q.typ == typ && q.reqId == reqId && q.target == target)
      = some r → recordAsk r.typ r.body = some q → 4 < body.length → Answers (.recordTransfer session typ reqId target status body) s
      fun t => t = s.answerShore (session.val + 1) r.typ reqId target status 0xFFFF body)

/-- Trains, cycle headers and data slots. CYCLE_START at the master advances CYCLE and sends a header with its address; a delimiter gives
the hop count and the unit writes its slots once a cycle; a valid header of another master sets CYCLE, ring time that never falls, and
the last master; a data slot marks its source a member, and a whole one-fragment message for this unit is received; a unit strapped as
site unit becomes provisional master. Rests on R94, R95, R96, R97, R102, R103, R105. -/
def Obligations.RingTrains : Prop :=
  (∀ (time : Nat) (unwrapNext wrapped : Bool) (s : State), s.kind = .site → s.isMaster = true → s.trg.key.isSome = true → s.trg.join =
      .joined → Answers (.cycleStart time unwrapNext wrapped) s fun t => t.cycle = (s.cycle + 1) % 2 ^ 64 ∧ t.trg.header.cycle =
      (s.cycle + 1) % 2 ^ 64 ∧ t.trg.header.master = s.addr ∧ t.trg.header.wrapped = wrapped ∧ t.trg.header.unwrapNext = unwrapNext ∧
      t.trg.header.ringTime = t.now ∧ t.now = max s.now time % 2 ^ 64 ∧ t.trg.lastMaster = s.addr ∧ (unwrapNext = true →
      t.trg.unwrapSeen.isSome = true)) ∧
  (∀ (dirB wrapped ringWrapped : Bool) (cycle hop correction delay forward neighbour master time : Nat) (s : State), s.isMaster = false
      → s.rd F.CLK_LULL_STATUS_STATE = 0 → s.trg.away = false → s.addr ≠ 0 → s.sys.running = true → s.trg.join = .joined →
      s.trg.key.isSome = true → s.trg.leaveLeft = 0 → s.trg.slotCycle ≠ some cycle → Answers (.trainDelimiter dirB wrapped ringWrapped
      cycle hop correction delay forward neighbour master time) s fun t => t.trg.slotSent = s.trg.slot ∧ t.trg.slot = none ∧
      t.trg.slotCycle = some cycle ∧ t.trg.slotLeave = false ∧ (if dirB then t.trg.hopB = (hop + 1) % 256 ∧ t.trg.corrB = (correction +
      delay) % 2 ^ 32 else t.trg.hopA = (hop + 1) % 256 ∧ t.trg.corrA = (correction + delay) % 2 ^ 32)) ∧
  (∀ (header : RingHeader) (arrival : Nat) (steer : Int) (s : State), s.trg.key.isSome = true → header.master ≠ s.addr → s.isMaster =
      false → s.cycle < header.cycle → Answers (.cycleHeaderReceive header false true arrival steer) s fun t => t.trg.lastMaster =
      header.master ∧ (header.unwrapNext = true → t.trg.unwrapSeen.isSome = true) ∧ t.cycle = header.cycle % 2 ^ 64 ∧ t.now = max s.now
      (s.trainTime header false) % 2 ^ 64) ∧
  (∀ (slot : DataSlot) (cycle : Nat) (s : State), s.inLull = false → slotSeen s.trg.dataSeen slot.src cycle = false → s.trg.key.isSome =
      true → 1 ≤ slot.src → slot.src ≤ 96 → slot.src ≠ s.addr → slot.leave = false → slot.payload = [] → Answers (.dataSlotReceive slot
      cycle true) s fun t => t.member slot.src = true ∧ SMap.get (fun _ => none) t.pair.slotAt slot.src = some cycle) ∧
  (∀ (slot : DataSlot) (cycle : Nat) (s : State), s.inLull = false → slotSeen s.trg.dataSeen slot.src cycle = false → s.trg.key.isSome =
      true → 1 ≤ slot.src → slot.src ≤ 96 → slot.src ≠ s.addr → slot.leave = false → s.member slot.src = true → 1 ≤ slot.channel →
      slot.channel ≤ 7 → slot.first = true → slot.last = true → slot.payload ≠ [] → slot.payload.headD 0 = s.addr → (s.q 5).length <
      s.depth 5 → Answers (.dataSlotReceive slot cycle true) s fun t => t.trg.message = some (slot.src, slot.channel, slot.payload.take
      48) ∧ (t.q 5).length = (s.q 5).length + 1) ∧
  (∀ (time : Nat) (s : State), s.kind = .site → s.rd F.TRG_STATUS_SOURCE = 1 → s.sys.running = true → s.trg.join ≠ .joined → s.trg.away
      = false → s.isMaster = false → s.inLull = false → s.trg.trainAt.all (fun t => t + 50000000 ≤ time) = true → Answers
      (.provisionalMaster time) s fun t => t.trg.provisional = true ∧ t.isMaster = true ∧ t.trg.key.isSome = true ∧ t.trg.join =
      .joined) ∧
  (∀ (offset calendar : Int) (locked : Bool) (port : Fin 3) (s : State), s.kind = .site → Answers (.ptpSync offset calendar locked port)
      s fun t => t.bil.ptpOffset = calendar ∧ t.rdb F.TRG_CAL_STATUS_PTP_LOCK = locked ∧ t.rd F.TRG_CAL_STATUS_PTP_PORT = port.val ∧
      t.trg.ptpGood = (if offset.natAbs ≤ 100000 then min 16 (s.trg.ptpGood + 1) else 0)) ∧
  (∀ (s : State), s.kind = .site → Answers (.ptpSyncTimeout) s fun t => t.trg.ptpGood = 0 ∧ (s.active = true → t.rdb
      F.TRG_CAL_STATUS_PROVEN = false))

/-- Squall frames and breaks. An event of a defined class enters Q0 and is pending for Squall where it qualifies; an eligible train takes
the pending frame with its SEQ; a new frame of another unit enters Q0; a broken link wraps its port and counts; with UNWRAP_NEXT a good
link unwraps. Rests on R99, R100, R457, R462. -/
def Obligations.SquallAndBreaks : Prop :=
  (∀ (code : BitVec 16) (arg : BitVec 32) (s : State), evClass code.toNat ≠ 0 → evClass code.toNat ≠ 15 → s.inLull = false →
      s.que.q0.length < s.depth 0 → Answers (.squallEvent code arg) s fun t => t.que.q0 = s.que.q0 ++
      [{ time := s.now, code := code.toNat, src := s.addr, arg := arg.toNat }] ∧ (squallWorthy code.toNat = true → t.trg.squall.isSome =
      true)) ∧
  (∀ (cycle : Nat) (e : Ev) (s : State), s.trg.squall = some e → cycle % 3 = s.addr % 3 → s.inLull = false → s.trg.squallAt ≠ some cycle
      → s.trg.key.isSome = true → s.addr ≠ 0 → Answers (.squallSend cycle) s fun t => t.trg.squall = none ∧ t.trg.squallSent = some (e,
      s.trg.squallSeq) ∧ t.trg.squallSeq = (s.trg.squallSeq + 1) % 65536 ∧ t.trg.squallAt = some cycle) ∧
  (∀ (frame : SquallFrame) (s : State), s.inLull = false → frame.src ≠ s.addr → s.trg.key.isSome = true → s.squallTwice frame.src
      frame.seq = false → s.que.q0.length < s.depth 0 → Answers (.squallReceive frame true) s fun t => t.que.q0 = s.que.q0 ++
      [{ time := eventTime s.now frame.time, code := frame.code, src := frame.src, count := max 1 frame.count, arg := 0 }] ∧ (frame.seq,
      s.cycle) ∈ SMap.get (fun _ => []) t.trg.squallSeen frame.src) ∧
  (∀ (port : Fin 2) (s : State), s.trg.broken.contains (port.val + 1) = false → Answers (.linkBreak port) s fun t => t.trg.broken =
      (port.val + 1) :: s.trg.broken ∧ t.rdb F.TRG_STATUS_WRAP_1 = t.trg.broken.contains 1 ∧ t.rdb F.TRG_STATUS_WRAP_2 =
      t.trg.broken.contains 2 ∧ t.rd F.TRG_BREAKS = (s.rd F.TRG_BREAKS + 1) % 2 ^ 32) ∧
  (∀ (port : Fin 2) (c : Nat) (s : State), s.trg.broken.contains (port.val + 1) = true → s.trg.unwrapSeen = some c → c < s.cycle →
      Answers (.ringUnwrap port) s fun t => t.trg.broken = s.trg.broken.filter (· != port.val + 1) ∧ t.rdb F.TRG_STATUS_WRAP_1 =
      t.trg.broken.contains 1 ∧ t.rdb F.TRG_STATUS_WRAP_2 = t.trg.broken.contains 2)

/-- Joining, leaving and the ring key. A unit with a join key writes its request; the master takes one request a cycle and challenges it;
the joiner answers, or learns of a conflict; the master sends RING_KEY for a right response and no key for a wrong one; the joiner loads
the keys it unwraps; LEAVE announces a leave of three cycles; the master declares a silent unit left; a rekey generates and delivers a
key, and 100 ms after the last delivery EPOCH advances. What a key unwraps to is open (log 1). Rests on R105, R106, R107, R391, R392. -/
def Obligations.JoiningAndKeys : Prop :=
  (∀ (dirB : Bool) (k : List Nat) (s : State), s.addr ≠ 0 → s.trg.join = .idle → s.trg.leaveLeft = 0 → s.isMaster = false → s.inLull =
      false → s.sys.running = true → s.joinKey Config.deviceId s.addr = some k → Answers (.joinRequest dirB) s fun t => t.trg.join =
      .requested ∧ t.trg.joinWith = some k ∧ t.trg.window.take 3 = [1, s.addr, s.sys.strapPins]) ∧
  (∀ (dirB : Bool) (s : State), s.addr ≠ 0 → s.trg.join = .idle → s.trg.leaveLeft = 0 → s.isMaster = false → s.inLull = false →
      s.sys.running = true → s.joinKey Config.deviceId s.addr = none → Answers (.joinRequest dirB) s fun t => t = s) ∧
  (∀ (request : JoinReq) (windowB : Option JoinReq) (k : List Nat) (s : State), s.isMaster = true → s.trg.tookCycle ≠ some s.cycle →
      s.inLull = false → s.member request.addr = false → request.addr ≠ s.addr → s.trg.grants = [] → s.joinKey request.device
      request.addr = some k → Answers (.joinWindowTake (some request) windowB) s fun t => t.trg.tookCycle = some s.cycle ∧
      t.trg.grants.map (·.addr) = [request.addr] ∧ SMap.get (fun _ => 0) t.trg.devices request.addr = request.device) ∧
  (∀ (request : JoinReq) (s : State), s.isMaster = false → s.kind = .site → s.inLull = false → Answers (.joinWindowTake (some request)
      none) s fun t => SMap.get (fun _ => 0) t.trg.devices request.addr = request.device ∧ SMap.get (fun _ => []) t.trg.digests
      request.addr = request.digest) ∧
  (∀ (s : State), s.trg.join = .requested → Answers (.joinChalReceive none) s fun t => t.trg.join = .idle ∧ t.rdb F.TRG_STATUS_CONFLICT
      = true ∧ t.addr = 0 ∧ t.pat.instance_ = 0) ∧
  (∀ (nonce key : List Nat) (s : State), s.trg.join = .requested → s.trg.joinWith = some key → Answers (.joinChalReceive (some nonce)) s
      fun t => t.trg.join = .challenged ∧ t.trg.challenge = nonce ∧ t.trg.window = [2, s.addr, 0, 0] ++ (Config.hmac384 key (joinMessage
      nonce Config.deviceId s.addr s.topologyDigest (s.rd F.KEY_STATUS_LC))).take 32 ∧ t.rd F.KEY_JOBS = min (s.rd F.KEY_JOBS + 1) (2 ^
      32 - 1)) ∧
  (∀ (addr : Nat) (response : List Nat) (g : JoinGrant) (s : State), s.isMaster = true → s.trg.grants.find? (·.addr == addr) = some g →
      s.joinProof g addr response = true → Answers (.joinResponseCheck addr response) s fun t => t = (s.inc F.KEY_JOBS).ringSend 4 2
      addr (s.ringKeyBody addr g.key)) ∧
  (∀ (addr : Nat) (response : List Nat) (g : JoinGrant) (s : State), s.isMaster = true → s.trg.grants.find? (·.addr == addr) = some g →
      s.joinProof g addr response = false → Answers (.joinResponseCheck addr response) s fun t => t.trg.grants = s.trg.grants.filter
      (·.addr != addr)) ∧
  (∀ (s : State), s.trg.join = .challenged → s.trg.key = none → Answers (.joinRetry) s fun t => t.trg.join = .idle ∧ t.rdb
      F.KEY_STATUS_JOIN_FAIL = true) ∧
  (∀ (epoch : Nat) (wrapped key r : List Nat) (next : Option (Nat × List Nat)) (s : State), s.trg.join = .challenged → s.trg.joinWith =
      some key → Config.unwrap key wrapped = some r → Answers (.ringKeyReceive epoch wrapped next) s fun t => t.trg.key = some r ∧
      t.trg.epoch = epoch % 65536 ∧ t.trg.nextKey = next.bind (fun n => Config.unwrap key n.2) ∧ t.rdb F.TRG_STATUS_KEYED = true) ∧
  (∀ (epoch : Nat) (wrapped key : List Nat) (next : Option (Nat × List Nat)) (s : State), s.trg.join = .challenged → s.trg.joinWith =
      some key → Config.unwrap key wrapped = none → Answers (.ringKeyReceive epoch wrapped next) s fun t => t.trg.join = .idle ∧
      t.trg.key = s.trg.key) ∧
  (∀ (epoch : Nat) (wrapped k r : List Nat) (s : State), s.trg.join = .joined → epoch % 65536 = (s.trg.epoch + 1) % 65536 → s.joinKey
      Config.deviceId s.addr = some k → Config.unwrap k wrapped = some r → Answers (.rekeyDeliveryReceive epoch wrapped) s fun t => t =
      { s.inc F.KEY_JOBS with trg.nextKey := some r }) ∧
  (∀ (epoch : Nat) (wrapped : List Nat) (s : State), s.trg.join = .joined → epoch % 65536 = (s.trg.epoch + 1) % 65536 → (s.joinKey
      Config.deviceId s.addr).bind (fun k => Config.unwrap k wrapped) = none → Answers (.rekeyDeliveryReceive epoch wrapped) s fun t =>
      t = s.inc F.KEY_JOBS) ∧
  (∀ (side : Side) (s : State), s.inLull = false → s.trg.join = .joined → Answers (.leaveCommand side 0x7A4D#16) s fun t =>
      t.trg.leaveLeft = 3 ∧ t.hbi.refused = none) ∧
  (∀ (addr : Nat) (s : State), s.isMaster = true → addr ≠ s.addr → addr ≤ 96 → s.member addr = true → s.silent addr = true → Answers
      (.declaredLeave addr) s fun t => t.member addr = false ∧ t.trg.grants = s.trg.grants.filter (·.addr != addr)) ∧
  (∀ (side : Side) (s : State), s.isMaster = true → s.inLull = false → s.trg.rekey = none → s.trg.key.isSome = true → Answers
      (.rekeyCommand side 0x7A4D#16) s fun t => t.trg.nextKey = some (beBytes 32 (Config.free 40 s.drawn)) ∧ t.trg.rekey.isSome = true ∧
      t.trg.key = s.trg.key) ∧
  (∀ (s : State), s.isMaster = true → s.inLull = false → s.trg.rekey = none → s.trg.key.isSome = true → Answers (.rekeyDue) s fun t =>
      t.trg.nextKey = some (beBytes 32 (Config.free 40 s.drawn)) ∧ t.trg.rekey.isSome = true ∧ t.trg.key = s.trg.key) ∧
  (∀ (time at_ : Nat) (d : List Nat) (s : State), s.isMaster = true → s.trg.rekey = some (d, at_) → at_ + 100000000 ≤ time →
      s.deliveryWaits = false → Answers (.epochAdvance time) s fun t => t.trg.key = s.trg.nextKey ∧ t.trg.nextKey = none ∧ t.trg.epoch =
      (s.trg.epoch + 1) % 65536 ∧ t.trg.rekey = none)

/-- Frames of the pair. The unit composes its next frame: its TYPE first, a payload of 96 bytes, 106 bytes from TYPE on while it holds no
pair key, and the count of frames advances. A valid frame of TYPE 0x01 at a cold standby sets the link, the partner's claim and the
time, and brings its words of the shadow list; one with HANDOVER makes a hot standby raise the next claim and become active; a frame of
TYPE 0x02 sets the link and the time and carries UV. A missed frame counts, the ITEM it carried is incomplete from then on, and the
third in a row is partner loss: a hot standby with a witness then sends a hot request, a forming unit forms no pair. Rests on R108,
R404, R406, R407, R408, R409, R412, R416, R423. -/
def Obligations.PairFrames : Prop :=
  (∀ (time : Nat) (s : State), s.pair.partnerAddr ≠ 0 → s.inLull = false → s.pair.withdrawing = false → Answers (.pairFrameSend time) s
      fun t => t.pair.seq = (s.pair.seq + 1) % 2 ^ 64 ∧ t.pair.payload.length = 96 ∧ t.pair.frame.head? = some t.pair.lastType ∧
      t.pair.lastType ∈ [1, 2, 3] ∧ (s.sendKey = none → t.pair.frame.length = 106)) ∧
  (∀ (frame : PairFrame) (time : Nat) (s : State), s.pair.partnerAddr ≠ 0 → s.inLull = false → s.pair.withdrawing = false → s.rd
      F.PAIR_STATUS_STATE = psCold → s.predicted = [] → Answers (.pairShadowFrame frame time) s fun t => t.rdb F.PAIR_STATUS_LINK = true
      ∧ t.rd F.PAIR_STATUS_PARTNER_CLAIM = frame.head.claim % 256 ∧ t.pair.missed = 0 ∧ t.pair.lost = false ∧ t.pair.lastFrame = time ∧
      t.pair.partnerSeq = frame.head.seq) ∧
  (∀ (frame : PairFrame) (time : Nat) (s : State), s.pair.partnerAddr ≠ 0 → s.inLull = false → s.pair.withdrawing = false → s.rd
      F.PAIR_STATUS_STATE = psHot → s.own = 0 → s.bar.benched = 0 → s.pair.missed = 0 → frame.head.handover = true → frame.head.claim %
      256 ≠ 0 → Answers (.pairShadowFrame frame time) s fun t => t.own = nextClaim (frame.head.claim % 256) ∧ t.active = true ∧ t.en =
      true) ∧
  (∀ (frame : PairFrame) (time : Nat) (s : State), s.pair.partnerAddr ≠ 0 → s.inLull = false → s.pair.withdrawing = false → s.own = 0 →
      s.en = false → s.rd F.PAIR_STATUS_STATE = psCold → s.shadowList ≠ [] → frame.words ≠ [] → Answers (.pairShadowFrame frame time) s
      fun t => t.pair.received.contains (frame.sliceIdx % s.shadowList.length) = true) ∧
  (∀ (head : PairHead) (prot : List Nat) (safety : SafetyFrame) (uv : BitVec 24) (time : Nat) (s : State), s.pair.partnerAddr ≠ 0 →
      s.inLull = false → s.pair.withdrawing = false → s.rd F.PAIR_STATUS_STATE = psCold → Answers (.pairSafetyFrame head prot safety uv
      time) s fun t => t.rdb F.PAIR_STATUS_LINK = true ∧ t.pair.missed = 0 ∧ t.pair.lastFrame = time ∧ t.pair.partnerUv = uv.toNat) ∧
  (∀ (item : Fin 10) (time : Nat) (s : State), s.pair.partnerAddr ≠ 0 → s.pair.lost = false → s.rdb F.PAIR_STATUS_LINK = true →
      s.pair.lastFrame ≤ time → s.pair.missed < 2 → Answers (.heartbeatMissed item time) s fun t => t.pair.missed = s.pair.missed + 1 ∧
      t.pair.good = 0 ∧ t.rd F.PAIR_MISSED = min (s.rd F.PAIR_MISSED + 1) (2 ^ 32 - 1) ∧ t.rd F.PAIR_STATUS_STATE = s.rd
      F.PAIR_STATUS_STATE ∧ (item ≠ 0 → t.pair.incomplete.contains item.val = true)) ∧
  (∀ (item : Fin 10) (time : Nat) (s : State), s.pair.partnerAddr ≠ 0 → s.pair.lost = false → s.rdb F.PAIR_STATUS_LINK = true →
      s.pair.lastFrame ≤ time → s.pair.missed = 2 → Answers (.heartbeatMissed item time) s fun t => t.pair.lost = true ∧ t.rdb
      F.PAIR_STATUS_LINK = false ∧ (s.rd F.PAIR_STATUS_STATE = psHot → s.rd F.PAIR_IDENT_WITNESS ≠ 0 → s.bar.benched = 0 → t.pair.voting
      = some (false, 1) ∧ t.pair.voteOut = s.pair.voteOut ++
      [{ kind := 1, src := s.addr, instance_ := s.pat.instance_, target := s.rd F.PAIR_IDENT_WITNESS, claim := s.pair.partnerLast, seq := s.trg.squallSeq }])
      ∧ (s.rd F.PAIR_STATUS_STATE = psForming → t.pair.formed = false ∧ t.rd F.PAIR_STATUS_STATE = psNone))

/-- Items of the pair link. Equal ROLE digests form the pair, different ones leave a forming unit that holds no outputs alone, with its
outputs disabled; session values, the injection phase, the vehicle session, the observer, the Marker values and the role figures of the
partner are taken on a standby, a session mark passes to the own mailbox, and each item is shown as received. Rests on R117, R280, R304,
R310, R328, R330, R412, R491, R514. -/
def Obligations.PairItems : Prop :=
  (∀ (digest image : List Nat) (serial addr time : Nat) (s : State), addr = s.pair.partnerAddr → addr ≠ 0 → digest = s.role.digest →
      s.rd F.PAIR_STATUS_STATE = psForming → s.partner ≠ 0 → Answers (.pairItemRoleDigest digest image serial addr time) s fun t =>
      t.pair.formed = true ∧ t.rd F.PAIR_STATUS_STATE = psCold ∧ t.pat.partnerDigest = image ∧ t.rd F.PAT_PARTNER_SERIAL = serial % 2 ^
      32 ∧ t.rdb F.PAT_STATUS_MIXED = (image != s.pat.imageDigest)) ∧
  (∀ (digest image : List Nat) (serial addr time : Nat) (s : State), addr = s.pair.partnerAddr → addr ≠ 0 → digest ≠ s.role.digest →
      s.rd F.PAIR_STATUS_STATE = psForming → s.pair.mismatch = false → s.en = false → Answers (.pairItemRoleDigest digest image serial
      addr time) s fun t => t.pair.formed = false ∧ t.rd F.PAIR_STATUS_STATE = psNone ∧ t.pair.mismatch = true ∧ t.en = false) ∧
  (∀ (close : Bool) (sid time source : Nat) (s : State), s.heldFor 1 = [] → (s.q 1).length < s.depth 1 → Answers (.pairItemSessionMark
      close sid time source) s fun t => t.q 1 = s.q 1 ++
      [{ kind := 4, body := leBytes 8 sid ++ leBytes 8 time ++ [source, if close then 1 else 0] }] ∧ bit (t.rd F.PAIR_BULK_ITEMS) 2 =
      true) ∧
  (∀ (imp exp unbooked : Nat) (complete closed : Bool) (s : State), s.heldFor 1 = [] → (s.q 1).length < s.depth 1 → Answers
      (.pairItemSessionValues imp exp complete unbooked closed) s fun t => t.rd64 F.MET_PARTNER_IMP_LO = imp % 2 ^ 64 ∧ t.rd64
      F.MET_PARTNER_EXP_LO = exp % 2 ^ 64 ∧ (t.q 1).length = (s.q 1).length + 1) ∧
  (∀ (phase : Bool) (s : State), s.active = false → Answers (.pairItemImdPhase phase) s fun t => t.met.phase = phase ∧ bit (t.rd
      F.PAIR_BULK_ITEMS) 4 = true) ∧
  (∀ (session : VehicleSession) (s : State), s.active = false → s.kind = .outlet → Answers (.pairItemVehicleSession session) s fun t =>
      t.rd F.VLK_STATUS_STATE = session.state % 16 ∧ t.rd64 F.VLK_SESSION_ID_LO = session.sid % 2 ^ 64 ∧ t.vlk.iReq = session.iReq ∧
      t.vlk.vRef = session.vRef ∧ t.vlk.secrets = session.complete ∧ t.rdb F.VLK_STATUS_SHADOW_OK = session.complete ∧ t.vlk.marked =
      session.marked) ∧
  (∀ (tc m b : Int) (s : State), Answers (.pairItemObserver tc m b) s fun t => t.th.partner = some (tc, m, b) ∧ bit (t.rd
      F.PAIR_BULK_ITEMS) 6 = true) ∧
  (∀ (key v : Nat) (s : State), s.kind = .site → s.active = false → planningKey key = true → Answers (.pairItemMrkValues [(key, v)]) s
      fun t => SMap.get resetCell t.live key = landed key v ∧ bit (t.rd F.PAIR_BULK_ITEMS) 7 = true) ∧
  (∀ (fig : RoleFigures) (role : RoleState) (s : State), s.active = false → role.seqs = [] → Answers (.pairItemRoleFigures fig role) s
      fun t => bit (t.rd F.PAIR_BULK_ITEMS) 8 = true ∧ t.sys.available = role.available ∧ t.sys.preCoil = role.preCoil ∧ t.sys.mainCoil
      = role.mainCoil ∧ t.vlk.partnerR = role.rTotal ∧ t.barGet 8 = min (max (s.barGet 8) fig.lifeUsed) (2 ^ 32 - 1) ∧ t.bar.cnt.rainMax
      = max s.bar.cnt.rainMax fig.rainMax)

/-- Votes, hand-over and hot standby. A witness with no recent grant grants and one with a recent grant denies with reason 1; a GRANT to the
requester raises its claim and makes it active; a DENY ends the vote; an unanswered hot request is repeated, the fourth ends in NO_VOTE;
a cold request follows COLD_WAIT; HANDOVER needs a ready partner, and its time-out ends it; a synchronised cold standby becomes hot;
PAIR_LOCK_I rising without GRANT takes an active unit's claim. Rests on R404, R406, R415, R416, R418, R419, R420, R423. -/
def Obligations.VotesAndHandover : Prop :=
  (∀ (src inst : Nat) (claim : BitVec 8) (time : Nat) (s : State), s.mrk.duty.witnesses.contains (inst, s.addr) = true → s.memberOf inst
      src = true → s.bar.withdrawing = none → s.bar.benched = 0 → s.inLull = false → SMap.get (fun _ => none) s.pair.grantAt inst = none
      → Answers (.voteRequestReceive false src inst claim time) s fun t => t.pair.voteOut = s.pair.voteOut ++
      [{ kind := 3, src := s.addr, instance_ := inst, target := src, claim := nextClaim claim.toNat, seq := s.trg.squallSeq }] ∧
      SMap.get (fun _ => none) t.pair.grantAt inst = some time ∧ t.rd F.PAIR_WIT_GRANTS = min (s.rd F.PAIR_WIT_GRANTS + 1) (2 ^ 32 - 1)) ∧
  (∀ (cold : Bool) (src inst at_ : Nat) (claim : BitVec 8) (time : Nat) (s : State), s.mrk.duty.witnesses.contains (inst, s.addr) = true
      → s.memberOf inst src = true → s.bar.withdrawing = none → s.bar.benched = 0 → s.inLull = false → SMap.get (fun _ => none)
      s.pair.grantAt inst = some at_ → time < at_ + 100000000 → Answers (.voteRequestReceive cold src inst claim time) s fun t =>
      t.pair.voteOut = s.pair.voteOut ++
      [{ kind := 4, src := s.addr, instance_ := inst, target := src, reason := 1, seq := s.trg.squallSeq }] ∧ t.pair.grantAt =
      s.pair.grantAt) ∧
  (∀ (inst target : Nat) (cold : Bool) (claim : BitVec 8) (time : Nat) (s : State), inst = s.pat.instance_ → inst ≠ 0 → target = s.addr
      → s.grantFor = some cold → s.own = 0 → s.bar.benched = 0 → s.pair.withdrawing = false → Answers (.voteGrantReceive inst target
      claim time) s fun t => t.own = claim.toNat ∧ t.active = true ∧ t.pair.voting = none ∧ t.rd F.PAIR_LAST_CAUSE = (if cold then 2
      else 1)) ∧
  (∀ (inst target : Nat) (reason : BitVec 8) (s : State), inst = s.pat.instance_ → inst ≠ 0 → target = s.addr → s.pair.voting.isSome =
      true → Answers (.voteDenyReceive inst target reason) s fun t => t.pair.voting = none ∧ t.rd F.PAIR_VOTES_DENIED = min (s.rd
      F.PAIR_VOTES_DENIED + 1) 65535 ∧ (s.rd F.PAIR_STATUS_STATE = psHot → t.rd F.PAIR_STATUS_STATE = psCold)) ∧
  (∀ (n : Nat) (s : State), s.pair.voting = some (false, n) → n < 4 → s.rd F.PAIR_IDENT_WITNESS ≠ 0 → s.bar.benched = 0 → Answers
      (.voteRetry) s fun t => t.pair.voting = some (false, n + 1) ∧ t.pair.voteOut.length = s.pair.voteOut.length + 1) ∧
  (∀ (s : State), s.pair.voting = some (false, 4) → Answers (.voteRetry) s fun t => t.pair.voting = none ∧ t.rdb F.PAIR_STATUS_NO_VOTE =
      true) ∧
  (∀ (s : State), s.pair.lost = true → s.own = 0 → s.rd F.PAIR_STATUS_STATE = psCold → s.rdb F.PAIR_CFG_ALLOW_COLD = true → s.rd
      F.PAIR_IDENT_WITNESS ≠ 0 → s.bar.benched = 0 → Answers (.coldRequestDue) s fun t => t.pair.voting = some (true, 1) ∧
      t.pair.voteOut = s.pair.voteOut ++
      [{ kind := 2, src := s.addr, instance_ := s.pat.instance_, target := s.rd F.PAIR_IDENT_WITNESS, claim := s.pair.partnerLast, seq := s.trg.squallSeq }]) ∧
  (∀ (side : Side) (s : State), s.inLull = false → s.active = true → s.partnerReady = true → Answers (.pairHandover side 0x2C95#16) s
      fun t => t.pair.handover = some 0 ∧ t.hbi.refused = none) ∧
  (∀ (side : Side) (s : State), s.inLull = false → s.partnerReady = false → Answers (.pairHandover side 0x2C95#16) s fun t =>
      t.hbi.refused = some eState ∧ t.pair = s.pair) ∧
  (∀ (p : Nat) (s : State), s.pair.handover = some p → Answers (.handoverTimeout) s fun t => t.pair.handover = none ∧ (p = 1 →
      t.pat.updResult = 14 ∧ t.rd F.PAT_UPD_STATUS_RESULT = 14)) ∧
  (∀ (s : State), s.rd F.PAIR_STATUS_STATE = psCold → s.pair.formed = true → s.rdb F.PAIR_STATUS_LINK = true → s.bar.benched = 0 →
      s.pair.good = 10000 → s.pair.received.length = s.shadowList.length → s.pair.incomplete = [] → s.loops.all (fun d => s.countsClear
      d.loop) = true → Answers (.standbyHotEntry) s fun t => t.rd F.PAIR_STATUS_STATE = psHot ∧ t.pair = s.pair) ∧
  (∀ (level : Bool) (time : Nat) (s : State), s.pair.lastFrame ≤ time → s.own = 0 → Answers (.pairLockInput level time) s fun t =>
      t.pair.lockIn = level ∧ t.rdb F.PAIR_STATUS_PL_IN = level ∧ t.own = 0) ∧
  (∀ (time : Nat) (s : State), s.pair.lastFrame ≤ time → s.en = true → s.grant = false → s.pair.handover = none → Answers
      (.pairLockInput true time) s fun t => t.own = 0 ∧ t.en = false ∧ t.pair.lockIn = true ∧ t.rd F.PAIR_STATUS_STATE = psCold ∧ t.rd
      F.PAIR_LAST_CAUSE = 5)

/-- The Marker of the active site unit. At a Marker cycle the active site unit starts a solve and shows whether its snapshot rests on stale
input, and a stack with a latched plan whose instant has come applies it. A solve that completes commits the plan of the next cycle and
makes it the unit's own; one that does not complete by the deadline is counted and commits a plan too, SUBOPTIMAL where it is the best
found. Reports of stacks and outlets are stored at the site pair. A write of MRK_CURTAIL sets it and starts its hold; the lapse ends it;
HOLD_ON and HOLD_OFF set and clear HOLD; REPLAN drops the run-ahead at the next solve; the end of a row's last quarantine clears its
bit. Rests on R117, R118, R119, R120, R121, R122, R123, R124, R130, R135, R150, R162. -/
def Obligations.MarkerCycle : Prop :=
  (∀ (time : Nat) (s : State), s.kind = .site → s.active = true → s.inLull = false → s.mrk.latched = none → Answers (.markerCycleStart
      time) s fun t => t.mrk.solving = some time ∧ t.mrk.invalid = false ∧ t.rdb F.MRK_STATUS_DEGRADED = t.mrk.snap.degraded) ∧
  (∀ (time : Nat) (p : Plan) (s : State), s.kind = .stack → s.inLull = false → s.mrk.latched = some p → p.applyTime ≤ time → Answers
      (.markerCycleStart time) s fun t => t.mrk.applied = p ∧ t.mrk.latched = none ∧ t.mrk.applyTime = p.applyTime ∧ t.mrk.leaseMs =
      p.leaseMs ∧ t.rd F.MRK_PLAN_NO = p.planNo % 2 ^ 32) ∧
  (∀ (t0 : Nat) (updating : List Nat) (s : State), s.kind = .site → s.active = true → s.inLull = false → s.mrk.solving = some t0 →
      Answers (.solveComplete updating) s fun t => t.mrk.committed.planNo = t0 / 10000000 + 1 ∧ t.mrk.committed.applyTime = t0 +
      10000000 ∧ t.mrk.plan = some t.mrk.committed ∧ t.mrk.solving = none ∧ t.rdb F.MRK_STATUS_SUBOPTIMAL = false) ∧
  (∀ (t0 : Nat) (updating : List Nat) (s : State), s.kind = .site → s.active = true → s.inLull = false → s.mrk.solving = some t0 →
      Answers (.solveDeadline none updating) s fun t => t.mrk.committed.planNo = t0 / 10000000 + 1 ∧ t.mrk.committed.applyTime = t0 +
      10000000 ∧ t.mrk.solving = none ∧ t.rd F.MRK_OVERRUNS = min (s.rd F.MRK_OVERRUNS + 1) (2 ^ 32 - 1)) ∧
  (∀ (t0 : Nat) (best updating : List Nat) (s : State), s.kind = .site → s.active = true → s.inLull = false → s.mrk.solving = some t0 →
      s.mrk.snap.targets.contains best = true → Answers (.solveDeadline (some best) updating) s fun t => t.mrk.committed.planNo = t0 /
      10000000 + 1 ∧ t.mrk.solving = none ∧ t.rdb F.MRK_STATUS_SUBOPTIMAL = true ∧ t.rd F.MRK_OVERRUNS = min (s.rd F.MRK_OVERRUNS + 1)
      (2 ^ 32 - 1)) ∧
  (∀ (time : Nat) (report : StackStatus) (s : State), s.siteListens = true → 1 ≤ report.row → report.row ≤ 32 → Answers
      (.stackStatusReceive time report) s fun t => SMap.get (fun _ => none) t.mrk.stackRep report.row = some (time, report) ∧ t.rdb
      (F.MRK_STACK_STATE_AVAILABLE report.row) = report.available) ∧
  (∀ (time row : Nat) (curve : List Nat) (s : State), s.siteListens = true → 1 ≤ row → row ≤ 32 → Answers (.stackCurveReceive time row
      curve) s fun t => t = { s with mrk.curves := SMap.set (fun _ => none) row (some (time, curve)) s.mrk.curves }) ∧
  (∀ (time : Nat) (report : OutletStatus) (s : State), s.siteListens = true → 1 ≤ report.col → report.col ≤ 16 → Answers
      (.outletStatusReceive time report) s fun t => SMap.get (fun _ => none) t.mrk.outletRep report.col = some (time, report) ∧ t.live =
      s.live) ∧
  (∀ (row col : Nat) (s : State), 1 ≤ row → row ≤ 32 → (s.mrk.quarantine.filter (· != (row, col))).any (·.1 == row) = false → Answers
      (.quarantineEnd row col) s fun t => t.mrk.quarantine = s.mrk.quarantine.filter (· != (row, col)) ∧ t.rdb
      (F.MRK_STACK_STATE_QUARANTINE row) = false) ∧
  (∀ (side : Side) (value : BitVec 32) (s : State), s.inLull = false → (s.kind ≠ .site ∨ s.active = true) → value.toNat ≤ 0xFFFFFF →
      Answers (.curtailWrite side value) s fun t => t.rd F.MRK_CURTAIL_KW = value.toNat ∧ t.mrk.curtailAt = s.now ∧ (value.toNat ≠
      noCurtail → t.curtailLeft = s.rd F.MRK_CURTAIL_HOLD_HOLD)) ∧
  (∀ (s : State), s.rd F.MRK_CURTAIL_HOLD_HOLD ≠ 0 → Answers (.curtailLapse) s fun t => t.rd F.MRK_CURTAIL_KW = noCurtail ∧
      t.curtailLeft = 0) ∧
  (∀ (side : Side) (s : State), s.inLull = false → (s.kind ≠ .site ∨ s.active = true) → Answers (.mrkHoldOn side 0x2B6E#16) s fun t =>
      t.rdb F.MRK_STATUS_HOLD = true ∧ t.mrk = s.mrk) ∧
  (∀ (side : Side) (s : State), s.inLull = false → (s.kind ≠ .site ∨ s.active = true) → Answers (.mrkHoldOff side 0x2B6E#16) s fun t =>
      t.rdb F.MRK_STATUS_HOLD = false ∧ t.mrk = s.mrk) ∧
  (∀ (side : Side) (s : State), s.inLull = false → (s.kind ≠ .site ∨ s.active = true) → Answers (.mrkReplan side 0x2B6E#16) s fun t =>
      t.mrk = { s.mrk with invalid := true } ∧ t.live = s.live)

/-- Plans, reports, DEMAND and LEAD at a unit. An active outlet unit sends its report, an active stack unit counts its input energy and its
output energy and sends its own; a plan of the last master is held, at a standby site unit as the committed one; its TACK latches the
planning block, a missing plan is counted; a DUTY of the last master is taken, with the unit's witness. An outlet unit of a leased
column makes a DEMAND in cycles that are multiples of 4; a stack takes the DEMAND of its column, as a request to stop where MODE is 0;
the lead stack of a column in voltage control sends LEAD in cycles 2 modulo 4, a following stack takes it; the loss of DEMAND or of a
followed LEAD starts a ramp to zero. A WAKE of the last master that names a unit in Lull wakes it, and a standby site unit notes one; a
woken unit that does not join counts as left; a replica of a record or a block is kept; a holder's acknowledgement goes to the
partition. Rests on R115, R118, R135, R136, R137, R138, R155, R157, R158, R206, R207. -/
def Obligations.PlansAndReports : Prop :=
  (∀ (s : State), s.kind = .outlet → s.active = true → s.inLull = false → Answers (.reportSample none) s fun t => t = s.ringSend 4 7 127
      (outletStatusBytes s.outletStatus)) ∧
  (∀ (s : State), s.kind = .stack → s.active = true → s.inLull = false → Answers (.reportSample none) s fun t => t.mrk.eIn = s.mrk.eIn +
      s.sht.pIn ∧ ∃ u, u = ({ s with mrk.eIn := s.mrk.eIn + s.sht.pIn } : State).stackEnergy (s.sht.iOut * s.sht.vOut) ∧ t = u.ringSend
      4 7 127 (stackStatusBytes u.stackStatus)) ∧
  (∀ (plan : Plan) (src : Nat) (s : State), s.inLull = false → src = s.trg.lastMaster → s.now + 1000000 ≤ plan.applyTime → Answers
      (.planReceive plan src) s fun t => t.mrk.plan = some plan ∧ (s.kind = .site → s.active = false → t.mrk.committed = plan) ∧ (s.kind
      ≠ .site → t.live = s.live)) ∧
  (∀ (time : Nat) (p : Plan) (s : State), s.inLull = false → s.mrk.plan = some p → p.applyTime ≤ time + 1000000 → Answers (.planTack
      time) s fun t => t.mrk.latched = some p ∧ t.mrk.plan = none ∧ Latched (2 ^ s.tackGroup 4) s t) ∧
  (∀ (time : Nat) (s : State), s.inLull = false → s.mrk.plan = none → Answers (.planTack time) s fun t => t.rd F.MRK_LOCAL_MISSED = min
      (s.rd F.MRK_LOCAL_MISSED + 1) 255 ∧ t.mrk = s.mrk) ∧
  (∀ (duty : Duty) (src : Nat) (s : State), s.inLull = false → src = s.trg.lastMaster → Answers (.dutyReceive duty src) s fun t =>
      t.mrk.duty = duty ∧ (s.pat.instance_ ≠ 0 → t.rd F.PAIR_IDENT_WITNESS = ((duty.witnesses.find? (·.1 == s.pat.instance_)).map
      (·.2)).getD 0 % 128)) ∧
  (∀ (cycle time : Nat) (s : State), s.kind = .outlet → s.active = true → cycle % 4 = 0 → s.columnLeased time = true → Answers
      (.demandSend cycle time) s fun t => (t.mrk.demand.getD {}).col = s.role.rowCol ∧ (t.mrk.demand.getD {}).mode = s.demandMode ∧
      (t.mrk.demand.getD {}).seq = s.mrk.demandSeq ∧ t.mrk.demandSeq = (s.mrk.demandSeq + 1) % 256) ∧
  (∀ (demand : Demand) (s : State), s.kind = .stack → s.ownColumn ≠ 0 → demand.col = s.ownColumn → demand.mode ≠ 0 → Answers
      (.demandReceive demand) s fun t => t.mrk.demand = some demand ∧ t.mrk.demandLost = false) ∧
  (∀ (demand : Demand) (s : State), s.kind = .stack → s.ownColumn ≠ 0 → demand.col = s.ownColumn → demand.mode = 0 → Answers
      (.demandReceive demand) s fun t => t.mrk.demand = some { demand with iRef := 0 } ∧ t.mrk.demandLost = false) ∧
  (∀ (time : Nat) (s : State), s.kind = .stack → s.mrk.lease.isSome = true → Answers (.demandLost time) s fun t => t.mrk.demandLost =
      true ∧ t.mrk.zeroRamp.isSome = true ∧ t.mrk.lease = s.mrk.lease) ∧
  (∀ (cycle time : Nat) (iLead : Int) (e : StackEntry) (d : LoopDecl) (s : State), s.kind = .stack → s.active = true → cycle % 4 = 2 →
      s.isLead = true → s.ownColumn ≠ 0 → e ∈ s.mrk.applied.stackEntries → e.col = s.ownColumn → e.row ≠ s.role.rowCol → 2 ≤ e.mode →
      e.mode ≤ 5 → d ∈ s.outputLoops → s.nowMode d.loop = mOutVoltage → Answers (.leadSend cycle time iLead) s fun t => t =
      ({ s with mrk.leadSeq := (s.mrk.leadSeq + 1) % 256 } : State).ringSend 4 1 127 (leadBytes
      { col := s.ownColumn, row := s.role.rowCol, seq := s.mrk.leadSeq, iLead := iLead, shareLead := (s.share time * 32768).floor.toNat })) ∧
  (∀ (lead : Lead) (s : State), s.kind = .stack → s.ownColumn ≠ 0 → lead.col = s.ownColumn → lead.row ≠ s.role.rowCol → Answers
      (.leadReceive lead) s fun t => t.mrk.lead = some lead ∧ t.mrk.leadLost = false) ∧
  (∀ (time : Nat) (s : State), s.kind = .stack → s.isLead = false → s.mrk.lead.isSome = true → s.dem.mode ≠ 0 → Answers (.leadLost time)
      s fun t => t.mrk.leadLost = true ∧ t.mrk.zeroRamp.isSome = true) ∧
  (∀ (target src : Nat) (s : State), s.inLull = true → target = s.addr → src = s.trg.lastMaster → Answers (.wakeReceive target src) s
      fun t => t.rd F.CLK_LULL_STATUS_STATE = 3 ∧ t.rd F.CLK_LULL_STATUS_WAKE_CAUSE = 1) ∧
  (∀ (target src : Nat) (s : State), s.kind = .site → s.active = false → s.inLull = false → src = s.trg.lastMaster → s.mrk.waking.any
      (·.1 == target) = false → Answers (.wakeReceive target src) s fun t => t =
      { s with mrk.waking := s.mrk.waking ++ [(target, s.now)] }) ∧
  (∀ (addr : Nat) (s : State), s.mrk.waking.any (·.1 == addr) = true → s.member addr = false → Answers (.wakeJoinTimeout addr) s fun t
      => t.mrk.waking = s.mrk.waking.filter (·.1 != addr) ∧ t.mrk.lullUnits = s.mrk.lullUnits.filter (· != addr) ∧ t.mrk.invalid = true) ∧
  (∀ (owner seq : Nat) (bytes : List Nat) (s : State), s.inLull = false → Answers (.replicaWriteReceive owner false seq bytes) s fun t
      => t.mrk.replicas = (owner, false, seq, bytes) :: s.mrk.replicas.filter (fun r => !(r.1 == owner && r.2.1 == false && r.2.2.1 ==
      seq))) ∧
  (∀ (owner seq : Nat) (bytes : List Nat) (s : State), s.inLull = false → Answers (.replicaWriteReceive owner true seq bytes) s fun t =>
      (owner, true, seq, bytes) ∈ t.mrk.replicas ∧ ∀ r ∈ s.mrk.replicas, r.2.1 = false → r ∈ t.mrk.replicas) ∧
  (∀ (holder seq : Nat) (s : State), Answers (.replicaAckReceive holder seq) s fun t => t = s.compose 8 (holder :: leBytes 8 seq))

/-- Leases and cross-points of a stack. At E minus RAMP_MS the ramp to zero starts and at E the coil is driven open and the lease ends. A
matched voltage drives the coil of the leased cross-point closed; the voltage or the contact missing its time drives it open with
CONNECT_FAIL; the contact read closed starts the debounce, whose end sets READY; zero current after the ramp of RAMP_OUT drives the coil
open, the contact read open starts the debounce, whose end ends the lease; a current that has not fallen sets RELEASE_FAIL and changes
nothing else of the Marker's state. Rests on R139, R140, R142, R143, R144, R145. -/
def Obligations.LeasesAndCrossPoints : Prop :=
  (∀ (time c e : Nat) (s : State), s.kind = .stack → s.mrk.lease = some (c, e) → e ≤ time + s.mrk.rampMs * 1000000 → time < e →
      s.mrk.leaseRamp = false → Answers (.leaseRampStart time) s fun t => t.mrk.leaseRamp = true ∧ t.mrk.zeroRamp.isSome = true ∧
      t.mrk.lease = s.mrk.lease) ∧
  (∀ (time c e : Nat) (s : State), s.kind = .stack → s.mrk.lease = some (c, e) → e ≤ time → Answers (.leaseExpiry time) s fun t =>
      t.mrk.lease = none ∧ t.mrk.coil = 0 ∧ t.mrk.leaseRamp = false ∧ t.rd F.MRK_LOCAL_COLUMN = 0) ∧
  (∀ (c e : Nat) (s : State), s.mrk.lease = some (c, e) → s.mrk.seq = .matching → s.mrk.coil = 0 → s.mrk.closed = 0 → s.fitted c = true
      → s.matched = true → Answers (.connectVoltageMatched) s fun t => t.mrk.coil = c ∧ t.mrk.seq = .closing ∧ t.mrk.closed = 0) ∧
  (∀ (s : State), s.mrk.seq = .matching → Answers (.connectMatchTimeout) s fun t => t.mrk.seq = .idle ∧ t.mrk.coil = 0 ∧
      t.mrk.connectFail = true ∧ t.mrk.ready = false) ∧
  (∀ (s : State), s.mrk.seq = .closing → Answers (.xpAuxCloseTimeout) s fun t => t.mrk.seq = .idle ∧ t.mrk.coil = 0 ∧ t.mrk.connectFail
      = true ∧ t.mrk.ready = false) ∧
  (∀ (s : State), s.mrk.seq = .closing → Answers (.xpAuxClosed) s fun t => t =
      { s with mrk.closed := s.mrk.coil, mrk.seq := .closeDebounce }) ∧
  (∀ (s : State), s.mrk.seq = .closeDebounce → Answers (.xpDebounceEnd) s fun t => t.mrk.seq = .connected ∧ t.mrk.ready = true ∧
      t.mrk.closed = s.mrk.closed) ∧
  (∀ (s : State), s.mrk.seq = .openDebounce → Answers (.xpDebounceEnd) s fun t => t.mrk.seq = .idle ∧ t.mrk.closed = 0 ∧ t.mrk.lease =
      none ∧ t.mrk.releaseFail = false ∧ t.rd F.MRK_LOCAL_COLUMN = 0) ∧
  (∀ (time : Nat) (s : State), s.mrk.seq = .rampOut → s.zeroOut = true → s.rampOutEnd + 500000 ≤ time → Answers (.rampOutZeroHeld time)
      s fun t => t.mrk.seq = .opening ∧ t.mrk.coil = 0) ∧
  (∀ (time : Nat) (s : State), s.mrk.seq = .rampOut → s.mrk.releaseFail = false → s.rampOutEnd + 5000000 ≤ time → Answers (.releaseFail
      time) s fun t => t.mrk = { s.mrk with releaseFail := true }) ∧
  (∀ (s : State), s.mrk.seq = .opening → Answers (.xpAuxOpen) s fun t => t = { s with mrk.seq := .openDebounce })

/-- Samples of a loop and their commits. A trigger starts a sample where none is under way; one that finds an ADC of the loop converting is
deferred, to be counted in LATE at its sample's commit, and one of an ADC without a loop is counted. At the conversion end a sample that
meets the conditions of a hit commits as one, any other is left to EXACT and its ADC's result is its burst's mean. EXACT commits its
sample as a miss; at a commit a stop whose ramp has ended takes the loop to OFF. The window of 1,024 samples widens the bracket.
Attribution without a partner turns the loop off with a plausibility fault, which clears while no channel is implausible. Rests on R172,
R173, R184, R185, R186, R187, R194, R196. -/
def Obligations.SamplesAndCommits : Prop :=
  (∀ (m : Fin 8) (k : Fin 8) (d : LoopDecl) (s : State), s.loopDecl m.val = some d → s.inLull = false → (s.lp m.val).event = none →
      k.val < 2 ^ s.rd (F.PWM_HB_TRIG_SAMPLES d.anchorHb) → Answers (.adcTrigger m k) s fun t => (t.lp m.val).event = some k.val ∧ (t.lp
      m.val).late = 0 ∧ t.live = s.live) ∧
  (∀ (m : Fin 8) (k : Fin 8) (a : Fin 16) (d : LoopDecl) (s : State), s.loopDecl m.val = some d → s.inLull = false → (s.loopOfAdc
      a.val).isSome = true → (s.lp m.val).event.isSome = true → bit d.adcMask a.val = true → Answers (.adcTriggerDeferred m k a) s fun t
      => (t.lp m.val).deferred = some k.val ∧ (t.lp m.val).deferN = (s.lp m.val).deferN + 1 ∧ t.rd (F.PWM_ADC_DEFER a.val) = min (s.rd
      (F.PWM_ADC_DEFER a.val) + 1) (2 ^ 32 - 1)) ∧
  (∀ (m : Fin 8) (k : Fin 8) (a : Fin 16) (s : State), s.inLull = false → (s.loopOfAdc a.val).isNone = true → Answers
      (.adcTriggerDeferred m k a) s fun t => t.rd (F.PWM_ADC_DEFER a.val) = min (s.rd (F.PWM_ADC_DEFER a.val) + 1) (2 ^ 32 - 1) ∧ t.sht
      = s.sht) ∧
  (∀ (m : Fin 8) (codes : List (List (BitVec 16))) (vOut iOut : Int) (pos : List Nat) (zero : List (BitVec 32)) (time k : Nat) (d :
      LoopDecl) (s : State), s.loopDecl m.val = some d → (s.lp m.val).event = some k → s.inLull = false → Answers (.conversionEnd m
      codes vOut iOut pos zero time) s fun t => t.drawn = s.drawn + 1 ∧ t.sht.vOut = vOut ∧ t.sht.iOut = iOut ∧ (t.rd (F.SHT_LOOP_HITS
      m.val) = min (s.rd (F.SHT_LOOP_HITS m.val) + 1) (2 ^ 32 - 1) ∨ (t.lp m.val).miss.isSome = true)) ∧
  (∀ (m : Fin 8) (codes : List (List (BitVec 16))) (vOut iOut : Int) (pos : List Nat) (zero : List (BitVec 32)) (time k : Nat) (d :
      LoopDecl) (s : State), s.loopDecl m.val = some d → (s.lp m.val).event = some k → s.inLull = false → s.sampleHits m.val d
      (codes.map fun l => l.map BitVec.toNat) vOut iOut = true → Answers (.conversionEnd m codes vOut iOut pos zero time) s fun t =>
      t.rd (F.SHT_LOOP_HITS m.val) = min (s.rd (F.SHT_LOOP_HITS m.val) + 1) (2 ^ 32 - 1) ∧ (t.lp m.val).miss = none ∧ (t.lp
      m.val).commitAt = time ∧ t.rd (F.SHT_LOOP_MISSES m.val) = s.rd (F.SHT_LOOP_MISSES m.val)) ∧
  (∀ (m : Fin 8) (codes : List (List (BitVec 16))) (vOut iOut : Int) (pos : List Nat) (zero : List (BitVec 32)) (time k : Nat) (d :
      LoopDecl) (s : State), s.loopDecl m.val = some d → (s.lp m.val).event = some k → s.inLull = false → s.sampleHits m.val d
      (codes.map fun l => l.map BitVec.toNat) vOut iOut = false → Answers (.conversionEnd m codes vOut iOut pos zero time) s fun t =>
      (t.lp m.val).miss.isSome = true ∧ (t.lp m.val).event = (s.lp m.val).deferred ∧ t.rd (F.SHT_LOOP_HITS m.val) = s.rd
      (F.SHT_LOOP_HITS m.val) ∧ t.rd (F.SHT_LOOP_MISSES m.val) = s.rd (F.SHT_LOOP_MISSES m.val)) ∧
  (∀ (m : Fin 8) (c : List (BitVec 16)) (vOut iOut : Int) (pos : List Nat) (zero : List (BitVec 32)) (time k : Nat) (a : Nat) (d :
      LoopDecl) (s : State), s.loopDecl m.val = some d → (s.lp m.val).event = some k → s.inLull = false → bitsBelow d.adcMask 16 = [a] →
      s.sampleHits m.val d [c.map BitVec.toNat] vOut iOut = false → Answers (.conversionEnd m [c] vOut iOut pos zero time) s fun t =>
      t.rdi (F.PWM_ADC_RESULT a) = burstMean (2 ^ s.rd (F.PWM_ADC_CFG_BURST a)) (c.map BitVec.toNat)) ∧
  (∀ (m : Fin 8) (pos : List Nat) (zero : List (BitVec 32)) (time : Nat) (d : LoopDecl) (ms : MissSt) (s : State), s.loopDecl m.val =
      some d → (s.lp m.val).miss = some ms → (s.exactLane m.val d ms.drawn ms.oldAdc s.adcWords (ms.dev.getD 0 0)).nonfin = false →
      Answers (.exactCommit m pos zero time) s fun t => (t.lp m.val).miss = none ∧ t.rd (F.SHT_LOOP_MISSES m.val) = min (s.rd
      (F.SHT_LOOP_MISSES m.val) + 1) (2 ^ 32 - 1) ∧ (t.lp m.val).commitAt = time) ∧
  (∀ (m : Fin 8) (pos : List Nat) (zero : List (BitVec 32)) (time : Nat) (d : LoopDecl) (ms : MissSt) (st : StopSt) (s : State),
      s.loopDecl m.val = some d → (s.lp m.val).miss = some ms → (s.exactLane m.val d ms.drawn ms.oldAdc s.adcWords (ms.dev.getD 0
      0)).nonfin = false → (s.lp m.val).stop = some st → st.ended = true → (s.lp m.val).restart = none → s.nextMode m.val = 0 →
      s.nowMode m.val ≠ mOutVoltage → s.nowMode m.val ≠ mOutPower → s.pair.shadowWait = [] → Answers (.exactCommit m pos zero time) s
      fun t => t.nowMode m.val = mOff ∧ (t.lp m.val).stop = none ∧ t.rdb (F.SHT_LOOP_MODE_STOPPING m.val) = false) ∧
  (∀ (m : Fin 8) (d : LoopDecl) (s : State), s.loopDecl m.val = some d → 1024 ≤ (s.lp m.val).winN → s.rdb (F.SHT_LOOP_CTRL_AUTO_WIDTH
      m.val) = true → 20 < (s.lp m.val).winOut → Answers (.bwWindowEnd m) s fun t => t.rd (F.SHT_LOOP_STATUS_BW_NOW m.val) = max d.bwMin
      (min d.bwMax (s.rd (F.SHT_LOOP_STATUS_BW_NOW m.val) + 1)) % 16 ∧ (t.lp m.val).winN = 0 ∧ (t.lp m.val).winOut = 0) ∧
  (∀ (m : Fin 8) (c : Fin 4) (frame : Bool) (d : LoopDecl) (s : State), s.loopDecl m.val = some d → (s.lp m.val).attributing.contains
      c.val = true → s.pair.formed = false → Answers (.plausibilityAttribute m c frame) s fun t => t.rd (F.SHT_LOOP_STATUS_ATTRIB m.val)
      = 4 ∧ t.rdb (F.SHT_LOOP_STATUS_PLS_FAULT m.val) = true ∧ (t.lp m.val).attributing = (s.lp m.val).attributing.filter (· != c.val) ∧
      (∀ h ∈ bitsBelow d.hbMask 12, (t.hb h).holders.contains .plausibility = true)) ∧
  (∀ (side : Side) (m : Fin 8) (d : LoopDecl) (s : State), s.loopDecl m.val = some d → s.inLull = false → s.countsClear m.val = true →
      s.rdb (F.SHT_LOOP_STATUS_PLS_FAULT m.val) = true → Answers (.plsFaultClear side m) s fun t => t.rdb (F.SHT_LOOP_STATUS_PLS_FAULT
      m.val) = false ∧ (∀ h ∈ bitsBelow d.hbMask 12, (t.hb h).holders.contains .plausibility = false))

/-- Modes of a loop and its compensator channels. An accepted MODE_REQ asks for its mode, one for an undeclared mode is refused with
COMMAND, one for OFF starts a stop; a retry whose wait is over asks again for a target that the host asked for; a stop ramp whose TIME
has passed has ended, for the next commit to enter OFF; HO_FAIL is cleared by the host. A compensator channel without its wraps for 2 T
unlocks, and falls if it had faded in; a spectral evaluation of its ADC sets its phase and period; the fade and the full-period freeze
end; CLEAR is kept for the next commit. Rests on R187, R210, R212, R213, R216, R218, R219. -/
def Obligations.ModesAndCompensators : Prop :=
  (∀ (side : Side) (m : Fin 8) (req : BitVec 4) (d : LoopDecl) (s : State), s.loopDecl m.val = some d → s.inLull = false → req ≠ 0 →
      (mapOf d req.toNat).isSome = true → s.rdb (F.SHT_LOOP_MODE_HO_FAIL m.val) = false → (s.lp m.val).stop = none → s.nextMode m.val =
      0 → Answers (.modeRequest side 0x4D0E#16 m req) s fun t => (t.lp m.val).req = some req.toNat ∧ (t.lp m.val).byHost = true ∧ (t.lp
      m.val).retry = none) ∧
  (∀ (side : Side) (m : Fin 8) (req : BitVec 4) (d : LoopDecl) (s : State), s.loopDecl m.val = some d → s.inLull = false → req ≠ 0 →
      (mapOf d req.toNat).isNone = true → Answers (.modeRequest side 0x4D0E#16 m req) s fun t => t.hbi.refused = some eCommand ∧ t.sht =
      s.sht) ∧
  (∀ (side : Side) (m : Fin 8) (d : LoopDecl) (s : State), s.loopDecl m.val = some d → s.inLull = false → s.nowMode m.val ≠ mOff → (s.lp
      m.val).stop = none → Answers (.modeRequest side 0x4D0E#16 m 0) s fun t => (t.lp m.val).stop.isSome = true ∧ t.rdb
      (F.SHT_LOOP_MODE_STOPPING m.val) = true ∧ (t.lp m.val).req = none) ∧
  (∀ (m : Fin 8) (time target : Nat) (d : LoopDecl) (s : State), s.loopDecl m.val = some d → (s.lp m.val).retry = some target → (s.lp
      m.val).retryIn = 0 → (s.lp m.val).byHost = true → Answers (.handoverRetry m time) s fun t => (t.lp m.val).req = some target ∧
      (t.lp m.val).retry = none ∧ t.live = s.live) ∧
  (∀ (m : Fin 8) (time b : Nat) (st : StopSt) (s : State), (s.lp m.val).stop = some st → st.began = some b → b + s.rd
      (F.SHT_LOOP_STOP_TIME m.val) * 100000 ≤ time → Answers (.stopRampEnd m time) s fun t => (t.lp m.val).stop = some
      { st with ended := true } ∧ t.live = s.live) ∧
  (∀ (side : Side) (m : Fin 8) (s : State), s.inLull = false → Answers (.hoFailClear side m) s fun t => t.rdb (F.SHT_LOOP_MODE_HO_FAIL
      m.val) = false ∧ t.hbi.refused = none) ∧
  (∀ (e : Fin 32) (time : Nat) (s : State), s.rcSource e.val < 2 → (s.rc e.val).locked = true → (s.rc e.val).lastEdge.getD 0 + 2000 *
      (s.rc e.val).period ≤ time → Answers (.rcPhaseTimeout e time) s fun t => (t.rc e.val).locked = false ∧ (t.rc e.val).falling =
      ((s.rc e.val).fade != 0) ∧ t.rdb (F.SHT_RC_STATUS_LOCKED e.val) = false) ∧
  (∀ (e : Fin 32) (adc : Fin 16) (period : Nat) (tenthsDb : Int) (phase : BitVec 32) (time : Nat) (s : State), s.rdb
      (F.SHT_RC_CFG_ENABLE e.val) = true → s.rcSource e.val = 2 → s.rd (F.SHT_RC_SRC_SPEC_ADC e.val) = adc.val → Answers
      (.rcSpectralEval e adc period tenthsDb phase time) s fun t => (t.rc e.val).t0 = time ∧ (t.rc e.val).phi0 = phase.toNat ∧ (t.rc
      e.val).period = period ∧ t.rd (F.SHT_RC_PERIOD_NOW e.val) = min period (2 ^ 32 - 1)) ∧
  (∀ (e : Fin 32) (s : State), (s.rc e.val).rising = true → (s.rc e.val).fade = fadeOne → Answers (.rcFadeEnd e) s fun t => (t.rc
      e.val).rising = false ∧ (t.rc e.val).accCount = 0 ∧ t.rdb (F.SHT_RC_STATUS_FADING e.val) = false) ∧
  (∀ (e : Fin 32) (time : Nat) (s : State), (s.rc e.val).freezePeriod = true → (s.rc e.val).freezeEnd ≤ time → Answers
      (.rcPeriodFreezeEnd e time) s fun t => (t.rc e.val).freezePeriod = false ∧ bit (t.rd (F.SHT_RC_STATUS_FREEZE e.val)) 5 = false) ∧
  (∀ (side : Side) (e : Fin 32) (s : State), s.inLull = false → Answers (.rcClear side e) s fun t => t.rc e.val =
      { s.rc e.val with clear := true } ∧ t.hbi.refused = none)

/-- PWM generators, dead times and edges. At its reload a counter starts at 0 and shows whether it is aligned; at a compare instant the
command becomes what the compares prescribe unless the interval that ends or the one that begins is shorter than MIN_PULSE, and then it
stays; after the other device's dead time the waiting device turns on unless its interval would be shorter than 10 ns, and then it is
omitted and counted; a segment that ends by level is recorded and the last one completes the edge. Rests on R197, R198, R199, R230,
R231, R232, R233. -/
def Obligations.GeneratorsAndEdges : Prop :=
  (∀ (h : Fin 12) (err : Int) (codes : List (List (BitVec 16))) (s : State), s.inLull = false → Answers (.counterReload h err codes) s
      fun t => t.rd (F.PWM_HB_COUNT_POSITION h.val) = 0 ∧ t.rdb (F.PWM_HB_STATUS_ALIGNED h.val) = (s.syncSource h.val == 2 && decide
      (err.natAbs ≤ 1)) ∧ (t.hb h.val).nextCmp = none) ∧
  (∀ (h : Fin 12) (pos : Nat) (s : State), s.inLull = false → Answers (.pwmCommandChange h pos) s fun t => t.rd (F.PWM_HB_COUNT_POSITION
      h.val) = pos / 16 % 2 ^ 20) ∧
  (∀ (h : Fin 12) (pos : Nat) (s : State), s.inLull = false → ((16 * s.rd (F.PWM_HB_MIN_PULSE_MIN_PULSE h.val) : Nat) : Int) ≤ pos -
      (s.hb h.val).edgeAt → ((s.hb h.val).lengthFrom (commandAt (s.hb h.val).cmpOn (s.hb h.val).cmpOff pos) pos).any (· < 16 * s.rd
      (F.PWM_HB_MIN_PULSE_MIN_PULSE h.val)) = false → Answers (.pwmCommandChange h pos) s fun t => t.rdb (F.PWM_HB_STATUS_OUT h.val) =
      commandAt (s.hb h.val).cmpOn (s.hb h.val).cmpOff pos) ∧
  (∀ (h : Fin 12) (pos : Nat) (s : State), s.inLull = false → ((s.hb h.val).lengthFrom (commandAt (s.hb h.val).cmpOn (s.hb h.val).cmpOff
      pos) pos).any (· < 16 * s.rd (F.PWM_HB_MIN_PULSE_MIN_PULSE h.val)) = true → Answers (.pwmCommandChange h pos) s fun t => t.rdb
      (F.PWM_HB_STATUS_OUT h.val) = s.rdb (F.PWM_HB_STATUS_OUT h.val)) ∧
  (∀ (h : Fin 12) (interval : Nat) (s : State), (s.hb h.val).waiting = some .high → 64 ≤ interval → Answers (.deadTimeEnd h interval) s
      fun t => t.chState (2 * h.val) = onSt ∧ (t.ch (2 * h.val)).edge = .on ∧ (t.hb h.val).waiting = none ∧ t.rd (F.GDI_HB_OMIT h.val) =
      s.rd (F.GDI_HB_OMIT h.val)) ∧
  (∀ (h : Fin 12) (interval : Nat) (s : State), (s.hb h.val).waiting = some .low → 64 ≤ interval → Answers (.deadTimeEnd h interval) s
      fun t => t.chState (2 * h.val + 1) = onSt ∧ (t.ch (2 * h.val + 1)).edge = .on ∧ (t.hb h.val).waiting = none) ∧
  (∀ (h : Fin 12) (interval : Nat) (x : Device) (s : State), (s.hb h.val).waiting = some x → interval < 64 → Answers (.deadTimeEnd h
      interval) s fun t => (t.hb h.val).waiting = none ∧ t.rd (F.GDI_HB_OMIT h.val) = min (s.rd (F.GDI_HB_OMIT h.val) + 1) (2 ^ 32 - 1)
      ∧ t.gd.ch = s.gd.ch) ∧
  (∀ (n : Fin 24) (byLevel : Bool) (s : State), (s.ch n.val).segmented = true → (s.ch n.val).edge ≠ .none → segHolds (s.ch n.val).segs
      (s.ch n.val).seg = false → Answers (.gateSegmentEnd n byLevel) s fun t => (t.ch n.val).seg = (s.ch n.val).seg + 1 ∧ (t.ch
      n.val).segs = (s.ch n.val).segs ∧ (byLevel = false → (t.ch n.val).byLevel = (s.ch n.val).byLevel)) ∧
  (∀ (n : Fin 24) (byLevel : Bool) (s : State), (s.ch n.val).segmented = true → (s.ch n.val).edge = .on → segHolds (s.ch n.val).segs
      (s.ch n.val).seg = false → segHolds (s.ch n.val).segs ((s.ch n.val).seg + 1) = true → Answers (.gateSegmentEnd n byLevel) s fun t
      => t.rd (F.GDI_CH_SEG_END_ON n.val) = (t.ch n.val).byLevel % 16)

/-- Bias supervision and the enable across the barrier. An undervoltage of VDD_ISO locks a refreshed channel out, is shown and counted, and
holds its half-bridge; supplies beyond their release thresholds end the lock-out. 1 µs after the enable fell every channel without its
enable that protection does not hold enters HIGHZ, and the auxiliary outputs are not driven without the claim enable; the first on edges
are permitted under the claim enable. A lost refresh takes the link and the enable away, with the off edge of a channel that is on; a
resumed one returns the link and shows the bias, and under the claim enable of a unit that drives its gates it returns the enable. Rests
on R226, R227, R228, R236, R237, R245, R405. -/
def Obligations.BiasAndEnable : Prop :=
  (∀ (n : Fin 24) (vdd vee : BitVec 16) (time : Nat) (s : State), s.rdb (F.GDI_CH_STATUS_LINK n.val) = true → s.chLocked n.val = false →
      vdd.toNat < s.vddFall n.val → Answers (.biasUndervoltage n vdd vee time) s fun t => (t.ch n.val).lockVdd = true ∧ t.rdb
      (F.GDI_CH_STATUS_UV_VDD n.val) = true ∧ t.rd (F.GDI_CH_UV_COUNT n.val) = min (s.rd (F.GDI_CH_UV_COUNT n.val) + 1) (2 ^ 32 - 1) ∧
      bit (t.rd F.GDI_UV_EVENT_CH) n.val = true ∧ (t.hb (n.val / 2)).holders.contains .lockout = true ∧ t.rd (F.GDI_CH_MON_VDD n.val) =
      vdd.toNat) ∧
  (∀ (n : Fin 24) (vdd vee : BitVec 16) (s : State), s.rdb (F.GDI_CH_STATUS_LINK n.val) = true → s.vddFall n.val + 8 ≤ vdd.toNat →
      s.veeLimit n.val = none → Answers (.biasRelease n vdd vee) s fun t => (t.ch n.val).lockVdd = false ∧ (t.ch n.val).lockVee = false
      ∧ t.rdb (F.GDI_CH_STATUS_UV_VDD n.val) = false) ∧
  (∀ (n : Fin 24) (vdd vee : BitVec 16) (l : Int) (s : State), s.rdb (F.GDI_CH_STATUS_LINK n.val) = true → s.vddFall n.val + 8 ≤
      vdd.toNat → s.veeLimit n.val = some l → signedOf 16 vee.toNat ≤ l - 3 → Answers (.biasRelease n vdd vee) s fun t => (t.ch
      n.val).lockVdd = false ∧ (t.ch n.val).lockVee = false ∧ t.rdb (F.GDI_CH_STATUS_UV_VEE n.val) = false) ∧
  (∀ (s : State), Answers (.enableOffHoldEnd) s fun t => (∀ n : Fin 24, s.rdb (F.GDI_CH_STATUS_ENABLE n.val) = false → (s.ch
      n.val).protHold = false → t.chState n.val = hizSt) ∧ (s.en = false → t.rd F.GDA_STATUS_DRIVE = 0) ∧ t.gd = s.gd) ∧
  (∀ (s : State), s.en = true → Answers (.firstOnEdgePermitted) s fun t => t.gd.onPermitted = true ∧ (∀ n : Fin 24, (t.ch n.val).fresh =
      false)) ∧
  (∀ (n : Fin 24) (s : State), s.rdb (F.GDI_CH_STATUS_LINK n.val) = true → Answers (.refreshLoss n) s fun t => t.rdb
      (F.GDI_CH_STATUS_LINK n.val) = false ∧ t.rdb (F.GDI_CH_STATUS_ENABLE n.val) = false ∧ bit (t.rd F.GDI_STATUS_DIE_OK) (n.val / 4) =
      false ∧ (s.chState n.val = onSt → (s.ch n.val).protHold = false → t.chState n.val = offSt)) ∧
  (∀ (n : Fin 24) (vdd vee : BitVec 16) (time : Nat) (s : State), s.rdb (F.GDI_CH_STATUS_LINK n.val) = false → Answers
      (.barrierRefreshResume n vdd vee time) s fun t => t.rdb (F.GDI_CH_STATUS_LINK n.val) = true ∧ t.rd (F.GDI_CH_MON_VDD n.val) =
      vdd.toNat ∧ t.rdb (F.GDI_CH_STATUS_UV_VDD n.val) = (s.ch n.val).lockVdd ∧ (s.en = true → s.ownsGates = true → t.rdb
      (F.GDI_CH_STATUS_ENABLE n.val) = true ∧ (t.ch n.val).fresh = true ∧ t.chState n.val ≠ hizSt))

/-- Auxiliary half-bridges. An undervoltage of the auxiliary driver supply turns every output off and is shown until its recovery; at a
carrier period the period is counted, the duty that applies is shown, an output without the enable is off, and a bootstrap that has
recovered ends its hold and caps the duty; a bootstrap undervoltage is shown and counted, and turns the high side off until then. Rests
on R240, R241, R242, R243. -/
def Obligations.AuxiliaryDrive : Prop :=
  (∀ (s : State), Answers (.auxDrvUndervoltage) s fun t => t.rdb F.GDA_STATUS_UV_DRV = true ∧ (∀ a : Fin 6, t.rdb (F.GDA_HB_STATUS_OUT
      a.val) = false) ∧ t.gd = s.gd) ∧
  (∀ (s : State), Answers (.auxDrvRecover) s fun t => t.rdb F.GDA_STATUS_UV_DRV = false ∧ t.gd = s.gd) ∧
  (∀ (a : Fin 6) (recovered : Bool) (s : State), Answers (.auxPeriodStart a recovered) s fun t => (t.aux a.val).periods = ((s.aux
      a.val).periods + 1) % 64 ∧ t.rd (F.GDA_HB_DUTY_NOW_DUTY a.val) = t.auxDuty a.val % 2 ^ 14 ∧ (s.en = false → t.rdb
      (F.GDA_HB_STATUS_OUT a.val) = false) ∧ ((s.aux a.val).bstWait = true → recovered = true → (t.aux a.val).bstWait = false ∧ t.rdb
      (F.GDA_HB_STATUS_CAPPED a.val) = true)) ∧
  (∀ (a : Fin 6) (s : State), Answers (.bootstrapUndervoltage a) s fun t => t.rdb (F.GDA_HB_STATUS_BST_UV a.val) = true ∧ t.rdb
      (F.GDA_HB_STATUS_OUT a.val) = false ∧ t.rd (F.GDA_HB_BST_UV_COUNT a.val) = min (s.rd (F.GDA_HB_BST_UV_COUNT a.val) + 1) (2 ^ 32 -
      1) ∧ (t.aux a.val).bstWait = true)

/-- Detections of the power-stage protection. On an active unit the first detection of an armed group latches its detector, trips the group
with its cause and leg, and holds the whole group off; a short class turns the channels that are on off softly, which ends in DRIVE_OFF;
a standby only keeps hard-short and phase-current detections to report. Rests on R250, R251, R252, R253, R255, R256, R257, R261. -/
def Obligations.ProtectionTrips : Prop :=
  (∀ (n : Fin 24) (g : Fin 8) (time : Nat) (s : State), s.active = true → s.rdb (F.PRT_CH_DESAT_ENABLE n.val) = true → s.chState n.val =
      onSt → s.groupOf (n.val / 2) = some g.val → s.gst g.val = gArmed → Answers (.desatTrip n true time) s fun t => t.rdb
      (F.PRT_CH_STATUS_DESAT_LATCH n.val) = true ∧ t.chState n.val = softSt ∧ t.gst g.val = gTripped ∧ t.rd (F.PRT_GRP_STATE_CAUSE
      g.val) = 1 ∧ t.rd (F.PRT_GRP_STATE_LEGS g.val) = 2 ^ (n.val / 2) % 2 ^ 12 ∧ (t.grp g.val).t0 = time ∧ (t.grp g.val).short = true ∧
      (t.grp g.val).collecting = true ∧ (∀ h ∈ s.groupHbs g.val, (t.hb h).holders.contains .protection = true)) ∧
  (∀ (h : Fin 12) (g : Fin 8) (time : Nat) (s : State), s.active = true → s.rdb (F.PRT_HB_HS_ENABLE h.val) = true → s.groupOf h.val =
      some g.val → s.gst g.val = gArmed → Answers (.hardShortTrip h true time) s fun t => t.rdb (F.PRT_HB_STATUS_HS_LATCH h.val) = true
      ∧ t.gst g.val = gTripped ∧ t.rd (F.PRT_GRP_STATE_CAUSE g.val) = 2 ∧ t.rd (F.PRT_GRP_STATE_LEGS g.val) = 2 ^ h.val % 2 ^ 12 ∧
      (t.grp g.val).t0 = time ∧ (t.grp g.val).short = true ∧ (t.grp g.val).collecting = true ∧ (∀ h ∈ s.groupHbs g.val, (t.hb
      h).holders.contains .protection = true)) ∧
  (∀ (h : Fin 12) (g : Fin 8) (time : Nat) (s : State), s.active = false → s.rdb (F.PRT_HB_HS_ENABLE h.val) = true → s.groupOf h.val =
      some g.val → s.gst g.val = gArmed → Answers (.hardShortTrip h true time) s fun t => t.rdb (F.PRT_HB_STATUS_HS_LATCH h.val) = true
      ∧ bit t.prt.standbyLegs h.val = true ∧ t.gst g.val = gArmed ∧ t.gd = s.gd) ∧
  (∀ (a : Fin 16) (g : Fin 8) (time : Nat) (s : State), s.active = true → s.rdb (F.PRT_ADC_CFG_ENABLE a.val) = true → s.rdb
      (F.PRT_ADC_CFG_ACTION a.val) = false → s.groupOf (s.rd (F.PRT_ADC_CFG_HB a.val)) = some g.val → s.gst g.val = gArmed → Answers
      (.phaseCurrentTrip a true time) s fun t => t.rdb (F.PRT_ADC_CFG_LATCH a.val) = true ∧ t.gst g.val = gTripped ∧ t.rd
      (F.PRT_GRP_STATE_CAUSE g.val) = 3 ∧ t.rd (F.PRT_GRP_STATE_LEGS g.val) = 2 ^ s.rd (F.PRT_ADC_CFG_HB a.val) % 2 ^ 12 ∧ (t.grp
      g.val).t0 = time ∧ (t.grp g.val).short = true ∧ (t.grp g.val).collecting = true ∧ (∀ h ∈ s.groupHbs g.val, (t.hb
      h).holders.contains .protection = true)) ∧
  (∀ (a : Fin 16) (g : Fin 8) (time : Nat) (s : State), s.active = true → s.rdb (F.PRT_ADC_CFG_ENABLE a.val) = true → s.rdb
      (F.PRT_ADC_CFG_ACTION a.val) = true → s.groupOf (s.rd (F.PRT_ADC_CFG_HB a.val)) = some g.val → s.gst g.val = gArmed → Answers
      (.phaseCurrentTrip a true time) s fun t => t.rdb (F.PRT_ADC_CFG_LATCH a.val) = true ∧ t.gst g.val = gTripped ∧ t.rd
      (F.PRT_GRP_STATE_CAUSE g.val) = 4 ∧ t.rd (F.PRT_GRP_STATE_LEGS g.val) = 2 ^ s.rd (F.PRT_ADC_CFG_HB a.val) % 2 ^ 12 ∧ (t.grp
      g.val).t0 = time ∧ (t.grp g.val).short = false ∧ (t.grp g.val).collecting = true ∧ (∀ h ∈ s.groupHbs g.val, (t.hb
      h).holders.contains .protection = true)) ∧
  (∀ (n : Fin 24) (g : Fin 8) (time : Nat) (s : State), s.active = true → s.rdb (F.PRT_CH_GATE_ENABLE n.val) = true → s.chState n.val =
      onSt → s.groupOf (n.val / 2) = some g.val → s.gst g.val = gArmed → Answers (.gateVoltageTrip n true time) s fun t => t.rdb
      (F.PRT_CH_STATUS_GV_LATCH n.val) = true ∧ t.gst g.val = gTripped ∧ t.rd (F.PRT_GRP_STATE_CAUSE g.val) = 5 ∧ t.rd
      (F.PRT_GRP_STATE_LEGS g.val) = 2 ^ (n.val / 2) % 2 ^ 12 ∧ (t.grp g.val).t0 = time ∧ (t.grp g.val).short = true ∧ (t.grp
      g.val).collecting = true ∧ (∀ h ∈ s.groupHbs g.val, (t.hb h).holders.contains .protection = true)) ∧
  (∀ (n : Fin 24) (g : Fin 8) (time : Nat) (s : State), s.active = true → s.rdb (F.PRT_CH_GATE_ENABLE n.val) = true → s.chState n.val =
      offSt → s.groupOf (n.val / 2) = some g.val → s.gst g.val = gArmed → Answers (.gateVoltageTrip n true time) s fun t => t.rdb
      (F.PRT_CH_STATUS_GV_LATCH n.val) = true ∧ t.gst g.val = gTripped ∧ t.rd (F.PRT_GRP_STATE_CAUSE g.val) = 6 ∧ t.rd
      (F.PRT_GRP_STATE_LEGS g.val) = 2 ^ (n.val / 2) % 2 ^ 12 ∧ (t.grp g.val).t0 = time ∧ (t.grp g.val).short = false ∧ (t.grp
      g.val).collecting = true ∧ (∀ h ∈ s.groupHbs g.val, (t.hb h).holders.contains .protection = true)) ∧
  (∀ (n : Fin 24) (byTime : Bool) (s : State), s.chState n.val = softSt → Answers (.softOffEnd n byTime) s fun t => t.chState n.val =
      offSt ∧ (t.ch n.val).protHold = (s.ch n.val).protHold ∧ (byTime = true → t.rdb (F.PRT_CH_STATUS_SOFT_TIMEOUT n.val) = true))

/-- Judgement, waits, lock-out and reset of protection groups. At the end of its collection an explained trip that is not a short waits, 10
ms where it is the first of the last 60 s; an explained short of two legs locks the group out with a record for each half-bridge; a
desaturation that nothing has explained is in doubt until 5 µs after its detection and then withdraws the unit. WAIT leads to CHECK, a
held release check to ARMED with the half-bridges let go, a late one to lock-out with cause RELEASE. RESET with the maintenance
credential re-arms the named locked-out groups whose release checks hold, without the credential it is refused; the partner's RESET does
the same here. Rests on R257, R258, R259, R260, R261, R262, R263. -/
def Obligations.ProtectionRetry : Prop :=
  (∀ (g : Fin 8) (time : Nat) (kept : List Nat) (s : State), s.gst g.val = gTripped → (s.grp g.val).collecting = true → (s.grp g.val).t0
      + 2000 ≤ time → (s.groupChs g.val).all (fun n => s.chState n != softSt) = true → ∀ k < 8, (s.grp k).doubt = false → (s.grp
      g.val).explained = true → (s.grp g.val).short = false → s.rdb (F.PRT_GRP_CFG_RETRY g.val) = true → kept = (s.grp
      g.val).history.filter (fun e => (s.grp g.val).t0 ≤ e + 60000000000) → kept.length < 3 → Answers (.tripCollectionEnd g time) s fun
      t => t.gst g.val = gWait ∧ t.rd (F.PRT_GRP_STATE_TRIES g.val) = kept.length + 1 ∧ t.rd (F.PRT_GRP_TRIPS g.val) = min (s.rd
      (F.PRT_GRP_TRIPS g.val) + 1) (2 ^ 32 - 1) ∧ (t.grp g.val).history = kept ++ [(s.grp g.val).t0] ∧ (kept = [] → (t.grp
      g.val).waitEnd = time + 10000000 ∧ t.rd (F.PRT_GRP_WAIT_LEFT g.val) = 10)) ∧
  (∀ (g : Fin 8) (time : Nat) (s : State), s.gst g.val = gTripped → (s.grp g.val).collecting = true → (s.grp g.val).t0 + 2000 ≤ time →
      (s.groupChs g.val).all (fun n => s.chState n != softSt) = true → ∀ k < 8, (s.grp k).doubt = false → (s.grp g.val).explained = true
      → (s.grp g.val).short = true → 2 ≤ legCount (s.rd (F.PRT_GRP_STATE_LEGS g.val)) → Answers (.tripCollectionEnd g time) s fun t =>
      t.gst g.val = gLockout ∧ t.rdb (F.PRT_GRP_STATE_MULTI g.val) = true ∧ (∀ h ∈ s.groupHbs g.val, SMap.get (fun _ => none)
      t.prt.records h = some (s.rd (F.PRT_GRP_STATE_CAUSE g.val), true))) ∧
  (∀ (g : Fin 8) (time : Nat) (s : State), s.gst g.val = gTripped → (s.grp g.val).collecting = true → (s.grp g.val).t0 + 2000 ≤ time →
      (s.groupChs g.val).all (fun n => s.chState n != softSt) = true → (s.grp g.val).explained = false → s.rd (F.PRT_GRP_STATE_CAUSE
      g.val) = 1 → (s.grp g.val).t0 + 5000 ≤ time → s.bar.withdrawing = none → Answers (.tripCollectionEnd g time) s fun t =>
      t.sys.startPending = some 4) ∧
  (∀ (g : Fin 8) (time : Nat) (s : State), s.gst g.val = gTripped → (s.grp g.val).collecting = true → (s.grp g.val).t0 + 2000 ≤ time →
      (s.groupChs g.val).all (fun n => s.chState n != softSt) = true → ∀ k < 8, (s.grp k).doubt = false → (s.grp g.val).explained =
      false → s.rd (F.PRT_GRP_STATE_CAUSE g.val) = 1 → time < (s.grp g.val).t0 + 5000 → Answers (.tripCollectionEnd g time) s fun t =>
      (t.grp g.val).doubt = true ∧ (t.grp g.val).collecting = false ∧ t.gst g.val ≠ gTripped) ∧
  (∀ (g : Fin 8) (time : Nat) (s : State), s.active = true → s.gst g.val = gWait → (s.grp g.val).waitEnd ≤ time → Answers (.prtWaitEnd g
      time) s fun t => t.gst g.val = gCheck ∧ (t.grp g.val).checkAt = time ∧ t.rd (F.PRT_GRP_WAIT_LEFT g.val) = 0) ∧
  (∀ (g : Fin 8) (s : State), s.active = true → s.gst g.val = gCheck → s.releaseCheck g.val true = true → Answers (.prtRelease g) s fun
      t => t.gst g.val = gArmed ∧ t.rd (F.PRT_GRP_WAIT_LEFT g.val) = 0 ∧ (∀ h ∈ s.groupHbs g.val, (t.hb h).holders.contains .protection
      = false)) ∧
  (∀ (g : Fin 8) (time : Nat) (s : State), s.active = true → s.gst g.val = gCheck → (s.grp g.val).checkAt + 1000000000 ≤ time → Answers
      (.prtReleaseTimeout g time) s fun t => t.gst g.val = gLockout ∧ t.rd (F.PRT_GRP_STATE_CAUSE g.val) = 9 ∧ t.rdb
      (F.PRT_GRP_STATE_MULTI g.val) = false) ∧
  (∀ (side : Side) (groups : BitVec 8) (s : State), s.inLull = false → s.maint side.val = true → (s.lockedGroups groups.toNat).all (fun
      g => s.releaseCheck g false) = true → Answers (.prtReset side 0x9C31#16 groups) s fun t => ∀ g ∈ s.lockedGroups groups.toNat,
      t.gst g = gArmed ∧ t.rd (F.PRT_GRP_STATE_TRIES g) = 0) ∧
  (∀ (side : Side) (groups : BitVec 8) (s : State), s.inLull = false → s.maint side.val = false → Answers (.prtReset side 0x9C31#16
      groups) s fun t => t.hbi.refused = some eCredential ∧ t.prt = s.prt) ∧
  (∀ (groups : BitVec 8) (s : State), (s.lockedGroups groups.toNat).all (fun g => s.releaseCheck g false) = true → Answers
      (.pairItemPrtReset groups) s fun t => ∀ g ∈ s.lockedGroups groups.toNat, t.gst g = gArmed ∧ t.rd (F.PRT_GRP_STATE_TRIES g) = 0)

/-- The self-test of protection groups. TEST starts in every named group that has half-bridges where each may be tested, else it is refused
with STATE; a passed item leads to the next, the last one ends the test in the state that it started from, and a failed one leaves the
group to lock out with cause SELF_TEST; TEST_ABORT ends the test of each named group. Rests on R265, R266. -/
def Obligations.ProtectionTest : Prop :=
  (∀ (side : Side) (groups : BitVec 8) (s : State), s.inLull = false → (s.namedGroups groups.toNat).all s.mayTest = true → Answers
      (.prtTest side 0x9C31#16 groups) s fun t => ∀ g ∈ s.namedGroups groups.toNat, s.groupHbs g ≠ [] → t.gst g = gTest ∧ (s.gst g ≠
      gTest → t.rdb (F.PRT_GRP_TEST_DONE g) = false ∧ (t.grp g).testFrom = s.gst g)) ∧
  (∀ (side : Side) (groups : BitVec 8) (s : State), s.inLull = false → (s.namedGroups groups.toNat).all s.mayTest = false → Answers
      (.prtTest side 0x9C31#16 groups) s fun t => t.hbi.refused = some eState ∧ t.prt = s.prt) ∧
  (∀ (side : Side) (groups : BitVec 8) (s : State), s.inLull = false → Answers (.prtTestAbort side 0x9C31#16 groups) s fun t => ∀ g ∈
      s.namedGroups groups.toNat, s.gst g = gTest → t.rdb (F.PRT_GRP_TEST_DONE g) = true ∧ (t.grp g).testItems = []) ∧
  (∀ (g : Fin 8) (kind item : Nat) (rest : List (Nat × Nat)) (s : State), s.gst g.val = gTest → (s.grp g.val).testItems = (kind, item)
      :: rest → rest ≠ [] → Answers (.prtTestItemDone g 1) s fun t => t.gst g.val = gTest ∧ (t.grp g.val).testItems = rest ∧ t.rd
      (F.PRT_GRP_STATE_CAUSE g.val) = s.rd (F.PRT_GRP_STATE_CAUSE g.val)) ∧
  (∀ (g : Fin 8) (kind item : Nat) (s : State), s.gst g.val = gTest → (s.grp g.val).testItems = [(kind, item)] → (s.grp g.val).testFrom
      < 8 → Answers (.prtTestItemDone g 1) s fun t => t.gst g.val = (s.grp g.val).testFrom ∧ (t.grp g.val).testItems = [] ∧ t.rdb
      (F.PRT_GRP_TEST_DONE g.val) = true) ∧
  (∀ (g : Fin 8) (code : Fin 7) (kind item : Nat) (rest : List (Nat × Nat)) (s : State), s.gst g.val = gTest → (s.grp g.val).testItems =
      (kind, item) :: rest → rest ≠ [] → 2 ≤ code.val → code ≠ 6 → Answers (.prtTestItemDone g code) s fun t => t.gst g.val = gTest ∧
      (t.grp g.val).testItems = rest ∧ (t.grp g.val).testFrom = gLockout ∧ t.rd (F.PRT_GRP_STATE_CAUSE g.val) = 8)

/-- Thermal supervision, coolant loops and the cable observer. A round start demands the higher of Q_MIN and the feed-forward from an
enabled loop and no duty from a disabled one; a round end counts the round and shows the main die's temperature; a hold ends at its
highest value; a flow below half the demanded one for 2 s shows FLOW_LOW, and so does a flow sensor without pulses, which is then
unreadable; the observer moves its estimate on a valid measurement, gives no credit on an invalid one and never more than the rated
current; a shut-down unit restarts with source THERMAL. Rests on R269, R274, R275, R276, R277, R280, R281, R284, R287. -/
def Obligations.ThermalAndCoolant : Prop :=
  (∀ (l : Fin 2) (s : State), (s.role.cool[l.val]?).isSome = true → s.inLull = false → Answers (.hkRoundStart) s fun t => (t.rdb
      (F.TH_LOOP_CFG_ENABLE l.val) = true → t.rd (F.TH_LOOP_STATE_Q_DEM l.val) = min (max (t.rd (F.TH_LOOP_FLOW_Q_MIN l.val)) (t.cool
      l.val).qff) (2 ^ 16 - 1)) ∧ (t.rdb (F.TH_LOOP_CFG_ENABLE l.val) = false → t.rd (F.TH_LOOP_STATUS_DUTY l.val) = 0)) ∧
  (∀ (raw : List Int) (flows : List Nat) (s : State), Answers (.hkRoundEnd raw flows) s fun t => t.rd F.TH_ROUNDS = (s.rd F.TH_ROUNDS +
      1) % 2 ^ 32 ∧ t.rd F.TH_DIE_MAIN = t.rd (F.TH_GRP_STATE_VALUE 31) % 2 ^ 16) ∧
  (∀ (l : Fin 2) (q : Nat) (s : State), (s.cool l.val).holdMax = some q → Answers (.ffHoldEnd l) s fun t => (t.cool l.val).qff = q ∧
      (t.cool l.val).holdMax = none ∧ t.rdb (F.TH_LOOP_STATUS_HOLDING l.val) = false) ∧
  (∀ (l : Fin 2) (s : State), (s.role.cool[l.val]?).isSome = true → 2000 ≤ s.rd (F.TH_LOOP_STATUS_DUTY l.val) → 2 * s.rd
      (F.TH_LOOP_STATE_Q l.val) < s.rd (F.TH_LOOP_STATE_Q_DEM l.val) → Answers (.flowFaultTimeout l false) s fun t => t.rdb
      (F.TH_LOOP_STATUS_FLOW_LOW l.val) = true ∧ t.rdb F.TH_EVENT_FLOW_LOW = true ∧ t.th = s.th) ∧
  (∀ (l : Fin 2) (d : CoolDecl) (s : State), s.role.cool[l.val]? = some d → d.flowSrc = 1 → 2000 ≤ s.rd (F.TH_LOOP_STATUS_DUTY l.val) →
      Answers (.flowFaultTimeout l true) s fun t => (t.cool l.val).unreadable = true ∧ t.rd (F.TH_LOOP_STATE_Q l.val) = 0 ∧ t.rdb
      (F.TH_LOOP_STATUS_FLOW_LOW l.val) = true) ∧
  (∀ (iSq : Nat) (s : State), s.kind = .outlet → Answers (.observerStep iSq false) s fun t => t.th.started = true ∧ t.rd
      F.TH_OBS_CREDIT_I_SUST = 0 ∧ t.rd F.TH_OBS_CREDIT_I_80 = 0 ∧ t.rdb F.TH_OBS_CFG_VALID = false) ∧
  (∀ (iSq : Nat) (valid : Bool) (s : State), s.kind = .outlet → Answers (.observerStep iSq valid) s fun t => t.rd F.TH_OBS_CREDIT_I_80 ≤
      min 30000 s.role.iRated ∧ t.rd F.TH_OBS_CREDIT_I_SUST ≤ min 30000 s.role.iRated) ∧
  (∀ (iSq : Nat) (s : State), s.kind = .outlet → s.th.started = true → Answers (.observerStep iSq true) s fun t => t.th.tc = toFix
      (s.obsIn.conductor (mkRat iSq (4096 * 4096)) (ofFix s.th.tc) (1 / 100)) ∧ t.th.m = toFix (s.obsIn.pin (mkRat iSq (4096 * 4096))
      (ofFix s.th.m) (1 / 100))) ∧
  (∀ (s : State), s.rdb F.TH_STATUS_SHUTDOWN = true → Answers (.thermalRestart) s fun t => t.sys.startPending = some 8 ∧ t.sys.running =
      false)

/-- Safety inputs, frames and demands. A level held for FILTER is accepted; a disagreement beyond DISC is a fault; the first copy of a frame
that its connection accepts waits for the next evaluation and one with a bad CRC is counted; an expired ring connection latches the
functions of ON_EXPIRY that the role holds, the pair link's marks the partner absent; an evaluation takes the read-backs and acts: a
latched emergency stop of a stack opens its contactors and holds its groups, a lock-out releases the safety outputs. Rests on R431,
R432, R433, R437, R438, R439, R440, R441. -/
def Obligations.SafetySequencer : Prop :=
  (∀ (readbacks partnerDrive : BitVec 24) (s : State), s.inLull = false → Answers (.safetyEvaluation readbacks partnerDrive) s fun t =>
      t.saf.raised = 0 ∧ t.saf.wasActive = t.active ∧ (∀ i : Fin 24, t.rdb (F.SAF_OUT_STATUS_READBACK i.val) = bit readbacks.toNat
      i.val) ∧ (s.kind = .stack → bit (t.rd F.SAF_DEMAND_LATCHED) 1 = true → t.mrk.coil = 0 ∧ t.sys.mainCoil = false ∧ t.sys.preCoil =
      false ∧ ∀ h ∈ s.groupedHbs, (t.hb h).holders.contains .safety = true) ∧ (t.lockedOut = true → t.saf.sfo = [false, false])) ∧
  (∀ (k : Fin 4) (chB closed : Bool) (held : Nat) (s : State), s.inLull = false → s.rdb (F.SAF_IN_CFG_ENABLE k.val) = true → s.rd
      (F.SAF_IN_CFG_FILTER k.val) ≤ held → Answers (.safetyInputChange k chB closed held) s fun t => t.safeIn k.val = (if chB then
      { s.safeIn k.val with b := closed, firstB := true } else { s.safeIn k.val with a := closed, firstA := true }) ∧ t.rdb
      (F.SAF_IN_STATUS_A k.val) = (t.safeIn k.val).a ∧ t.rdb (F.SAF_IN_STATUS_DEMANDING k.val) = t.inDemands k.val) ∧
  (∀ (k : Fin 4) (ms : Nat) (s : State), s.inLull = false → s.inDisagrees k.val = true → s.rdb (F.SAF_IN_CFG_ENABLE k.val) = true → s.rd
      (F.SAF_IN_CFG_DISC k.val) < ms → s.saf.record = none → Answers (.safetyDiscrepancy k ms) s fun t => t.saf.record = some (1, k.val)
      ∧ t.rdb F.SAF_STATUS_LOCKOUT = true ∧ t.saf.sfo = [false, false] ∧ t.rd F.SAF_LOCKOUTS = min (s.rd F.SAF_LOCKOUTS + 1) (2 ^ 32 -
      1)) ∧
  (∀ (src cycle : Nat) (frame : SafetyFrame) (j : Nat) (s : State), s.inLull = false → s.trg.key.isSome = true → 1 ≤ src → src ≤ 96 →
      src ≠ s.addr → slotSeen s.trg.safeSeen src cycle = false → s.connFor 2 frame.connId = some j → frameCrcOk frame = true →
      frame.wdMs = s.rd (F.SAF_CONN_STATUS_WD_MS j) → s.rd (F.SAF_CONN_STATUS_STATE j) = 1 → 1 ≤ (frame.seq + 65536 - s.rd
      (F.SAF_CONN_STATUS_SEQ j)) % 65536 → (frame.seq + 65536 - s.rd (F.SAF_CONN_STATUS_SEQ j)) % 65536 ≤ 64 → Answers
      (.safetyFrameReceive src cycle frame true) s fun t => (t.conn j).inbox = some frame ∧ t.rd (F.SAF_CONN_STATUS_SEQ j) = frame.seq %
      65536 ∧ t.rd (F.SAF_CONN_ERR j) = s.rd (F.SAF_CONN_ERR j)) ∧
  (∀ (src cycle : Nat) (frame : SafetyFrame) (j : Nat) (s : State), s.inLull = false → s.trg.key.isSome = true → 1 ≤ src → src ≤ 96 →
      src ≠ s.addr → slotSeen s.trg.safeSeen src cycle = false → s.connFor 2 frame.connId = some j → frameCrcOk frame = false → Answers
      (.safetyFrameReceive src cycle frame true) s fun t => t.rd (F.SAF_CONN_ERR j) = min (s.rd (F.SAF_CONN_ERR j) + 1) (2 ^ 32 - 1) ∧
      (t.conn j).inbox = (s.conn j).inbox) ∧
  (∀ (j : Fin 16) (s : State), s.inLull = false → s.rd (F.SAF_CONN_STATUS_STATE j.val) = 1 → s.rd (F.SAF_CONN_CFG_KIND j.val) ≠ 3 →
      Answers (.safetyWatchdogExpiry j) s fun t => t.rd (F.SAF_CONN_STATUS_STATE j.val) = 2 ∧ (t.conn j.val).latch = (s.conn
      j.val).latch ||| (s.rd (F.SAF_CONN_CFG_ON_EXPIRY j.val) &&& s.funcMask) ∧ (t.conn j.val).inbox = none ∧ t.saf.record.isSome =
      true) ∧
  (∀ (j : Fin 16) (s : State), s.inLull = false → s.rd (F.SAF_CONN_STATUS_STATE j.val) = 1 → s.rd (F.SAF_CONN_CFG_KIND j.val) = 3 →
      Answers (.safetyWatchdogExpiry j) s fun t => t.rd (F.SAF_CONN_STATUS_STATE j.val) = 2 ∧ t.rdb F.SAF_STATUS_PARTNER_ABSENT = true ∧
      t.saf.record = s.saf.record)

/-- Tested outputs and the safety commands. At its slot an off-pulse releases an output that the active unit drives on, and it ends in
PASSED or in a fault; a read-back that disagrees is a fault; RESET with the safety credential clears the record, without it it is
refused; CLEAR_DEMAND clears the own latches that no request holds, from the host or a session with the Operate tier, from another it is
refused; SET_PW stores the password, empties its buffer and closes every safety credential, without the credential it needs it is
refused; an upset parameter set is a fault, an intact one changes nothing. Rests on R440, R441, R442, R443, R444, R446, R447, R448. -/
def Obligations.SafetyOutputs : Prop :=
  (∀ (i : Fin 24) (time : Nat) (s : State), s.active = true → s.outDriven i.val = true → s.sys.earlyWarning = false → time % 500000000 =
      i.val * 20000000 → s.rd64 F.PAIR_LAST_TIME_LO + 1000000 ≤ time → Answers (.offPulseStart i time) s fun t => t.saf.pulsing = i.val
      :: s.saf.pulsing ∧ t.rdb (F.SAF_OUT_STATUS_DRIVEN i.val) = false) ∧
  (∀ (i : Fin 24) (c : Nat) (s : State), s.saf.pulsing.contains i.val = true → s.outCode i.val = some c → s.drives c = true → Answers
      (.offPulseEnd i true true) s fun t => t.rdb (F.SAF_OUT_STATUS_PASSED i.val) = true ∧ t.saf.pulsing.contains i.val = false ∧
      t.saf.record = s.saf.record) ∧
  (∀ (i : Fin 24) (onOk : Bool) (c : Nat) (s : State), s.saf.pulsing.contains i.val = true → s.outCode i.val = some c → s.drives c =
      true → s.saf.record = none → Answers (.offPulseEnd i false onOk) s fun t => t.rdb (F.SAF_OUT_STATUS_PASSED i.val) = false ∧
      t.saf.record = some (2, i.val)) ∧
  (∀ (i : Fin 24) (s : State), s.active = true → (s.outCode i.val).isSome = true → s.saf.pulsing.contains i.val = false → s.rdb
      (F.SAF_OUT_STATUS_READBACK i.val) = !s.outDriven i.val → s.saf.record = none → Answers (.readbackStuck i) s fun t => t.saf.record
      = some (if s.outDriven i.val then 3 else 2, i.val) ∧ t.saf.sfo = [false, false] ∧ t.rdb F.SAF_STATUS_LOCKOUT = true) ∧
  (∀ (side : Side) (s : State), s.inLull = false → s.safety side.val = true → s.causePersists = false → Answers (.safReset side
      0x71D4#16) s fun t => t.saf.record = none ∧ t.saf.resetCount = (s.saf.resetCount + 1) % 256 ∧ t.saf.partnerCause = (if s.rdb
      F.SAF_STATUS_PARTNER_ABSENT then 0 else s.saf.partnerCause) ∧ t.rdb F.SAF_STATUS_LOCKOUT = (t.saf.partnerCause != 0)) ∧
  (∀ (side : Side) (s : State), s.inLull = false → s.safety side.val = false → Answers (.safReset side 0x71D4#16) s fun t =>
      t.hbi.refused = some eCredential ∧ t.saf = s.saf) ∧
  (∀ (side : Side) (s : State), s.inLull = false → (side = 0 ∨ (SMap.get (fun _ => ({} : ShoreSt)) s.trg.shore side.val).operate = true)
      → Answers (.safClearDemand side 0x71D4#16) s fun t => t.saf.ownLatch = s.saf.ownLatch &&& s.requested ∧ t.saf.record =
      s.saf.record) ∧
  (∀ (side : Side) (s : State), s.inLull = false → side ≠ 0 → (SMap.get (fun _ => ({} : ShoreSt)) s.trg.shore side.val).operate = false
      → Answers (.safClearDemand side 0x71D4#16) s fun t => t.hbi.refused = some eCredential ∧ t.saf = s.saf) ∧
  (∀ (side : Side) (s : State), s.inLull = false → s.rdb F.SAF_STATUS_PW_SET = false → s.maint side.val = true → Answers (.safSetPw side
      0x71D4#16) s fun t => t.rdb F.SAF_STATUS_PW_SET = true ∧ t.saf.pw = s.saf.pw.update
      { use := 7, bytes := (List.range 12).flatMap fun i => wordBytes (s.rd (F.SAF_PW_BUF i)) } true true (s.saf.pw.cw.counter + 1) ∧ (∀
      i : Fin 12, t.rd (F.SAF_PW_BUF i.val) = 0) ∧ ∀ k : Fin 5, t.safety k.val = false) ∧
  (∀ (side : Side) (s : State), s.inLull = false → s.rdb F.SAF_STATUS_PW_SET = true → s.safety side.val = false → Answers (.safSetPw
      side 0x71D4#16) s fun t => t.hbi.refused = some eCredential ∧ t.saf = s.saf) ∧
  (∀ (s : State), s.inLull = false → s.saf.record = none → Answers (.paramCrcCheck true) s fun t => t.saf.record = some (6, 0) ∧ t.rdb
      F.SAF_STATUS_LOCKOUT = true ∧ t.saf.sfo = [false, false]) ∧
  (∀ (s : State), Answers (.paramCrcCheck false) s fun t => s.paramCrc = s.rd F.SAF_PARAM_CRC → t = s)

/-- Connector, session and messages of a vehicle. A connector state is taken, plugging in leads to PLUGGED and counts, and leaving the ready
state with closed contactors is an emergency shutdown. A session setup that is not refused opens a session with a fresh identity, a
refused one is counted; an authorisation is granted, pending or refused; a cable check, a pre-charge and a power delivery start take the
vehicle's voltages and lead to their states; a charge loop stores the vehicle's values and shows the offer; a stop begins the stop
sequence, an emergency stop the emergency shutdown. Setup, authorisation, cable check, power delivery and stop are answered with the
code that the clause states. Rests on R294, R295, R296, R297, R298, R299, R300, R301, R305, R307, R309. -/
def Obligations.VehicleSession : Prop :=
  (∀ (cs : Fin 4) (s : State), s.kind = .outlet → Answers (.connectorStateChange cs) s fun t => t.rd F.VLK_STATUS_CS = cs.val) ∧
  (∀ (cs : Fin 4) (s : State), s.kind = .outlet → s.active = true → s.rd F.VLK_STATUS_CS = csUnplugged → cs.val ≠ csUnplugged → s.vst =
      vIdle → s.contactorsClosed = false → Answers (.connectorStateChange cs) s fun t => t.vst = vPlugged ∧ t.barGet 7 = min (s.barGet 7
      + 1) (2 ^ 32 - 1)) ∧
  (∀ (cs : Fin 4) (s : State), s.kind = .outlet → s.active = true → s.rd F.VLK_STATUS_CS = csReady → cs.val ≠ csReady →
      s.contactorsClosed = true → s.vlk.esd = false → s.vst ≠ vIdle → s.vst ≠ vFinished → Answers (.connectorStateChange cs) s fun t =>
      t.vlk.esd = true ∧ t.vst = vFault ∧ bit t.saf.raised 0 = true) ∧
  (∀ (protocol control : Fin 4) (bpt : Bool) (s : State), s.vlinkUp = true → s.vst = vPlugged → s.protocolOn protocol.val = true →
      s.serviceOn protocol.val control.val bpt = true → s.startRefused = false → s.vlk.session = false → Answers (.v2gSessionSetup
      protocol control bpt) s fun t => t.vlk.session = true ∧ t.rd64 F.VLK_SESSION_ID_LO = Config.free 23 s.drawn % 2 ^ 64 ∧ t.drawn =
      s.drawn + 1 ∧ t.rd F.VLK_STATUS_PROTOCOL = protocol.val ∧ t.rd F.VLK_STATUS_CONTROL = control.val ∧ t.rd F.VLK_SESSIONS = min
      (s.rd F.VLK_SESSIONS + 1) (2 ^ 32 - 1) ∧ t.vlk.answer.map (fun a => (a.kind, a.body.take 1)) = some (1, [aDone])) ∧
  (∀ (protocol control : Fin 4) (bpt : Bool) (s : State), s.vlinkUp = true → s.vst = vPlugged → s.protocolOn protocol.val = true →
      s.serviceOn protocol.val control.val bpt = true → s.startRefused = true → Answers (.v2gSessionSetup protocol control bpt) s fun t
      => t.vlk.answer.map (fun a => (a.kind, a.body.take 1)) = some (1, [aRefused]) ∧ t.vlk.session = s.vlk.session ∧ t.rd F.VLK_REFUSED
      = min (s.rd F.VLK_REFUSED + 1) (2 ^ 32 - 1)) ∧
  (∀ (emaid : List Nat) (chainOk : Bool) (root : List Nat) (s : State), s.vlinkUp = true → s.vst = vPlugged → s.vlk.session = true →
      s.rd F.VLK_STATUS_AUTH = 0 → s.rdb F.VLK_CFG_AUTO_AUTH = true → Answers (.v2gAuthorization emaid false chainOk root) s fun t =>
      t.rd F.VLK_STATUS_AUTH = 2 ∧ t.vlk.answer.map (fun a => (a.kind, a.body.take 1)) = some (2, [aDone]) ∧ t.rd (F.VLK_EMAID 0) =
      wordAt (padTo 20 emaid) 0 % 2 ^ 32) ∧
  (∀ (emaid : List Nat) (chainOk : Bool) (root : List Nat) (s : State), s.vlinkUp = true → s.vst = vPlugged → s.vlk.session = true →
      s.rd F.VLK_STATUS_AUTH = 0 → s.rdb F.VLK_CFG_AUTO_AUTH = false → Answers (.v2gAuthorization emaid false chainOk root) s fun t =>
      t.rd F.VLK_STATUS_AUTH = 1 ∧ t.vlk.answer.map (fun a => (a.kind, a.body.take 1)) = some (2, [aOngoing])) ∧
  (∀ (emaid root : List Nat) (s : State), s.vlinkUp = true → s.vst = vPlugged → s.vlk.session = true → s.rd F.VLK_STATUS_AUTH = 0 →
      Answers (.v2gAuthorization emaid true false root) s fun t => t.rd F.VLK_STATUS_AUTH = 3 ∧ t.vlk.answer.map (fun a => (a.kind,
      a.body.take 1)) = some (2, [aRefused])) ∧
  (∀ (evVmax : BitVec 16) (s : State), s.vlinkUp = true → s.vst = vPlugged → s.vlk.session = true → s.rd F.VLK_STATUS_AUTH = 2 →
      (s.vlk.marked = true ∨ (s.refusals.any id = false ∧ (s.q 1).length + 8 ≤ s.depth 1)) → Answers (.v2gCableCheck evVmax) s fun t =>
      t.vst = vCableCheck ∧ t.vlk.ccStep = 0 ∧ t.vlk.marked = true ∧ t.vlk.vReq = min evVmax.toNat s.role.vRated ∧ t.rd
      F.VLK_EV_MAX_A_V_MAX = evVmax.toNat ∧ t.vlk.answer.map (fun a => (a.kind, a.body.take 1)) = some (3, [aOngoing])) ∧
  (∀ (vTgt : BitVec 16) (s : State), s.vlinkUp = true → s.vst = vCableCheck → s.vlk.ccStep = 4 → Answers (.v2gPreCharge vTgt) s fun t =>
      t.vst = vPreCharge ∧ t.rd F.VLK_EV_TARGET_V_TGT = vTgt.toNat ∧ t.vlk.vReq = vTgt.toNat) ∧
  (∀ (s : State), s.vlinkUp = true → s.vst = vPreCharge → Answers (.v2gPowerDeliveryStart) s fun t => t.vst = vCharge ∧ t.vlk.vReq =
      s.rd F.VLK_EV_MAX_A_V_MAX ∧ t.vlk.answer.map (fun a => (a.kind, a.body.take 1)) = some (5, [aDone])) ∧
  (∀ (iTgt : Int) (iMax iDis vMax vTgt pMax : BitVec 16) (discharge : Bool) (depart energy : BitVec 16) (s : State), s.vlinkUp = true →
      s.vlk.session = true → s.vst ≠ vIdle → Answers (.v2gChargeLoop iTgt iMax iDis vMax vTgt pMax discharge depart energy) s fun t =>
      t.rd F.VLK_EV_MAX_A_V_MAX = vMax.toNat ∧ t.rd F.VLK_OFFER_I_OFFER = min s.offer.1 (2 ^ 16 - 1) ∧ (s.rd F.VLK_STATUS_CONTROL ≠ 2 →
      discharge = false → 0 ≤ iTgt → t.vlk.iReq = iTgt) ∧ t.vst = s.vst) ∧
  (∀ (vehOpen : Bool) (s : State), s.vlinkUp = true → vPlugged ≤ s.vst → s.vst ≤ vCharge → Answers (.v2gStopRequest vehOpen) s fun t =>
      t.vst = vStopping ∧ t.vlk.vehOpen = vehOpen ∧ t.vlk.stopAt = s.now ∧ t.vlk.answer.map (fun a => (a.kind, a.body.take 1)) = some
      (7, [aDone])) ∧
  (∀ (s : State), s.vlinkUp = true → s.vst ≠ vIdle → s.vst ≠ vFinished → s.vlk.esd = false → Answers (.v2gEmergencyStop) s fun t =>
      t.vlk.esd = true ∧ t.vst = vFault ∧ bit t.saf.raised 0 = true)

/-- Commands of VLK_CTRL. A pending authorisation is granted, denied, or refused at its time-out; STOP begins the stop sequence of a
session, ESD the emergency shutdown of an active outlet with a session; RESET_LOCKOUT with the maintenance credential clears LOCKOUT,
without it it is refused. Rests on R297, R298, R308, R309. -/
def Obligations.VehicleCommands : Prop :=
  (∀ (side : Side) (s : State), s.inLull = false → s.rd F.VLK_STATUS_AUTH = 1 → Answers (.vlkAuthGrant side 0x5E21#16) s fun t => t.rd
      F.VLK_STATUS_AUTH = 2 ∧ t.vst = s.vst) ∧
  (∀ (side : Side) (s : State), s.inLull = false → s.rd F.VLK_STATUS_AUTH = 1 → Answers (.vlkAuthDeny side 0x5E21#16) s fun t => t.rd
      F.VLK_STATUS_AUTH = 3 ∧ t.vst = s.vst) ∧
  (∀ (s : State), s.rd F.VLK_STATUS_AUTH = 1 → Answers (.authWaitTimeout) s fun t => t.rd F.VLK_STATUS_AUTH = 3 ∧ t.vlk.answer.map (fun
      a => (a.kind, a.body.take 1)) = some (2, [aRefused])) ∧
  (∀ (side : Side) (s : State), s.inLull = false → vPlugged ≤ s.vst → s.vst ≤ vCharge → Answers (.vlkStop side 0x5E21#16) s fun t =>
      t.vst = vStopping ∧ t.vlk.stopByPre = false ∧ t.vlk.soPos = s.vlk.soPos) ∧
  (∀ (side : Side) (s : State), s.inLull = false → s.maint side.val = true → Answers (.vlkResetLockout side 0x5E21#16) s fun t => t.rdb
      F.VLK_STATUS_LOCKOUT = false) ∧
  (∀ (side : Side) (s : State), s.inLull = false → s.maint side.val = false → Answers (.vlkResetLockout side 0x5E21#16) s fun t =>
      t.hbi.refused = some eCredential ∧ t.rd F.VLK_STATUS_LOCKOUT = s.rd F.VLK_STATUS_LOCKOUT) ∧
  (∀ (side : Side) (s : State), s.inLull = false → s.kind = .outlet → s.active = true → s.vlk.esd = false → s.vst ≠ vIdle → s.vst ≠
      vFinished → Answers (.vlkEsd side 0x5E21#16) s fun t => t.vlk.esd = true ∧ t.vst = vFault)

/-- Cable check, insulation, pre-charge and plan of an outlet. The contactors close when every condition of R301 holds; the closed auxiliary
contacts and the settled voltage lead through the cable check to the insulation measurement, and its timeouts end it in FAULT. The first
half-period of a measurement is kept and the injector of an active unit takes the other phase, the second gives a valid result its
resistance; a pre-charge timeout stops; a lapsed plan stops charging and ends a check in FAULT; the tick is the boundary of VLK. Rests
on R62, R134, R301, R302, R303, R304, R305, R311. -/
def Obligations.OutletContactors : Prop :=
  (∀ (s : State), s.kind = .outlet → s.active = true → s.vst = vCableCheck → s.vlk.ccStep = 0 → s.planValid = true → s.vlk.auxPos =
      false → s.vlk.auxNeg = false → s.busV.natAbs ≤ 60 * 4096 → (s.mean 2).natAbs ≤ 60 * 4096 → s.zeroI = true → Answers
      (.outletContactorClose true) s fun t => t.vlk.soPos = true ∧ t.vlk.soNeg = true ∧ t.vlk.ccStep = 1) ∧
  (∀ (s : State), s.vst = vCableCheck → s.vlk.ccStep = 1 → Answers (.outletAuxClosed) s fun t => t.vlk.auxPos = true ∧ t.vlk.auxNeg =
      true ∧ t.vlk.ccStep = 2 ∧ t.vlk.vRef = (rneInt (s.busV * 10000) 4096).toNat) ∧
  (∀ (s : State), s.vst = vCableCheck → s.vlk.ccStep = 1 → Answers (.outletAuxCloseTimeout) s fun t => t.vst = vFault ∧ t.vlk.soPos =
      false ∧ t.vlk.soNeg = false) ∧
  (∀ (s : State), s.vst = vCableCheck → s.vlk.ccStep = 2 → Answers (.cableCheckSettled) s fun t => t.vlk.ccStep = 3 ∧ t.rdb
      F.VLK_IMD_STATUS_INJECTING = s.active) ∧
  (∀ (s : State), s.vst = vCableCheck → s.vlk.ccStep ≠ 4 → Answers (.cableCheckTimeout) s fun t => t.vst = vFault ∧ t.vlk.session =
      s.vlk.session) ∧
  (∀ (avg : Int) (move : Nat) (vPos vNeg : Int) (s : State), s.kind = .outlet → (s.contactorsClosed = true ∨ s.active = false) →
      s.vlk.half = none → Answers (.imdHalfPeriod avg move vPos vNeg) s fun t => t.vlk.half = some (avg, move) ∧ t.rd F.VLK_IMD_R_TOTAL
      = s.rd F.VLK_IMD_R_TOTAL ∧ (s.active = true → t.bil.sent = some { kind := 9, body := [1, if s.met.phase then 0 else 1] })) ∧
  (∀ (avg : Int) (move : Nat) (vPos vNeg : Int) (a : Int) (m : Nat) (s : State), s.kind = .outlet → (s.contactorsClosed = true ∨
      s.active = false) → s.vlk.half = some (a, m) → 100 * max m move < (a - avg).natAbs → Answers (.imdHalfPeriod avg move vPos vNeg) s
      fun t => t.vlk.half = none ∧ t.rdb F.VLK_IMD_STATUS_VALID = true ∧ t.rd F.VLK_IMD_R_TOTAL = rTotalOf (a - avg).natAbs ∧
      t.vlk.validAt = some s.ledger ∧ t.imdAge = 0) ∧
  (∀ (s : State), s.vst = vPreCharge → Answers (.preChargeTimeout) s fun t => t.vst = vStopping ∧ t.vlk.stopByPre = true) ∧
  (∀ (s : State), s.kind = .outlet → s.active = true → s.planValid = false → s.vst = vCharge → Answers (.validPlanLapse) s fun t =>
      t.vst = vStopping ∧ t.vlk.stopAt = s.now) ∧
  (∀ (s : State), s.kind = .outlet → s.active = true → s.planValid = false → s.vst = vCableCheck → Answers (.validPlanLapse) s fun t =>
      t.vst = vFault) ∧
  (∀ (s : State), s.inLull = false → Answers (.vehicleLinkTick) s fun t => t.hbi.tackParts.contains (11, 0) = false ∧ t.vlk = s.vlk)

/-- Stopping, discharge, weld check and emergency shutdown of an outlet. At zero current with the vehicle open or STOP_WAIT passed, or in
FAULT, both contactors open, and the discharge starts when their contacts read open; its end at 60 V makes the weld check due, and its
time-out above 60 V shows VEHICLE_LIVE in FAULT. The check ends the stop of a clear outlet, locks a welded one out, or is inconclusive
without bus voltage; a late contact is a weld with AUX_FAIL, and at the deadline an emergency shutdown opens the contactors. Rests on
R297, R307, R308, R309, R311. -/
def Obligations.OutletStop : Prop :=
  (∀ (s : State), s.zeroI = true → ((s.vst = vStopping ∧ (s.vlk.vehOpen = true ∨ s.vlk.stopWait = true)) ∨ s.vst = vFault) → Answers
      (.stopContactorOpen) s fun t => t.vlk.soPos = false ∧ t.vlk.soNeg = false ∧ t.vlk.half = none ∧ (s.vlk.auxPos = false →
      s.vlk.auxNeg = false → t.vlk.soDsc = true)) ∧
  (∀ (s : State), s.vst = vStopping → Answers (.stopWaitExpiry) s fun t => t = { s with vlk.stopWait := true }) ∧
  (∀ (s : State), s.contactorsClosed = false → s.vst = vStopping → Answers (.outletAuxOpen) s fun t => t.vlk.auxPos = false ∧
      t.vlk.auxNeg = false ∧ t.vlk.soDsc = true) ∧
  (∀ (s : State), s.vlk.soDsc = true → s.vehicleDead = true → Answers (.dischargeComplete) s fun t => t =
      { s with vlk.soDsc := false, vlk.weldDue := true }) ∧
  (∀ (s : State), s.vlk.soDsc = true → s.vehicleDead = false → Answers (.dischargeTimeout) s fun t => t.rdb F.VLK_WELD_VEHICLE_LIVE =
      true ∧ t.vst = vFault ∧ t.vlk = s.vlk) ∧
  (∀ (s : State), s.vlk.weldDue = true → s.contactorsClosed = false → 100 * 4096 ≤ s.busV → s.poleWelded 4 6 = false → s.poleWelded 5 7
      = false → s.vst = vStopping → s.vlk.stopByPre = false → s.rd F.VLK_STATUS_CS ≠ csUnplugged → Answers (.weldCheck) s fun t => t.rd
      F.VLK_WELD_RESULT = 1 ∧ t.vst = vFinished ∧ t.vlk.weldDue = false) ∧
  (∀ (s : State), s.vlk.weldDue = true → s.contactorsClosed = false → 100 * 4096 ≤ s.busV → (s.poleWelded 4 6 = true ∨ s.poleWelded 5 7
      = true) → Answers (.weldCheck) s fun t => t.rd F.VLK_WELD_RESULT = 2 ∧ t.rdb F.VLK_WELD_POS_WELD = s.poleWelded 4 6 ∧ t.rdb
      F.VLK_STATUS_LOCKOUT = true) ∧
  (∀ (s : State), s.vlk.weldDue = true → s.contactorsClosed = false → s.busV < 100 * 4096 → Answers (.weldCheck) s fun t => t.rd
      F.VLK_WELD_RESULT = 3 ∧ t.rd F.VLK_STATUS_LOCKOUT = s.rd F.VLK_STATUS_LOCKOUT) ∧
  (∀ (s : State), s.vlk.esd = true → s.contactorsClosed = true → Answers (.esdOpenDeadline) s fun t => t.vlk.soPos = false ∧ t.vlk.soNeg
      = false ∧ t.vst = s.vst) ∧
  (∀ (s : State), s.contactorsClosed = false → s.vlk.auxPos = true → Answers (.outletAuxOpenTimeout) s fun t => t.rd F.VLK_WELD_RESULT =
      2 ∧ t.rdb F.VLK_WELD_AUX_FAIL = true ∧ t.rdb F.VLK_STATUS_LOCKOUT = true ∧ t.vst = vFault ∧ bit t.saf.raised 5 = true)

/-- The metrology of the Selvedge partition. A ledger tick advances the ledger, publishes the means and the power of the tick and books its
energy above the creep threshold; saves follow every 8,000th tick; the check pairs and the cross-check judge after their counts; a
resume and a reset of the partition leave a gap; the mirrors show the totals; partner values go over the pair link and a session that
waited 800 ticks is recorded. Rests on R317, R318, R319, R320, R322, R329, R330, R331, R333, R336, R338, R543. -/
def Obligations.Metering : Prop :=
  (∀ (codes : List Int) (rtc : Nat) (s : State), s.met.booking = true → Answers (.ledgerTick codes rtc) s fun t => t.met.tot.ledger =
      s.met.tot.ledger + 1 ∧ t.met.pub.seq = (s.met.tot.ledger + 1) % 2 ^ 32 ∧ t.met.pub.means = ((List.range 8).map fun c => rneInt
      ((channelTick s.selBytes codes s.met.last c).1.foldl (· + ·) 0) 4) ∧ t.met.pub.power = rneInt (powerSum (channelTick s.selBytes
      codes s.met.last 0).1 (channelTick s.selBytes codes s.met.last 2).1) (2 ^ 26)) ∧
  (∀ (codes : List Int) (rtc : Nat) (de : Int) (s : State), s.met.booking = true → s.bil.isSite = false → s.selBytes ≠ [] → de = rneInt
      (powerSum (channelTick s.selBytes codes s.met.last 0).1 (channelTick s.selBytes codes s.met.last 2).1) (2 ^ 13) → creepOf
      s.selBytes ≤ de.natAbs → Answers (.ledgerTick codes rtc) s fun t => t.met.tot.impAll = s.met.tot.impAll + (if 0 ≤ de then
      de.natAbs else 0) ∧ t.met.tot.expAll = s.met.tot.expAll + (if 0 ≤ de then 0 else de.natAbs)) ∧
  (∀ (codes : List Int) (rtc : Nat) (s : State), s.met.booking = false → Answers (.ledgerTick codes rtc) s fun t => t.met = s.met ∧
      t.bil = s.bil) ∧
  (∀ (s : State), s.met.booking = true → s.met.tot.ledger % 8000 = 0 → s.met.tot.ledger ≠ 0 → Answers (.periodicSave) s fun t =>
      t.met.saveSeq = s.met.saveSeq + 1 ∧ SMap.get (fun _ => none) t.met.saves ((s.met.saveSeq + 1) % 2) = some
      { seq := s.met.saveSeq + 1, earlyWarning := false, tot := s.met.tot, rtc := s.rtc, records := [] }) ∧
  (∀ (s : State), 8000 ≤ s.met.disagree.getD 0 0 → Answers (.checkPairCount) s fun t => t.met.chkState.getD 0 false = true ∧
      (s.met.tot.sess.isOpen = true → t.met.tot.sess.checkFail = true)) ∧
  (∀ (iOuts : List Int) (s : State), s.rdb F.MET_XCHK_CFG_ENABLE = true → s.kind = .outlet → s.crossDisagrees iOuts = true → 9 ≤
      s.met.xBad → s.rdb F.MET_STATUS_XCHK = false → Answers (.meterCrossCheck iOuts false) s fun t => t.rdb F.MET_STATUS_XCHK = true ∧
      t.rdb F.MET_EVENT_XCHK = true ∧ t.bil.sent = some { kind := 7, body := [1] }) ∧
  (∀ (iOuts : List Int) (s : State), s.rdb F.MET_XCHK_CFG_ENABLE = true → s.kind = .outlet → s.crossDisagrees iOuts = false → Answers
      (.meterCrossCheck iOuts false) s fun t => t.met.xBad = 0 ∧ t.met.xGood = min 10 (s.met.xGood + 1)) ∧
  (∀ (ticks : Nat) (s : State), s.met.running = true → s.met.booking = false → s.rdb F.TH_STATUS_SHUTDOWN = false → Answers
      (.meterResume ticks) s fun t => t.met.booking = true ∧ t.met.tot.ledger = s.met.tot.ledger + ticks ∧ t.met.gapTicks = ticks ∧
      t.met.tot.int.gap = true) ∧
  (∀ (rtc : Nat) (s : State), Answers (.selvedgeReset rtc) s fun t => t.met.running = true ∧ t.met.booking = true ∧ t.bil.lastSeq = 0 ∧
      t.bar.selResets.head? = some t.met.tot.ledger ∧ t.barGet 0x25 = min (s.barGet 0x25 + 1) (2 ^ 32 - 1)) ∧
  (∀ (s : State), s.kind = .outlet → s.hasPartner = true → Answers (.partnerValuesSend) s fun t => t = s.sendItem 4 (s.sessionItem
      (!s.met.tot.sess.isOpen))) ∧
  (∀ (s : State), s.met.tot.sess.closeLedger + 800 ≤ s.met.tot.ledger → s.met.tot.sess.awaiting = true → Answers (.standsTimeout) s fun
      t => t = s.sessionRecord 0 ∧ t.met.tot.sess.awaiting = false) ∧
  (∀ (s : State), Answers (.mirrorRefresh) s fun t => t.rd64 F.MET_E_IMP_ALL_LO = s.met.tot.impAll / 65536 % 2 ^ 64 ∧ t.rd64
      F.BIL_LEDGER_LO = s.met.tot.ledger % 2 ^ 64 ∧ t.rd F.BIL_STATUS_CLOCK = s.met.tot.clock % 4 ∧ t.rdb F.MET_STATUS_METERING =
      s.met.booking ∧ t.met = s.met ∧ t.bil = s.bil)

/-- Pulse inputs and outputs. A level held for DEBOUNCE is accepted, its active edge counts with its time, a shorter one is a glitch; a
level quantity drives its output, an energy quantity or the demand interval end counts whole weights from the value at its first update,
and a pulse ends in a gap and the gap in rest. Rests on R325, R326, R327. -/
def Obligations.PulseInputsAndOutputs : Prop :=
  (∀ (i : Fin 8) (level : Bool) (time held : Nat) (s : State), s.inLull = false → s.rd (F.MET_PI_CFG_DEBOUNCE i.val) ≤ held → level ≠
      s.rdb (F.MET_PI_STATUS_LEVEL i.val) → level ≠ s.rdb (F.MET_PI_CFG_EDGE i.val) → Answers (.pulseInputEdge i level time held) s fun
      t => t.rdb (F.MET_PI_STATUS_LEVEL i.val) = level ∧ t.rd64 (F.MET_PI_COUNT_LO i.val) = (s.rd64 (F.MET_PI_COUNT_LO i.val) + 1) % 2 ^
      64 ∧ t.rd64 (F.MET_PI_EDGE_TIME_LO i.val) = time % 2 ^ 64) ∧
  (∀ (i : Fin 8) (level : Bool) (time held : Nat) (s : State), s.inLull = false → held < s.rd (F.MET_PI_CFG_DEBOUNCE i.val) → Answers
      (.pulseInputEdge i level time held) s fun t => t.rd (F.MET_PI_GLITCH i.val) = min (s.rd (F.MET_PI_GLITCH i.val) + 1) (2 ^ 32 - 1)
      ∧ t.rdb (F.MET_PI_STATUS_LEVEL i.val) = s.rdb (F.MET_PI_STATUS_LEVEL i.val)) ∧
  (∀ (k : Fin 4) (b : Bool) (s : State), s.poLevel k.val = some b → Answers (.pulseOutputUpdate k) s fun t => t.rdb (F.MET_PO_STATUS_OUT
      k.val) = (b && s.poDrives k.val) ∧ t.met = s.met) ∧
  (∀ (k : Fin 4) (c : Rat) (s : State), (s.rd (F.MET_PO_CFG_QUANTITY k.val) ∈ [1, 2, 3, 4, 5, 6, 8]) → (SMap.get (fun _ => ({} : PoSt))
      s.met.po k.val).counted = some (s.rd (F.MET_PO_CFG_QUANTITY k.val), c) → c ≤ s.poQuantity k.val → Answers (.pulseOutputUpdate k) s
      fun t => (SMap.get (fun _ => ({} : PoSt)) t.met.po k.val).counted = some (s.rd (F.MET_PO_CFG_QUANTITY k.val), c + (((s.poQuantity
      k.val : Rat) - c) / s.poWeight k.val).floor.toNat * s.poWeight k.val)) ∧
  (∀ (k : Fin 4) (s : State), (s.rd (F.MET_PO_CFG_QUANTITY k.val) ∈ [1, 2, 3, 4, 5, 6, 8]) → (SMap.get (fun _ => ({} : PoSt)) s.met.po
      k.val).counted = none → Answers (.pulseOutputUpdate k) s fun t => (SMap.get (fun _ => ({} : PoSt)) t.met.po k.val).counted = some
      (s.rd (F.MET_PO_CFG_QUANTITY k.val), (s.poQuantity k.val : Rat))) ∧
  (∀ (k : Fin 4) (s : State), (SMap.get (fun _ => ({} : PoSt)) s.met.po k.val).active = true → Answers (.pulseOutputWidthEnd k) s fun t
      => (SMap.get (fun _ => ({} : PoSt)) t.met.po k.val).active = false ∧ (SMap.get (fun _ => ({} : PoSt)) t.met.po k.val).gap = true ∧
      t.rdb (F.MET_PO_STATUS_OUT k.val) = false) ∧
  (∀ (k : Fin 4) (s : State), (SMap.get (fun _ => ({} : PoSt)) s.met.po k.val).active = false → (SMap.get (fun _ => ({} : PoSt))
      s.met.po k.val).gap = true → Answers (.pulseOutputWidthEnd k) s fun t => (SMap.get (fun _ => ({} : PoSt)) t.met.po k.val).gap =
      false)

/-- Messages of the mailbox of the partition. A message with a good CRC and the next sequence number is accepted and another is only
counted; each kind has its effect: an offered chunk is compared with the sealed copy and never written over it; sealing takes the
selected sections; a calendar is adopted, stepped or a mismatch; a mark waits; the partner's values are kept; a pulse is booked and a
demand edge closes the interval at the end of its tick; the XCHK flag, an acknowledgement and the injector are set; a chunk of the site
calendar is stored. Rests on R45, R46, R302, R322, R328, R330, R341, R344, R349, R351, R352, R364. -/
def Obligations.MailboxMessages : Prop :=
  (∀ (seq : Nat) (inst : Nat) (bytes held : List Nat) (s : State), s.met.running = true → seq = (s.bil.lastSeq + 1) % 65536 →
      s.pat.sealed.find? (·.1 == inst) = some (inst, held) → Answers (.mbxOffer seq true inst 0 bytes) s fun t => t.bil.lastSeq = seq ∧
      (t.bil.offerDiffers.contains inst = !(held.take bytes.length == bytes)) ∧ t.pat.sealed = s.pat.sealed) ∧
  (∀ (seq : Nat) (inst offset : Nat) (bytes held : List Nat) (s : State), s.met.running = true → seq = (s.bil.lastSeq + 1) % 65536 →
      s.pat.sealed.find? (·.1 == inst) = some (inst, held) → (held.drop offset).take bytes.length ≠ bytes → Answers (.mbxOffer seq true
      inst offset bytes) s fun t => t.bil.lastSeq = seq ∧ t.bil.offerDiffers.contains inst = true ∧ t.pat.sealed = s.pat.sealed) ∧
  (∀ (seq inst offset : Nat) (bytes : List Nat) (s : State), s.met.running = true → Answers (.mbxOffer seq false inst offset bytes) s
      fun t => t.bil = s.bil ∧ t.rd F.BIL_MBX_REFUSED = min (s.rd F.BIL_MBX_REFUSED + 1) (2 ^ 32 - 1)) ∧
  (∀ (seq : Nat) (s : State), s.met.running = true → seq = (s.bil.lastSeq + 1) % 65536 → Answers (.mbxSeal seq true ) s fun t =>
      t.bil.lastSeq = seq ∧ (∀ d ∈ s.pat.content.selvedge, s.selected.contains d.instance_ = true → t.pat.sealed.any (·.1 ==
      d.instance_) = true) ∧ t.rdb F.PAT_STATUS_UNSEALED_ROLE = false ∧ ∀ e ∈ s.pat.sealed, e ∈ t.pat.sealed) ∧
  (∀ (seq : Nat) (tick calMs : Nat) (proven : Bool) (step : Nat) (s : State), s.met.running = true → seq = (s.bil.lastSeq + 1) % 65536 →
      s.met.tot.clock ≠ 2 → step % 256 = s.met.tot.stepCount → ((8 * calMs : Nat) - ((s.met.tot.cal : Int) + tick -
      s.met.tot.ledger)).natAbs ≤ 800 → Answers (.mbxCal seq true tick calMs proven step) s fun t => t.bil.lastSeq = seq ∧ t.met.tot.cal
      = (((8 * calMs : Nat) : Int) + s.met.tot.ledger - tick).toNat ∧ t.met.tot.clock = (if proven then 0 else 1) ∧ t.bil.adoptTick =
      s.met.tot.ledger ∧ t.bil.mismatch = false) ∧
  (∀ (seq : Nat) (tick calMs : Nat) (proven : Bool) (step : Nat) (s : State), s.met.running = true → seq = (s.bil.lastSeq + 1) % 65536 →
      s.met.tot.clock ≠ 2 → step % 256 = s.met.tot.stepCount → ((8 * calMs : Nat) - ((s.met.tot.cal : Int) + tick -
      s.met.tot.ledger)).natAbs > 800 → Answers (.mbxCal seq true tick calMs proven step) s fun t => t.bil.lastSeq = seq ∧
      t.met.tot.clock = 1 ∧ t.bil.mismatch = true ∧ t.met.tot.cal = s.met.tot.cal ∧ t.rdb F.BIL_EVENT_MISMATCH = true) ∧
  (∀ (seq : Nat) (tick calMs : Nat) (proven : Bool) (step : Nat) (s : State), s.met.running = true → seq = (s.bil.lastSeq + 1) % 65536 →
      s.met.tot.clock = 2 → Answers (.mbxCal seq true tick calMs proven step) s fun t => t.bil.lastSeq = seq ∧ t.met.tot.cal = (((8 *
      calMs : Nat) : Int) + s.met.tot.ledger - tick).toNat ∧ t.met.tot.stepCount = step % 256 ∧ t.met.tot.clock = (if proven then 0 else
      1) ∧ t.rdb F.BIL_EVENT_TIME_STEP = true) ∧
  (∀ (seq : Nat) (close : Bool) (sid time source : Nat) (s : State), s.met.running = true → seq = (s.bil.lastSeq + 1) % 65536 → Answers
      (.mbxMark seq true close sid time source) s fun t => t.bil.lastSeq = seq ∧ t.met.marks = s.met.marks ++
      [{ close := close, id := sid, source := source, late := decide (time + 1000000 < s.now), tick := s.met.tot.ledger }]) ∧
  (∀ (seq : Nat) (imp exp : Nat) (complete : Bool) (unbooked : Nat) (closed : Bool) (s : State), s.met.running = true → seq =
      (s.bil.lastSeq + 1) % 65536 → Answers (.mbxPartner seq true imp exp complete unbooked closed) s fun t => t.bil.lastSeq = seq ∧
      t.met.pImp = imp ∧ t.met.pExp = exp ∧ t.met.pComplete = complete ∧ t.met.pUnbooked = unbooked ∧ t.met.pSeen = true ∧ t.met.pClosed
      = (s.met.pClosed || closed)) ∧
  (∀ (seq : Nat) (weight : Nat) (s : State), s.met.running = true → seq = (s.bil.lastSeq + 1) % 65536 → s.bil.isSite = true → Answers
      (.mbxPulse seq true false weight) s fun t => t.bil.lastSeq = seq ∧ t.met.tot.int.imp = s.met.tot.int.imp + weight * 3600 * 65536 ∧
      getKey s.met.tot.tariff t.met.tot.impT = getKey s.met.tot.tariff s.met.tot.impT + weight * 3600 * 65536) ∧
  (∀ (seq : Nat) (weight : Nat) (s : State), s.met.running = true → seq = (s.bil.lastSeq + 1) % 65536 → s.bil.isSite = true → s.syncMode
      = true → s.bil.ignoreUntil ≤ s.met.tot.ledger → s.bil.closeAt = none → Answers (.mbxPulse seq true true weight) s fun t =>
      t.bil.lastSeq = seq ∧ t.bil.closeAt = some (s.met.tot.ledger + 1, false) ∧ t.met = s.met) ∧
  (∀ (seq : Nat) (xchk : Bool) (s : State), s.met.running = true → seq = (s.bil.lastSeq + 1) % 65536 → Answers (.mbxFlag seq true xchk)
      s fun t => t.bil.lastSeq = seq ∧ t.met.xchk = xchk ∧ t.met.tot.sess.xchk = (s.met.tot.sess.xchk || (xchk &&
      s.met.tot.sess.isOpen))) ∧
  (∀ (seq : Nat) (holder record : Nat) (s : State), s.met.running = true → seq = (s.bil.lastSeq + 1) % 65536 → Answers (.mbxAck seq true
      holder record) s fun t => t.bil.lastSeq = seq ∧ (∀ r ∈ t.bil.journal, r.seq = record → r.holders.contains holder = true) ∧
      t.bil.journal.map (·.bytes) = s.bil.journal.map (·.bytes)) ∧
  (∀ (seq : Nat) (start phase : Bool) (s : State), s.met.running = true → seq = (s.bil.lastSeq + 1) % 65536 → Answers (.mbxImd seq true
      start phase) s fun t => t.bil.lastSeq = seq ∧ t.met.injecting = start ∧ t.met.phase = phase) ∧
  (∀ (seq : Nat) (offset : Nat) (bytes : List Nat) (s : State), s.met.running = true → seq = (s.bil.lastSeq + 1) % 65536 → Answers
      (.mbxSiteParam seq true offset bytes) s fun t => t.bil.lastSeq = seq ∧ t.bil.site = putBytes s.bil.site offset bytes)

/-- The calendar, demand intervals, tariffs, records and tamper conditions. CAL is sent while the header's calendar is valid, and without it
the clock is unproven after 10 s; TIME_SET is taken at the site unit; an interval closes at its end and opens the next, a changed tariff
is a boundary, boundaries are committed after 800 ticks and records are signed; tamper conditions begin, end and are acknowledged with
the maintenance credential. Rests on R341, R342, R346, R349, R351, R354, R355, R363, R366, R367. -/
def Obligations.CalendarAndBoundaries : Prop :=
  (∀ (s : State), s.rdb F.TRG_CAL_STATUS_VALID = true → s.heldFor 1 = [] → (s.q 1).length < s.depth 1 → Answers (.calSend) s fun t =>
      t.q 1 = s.q 1 ++
      [{ kind := 3, body := leBytes 8 s.met.tot.ledger ++ leBytes 8 (s.calendar / 1000000).toNat ++ [if s.rdb F.TRG_CAL_STATUS_PROVEN then 1 else 0, s.rd F.TRG_CAL_STATUS_STEP_COUNT] }]) ∧
  (∀ (s : State), s.met.tot.clock = 0 → s.bil.adoptTick + 80000 ≤ s.met.tot.ledger → Answers (.calAdoptTimeout) s fun t => t =
      { s with met.tot.clock := 1 }) ∧
  (∀ (side : Side) (s : State), s.inLull = false → side ≠ 0 → s.maint side.val = true → s.kind = .site → s.active = true → s.rdb
      F.TRG_CAL_STATUS_PTP_LOCK = true → s.rdb F.BIL_STATUS_STEP_PENDING = true → s.bil.lastStep = none → Answers (.bilTimeSet side
      0x8B17#16) s fun t => t.bil.timeSet = some (SMap.get (fun _ => ({} : ShoreSt)) s.trg.shore side.val).client) ∧
  (∀ (side : Side) (s : State), s.inLull = false → s.maint side.val = true → s.bil.inForce.any id = false → Answers (.bilTamperAck side
      0x8B17#16) s fun t => t.bil = { s.bil with unacked := false }) ∧
  (∀ (side : Side) (s : State), s.inLull = false → s.maint side.val = true → s.bil.inForce.any id = true → Answers (.bilTamperAck side
      0x8B17#16) s fun t => t.hbi.refused = some eState ∧ t.bil = s.bil) ∧
  (∀ (s : State), s.met.booking = true → s.syncMode = false → s.bil.closeAt = none → s.intervalDue = true → Answers (.intervalEnd) s fun
      t => t.met.tot.int.no = s.met.tot.int.no + 1 ∧ t.met.tot.int.start = s.met.tot.ledger ∧ t.rdb F.BIL_EVENT_INTERVAL_CLOSE = true ∧
      (t.met.bnd.any fun b => b.tick == s.met.tot.ledger && b.close) = true) ∧
  (∀ (k : Nat) (setBack : Bool) (s : State), s.met.booking = true → s.bil.closeAt = some (k, setBack) → k ≤ s.met.tot.ledger → Answers
      (.intervalEnd) s fun t => t.bil.closeAt = none ∧ t.met.tot.int.no = s.met.tot.int.no + 1 ∧ t.met.tot.int.start = s.met.tot.ledger
      ∧ t.rdb F.BIL_EVENT_INTERVAL_CLOSE = true) ∧
  (∀ (s : State), s.met.booking = true → s.syncMode = true → s.bil.closeAt = none → s.intervalDue = true → Answers (.demandSyncTimeout)
      s fun t => t.met.tot.int.no = s.met.tot.int.no + 1 ∧ t.bil.ignoreUntil = s.met.tot.ledger + 80000 ∧ t.rdb
      F.BIL_EVENT_INTERVAL_CLOSE = true) ∧
  (∀ (s : State), s.met.booking = true → s.met.tot.tariffNow s.calBytes ≠ s.met.tot.tariff → Answers (.tariffSwitch) s fun t =>
      t.met.tot.tariff = s.met.tot.tariffNow s.calBytes ∧ t.rdb F.BIL_EVENT_TARIFF_SWITCH = true ∧ (t.met.bnd.any fun b => b.tick ==
      s.met.tot.ledger && b.switch) = true) ∧
  (∀ (b : Bnd) (bs : List Bnd) (s : State), s.met.bnd = b :: bs → b.tick + 800 ≤ s.met.tot.ledger → Answers (.boundaryCommit) s fun t =>
      t.met.bnd = bs ∧ t.met.tot.ledger = s.met.tot.ledger) ∧
  (∀ (r : JRec) (s : State), ((s.key.legal ≠ [] ∨ r.signature.isSome = true)) → s.bil.journal.reverse.find? (fun r => !r.sent) = some r
      → Answers (.recordSign) s fun t => t.bil.journal = s.bil.journal.map fun (o : JRec) => if o.seq == r.seq then
      { s.signRec r with sent := true } else o) ∧
  (∀ (terminal : Bool) (rtc k : Nat) (s : State), k = (if terminal then 1 else 0) → bit s.tamperDecl.1 k = true → s.bil.inForce.getD k
      false = false → Answers (.tamperCoverEdge terminal true rtc) s fun t => t.bil.inForce = s.bil.inForce.set k true ∧ t.bil.unacked =
      true ∧ t.rdb F.BIL_EVENT_TAMPER = true) ∧
  (∀ (x y z : Int) (rtc : Nat) (s : State), bit s.tamperDecl.1 2 = false → bit s.tamperDecl.1 3 = true → 10 * s.tamperDecl.2.2 * (10 *
      s.tamperDecl.2.2) < (x * x + y * y + z * z).toNat → s.bil.inForce.getD 3 false = false → s.bil.hallRun.getD 1 0 = 0 → Answers
      (.hallReading x y z rtc) s fun t => t.bil.hallRun = s.bil.hallRun.set 1 1 ∧ t.bil.inForce = s.bil.inForce) ∧
  (∀ (x y z : Int) (rtc : Nat) (s : State), bit s.tamperDecl.1 2 = false → bit s.tamperDecl.1 3 = true → 10 * s.tamperDecl.2.2 * (10 *
      s.tamperDecl.2.2) < (x * x + y * y + z * z).toNat → s.bil.inForce.getD 3 false = false → s.bil.hallRun.getD 1 0 ≠ 0 → Answers
      (.hallReading x y z rtc) s fun t => t.bil.inForce = s.bil.inForce.set 3 true ∧ t.bil.unacked = true)

/-- Update messages of the key store. SUBMIT places the message of its side in Q7 or ends BUSY; a message at the head that fails a check of
R386 ends with its result, and a second site seed, an unreadable half and a refused RELEASE with theirs, and changes no key; one that
passes writes its slot, client, digest or generation with the commit word and the counter follows; RELEASE that is not refused opens the
unit and erases keys, seals and journal. Rests on R375, R380, R385, R386, R387, R397, R400. -/
def Obligations.KeyJobs : Prop :=
  (∀ (side : Side) (s : State), s.inLull = false → (s.q 7).length < s.depth 7 → Answers (.keySubmit side 0x47A3#16) s fun t => t.q 7 =
      s.q 7 ++ [{ kind := 1, body := side.val :: s.jobBuf side.val }] ∧ t.rdb (F.KEY_JOB_STATUS_DONE.bank side.val) = false) ∧
  (∀ (side : Side) (s : State), s.inLull = false → s.depth 7 ≤ (s.q 7).length → Answers (.keySubmit side 0x47A3#16) s fun t => t.q 7 =
      s.q 7 ∧ t.rdb (F.KEY_JOB_STATUS_DONE.bank side.val) = true ∧ t.rd (F.KEY_JOB_STATUS_RESULT.bank side.val) = rBusy) ∧
  (∀ (memOk : Bool) (side : Nat) (m : List Nat) (js : List QItem) (s : State), s.q 7 = { kind := 1, body := side :: m } :: js → msgOp m
      = 1 → Answers (.keyOpImport memOk) s fun t => t.q 7 = js ∧ ((s.msgCheck m).1 ≠ rOk → t.rd (F.KEY_JOB_STATUS_RESULT.bank side) =
      (s.msgCheck m).1 ∧ t.key = s.key) ∧ ((s.msgCheck m).1 = rOk → s.secondSeed m = true → t.rd (F.KEY_JOB_STATUS_RESULT.bank side) =
      rState ∧ t.key = s.key) ∧ ((s.msgCheck m).1 = rOk → s.secondSeed m = false → memOk = false → t.rd (F.KEY_JOB_STATUS_RESULT.bank
      side) = rMemory ∧ t.key = s.key)) ∧
  (∀ (side : Nat) (m : List Nat) (js : List QItem) (s : State), s.q 7 = { kind := 1, body := side :: m } :: js → msgOp m = 1 →
      (s.msgCheck m).1 = rOk → s.secondSeed m = false → s.sys.earlyWarning = false → Answers (.keyOpImport true) s fun t => t.q 7 = js ∧
      t.rd (F.KEY_JOB_STATUS_RESULT.bank side) = rOk ∧ t.rdb (F.KEY_JOB_STATUS_DONE.bank side) = true ∧ t.rd64 F.KEY_COUNTER_LO =
      msgCounter m ∧ (State.cell t.key.slots (msgSlot m)).cw.valid = true ∧ (State.cell t.key.slots (msgSlot m)).now.use = msgUse m) ∧
  (∀ (memOk : Bool) (side : Nat) (m : List Nat) (js : List QItem) (s : State), s.q 7 = { kind := 1, body := side :: m } :: js → msgOp m
      = 2 → Answers (.keyOpDelete memOk) s fun t => t.q 7 = js ∧ ((s.msgCheck m).1 ≠ rOk → t.rd (F.KEY_JOB_STATUS_RESULT.bank side) =
      (s.msgCheck m).1 ∧ t.key = s.key) ∧ ((s.msgCheck m).1 = rOk → s.secondSeed m = true → t.rd (F.KEY_JOB_STATUS_RESULT.bank side) =
      rState ∧ t.key = s.key) ∧ ((s.msgCheck m).1 = rOk → s.secondSeed m = false → memOk = false → t.rd (F.KEY_JOB_STATUS_RESULT.bank
      side) = rMemory ∧ t.key = s.key)) ∧
  (∀ (side : Nat) (m : List Nat) (js : List QItem) (s : State), s.q 7 = { kind := 1, body := side :: m } :: js → msgOp m = 2 →
      (s.msgCheck m).1 = rOk → s.secondSeed m = false → s.sys.earlyWarning = false → Answers (.keyOpDelete true) s fun t => t.q 7 = js ∧
      t.rd (F.KEY_JOB_STATUS_RESULT.bank side) = rOk ∧ t.rdb (F.KEY_JOB_STATUS_DONE.bank side) = true ∧ t.rd64 F.KEY_COUNTER_LO =
      msgCounter m ∧ (msgClass m = 0 → (State.cell t.key.slots (msgSlot m)).cw.valid = false) ∧ (msgClass m = 1 → (State.cell
      t.key.clients (msgSlot m)).cw.valid = false) ∧ (msgClass m = 2 → (State.cell t.key.digests (msgSlot m)).cw.valid = false)) ∧
  (∀ (memOk : Bool) (side : Nat) (m : List Nat) (js : List QItem) (s : State), s.q 7 = { kind := 1, body := side :: m } :: js → msgOp m
      = 3 → Answers (.keyOpRevoke memOk) s fun t => t.q 7 = js ∧ ((s.msgCheck m).1 ≠ rOk → t.rd (F.KEY_JOB_STATUS_RESULT.bank side) =
      (s.msgCheck m).1 ∧ t.key = s.key) ∧ ((s.msgCheck m).1 = rOk → s.secondSeed m = true → t.rd (F.KEY_JOB_STATUS_RESULT.bank side) =
      rState ∧ t.key = s.key) ∧ ((s.msgCheck m).1 = rOk → s.secondSeed m = false → memOk = false → t.rd (F.KEY_JOB_STATUS_RESULT.bank
      side) = rMemory ∧ t.key = s.key)) ∧
  (∀ (side : Nat) (m : List Nat) (js : List QItem) (s : State), s.q 7 = { kind := 1, body := side :: m } :: js → msgOp m = 3 →
      (s.msgCheck m).1 = rOk → s.secondSeed m = false → s.sys.earlyWarning = false → Answers (.keyOpRevoke true) s fun t => t.q 7 = js ∧
      t.rd (F.KEY_JOB_STATUS_RESULT.bank side) = rOk ∧ t.rdb (F.KEY_JOB_STATUS_DONE.bank side) = true ∧ t.rd64 F.KEY_COUNTER_LO =
      msgCounter m ∧ (t.node (msgSlot m)).gen = ((s.node (msgSlot m)).gen + 1) % 2 ^ 14) ∧
  (∀ (memOk : Bool) (side : Nat) (m : List Nat) (js : List QItem) (s : State), s.q 7 = { kind := 1, body := side :: m } :: js → msgOp m
      = 4 → Answers (.keyOpSetClient memOk) s fun t => t.q 7 = js ∧ ((s.msgCheck m).1 ≠ rOk → t.rd (F.KEY_JOB_STATUS_RESULT.bank side) =
      (s.msgCheck m).1 ∧ t.key = s.key) ∧ ((s.msgCheck m).1 = rOk → s.secondSeed m = true → t.rd (F.KEY_JOB_STATUS_RESULT.bank side) =
      rState ∧ t.key = s.key) ∧ ((s.msgCheck m).1 = rOk → s.secondSeed m = false → memOk = false → t.rd (F.KEY_JOB_STATUS_RESULT.bank
      side) = rMemory ∧ t.key = s.key)) ∧
  (∀ (side : Nat) (m : List Nat) (js : List QItem) (s : State), s.q 7 = { kind := 1, body := side :: m } :: js → msgOp m = 4 →
      (s.msgCheck m).1 = rOk → s.secondSeed m = false → s.sys.earlyWarning = false → Answers (.keyOpSetClient true) s fun t => t.q 7 =
      js ∧ t.rd (F.KEY_JOB_STATUS_RESULT.bank side) = rOk ∧ t.rdb (F.KEY_JOB_STATUS_DONE.bank side) = true ∧ t.rd64 F.KEY_COUNTER_LO =
      msgCounter m ∧ (State.cell t.key.clients (msgSlot m)).cw.valid = true ∧ (State.cell t.key.clients (msgSlot m)).now.use = msgUse m) ∧
  (∀ (memOk : Bool) (side : Nat) (m : List Nat) (js : List QItem) (s : State), s.q 7 = { kind := 1, body := side :: m } :: js → msgOp m
      = 5 → Answers (.keyOpTrust memOk) s fun t => t.q 7 = js ∧ ((s.msgCheck m).1 ≠ rOk → t.rd (F.KEY_JOB_STATUS_RESULT.bank side) =
      (s.msgCheck m).1 ∧ t.key = s.key) ∧ ((s.msgCheck m).1 = rOk → s.secondSeed m = true → t.rd (F.KEY_JOB_STATUS_RESULT.bank side) =
      rState ∧ t.key = s.key) ∧ ((s.msgCheck m).1 = rOk → s.secondSeed m = false → memOk = false → t.rd (F.KEY_JOB_STATUS_RESULT.bank
      side) = rMemory ∧ t.key = s.key)) ∧
  (∀ (side : Nat) (m : List Nat) (js : List QItem) (s : State), s.q 7 = { kind := 1, body := side :: m } :: js → msgOp m = 5 →
      (s.msgCheck m).1 = rOk → s.secondSeed m = false → s.sys.earlyWarning = false → Answers (.keyOpTrust true) s fun t => t.q 7 = js ∧
      t.rd (F.KEY_JOB_STATUS_RESULT.bank side) = rOk ∧ t.rdb (F.KEY_JOB_STATUS_DONE.bank side) = true ∧ t.rd64 F.KEY_COUNTER_LO =
      msgCounter m ∧ (State.cell t.key.digests (msgSlot m)).cw.valid = true ∧ (State.cell t.key.digests (msgSlot m)).now.use = msgUse m) ∧
  (∀ (memOk : Bool) (side : Nat) (m : List Nat) (js : List QItem) (s : State), s.q 7 = { kind := 1, body := side :: m } :: js → msgOp m
      = 6 → Answers (.keyOpRelease memOk) s fun t => ((s.msgCheck m).1 ≠ rOk → t.rd (F.KEY_JOB_STATUS_RESULT.bank side) = (s.msgCheck
      m).1 ∧ t.q 7 = js ∧ t.key = s.key) ∧ ((s.msgCheck m).1 = rOk → s.releaseRefused = true → t.rd (F.KEY_JOB_STATUS_RESULT.bank side)
      = rState ∧ t.q 7 = js ∧ t.key = s.key)) ∧
  (∀ (memOk : Bool) (side : Nat) (m : List Nat) (js : List QItem) (s : State), s.q 7 = { kind := 1, body := side :: m } :: js → msgOp m
      = 6 → (s.msgCheck m).1 = rOk → s.releaseRefused = false → Answers (.keyOpRelease memOk) s fun t => t.rd F.KEY_STATUS_LC = lcOpen ∧
      t.key.slots = [] ∧ t.key.clients = [] ∧ t.key.digests = [] ∧ t.pat.sealed = [] ∧ t.bil.journal = [] ∧ t.rd
      (F.KEY_JOB_STATUS_RESULT.bank side) = rOk)

/-- Enrolment, attestation, debug, certificates and pair keys. ENROL places the attestation secret for the host in BOUND and is refused with
STATE to another side, and reading its last word enrols the unit and clears the words; ATTEST gives the keyed digest of the quote, or
ends NOT_ENROLLED; DEBUG from the host in OPEN with its pin low erases the keys, and is otherwise refused with STATE; the certificate
store is read and written word by word and the address advances by 4; a superseded pair key is erased. Rests on R376, R384, R389, R393,
R394, R399. -/
def Obligations.KeyCommands : Prop :=
  (∀ (s : State), s.inLull = false → s.rd F.KEY_STATUS_LC = lcBound → s.rdb F.KEY_STATUS_ENROLLED = false → Answers (.keyEnrol 0
      0x47A3#16) s fun t => t.key.enrolPlaced = true ∧ t.rd (F.KEY_JOB_STATUS_RESULT.bank 0) = rOk ∧ ∀ i : Fin 12, t.rd
      (F.KEY_ENROL_DATA i.val) = wordAt s.attestSecret i.val % 2 ^ 32) ∧
  (∀ (side : Side) (s : State), s.inLull = false → side ≠ 0 → Answers (.keyEnrol side 0x47A3#16) s fun t => t.hbi.refused = some eState
      ∧ t.key = s.key) ∧
  (∀ (side : Side) (s : State), s.inLull = false → s.key.enrolPlaced = true → Answers (.enrolDataRead side) s fun t => t.rdb
      F.KEY_STATUS_ENROLLED = true ∧ t.key.enrolPlaced = false ∧ (∀ i : Fin 12, t.rd (F.KEY_ENROL_DATA i.val) = 0) ∧ (side = 0 →
      t.hbi.data = s.rd (F.KEY_ENROL_DATA 11))) ∧
  (∀ (side : Side) (s : State), s.inLull = false → s.rdb F.KEY_STATUS_ENROLLED = false → Answers (.keyAttest side 0x47A3#16) s fun t =>
      t.rd (F.KEY_JOB_STATUS_RESULT.bank side.val) = rNotEnrolled ∧ t.rdb (F.KEY_JOB_STATUS_DONE.bank side.val) = true) ∧
  (∀ (side : Side) (s : State), s.inLull = false → s.rdb F.KEY_STATUS_ENROLLED = true → (s.seccImported = false ∨ s.seccKey.isSome =
      true) → Answers (.keyAttest side 0x47A3#16) s fun t => t.rd (F.KEY_JOB_STATUS_RESULT.bank side.val) = rOk ∧ t.rdb
      (F.KEY_JOB_STATUS_DONE.bank side.val) = true ∧ ∀ i : Fin 12, t.rd ((F.KEY_ATT_RESP i.val).bank side.val) = wordAt (Config.hmac384
      s.attestSecret (lAtst ++ s.quote side.val)) i.val % 2 ^ 32) ∧
  (∀ (s : State), s.inLull = false → s.rd F.KEY_STATUS_LC = lcOpen → Answers (.keyDebug 0 0x47A3#16 true) s fun t => t.rd
      F.KEY_STATUS_LC = lcDebug ∧ t.key.debugPort = true ∧ t.key.slots = [] ∧ t.rd (F.KEY_JOB_STATUS_RESULT.bank 0) = rOk) ∧
  (∀ (side : Side) (dbgLow : Bool) (s : State), s.inLull = false → (side ≠ 0 ∨ s.rd F.KEY_STATUS_LC ≠ lcOpen ∨ dbgLow = false) → Answers
      (.keyDebug side 0x47A3#16 dbgLow) s fun t => t.hbi.refused = some eState ∧ t.key.slots = s.key.slots ∧ t.key.debugPort =
      s.key.debugPort) ∧
  (∀ (side : Side) (value : BitVec 32) (s : State), s.inLull = false → s.rd (F.KEY_CERT_ADDR.bank side.val) % 4 = 0 → s.rd
      (F.KEY_CERT_ADDR.bank side.val) < 65536 → Answers (.certDataAccess side true value) s fun t => SMap.get (fun _ => 0) t.key.certs
      (s.rd (F.KEY_CERT_ADDR.bank side.val) / 4) = value.toNat ∧ t.rd (F.KEY_CERT_ADDR.bank side.val) = s.rd (F.KEY_CERT_ADDR.bank
      side.val) + 4) ∧
  (∀ (side : Side) (value : BitVec 32) (s : State), s.inLull = false → s.rd (F.KEY_CERT_ADDR.bank side.val) % 4 = 0 → s.rd
      (F.KEY_CERT_ADDR.bank side.val) < 65536 → Answers (.certDataAccess side false value) s fun t => t.rd (F.KEY_CERT_DATA.bank
      side.val) = SMap.get (fun _ => 0) s.key.certs (s.rd (F.KEY_CERT_ADDR.bank side.val) / 4) % 2 ^ 32 ∧ t.rd (F.KEY_CERT_ADDR.bank
      side.val) = s.rd (F.KEY_CERT_ADDR.bank side.val) + 4 ∧ t.key = s.key) ∧
  (∀ (s : State), Answers (.pairKeyErase) s fun t => t.key.pairHeld = s.key.pairHeld.take 1 ∧ t.live = s.live)

/-- What the commands of start, withdrawal, clocks, Lull and pattern updates leave unchanged. A command of start, withdrawal, clocks, Lull
and pattern updates changes no waiting command, no part of the state and no register cell outside those named for it: the registers of
an array that its operand does not name, every other register, live or not, and every other unit of the block stay as they were. Where a
command runs a safe boundary, BS and LV fields may change. Rests on R46, R49, R474, R479, R498, R500, R507, R508, R510. -/
def Obligations.FrameOfStartAndUpdate : Prop :=
  (Keeps .powerOn [.hbi, .que, .bar, .sys, .pat, .gd, .sht, .prt, .pair, .trg, .mrk, .th, .clk, .met, .bil, .key, .saf, .vlk, .shadow,
    .tbuf] [.cell F.CLK_AON_CFG_CHARGE, .cell F.CLK_AON_RTC_HI, .cell F.CLK_AON_RTC_LO, .cell F.CLK_AON_STATUS_SOURCE,
    .block trgBase] reachReset) ∧
  (∀ straps bist selOk rtc memA memB dbgLow, Keeps (.startBegin straps bist selOk rtc memA memB dbgLow) [.que, .bar, .sys, .pat, .gd,
    .sht, .pair, .trg, .mrk, .clk, .met, .bil, .key, .saf, .drawn, .shadow, .tbuf] [.all]) ∧
  (Keeps .brownOutReset [.hbi, .que, .bar, .sys, .pat, .gd, .sht, .prt, .pair, .trg, .mrk, .th, .clk, .met, .bil, .key, .saf, .vlk,
    .shadow, .tbuf] [] reachReset) ∧
  (Keeps .earlyWarning [.que, .bar, .sys, .gd, .pair, .trg, .mrk, .clk, .met, .bil] [.cell F.BIL_EVENT_INTERVAL_CLOSE,
    .cell F.BIL_EVENT_JRNL_LOW, .cell F.BIL_EVENT_SUPPRESSED, .cell F.BIL_EVENT_TARIFF_SWITCH, .cell F.CLK_STATUS_EW,
    .cell F.MET_EVENT_CHECK_FAIL, .cell F.MET_EVENT_DUAL_DIFF] reachWithdraw) ∧
  (Keeps .earlyWarningClear [.hbi, .que, .bar, .sys, .pat, .gd, .sht, .prt, .pair, .trg, .mrk, .th, .clk, .met, .key, .saf, .vlk,
    .shadow, .tbuf] [.cell F.CLK_STATUS_EW] reachReset) ∧
  (Keeps .resetPin [.hbi, .que, .bar, .sys, .pat, .gd, .sht, .prt, .pair, .trg, .mrk, .th, .clk, .met, .key, .saf, .vlk, .shadow,
    .tbuf] [] reachReset) ∧
  (∀ side key, Keeps (.sysReset side key) [.hbi, .que, .bar, .sys, .pat, .gd, .sht, .prt, .pair, .trg, .mrk, .th, .clk, .met, .key,
    .saf, .vlk, .shadow, .tbuf] [] (reachKeyed ++ reachReset)) ∧
  (∀ side key, Keeps (.sysResetForce side key) [.hbi, .que, .bar, .sys, .pat, .gd, .sht, .prt, .pair, .trg, .mrk, .th, .clk, .met, .key,
    .saf, .vlk, .shadow, .tbuf] [] (reachKeyed ++ reachReset)) ∧
  (∀ time, Keeps (.comparatorSelfTest time) [.que, .bar, .sys, .gd, .sht, .prt, .pair, .trg, .mrk, .met, .bil,
    .vlk] [.cell F.PAIR_LAST_TIME_HI, .cell F.PAIR_LAST_TIME_LO, .cell F.PAIR_SWITCHOVERS, .cell F.VLK_STATUS_STATE,
    .family (F.PRT_GRP_TRIP_TIME_HI 0), .family (F.PRT_GRP_TRIP_TIME_LO 0), .family (F.SHT_LOOP_MODE_NOW 0),
    .family (F.PRT_GRP_TEST_DESAT 0), .family (F.PRT_GRP_TEST_HS 0), .family (F.PRT_GRP_TEST_ADC 0), .family (F.PRT_GRP_TEST_GATE 0),
    .family (F.PRT_GRP_TEST_SOFT 0), .family (F.PRT_GRP_TEST_BIAS 0)] (reachClaim ++ reachTest ++ reachEvent)) ∧
  (∀ time, Keeps (.formingTimeout time) [.que, .bar, .sys, .gd, .sht, .prt, .pair, .trg, .mrk, .met, .bil,
    .vlk] [.cell F.PAIR_LAST_TIME_HI, .cell F.PAIR_LAST_TIME_LO, .cell F.PAIR_SWITCHOVERS, .cell F.VLK_STATUS_STATE,
    .family (F.GDI_HB_STATUS_HELD_OFF 0), .family (F.PRT_GRP_TRIP_TIME_HI 0), .family (F.PRT_GRP_TRIP_TIME_LO 0),
    .family (F.SHT_LOOP_MODE_NEXT 0), .family (F.SHT_LOOP_MODE_NOW 0), .family (F.SHT_LOOP_MODE_STOPPING 0)] (reachClaim ++
    reachEvent)) ∧
  (Keeps .roleStart [.bar, .sys, .trg, .mrk, .th] [.cell F.CLK_AON_STATUS_POR, .cell F.SYS_START_PHASE, .cell F.VLK_STATUS_STATE]) ∧
  (Keeps .prechargeComplete [.bar, .sys, .sht] [.family (F.SHT_LOOP_MODE_NEXT 0), .family (F.SHT_LOOP_MODE_STOPPING 0)]) ∧
  (Keeps .prechargeTimeout [.bar, .sys] [.cell F.SYS_START_ROLE_FAIL, .cell F.SYS_START_ROLE_TRIES]) ∧
  (Keeps .prechargeRetry [.bar, .sys] []) ∧
  (∀ side key, Keeps (.patOpen side key) [.hbi, .pat] [.cell F.PAT_OWNER_ID, .cell F.PAT_SITE_ID_HI, .cell F.PAT_SITE_ID_LO,
    .cell F.PAT_SVN_MIN, .cell F.PAT_UPD_STATUS_OWNER, .cell F.PAT_UPD_STATUS_OWNER_CLIENT, .cell F.PAT_UPD_STATUS_RESULT,
    .cell F.PAT_UPD_STATUS_STATE] reachKeyed) ∧
  (∀ side key, Keeps (.patVerify side key) [.hbi, .pat] [.cell F.PAT_OWNER_ID, .cell F.PAT_SITE_ID_HI, .cell F.PAT_SITE_ID_LO,
    .cell F.PAT_SVN_MIN, .cell F.PAT_UPD_STATUS_OWNER, .cell F.PAT_UPD_STATUS_OWNER_CLIENT, .cell F.PAT_UPD_STATUS_RESULT,
    .cell F.PAT_UPD_STATUS_STATE] reachKeyed) ∧
  (∀ memOk, Keeps (.patVerifyDone memOk) [.pat] [.cell F.PAT_OWNER_ID, .cell F.PAT_SITE_ID_HI, .cell F.PAT_SITE_ID_LO,
    .cell F.PAT_SVN_MIN, .cell F.PAT_UPD_STATUS_OWNER, .cell F.PAT_UPD_STATUS_OWNER_CLIENT, .cell F.PAT_UPD_STATUS_RESULT,
    .cell F.PAT_UPD_STATUS_STATE]) ∧
  (∀ side key, Keeps (.patArm side key) [.hbi, .que, .bar, .sys, .pat, .gd, .sht, .prt, .pair, .trg, .mrk, .th, .clk, .met, .key, .saf,
    .vlk, .shadow, .tbuf] [.cell F.PAT_OWNER_ID, .cell F.PAT_SITE_ID_HI, .cell F.PAT_SITE_ID_LO, .cell F.PAT_SVN_MIN,
    .cell F.PAT_UPD_STATUS_OWNER, .cell F.PAT_UPD_STATUS_OWNER_CLIENT, .cell F.PAT_UPD_STATUS_RESULT,
    .cell F.PAT_UPD_STATUS_STATE] (reachKeyed ++ reachReset)) ∧
  (∀ side key, Keeps (.patArmSingle side key) [.hbi, .que, .bar, .sys, .pat, .gd, .sht, .prt, .pair, .trg, .mrk, .th, .clk, .met, .key,
    .saf, .vlk, .shadow, .tbuf] [.cell F.PAT_OWNER_ID, .cell F.PAT_SITE_ID_HI, .cell F.PAT_SITE_ID_LO, .cell F.PAT_SVN_MIN,
    .cell F.PAT_UPD_STATUS_OWNER, .cell F.PAT_UPD_STATUS_OWNER_CLIENT, .cell F.PAT_UPD_STATUS_RESULT,
    .cell F.PAT_UPD_STATUS_STATE] (reachKeyed ++ reachReset)) ∧
  (∀ side key, Keeps (.patCommit side key) [.hbi, .que, .sys, .pat, .met, .bil, .key, .drawn] [.cell F.PAT_STATUS_FALLBACK,
    .cell F.PAT_STATUS_TRIAL, .cell F.PAT_SVN_MIN, .cell F.PAT_UPD_STATUS_OWNER, .cell F.PAT_UPD_STATUS_OWNER_CLIENT,
    .cell F.PAT_UPD_STATUS_RESULT, .cell F.PAT_UPD_STATUS_STATE] (reachLife ++ reachKeyed)) ∧
  (∀ side key, Keeps (.patAbort side key) [.hbi, .que, .bar, .sys, .pat, .gd, .sht, .prt, .pair, .trg, .mrk, .th, .clk, .met, .key,
    .saf, .vlk, .shadow, .tbuf] [.cell F.PAT_OWNER_ID, .cell F.PAT_SITE_ID_HI, .cell F.PAT_SITE_ID_LO, .cell F.PAT_SVN_MIN,
    .cell F.PAT_UPD_STATUS_OWNER, .cell F.PAT_UPD_STATUS_OWNER_CLIENT, .cell F.PAT_UPD_STATUS_RESULT,
    .cell F.PAT_UPD_STATUS_STATE] (reachWithdraw ++ reachKeyed ++ reachReset)) ∧
  (∀ side key, Keeps (.patSeal side key) [.hbi, .que] [.cell (F.QUE_Q_DEPTH_LEVEL 1), .cell (F.QUE_Q_HWM 1), .cell F.QUE_STATUS_FULL,
    .cell F.QUE_STATUS_NONEMPTY] reachKeyed) ∧
  (Keeps .updateOwnerTimeout [.pat] [.cell F.PAT_OWNER_ID, .cell F.PAT_SITE_ID_HI, .cell F.PAT_SITE_ID_LO, .cell F.PAT_SVN_MIN,
    .cell F.PAT_UPD_STATUS_OWNER, .cell F.PAT_UPD_STATUS_OWNER_CLIENT, .cell F.PAT_UPD_STATUS_RESULT, .cell F.PAT_UPD_STATUS_STATE]) ∧
  (Keeps .trialExpiry [.hbi, .que, .bar, .sys, .pat, .gd, .sht, .prt, .pair, .trg, .mrk, .th, .clk, .met, .key, .saf, .vlk, .shadow,
    .tbuf] [] (reachWithdraw ++ reachReset)) ∧
  (Keeps .trialDeferredRevert [.hbi, .que, .bar, .sys, .pat, .gd, .sht, .prt, .pair, .trg, .mrk, .th, .clk, .met, .key, .saf, .vlk,
    .shadow, .tbuf] [] (reachWithdraw ++ reachReset)) ∧
  (∀ finding, Keeps (.scrubWord finding) [.hbi, .que, .bar, .sys, .pat, .gd, .sht, .prt, .pair, .trg, .mrk, .th, .clk, .met, .key, .saf,
    .vlk, .shadow, .tbuf] [.cell F.CLK_LULL_STATUS_STATE, .cell F.CLK_LULL_STATUS_WAKE_CAUSE, .cell F.CLK_WAKE_TIME_HI,
    .cell F.CLK_WAKE_TIME_LO, .cell F.PAT_SCRUB_FIXED, .cell F.PAT_SCRUB_PASSES] (reachWithdraw ++ reachReset)) ∧
  (∀ report taken, Keeps (.floaterTakeover report taken) [.que, .sys, .pat, .gd, .sht, .pair, .mrk, .th, .met, .bil, .saf, .vlk,
    .shadow, .tbuf] [.all]) ∧
  (∀ side key, Keeps (.pairRelease side key) [.hbi, .sys, .pat, .gd, .sht, .pair, .mrk, .th, .met, .saf, .vlk, .shadow, .tbuf] [.all]) ∧
  (Keeps .floaterDeferredRelease [.sys, .pat, .gd, .sht, .pair, .mrk, .th, .met, .saf, .vlk, .shadow, .tbuf] [.all]) ∧
  (Keeps .lockstepMismatch [.hbi, .que, .bar, .sys, .pat, .gd, .sht, .prt, .pair, .trg, .mrk, .th, .clk, .met, .key, .saf, .vlk,
    .shadow, .tbuf] [] (reachWithdraw ++ reachReset)) ∧
  (∀ ppm, Keeps (.clockMonitor ppm) [.hbi, .que, .bar, .sys, .pat, .gd, .sht, .prt, .pair, .trg, .mrk, .th, .clk, .met, .key, .saf,
    .vlk, .shadow, .tbuf] [] (reachWithdraw ++ reachReset)) ∧
  (∀ pll, Keeps (.pllLockLoss pll) [.hbi, .que, .bar, .sys, .pat, .gd, .sht, .prt, .pair, .trg, .mrk, .th, .clk, .met, .key, .saf, .vlk,
    .shadow, .tbuf] [.cell F.CLK_STATUS_LOCK] (reachWithdraw ++ reachReset)) ∧
  (Keeps .rtc32Loss [.clk] [.cell F.CLK_AON_STATUS_RTC_FAIL, .cell F.CLK_STATUS_RTC_FAIL]) ∧
  (∀ mv tAon rtc, Keeps (.vbatMeasure mv tAon rtc) [.bar] [.cell F.CLK_AON_RTC_HI, .cell F.CLK_AON_RTC_LO,
    .cell F.CLK_AON_STATUS_CHARGING, .cell F.CLK_AON_STATUS_VBAT_LOW, .cell F.CLK_AON_VBAT, .cell F.CLK_LULL_SECONDS,
    .cell F.CLK_STATUS_VBAT_LOW, .cell F.CLK_TEMP_T_AON]) ∧
  (∀ vin, Keeps (.aonSupplySwitch vin) [.sys, .clk, .met] [.cell F.CLK_AON_STATUS_CHARGING, .cell F.CLK_AON_STATUS_SOURCE,
    .family (F.MET_PO_STATUS_OUT 0)]) ∧
  (Keeps .aonReset [.que, .bar, .clk, .met, .bil] [.cell F.CLK_AON_CFG_CHARGE, .cell F.CLK_AON_EVENTS, .cell F.CLK_AON_RTC_HI,
    .cell F.CLK_AON_RTC_LO, .cell F.CLK_AON_STATUS_POR, .cell F.CLK_AON_STATUS_RTC_FAIL, .cell F.QUE_FR_HEAD,
    .cell F.QUE_FR_OVERFLOW]) ∧
  (∀ target src, Keeps (.lullMessageReceive target src) [.mrk, .clk] []) ∧
  (∀ rtc, Keeps (.lullEntry rtc) [.que, .gd, .pair, .trg, .mrk, .clk, .met, .bil, .key] [.cell F.BIL_EVENT_INTERVAL_CLOSE,
    .cell F.BIL_EVENT_SUPPRESSED, .cell F.BIL_EVENT_TARIFF_SWITCH, .cell F.CLK_AON_RTC_HI, .cell F.CLK_AON_RTC_LO,
    .cell F.CLK_LULL_ENTRIES, .cell F.CLK_LULL_STATUS_REFUSE, .cell F.CLK_LULL_STATUS_STATE, .cell F.CLK_LULL_STATUS_WAKE_CAUSE,
    .cell F.CLK_STATUS_LOCK, .cell F.CLK_WAKE_TIME_HI, .cell F.CLK_WAKE_TIME_LO, .cell F.MET_EVENT_CHECK_FAIL,
    .cell F.MET_EVENT_DUAL_DIFF, .cell F.TRG_STATUS_KEYED, .family (F.QUE_Q_DEPTH_LEVEL 0), .family (F.QUE_Q_HWM 0),
    .family (F.QUE_Q_LOST 0), .family (F.TRG_MEMBERS 0)] (reachClaim ++ reachJournal)) ∧
  (∀ side key, Keeps (.hostWake side key) [.hbi, .clk] [.cell F.CLK_LULL_STATUS_STATE, .cell F.CLK_LULL_STATUS_WAKE_CAUSE,
    .cell F.CLK_WAKE_TIME_HI, .cell F.CLK_WAKE_TIME_LO] reachKeyed) ∧
  (Keeps .plugWake [.clk] [.cell F.CLK_LULL_STATUS_STATE, .cell F.CLK_LULL_STATUS_WAKE_CAUSE, .cell F.CLK_WAKE_TIME_HI,
    .cell F.CLK_WAKE_TIME_LO]) ∧
  (∀ rtc, Keeps (.wakeComplete rtc) [.hbi, .que, .bar, .sys, .pat, .gd, .sht, .prt, .pair, .trg, .mrk, .th, .clk, .met, .bil, .key,
    .saf, .vlk, .shadow, .tbuf] [.cell F.BIL_EVENT_JRNL_LOW, .cell F.BIL_EVENT_OUTAGE_BOUNDARY, .cell F.BIL_EVENT_SUPPRESSED,
    .cell F.CLK_AON_EVENTS, .cell F.CLK_AON_RTC_HI, .cell F.CLK_AON_RTC_LO, .cell F.CLK_LULL_STATUS_STATE, .cell F.CLK_STATUS_LOCK,
    .cell F.MET_EVENT_UNSAVED, .family (F.SAF_CONN_STATUS_STATE 0)] (reachWithdraw ++ reachBoundary ++ reachReset)) ∧
  (∀ finding, Keeps (.retentionScrub finding) [.hbi, .que, .bar, .sys, .pat, .gd, .sht, .prt, .pair, .trg, .mrk, .th, .clk, .met, .key,
    .saf, .vlk, .shadow, .tbuf] [.cell F.CLK_LULL_STATUS_STATE, .cell F.CLK_LULL_STATUS_WAKE_CAUSE, .cell F.CLK_TEMP_REFRESH,
    .cell F.CLK_WAKE_TIME_HI, .cell F.CLK_WAKE_TIME_LO] (reachWithdraw ++ reachReset)) ∧
  (Keeps .barographSave [.bar] [.cell F.BAR_SAVE_SEQ, .cell F.BAR_STATUS_PROFILE]) ∧
  (Keeps .barographDaily [.que, .bar] [] reachBlocks) ∧
  (∀ side key, Keeps (.barSnapshot side key) [.hbi, .que, .bar] [] (reachBlocks ++ reachKeyed)) ∧
  (∀ side key, Keeps (.barUnbench side key) [.hbi, .que, .bar, .pat, .gd, .sht, .pair, .trg, .th, .bil, .saf, .shadow, .tbuf] [.all]) ∧
  (Keeps .meterSuspectExpiry [] [.cell F.BAR_STATUS_METER_SUSPECT]) ∧
  (Keeps .comparatorTestTimeout [.prt] [.family (F.PRT_GRP_TEST_DESAT 0), .family (F.PRT_GRP_TEST_HS 0), .family (F.PRT_GRP_TEST_ADC 0),
    .family (F.PRT_GRP_TEST_GATE 0), .family (F.PRT_GRP_TEST_SOFT 0), .family (F.PRT_GRP_TEST_BIAS 0)]) ∧
  (Keeps .prechargeCoilRelease [.bar, .sys] []) ∧
  (Keeps .stackAvailable [.sys] []) ∧
  (∀ k, Keeps (.safetyWake k) [.clk] [.cell F.CLK_LULL_STATUS_STATE, .cell F.CLK_LULL_STATUS_WAKE_CAUSE, .cell F.CLK_WAKE_TIME_HI,
    .cell F.CLK_WAKE_TIME_LO]) ∧
  (Keeps .uncorrectableError [.hbi, .que, .bar, .sys, .pat, .gd, .sht, .prt, .pair, .trg, .mrk, .th, .clk, .met, .key, .saf, .vlk,
    .shadow, .tbuf] [.cell F.CLK_LULL_STATUS_STATE, .cell F.CLK_LULL_STATUS_WAKE_CAUSE, .cell F.CLK_WAKE_TIME_HI,
    .cell F.CLK_WAKE_TIME_LO] (reachWithdraw ++ reachReset))

/-- What the commands of the host bus, the indirect window, queues, shore sessions and remote requests leave unchanged. A command of the
host bus, the indirect window, queues, shore sessions and remote requests changes no waiting command, no part of the state and no
register cell outside those named for it: the registers of an array that its operand does not name, every other register, live or not,
and every other unit of the block stay as they were. A plain register write is one that starts no command of its own; REMOTE_REQUEST
runs other commands and is left to its own statement. Where a command runs a safe boundary, BS and LV fields may change. Rests on R64,
R68, R72, R79, R83, R84, R109, R111, R457, R461. -/
def Obligations.FrameOfHostAndQueues : Prop :=
  (∀ side (addr value : BitVec 32) time fresh, ∀ s t : State, s.commandWrite side addr.toNat value.toNat time fresh = none →
    s.specialWrite side addr.toNat value.toNat = none → exec (.registerWrite side addr value time fresh) s = .next t → Frame [.hbi,
    .pat, .saf, .shadow] (([.cell F.SAF_PARAM_CRC, .cell F.SAF_LOG_SEQ_LO, .cell F.SAF_LOG_SEQ_HI, .cell F.SAF_LOG_LOST,
    .word addr.toNat] : List Reach) ++ reachKeyed) s t ∧ ∀ k, k / 32 % bankStride ≠ addr.toNat →
    SMap.get resetCell t.shadow k = SMap.get resetCell s.shadow k) ∧
  (∀ side b value, Keeps (.levelWrite side b value) [.hbi] [.levels] reachKeyed) ∧
  (∀ side mask, Keeps (.localTack side mask) [.hbi, .que, .pat, .trg, .saf, .tbuf] [] reachBoundary) ∧
  (∀ widthNs time, Keeps (.tackPinEdge widthNs time) [.hbi, .que, .pat, .trg, .saf, .tbuf] [] reachBoundary) ∧
  (∀ g, Keeps (.pfgLiveTimeout g) [.hbi, .que, .trg, .shadow, .tbuf] [.cell F.HBI_PFG_ERR_COUNT, .cell F.HBI_PFG_ERR_GROUP] reachEvent) ∧
  (∀ side key time, Keeps (.ringTackRequest side key time) [.hbi] [] reachKeyed) ∧
  (∀ time, Keeps (.ringTackInstant time) [.hbi, .que, .pat, .trg, .saf, .tbuf] [] reachBoundary) ∧
  (∀ side, Keeps (.credChallengeRead side) [.hbi, .drawn] [.family (F.HBI_CRED_CHAL 0)]) ∧
  (∀ side key fresh, Keeps (.credOpenMaintenance side key fresh) [.hbi, .que, .trg] [.cell (F.HBI_CRED_STATUS_FAILS.bank side.val),
    .cell (F.HBI_CRED_STATUS_MAINT_OPEN.bank side.val), .cell (F.HBI_CRED_STATUS_SAFETY_OPEN.bank side.val)] (reachEvent ++
    reachKeyed)) ∧
  (∀ side key fresh, Keeps (.credOpenSafety side key fresh) [.hbi, .que, .trg] [.cell (F.HBI_CRED_STATUS_FAILS.bank side.val),
    .cell (F.HBI_CRED_STATUS_MAINT_OPEN.bank side.val), .cell (F.HBI_CRED_STATUS_SAFETY_OPEN.bank side.val)] (reachEvent ++
    reachKeyed)) ∧
  (∀ side key, Keeps (.credCloseAll side key) [.hbi] [.cell (F.HBI_CRED_STATUS_MAINT_OPEN.bank side.val),
    .cell (F.HBI_CRED_STATUS_SAFETY_OPEN.bank side.val), .levels] reachKeyed) ∧
  (∀ side safety, Keeps (.credTimeout side safety) [] [.cell (F.HBI_CRED_STATUS_MAINT_OPEN.bank side.val),
    .cell (F.HBI_CRED_STATUS_SAFETY_OPEN.bank side.val), .levels]) ∧
  (∀ side, Keeps (.credLockoutEnd side) [.hbi] [.cell (F.HBI_CRED_STATUS_FAILS.bank side.val)]) ∧
  (∀ side addr, Keeps (.idxAddrWrite side addr) [.hbi, .pat, .saf, .shadow, .tbuf] [.cell (F.HBI_IDX_ADDR.bank side.val),
    .cell (F.HBI_IDX_DATA.bank side.val), .cell (F.HBI_IDX_STATUS_LOCKED.bank side.val), .cell (F.HBI_IDX_STATUS_READY.bank side.val),
    .cell (F.HBI_IDX_STATUS_WAIT.bank side.val), .cell F.PAT_OWNER_ID, .cell F.PAT_SITE_ID_HI, .cell F.PAT_SITE_ID_LO,
    .cell F.PAT_SVN_MIN, .cell F.PAT_UPD_STATUS_OWNER, .cell F.PAT_UPD_STATUS_OWNER_CLIENT, .cell F.PAT_UPD_STATUS_RESULT,
    .cell F.PAT_UPD_STATUS_STATE, .cell F.SAF_LOG_LOST, .cell F.SAF_LOG_SEQ_HI, .cell F.SAF_LOG_SEQ_LO, .cell F.SAF_PARAM_CRC,
    .soft] reachKeyed) ∧
  (∀ side, Keeps (.idxDataRead side) [.hbi, .pat, .saf, .shadow, .tbuf] [.cell (F.HBI_IDX_ADDR.bank side.val),
    .cell (F.HBI_IDX_DATA.bank side.val), .cell (F.HBI_IDX_STATUS_ERR.bank side.val), .cell (F.HBI_IDX_STATUS_LOCKED.bank side.val),
    .cell (F.HBI_IDX_STATUS_READY.bank side.val), .cell (F.HBI_IDX_STATUS_WAIT.bank side.val), .cell F.PAT_OWNER_ID,
    .cell F.PAT_SITE_ID_HI, .cell F.PAT_SITE_ID_LO, .cell F.PAT_SVN_MIN, .cell F.PAT_UPD_STATUS_OWNER,
    .cell F.PAT_UPD_STATUS_OWNER_CLIENT, .cell F.PAT_UPD_STATUS_RESULT, .cell F.PAT_UPD_STATUS_STATE, .cell F.SAF_LOG_LOST,
    .cell F.SAF_LOG_SEQ_HI, .cell F.SAF_LOG_SEQ_LO, .cell F.SAF_PARAM_CRC, .soft] reachKeyed) ∧
  (∀ side value, Keeps (.idxDataWrite side value) [.hbi, .pat, .saf, .shadow, .tbuf] [.cell (F.HBI_IDX_DATA.bank side.val),
    .cell (F.HBI_IDX_STATUS_LOCKED.bank side.val), .cell (F.HBI_IDX_STATUS_READY.bank side.val),
    .cell (F.HBI_IDX_STATUS_WAIT.bank side.val), .cell F.PAT_OWNER_ID, .cell F.PAT_SITE_ID_HI, .cell F.PAT_SITE_ID_LO,
    .cell F.PAT_SVN_MIN, .cell F.PAT_UPD_STATUS_OWNER, .cell F.PAT_UPD_STATUS_OWNER_CLIENT, .cell F.PAT_UPD_STATUS_RESULT,
    .cell F.PAT_UPD_STATUS_STATE, .cell F.SAF_LOG_LOST, .cell F.SAF_LOG_SEQ_HI, .cell F.SAF_LOG_SEQ_LO, .cell F.SAF_PARAM_CRC,
    .soft] reachKeyed) ∧
  (∀ side, Keeps (.idxFetchDone side) [.hbi, .drawn] [.cell (F.HBI_IDX_DATA.bank side.val),
    .cell (F.HBI_IDX_STATUS_READY.bank side.val), .soft] reachMirror) ∧
  (∀ side, Keeps (.idxPostDone side) [.hbi, .pat, .saf, .shadow, .tbuf] [.cell (F.HBI_IDX_ADDR.bank side.val),
    .cell (F.HBI_IDX_DATA.bank side.val), .cell (F.HBI_IDX_STATUS_ERR.bank side.val), .cell (F.HBI_IDX_STATUS_LOCKED.bank side.val),
    .cell (F.HBI_IDX_STATUS_READY.bank side.val), .cell (F.HBI_IDX_STATUS_WAIT.bank side.val), .cell F.PAT_OWNER_ID,
    .cell F.PAT_SITE_ID_HI, .cell F.PAT_SITE_ID_LO, .cell F.PAT_SVN_MIN, .cell F.PAT_UPD_STATUS_OWNER,
    .cell F.PAT_UPD_STATUS_OWNER_CLIENT, .cell F.PAT_UPD_STATUS_RESULT, .cell F.PAT_UPD_STATUS_STATE, .cell F.SAF_LOG_LOST,
    .cell F.SAF_LOG_SEQ_HI, .cell F.SAF_LOG_SEQ_LO, .cell F.SAF_PARAM_CRC, .soft] reachKeyed) ∧
  (∀ side, Keeps (.idxRelease side) [.hbi] [.cell (F.HBI_IDX_STATUS_LOCKED.bank side.val)]) ∧
  (∀ side, Keeps (.idxPortTimeout side) [.hbi] [.cell (F.HBI_IDX_STATUS_LOCKED.bank side.val)]) ∧
  (∀ side, Keeps (.idxPortFree side) [.hbi, .pat, .saf, .shadow, .tbuf] [.cell (F.HBI_IDX_DATA.bank side.val),
    .cell (F.HBI_IDX_STATUS_LOCKED.bank side.val), .cell (F.HBI_IDX_STATUS_READY.bank side.val),
    .cell (F.HBI_IDX_STATUS_WAIT.bank side.val), .cell F.PAT_OWNER_ID, .cell F.PAT_SITE_ID_HI, .cell F.PAT_SITE_ID_LO,
    .cell F.PAT_SVN_MIN, .cell F.PAT_UPD_STATUS_OWNER, .cell F.PAT_UPD_STATUS_OWNER_CLIENT, .cell F.PAT_UPD_STATUS_RESULT,
    .cell F.PAT_UPD_STATUS_STATE, .cell F.SAF_LOG_LOST, .cell F.SAF_LOG_SEQ_HI, .cell F.SAF_LOG_SEQ_LO, .cell F.SAF_PARAM_CRC,
    .soft] reachKeyed) ∧
  (∀ session typ reqId target status index body, Keeps (.remoteResponse session typ reqId target status index body) [.que,
    .trg] [.cell (F.QUE_Q_DEPTH_LEVEL 12), .cell (F.QUE_Q_HWM 12), .cell (F.QUE_Q_LOST 12), .cell F.QUE_STATUS_FULL,
    .cell F.QUE_STATUS_NONEMPTY]) ∧
  (∀ session reqId target, Keeps (.remoteUnreachable session reqId target) [.que, .trg] [.cell (F.QUE_Q_DEPTH_LEVEL 12),
    .cell (F.QUE_Q_HWM 12), .cell (F.QUE_Q_LOST 12), .cell F.QUE_STATUS_FULL, .cell F.QUE_STATUS_NONEMPTY]) ∧
  (∀ tlsOk digest, Keeps (.shoreConnect tlsOk digest) [.hbi, .que, .trg] [.cell F.TRG_SHORE_SESS_OPEN,
    .family F.HBI_CRED_STATUS_MAINT_OPEN, .family F.HBI_CRED_STATUS_SAFETY_OPEN, .levels, .side 1, .side 2, .side 3, .side 4]) ∧
  (∀ session, Keeps (.shoreSessionTimeout session) [.hbi, .que, .trg] [.cell F.TRG_SHORE_SESS_OPEN,
    .family F.HBI_CRED_STATUS_MAINT_OPEN, .family F.HBI_CRED_STATUS_SAFETY_OPEN, .levels, .side 1, .side 2, .side 3, .side 4]) ∧
  (∀ session reqId target length body, Keeps (.shoreAccess session reqId target length body) [.hbi, .que,
    .trg] [.cell (F.QUE_Q_DEPTH_LEVEL 12), .cell (F.QUE_Q_DEPTH_LEVEL 13), .cell (F.QUE_Q_HWM 12), .cell (F.QUE_Q_HWM 13),
    .cell (F.QUE_Q_LOST 12), .cell F.QUE_STATUS_FULL, .cell F.QUE_STATUS_NONEMPTY, .cell F.TRG_SHORE_SESS_OPEN,
    .family F.HBI_CRED_STATUS_MAINT_OPEN, .family F.HBI_CRED_STATUS_SAFETY_OPEN, .levels, .side 1, .side 2, .side 3, .side 4]) ∧
  (∀ session reqId target length body, Keeps (.shoreJournalGet session reqId target length body) [.hbi, .que, .trg,
    .mrk] [.cell (F.QUE_Q_DEPTH_LEVEL 12), .cell (F.QUE_Q_DEPTH_LEVEL 13), .cell (F.QUE_Q_DEPTH_LEVEL 4),
    .cell (F.QUE_Q_DEPTH_LEVEL 6), .cell (F.QUE_Q_HWM 12), .cell (F.QUE_Q_HWM 13), .cell (F.QUE_Q_HWM 4), .cell (F.QUE_Q_HWM 6),
    .cell (F.QUE_Q_LOST 12), .cell (F.QUE_Q_LOST 4), .cell F.QUE_STATUS_FULL, .cell F.QUE_STATUS_NONEMPTY,
    .cell F.TRG_SHORE_SESS_OPEN, .family F.HBI_CRED_STATUS_MAINT_OPEN, .family F.HBI_CRED_STATUS_SAFETY_OPEN, .levels, .side 1,
    .side 2, .side 3, .side 4]) ∧
  (∀ session reqId target length body, Keeps (.shoreBarographGet session reqId target length body) [.hbi, .que, .trg,
    .mrk] [.cell (F.QUE_Q_DEPTH_LEVEL 12), .cell (F.QUE_Q_DEPTH_LEVEL 13), .cell (F.QUE_Q_DEPTH_LEVEL 4),
    .cell (F.QUE_Q_DEPTH_LEVEL 6), .cell (F.QUE_Q_HWM 12), .cell (F.QUE_Q_HWM 13), .cell (F.QUE_Q_HWM 4), .cell (F.QUE_Q_HWM 6),
    .cell (F.QUE_Q_LOST 12), .cell (F.QUE_Q_LOST 4), .cell F.QUE_STATUS_FULL, .cell F.QUE_STATUS_NONEMPTY,
    .cell F.TRG_SHORE_SESS_OPEN, .family F.HBI_CRED_STATUS_MAINT_OPEN, .family F.HBI_CRED_STATUS_SAFETY_OPEN, .levels, .side 1,
    .side 2, .side 3, .side 4]) ∧
  (∀ session reqId target length body, Keeps (.shoreEventSubscribe session reqId target length body) [.hbi, .que,
    .trg] [.cell (F.QUE_Q_DEPTH_LEVEL 12), .cell (F.QUE_Q_DEPTH_LEVEL 13), .cell (F.QUE_Q_DEPTH_LEVEL 4), .cell (F.QUE_Q_HWM 12),
    .cell (F.QUE_Q_HWM 13), .cell (F.QUE_Q_HWM 4), .cell (F.QUE_Q_LOST 12), .cell (F.QUE_Q_LOST 4), .cell F.QUE_STATUS_FULL,
    .cell F.QUE_STATUS_NONEMPTY, .cell F.TRG_SHORE_SESS_OPEN, .family F.HBI_CRED_STATUS_MAINT_OPEN,
    .family F.HBI_CRED_STATUS_SAFETY_OPEN, .levels, .side 1, .side 2, .side 3, .side 4]) ∧
  (∀ session reqId target length, Keeps (.shoreKeepalive session reqId target length) [.hbi, .que,
    .trg] [.cell (F.QUE_Q_DEPTH_LEVEL 12), .cell (F.QUE_Q_HWM 12), .cell (F.QUE_Q_LOST 12), .cell F.QUE_STATUS_FULL,
    .cell F.QUE_STATUS_NONEMPTY, .cell F.TRG_SHORE_SESS_OPEN, .family F.HBI_CRED_STATUS_MAINT_OPEN,
    .family F.HBI_CRED_STATUS_SAFETY_OPEN, .levels, .side 1, .side 2, .side 3, .side 4]) ∧
  (∀ session typ reqId target status body, Keeps (.recordTransfer session typ reqId target status body) [.que, .trg,
    .mrk] [.cell (F.QUE_Q_DEPTH_LEVEL 12), .cell (F.QUE_Q_DEPTH_LEVEL 13), .cell (F.QUE_Q_DEPTH_LEVEL 6), .cell (F.QUE_Q_HWM 12),
    .cell (F.QUE_Q_HWM 13), .cell (F.QUE_Q_HWM 6), .cell (F.QUE_Q_LOST 12), .cell F.QUE_STATUS_FULL, .cell F.QUE_STATUS_NONEMPTY]) ∧
  (∀ ready, Keeps (.queueMove ready) [.que, .trg, .bil] [.cell F.QUE_TRACE_LEVEL, .cell F.QUE_TRACE_LOST,
    .family (F.QUE_Q_DEPTH_LEVEL 0), .family (F.QUE_Q_HWM 0)] reachEvent) ∧
  (∀ side key, Keeps (.queMbxPop side key) [.hbi, .que] [.cell (F.QUE_Q_DEPTH_LEVEL 11), .cell (F.QUE_Q_HWM 11),
    .cell F.QUE_IRQ_STATUS_MBX_OUT, .cell F.QUE_STATUS_FULL, .cell F.QUE_STATUS_NONEMPTY] reachKeyed) ∧
  (∀ side key, Keeps (.queMbxPush side key) [.hbi, .que] [.cell (F.QUE_Q_DEPTH_LEVEL 10), .cell (F.QUE_Q_HWM 10),
    .cell F.QUE_STATUS_FULL, .cell F.QUE_STATUS_NONEMPTY] reachKeyed) ∧
  (∀ session time, Keeps (.subscriptionSend session time) [.que] [.cell (F.QUE_Q_DEPTH_LEVEL 12), .cell (F.QUE_Q_DEPTH_LEVEL 4),
    .cell (F.QUE_Q_HWM 12), .cell (F.QUE_Q_HWM 4), .cell (F.QUE_Q_LOST 12), .cell (F.QUE_Q_LOST 4), .cell F.QUE_STATUS_FULL,
    .cell F.QUE_STATUS_NONEMPTY]) ∧
  (∀ side, Keeps (.traceRead side) [.hbi, .que] [.cell F.QUE_TRACE_LEVEL] reachKeyed) ∧
  (∀ session, Keeps (.shoreSessionClose session) [.hbi, .que, .trg] [.cell F.TRG_SHORE_SESS_OPEN, .family F.HBI_CRED_STATUS_MAINT_OPEN,
    .family F.HBI_CRED_STATUS_SAFETY_OPEN, .levels, .side 1, .side 2, .side 3, .side 4]) ∧
  (∀ side addr, Keeps (.registerRead side addr) [.hbi, .que, .pat, .key, .saf, .drawn, .shadow,
    .tbuf] [.cell (F.HBI_IDX_ADDR.bank side.val), .cell (F.HBI_IDX_DATA.bank side.val), .cell (F.HBI_IDX_STATUS_ERR.bank side.val),
    .cell (F.HBI_IDX_STATUS_LOCKED.bank side.val), .cell (F.HBI_IDX_STATUS_READY.bank side.val),
    .cell (F.HBI_IDX_STATUS_WAIT.bank side.val), .cell (F.KEY_CERT_ADDR.bank side.val), .cell (F.KEY_CERT_DATA.bank side.val),
    .cell F.KEY_STATUS_ENROLLED, .cell F.PAT_OWNER_ID, .cell F.PAT_SITE_ID_HI, .cell F.PAT_SITE_ID_LO, .cell F.PAT_SVN_MIN,
    .cell F.PAT_UPD_STATUS_OWNER, .cell F.PAT_UPD_STATUS_OWNER_CLIENT, .cell F.PAT_UPD_STATUS_RESULT, .cell F.PAT_UPD_STATUS_STATE,
    .cell F.QUE_TRACE_LEVEL, .cell F.SAF_LOG_LOST, .cell F.SAF_LOG_SEQ_HI, .cell F.SAF_LOG_SEQ_LO, .cell F.SAF_PARAM_CRC,
    .family (F.HBI_CRED_CHAL 0), .family (F.KEY_ENROL_DATA 0), .soft] reachKeyed)

/-- What the commands of trains, cycle headers, slots, Squall, joining and ring keys leave unchanged. A command of trains, cycle headers,
slots, Squall, joining and ring keys changes no waiting command, no part of the state and no register cell outside those named for it:
the registers of an array that its operand does not name, every other register, live or not, and every other unit of the block stay as
they were. Where a command runs a safe boundary, BS and LV fields may change. Rests on R95, R96, R97, R99, R102, R105, R106, R107. -/
def Obligations.FrameOfRing : Prop :=
  (∀ time unwrapNext wrapped, Keeps (.cycleStart time unwrapNext wrapped) [.hbi, .que, .pat, .pair, .trg, .mrk, .th, .bil, .saf,
    .drawn] [.cell F.BIL_EVENT_JRNL_LOW, .cell F.BIL_STATUS_STEP_PENDING, .cell F.BIL_TIME_PENDING_S, .cell F.CLK_AON_STATUS_POR,
    .cell F.PAIR_BULK_ITEMS, .cell F.PAIR_STATUS_PARTNER_CLAIM, .cell F.PAIR_STATUS_STATE, .cell F.PAT_PARTNER_SERIAL,
    .cell F.SYS_START_PHASE, .cell F.SYS_START_TIME, .cell F.TRG_CAL_OFFSET_HI, .cell F.TRG_CAL_OFFSET_LO,
    .cell F.TRG_CAL_STATUS_PROVEN, .cell F.TRG_CAL_STATUS_STEP_COUNT, .cell F.TRG_CAL_STATUS_VALID, .cell F.TRG_CYCLE_HI,
    .cell F.TRG_CYCLE_LO, .cell F.TRG_RING_TIME_HI, .cell F.TRG_RING_TIME_LO, .cell F.TRG_STATUS_KEYED,
    .family (F.SAF_CONN_STATUS_SEQ 0), .family (F.TRG_MEMBERS 0)] reachBoundary) ∧
  (∀ dirB wrapped ringWrapped cycle hop correction delay forward neighbour master time,
    Keeps (.trainDelimiter dirB wrapped ringWrapped cycle hop correction delay forward neighbour master time) [.que, .pat, .gd, .sht,
    .pair, .trg, .mrk, .th, .clk, .met, .bil, .key, .saf, .shadow, .tbuf] [.all]) ∧
  (∀ header dirB tagOk arrival steer, Keeps (.cycleHeaderReceive header dirB tagOk arrival steer) [.hbi, .que, .pat, .trg, .mrk,
    .saf] [.cell F.CLK_STEER, .cell F.HBI_TACK_STATUS_LATE, .cell F.TRG_AUTH_FAIL, .cell F.TRG_CAL_OFFSET_HI,
    .cell F.TRG_CAL_OFFSET_LO, .cell F.TRG_CAL_STATUS_PROVEN, .cell F.TRG_CAL_STATUS_STEP_COUNT, .cell F.TRG_CAL_STATUS_VALID,
    .cell F.TRG_CYCLE_HI, .cell F.TRG_CYCLE_LO, .cell F.TRG_RING_TIME_HI, .cell F.TRG_RING_TIME_LO, .cell F.TRG_STATUS_KEYED,
    .cell F.TRG_STATUS_MASTER, .cell F.TRG_STATUS_TIME_SUSPECT, .family (F.TRG_MEMBERS 0)] reachBoundary) ∧
  (∀ slot cycle tagOk, Keeps (.dataSlotReceive slot cycle tagOk) [.que, .pair, .trg, .mrk] [.cell (F.QUE_Q_DEPTH_LEVEL 13),
    .cell (F.QUE_Q_DEPTH_LEVEL 5), .cell (F.QUE_Q_HWM 13), .cell (F.QUE_Q_HWM 5), .cell (F.QUE_Q_LOST 5),
    .cell (F.TRG_MEMBERS (slot.src / 32)), .cell F.TRG_AUTH_FAIL] reachEvent) ∧
  (∀ code arg, Keeps (.squallEvent code arg) [.que, .trg] [] reachEvent) ∧
  (∀ cycle, Keeps (.squallSend cycle) [.trg] [.cell F.TRG_SQUALL_DEFER]) ∧
  (∀ frame tagOk, Keeps (.squallReceive frame tagOk) [.que, .sht, .trg, .mrk] [.cell F.TRG_AUTH_FAIL, .family (F.SHT_LOOP_MODE_NEXT 0),
    .family (F.SHT_LOOP_MODE_STOPPING 0)] reachEvent) ∧
  (∀ port, Keeps (.linkBreak port) [.que, .bar, .sht, .trg, .mrk] [.cell F.TRG_BREAKS, .cell F.TRG_NEIGHBOUR_PORT_1,
    .cell F.TRG_NEIGHBOUR_PORT_2, .cell F.TRG_STATUS_WRAP_1, .cell F.TRG_STATUS_WRAP_2, .family (F.SHT_LOOP_MODE_NEXT 0),
    .family (F.SHT_LOOP_MODE_STOPPING 0)] reachEvent) ∧
  (∀ port, Keeps (.ringUnwrap port) [.que, .sht, .trg, .mrk] [.cell F.TRG_STATUS_WRAP_1, .cell F.TRG_STATUS_WRAP_2,
    .family (F.SHT_LOOP_MODE_NEXT 0), .family (F.SHT_LOOP_MODE_STOPPING 0)] reachEvent) ∧
  (∀ time, Keeps (.provisionalMaster time) [.que, .pair, .trg, .th, .drawn] [.cell F.CLK_AON_STATUS_POR, .cell F.PAIR_BULK_ITEMS,
    .cell F.PAIR_STATUS_PARTNER_CLAIM, .cell F.PAIR_STATUS_STATE, .cell F.PAT_PARTNER_SERIAL, .cell F.SYS_START_PHASE,
    .cell F.SYS_START_TIME, .cell F.TRG_STATUS_KEYED, .cell F.TRG_STATUS_MASTER, .family (F.TRG_MEMBERS 0)] reachEvent) ∧
  (∀ offset calendar locked port, Keeps (.ptpSync offset calendar locked port) [.trg, .bil] [.cell F.TRG_CAL_OFFSET_HI,
    .cell F.TRG_CAL_OFFSET_LO, .cell F.TRG_CAL_STATUS_PROVEN, .cell F.TRG_CAL_STATUS_PTP_LOCK, .cell F.TRG_CAL_STATUS_PTP_PORT,
    .cell F.TRG_CAL_STATUS_STEP_COUNT, .cell F.TRG_CAL_STATUS_VALID, .cell F.TRG_PTP_OFFSET]) ∧
  (Keeps .ptpSyncTimeout [.trg] [.cell F.TRG_CAL_STATUS_PROVEN]) ∧
  (∀ dirB, Keeps (.joinRequest dirB) [.trg] []) ∧
  (∀ windowA windowB, Keeps (.joinWindowTake windowA windowB) [.que, .trg, .drawn] [.cell (F.QUE_Q_DEPTH_LEVEL 4),
    .cell (F.QUE_Q_HWM 4), .cell F.QUE_STATUS_FULL, .cell F.QUE_STATUS_NONEMPTY]) ∧
  (∀ nonce, Keeps (.joinChalReceive nonce) [.que, .pat, .pair, .trg, .shadow, .tbuf] [.all]) ∧
  (∀ addr response, Keeps (.joinResponseCheck addr response) [.que, .trg] [.cell (F.QUE_Q_DEPTH_LEVEL 4), .cell (F.QUE_Q_HWM 4),
    .cell F.KEY_JOBS] reachEvent) ∧
  (Keeps .joinRetry [.trg] [.cell F.KEY_STATUS_JOIN_FAIL]) ∧
  (∀ epoch wrapped next, Keeps (.ringKeyReceive epoch wrapped next) [.trg] [.cell F.KEY_JOBS, .cell F.TRG_STATUS_KEYED]) ∧
  (∀ epoch wrapped, Keeps (.rekeyDeliveryReceive epoch wrapped) [.trg] [.cell F.KEY_JOBS]) ∧
  (∀ side key, Keeps (.leaveCommand side key) [.hbi, .trg] [] reachKeyed) ∧
  (∀ addr, Keeps (.declaredLeave addr) [.que, .trg, .mrk] [.cell (F.QUE_Q_DEPTH_LEVEL 13), .cell (F.QUE_Q_HWM 13),
    .cell (F.TRG_MEMBERS (addr / 32))] reachEvent) ∧
  (∀ side key, Keeps (.rekeyCommand side key) [.hbi, .que, .trg, .drawn] [.cell (F.QUE_Q_DEPTH_LEVEL 4), .cell (F.QUE_Q_HWM 4),
    .cell F.QUE_STATUS_FULL, .cell F.QUE_STATUS_NONEMPTY] reachKeyed) ∧
  (Keeps .rekeyDue [.que, .trg, .drawn] [.cell (F.QUE_Q_DEPTH_LEVEL 4), .cell (F.QUE_Q_HWM 4), .cell F.QUE_STATUS_FULL,
    .cell F.QUE_STATUS_NONEMPTY]) ∧
  (∀ time, Keeps (.epochAdvance time) [.trg] [])

/-- What the commands of the pair link, votes and hand-over leave unchanged. A command of the pair link, votes and hand-over changes no
waiting command, no part of the state and no register cell outside those named for it: the registers of an array that its operand does
not name, every other register, live or not, and every other unit of the block stay as they were. Where a command runs a safe boundary,
BS and LV fields may change. Rests on R404, R406, R408, R412, R416, R419, R423. -/
def Obligations.FrameOfPair : Prop :=
  (∀ time, Keeps (.pairFrameSend time) [.hbi, .que, .bar, .sys, .pat, .gd, .sht, .prt, .pair, .trg, .mrk, .th, .clk, .met, .key, .saf,
    .vlk, .shadow, .tbuf] [.family (F.PRT_GRP_STATE_UNEXPLAINED 0), .family (F.SAF_CONN_STATUS_SEQ 0)] (reachWithdraw ++
    reachBoundary ++ reachReset)) ∧
  (∀ frame time, Keeps (.pairShadowFrame frame time) [.hbi, .que, .bar, .sys, .pat, .gd, .sht, .prt, .pair, .trg, .mrk, .th, .clk, .met,
    .bil, .key, .saf, .vlk, .shadow, .tbuf] [.cell F.KEY_GEN_PAIR_PAIR, .cell F.PAIR_BULK_ITEMS, .cell F.PAIR_LAST_TIME_HI,
    .cell F.PAIR_LAST_TIME_LO, .cell F.PAIR_SHADOW_AGE_MAX, .cell F.PAIR_STATUS_LINK, .cell F.PAIR_STATUS_PARTNER_CLAIM,
    .cell F.PAIR_SWITCHOVERS, .cell F.PAT_PARTNER_SERIAL, .cell F.VLK_STATUS_STATE, .family (F.GDI_HB_OMIT 0),
    .family (F.PRT_GRP_STATE_LEGS 0), .family (F.PRT_GRP_STATE_TRIES 0), .family (F.PRT_GRP_STATE_UNEXPLAINED 0),
    .family (F.PRT_GRP_TRIP_TIME_HI 0), .family (F.PRT_GRP_TRIP_TIME_LO 0), .family (F.PRT_HB_STATUS_FAULTED 0),
    .family (F.SHT_LOOP_MODE_NEXT 0), .family (F.SHT_LOOP_MODE_NOW 0), .family (F.SHT_LOOP_MODE_STOPPING 0),
    .family (F.SHT_LOOP_STATUS_ATTRIB 0)] (reachWithdraw ++ reachLock ++ reachReset)) ∧
  (∀ head prot safety uv time, Keeps (.pairSafetyFrame head prot safety uv time) [.que, .bar, .sys, .gd, .sht, .prt, .pair, .trg, .mrk,
    .th, .met, .bil, .saf, .vlk] [.cell F.PAIR_BULK_ITEMS, .cell F.PAIR_LAST_TIME_HI, .cell F.PAIR_LAST_TIME_LO,
    .cell F.PAIR_STATUS_LINK, .cell F.PAIR_STATUS_PARTNER_CLAIM, .cell F.PAIR_SWITCHOVERS, .cell F.PAT_PARTNER_SERIAL,
    .cell F.SAF_STATUS_PARTNER_ABSENT, .family (F.PRT_GRP_STATE_LEGS 0), .family (F.PRT_GRP_STATE_TRIES 0),
    .family (F.PRT_GRP_STATE_UNEXPLAINED 0), .family (F.PRT_GRP_TRIP_TIME_HI 0), .family (F.PRT_GRP_TRIP_TIME_LO 0),
    .family (F.PRT_HB_STATUS_FAULTED 0), .family (F.SAF_CONN_ERR 0), .family (F.SAF_CONN_STATUS_SEQ 0),
    .family (F.SAF_CONN_STATUS_STATE 0), .family (F.SHT_LOOP_MODE_NEXT 0), .family (F.SHT_LOOP_MODE_NOW 0),
    .family (F.SHT_LOOP_MODE_STOPPING 0)] (reachSafety ++ reachClaim ++ reachLock)) ∧
  (∀ item time, Keeps (.heartbeatMissed item time) [.que, .pair, .trg] [.cell F.CLK_AON_STATUS_POR, .cell F.PAIR_MISSED,
    .cell F.PAIR_STATUS_LINK, .cell F.PAIR_STATUS_STATE, .cell F.PAT_PARTNER_SERIAL, .cell F.SYS_START_PHASE,
    .cell F.SYS_START_TIME] reachEvent) ∧
  (∀ digest image serial addr time, Keeps (.pairItemRoleDigest digest image serial addr time) [.que, .bar, .sys, .pat, .gd, .sht, .prt,
    .pair, .trg, .mrk, .th, .met, .bil, .vlk] [.cell F.PAIR_BULK_ITEMS, .cell F.PAIR_LAST_TIME_HI, .cell F.PAIR_LAST_TIME_LO,
    .cell F.PAIR_STATUS_PARTNER_CLAIM, .cell F.PAIR_SWITCHOVERS, .cell F.PAT_PARTNER_SERIAL, .cell F.PAT_STATUS_MIXED,
    .cell F.VLK_STATUS_STATE, .family (F.GDI_HB_STATUS_HELD_OFF 0), .family (F.PRT_GRP_TRIP_TIME_HI 0),
    .family (F.PRT_GRP_TRIP_TIME_LO 0), .family (F.SHT_LOOP_MODE_NEXT 0), .family (F.SHT_LOOP_MODE_NOW 0),
    .family (F.SHT_LOOP_MODE_STOPPING 0)] (reachClaim ++ reachEvent)) ∧
  (∀ close sid time source, Keeps (.pairItemSessionMark close sid time source) [.que, .pair] [.cell (F.QUE_Q_DEPTH_LEVEL 1),
    .cell (F.QUE_Q_HWM 1), .cell F.PAIR_BULK_ITEMS, .cell F.QUE_STATUS_FULL, .cell F.QUE_STATUS_NONEMPTY]) ∧
  (∀ imp exp complete unbooked closed, Keeps (.pairItemSessionValues imp exp complete unbooked closed) [.que,
    .pair] [.cell (F.QUE_Q_DEPTH_LEVEL 1), .cell (F.QUE_Q_HWM 1), .cell F.MET_PARTNER_EXP_HI, .cell F.MET_PARTNER_EXP_LO,
    .cell F.MET_PARTNER_IMP_HI, .cell F.MET_PARTNER_IMP_LO, .cell F.PAIR_BULK_ITEMS, .cell F.QUE_STATUS_FULL,
    .cell F.QUE_STATUS_NONEMPTY]) ∧
  (∀ phase, Keeps (.pairItemImdPhase phase) [.pair, .met] [.cell F.PAIR_BULK_ITEMS]) ∧
  (∀ session, Keeps (.pairItemVehicleSession session) [.pair, .vlk] [.cell F.PAIR_BULK_ITEMS, .cell F.VLK_SESSION_ID_HI,
    .cell F.VLK_SESSION_ID_LO, .cell F.VLK_STATUS_AUTH, .cell F.VLK_STATUS_BPT, .cell F.VLK_STATUS_CONTROL,
    .cell F.VLK_STATUS_PROTOCOL, .cell F.VLK_STATUS_SHADOW_OK, .cell F.VLK_STATUS_STATE]) ∧
  (∀ tc m b, Keeps (.pairItemObserver tc m b) [.pair, .th] [.cell F.PAIR_BULK_ITEMS]) ∧
  (∀ values, Keeps (.pairItemMrkValues values) [.pair, .shadow, .tbuf] [.all]) ∧
  (∀ fig role, Keeps (.pairItemRoleFigures fig role) [.bar, .sys, .sht, .pair, .vlk] [.cell F.PAIR_BULK_ITEMS,
    .family (F.SHT_LOOP_MODE_NEXT 0), .family (F.SHT_LOOP_MODE_STOPPING 0)]) ∧
  (∀ level time, Keeps (.pairLockInput level time) [.hbi, .que, .bar, .sys, .pat, .gd, .sht, .prt, .pair, .trg, .mrk, .th, .clk, .met,
    .key, .saf, .vlk, .shadow, .tbuf] [.cell F.PAIR_STATUS_PL_IN] (reachClaim ++ reachReset)) ∧
  (∀ cold src inst claim time, Keeps (.voteRequestReceive cold src inst claim time) [.pair, .trg] [.cell F.PAIR_WIT_GRANTS]) ∧
  (∀ inst target claim time, Keeps (.voteGrantReceive inst target claim time) [.que, .bar, .sys, .gd, .sht, .prt, .pair, .trg, .mrk,
    .met, .bil, .vlk] [.cell F.PAIR_LAST_TIME_HI, .cell F.PAIR_LAST_TIME_LO, .cell F.PAIR_SWITCHOVERS, .cell F.PAIR_VOTES_GRANTED,
    .cell F.VLK_STATUS_STATE, .family (F.GDI_HB_STATUS_HELD_OFF 0), .family (F.PRT_GRP_TRIP_TIME_HI 0),
    .family (F.PRT_GRP_TRIP_TIME_LO 0), .family (F.SHT_LOOP_MODE_NEXT 0), .family (F.SHT_LOOP_MODE_NOW 0),
    .family (F.SHT_LOOP_MODE_STOPPING 0)] (reachClaim ++ reachEvent)) ∧
  (∀ inst target reason, Keeps (.voteDenyReceive inst target reason) [.que, .pair, .trg] [.cell F.CLK_AON_STATUS_POR,
    .cell F.PAIR_STATUS_STATE, .cell F.PAIR_VOTES_DENIED, .cell F.SYS_START_PHASE, .cell F.SYS_START_TIME] reachEvent) ∧
  (Keeps .voteRetry [.que, .pair, .trg] [.cell F.PAIR_STATUS_NO_VOTE] reachEvent) ∧
  (Keeps .coldRequestDue [.pair, .trg] []) ∧
  (∀ side key, Keeps (.pairHandover side key) [.hbi, .pair] [] reachKeyed) ∧
  (Keeps .handoverTimeout [.pat, .pair] [.cell F.PAT_UPD_STATUS_RESULT]) ∧
  (Keeps .standbyHotEntry [] [.cell F.CLK_AON_STATUS_POR, .cell F.PAIR_STATUS_STATE, .cell F.SYS_START_PHASE, .cell F.SYS_START_TIME])

/-- What the commands of the Marker and the stacks and outlets that follow it leave unchanged. A command of the Marker and the stacks and
outlets that follow it changes no waiting command, no part of the state and no register cell outside those named for it: the registers
of an array that its operand does not name, every other register, live or not, and every other unit of the block stay as they were.
Where a command runs a safe boundary, BS and LV fields may change. Rests on R115, R117, R120, R135, R138, R139, R142, R144. -/
def Obligations.FrameOfMarker : Prop :=
  (∀ time, Keeps (.markerCycleStart time) [.hbi, .que, .pat, .sht, .pair, .trg, .mrk, .clk, .saf] [.cell F.MRK_DISCARDS,
    .cell F.MRK_LOCAL_COLUMN, .cell F.MRK_LOCAL_MODE, .cell F.MRK_PLAN_NO, .cell F.MRK_STATUS_CURTAILED, .cell F.MRK_STATUS_DEGRADED,
    .cell F.MRK_STATUS_DEMAND_BOUND, .family (F.SHT_LOOP_MODE_NEXT 0), .family (F.SHT_LOOP_MODE_STOPPING 0)] reachBoundary) ∧
  (∀ updating, Keeps (.solveComplete updating) [.que, .pair, .trg, .mrk] [.cell (F.QUE_Q_DEPTH_LEVEL 4), .cell (F.QUE_Q_DEPTH_LEVEL 6),
    .cell (F.QUE_Q_HWM 4), .cell (F.QUE_Q_HWM 6), .cell F.MRK_STATUS_NO_WITNESS, .cell F.MRK_STATUS_REPLICA_SHORT,
    .cell F.MRK_STATUS_SUBOPTIMAL, .cell F.PAIR_IDENT_WITNESS, .cell F.PAIR_STATUS_UNWITNESSED, .cell F.QUE_STATUS_FULL,
    .cell F.QUE_STATUS_NONEMPTY, .family (F.MRK_DUTY_FAR 0), .family (F.MRK_DUTY_HOPS 0), .family (F.MRK_DUTY_WITNESS 0),
    .family (F.MRK_OUT_STATE_I_MAX 0), .family (F.MRK_OUT_STATE_STACKS 0), .family (F.MRK_REPLICA_HOLDER_1 0),
    .family (F.MRK_REPLICA_HOLDER_2 0), .family (F.MRK_REPLICA_SHORT 0), .family (F.MRK_STACK_STATE_COLUMN 0),
    .family (F.MRK_STACK_STATE_LULL 0), .family (F.MRK_STACK_STATE_MODE 0), .family (F.MRK_STACK_STATE_PIN_ERR 0),
    .family (F.MRK_STACK_STATE_SHARE 0)]) ∧
  (∀ best updating, Keeps (.solveDeadline best updating) [.que, .pair, .trg, .mrk] [.cell (F.QUE_Q_DEPTH_LEVEL 4),
    .cell (F.QUE_Q_DEPTH_LEVEL 6), .cell (F.QUE_Q_HWM 4), .cell (F.QUE_Q_HWM 6), .cell F.MRK_OVERRUNS, .cell F.MRK_STATUS_NO_WITNESS,
    .cell F.MRK_STATUS_REPLICA_SHORT, .cell F.MRK_STATUS_SUBOPTIMAL, .cell F.PAIR_IDENT_WITNESS, .cell F.PAIR_STATUS_UNWITNESSED,
    .cell F.QUE_STATUS_FULL, .cell F.QUE_STATUS_NONEMPTY, .family (F.MRK_DUTY_FAR 0), .family (F.MRK_DUTY_HOPS 0),
    .family (F.MRK_DUTY_WITNESS 0), .family (F.MRK_OUT_STATE_I_MAX 0), .family (F.MRK_OUT_STATE_STACKS 0),
    .family (F.MRK_REPLICA_HOLDER_1 0), .family (F.MRK_REPLICA_HOLDER_2 0), .family (F.MRK_REPLICA_SHORT 0),
    .family (F.MRK_STACK_STATE_COLUMN 0), .family (F.MRK_STACK_STATE_LULL 0), .family (F.MRK_STACK_STATE_MODE 0),
    .family (F.MRK_STACK_STATE_PIN_ERR 0), .family (F.MRK_STACK_STATE_SHARE 0)]) ∧
  (∀ curve, Keeps (.reportSample curve) [.que, .bar, .sht, .mrk] [.cell (F.QUE_Q_DEPTH_LEVEL 4), .cell (F.QUE_Q_HWM 4),
    .cell F.QUE_STATUS_FULL, .cell F.QUE_STATUS_NONEMPTY]) ∧
  (∀ time report, Keeps (.stackStatusReceive time report) [.mrk] [.cell (F.MRK_STACK_STATE_AVAILABLE report.row),
    .cell (F.MRK_STACK_STATE_QUARANTINE report.row)]) ∧
  (∀ time row curve, Keeps (.stackCurveReceive time row curve) [.mrk] []) ∧
  (∀ time report, Keeps (.outletStatusReceive time report) [.mrk] []) ∧
  (∀ plan src, Keeps (.planReceive plan src) [.mrk] [.family (F.MRK_OUT_STATE_I_MAX 0), .family (F.MRK_OUT_STATE_STACKS 0),
    .family (F.MRK_STACK_STATE_COLUMN 0), .family (F.MRK_STACK_STATE_MODE 0), .family (F.MRK_STACK_STATE_SHARE 0)]) ∧
  (∀ time, Keeps (.planTack time) [.hbi, .que, .pat, .trg, .mrk, .saf, .tbuf] [.cell F.MRK_LOCAL_MISSED] reachBoundary) ∧
  (∀ duty src, Keeps (.dutyReceive duty src) [.que, .pair, .trg, .mrk] [.cell (F.QUE_Q_DEPTH_LEVEL 4), .cell (F.QUE_Q_HWM 4),
    .cell F.MRK_STATUS_NO_WITNESS, .cell F.MRK_STATUS_REPLICA_SHORT, .cell F.PAIR_IDENT_WITNESS, .cell F.PAIR_STATUS_UNWITNESSED,
    .cell F.QUE_STATUS_FULL, .cell F.QUE_STATUS_NONEMPTY, .family (F.MRK_DUTY_FAR 0), .family (F.MRK_DUTY_HOPS 0),
    .family (F.MRK_DUTY_WITNESS 0), .family (F.MRK_REPLICA_HOLDER_1 0), .family (F.MRK_REPLICA_HOLDER_2 0),
    .family (F.MRK_REPLICA_SHORT 0)]) ∧
  (∀ cycle time, Keeps (.demandSend cycle time) [.que, .mrk, .vlk] [.cell (F.QUE_Q_DEPTH_LEVEL 4), .cell (F.QUE_Q_HWM 4),
    .cell F.QUE_STATUS_FULL, .cell F.QUE_STATUS_NONEMPTY]) ∧
  (∀ demand, Keeps (.demandReceive demand) [.sht, .mrk] [.family (F.SHT_LOOP_MODE_NEXT 0), .family (F.SHT_LOOP_MODE_STOPPING 0)]) ∧
  (∀ time, Keeps (.demandLost time) [.mrk] []) ∧
  (∀ cycle time iLead, Keeps (.leadSend cycle time iLead) [.que, .mrk] [.cell (F.QUE_Q_DEPTH_LEVEL 4), .cell (F.QUE_Q_HWM 4),
    .cell F.QUE_STATUS_FULL, .cell F.QUE_STATUS_NONEMPTY]) ∧
  (∀ lead, Keeps (.leadReceive lead) [.mrk] []) ∧
  (∀ time, Keeps (.leadLost time) [.mrk] []) ∧
  (∀ time, Keeps (.leaseRampStart time) [.mrk] []) ∧
  (∀ time, Keeps (.leaseExpiry time) [.que, .bar, .sht, .trg, .mrk] [.cell F.MRK_LOCAL_COLUMN, .family (F.SHT_LOOP_MODE_NEXT 0),
    .family (F.SHT_LOOP_MODE_STOPPING 0)] reachEvent) ∧
  (Keeps .connectVoltageMatched [.bar, .mrk] []) ∧
  (Keeps .connectMatchTimeout [.que, .bar, .sht, .trg, .mrk] [.family (F.SHT_LOOP_MODE_NEXT 0),
    .family (F.SHT_LOOP_MODE_STOPPING 0)] reachEvent) ∧
  (Keeps .xpAuxClosed [.mrk] []) ∧
  (Keeps .xpAuxCloseTimeout [.que, .bar, .sht, .trg, .mrk] [.family (F.SHT_LOOP_MODE_NEXT 0),
    .family (F.SHT_LOOP_MODE_STOPPING 0)] reachEvent) ∧
  (Keeps .xpDebounceEnd [.sht, .mrk] [.cell F.MRK_LOCAL_COLUMN, .family (F.SHT_LOOP_MODE_NEXT 0), .family (F.SHT_LOOP_MODE_STOPPING 0)]) ∧
  (∀ time, Keeps (.rampOutZeroHeld time) [.bar, .mrk] []) ∧
  (∀ time, Keeps (.releaseFail time) [.que, .trg, .mrk] [] reachEvent) ∧
  (Keeps .xpAuxOpen [.mrk] []) ∧
  (∀ row col, Keeps (.quarantineEnd row col) [.mrk] [.cell (F.MRK_STACK_STATE_QUARANTINE row)]) ∧
  (∀ side value, Keeps (.curtailWrite side value) [.hbi, .pair, .mrk] [.cell F.MRK_CURTAIL_KW, .cell F.MRK_STATUS_CURTAILED,
    .cell F.MRK_STATUS_DEMAND_BOUND] reachKeyed) ∧
  (Keeps .curtailLapse [.pair] [.cell F.MRK_CURTAIL_KW, .cell F.MRK_STATUS_CURTAILED, .cell F.MRK_STATUS_DEMAND_BOUND]) ∧
  (∀ side key, Keeps (.mrkHoldOn side key) [.hbi] [.cell F.MRK_STATUS_HOLD] reachKeyed) ∧
  (∀ side key, Keeps (.mrkHoldOff side key) [.hbi] [.cell F.MRK_STATUS_HOLD] reachKeyed) ∧
  (∀ side key, Keeps (.mrkReplan side key) [.hbi, .mrk] [] reachKeyed) ∧
  (∀ target src, Keeps (.wakeReceive target src) [.mrk, .clk] [.cell F.CLK_LULL_STATUS_STATE, .cell F.CLK_LULL_STATUS_WAKE_CAUSE,
    .cell F.CLK_WAKE_TIME_HI, .cell F.CLK_WAKE_TIME_LO]) ∧
  (∀ addr, Keeps (.wakeJoinTimeout addr) [.mrk] []) ∧
  (∀ owner block seq bytes, Keeps (.replicaWriteReceive owner block seq bytes) [.que, .mrk] [.cell (F.QUE_Q_DEPTH_LEVEL 4),
    .cell (F.QUE_Q_HWM 4), .cell (F.QUE_Q_LOST 4), .cell F.QUE_STATUS_FULL, .cell F.QUE_STATUS_NONEMPTY]) ∧
  (∀ holder seq, Keeps (.replicaAckReceive holder seq) [.bil] [])

/-- What the commands of loops, generators, gate drive and protection leave unchanged. A command of loops, generators, gate drive and
protection changes no waiting command, no part of the state and no register cell outside those named for it: the registers of an array
that its operand does not name, every other register, live or not, and every other unit of the block stay as they were. Where a command
runs a safe boundary, BS and LV fields may change. Rests on R173, R177, R197, R213, R230, R240, R250, R257, R265. -/
def Obligations.FrameOfPowerStage : Prop :=
  (∀ groups, Keeps (.pairItemPrtReset groups) [.gd, .sht, .prt, .pair] [.cell F.GDI_STATUS_DRIVE, .cell F.PAIR_STATUS_PL_OUT,
    .cell F.PRT_STATUS_HELD, .cell F.PRT_STATUS_LOCKOUT, .family (F.GDI_CH_SEG_END_OFF 0), .family (F.GDI_CH_SEG_END_ON 0),
    .family (F.GDI_CH_STATUS_STATE 0), .family (F.GDI_HB_OMIT 0), .family (F.GDI_HB_STATUS_HELD_OFF 0),
    .family (F.GDI_HB_STATUS_HIGH_ON 0), .family (F.GDI_HB_STATUS_LOW_ON 0), .family (F.PRT_GRP_STATE_MULTI 0),
    .family (F.PRT_GRP_STATE_STATE 0), .family (F.PRT_GRP_STATE_TRIES 0), .family (F.PRT_GRP_WAIT_LEFT 0),
    .family (F.SHT_LOOP_MODE_NEXT 0), .family (F.SHT_LOOP_MODE_STOPPING 0)]) ∧
  (∀ m k, Keeps (.adcTrigger m k) [.sht] []) ∧
  (∀ m k a, Keeps (.adcTriggerDeferred m k a) [.sht] [.cell (F.PWM_ADC_DEFER a.val)]) ∧
  (∀ m codes vOut iOut pos zero time, Keeps (.conversionEnd m codes vOut iOut pos zero time) [.hbi, .que, .pat, .gd, .sht, .pair, .trg,
    .saf, .drawn] [.cell (F.QUE_Q_DEPTH_LEVEL 15), .cell (F.QUE_Q_HWM 15), .cell (F.QUE_Q_LOST 15), .cell (F.SHT_LOOP_HITS m.val),
    .cell (F.SHT_LOOP_HO_COUNT_ABANDONED m.val), .cell (F.SHT_LOOP_HO_COUNT_DONE m.val), .cell (F.SHT_LOOP_LATE m.val),
    .cell (F.SHT_LOOP_MISSES m.val), .cell (F.SHT_LOOP_MODE_EXPORT_DENIED m.val), .cell (F.SHT_LOOP_MODE_HO_FAIL m.val),
    .cell (F.SHT_LOOP_MODE_NEXT m.val), .cell (F.SHT_LOOP_MODE_NOW m.val), .cell (F.SHT_LOOP_MODE_STEP m.val),
    .cell (F.SHT_LOOP_MODE_STOPPING m.val), .cell (F.SHT_LOOP_RESIDUAL m.val), .cell (F.SHT_LOOP_STATUS_BLEND m.val),
    .cell (F.SHT_LOOP_STATUS_BW_NOW m.val), .cell (F.SHT_LOOP_STATUS_HOLD_OFF m.val), .cell (F.SHT_LOOP_STATUS_REGION m.val),
    .cell F.GDI_STATUS_DRIVE, .family (F.GDI_CH_SEG_END_OFF 0), .family (F.GDI_CH_SEG_END_ON 0), .family (F.GDI_CH_STATUS_STATE 0),
    .family (F.GDI_HB_OMIT 0), .family (F.GDI_HB_STATUS_HELD_OFF 0), .family (F.GDI_HB_STATUS_HIGH_ON 0),
    .family (F.GDI_HB_STATUS_LOW_ON 0), .family (F.PWM_ADC_RESULT 0), .family (F.PWM_HB_CMP_OFF_CMP_OFF 0),
    .family (F.PWM_HB_CMP_ON_CMP_ON 0), .family (F.PWM_HB_COUNT_POSITION 0), .family (F.PWM_HB_STATUS_OUT 0),
    .family (F.SHT_LANE_STATUS_SLACK 0), .family (F.SHT_RC_PERIOD_NOW 0), .family (F.SHT_RC_PHASE 0),
    .family (F.SHT_RC_STATUS_FADING 0), .family (F.SHT_RC_STATUS_FREEZE 0), .family (F.SHT_RC_STATUS_LEARNING 0),
    .family (F.SHT_RC_STATUS_LOCKED 0)] reachBoundary) ∧
  (∀ m pos zero time, Keeps (.exactCommit m pos zero time) [.hbi, .que, .bar, .sys, .pat, .gd, .sht, .prt, .pair, .trg, .mrk, .th, .clk,
    .met, .key, .saf, .vlk, .shadow, .tbuf] [.cell (F.QUE_Q_DEPTH_LEVEL 15), .cell (F.QUE_Q_HWM 15), .cell (F.QUE_Q_LOST 15),
    .cell (F.SHT_LOOP_HITS m.val), .cell (F.SHT_LOOP_HO_COUNT_ABANDONED m.val), .cell (F.SHT_LOOP_HO_COUNT_DONE m.val),
    .cell (F.SHT_LOOP_LATE m.val), .cell (F.SHT_LOOP_MISSES m.val), .cell (F.SHT_LOOP_MODE_EXPORT_DENIED m.val),
    .cell (F.SHT_LOOP_MODE_HO_FAIL m.val), .cell (F.SHT_LOOP_MODE_NEXT m.val), .cell (F.SHT_LOOP_MODE_NOW m.val),
    .cell (F.SHT_LOOP_MODE_STEP m.val), .cell (F.SHT_LOOP_MODE_STOPPING m.val), .cell (F.SHT_LOOP_RESIDUAL m.val),
    .cell (F.SHT_LOOP_STATUS_BLEND m.val), .cell (F.SHT_LOOP_STATUS_BW_NOW m.val), .cell (F.SHT_LOOP_STATUS_HOLD_OFF m.val),
    .cell (F.SHT_LOOP_STATUS_NONFINITE m.val), .cell (F.SHT_LOOP_STATUS_REGION m.val), .cell F.SHT_STATUS_NONFINITE,
    .family (F.GDI_HB_OMIT 0), .family (F.GDI_HB_STATUS_HELD_OFF 0), .family (F.PWM_HB_CMP_OFF_CMP_OFF 0),
    .family (F.PWM_HB_CMP_ON_CMP_ON 0), .family (F.PWM_HB_COUNT_POSITION 0), .family (F.PWM_HB_STATUS_OUT 0),
    .family (F.SHT_LANE_STATUS_SLACK 0), .family (F.SHT_RC_PERIOD_NOW 0), .family (F.SHT_RC_PHASE 0),
    .family (F.SHT_RC_STATUS_FADING 0), .family (F.SHT_RC_STATUS_FREEZE 0), .family (F.SHT_RC_STATUS_LEARNING 0),
    .family (F.SHT_RC_STATUS_LOCKED 0)] (reachWithdraw ++ reachBoundary ++ reachReset)) ∧
  (∀ m, Keeps (.bwWindowEnd m) [.sht] [.cell (F.SHT_LOOP_STATUS_BW_NOW m.val)]) ∧
  (∀ m c frame, Keeps (.plausibilityAttribute m c frame) [.hbi, .que, .bar, .sys, .pat, .gd, .sht, .prt, .pair, .trg, .mrk, .th, .clk,
    .met, .key, .saf, .vlk, .shadow, .tbuf] [.cell (F.SHT_LOOP_MODE_NEXT m.val), .cell (F.SHT_LOOP_MODE_STOPPING m.val),
    .cell (F.SHT_LOOP_STATUS_ATTRIB m.val), .cell (F.SHT_LOOP_STATUS_PLS_FAULT m.val),
    .family (F.GDI_HB_STATUS_HELD_OFF 0)] (reachWithdraw ++ reachReset)) ∧
  (∀ side m, Keeps (.plsFaultClear side m) [.hbi, .gd] [.cell (F.SHT_LOOP_STATUS_PLS_FAULT m.val), .cell F.GDI_STATUS_DRIVE,
    .family (F.GDI_CH_SEG_END_OFF 0), .family (F.GDI_CH_SEG_END_ON 0), .family (F.GDI_CH_STATUS_STATE 0), .family (F.GDI_HB_OMIT 0),
    .family (F.GDI_HB_STATUS_HELD_OFF 0), .family (F.GDI_HB_STATUS_HIGH_ON 0), .family (F.GDI_HB_STATUS_LOW_ON 0)] reachKeyed) ∧
  (∀ h err codes, Keeps (.counterReload h err codes) [.hbi, .que, .pat, .gd, .trg, .saf] [.cell (F.GDI_CH_SEG_END_OFF (2 * h.val + 1)),
    .cell (F.GDI_CH_SEG_END_OFF (2 * h.val)), .cell (F.GDI_CH_SEG_END_ON (2 * h.val + 1)), .cell (F.GDI_CH_SEG_END_ON (2 * h.val)),
    .cell (F.GDI_CH_STATUS_STATE (2 * h.val + 1)), .cell (F.GDI_CH_STATUS_STATE (2 * h.val)), .cell (F.GDI_HB_OMIT h.val),
    .cell (F.GDI_HB_STATUS_HIGH_ON h.val), .cell (F.GDI_HB_STATUS_LOW_ON h.val), .cell (F.PWM_HB_COUNT_POSITION h.val),
    .cell (F.PWM_HB_STATUS_ALIGNED h.val), .cell (F.PWM_HB_STATUS_OUT h.val), .cell F.GDI_STATUS_DRIVE,
    .family (F.PWM_ADC_RESULT 0)] reachBoundary) ∧
  (∀ h pos, Keeps (.pwmCommandChange h pos) [.gd] [.cell (F.GDI_CH_SEG_END_OFF (2 * h.val + 1)),
    .cell (F.GDI_CH_SEG_END_OFF (2 * h.val)), .cell (F.GDI_CH_SEG_END_ON (2 * h.val + 1)), .cell (F.GDI_CH_SEG_END_ON (2 * h.val)),
    .cell (F.GDI_CH_STATUS_STATE (2 * h.val + 1)), .cell (F.GDI_CH_STATUS_STATE (2 * h.val)), .cell (F.GDI_HB_OMIT h.val),
    .cell (F.GDI_HB_STATUS_HIGH_ON h.val), .cell (F.GDI_HB_STATUS_LOW_ON h.val), .cell (F.PWM_HB_COUNT_POSITION h.val),
    .cell (F.PWM_HB_STATUS_OUT h.val), .cell F.GDI_STATUS_DRIVE]) ∧
  (∀ h interval, Keeps (.deadTimeEnd h interval) [.gd] [.cell (F.GDI_CH_SEG_END_OFF (2 * h.val + 1)),
    .cell (F.GDI_CH_SEG_END_OFF (2 * h.val)), .cell (F.GDI_CH_SEG_END_ON (2 * h.val + 1)), .cell (F.GDI_CH_SEG_END_ON (2 * h.val)),
    .cell (F.GDI_CH_STATUS_STATE (2 * h.val + 1)), .cell (F.GDI_CH_STATUS_STATE (2 * h.val)), .cell (F.GDI_HB_OMIT h.val),
    .cell (F.GDI_HB_STATUS_HIGH_ON h.val), .cell (F.GDI_HB_STATUS_LOW_ON h.val), .cell F.GDI_STATUS_DRIVE]) ∧
  (∀ n byLevel, Keeps (.gateSegmentEnd n byLevel) [.gd] [.cell (F.GDI_CH_SEG_END_OFF n.val), .cell (F.GDI_CH_SEG_END_ON n.val)]) ∧
  (∀ side key m req, Keeps (.modeRequest side key m req) [.hbi, .sht] [.cell (F.SHT_LOOP_MODE_NEXT m.val),
    .cell (F.SHT_LOOP_MODE_STOPPING m.val)] reachKeyed) ∧
  (∀ m time, Keeps (.handoverRetry m time) [.sht] []) ∧
  (∀ m time, Keeps (.stopRampEnd m time) [.sht] []) ∧
  (∀ side m, Keeps (.hoFailClear side m) [.hbi] [.cell (F.SHT_LOOP_MODE_HO_FAIL m.val)] reachKeyed) ∧
  (∀ e time, Keeps (.rcPhaseTimeout e time) [.sht] [.cell (F.SHT_RC_PERIOD_NOW e.val), .cell (F.SHT_RC_STATUS_FADING e.val),
    .cell (F.SHT_RC_STATUS_FREEZE e.val), .cell (F.SHT_RC_STATUS_LEARNING e.val), .cell (F.SHT_RC_STATUS_LOCKED e.val)]) ∧
  (∀ e adc period tenthsDb phase time,
    Keeps (.rcSpectralEval e adc period tenthsDb phase time) [.sht] [.cell (F.SHT_RC_PERIOD_NOW e.val),
    .cell (F.SHT_RC_STATUS_FADING e.val), .cell (F.SHT_RC_STATUS_FREEZE e.val), .cell (F.SHT_RC_STATUS_LEARNING e.val),
    .cell (F.SHT_RC_STATUS_LOCKED e.val)]) ∧
  (∀ e, Keeps (.rcFadeEnd e) [.sht] [.cell (F.SHT_RC_PERIOD_NOW e.val), .cell (F.SHT_RC_STATUS_FADING e.val),
    .cell (F.SHT_RC_STATUS_FREEZE e.val), .cell (F.SHT_RC_STATUS_LEARNING e.val), .cell (F.SHT_RC_STATUS_LOCKED e.val)]) ∧
  (∀ e time, Keeps (.rcPeriodFreezeEnd e time) [.sht] [.cell (F.SHT_RC_PERIOD_NOW e.val), .cell (F.SHT_RC_STATUS_FADING e.val),
    .cell (F.SHT_RC_STATUS_FREEZE e.val), .cell (F.SHT_RC_STATUS_LEARNING e.val), .cell (F.SHT_RC_STATUS_LOCKED e.val)]) ∧
  (∀ side e, Keeps (.rcClear side e) [.hbi, .sht] [] reachKeyed) ∧
  (∀ n vdd vee time, Keeps (.biasUndervoltage n vdd vee time) [.que, .gd, .sht, .prt, .pair, .trg] [.cell (F.GDI_CH_MON_VDD n.val),
    .cell (F.GDI_CH_MON_VEE n.val), .cell (F.GDI_CH_STATUS_UV_VDD n.val), .cell (F.GDI_CH_STATUS_UV_VEE n.val),
    .cell (F.GDI_CH_UV_COUNT n.val), .cell F.GDI_UV_EVENT_CH, .family (F.PRT_GRP_STATE_LEGS 0),
    .family (F.PRT_GRP_STATE_UNEXPLAINED 0), .family (F.PRT_GRP_TRIP_TIME_HI 0), .family (F.PRT_GRP_TRIP_TIME_LO 0),
    .family (F.PRT_HB_STATUS_FAULTED 0)] reachLock) ∧
  (∀ n vdd vee, Keeps (.biasRelease n vdd vee) [.sys, .gd, .sht, .prt, .pair] [.cell (F.GDI_CH_MON_VDD n.val),
    .cell (F.GDI_CH_MON_VEE n.val), .cell (F.GDI_CH_STATUS_UV_VDD n.val), .cell (F.GDI_CH_STATUS_UV_VEE n.val),
    .family (F.PRT_GRP_TEST_DESAT 0), .family (F.PRT_GRP_TEST_HS 0), .family (F.PRT_GRP_TEST_ADC 0), .family (F.PRT_GRP_TEST_GATE 0),
    .family (F.PRT_GRP_TEST_SOFT 0), .family (F.PRT_GRP_TEST_BIAS 0)] reachTest) ∧
  (Keeps .enableOffHoldEnd [.pair] [.cell F.GDA_STATUS_DRIVE, .cell F.GDI_STATUS_DRIVE, .cell F.PAIR_STATUS_PL_OUT,
    .family (F.GDI_CH_STATUS_STATE 0), .family (F.GDI_HB_STATUS_HIGH_ON 0), .family (F.GDI_HB_STATUS_LOW_ON 0)]) ∧
  (∀ n, Keeps (.refreshLoss n) [.gd] [.cell (F.GDI_CH_SEG_END_OFF n.val), .cell (F.GDI_CH_SEG_END_ON n.val),
    .cell (F.GDI_CH_STATUS_ENABLE n.val), .cell (F.GDI_CH_STATUS_LINK n.val), .cell (F.GDI_CH_STATUS_STATE n.val),
    .cell (F.GDI_HB_STATUS_HIGH_ON (n.val / 2)), .cell (F.GDI_HB_STATUS_LOW_ON (n.val / 2)), .cell F.GDI_STATUS_DIE_OK,
    .cell F.GDI_STATUS_DRIVE]) ∧
  (Keeps .auxDrvUndervoltage [.gd] [.cell F.GDA_STATUS_UV_DRV, .family (F.GDA_HB_STATUS_OUT 0)]) ∧
  (Keeps .auxDrvRecover [] [.cell F.GDA_STATUS_UV_DRV]) ∧
  (∀ a recovered, Keeps (.auxPeriodStart a recovered) [.hbi, .que, .pat, .gd, .trg, .saf] [.cell (F.GDA_HB_DUTY_NOW_DUTY a.val),
    .cell (F.GDA_HB_STATUS_BST_UV a.val), .cell (F.GDA_HB_STATUS_CAPPED a.val), .cell (F.GDA_HB_STATUS_OUT a.val),
    .cell (F.GDA_HB_STATUS_REFRESH a.val)] reachBoundary) ∧
  (∀ a, Keeps (.bootstrapUndervoltage a) [.que, .bar, .gd, .trg] [.cell (F.GDA_HB_BST_UV_COUNT a.val),
    .cell (F.GDA_HB_STATUS_BST_UV a.val), .cell (F.GDA_HB_STATUS_OUT a.val)] reachEvent) ∧
  (∀ n now time, Keeps (.desatTrip n now time) [.gd, .sht, .prt] [.cell (F.PRT_CH_STATUS_DESAT_LATCH n.val),
    .cell (F.PRT_CH_STATUS_DESAT_NOW n.val), .cell F.GDI_STATUS_DRIVE, .cell F.PRT_STATUS_HELD, .cell F.PRT_STATUS_LOCKOUT,
    .family (F.GDI_CH_SEG_END_OFF 0), .family (F.GDI_CH_SEG_END_ON 0), .family (F.GDI_CH_STATUS_STATE 0),
    .family (F.GDI_HB_STATUS_HELD_OFF 0), .family (F.GDI_HB_STATUS_HIGH_ON 0), .family (F.GDI_HB_STATUS_LOW_ON 0),
    .family (F.PRT_GRP_STATE_CAUSE 0), .family (F.PRT_GRP_STATE_LEGS 0), .family (F.PRT_GRP_STATE_MULTI 0),
    .family (F.PRT_GRP_STATE_STATE 0), .family (F.PRT_GRP_STATE_UNEXPLAINED 0), .family (F.PRT_GRP_TRIP_TIME_HI 0),
    .family (F.PRT_GRP_TRIP_TIME_LO 0), .family (F.PRT_HB_STATUS_FAULTED 0)]) ∧
  (∀ h now time, Keeps (.hardShortTrip h now time) [.gd, .sht, .prt] [.cell (F.PRT_HB_STATUS_HS_LATCH h.val),
    .cell (F.PRT_HB_STATUS_HS_NOW h.val), .cell F.GDI_STATUS_DRIVE, .cell F.PRT_STATUS_HELD, .cell F.PRT_STATUS_LOCKOUT,
    .family (F.GDI_CH_SEG_END_OFF 0), .family (F.GDI_CH_SEG_END_ON 0), .family (F.GDI_CH_STATUS_STATE 0),
    .family (F.GDI_HB_STATUS_HELD_OFF 0), .family (F.GDI_HB_STATUS_HIGH_ON 0), .family (F.GDI_HB_STATUS_LOW_ON 0),
    .family (F.PRT_GRP_STATE_CAUSE 0), .family (F.PRT_GRP_STATE_LEGS 0), .family (F.PRT_GRP_STATE_MULTI 0),
    .family (F.PRT_GRP_STATE_STATE 0), .family (F.PRT_GRP_STATE_UNEXPLAINED 0), .family (F.PRT_GRP_TRIP_TIME_HI 0),
    .family (F.PRT_GRP_TRIP_TIME_LO 0), .family (F.PRT_HB_STATUS_FAULTED 0)]) ∧
  (∀ a now time, Keeps (.phaseCurrentTrip a now time) [.gd, .sht, .prt] [.cell (F.PRT_ADC_CFG_LATCH a.val),
    .cell (F.PRT_ADC_CFG_NOW a.val), .cell F.GDI_STATUS_DRIVE, .cell F.PRT_STATUS_HELD, .cell F.PRT_STATUS_LOCKOUT,
    .family (F.GDI_CH_SEG_END_OFF 0), .family (F.GDI_CH_SEG_END_ON 0), .family (F.GDI_CH_STATUS_STATE 0),
    .family (F.GDI_HB_STATUS_HELD_OFF 0), .family (F.GDI_HB_STATUS_HIGH_ON 0), .family (F.GDI_HB_STATUS_LOW_ON 0),
    .family (F.PRT_GRP_STATE_CAUSE 0), .family (F.PRT_GRP_STATE_LEGS 0), .family (F.PRT_GRP_STATE_MULTI 0),
    .family (F.PRT_GRP_STATE_STATE 0), .family (F.PRT_GRP_STATE_UNEXPLAINED 0), .family (F.PRT_GRP_TRIP_TIME_HI 0),
    .family (F.PRT_GRP_TRIP_TIME_LO 0), .family (F.PRT_HB_STATUS_FAULTED 0)]) ∧
  (∀ n now time, Keeps (.gateVoltageTrip n now time) [.gd, .sht, .prt] [.cell (F.PRT_CH_STATUS_GV_LATCH n.val),
    .cell (F.PRT_CH_STATUS_GV_NOW n.val), .cell F.GDI_STATUS_DRIVE, .cell F.PRT_STATUS_HELD, .cell F.PRT_STATUS_LOCKOUT,
    .family (F.GDI_CH_SEG_END_OFF 0), .family (F.GDI_CH_SEG_END_ON 0), .family (F.GDI_CH_STATUS_STATE 0),
    .family (F.GDI_HB_STATUS_HELD_OFF 0), .family (F.GDI_HB_STATUS_HIGH_ON 0), .family (F.GDI_HB_STATUS_LOW_ON 0),
    .family (F.PRT_GRP_STATE_CAUSE 0), .family (F.PRT_GRP_STATE_LEGS 0), .family (F.PRT_GRP_STATE_MULTI 0),
    .family (F.PRT_GRP_STATE_STATE 0), .family (F.PRT_GRP_STATE_UNEXPLAINED 0), .family (F.PRT_GRP_TRIP_TIME_HI 0),
    .family (F.PRT_GRP_TRIP_TIME_LO 0), .family (F.PRT_HB_STATUS_FAULTED 0)]) ∧
  (∀ n byTime, Keeps (.softOffEnd n byTime) [.gd] [.cell (F.GDI_CH_STATUS_STATE n.val), .cell (F.GDI_HB_STATUS_HIGH_ON (n.val / 2)),
    .cell (F.GDI_HB_STATUS_LOW_ON (n.val / 2)), .cell (F.PRT_CH_STATUS_SOFT_TIMEOUT n.val), .cell F.GDI_STATUS_DRIVE]) ∧
  (∀ g time, Keeps (.tripCollectionEnd g time) [.hbi, .que, .bar, .sys, .pat, .gd, .sht, .prt, .pair, .trg, .mrk, .th, .clk, .met, .key,
    .saf, .vlk, .shadow, .tbuf] [.cell (F.PRT_GRP_STATE_CAUSE g.val), .cell (F.PRT_GRP_STATE_MULTI g.val),
    .cell (F.PRT_GRP_STATE_STATE g.val), .cell (F.PRT_GRP_STATE_TRIES g.val), .cell (F.PRT_GRP_TRIPS g.val),
    .cell (F.PRT_GRP_WAIT_LEFT g.val), .cell F.PRT_STATUS_HELD, .cell F.PRT_STATUS_LOCKOUT, .family (F.GDI_HB_STATUS_HELD_OFF 0),
    .family (F.PRT_GRP_STATE_UNEXPLAINED 0)] (reachWithdraw ++ reachReset)) ∧
  (∀ g time, Keeps (.prtWaitEnd g time) [.prt] [.cell (F.PRT_GRP_STATE_STATE g.val), .cell (F.PRT_GRP_WAIT_LEFT g.val),
    .cell F.PRT_STATUS_HELD, .cell F.PRT_STATUS_LOCKOUT]) ∧
  (∀ g, Keeps (.prtRelease g) [.gd, .sht, .pair] [.cell (F.PRT_GRP_STATE_STATE g.val), .cell (F.PRT_GRP_WAIT_LEFT g.val),
    .cell F.GDI_STATUS_DRIVE, .cell F.PAIR_STATUS_PL_OUT, .cell F.PRT_STATUS_HELD, .cell F.PRT_STATUS_LOCKOUT,
    .family (F.GDI_CH_SEG_END_OFF 0), .family (F.GDI_CH_SEG_END_ON 0), .family (F.GDI_CH_STATUS_STATE 0), .family (F.GDI_HB_OMIT 0),
    .family (F.GDI_HB_STATUS_HELD_OFF 0), .family (F.GDI_HB_STATUS_HIGH_ON 0), .family (F.GDI_HB_STATUS_LOW_ON 0),
    .family (F.SHT_LOOP_MODE_NEXT 0), .family (F.SHT_LOOP_MODE_STOPPING 0)]) ∧
  (∀ g time, Keeps (.prtReleaseTimeout g time) [.que, .bar, .gd, .sht, .prt, .trg] [.cell (F.PRT_GRP_STATE_CAUSE g.val),
    .cell (F.PRT_GRP_STATE_MULTI g.val), .cell (F.PRT_GRP_STATE_STATE g.val), .cell F.GDI_STATUS_DRIVE, .cell F.PRT_STATUS_HELD,
    .cell F.PRT_STATUS_LOCKOUT, .family (F.GDI_CH_SEG_END_OFF 0), .family (F.GDI_CH_SEG_END_ON 0), .family (F.GDI_CH_STATUS_STATE 0),
    .family (F.GDI_HB_STATUS_HELD_OFF 0), .family (F.GDI_HB_STATUS_HIGH_ON 0), .family (F.GDI_HB_STATUS_LOW_ON 0)] reachEvent) ∧
  (∀ side key groups, Keeps (.prtReset side key groups) [.hbi, .gd, .sht, .prt, .pair] [.cell F.GDI_STATUS_DRIVE,
    .cell F.PAIR_STATUS_PL_OUT, .cell F.PRT_STATUS_HELD, .cell F.PRT_STATUS_LOCKOUT, .family (F.GDI_CH_SEG_END_OFF 0),
    .family (F.GDI_CH_SEG_END_ON 0), .family (F.GDI_CH_STATUS_STATE 0), .family (F.GDI_HB_OMIT 0),
    .family (F.GDI_HB_STATUS_HELD_OFF 0), .family (F.GDI_HB_STATUS_HIGH_ON 0), .family (F.GDI_HB_STATUS_LOW_ON 0),
    .family (F.PRT_GRP_STATE_MULTI 0), .family (F.PRT_GRP_STATE_STATE 0), .family (F.PRT_GRP_STATE_TRIES 0),
    .family (F.PRT_GRP_WAIT_LEFT 0), .family (F.SHT_LOOP_MODE_NEXT 0), .family (F.SHT_LOOP_MODE_STOPPING 0)] reachKeyed) ∧
  (∀ side key groups, Keeps (.prtTest side key groups) [.hbi, .gd, .sht, .prt, .pair] [.family (F.PRT_GRP_TEST_DESAT 0),
    .family (F.PRT_GRP_TEST_HS 0), .family (F.PRT_GRP_TEST_ADC 0), .family (F.PRT_GRP_TEST_GATE 0), .family (F.PRT_GRP_TEST_SOFT 0),
    .family (F.PRT_GRP_TEST_BIAS 0)] (reachTest ++ reachKeyed)) ∧
  (∀ side key groups, Keeps (.prtTestAbort side key groups) [.hbi, .gd, .sht, .prt, .pair] [.family (F.PRT_GRP_TEST_DESAT 0),
    .family (F.PRT_GRP_TEST_HS 0), .family (F.PRT_GRP_TEST_ADC 0), .family (F.PRT_GRP_TEST_GATE 0), .family (F.PRT_GRP_TEST_SOFT 0),
    .family (F.PRT_GRP_TEST_BIAS 0)] (reachEndTest ++ reachKeyed)) ∧
  (∀ g code, Keeps (.prtTestItemDone g code) [.que, .bar, .gd, .sht, .prt, .pair, .trg] [.cell (F.PRT_GRP_STATE_CAUSE g.val),
    .cell (F.PRT_GRP_STATE_MULTI g.val), .cell (F.PRT_GRP_STATE_STATE g.val), .cell (F.PRT_GRP_TEST_DONE g.val),
    .cell (F.PRT_GRP_TEST_FAIL_ITEM g.val), .cell (F.PRT_GRP_TEST_FAIL_KIND g.val), .cell (F.PRT_GRP_WAIT_LEFT g.val),
    .cell F.GDI_STATUS_DRIVE, .cell F.PAIR_STATUS_PL_OUT, .cell F.PRT_STATUS_HELD, .cell F.PRT_STATUS_LOCKOUT,
    .family (F.GDI_CH_SEG_END_OFF 0), .family (F.GDI_CH_SEG_END_ON 0), .family (F.GDI_CH_STATUS_STATE 0), .family (F.GDI_HB_OMIT 0),
    .family (F.GDI_HB_STATUS_HELD_OFF 0), .family (F.GDI_HB_STATUS_HIGH_ON 0), .family (F.GDI_HB_STATUS_LOW_ON 0),
    .family (F.SHT_LOOP_MODE_NEXT 0), .family (F.SHT_LOOP_MODE_STOPPING 0), .family (F.PRT_GRP_TEST_DESAT 0),
    .family (F.PRT_GRP_TEST_HS 0), .family (F.PRT_GRP_TEST_ADC 0), .family (F.PRT_GRP_TEST_GATE 0), .family (F.PRT_GRP_TEST_SOFT 0),
    .family (F.PRT_GRP_TEST_BIAS 0)] reachEvent) ∧
  (Keeps .firstOnEdgePermitted [.gd] [.cell F.GDI_STATUS_DRIVE, .family (F.GDI_CH_SEG_END_OFF 0), .family (F.GDI_CH_SEG_END_ON 0),
    .family (F.GDI_CH_STATUS_STATE 0), .family (F.GDI_HB_OMIT 0), .family (F.GDI_HB_STATUS_HIGH_ON 0),
    .family (F.GDI_HB_STATUS_LOW_ON 0)]) ∧
  (∀ n vdd vee time, Keeps (.barrierRefreshResume n vdd vee time) [.que, .sys, .gd, .sht, .prt, .pair,
    .trg] [.cell (F.GDI_CH_MON_VDD n.val), .cell (F.GDI_CH_MON_VEE n.val), .cell (F.GDI_CH_STATUS_ENABLE n.val),
    .cell (F.GDI_CH_STATUS_LINK n.val), .cell (F.GDI_CH_STATUS_UV_VDD n.val), .cell (F.GDI_CH_STATUS_UV_VEE n.val),
    .cell (F.GDI_CH_UV_COUNT n.val), .cell F.GDI_STATUS_DIE_OK, .cell F.GDI_UV_EVENT_CH, .family (F.PRT_GRP_STATE_LEGS 0),
    .family (F.PRT_GRP_STATE_UNEXPLAINED 0), .family (F.PRT_GRP_TRIP_TIME_HI 0), .family (F.PRT_GRP_TRIP_TIME_LO 0),
    .family (F.PRT_HB_STATUS_FAULTED 0), .family (F.PRT_GRP_TEST_DESAT 0), .family (F.PRT_GRP_TEST_HS 0),
    .family (F.PRT_GRP_TEST_ADC 0), .family (F.PRT_GRP_TEST_GATE 0), .family (F.PRT_GRP_TEST_SOFT 0),
    .family (F.PRT_GRP_TEST_BIAS 0)] (reachLock ++ reachTest))

/-- What the commands of thermal supervision, safety functions and the vehicle link leave unchanged. A command of thermal supervision,
safety functions and the vehicle link changes no waiting command, no part of the state and no register cell outside those named for it:
the registers of an array that its operand does not name, every other register, live or not, and every other unit of the block stay as
they were. Where a command runs a safe boundary, BS and LV fields may change. Rests on R269, R274, R433, R437, R440, R441, R297, R301,
R309. -/
def Obligations.FrameOfThermalSafetyVehicle : Prop :=
  (Keeps .hkRoundStart [.hbi, .que, .pat, .gd, .trg, .th, .saf] [.cell (F.TH_LOOP_STATE_Q_DEM 0), .cell (F.TH_LOOP_STATE_Q_DEM 1),
    .cell (F.TH_LOOP_STATUS_DUTY 0), .cell (F.TH_LOOP_STATUS_DUTY 1), .cell (F.TH_LOOP_STATUS_HOLDING 0),
    .cell (F.TH_LOOP_STATUS_HOLDING 1)] reachBoundary) ∧
  (∀ raw flows, Keeps (.hkRoundEnd raw flows) [.que, .bar, .sys, .gd, .pair, .trg, .mrk, .th, .met, .bil,
    .vlk] [.cell F.BIL_EVENT_INTERVAL_CLOSE, .cell F.BIL_EVENT_JRNL_LOW, .cell F.BIL_EVENT_SUPPRESSED,
    .cell F.BIL_EVENT_TARIFF_SWITCH, .cell F.CLK_STATUS_APP_DIV, .cell F.MET_EVENT_CHECK_FAIL, .cell F.MET_EVENT_DUAL_DIFF,
    .cell F.TH_DIE_MAIN, .cell F.TH_DIE_METRO, .cell F.TH_EVENT_EXCLUDED, .cell F.TH_EVENT_FLOW_LOW, .cell F.TH_EVENT_PRESS,
    .cell F.TH_EVENT_SHUTDOWN, .cell F.TH_EVENT_THROTTLE, .cell F.TH_EVENT_TOO_HOT, .cell F.TH_EVENT_WARN, .cell F.TH_ROUNDS,
    .cell F.TH_SD_INFO_GROUP, .cell F.TH_SD_INFO_PEAK, .cell F.TH_SD_TIME_HI, .cell F.TH_SD_TIME_LO, .cell F.TH_SHUTDOWNS,
    .cell F.TH_STATUS_ANY_TOO_HOT, .cell F.TH_STATUS_REFUSE_CASE, .cell F.TH_STATUS_REFUSE_PIN, .cell F.TH_STATUS_SHUTDOWN,
    .cell F.TH_STATUS_THROTTLE, .cell F.TH_STATUS_WARN, .cell F.VLK_STATUS_STATE, .family (F.TH_GRP_STATE_EXCL 0),
    .family (F.TH_GRP_STATE_HEALTHY 0), .family (F.TH_GRP_STATE_TOO_HOT 0), .family (F.TH_GRP_STATE_VALUE 0),
    .family (F.TH_HK_CH_VALUE_EXCLUDED 0), .family (F.TH_HK_CH_VALUE_RANGE_ERR 0), .family (F.TH_HK_CH_VALUE_VALUE 0),
    .family (F.TH_LOOP_STATE_Q 0), .family (F.TH_LOOP_STATUS_FLOW_LOW 0), .family (F.TH_LOOP_STATUS_PRESS_HIGH 0),
    .family (F.TH_LOOP_STATUS_PRESS_LOW 0)] reachWithdraw) ∧
  (Keeps .thermalRestart [.hbi, .que, .bar, .sys, .pat, .gd, .sht, .prt, .pair, .trg, .mrk, .th, .clk, .met, .key, .saf, .vlk, .shadow,
    .tbuf] [] reachReset) ∧
  (∀ l, Keeps (.ffHoldEnd l) [.th] [.cell (F.TH_LOOP_STATUS_HOLDING l.val)]) ∧
  (∀ l noPulse, Keeps (.flowFaultTimeout l noPulse) [.que, .trg, .th] [.cell (F.TH_LOOP_STATE_Q l.val),
    .cell (F.TH_LOOP_STATUS_FLOW_LOW l.val), .cell F.TH_EVENT_FLOW_LOW] reachEvent) ∧
  (∀ iSq valid, Keeps (.observerStep iSq valid) [.th] [.cell F.TH_OBS_BIAS_BIAS, .cell F.TH_OBS_CFG_VALID, .cell F.TH_OBS_CREDIT_I_80,
    .cell F.TH_OBS_CREDIT_I_SUST, .cell F.TH_OBS_EST_T_COND, .cell F.TH_OBS_EST_T_PIN]) ∧
  (∀ cs, Keeps (.connectorStateChange cs) [.que, .bar, .pair, .trg, .saf, .vlk] [.cell (F.QUE_Q_DEPTH_LEVEL 1), .cell (F.QUE_Q_HWM 1),
    .cell F.VLK_REFUSED, .cell F.VLK_REFUSE_EXCLUDED, .cell F.VLK_REFUSE_JOURNAL, .cell F.VLK_REFUSE_LOCKOUT,
    .cell F.VLK_REFUSE_SAFETY, .cell F.VLK_REFUSE_UNSEALED, .cell F.VLK_REFUSE_WINDOW, .cell F.VLK_STATUS_AUTH,
    .cell F.VLK_STATUS_BPT, .cell F.VLK_STATUS_CONTROL, .cell F.VLK_STATUS_CS, .cell F.VLK_STATUS_PROTOCOL,
    .cell F.VLK_STATUS_SHADOW_OK, .cell F.VLK_STATUS_STATE, .cell F.VLK_STATUS_TLS] reachEvent) ∧
  (∀ protocol control bpt, Keeps (.v2gSessionSetup protocol control bpt) [.que, .pair, .trg, .vlk,
    .drawn] [.cell (F.QUE_Q_DEPTH_LEVEL 8), .cell (F.QUE_Q_HWM 8), .cell (F.QUE_Q_LOST 8), .cell F.VLK_OFFER_I_OFFER,
    .cell F.VLK_OFFER_P_OFFER, .cell F.VLK_REFUSED, .cell F.VLK_REFUSE_EXCLUDED, .cell F.VLK_REFUSE_JOURNAL,
    .cell F.VLK_REFUSE_LOCKOUT, .cell F.VLK_REFUSE_SAFETY, .cell F.VLK_REFUSE_UNSEALED, .cell F.VLK_REFUSE_WINDOW,
    .cell F.VLK_SESSIONS, .cell F.VLK_SESSION_ID_HI, .cell F.VLK_SESSION_ID_LO, .cell F.VLK_STATUS_AUTH, .cell F.VLK_STATUS_BPT,
    .cell F.VLK_STATUS_CONTROL, .cell F.VLK_STATUS_PROTOCOL, .cell F.VLK_STATUS_TLS] reachEvent) ∧
  (∀ emaid pnc chainOk root, Keeps (.v2gAuthorization emaid pnc chainOk root) [.que, .pair, .trg, .vlk] [.cell (F.QUE_Q_DEPTH_LEVEL 8),
    .cell (F.QUE_Q_HWM 8), .cell (F.QUE_Q_LOST 8), .cell F.VLK_OFFER_I_OFFER, .cell F.VLK_OFFER_P_OFFER, .cell F.VLK_STATUS_AUTH,
    .family (F.VLK_EMAID 0)] reachEvent) ∧
  (∀ evVmax, Keeps (.v2gCableCheck evVmax) [.que, .pair, .vlk] [.cell (F.QUE_Q_DEPTH_LEVEL 1), .cell (F.QUE_Q_DEPTH_LEVEL 8),
    .cell (F.QUE_Q_HWM 1), .cell (F.QUE_Q_HWM 8), .cell (F.QUE_Q_LOST 8), .cell F.QUE_STATUS_FULL, .cell F.QUE_STATUS_NONEMPTY,
    .cell F.VLK_EV_MAX_A_V_MAX, .cell F.VLK_OFFER_I_OFFER, .cell F.VLK_OFFER_P_OFFER, .cell F.VLK_STATUS_IMD_FAULT,
    .cell F.VLK_STATUS_STATE]) ∧
  (∀ vTgt, Keeps (.v2gPreCharge vTgt) [.que, .pair, .vlk] [.cell (F.QUE_Q_DEPTH_LEVEL 8), .cell (F.QUE_Q_HWM 8), .cell (F.QUE_Q_LOST 8),
    .cell F.QUE_STATUS_FULL, .cell F.QUE_STATUS_NONEMPTY, .cell F.VLK_EV_TARGET_V_TGT, .cell F.VLK_OFFER_I_OFFER,
    .cell F.VLK_OFFER_P_OFFER, .cell F.VLK_STATUS_STATE]) ∧
  (Keeps .v2gPowerDeliveryStart [.que, .pair, .vlk] [.cell (F.QUE_Q_DEPTH_LEVEL 8), .cell (F.QUE_Q_HWM 8), .cell (F.QUE_Q_LOST 8),
    .cell F.QUE_STATUS_FULL, .cell F.QUE_STATUS_NONEMPTY, .cell F.VLK_OFFER_I_OFFER, .cell F.VLK_OFFER_P_OFFER,
    .cell F.VLK_STATUS_STATE]) ∧
  (∀ iTgt iMax iDis vMax vTgt pMax discharge depart energy,
    Keeps (.v2gChargeLoop iTgt iMax iDis vMax vTgt pMax discharge depart energy) [.que, .pair, .vlk] [.cell (F.QUE_Q_DEPTH_LEVEL 8),
    .cell (F.QUE_Q_HWM 8), .cell (F.QUE_Q_LOST 8), .cell F.QUE_STATUS_FULL, .cell F.QUE_STATUS_NONEMPTY, .cell F.VLK_DEPART_ENERGY,
    .cell F.VLK_DEPART_TIME, .cell F.VLK_EV_MAX_A_I_MAX, .cell F.VLK_EV_MAX_A_V_MAX, .cell F.VLK_EV_MAX_B_I_DIS_MAX,
    .cell F.VLK_EV_MAX_B_P_MAX, .cell F.VLK_EV_TARGET_I_TGT, .cell F.VLK_EV_TARGET_V_TGT, .cell F.VLK_OFFER_I_OFFER,
    .cell F.VLK_OFFER_P_OFFER]) ∧
  (∀ vehOpen, Keeps (.v2gStopRequest vehOpen) [.que, .pair, .vlk] [.cell (F.QUE_Q_DEPTH_LEVEL 8), .cell (F.QUE_Q_HWM 8),
    .cell (F.QUE_Q_LOST 8), .cell F.QUE_STATUS_FULL, .cell F.QUE_STATUS_NONEMPTY, .cell F.VLK_OFFER_I_OFFER,
    .cell F.VLK_OFFER_P_OFFER, .cell F.VLK_STATUS_STATE]) ∧
  (Keeps .v2gEmergencyStop [.que, .pair, .trg, .saf, .vlk] [.cell (F.QUE_Q_DEPTH_LEVEL 8), .cell (F.QUE_Q_HWM 8),
    .cell (F.QUE_Q_LOST 8), .cell F.VLK_OFFER_I_OFFER, .cell F.VLK_OFFER_P_OFFER, .cell F.VLK_STATUS_STATE] reachEvent) ∧
  (∀ side key, Keeps (.vlkAuthGrant side key) [.hbi, .que, .pair, .vlk] [.cell (F.QUE_Q_DEPTH_LEVEL 8), .cell (F.QUE_Q_HWM 8),
    .cell (F.QUE_Q_LOST 8), .cell F.QUE_STATUS_FULL, .cell F.QUE_STATUS_NONEMPTY, .cell F.VLK_OFFER_I_OFFER,
    .cell F.VLK_OFFER_P_OFFER, .cell F.VLK_STATUS_AUTH] reachKeyed) ∧
  (∀ side key, Keeps (.vlkAuthDeny side key) [.hbi, .que, .pair, .vlk] [.cell (F.QUE_Q_DEPTH_LEVEL 8), .cell (F.QUE_Q_HWM 8),
    .cell (F.QUE_Q_LOST 8), .cell F.QUE_STATUS_FULL, .cell F.QUE_STATUS_NONEMPTY, .cell F.VLK_OFFER_I_OFFER,
    .cell F.VLK_OFFER_P_OFFER, .cell F.VLK_STATUS_AUTH] reachKeyed) ∧
  (∀ side key, Keeps (.vlkStop side key) [.hbi, .vlk] [.cell F.VLK_STATUS_STATE] reachKeyed) ∧
  (∀ side key, Keeps (.vlkResetLockout side key) [.hbi] [.cell F.VLK_STATUS_LOCKOUT] reachKeyed) ∧
  (∀ side key, Keeps (.vlkEsd side key) [.hbi, .que, .trg, .saf, .vlk] [.cell F.VLK_STATUS_STATE] (reachEvent ++ reachKeyed)) ∧
  (Keeps .authWaitTimeout [.que, .pair, .vlk] [.cell (F.QUE_Q_DEPTH_LEVEL 8), .cell (F.QUE_Q_HWM 8), .cell (F.QUE_Q_LOST 8),
    .cell F.QUE_STATUS_FULL, .cell F.QUE_STATUS_NONEMPTY, .cell F.VLK_OFFER_I_OFFER, .cell F.VLK_OFFER_P_OFFER,
    .cell F.VLK_STATUS_AUTH]) ∧
  (∀ ready, Keeps (.outletContactorClose ready) [.bar, .vlk] []) ∧
  (Keeps .outletAuxCloseTimeout [.bar, .bil, .vlk] [.cell F.VLK_IMD_STATUS_INJECTING, .cell F.VLK_STATUS_STATE]) ∧
  (Keeps .cableCheckSettled [.bil, .vlk] [.cell F.VLK_IMD_STATUS_INJECTING]) ∧
  (Keeps .cableCheckTimeout [.bar, .bil, .vlk] [.cell F.VLK_IMD_STATUS_INJECTING, .cell F.VLK_STATUS_STATE]) ∧
  (∀ avg move vPos vNeg, Keeps (.imdHalfPeriod avg move vPos vNeg) [.que, .bar, .pair, .trg, .bil, .saf, .vlk] [.cell F.VLK_IMD_R_NEG,
    .cell F.VLK_IMD_R_POS, .cell F.VLK_IMD_R_TOTAL, .cell F.VLK_IMD_STATUS_DISAGREE, .cell F.VLK_IMD_STATUS_INJECTING,
    .cell F.VLK_IMD_STATUS_VALID, .cell F.VLK_STATUS_IMD_FAULT, .cell F.VLK_STATUS_IMD_WARN, .cell F.VLK_STATUS_STATE] reachEvent) ∧
  (Keeps .preChargeTimeout [.vlk] [.cell F.VLK_STATUS_STATE]) ∧
  (Keeps .stopContactorOpen [.bar, .bil, .vlk] [.cell F.VLK_IMD_STATUS_INJECTING, .cell F.VLK_WELD_VEHICLE_LIVE]) ∧
  (Keeps .stopWaitExpiry [.vlk] []) ∧
  (Keeps .outletAuxOpen [.vlk] [.cell F.VLK_WELD_VEHICLE_LIVE]) ∧
  (Keeps .dischargeComplete [.vlk] []) ∧
  (Keeps .dischargeTimeout [] [.cell F.VLK_STATUS_STATE, .cell F.VLK_WELD_VEHICLE_LIVE]) ∧
  (Keeps .weldCheck [.que, .bar, .pair, .trg, .saf, .vlk] [.cell (F.QUE_Q_DEPTH_LEVEL 1), .cell (F.QUE_Q_HWM 1),
    .cell F.VLK_STATUS_AUTH, .cell F.VLK_STATUS_BPT, .cell F.VLK_STATUS_CONTROL, .cell F.VLK_STATUS_LOCKOUT,
    .cell F.VLK_STATUS_PROTOCOL, .cell F.VLK_STATUS_SHADOW_OK, .cell F.VLK_STATUS_STATE, .cell F.VLK_STATUS_TLS,
    .cell F.VLK_WELD_AUX_FAIL, .cell F.VLK_WELD_NEG_WELD, .cell F.VLK_WELD_POS_WELD, .cell F.VLK_WELD_RESULT] reachEvent) ∧
  (Keeps .esdOpenDeadline [.bar, .bil, .vlk] [.cell F.VLK_IMD_STATUS_INJECTING]) ∧
  (∀ readbacks partnerDrive, Keeps (.safetyEvaluation readbacks partnerDrive) [.hbi, .que, .bar, .sys, .pat, .gd, .trg, .mrk, .bil,
    .saf, .vlk] [.cell F.GDI_STATUS_DRIVE, .cell F.SAF_DEMAND_LATCHED, .cell F.SAF_FAULT_CAUSE, .cell F.SAF_FAULT_FROM_PARTNER,
    .cell F.SAF_FAULT_SOURCE, .cell F.SAF_STATUS_DEMAND, .cell F.SAF_STATUS_LOCKOUT, .cell F.VLK_IMD_STATUS_INJECTING,
    .cell F.VLK_STATUS_STATE, .family (F.GDI_CH_SEG_END_OFF 0), .family (F.GDI_CH_SEG_END_ON 0), .family (F.GDI_CH_STATUS_STATE 0),
    .family (F.GDI_HB_OMIT 0), .family (F.GDI_HB_STATUS_HELD_OFF 0), .family (F.GDI_HB_STATUS_HIGH_ON 0),
    .family (F.GDI_HB_STATUS_LOW_ON 0), .family (F.SAF_IN_STATUS_DEMANDING 0), .family (F.SAF_OUT_STATUS_DRIVEN 0),
    .family (F.SAF_OUT_STATUS_READBACK 0)] reachBoundary) ∧
  (∀ k chB closed held, Keeps (.safetyInputChange k chB closed held) [.saf] [.cell (F.SAF_IN_STATUS_A k.val),
    .cell (F.SAF_IN_STATUS_B k.val), .cell (F.SAF_IN_STATUS_DEMANDING k.val)]) ∧
  (∀ k ms, Keeps (.safetyDiscrepancy k ms) [.que, .bar, .sys, .gd, .trg, .mrk, .bil, .saf, .vlk] [] reachSafety) ∧
  (∀ src cycle frame tagOk, Keeps (.safetyFrameReceive src cycle frame tagOk) [.que, .bar, .sys, .gd, .trg, .mrk, .bil, .saf,
    .vlk] [.cell F.SAF_STATUS_PARTNER_ABSENT, .cell F.TRG_AUTH_FAIL, .family (F.SAF_CONN_ERR 0), .family (F.SAF_CONN_STATUS_SEQ 0),
    .family (F.SAF_CONN_STATUS_STATE 0)] reachSafety) ∧
  (∀ j, Keeps (.safetyWatchdogExpiry j) [.que, .bar, .sys, .gd, .trg, .mrk, .bil, .saf, .vlk] [.cell (F.SAF_CONN_STATUS_STATE j.val),
    .cell F.SAF_STATUS_PARTNER_ABSENT] reachSafety) ∧
  (∀ i time, Keeps (.offPulseStart i time) [.saf] [.family (F.SAF_OUT_STATUS_DRIVEN 0)]) ∧
  (∀ i offOk onOk, Keeps (.offPulseEnd i offOk onOk) [.que, .bar, .sys, .gd, .trg, .mrk, .bil, .saf,
    .vlk] [.cell (F.SAF_OUT_STATUS_PASSED i.val)] reachSafety) ∧
  (∀ i, Keeps (.readbackStuck i) [.que, .bar, .sys, .gd, .trg, .mrk, .bil, .saf, .vlk] [] reachSafety) ∧
  (∀ side key, Keeps (.safReset side key) [.hbi, .saf] [.cell F.SAF_DEMAND_LATCHED, .cell F.SAF_FAULT_CAUSE,
    .cell F.SAF_FAULT_FROM_PARTNER, .cell F.SAF_FAULT_SOURCE, .cell F.SAF_LOG_LOST, .cell F.SAF_LOG_SEQ_HI, .cell F.SAF_LOG_SEQ_LO,
    .cell F.SAF_STATUS_DEMAND, .cell F.SAF_STATUS_LOCKOUT] reachKeyed) ∧
  (∀ side key, Keeps (.safClearDemand side key) [.hbi, .saf] [.cell F.SAF_DEMAND_LATCHED, .cell F.SAF_FAULT_CAUSE,
    .cell F.SAF_FAULT_FROM_PARTNER, .cell F.SAF_FAULT_SOURCE, .cell F.SAF_STATUS_DEMAND, .cell F.SAF_STATUS_LOCKOUT] reachKeyed) ∧
  (∀ side key, Keeps (.safSetPw side key) [.hbi, .saf] [.cell F.SAF_LOG_LOST, .cell F.SAF_LOG_SEQ_HI, .cell F.SAF_LOG_SEQ_LO,
    .cell F.SAF_STATUS_PW_SET, .family F.HBI_CRED_STATUS_MAINT_OPEN, .family F.HBI_CRED_STATUS_SAFETY_OPEN, .family (F.SAF_PW_BUF 0),
    .levels] reachKeyed) ∧
  (∀ upset, Keeps (.paramCrcCheck upset) [.que, .bar, .sys, .gd, .trg, .mrk, .bil, .saf, .vlk] [] reachSafety) ∧
  (Keeps .vehicleLinkTick [.hbi, .que, .pat, .trg, .saf] [] reachBoundary) ∧
  (Keeps .outletAuxClosed [.vlk] []) ∧
  (Keeps .outletAuxOpenTimeout [.que, .bar, .trg, .saf] [.cell F.VLK_STATUS_LOCKOUT, .cell F.VLK_STATUS_STATE,
    .cell F.VLK_WELD_AUX_FAIL, .cell F.VLK_WELD_NEG_WELD, .cell F.VLK_WELD_POS_WELD, .cell F.VLK_WELD_RESULT] reachEvent) ∧
  (Keeps .validPlanLapse [.bar, .bil, .vlk] [.cell F.VLK_IMD_STATUS_INJECTING, .cell F.VLK_STATUS_STATE])

/-- What the commands of metering, billing, the calendar and the key store leave unchanged. A command of metering, billing, the calendar and
the key store changes no waiting command, no part of the state and no register cell outside those named for it: the registers of an
array that its operand does not name, every other register, live or not, and every other unit of the block stay as they were. Where a
command runs a safe boundary, BS and LV fields may change. Rests on R317, R326, R341, R353, R375, R385, R389. -/
def Obligations.FrameOfMeteringAndKeys : Prop :=
  (∀ codes rtc, Keeps (.ledgerTick codes rtc) [.hbi, .que, .bar, .pat, .trg, .met, .bil, .saf] [.cell F.BIL_EVENT_INTERVAL_CLOSE,
    .cell F.BIL_EVENT_JRNL_LOW, .cell F.BIL_EVENT_TARIFF_SWITCH, .cell F.CLK_AON_RTC_HI, .cell F.CLK_AON_RTC_LO,
    .cell F.MET_EVENT_CHECK_FAIL, .cell F.MET_EVENT_DUAL_DIFF, .cell F.MET_EVENT_OVERRANGE] reachBoundary) ∧
  (Keeps .periodicSave [.met] []) ∧
  (Keeps .checkPairCount [.que, .trg, .met] [.cell F.MET_EVENT_CHECK_FAIL] reachEvent) ∧
  (∀ iOuts missing, Keeps (.meterCrossCheck iOuts missing) [.que, .trg, .met, .bil] [.cell F.MET_EVENT_XCHK,
    .cell F.MET_STATUS_XCHK] reachEvent) ∧
  (∀ ticks, Keeps (.meterResume ticks) [.que, .trg, .met] [.cell F.MET_EVENT_UNSAVED] reachEvent) ∧
  (∀ rtc, Keeps (.selvedgeReset rtc) [.que, .bar, .trg, .met, .bil] [.cell F.BAR_STATUS_METER_SUSPECT,
    .cell F.BIL_EVENT_OUTAGE_BOUNDARY, .cell F.BIL_EVENT_SUPPRESSED, .cell F.CLK_AON_EVENTS, .cell F.CLK_AON_RTC_HI,
    .cell F.CLK_AON_RTC_LO, .cell F.MET_EVENT_UNSAVED] reachJournal) ∧
  (∀ i level time held, Keeps (.pulseInputEdge i level time held) [.que, .sht, .mrk] [.cell (F.MET_PI_COUNT_HI i.val),
    .cell (F.MET_PI_COUNT_LO i.val), .cell (F.MET_PI_EDGE_TIME_HI i.val), .cell (F.MET_PI_EDGE_TIME_LO i.val),
    .cell (F.MET_PI_GLITCH i.val), .cell (F.MET_PI_STATUS_LEVEL i.val), .cell (F.QUE_Q_DEPTH_LEVEL 1), .cell (F.QUE_Q_HWM 1),
    .cell F.MET_EVENT_PO_OVERFLOW, .cell F.QUE_STATUS_FULL, .cell F.QUE_STATUS_NONEMPTY, .family (F.MET_PO_PENDING 0),
    .family (F.MET_PO_STATUS_OVERFLOW 0), .family (F.SHT_RC_PERIOD_NOW 0), .family (F.SHT_RC_STATUS_FADING 0),
    .family (F.SHT_RC_STATUS_FREEZE 0), .family (F.SHT_RC_STATUS_LEARNING 0), .family (F.SHT_RC_STATUS_LOCKED 0)]) ∧
  (∀ k, Keeps (.pulseOutputUpdate k) [.met] [.cell (F.MET_PO_PENDING k.val), .cell (F.MET_PO_STATUS_OUT k.val),
    .cell (F.MET_PO_STATUS_OVERFLOW k.val), .cell F.MET_EVENT_PO_OVERFLOW]) ∧
  (∀ k, Keeps (.pulseOutputWidthEnd k) [.met] [.cell (F.MET_PO_PENDING k.val), .cell (F.MET_PO_STATUS_OUT k.val)]) ∧
  (Keeps .partnerValuesSend [.pair] []) ∧
  (Keeps .standsTimeout [.que, .trg, .met, .bil] [] reachJournal) ∧
  (Keeps .mirrorRefresh [] [.cell F.MET_E_EXP_ALL_HI, .cell F.MET_E_EXP_ALL_LO, .cell F.MET_E_EXP_SESS_HI, .cell F.MET_E_EXP_SESS_LO,
    .cell F.MET_E_IMP_ALL_HI, .cell F.MET_E_IMP_ALL_LO, .cell F.MET_E_IMP_SESS_HI, .cell F.MET_E_IMP_SESS_LO, .cell F.MET_GAP_TICKS,
    .cell F.MET_REVERSALS, .cell F.MET_SAVE_SEQ, .cell F.MET_STATUS_CHECK_FAIL, .cell F.MET_STATUS_CLOCK_LOST,
    .cell F.MET_STATUS_DUAL_DIFF, .cell F.MET_STATUS_GAP, .cell F.MET_STATUS_METERING, .cell F.MET_STATUS_OVERRANGE,
    .cell F.MET_STATUS_RECOVERY, .cell F.MET_STATUS_SESSION_OPEN, .cell F.MET_STATUS_XCHK, .cell F.MET_UNSAVED_BOUND] reachMirror) ∧
  (∀ seq crcOk inst offset bytes, Keeps (.mbxOffer seq crcOk inst offset bytes) [.bil] [.cell F.BIL_MBX_REFUSED]) ∧
  (∀ seq crcOk, Keeps (.mbxSeal seq crcOk) [.que, .pat, .trg, .bil] [.cell F.BIL_MBX_REFUSED, .cell F.PAT_STATUS_SEALED,
    .cell F.PAT_STATUS_UNSEALED_ROLE] reachJournal) ∧
  (∀ seq crcOk tick calMs proven step, Keeps (.mbxCal seq crcOk tick calMs proven step) [.que, .trg, .met,
    .bil] [.cell F.BIL_EVENT_MISMATCH, .cell F.BIL_EVENT_TIME_STEP, .cell F.BIL_MBX_REFUSED] reachJournal) ∧
  (∀ seq crcOk close sid time source, Keeps (.mbxMark seq crcOk close sid time source) [.met, .bil] [.cell F.BIL_MBX_REFUSED]) ∧
  (∀ seq crcOk imp exp complete unbooked closed, Keeps (.mbxPartner seq crcOk imp exp complete unbooked closed) [.que, .trg, .met,
    .bil] [.cell F.BIL_MBX_REFUSED] reachJournal) ∧
  (∀ seq crcOk sync weight, Keeps (.mbxPulse seq crcOk sync weight) [.met, .bil] [.cell F.BIL_MBX_REFUSED]) ∧
  (∀ seq crcOk xchk, Keeps (.mbxFlag seq crcOk xchk) [.met, .bil] [.cell F.BIL_MBX_REFUSED]) ∧
  (∀ seq crcOk holder record, Keeps (.mbxAck seq crcOk holder record) [.bil] [.cell F.BIL_MBX_REFUSED]) ∧
  (∀ seq crcOk start phase, Keeps (.mbxImd seq crcOk start phase) [.met, .bil] [.cell F.BIL_MBX_REFUSED]) ∧
  (∀ seq crcOk offset bytes, Keeps (.mbxSiteParam seq crcOk offset bytes) [.bil] [.cell F.BIL_MBX_REFUSED]) ∧
  (Keeps .calSend [.que] [.cell (F.QUE_Q_DEPTH_LEVEL 1), .cell (F.QUE_Q_HWM 1), .cell F.QUE_STATUS_FULL, .cell F.QUE_STATUS_NONEMPTY]) ∧
  (Keeps .calAdoptTimeout [.met] []) ∧
  (∀ side key, Keeps (.bilTimeSet side key) [.hbi, .bil] [] reachKeyed) ∧
  (∀ side key, Keeps (.bilTamperAck side key) [.hbi, .bil] [] reachKeyed) ∧
  (Keeps .intervalEnd [.met, .bil] [.cell F.BIL_EVENT_INTERVAL_CLOSE]) ∧
  (Keeps .tariffSwitch [.met] [.cell F.BIL_EVENT_TARIFF_SWITCH]) ∧
  (Keeps .demandSyncTimeout [.met, .bil] [.cell F.BIL_EVENT_INTERVAL_CLOSE]) ∧
  (Keeps .boundaryCommit [.que, .trg, .met, .bil] [.cell F.BIL_EVENT_SUPPRESSED] reachJournal) ∧
  (Keeps .recordSign [.que, .bil] [.cell (F.QUE_Q_DEPTH_LEVEL 4), .cell (F.QUE_Q_HWM 4), .cell F.QUE_STATUS_FULL,
    .cell F.QUE_STATUS_NONEMPTY]) ∧
  (∀ terminal opened rtc, Keeps (.tamperCoverEdge terminal opened rtc) [.que, .trg, .clk, .bil] [.cell F.BIL_EVENT_TAMPER,
    .cell F.CLK_AON_EVENTS, .cell F.CLK_AON_RTC_HI, .cell F.CLK_AON_RTC_LO, .cell F.CLK_LULL_STATUS_STATE,
    .cell F.CLK_LULL_STATUS_WAKE_CAUSE, .cell F.CLK_WAKE_TIME_HI, .cell F.CLK_WAKE_TIME_LO] reachJournal) ∧
  (∀ x y z rtc, Keeps (.hallReading x y z rtc) [.que, .trg, .clk, .bil] [.cell F.BIL_EVENT_TAMPER, .cell F.CLK_AON_EVENTS,
    .cell F.CLK_AON_RTC_HI, .cell F.CLK_AON_RTC_LO, .cell F.CLK_LULL_STATUS_STATE, .cell F.CLK_LULL_STATUS_WAKE_CAUSE,
    .cell F.CLK_WAKE_TIME_HI, .cell F.CLK_WAKE_TIME_LO] reachJournal) ∧
  (∀ side key, Keeps (.keySubmit side key) [.hbi, .que] [.cell (F.KEY_JOB_STATUS_DONE.bank side.val),
    .cell (F.KEY_JOB_STATUS_RESULT.bank side.val), .cell (F.QUE_Q_DEPTH_LEVEL 7), .cell (F.QUE_Q_HWM 7), .cell (F.QUE_Q_LOST 7),
    .cell F.KEY_JOBS, .cell F.QUE_STATUS_FULL, .cell F.QUE_STATUS_NONEMPTY] reachKeyed) ∧
  (∀ memOk, Keeps (.keyOpImport memOk) [.que, .sys, .pat, .met, .bil, .key, .drawn] [.cell F.KEY_GEN_PAIR_PAIR] reachLife) ∧
  (∀ memOk, Keeps (.keyOpDelete memOk) [.que, .sys, .pat, .met, .bil, .key, .drawn] [.cell F.KEY_GEN_PAIR_PAIR] reachLife) ∧
  (∀ memOk, Keeps (.keyOpRevoke memOk) [.que, .sys, .pat, .met, .bil, .key, .drawn] [.cell F.KEY_GEN_PAIR_PAIR] reachLife) ∧
  (∀ memOk, Keeps (.keyOpSetClient memOk) [.que, .sys, .pat, .met, .bil, .key, .drawn] [.cell F.KEY_GEN_PAIR_PAIR] reachLife) ∧
  (∀ memOk, Keeps (.keyOpTrust memOk) [.que, .sys, .pat, .met, .bil, .key, .drawn] [.cell F.KEY_GEN_PAIR_PAIR] reachLife) ∧
  (∀ memOk, Keeps (.keyOpRelease memOk) [.que, .sys, .pat, .met, .bil, .key, .drawn] [.cell F.KEY_GEN_PAIR_PAIR] reachLife) ∧
  (∀ side key, Keeps (.keyEnrol side key) [.hbi, .key] [.cell (F.KEY_JOB_STATUS_DONE.bank side.val),
    .cell (F.KEY_JOB_STATUS_RESULT.bank side.val), .cell F.KEY_JOBS, .family (F.KEY_ENROL_DATA 0)] reachKeyed) ∧
  (∀ side, Keeps (.enrolDataRead side) [.hbi, .key] [.cell F.KEY_STATUS_ENROLLED, .family (F.KEY_ENROL_DATA 0)] reachKeyed) ∧
  (∀ side key, Keeps (.keyAttest side key) [.hbi] [.cell (F.KEY_JOB_STATUS_DONE.bank side.val),
    .cell (F.KEY_JOB_STATUS_RESULT.bank side.val), .cell F.KEY_JOBS, .family (F.KEY_ATT_RESP 0)] reachKeyed) ∧
  (∀ side key dbgLow, Keeps (.keyDebug side key dbgLow) [.hbi, .que, .sys, .pat, .met, .bil, .key, .drawn] [] (reachLife ++ reachKeyed)) ∧
  (∀ side write value, Keeps (.certDataAccess side write value) [.hbi, .key, .drawn] [.cell (F.KEY_CERT_ADDR.bank side.val),
    .cell (F.KEY_CERT_DATA.bank side.val)] reachKeyed) ∧
  (Keeps .pairKeyErase [.key] [])

/-- A step runs the command at the front of the queue. A step takes the command at the front of the queue and answers what exec answers for
it on the rest of the queue. With no command waiting the block idles: the state stands (the model's choice, log 47). Rests on R38, R62. -/
def Obligations.StepRunsFront : Prop :=
  (∀ (c : Instr) (cs : List Instr) (s : State), step { s with pending := c :: cs } = exec c { s with pending := cs }) ∧
  (∀ s : State, s.pending = [] → step s = .next s)

/-- Every command and every step completes, and leaves the queue alone. Whatever the state and the operands, a command answers a next state,
neither a fault nor a refusal, and leaves the commands that wait as they are; so does every step, which takes away exactly the front
command. Rests on R53, R63, R64, R88, R115. -/
def Obligations.EveryStepCompletes : Prop :=
  (∀ (c : Instr) (s : State), Answers c s fun t => t.pending = s.pending) ∧
  (∀ s : State, ∃ t, step s = .next t ∧ t.pending = s.pending.tail)

/-- Every step keeps the canonical form and what live writes wait. From every state in which the register stores hold each cell once, in
rising order and without cells at their reset values, and in which the live writes that wait are of BS and LV fields, a step leads to
such a state (the stores' form is the model's choice). Rests on R38, R67, R68, R72, R77. -/
def Obligations.StepsKeepTheInvariant : Prop :=
  ∀ s t : State, s.canonical → s.pendStaged = true → step s = .next t → t.canonical ∧ t.pendStaged = true

/-- The state after reset meets the invariant. State.reset holds its stores in canonical form, no live write waits and no command waits.
Rests on R38, R510. -/
def Obligations.ResetMeetsTheInvariant : Prop :=
  State.reset.canonical ∧ State.reset.pendStaged = true ∧ State.reset.pending = []

/-- Registers after reset. After reset a register reads as its map states: the gate pulse and dead-time defaults, the channels and auxiliary
half-bridges without supply, the lease and ramp times, the curtailment of none, the thresholds of the protection and the insulation
values, with shadow and live value equal. Rests on R38, R67, R150, R226, R240. -/
def Obligations.ResetValues : Prop :=
  (∀ n : Fin 12, State.reset.rd (F.PWM_HB_PERIOD_PERIOD n.val) = 4000 ∧ State.reset.rd (F.PWM_HB_MIN_PULSE_MIN_PULSE n.val) = 40 ∧
    State.reset.rd (F.GDI_HB_CFG_DT_H n.val) = 640 ∧ State.reset.rd (F.GDI_HB_CFG_DT_L n.val) = 640) ∧
  (∀ n : Fin 24, State.reset.rdb (F.GDI_CH_STATUS_UV_VDD n.val) = true ∧ State.reset.rd (F.PRT_CH_DESAT_THRESH n.val) = 20) ∧
  State.reset.rdb F.GDA_STATUS_UV_DRV = true ∧ State.reset.rd F.MRK_SEQ_LEASE = 30 ∧ State.reset.rd F.MRK_SEQ_RAMP = 5 ∧
  State.reset.rd F.MRK_CURTAIL_KW = 0xFFFFFF ∧ State.reset.rd F.VLK_IMD_R_TOTAL = 0xFFFFFFFF ∧
  State.reset.rd F.HBI_RTACK_MASK_TARGET = 127 ∧ ∀ f : Field, State.reset.rdShadow f = State.reset.rd f

/-- Accesses to addresses that hold no register. A read of an address of the direct window that holds no register drives zero and signals an
ADDR access error; a write to it signals the same error and changes nothing else. (R63) -/
def Obligations.UnmappedAddresses : Prop :=
  ∀ (side : Side) (a v : BitVec 32) (time : Nat) (fresh : Bool) (s : State), a.toNat < 0x40000 → regAt a.toNat = none →
    a.toNat ≠ blockBase (blockOf a.toNat) → s.inLull = false →
    (Answers (.registerRead side a) s fun t => (side = 0 → t.hbi.data = 0) ∧ t.hbi.refused = some eAddr ∧
      t.rd F.HBI_ERR_INFO_CODE = eAddr ∧ t.rd F.HBI_ERR_ADDR = a.toNat ∧ (side = 0 → t.hbi.errN = true) ∧ Frame [.hbi] reachKeyed s t) ∧
    (Answers (.registerWrite side a v time fresh) s fun t => t.hbi.refused = some eAddr ∧ t.rd F.HBI_ERR_INFO_CODE = eAddr ∧
      t.rd F.HBI_ERR_ADDR = a.toNat ∧ (side = 0 → t.hbi.errN = true) ∧ Frame [.hbi] reachKeyed s t)

/-- A plan that is not held whole at its TACK instant. A unit outside Lull that does not hold the whole plan at its TACK instant keeps every
entry and its lease as they are and counts MISSED, which stands at 255; it raises an event and nothing else changes. (R136) -/
def Obligations.PlanNotHeld : Prop :=
  ∀ (time : Nat) (s : State), s.inLull = false → (∀ p, s.mrk.plan = some p → time + 1000000 < p.applyTime) →
    Answers (.planTack time) s fun t => t.mrk = s.mrk ∧ t.rd F.MRK_LOCAL_MISSED = min (s.rd F.MRK_LOCAL_MISSED + 1) 255 ∧
      Frame [.que, .trg] (.cell F.MRK_LOCAL_MISSED :: reachEvent) s t

/-- A mismatch of the safety parameter CRC is a safety fault. Outside Lull, in which nothing is recomputed, a recomputation of SAF_PARAM_CRC
that differs from the value of the last application, whether the set or the stored value was upset, raises a safety fault with cause
PARAM: it is recorded where none is, the unit locks out and both SFO outputs are off. (R447) -/
def Obligations.ParameterMismatch : Prop :=
  ∀ (upset : Bool) (s : State), s.inLull = false → (upset = true ∨ s.paramCrc ≠ s.rd F.SAF_PARAM_CRC) →
    Answers (.paramCrcCheck upset) s fun t => (s.saf.record = none → t.saf.record = some (6, 0) ∧ t.rd F.SAF_FAULT_CAUSE = 6) ∧
      (∀ r, s.saf.record = some r → t.saf.record = some r) ∧ t.rdb F.SAF_STATUS_LOCKOUT = true ∧ t.saf.sfo = [false, false]
end

