-- ==== Sys2Proof/Laws/SMap.lean ====
section
/-!
SUPPORT. Laws/SMap.lean: reads after writes of a sparse store, and that every write keeps its canonical form.
-/
namespace Sys2Proof

variable {α : Type}

theorem SMap.get_del_same (d : Nat → α) (k : Nat) (m : SMap α) : SMap.get d (SMap.del k m) k = d k := by
  induction m with
  | nil => rfl
  | cons e m ih =>
    obtain ⟨a, v⟩ := e
    by_cases h : a = k
    · simpa [SMap.del, h] using ih
    · simpa [SMap.del, SMap.get, h] using ih

theorem SMap.get_del_ne (d : Nat → α) {k j : Nat} (h : j ≠ k) (m : SMap α) : SMap.get d (SMap.del k m) j = SMap.get d m j := by
  induction m with
  | nil => rfl
  | cons e m ih =>
    obtain ⟨a, v⟩ := e
    by_cases ha : a = k
    · have hk : ¬ k = j := fun e => h e.symm
      simpa [SMap.del, SMap.get, ha, hk] using ih
    · by_cases hj : a = j
      · simp [SMap.del, SMap.get, hj, h]
      · simpa [SMap.del, SMap.get, ha, hj] using ih

theorem SMap.get_put_same (d : Nat → α) (k : Nat) (v : α) (m : SMap α) : SMap.get d (SMap.put k v m) k = v := by
  induction m with
  | nil => simp [SMap.put, SMap.get]
  | cons e m ih =>
    obtain ⟨a, w⟩ := e
    by_cases h : a < k
    · have : ¬ a = k := Nat.ne_of_lt h
      simpa [SMap.put, SMap.get, h, this] using ih
    · by_cases h2 : a = k
      · simp [SMap.put, SMap.get, h2]
      · simp [SMap.put, SMap.get, h, h2]

theorem SMap.get_put_ne (d : Nat → α) {k j : Nat} (hne : j ≠ k) (v : α) (m : SMap α) :
    SMap.get d (SMap.put k v m) j = SMap.get d m j := by
  have hk : ¬ k = j := fun e => hne e.symm
  induction m with
  | nil => simp [SMap.put, SMap.get, hk]
  | cons e m ih =>
    obtain ⟨a, w⟩ := e
    by_cases h : a < k
    · by_cases hj : a = j
      · subst hj; simp [SMap.put, SMap.get, h]
      · simpa [SMap.put, SMap.get, h, hj] using ih
    · by_cases h2 : a = k
      · simp [SMap.put, SMap.get, h2, hk]
      · simp [SMap.put, SMap.get, h, h2, hk]

@[simp] theorem SMap.get_set_same [DecidableEq α] (d : Nat → α) (k : Nat) (v : α) (m : SMap α) :
    SMap.get d (SMap.set d k v m) k = v := by
  unfold SMap.set
  split
  · rename_i h; rw [SMap.get_del_same, h]
  · exact SMap.get_put_same d k v m

theorem SMap.get_set_ne [DecidableEq α] (d : Nat → α) {k j : Nat} (h : j ≠ k) (v : α) (m : SMap α) :
    SMap.get d (SMap.set d k v m) j = SMap.get d m j := by
  unfold SMap.set
  split
  · exact SMap.get_del_ne d h m
  · exact SMap.get_put_ne d h v m

/-- Rising keys, from a lower bound: the first key is above it and the rest rise from there. -/
theorem SMap.rising_mono {lo : Option Nat} {m : SMap α} (h : SMap.rising lo m = true) : SMap.rising none m = true := by
  cases m with
  | nil => rfl
  | cons e m =>
    obtain ⟨a, v⟩ := e
    cases lo with
    | none => exact h
    | some l => simp [SMap.rising] at h ⊢; exact h.2

theorem SMap.rising_lower {l l' : Nat} (hl : l' ≤ l) {m : SMap α} (h : SMap.rising (some l) m = true) :
    SMap.rising (some l') m = true := by
  cases m with
  | nil => rfl
  | cons e m =>
    obtain ⟨a, v⟩ := e
    simp [SMap.rising] at h ⊢
    exact ⟨by omega, h.2⟩

theorem SMap.rising_filter (p : Nat × α → Bool) : ∀ {lo : Option Nat} {m : SMap α}, SMap.rising lo m = true →
    SMap.rising lo (m.filter p) = true
  | lo, [], _ => by cases lo <;> rfl
  | none, (a, v) :: m, h => by
    have h' : SMap.rising (some a) m = true := h
    by_cases hp : p (a, v) = true
    · simpa [List.filter, hp, SMap.rising] using SMap.rising_filter p h'
    · simp only [List.filter, hp]
      exact SMap.rising_mono (SMap.rising_filter p h')
  | some l, (a, v) :: m, h => by
    have h' : l < a ∧ SMap.rising (some a) m = true := by simpa [SMap.rising] using h
    by_cases hp : p (a, v) = true
    · simpa [List.filter, hp, SMap.rising] using ⟨h'.1, SMap.rising_filter p h'.2⟩
    · simp only [List.filter, hp]
      exact SMap.rising_lower (Nat.le_of_lt h'.1) (SMap.rising_filter p h'.2)

theorem SMap.del_eq_filter (k : Nat) (m : SMap α) : SMap.del k m = m.filter fun e => e.1 ≠ k := by
  induction m with
  | nil => rfl
  | cons e m ih =>
    obtain ⟨a, v⟩ := e
    by_cases h : a = k <;> simp [SMap.del, h, ih]

theorem SMap.rising_put (k : Nat) (v : α) : ∀ {lo : Option Nat} {m : SMap α}, SMap.rising lo m = true →
    (∀ l, lo = some l → l < k) → SMap.rising lo (SMap.put k v m) = true
  | none, [], _, _ => rfl
  | some l, [], _, hl => by simpa [SMap.put, SMap.rising] using hl l rfl
  | lo, (a, w) :: m, h, hl => by
    have ht : SMap.rising (some a) m = true := by
      cases lo with
      | none => exact h
      | some l => simp [SMap.rising] at h; exact h.2
    have hla : ∀ l, lo = some l → l < a := by
      intro l e; subst e; simp [SMap.rising] at h; exact h.1
    by_cases h1 : a < k
    · have := SMap.rising_put k v ht (fun l e => by cases e; exact h1)
      cases lo with
      | none => simpa [SMap.put, h1, SMap.rising] using this
      | some l => simpa [SMap.put, h1, SMap.rising] using ⟨hla l rfl, this⟩
    · by_cases h2 : a = k
      · subst h2
        cases lo with
        | none => simpa [SMap.put, SMap.rising] using ht
        | some l => simpa [SMap.put, SMap.rising] using ⟨hla l rfl, ht⟩
      · have hk : k < a := by omega
        cases lo with
        | none => simpa [SMap.put, h1, h2, SMap.rising, hk] using ht
        | some l => simpa [SMap.put, h1, h2, SMap.rising, hk] using ⟨hl l rfl, ht⟩

theorem SMap.mem_put (k : Nat) (v : α) (m : SMap α) {e : Nat × α} (h : e ∈ SMap.put k v m) : e = (k, v) ∨ e ∈ m := by
  induction m with
  | nil => left; simpa [SMap.put] using h
  | cons x m ih =>
    obtain ⟨a, w⟩ := x
    by_cases h1 : a < k
    · simp [SMap.put, h1] at h
      rcases h with h | h
      · right; simp [h]
      · rcases ih h with h | h
        · left; exact h
        · right; simp [h]
    · by_cases h2 : a = k
      · simp [SMap.put, h2] at h
        rcases h with h | h
        · left; exact h
        · right; simp [h]
      · simp [SMap.put, h1, h2] at h
        rcases h with h | h | h
        · left; exact h
        · right; simp [h]
        · right; simp [h]

theorem SMap.wf_filter [DecidableEq α] {d : Nat → α} (p : Nat × α → Bool) {m : SMap α} (h : SMap.wf d m = true) :
    SMap.wf d (m.filter p) = true := by
  simp only [SMap.wf, Bool.and_eq_true, List.all_eq_true] at h ⊢
  exact ⟨SMap.rising_filter p h.1, fun e he => h.2 e (List.mem_of_mem_filter he)⟩

theorem SMap.wf_set [DecidableEq α] {d : Nat → α} (k : Nat) (v : α) {m : SMap α} (h : SMap.wf d m = true) :
    SMap.wf d (SMap.set d k v m) = true := by
  unfold SMap.set
  split
  · rw [SMap.del_eq_filter]; exact SMap.wf_filter _ h
  · rename_i hv
    simp only [SMap.wf, Bool.and_eq_true, List.all_eq_true] at h ⊢
    refine ⟨SMap.rising_put k v h.1 (by simp), fun e he => ?_⟩
    rcases SMap.mem_put k v m he with rfl | he
    · simpa using hv
    · exact h.2 e he

theorem SMap.wf_copyKeys [DecidableEq α] {d : Nat → α} (f : Nat → α → α) (src : SMap α) (keys : List Nat) {dst : SMap α}
    (h : SMap.wf d dst = true) : SMap.wf d (SMap.copyKeys d f src keys dst) = true := by
  unfold SMap.copyKeys
  induction keys generalizing dst with
  | nil => exact h
  | cons k ks ih => exact ih (SMap.wf_set k _ h)

end Sys2Proof
end

