-- ==== Sys2Proof/Laws/State.lean ====
section
/-!
SUPPORT. Laws/State.lean: what the writes of a register cell change and leave: one lemma per operation and per part of the state, and
reads after writes.
-/
namespace Sys2Proof.Machine
open Sys2Proof

@[simp] theorem State.wr_hbi (s : State) (f : Field) (v : Nat) : (s.wr f v).hbi = s.hbi := rfl
@[simp] theorem State.wr_que (s : State) (f : Field) (v : Nat) : (s.wr f v).que = s.que := rfl
@[simp] theorem State.wr_bar (s : State) (f : Field) (v : Nat) : (s.wr f v).bar = s.bar := rfl
@[simp] theorem State.wr_sys (s : State) (f : Field) (v : Nat) : (s.wr f v).sys = s.sys := rfl
@[simp] theorem State.wr_pat (s : State) (f : Field) (v : Nat) : (s.wr f v).pat = s.pat := rfl
@[simp] theorem State.wr_gd (s : State) (f : Field) (v : Nat) : (s.wr f v).gd = s.gd := rfl
@[simp] theorem State.wr_sht (s : State) (f : Field) (v : Nat) : (s.wr f v).sht = s.sht := rfl
@[simp] theorem State.wr_prt (s : State) (f : Field) (v : Nat) : (s.wr f v).prt = s.prt := rfl
@[simp] theorem State.wr_pair (s : State) (f : Field) (v : Nat) : (s.wr f v).pair = s.pair := rfl
@[simp] theorem State.wr_trg (s : State) (f : Field) (v : Nat) : (s.wr f v).trg = s.trg := rfl
@[simp] theorem State.wr_mrk (s : State) (f : Field) (v : Nat) : (s.wr f v).mrk = s.mrk := rfl
@[simp] theorem State.wr_th (s : State) (f : Field) (v : Nat) : (s.wr f v).th = s.th := rfl
@[simp] theorem State.wr_vlk (s : State) (f : Field) (v : Nat) : (s.wr f v).vlk = s.vlk := rfl
@[simp] theorem State.wr_met (s : State) (f : Field) (v : Nat) : (s.wr f v).met = s.met := rfl
@[simp] theorem State.wr_bil (s : State) (f : Field) (v : Nat) : (s.wr f v).bil = s.bil := rfl
@[simp] theorem State.wr_key (s : State) (f : Field) (v : Nat) : (s.wr f v).key = s.key := rfl
@[simp] theorem State.wr_saf (s : State) (f : Field) (v : Nat) : (s.wr f v).saf = s.saf := rfl
@[simp] theorem State.wr_clk (s : State) (f : Field) (v : Nat) : (s.wr f v).clk = s.clk := rfl
@[simp] theorem State.wr_pending (s : State) (f : Field) (v : Nat) : (s.wr f v).pending = s.pending := rfl
@[simp] theorem State.wr_drawn (s : State) (f : Field) (v : Nat) : (s.wr f v).drawn = s.drawn := rfl
@[simp] theorem State.wr_shadow (s : State) (f : Field) (v : Nat) : (s.wr f v).shadow = s.shadow := rfl
@[simp] theorem State.wr_tbuf (s : State) (f : Field) (v : Nat) : (s.wr f v).tbuf = s.tbuf := rfl
@[simp] theorem State.wrb_hbi (s : State) (f : Field) (v : Bool) : (s.wrb f v).hbi = s.hbi := rfl
@[simp] theorem State.wrb_que (s : State) (f : Field) (v : Bool) : (s.wrb f v).que = s.que := rfl
@[simp] theorem State.wrb_bar (s : State) (f : Field) (v : Bool) : (s.wrb f v).bar = s.bar := rfl
@[simp] theorem State.wrb_sys (s : State) (f : Field) (v : Bool) : (s.wrb f v).sys = s.sys := rfl
@[simp] theorem State.wrb_pat (s : State) (f : Field) (v : Bool) : (s.wrb f v).pat = s.pat := rfl
@[simp] theorem State.wrb_gd (s : State) (f : Field) (v : Bool) : (s.wrb f v).gd = s.gd := rfl
@[simp] theorem State.wrb_sht (s : State) (f : Field) (v : Bool) : (s.wrb f v).sht = s.sht := rfl
@[simp] theorem State.wrb_prt (s : State) (f : Field) (v : Bool) : (s.wrb f v).prt = s.prt := rfl
@[simp] theorem State.wrb_pair (s : State) (f : Field) (v : Bool) : (s.wrb f v).pair = s.pair := rfl
@[simp] theorem State.wrb_trg (s : State) (f : Field) (v : Bool) : (s.wrb f v).trg = s.trg := rfl
@[simp] theorem State.wrb_mrk (s : State) (f : Field) (v : Bool) : (s.wrb f v).mrk = s.mrk := rfl
@[simp] theorem State.wrb_th (s : State) (f : Field) (v : Bool) : (s.wrb f v).th = s.th := rfl
@[simp] theorem State.wrb_vlk (s : State) (f : Field) (v : Bool) : (s.wrb f v).vlk = s.vlk := rfl
@[simp] theorem State.wrb_met (s : State) (f : Field) (v : Bool) : (s.wrb f v).met = s.met := rfl
@[simp] theorem State.wrb_bil (s : State) (f : Field) (v : Bool) : (s.wrb f v).bil = s.bil := rfl
@[simp] theorem State.wrb_key (s : State) (f : Field) (v : Bool) : (s.wrb f v).key = s.key := rfl
@[simp] theorem State.wrb_saf (s : State) (f : Field) (v : Bool) : (s.wrb f v).saf = s.saf := rfl
@[simp] theorem State.wrb_clk (s : State) (f : Field) (v : Bool) : (s.wrb f v).clk = s.clk := rfl
@[simp] theorem State.wrb_pending (s : State) (f : Field) (v : Bool) : (s.wrb f v).pending = s.pending := rfl
@[simp] theorem State.wrb_drawn (s : State) (f : Field) (v : Bool) : (s.wrb f v).drawn = s.drawn := rfl
@[simp] theorem State.wrb_shadow (s : State) (f : Field) (v : Bool) : (s.wrb f v).shadow = s.shadow := rfl
@[simp] theorem State.wrb_tbuf (s : State) (f : Field) (v : Bool) : (s.wrb f v).tbuf = s.tbuf := rfl
@[simp] theorem State.wri_hbi (s : State) (f : Field) (v : Int) : (s.wri f v).hbi = s.hbi := rfl
@[simp] theorem State.wri_que (s : State) (f : Field) (v : Int) : (s.wri f v).que = s.que := rfl
@[simp] theorem State.wri_bar (s : State) (f : Field) (v : Int) : (s.wri f v).bar = s.bar := rfl
@[simp] theorem State.wri_sys (s : State) (f : Field) (v : Int) : (s.wri f v).sys = s.sys := rfl
@[simp] theorem State.wri_pat (s : State) (f : Field) (v : Int) : (s.wri f v).pat = s.pat := rfl
@[simp] theorem State.wri_gd (s : State) (f : Field) (v : Int) : (s.wri f v).gd = s.gd := rfl
@[simp] theorem State.wri_sht (s : State) (f : Field) (v : Int) : (s.wri f v).sht = s.sht := rfl
@[simp] theorem State.wri_prt (s : State) (f : Field) (v : Int) : (s.wri f v).prt = s.prt := rfl
@[simp] theorem State.wri_pair (s : State) (f : Field) (v : Int) : (s.wri f v).pair = s.pair := rfl
@[simp] theorem State.wri_trg (s : State) (f : Field) (v : Int) : (s.wri f v).trg = s.trg := rfl
@[simp] theorem State.wri_mrk (s : State) (f : Field) (v : Int) : (s.wri f v).mrk = s.mrk := rfl
@[simp] theorem State.wri_th (s : State) (f : Field) (v : Int) : (s.wri f v).th = s.th := rfl
@[simp] theorem State.wri_vlk (s : State) (f : Field) (v : Int) : (s.wri f v).vlk = s.vlk := rfl
@[simp] theorem State.wri_met (s : State) (f : Field) (v : Int) : (s.wri f v).met = s.met := rfl
@[simp] theorem State.wri_bil (s : State) (f : Field) (v : Int) : (s.wri f v).bil = s.bil := rfl
@[simp] theorem State.wri_key (s : State) (f : Field) (v : Int) : (s.wri f v).key = s.key := rfl
@[simp] theorem State.wri_saf (s : State) (f : Field) (v : Int) : (s.wri f v).saf = s.saf := rfl
@[simp] theorem State.wri_clk (s : State) (f : Field) (v : Int) : (s.wri f v).clk = s.clk := rfl
@[simp] theorem State.wri_pending (s : State) (f : Field) (v : Int) : (s.wri f v).pending = s.pending := rfl
@[simp] theorem State.wri_drawn (s : State) (f : Field) (v : Int) : (s.wri f v).drawn = s.drawn := rfl
@[simp] theorem State.wri_shadow (s : State) (f : Field) (v : Int) : (s.wri f v).shadow = s.shadow := rfl
@[simp] theorem State.wri_tbuf (s : State) (f : Field) (v : Int) : (s.wri f v).tbuf = s.tbuf := rfl
@[simp] theorem State.wrsat_hbi (s : State) (f : Field) (v : Nat) : (s.wrsat f v).hbi = s.hbi := rfl
@[simp] theorem State.wrsat_que (s : State) (f : Field) (v : Nat) : (s.wrsat f v).que = s.que := rfl
@[simp] theorem State.wrsat_bar (s : State) (f : Field) (v : Nat) : (s.wrsat f v).bar = s.bar := rfl
@[simp] theorem State.wrsat_sys (s : State) (f : Field) (v : Nat) : (s.wrsat f v).sys = s.sys := rfl
@[simp] theorem State.wrsat_pat (s : State) (f : Field) (v : Nat) : (s.wrsat f v).pat = s.pat := rfl
@[simp] theorem State.wrsat_gd (s : State) (f : Field) (v : Nat) : (s.wrsat f v).gd = s.gd := rfl
@[simp] theorem State.wrsat_sht (s : State) (f : Field) (v : Nat) : (s.wrsat f v).sht = s.sht := rfl
@[simp] theorem State.wrsat_prt (s : State) (f : Field) (v : Nat) : (s.wrsat f v).prt = s.prt := rfl
@[simp] theorem State.wrsat_pair (s : State) (f : Field) (v : Nat) : (s.wrsat f v).pair = s.pair := rfl
@[simp] theorem State.wrsat_trg (s : State) (f : Field) (v : Nat) : (s.wrsat f v).trg = s.trg := rfl
@[simp] theorem State.wrsat_mrk (s : State) (f : Field) (v : Nat) : (s.wrsat f v).mrk = s.mrk := rfl
@[simp] theorem State.wrsat_th (s : State) (f : Field) (v : Nat) : (s.wrsat f v).th = s.th := rfl
@[simp] theorem State.wrsat_vlk (s : State) (f : Field) (v : Nat) : (s.wrsat f v).vlk = s.vlk := rfl
@[simp] theorem State.wrsat_met (s : State) (f : Field) (v : Nat) : (s.wrsat f v).met = s.met := rfl
@[simp] theorem State.wrsat_bil (s : State) (f : Field) (v : Nat) : (s.wrsat f v).bil = s.bil := rfl
@[simp] theorem State.wrsat_key (s : State) (f : Field) (v : Nat) : (s.wrsat f v).key = s.key := rfl
@[simp] theorem State.wrsat_saf (s : State) (f : Field) (v : Nat) : (s.wrsat f v).saf = s.saf := rfl
@[simp] theorem State.wrsat_clk (s : State) (f : Field) (v : Nat) : (s.wrsat f v).clk = s.clk := rfl
@[simp] theorem State.wrsat_pending (s : State) (f : Field) (v : Nat) : (s.wrsat f v).pending = s.pending := rfl
@[simp] theorem State.wrsat_drawn (s : State) (f : Field) (v : Nat) : (s.wrsat f v).drawn = s.drawn := rfl
@[simp] theorem State.wrsat_shadow (s : State) (f : Field) (v : Nat) : (s.wrsat f v).shadow = s.shadow := rfl
@[simp] theorem State.wrsat_tbuf (s : State) (f : Field) (v : Nat) : (s.wrsat f v).tbuf = s.tbuf := rfl
@[simp] theorem State.wrisat_hbi (s : State) (f : Field) (v : Int) : (s.wrisat f v).hbi = s.hbi := rfl
@[simp] theorem State.wrisat_que (s : State) (f : Field) (v : Int) : (s.wrisat f v).que = s.que := rfl
@[simp] theorem State.wrisat_bar (s : State) (f : Field) (v : Int) : (s.wrisat f v).bar = s.bar := rfl
@[simp] theorem State.wrisat_sys (s : State) (f : Field) (v : Int) : (s.wrisat f v).sys = s.sys := rfl
@[simp] theorem State.wrisat_pat (s : State) (f : Field) (v : Int) : (s.wrisat f v).pat = s.pat := rfl
@[simp] theorem State.wrisat_gd (s : State) (f : Field) (v : Int) : (s.wrisat f v).gd = s.gd := rfl
@[simp] theorem State.wrisat_sht (s : State) (f : Field) (v : Int) : (s.wrisat f v).sht = s.sht := rfl
@[simp] theorem State.wrisat_prt (s : State) (f : Field) (v : Int) : (s.wrisat f v).prt = s.prt := rfl
@[simp] theorem State.wrisat_pair (s : State) (f : Field) (v : Int) : (s.wrisat f v).pair = s.pair := rfl
@[simp] theorem State.wrisat_trg (s : State) (f : Field) (v : Int) : (s.wrisat f v).trg = s.trg := rfl
@[simp] theorem State.wrisat_mrk (s : State) (f : Field) (v : Int) : (s.wrisat f v).mrk = s.mrk := rfl
@[simp] theorem State.wrisat_th (s : State) (f : Field) (v : Int) : (s.wrisat f v).th = s.th := rfl
@[simp] theorem State.wrisat_vlk (s : State) (f : Field) (v : Int) : (s.wrisat f v).vlk = s.vlk := rfl
@[simp] theorem State.wrisat_met (s : State) (f : Field) (v : Int) : (s.wrisat f v).met = s.met := rfl
@[simp] theorem State.wrisat_bil (s : State) (f : Field) (v : Int) : (s.wrisat f v).bil = s.bil := rfl
@[simp] theorem State.wrisat_key (s : State) (f : Field) (v : Int) : (s.wrisat f v).key = s.key := rfl
@[simp] theorem State.wrisat_saf (s : State) (f : Field) (v : Int) : (s.wrisat f v).saf = s.saf := rfl
@[simp] theorem State.wrisat_clk (s : State) (f : Field) (v : Int) : (s.wrisat f v).clk = s.clk := rfl
@[simp] theorem State.wrisat_pending (s : State) (f : Field) (v : Int) : (s.wrisat f v).pending = s.pending := rfl
@[simp] theorem State.wrisat_drawn (s : State) (f : Field) (v : Int) : (s.wrisat f v).drawn = s.drawn := rfl
@[simp] theorem State.wrisat_shadow (s : State) (f : Field) (v : Int) : (s.wrisat f v).shadow = s.shadow := rfl
@[simp] theorem State.wrisat_tbuf (s : State) (f : Field) (v : Int) : (s.wrisat f v).tbuf = s.tbuf := rfl
@[simp] theorem State.inc_hbi (s : State) (f : Field) (v : Nat) : (s.inc f v).hbi = s.hbi := rfl
@[simp] theorem State.inc_que (s : State) (f : Field) (v : Nat) : (s.inc f v).que = s.que := rfl
@[simp] theorem State.inc_bar (s : State) (f : Field) (v : Nat) : (s.inc f v).bar = s.bar := rfl
@[simp] theorem State.inc_sys (s : State) (f : Field) (v : Nat) : (s.inc f v).sys = s.sys := rfl
@[simp] theorem State.inc_pat (s : State) (f : Field) (v : Nat) : (s.inc f v).pat = s.pat := rfl
@[simp] theorem State.inc_gd (s : State) (f : Field) (v : Nat) : (s.inc f v).gd = s.gd := rfl
@[simp] theorem State.inc_sht (s : State) (f : Field) (v : Nat) : (s.inc f v).sht = s.sht := rfl
@[simp] theorem State.inc_prt (s : State) (f : Field) (v : Nat) : (s.inc f v).prt = s.prt := rfl
@[simp] theorem State.inc_pair (s : State) (f : Field) (v : Nat) : (s.inc f v).pair = s.pair := rfl
@[simp] theorem State.inc_trg (s : State) (f : Field) (v : Nat) : (s.inc f v).trg = s.trg := rfl
@[simp] theorem State.inc_mrk (s : State) (f : Field) (v : Nat) : (s.inc f v).mrk = s.mrk := rfl
@[simp] theorem State.inc_th (s : State) (f : Field) (v : Nat) : (s.inc f v).th = s.th := rfl
@[simp] theorem State.inc_vlk (s : State) (f : Field) (v : Nat) : (s.inc f v).vlk = s.vlk := rfl
@[simp] theorem State.inc_met (s : State) (f : Field) (v : Nat) : (s.inc f v).met = s.met := rfl
@[simp] theorem State.inc_bil (s : State) (f : Field) (v : Nat) : (s.inc f v).bil = s.bil := rfl
@[simp] theorem State.inc_key (s : State) (f : Field) (v : Nat) : (s.inc f v).key = s.key := rfl
@[simp] theorem State.inc_saf (s : State) (f : Field) (v : Nat) : (s.inc f v).saf = s.saf := rfl
@[simp] theorem State.inc_clk (s : State) (f : Field) (v : Nat) : (s.inc f v).clk = s.clk := rfl
@[simp] theorem State.inc_pending (s : State) (f : Field) (v : Nat) : (s.inc f v).pending = s.pending := rfl
@[simp] theorem State.inc_drawn (s : State) (f : Field) (v : Nat) : (s.inc f v).drawn = s.drawn := rfl
@[simp] theorem State.inc_shadow (s : State) (f : Field) (v : Nat) : (s.inc f v).shadow = s.shadow := rfl
@[simp] theorem State.inc_tbuf (s : State) (f : Field) (v : Nat) : (s.inc f v).tbuf = s.tbuf := rfl
@[simp] theorem State.wr64_hbi (s : State) (f : Field) (v : Nat) : (s.wr64 f v).hbi = s.hbi := rfl
@[simp] theorem State.wr64_que (s : State) (f : Field) (v : Nat) : (s.wr64 f v).que = s.que := rfl
@[simp] theorem State.wr64_bar (s : State) (f : Field) (v : Nat) : (s.wr64 f v).bar = s.bar := rfl
@[simp] theorem State.wr64_sys (s : State) (f : Field) (v : Nat) : (s.wr64 f v).sys = s.sys := rfl
@[simp] theorem State.wr64_pat (s : State) (f : Field) (v : Nat) : (s.wr64 f v).pat = s.pat := rfl
@[simp] theorem State.wr64_gd (s : State) (f : Field) (v : Nat) : (s.wr64 f v).gd = s.gd := rfl
@[simp] theorem State.wr64_sht (s : State) (f : Field) (v : Nat) : (s.wr64 f v).sht = s.sht := rfl
@[simp] theorem State.wr64_prt (s : State) (f : Field) (v : Nat) : (s.wr64 f v).prt = s.prt := rfl
@[simp] theorem State.wr64_pair (s : State) (f : Field) (v : Nat) : (s.wr64 f v).pair = s.pair := rfl
@[simp] theorem State.wr64_trg (s : State) (f : Field) (v : Nat) : (s.wr64 f v).trg = s.trg := rfl
@[simp] theorem State.wr64_mrk (s : State) (f : Field) (v : Nat) : (s.wr64 f v).mrk = s.mrk := rfl
@[simp] theorem State.wr64_th (s : State) (f : Field) (v : Nat) : (s.wr64 f v).th = s.th := rfl
@[simp] theorem State.wr64_vlk (s : State) (f : Field) (v : Nat) : (s.wr64 f v).vlk = s.vlk := rfl
@[simp] theorem State.wr64_met (s : State) (f : Field) (v : Nat) : (s.wr64 f v).met = s.met := rfl
@[simp] theorem State.wr64_bil (s : State) (f : Field) (v : Nat) : (s.wr64 f v).bil = s.bil := rfl
@[simp] theorem State.wr64_key (s : State) (f : Field) (v : Nat) : (s.wr64 f v).key = s.key := rfl
@[simp] theorem State.wr64_saf (s : State) (f : Field) (v : Nat) : (s.wr64 f v).saf = s.saf := rfl
@[simp] theorem State.wr64_clk (s : State) (f : Field) (v : Nat) : (s.wr64 f v).clk = s.clk := rfl
@[simp] theorem State.wr64_pending (s : State) (f : Field) (v : Nat) : (s.wr64 f v).pending = s.pending := rfl
@[simp] theorem State.wr64_drawn (s : State) (f : Field) (v : Nat) : (s.wr64 f v).drawn = s.drawn := rfl
@[simp] theorem State.wr64_shadow (s : State) (f : Field) (v : Nat) : (s.wr64 f v).shadow = s.shadow := rfl
@[simp] theorem State.wr64_tbuf (s : State) (f : Field) (v : Nat) : (s.wr64 f v).tbuf = s.tbuf := rfl

@[simp] theorem State.load_hbi (s : State) (k v : Nat) : (s.load k v).hbi = s.hbi := rfl
@[simp] theorem State.load_que (s : State) (k v : Nat) : (s.load k v).que = s.que := rfl
@[simp] theorem State.load_bar (s : State) (k v : Nat) : (s.load k v).bar = s.bar := rfl
@[simp] theorem State.load_sys (s : State) (k v : Nat) : (s.load k v).sys = s.sys := rfl
@[simp] theorem State.load_pat (s : State) (k v : Nat) : (s.load k v).pat = s.pat := rfl
@[simp] theorem State.load_gd (s : State) (k v : Nat) : (s.load k v).gd = s.gd := rfl
@[simp] theorem State.load_sht (s : State) (k v : Nat) : (s.load k v).sht = s.sht := rfl
@[simp] theorem State.load_prt (s : State) (k v : Nat) : (s.load k v).prt = s.prt := rfl
@[simp] theorem State.load_pair (s : State) (k v : Nat) : (s.load k v).pair = s.pair := rfl
@[simp] theorem State.load_trg (s : State) (k v : Nat) : (s.load k v).trg = s.trg := rfl
@[simp] theorem State.load_mrk (s : State) (k v : Nat) : (s.load k v).mrk = s.mrk := rfl
@[simp] theorem State.load_th (s : State) (k v : Nat) : (s.load k v).th = s.th := rfl
@[simp] theorem State.load_vlk (s : State) (k v : Nat) : (s.load k v).vlk = s.vlk := rfl
@[simp] theorem State.load_met (s : State) (k v : Nat) : (s.load k v).met = s.met := rfl
@[simp] theorem State.load_bil (s : State) (k v : Nat) : (s.load k v).bil = s.bil := rfl
@[simp] theorem State.load_key (s : State) (k v : Nat) : (s.load k v).key = s.key := rfl
@[simp] theorem State.load_saf (s : State) (k v : Nat) : (s.load k v).saf = s.saf := rfl
@[simp] theorem State.load_clk (s : State) (k v : Nat) : (s.load k v).clk = s.clk := rfl
@[simp] theorem State.load_pending (s : State) (k v : Nat) : (s.load k v).pending = s.pending := rfl
@[simp] theorem State.draw_hbi (s : State) (n : Nat) : (s.draw n).2.hbi = s.hbi := rfl
@[simp] theorem State.draw_que (s : State) (n : Nat) : (s.draw n).2.que = s.que := rfl
@[simp] theorem State.draw_bar (s : State) (n : Nat) : (s.draw n).2.bar = s.bar := rfl
@[simp] theorem State.draw_sys (s : State) (n : Nat) : (s.draw n).2.sys = s.sys := rfl
@[simp] theorem State.draw_pat (s : State) (n : Nat) : (s.draw n).2.pat = s.pat := rfl
@[simp] theorem State.draw_gd (s : State) (n : Nat) : (s.draw n).2.gd = s.gd := rfl
@[simp] theorem State.draw_sht (s : State) (n : Nat) : (s.draw n).2.sht = s.sht := rfl
@[simp] theorem State.draw_prt (s : State) (n : Nat) : (s.draw n).2.prt = s.prt := rfl
@[simp] theorem State.draw_pair (s : State) (n : Nat) : (s.draw n).2.pair = s.pair := rfl
@[simp] theorem State.draw_trg (s : State) (n : Nat) : (s.draw n).2.trg = s.trg := rfl
@[simp] theorem State.draw_mrk (s : State) (n : Nat) : (s.draw n).2.mrk = s.mrk := rfl
@[simp] theorem State.draw_th (s : State) (n : Nat) : (s.draw n).2.th = s.th := rfl
@[simp] theorem State.draw_vlk (s : State) (n : Nat) : (s.draw n).2.vlk = s.vlk := rfl
@[simp] theorem State.draw_met (s : State) (n : Nat) : (s.draw n).2.met = s.met := rfl
@[simp] theorem State.draw_bil (s : State) (n : Nat) : (s.draw n).2.bil = s.bil := rfl
@[simp] theorem State.draw_key (s : State) (n : Nat) : (s.draw n).2.key = s.key := rfl
@[simp] theorem State.draw_saf (s : State) (n : Nat) : (s.draw n).2.saf = s.saf := rfl
@[simp] theorem State.draw_clk (s : State) (n : Nat) : (s.draw n).2.clk = s.clk := rfl
@[simp] theorem State.draw_pending (s : State) (n : Nat) : (s.draw n).2.pending = s.pending := rfl
@[simp] theorem State.draw_live (s : State) (n : Nat) : (s.draw n).2.live = s.live := rfl
@[simp] theorem State.draw_shadow (s : State) (n : Nat) : (s.draw n).2.shadow = s.shadow := rfl
@[simp] theorem State.draw_tbuf (s : State) (n : Nat) : (s.draw n).2.tbuf = s.tbuf := rfl

@[simp] theorem State.rd_wr (s : State) (f : Field) (v : Nat) : (s.wr f v).rd f = v % 2 ^ f.width := by
  simp [State.rd, State.wr]

theorem State.rd_wr_ne (s : State) {f g : Field} (h : g.key ≠ f.key) (v : Nat) : (s.wr f v).rd g = s.rd g := by
  simp [State.rd, State.wr, SMap.get_set_ne _ h]

theorem State.rdb_wrb (s : State) (f : Field) (b : Bool) (h : 0 < f.width) : (s.wrb f b).rdb f = b := by
  have : 1 < 2 ^ f.width := Nat.one_lt_two_pow (by omega)
  cases b <;> simp [State.rdb, State.wrb, Nat.mod_eq_of_lt this]

theorem State.rdb_wrb_ne (s : State) {f g : Field} (h : g.key ≠ f.key) (b : Bool) : (s.wrb f b).rdb g = s.rdb g := by
  simp [State.rdb, State.wrb, State.rd_wr_ne s h]

theorem State.rd_wrb_ne (s : State) {f g : Field} (h : g.key ≠ f.key) (b : Bool) : (s.wrb f b).rd g = s.rd g := by
  simp [State.wrb, State.rd_wr_ne s h]

theorem State.rdb_wr_ne (s : State) {f g : Field} (h : g.key ≠ f.key) (v : Nat) : (s.wr f v).rdb g = s.rdb g := by
  simp [State.rdb, State.rd_wr_ne s h]

theorem State.rd_wrsat_ne (s : State) {f g : Field} (h : g.key ≠ f.key) (v : Nat) : (s.wrsat f v).rd g = s.rd g := by
  simp [State.wrsat, State.rd_wr_ne s h]

theorem State.rd_inc_ne (s : State) {f g : Field} (h : g.key ≠ f.key) (v : Nat) : (s.inc f v).rd g = s.rd g := by
  simp [State.inc, State.rd_wrsat_ne s h]

theorem State.rd_wri_ne (s : State) {f g : Field} (h : g.key ≠ f.key) (v : Int) : (s.wri f v).rd g = s.rd g := by
  simp [State.wri, State.rd_wr_ne s h]

theorem State.rd_wrisat_ne (s : State) {f g : Field} (h : g.key ≠ f.key) (v : Int) : (s.wrisat f v).rd g = s.rd g := by
  simp [State.wrisat, State.rd_wri_ne s h]

theorem State.rd_wrsat (s : State) (f : Field) (v : Nat) : (s.wrsat f v).rd f = min v (2 ^ f.width - 1) := by
  have : 0 < 2 ^ f.width := Nat.two_pow_pos _
  simp only [State.wrsat, State.rd_wr]
  exact Nat.mod_eq_of_lt (by omega)

/-- A counter saturates (R64). -/
theorem State.rd_inc (s : State) (f : Field) (n : Nat) : (s.inc f n).rd f = min (s.rd f + n) (2 ^ f.width - 1) := by
  simp [State.inc, State.rd_wrsat]

/-- A read depends on the live cells alone. -/
theorem State.rd_congr {s t : State} (h : t.live = s.live) (f : Field) : t.rd f = s.rd f := by
  simp [State.rd, h]

theorem State.rdb_congr {s t : State} (h : t.live = s.live) (f : Field) : t.rdb f = s.rdb f := by
  simp [State.rdb, State.rd, h]

/-- A register write keeps the canonical form of the register stores. -/
theorem State.wf_wr (s : State) (f : Field) (v : Nat) (h : SMap.wf resetCell s.live = true) :
    SMap.wf resetCell (s.wr f v).live = true := SMap.wf_set _ _ h

/-- So does the load of a pattern's value. -/
theorem State.wf_load (s : State) (k v : Nat) (h : SMap.wf resetCell s.live = true) : SMap.wf resetCell (s.load k v).live = true :=
  SMap.wf_set _ _ h

end Sys2Proof.Machine
end

