-- ==== Sys2Proof/Laws/Events.lean ====
section
/-!
SUPPORT. Laws/Events.lean: what the queue operations and an event change: the queue fabric and its registers, and the pending Squall event.
-/
namespace Sys2Proof.Machine
open Sys2Proof

/-- Two states agree on everything but the queue fabric, and on every register outside the QUE block. -/
structure QueOnly (s t : State) : Prop where

  hbi : t.hbi = s.hbi
  bar : t.bar = s.bar
  sys : t.sys = s.sys
  pat : t.pat = s.pat
  gd : t.gd = s.gd
  sht : t.sht = s.sht
  prt : t.prt = s.prt
  pair : t.pair = s.pair
  trg : t.trg = s.trg
  mrk : t.mrk = s.mrk
  th : t.th = s.th
  vlk : t.vlk = s.vlk
  met : t.met = s.met
  bil : t.bil = s.bil
  key : t.key = s.key
  saf : t.saf = s.saf
  clk : t.clk = s.clk
  pending : t.pending = s.pending
  drawn : t.drawn = s.drawn
  shadow : t.shadow = s.shadow
  tbuf : t.tbuf = s.tbuf
  rd : ∀ f : Field, (f.addr < 0x2A000 ∨ 0x2C000 ≤ f.addr) → f.lsb < 32 → t.rd f = s.rd f

theorem QueOnly.refl (s : State) : QueOnly s s := by
  constructor <;> first | rfl | (intros; rfl)

theorem QueOnly.trans {s t u : State} (h : QueOnly s t) (k : QueOnly t u) : QueOnly s u := by
  constructor
  · exact k.hbi.trans h.hbi
  · exact k.bar.trans h.bar
  · exact k.sys.trans h.sys
  · exact k.pat.trans h.pat
  · exact k.gd.trans h.gd
  · exact k.sht.trans h.sht
  · exact k.prt.trans h.prt
  · exact k.pair.trans h.pair
  · exact k.trg.trans h.trg
  · exact k.mrk.trans h.mrk
  · exact k.th.trans h.th
  · exact k.vlk.trans h.vlk
  · exact k.met.trans h.met
  · exact k.bil.trans h.bil
  · exact k.key.trans h.key
  · exact k.saf.trans h.saf
  · exact k.clk.trans h.clk
  · exact k.pending.trans h.pending
  · exact k.drawn.trans h.drawn
  · exact k.shadow.trans h.shadow
  · exact k.tbuf.trans h.tbuf
  · exact fun f hf hl => (k.rd f hf hl).trans (h.rd f hf hl)

/-- A write of a field of the QUE block. -/
theorem QueOnly.wr (s : State) (f : Field) (v : Nat) (h : 0x2A000 ≤ f.addr ∧ f.addr < 0x2C000 ∧ f.lsb < 32) : QueOnly s (s.wr f v) := by
  constructor <;> first | rfl | skip
  intro g hg hl
  exact State.rd_wr_ne s (by simp only [Field.key, ne_eq]; omega) v

/-- A change of the queue fabric's own state. -/
theorem QueOnly.que (s : State) (q : Que) : QueOnly s { s with que := q } := by
  constructor <;> first | rfl | (intros; rfl)

theorem queLevel_queOnly (s : State) (n l : Nat) (hn : n < 16) : QueOnly s (s.queLevel n l) := by
  unfold State.queLevel
  have a : ∀ (x : State) (v : Nat), QueOnly x (x.wr (F.QUE_Q_DEPTH_LEVEL n) v) := fun x v =>
    QueOnly.wr x _ v (by simp only [F.QUE_Q_DEPTH_LEVEL]; omega)
  have b : ∀ (x : State) (v : Nat), QueOnly x (x.wr F.QUE_STATUS_NONEMPTY v) := fun x v => QueOnly.wr x _ v (by decide)
  have c : ∀ (x : State) (v : Nat), QueOnly x (x.wr F.QUE_STATUS_FULL v) := fun x v => QueOnly.wr x _ v (by decide)
  have d : ∀ (x : State) (v : Nat), QueOnly x (x.wr (F.QUE_Q_HWM n) v) := fun x v =>
    QueOnly.wr x _ v (by simp only [F.QUE_Q_HWM]; omega)
  dsimp only
  split
  · exact (((a _ _).trans (b _ _)).trans (c _ _)).trans (d _ _)
  · exact ((a _ _).trans (b _ _)).trans (c _ _)

theorem incLost_queOnly (s : State) (n k : Nat) (hn : n < 16) : QueOnly s (s.inc (F.QUE_Q_LOST n) k) :=
  QueOnly.wr s _ _ (by simp only [F.QUE_Q_LOST]; omega)

theorem setQ_queOnly (s : State) (n : Nat) (xs : List QItem) (hn : n < 16) : QueOnly s (s.setQ n xs) :=
  (QueOnly.que s _).trans (queLevel_queOnly _ n _ hn)

theorem enqueue_queOnly (s : State) (n : Nat) (x : QItem) (hn : n < 16) : QueOnly s (s.enqueue n x) := by
  unfold State.enqueue
  split
  · exact setQ_queOnly s n _ hn
  · exact incLost_queOnly s n _ hn

theorem enqueueOldest_queOnly (s : State) (n : Nat) (x : QItem) (hn : n < 16) : QueOnly s (s.enqueueOldest n x) := by
  unfold State.enqueueOldest
  split
  · exact setQ_queOnly s n _ hn
  · exact (setQ_queOnly s n _ hn).trans (incLost_queOnly _ n _ hn)

theorem place_queOnly (s : State) (n : Nat) (x : QItem) (hn : n < 16) : QueOnly s (s.place n x) := by
  unfold State.place
  split
  · exact setQ_queOnly s n _ hn
  · exact QueOnly.que s _

theorem placeAll_queOnly (s : State) (n : Nat) (xs : List QItem) (hn : n < 16) : QueOnly s (s.placeAll n xs) := by
  unfold State.placeAll
  split
  · exact setQ_queOnly s n _ hn
  · exact incLost_queOnly s n _ hn

/-- A fold of operations of the queue fabric. -/
theorem foldl_queOnly {α : Type} (f : State → α → State) (h : ∀ s x, QueOnly s (f s x)) (xs : List α) (s : State) :
    QueOnly s (xs.foldl f s) := by
  induction xs generalizing s with
  | nil => exact QueOnly.refl s
  | cons x xs ih => exact (h s x).trans (ih (f s x))

theorem ringSend_queOnly (s : State) (q c d : Nat) (body : List Nat) (hq : q < 16) : QueOnly s (s.ringSend q c d body) :=
  foldl_queOnly _ (fun s x => place_queOnly s q x hq) _ s

theorem ringReply_queOnly (s : State) (c d : Nat) (body : List Nat) : QueOnly s (s.ringReply c d body) :=
  placeAll_queOnly s 4 _ (by decide)

theorem setQ0_queOnly (s : State) (xs : List Ev) : QueOnly s (s.setQ0 xs) :=
  (QueOnly.que s _).trans (queLevel_queOnly _ 0 _ (by decide))

theorem enterQ0_queOnly (s : State) (e : Ev) : QueOnly s (s.enterQ0 e) := by
  unfold State.enterQ0
  split
  · exact setQ0_queOnly s _
  · split
    · exact (setQ0_queOnly s _).trans (incLost_queOnly _ 0 _ (by decide))
    · dsimp only
      split
      · exact (setQ0_queOnly s _).trans (incLost_queOnly _ 0 _ (by decide))
      · exact incLost_queOnly s 0 _ (by decide)

theorem setQ11_queOnly (s : State) (xs : List Ev) : QueOnly s (s.setQ11 xs) :=
  ((QueOnly.que s _).trans (queLevel_queOnly _ 11 _ (by decide))).trans (QueOnly.wr _ _ _ (by decide))

theorem ringOver_queOnly (s : State) : QueOnly s s.ringOver := by
  unfold State.ringOver
  split
  · exact QueOnly.refl s
  · exact ((QueOnly.que s _).trans (QueOnly.wr _ _ _ (by decide))).trans (QueOnly.wr _ _ _ (by decide))

theorem ringStore_queOnly (s : State) (e : Ev) : QueOnly s (s.ringStore e) :=
  (QueOnly.que s _).trans (QueOnly.wr _ _ _ (by decide))

theorem ringFlags_queOnly (s : State) (e : Ev) : QueOnly s (s.ringFlags e) := by
  unfold State.ringFlags
  split <;> split <;> first | exact QueOnly.refl s | exact QueOnly.wr s _ _ (by decide)

theorem ringMailbox_queOnly (s : State) (e : Ev) : QueOnly s (s.ringMailbox e) := by
  unfold State.ringMailbox
  split
  · split
    · exact setQ11_queOnly s _
    · exact incLost_queOnly s 11 _ (by decide)
  · exact QueOnly.refl s

theorem ringWrite_queOnly (s : State) (e : Ev) : QueOnly s (s.ringWrite e) :=
  (((ringOver_queOnly s).trans (ringStore_queOnly _ e)).trans (ringFlags_queOnly _ e)).trans (ringMailbox_queOnly _ e)

/-- An event changes the queue fabric and the pending Squall event (R457, R462). -/
structure EventOnly (s t : State) : Prop where

  hbi : t.hbi = s.hbi
  bar : t.bar = s.bar
  sys : t.sys = s.sys
  pat : t.pat = s.pat
  gd : t.gd = s.gd
  sht : t.sht = s.sht
  prt : t.prt = s.prt
  pair : t.pair = s.pair
  mrk : t.mrk = s.mrk
  th : t.th = s.th
  vlk : t.vlk = s.vlk
  met : t.met = s.met
  bil : t.bil = s.bil
  key : t.key = s.key
  saf : t.saf = s.saf
  clk : t.clk = s.clk
  pending : t.pending = s.pending
  drawn : t.drawn = s.drawn
  shadow : t.shadow = s.shadow
  tbuf : t.tbuf = s.tbuf
  trg : { t.trg with squall := s.trg.squall, squallHere := s.trg.squallHere } = s.trg
  rd : ∀ f : Field, (f.addr < 0x2A000 ∨ 0x2C000 ≤ f.addr) → f.lsb < 32 → t.rd f = s.rd f

theorem QueOnly.event {s t : State} (h : QueOnly s t) : EventOnly s t where
  hbi := h.hbi
  bar := h.bar
  sys := h.sys
  pat := h.pat
  gd := h.gd
  sht := h.sht
  prt := h.prt
  pair := h.pair
  mrk := h.mrk
  th := h.th
  vlk := h.vlk
  met := h.met
  bil := h.bil
  key := h.key
  saf := h.saf
  clk := h.clk
  pending := h.pending
  drawn := h.drawn
  shadow := h.shadow
  tbuf := h.tbuf
  trg := by rw [h.trg]
  rd := h.rd

theorem EventOnly.refl (s : State) : EventOnly s s := (QueOnly.refl s).event

theorem EventOnly.trans {s t u : State} (h : EventOnly s t) (k : EventOnly t u) : EventOnly s u where
  hbi := k.hbi.trans h.hbi
  bar := k.bar.trans h.bar
  sys := k.sys.trans h.sys
  pat := k.pat.trans h.pat
  gd := k.gd.trans h.gd
  sht := k.sht.trans h.sht
  prt := k.prt.trans h.prt
  pair := k.pair.trans h.pair
  mrk := k.mrk.trans h.mrk
  th := k.th.trans h.th
  vlk := k.vlk.trans h.vlk
  met := k.met.trans h.met
  bil := k.bil.trans h.bil
  key := k.key.trans h.key
  saf := k.saf.trans h.saf
  clk := k.clk.trans h.clk
  pending := k.pending.trans h.pending
  drawn := k.drawn.trans h.drawn
  shadow := k.shadow.trans h.shadow
  tbuf := k.tbuf.trans h.tbuf
  trg := by
    have a := congrArg (fun x : Trg => { x with squall := s.trg.squall, squallHere := s.trg.squallHere }) k.trg
    have b := h.trg
    simp only at a
    rw [← b, ← a]
  rd := fun f hf hl => (k.rd f hf hl).trans (h.rd f hf hl)

theorem event_eventOnly (s : State) (code arg : Nat) : EventOnly s (s.event code arg) := by
  have a : ∀ e : Ev, QueOnly s (if s.inLull then s.ringWrite e else s.enterQ0 e) := by
    intro e
    split
    · exact ringWrite_queOnly s e
    · exact enterQ0_queOnly s e
  have sq : ∀ (x : State) (e : Ev), EventOnly x (x.squallPend e) := by
    intro x e
    constructor <;> first | rfl | (intros; rfl)
  unfold State.event
  dsimp only
  split
  · exact (a _).event.trans (sq _ _)
  · exact (a _).event

theorem configError_eventOnly (s : State) (kind item : Nat) : EventOnly s (s.configError kind item) := event_eventOnly s _ _

/-- A fold of events and queue operations. -/
theorem foldl_eventOnly {α : Type} (f : State → α → State) (h : ∀ s x, EventOnly s (f s x)) (xs : List α) (s : State) :
    EventOnly s (xs.foldl f s) := by
  induction xs generalizing s with
  | nil => exact EventOnly.refl s
  | cons x xs ih => exact (h s x).trans (ih (f s x))

end Sys2Proof.Machine
end

