-- ==== Sys2Proof/Laws/Frame.lean ====
section
/-!
SUPPORT. Laws/Frame.lean: how frames compose, and the frames of the operations that the commands share.
-/
namespace Sys2Proof.Machine
open Sys2Proof

variable {ps qs : List Part} {rs os : List Reach} {s t u : State}

theorem Part.same_refl (p : Part) (s : State) : p.same s s := by cases p <;> rfl

theorem Part.same_trans {p : Part} (h : p.same s t) (k : p.same t u) : p.same s u := by
  cases p <;> exact Eq.trans k h

theorem Frame.refl (ps : List Part) (rs : List Reach) (s : State) : Frame ps rs s s :=
  ⟨rfl, fun p _ => Part.same_refl p s, fun _ _ => rfl⟩

theorem Frame.trans (h : Frame ps rs s t) (k : Frame ps rs t u) : Frame ps rs s u :=
  ⟨k.pending.trans h.pending, fun p hp => Part.same_trans (h.parts p hp) (k.parts p hp), fun i hi => (k.live i hi).trans (h.live i hi)⟩

/-- A frame may be widened. -/
theorem Frame.mono (h : Frame ps rs s t) (hp : ∀ p ∈ ps, p ∈ qs) (hr : ∀ r ∈ rs, r ∈ os) : Frame qs os s t where
  pending := h.pending
  parts := fun p hn => h.parts p fun hm => hn (hp p hm)
  live := fun k hk => h.live k (by
    rw [List.any_eq_false] at hk ⊢
    exact fun r hm => hk r (hr r hm))

/-- A write of a field that the frame holds. -/
theorem Frame.wr (s : State) {f : Field} (hf : rs.any (Reach.has f.key) = true) (v : Nat) : Frame ps rs s (s.wr f v) where
  pending := rfl
  parts := fun p _ => by cases p <;> rfl
  live := fun k hk => SMap.get_set_ne resetCell (by rintro rfl; simp [hf] at hk) _ _

/-- A fold of operations that keep a frame. -/
theorem Frame.foldl {α : Type} (f : State → α → State) (h : ∀ s x, Frame ps rs s (f s x)) (xs : List α) (s : State) :
    Frame ps rs s (xs.foldl f s) := by
  induction xs generalizing s with
  | nil => exact Frame.refl ps rs s
  | cons x xs ih => exact (h s x).trans (ih (f s x))

/-- A fold of operations each of which keeps a frame for the members of the list. -/
theorem Frame.foldlMem {α : Type} (f : State → α → State) (xs : List α) (h : ∀ x ∈ xs, ∀ s, Frame ps rs s (f s x)) (s : State) :
    Frame ps rs s (xs.foldl f s) := by
  induction xs generalizing s with
  | nil => exact Frame.refl ps rs s
  | cons x xs ih => exact (h x (List.mem_cons_self ..) s).trans (ih (fun y hy => h y (List.mem_cons_of_mem _ hy)) (f s x))

/-- A change that leaves the queue of commands and the live registers alone, seen part by part. -/
theorem Frame.ofParts (hq : t.pending = s.pending) (hl : t.live = s.live) (h : ∀ p, p ∉ ps → p.same s t) : Frame ps rs s t :=
  ⟨hq, h, fun _ _ => by rw [hl]⟩

/-- A completed chain of frames under a condition. -/
theorem Frame.ite {c : Prop} [Decidable c] (h : Frame ps rs s t) (k : Frame ps rs s u) : Frame ps rs s (if c then t else u) := by
  split
  · exact h
  · exact k

/-- What completes with a known state keeps the frame of that state. -/
theorem Keeps.of {c : Instr} (f : State → State) (he : ∀ s, exec c s = .next (f s)) (h : ∀ s, Frame ps (rs ++ os) s (f s)) :
    Keeps c ps rs os := fun s t ht => by
  rw [he s] at ht
  injection ht with ht
  exact ht ▸ h s

/-! ### The queue fabric and events -/

theorem queLevel_frame (s : State) (n l : Nat) (hn : n = 0 ∨ n = 11) : Frame [.que] reachEvent s (s.queLevel n l) := by
  unfold State.queLevel
  dsimp only
  have key : ∀ (x : State) (f : Field) (v : Nat), (f = F.QUE_Q_DEPTH_LEVEL n ∨ f = F.QUE_STATUS_NONEMPTY ∨ f = F.QUE_STATUS_FULL ∨
      f = F.QUE_Q_HWM n) → Frame [.que] reachEvent x (x.wr f v) := fun x f v hf => by
    refine Frame.wr x ?_ v
    rcases hn with rfl | rfl <;> rcases hf with rfl | rfl | rfl | rfl <;> simp [reachEvent, Reach.has]
  refine Frame.ite ?_ ?_
  · exact (((key _ _ _ (by simp)).trans (key _ _ _ (by simp))).trans (key _ _ _ (by simp))).trans (key _ _ _ (by simp))
  · exact ((key _ _ _ (by simp)).trans (key _ _ _ (by simp))).trans (key _ _ _ (by simp))

/-- A change of the queue fabric alone. -/
theorem Frame.que (rs : List Reach) (s : State) (q : Que) : Frame [.que] rs s { s with que := q } :=
  Frame.ofParts rfl rfl fun p hp => by cases p <;> first | rfl | simp at hp

theorem setQ11_frame (s : State) (xs : List Ev) : Frame [.que] reachEvent s (s.setQ11 xs) :=
  ((Frame.que _ s _).trans (queLevel_frame _ 11 _ (Or.inr rfl))).trans (Frame.wr _ (by decide) _)

theorem setQ0_frame (s : State) (xs : List Ev) : Frame [.que] reachEvent s (s.setQ0 xs) :=
  (Frame.que _ s _).trans (queLevel_frame _ 0 _ (Or.inl rfl))

theorem enterQ0_frame (s : State) (e : Ev) : Frame [.que] reachEvent s (s.enterQ0 e) := by
  unfold State.enterQ0
  split
  · exact setQ0_frame s _
  · split
    · exact (setQ0_frame s _).trans (Frame.wr _ (by decide) _)
    · dsimp only
      split
      · exact (setQ0_frame s _).trans (Frame.wr _ (by decide) _)
      · exact Frame.wr _ (by decide) _

/-- An entry of the fault ring changes the queue fabric and the registers named for an event (R461, R464, R466). -/
theorem ringWrite_frame (s : State) (e : Ev) : Frame [.que] reachEvent s (s.ringWrite e) := by
  have passed : Frame [.que] reachEvent s s.ringOver := by
    unfold State.ringOver
    split
    · exact Frame.refl _ _ _
    · exact ((Frame.que _ s _).trans (Frame.wr _ (by decide) _)).trans (Frame.wr _ (by decide) _)
  have store : ∀ x : State, Frame [.que] reachEvent x (x.ringStore e) := fun x =>
    (Frame.que _ x _).trans (Frame.wr _ (by decide) _)
  have flags : ∀ x : State, Frame [.que] reachEvent x (x.ringFlags e) := fun x => by
    unfold State.ringFlags
    split <;> split <;> first | exact Frame.refl _ _ _ | exact Frame.wr _ (by decide) _
  have box : ∀ x : State, Frame [.que] reachEvent x (x.ringMailbox e) := fun x => by
    unfold State.ringMailbox
    split
    · split
      · exact setQ11_frame x _
      · exact Frame.wr _ (by decide) _
    · exact Frame.refl _ _ _
  exact ((passed.trans (store _)).trans (flags _)).trans (box _)

/-- A change of the ring's own state. -/
theorem Frame.trg (rs : List Reach) (s : State) (x : Trg) : Frame [.trg] rs s { s with trg := x } :=
  Frame.ofParts rfl rfl fun p hp => by cases p <;> first | rfl | simp at hp

/-- An event changes the queue fabric, the pending Squall event and the registers named for it (R457, R462). -/
theorem event_frame (s : State) (code arg : Nat) : Frame [.que, .trg] reachEvent s (s.event code arg) := by
  have wide : ∀ {x y : State}, Frame [.que] reachEvent x y → Frame [.que, .trg] reachEvent x y := fun h =>
    h.mono (by simp) fun _ h => h
  have first : Frame [.que, .trg] reachEvent s (if s.inLull then s.ringWrite { time := s.now, code := code, src := s.addr, arg := arg }
      else s.enterQ0 { time := s.now, code := code, src := s.addr, arg := arg }) :=
    Frame.ite (wide (ringWrite_frame s _)) (wide (enterQ0_frame s _))
  unfold State.event
  dsimp only
  split
  · exact first.trans ((Frame.trg _ _ _).mono (by simp) fun _ h => h)
  · exact first

theorem configError_frame (s : State) (kind item : Nat) : Frame [.que, .trg] reachEvent s (s.configError kind item) := event_frame s _ _

/-! ### Accesses and keyed commands -/

/-- A change of the host interface's own state. -/
theorem Frame.hbi (rs : List Reach) (s : State) (x : Hbi) : Frame [.hbi] rs s { s with hbi := x } :=
  Frame.ofParts rfl rfl fun p hp => by cases p <;> first | rfl | simp at hp

/-- A refused access is recorded, and nothing else changes (R88). -/
theorem accessError_frame (s : State) (side code addr path : Nat) : Frame [.hbi] reachKeyed s (s.accessError side code addr path) := by
  unfold State.accessError
  dsimp only
  have r : ∀ (x : State) (n : Nat), Frame [.hbi] reachKeyed x
      ((((((x.wr F.HBI_ERR_INFO_CODE code).wr F.HBI_ERR_INFO_SIDE n).wr F.HBI_ERR_INFO_PATH path).wr
        F.HBI_ERR_ADDR addr).inc F.HBI_ERR_COUNT)) := fun x n =>
    ((((Frame.wr x (by decide) _).trans (Frame.wr _ (by decide) _)).trans (Frame.wr _ (by decide) _)).trans
      (Frame.wr _ (by decide) _)).trans (Frame.wr _ (by decide) _)
  split
  · exact (r s _).trans (Frame.hbi _ _ _)
  · exact (r s _).trans (Frame.hbi _ _ _)

theorem accepted_frame (rs : List Reach) (s : State) (side : Nat) : Frame [.hbi] rs s (s.accepted side) := by
  unfold State.accepted
  dsimp only
  split
  · exact Frame.hbi _ _ _
  · exact Frame.hbi _ _ _

/-- A keyed command is refused with its record, or accepted and then runs: its frame is that of what runs, with the record's registers
(R64, R88, R90). -/
theorem command_frame (s : State) (side addr key want : Nat) (f : State → State) (hp : Part.hbi ∈ ps)
    (hr : ∀ r ∈ reachKeyed, r ∈ rs) (hf : ∀ x, Frame ps rs x (f x)) : Frame ps rs s (s.command side addr key want f) := by
  have e : ∀ code, Frame ps rs s (s.accessError side code addr) := fun code =>
    (accessError_frame s side code addr 0).mono (by simpa using hp) hr
  unfold State.command
  split
  · exact e _
  · split
    · exact e _
    · exact ((accepted_frame rs s side).mono (by simpa using hp) fun _ h => h).trans (hf _)

end Sys2Proof.Machine
end

