-- ==== Sys2Proof/Laws/Tack.lean ====
section
/-!
SUPPORT. Laws/Tack.lean: the frame of a safe boundary and of a TACK, and the canonical form of the register stores.
-/
namespace Sys2Proof.Machine
open Sys2Proof

/-! ### The canonical form -/

theorem State.canonical_wr {s : State} (h : s.canonical) (f : Field) (v : Nat) : (s.wr f v).canonical :=
  ⟨SMap.wf_set _ _ h.1, h.2⟩

theorem State.canonical_load {s : State} (h : s.canonical) (k v : Nat) : (s.load k v).canonical :=
  ⟨SMap.wf_set _ _ h.1, SMap.wf_set _ _ h.2.1, SMap.wf_set _ _ h.2.2⟩

/-- Two states with the same stores are canonical together. -/
theorem State.canonical_congr {s t : State} (h : s.canonical) (hl : t.live = s.live) (hs : t.shadow = s.shadow) (hb : t.tbuf = s.tbuf) :
    t.canonical := by
  unfold State.canonical
  rw [hl, hs, hb]
  exact h

/-! ### Copies -/

/-- A copy leaves every key outside its list. -/
theorem SMap.get_copyKeys_ne {α : Type} [DecidableEq α] (d : Nat → α) (f : Nat → α → α) (src : SMap α) {k : Nat} :
    ∀ (keys : List Nat) (dst : SMap α), k ∉ keys → SMap.get d (SMap.copyKeys d f src keys dst) k = SMap.get d dst k := by
  intro keys
  induction keys with
  | nil => intro dst _; rfl
  | cons a keys ih =>
    intro dst h
    simp only [List.mem_cons, not_or] at h
    exact (ih _ h.2).trans (SMap.get_set_ne d h.1 _ _)

/-- A fold of writes leaves every key that it does not write. -/
theorem SMap.get_foldl_set_ne {α β : Type} [DecidableEq α] (d : Nat → α) (key : β → Nat) (val : β → α) {k : Nat} :
    ∀ (xs : List β) (m : SMap α), (∀ x ∈ xs, key x ≠ k) →
      SMap.get d (xs.foldl (fun (m : SMap α) x => SMap.set d (key x) (val x) m) m) k = SMap.get d m k := by
  intro xs
  induction xs with
  | nil => intro m _; rfl
  | cons x xs ih =>
    intro m h
    exact (ih _ fun y hy => h y (List.mem_cons_of_mem _ hy)).trans
      (SMap.get_set_ne d (Ne.symm (h x (List.mem_cons_self ..))) _ _)

/-! ### The boundary -/

/-- Live cells that change only where BS and LV fields lie, and a change of the host interface's state. -/
theorem Frame.staged {s t : State} (hq : t.pending = s.pending) (h : ∀ p, p ∉ [Part.hbi] → p.same s t)
    (hl : ∀ k, stagedKey k = false → SMap.get resetCell t.live k = SMap.get resetCell s.live k) :
    Frame [.hbi] [.staged] s t :=
  ⟨hq, h, fun k hk => hl k (by simpa [Reach.has] using hk)⟩

theorem showPending_frame (s : State) : Frame [.hbi, .que, .trg] reachBoundary s s.showPending := Frame.wr s (by decide) _

theorem pfgError_frame (s : State) (g : Nat) : Frame [.hbi, .que, .trg] reachBoundary s (s.pfgError g) :=
  ((Frame.wr s (by decide) _).trans (Frame.wr _ (by decide) _)).trans
    ((configError_frame _ 1 g).mono (by simp) (by simp +contextual [reachBoundary]))

theorem boundaryError_frame (s : State) (kind item : Nat) : Frame [.hbi, .que, .trg] reachBoundary s (s.configError kind item) :=
  (configError_frame s kind item).mono (by simp) (by simp +contextual [reachBoundary])

/-- A PHASE that is held below its PERIOD is a BS field (R203). -/
theorem fitPhases_frame (s : State) (apply : List Nat) : Frame [.hbi, .que, .trg] reachBoundary s (s.fitPhases apply) := by
  refine Frame.foldlMem _ _ (fun h hm x => Frame.wr x ?_ _) s
  have small : h < 12 := List.mem_range.mp (List.mem_of_mem_filter hm)
  have staged : ∀ k : Fin 12, stagedKey (F.PWM_HB_SYNC_PHASE k).key = true := by decide
  simp [reachBoundary, Reach.has, staged ⟨h, small⟩]

/-- The safe boundary of some parts changes BS and LV fields alone, with its record of what did not agree (R68, R76, R182, R199, R254). -/
theorem applyParts_frame (s : State) (parts : List (Nat × Nat)) : Frame [.hbi, .que, .trg] reachBoundary s (s.applyParts parts) := by
  unfold State.applyParts
  split
  · exact Frame.refl _ _ s
  · dsimp only
    refine Frame.trans ?_ (Frame.foldl _ (fun x g => boundaryError_frame x 4 g) _ _)
    refine Frame.trans ?_ (Frame.foldl _ (fun x g => boundaryError_frame x 7 g) _ _)
    refine Frame.trans ?_ (Frame.foldl _ (fun x d => (Frame.wr x (by decide) _).trans (boundaryError_frame _ 3 _)) _ _)
    refine Frame.trans ?_ (Frame.foldl _ (fun x (g : Nat × List Nat) => pfgError_frame x g.1) _ _)
    refine Frame.trans ?_ (showPending_frame _)
    refine Frame.trans ?_ (fitPhases_frame _ _)
    refine Frame.mono (ps := [.hbi]) (rs := [.staged]) (Frame.staged rfl (fun p hp => by cases p <;> first | rfl | simp at hp)
      fun k hk => ?_) (by simp) (by simp [reachBoundary])
    refine (SMap.get_foldl_set_ne resetCell (fun e : Nat => e) (fun e => landed e (s.pendCand e)) _ _ ?_).trans ?_
    · rintro e he rfl
      have := List.of_mem_filter he
      simp [hk] at this
    · refine SMap.get_copyKeys_ne resetCell landed s.tbuf _ _ fun hm => ?_
      have := List.of_mem_filter (List.mem_of_mem_filter hm)
      simp [hk] at this

theorem safLog_frame (s : State) (kind origin client cause oldCrc newCrc fields first : Nat) :
    Frame [.saf] reachBoundary s (s.safLog kind origin client cause oldCrc newCrc fields first) := by
  have set : ∀ (x : State) (y : Saf), Frame [.saf] reachBoundary x { x with saf := y } := fun x y =>
    Frame.ofParts rfl rfl fun p hp => by cases p <;> first | rfl | simp at hp
  unfold State.safLog
  dsimp only
  split
  · exact ((Frame.wr _ (by decide) _).trans (Frame.wr _ (by decide) _)).trans (set _ _)
  · exact (((Frame.wr _ (by decide) _).trans (Frame.wr _ (by decide) _)).trans (Frame.wr _ (by decide) _)).trans (set _ _)

/-- What an application of changed safety parameters does (R446, R448). -/
theorem paramsApplied_frame (s old : State) : Frame [.pat, .saf] reachBoundary s (s.paramsApplied old) := by
  have set : ∀ (x : State) (y : Pat), Frame [.pat] reachBoundary x { x with pat := y } := fun x y =>
    Frame.ofParts rfl rfl fun p hp => by cases p <;> first | rfl | simp at hp
  unfold State.paramsApplied
  dsimp only
  split
  · exact Frame.refl _ _ s
  · exact ((Frame.wr _ (by decide) _).trans ((set _ _).mono (by simp) fun _ h => h)).trans
      ((safLog_frame _ _ _ _ _ _ _ _ _).mono (by simp) fun _ h => h)

/-- A safe boundary changes BS and LV fields, the registers that record what did not agree or was applied, and waits no longer. -/
theorem boundary_frame (s : State) (parts : List (Nat × Nat)) :
    Frame [.hbi, .que, .trg, .pat, .saf] reachBoundary s (s.boundary parts) :=
  ((applyParts_frame s parts).mono (by simp) fun _ h => h).trans ((paramsApplied_frame _ s).mono (by simp) fun _ h => h)

end Sys2Proof.Machine
end

