-- ==== Sys2Proof/Tests/Slice0.lean ====
section
/-!
SUPPORT. Tests/Slice0.lean: a witness for every statement's hypotheses with what the command leaves there, and the checks of WellFormed.
-/
namespace Sys2Proof.Tests
open Sys2Proof Sys2Proof.Machine
set_option maxRecDepth 20000
set_option linter.unusedVariables false

/-- What a command leaves. -/
def after (c : Instr) (s : State) : State := match exec c s with
  | .next t => t
  | _ => s

/-- The image content of a small site: a stack pair on row 1, an outlet pair on column 1, a site pair, and a floater at 30. -/
def content : Content where
  units := [{ addr := 1, instance_ := 1 }, { addr := 2, instance_ := 1 }, { addr := 3, instance_ := 2 }, { addr := 4, instance_ := 2 },
    { addr := 26, instance_ := 34 }, { addr := 27, instance_ := 34 }, { addr := 30, span := [34] }]
  roles := [{ instance_ := 1, kind := .site, unitA := 1, unitB := 2 }, { instance_ := 2, kind := .stack, unitA := 3, unitB := 4, rowCol := 1 },
    { instance_ := 34, kind := .outlet, unitA := 26, unitB := 27, rowCol := 1 }]

def st0 : State := State.reset
def stUp : State := { State.reset with sys := { vinPresent := true, running := true } }
def stPend : State := { State.reset with sys := { vinPresent := true, startPending := some 1 } }
def stJoined : State := { stUp with trg := { join := .joined, key := some [1], lastMaster := 1 } }
def stRole (inst addr : Nat) : State :=
  (({ stJoined with pat := { content := content, instance_ := inst } } : State).wr F.TRG_STATUS_ADDR addr).wr F.PAIR_STATUS_STATE psActive
def stSite : State := stRole 1 1
def stStack : State := stRole 2 3
def stOutlet : State := (stRole 34 26).wr F.PAIR_STATUS_STATE psCold
def stOutletAct : State := stRole 34 26
def stFloat : State := ({ stJoined with pat := { content := content } } : State).wr F.TRG_STATUS_ADDR 30
def stLull : State := stOutlet.wr F.CLK_LULL_STATUS_STATE 2
def stAfe : State :=
  (({ stStack with sys.mainCoil := true, pat.content.roles := [{ instance_ := 2, kind := .stack, loops := [{ loop := 0, hbMask := 1 }] }] } :
    State)).wr (F.SHT_LOOP_MODE_NOW 0) mAfeDclink


/-- A state whose window k holds a word. -/
def stIdx (a : Nat) : State := ((stUp.wr (F.HBI_IDX_ADDR.bank 0) a).wr F.HBI_IDX_STATUS_READY 1)
/-- A site unit that serves an open session 1 with a client that may observe and operate. -/
def stShore : State :=
  ({ stSite with trg.shore := [(1, { isOpen := true, client := 3, observe := true, operate := true })] } : State).setMember 1 true
/-- The active site unit as cycle master. -/
def stMaster : State := stSite.wrb F.TRG_STATUS_MASTER true
/-- A cold standby of an outlet pair with its partner at 27. -/
def stPair : State := { stOutlet with pair.partnerAddr := 27 }
/-- A lead stack in voltage control with another stack on its column. -/
def stLead : State := ({ stStack with
  pat.content.roles := [{ instance_ := 2, kind := .stack, rowCol := 1, loops := [{ loop := 1, hbMask := 2, modes := [{ mode := 4 }] }] }]
  mrk.stack := some { row := 1, col := 1, lead := true }, mrk.applied := { stackEntries := [{ row := 2, col := 1, mode := 3 }] } } : State).wr
    (F.SHT_LOOP_MODE_NOW 1) mOutVoltage
/-- A loop with one half-bridge and one ADC, and an active stack that runs it in current control. -/
def loop1 : LoopDecl := { loop := 1, hbMask := 2, adcMask := 4, bwMin := 1, bwMax := 6, anchorHb := 1, modes := [{ mode := 4 }, { mode := 5 }] }
def stLoop : State :=
  ({ stStack with pat.content.roles := [{ instance_ := 2, kind := .stack, rowCol := 1, loops := [loop1] }] } : State).wr (F.SHT_LOOP_MODE_NOW 1)
    mOutCurrent
/-- Its half-bridge drives: enable held, links up, no lock-out. -/
def stDrive : State :=
  ({ (((((stLoop.wr F.PAIR_STATUS_EN 1).wrb (F.GDI_CH_STATUS_ENABLE 2) true).wrb (F.GDI_CH_STATUS_ENABLE 3) true).wrb
      (F.GDI_CH_STATUS_LINK 2) true).wr (F.GDI_CH_STATUS_STATE 2) offSt).wr (F.GDI_CH_STATUS_STATE 3) offSt with
    gd.onPermitted := true, gd.ch := [(2, { lockVdd := false }), (3, { lockVdd := false })] } : State)
/-- Group 1 of the loop's half-bridge, tripped by one leg and collected; and a locked-out one on a unit whose maintenance window is open. -/
def stTrip : State :=
  (((stDrive.wr (F.PRT_GRP_STATE_STATE 1) 1).wrb (F.PRT_GRP_CFG_RETRY 1) true).wr (F.PRT_GRP_STATE_CAUSE 1) 3).setGrp 1 { collecting := true }
def stLock : State := (stDrive.wr (F.PRT_GRP_STATE_STATE 1) 4).wrb (F.HBI_CRED_STATUS_MAINT_OPEN.bank 0) true
/-- An active outlet with one coolant loop and SO_POS driven as a tested output. -/
def stCool : State :=
  ({ stOutletAct with
    pat.content.roles := [{ instance_ := 34, kind := .outlet, rowCol := 1, cool := [{ pumpHb := 2 }], testedOutputs := [0] }]
    vlk.soPos := true } : State).wr F.PAIR_STATUS_EN 1
/-- A consumed ring connection in good state. -/
def stConn : State := ((stCool.wr (F.SAF_CONN_CFG_KIND 2) 2).wr (F.SAF_CONN_STATUS_STATE 2) 1).wr (F.SAF_CONN_ID 2) 77
/-- The frame that follows it, with its CRC. -/
def sfNext : SafetyFrame :=
  let f : SafetyFrame := { connId := 77, seq := 1, wdMs := stConn.rd (F.SAF_CONN_STATUS_WD_MS 2) }
  { f with crc := crc32c (frameBody f) }
/-- An active outlet with a plugged vehicle in an open session, not yet marked; and one at a state of the vehicle link. -/
def stVeh : State :=
  { (stOutletAct.wr F.VLK_STATUS_STATE vPlugged).wr F.VLK_STATUS_CS csPlugged with vlk.session := true, key.root := some [1] }
def stVst (n : Nat) : State := stVeh.wr F.VLK_STATUS_STATE n
/-- A partition that meters, 9 ticks into its first interval; and one whose interval of one minute is due. -/
def stMet : State :=
  { stOutletAct with met.running := true, met.booking := true, met.tot := { ledger := 9, int := { no := 1, len := 500 } } }
def stDue : State := { stMet with met.tot := { ledger := 500, int := { no := 1, len := 500 } } }
/-- An update message of an operation with counter 1, and the state in which it waits at the head of Q7 of an enrolled, bound unit. -/
def msgOf (op : Nat) : List Nat :=
  [0x21, op, [0, 0, 0, 3, 1, 2].getD op 0, 1] ++ leBytes 8 Config.deviceId ++ [1, 0, 0, 0, 0, 0, 0, 0, if op == 1 then 6 else 1, 1] ++
    List.replicate 90 0
def stMsg (op : Nat) : State :=
  ({ stMet with que.items := [(7, [{ kind := 1, body := 0 :: msgOf op }])] } : State).wrb F.KEY_STATUS_ENROLLED true |>.wr F.KEY_STATUS_LC lcBound
/-- It passes every check where its identity and tag are good. -/
theorem msg_accepted (op : Nat) (p : List Nat)
    (hf : msgFormatOk (msgOf op) = true ∧ (stMsg op).rdb F.KEY_STATUS_ENROLLED = true ∧
      (stMsg op).rd64 F.KEY_COUNTER_LO < msgCounter (msgOf op))
    (hd : msgDevice (msgOf op) = Config.deviceId) (hp : (stMsg op).msgPayload (msgOf op) = some p) :
    ((stMsg op).msgCheck (msgOf op)).1 = rOk := by
  simp [State.msgCheck, hf.1, hf.2.1, hd, hp, Nat.not_le.mpr hf.2.2]
/-- A side that has read a challenge. -/
def stChal : State := ({ stUp with hbi.sides := [(1, { chalValid := true })], saf.pw.b.bytes := [9], saf.pw.cw.half := true } : State).wrb
  F.SAF_STATUS_PW_SET true


/-! ### Ill-formed operands that WellFormed refuses -/

theorem test_illFormed_stackEntry :
  WellFormed (.planReceive { stackEntries := [({ row := 1, col := 1 } : StackEntry)] } 1) = true ∧
    ([{ ({ row := 1, col := 1 } : StackEntry) with row := 0 }, { ({ row := 1, col := 1 } : StackEntry) with row := 33 },
      { ({ row := 1, col := 1 } : StackEntry) with col := 17 }, { ({ row := 1, col := 1 } : StackEntry) with mode := 6 },
      { ({ row := 1, col := 1 } : StackEntry) with shareFrom := 65536 },
      { ({ row := 1, col := 1 } : StackEntry) with shareTo := 65536 },
      { ({ row := 1, col := 1 } : StackEntry) with ceiling := 65536 },
      { ({ row := 1, col := 1 } : StackEntry) with pCap := 65536 }] : List StackEntry).all (fun x => !WellFormed (.planReceive { stackEntries := [x] } 1)) = true := by decide


theorem test_illFormed_outletEntry :
  WellFormed (.planReceive { outlets := [({ col := 1 } : OutletEntry)] } 1) = true ∧
    ([{ ({ col := 1 } : OutletEntry) with col := 0 }, { ({ col := 1 } : OutletEntry) with col := 17 },
      { ({ col := 1 } : OutletEntry) with stackCount := 256 }, { ({ col := 1 } : OutletEntry) with iMax := 65536 },
      { ({ col := 1 } : OutletEntry) with iExportMax := 65536 }, { ({ col := 1 } : OutletEntry) with pMax := 65536 },
      { ({ col := 1 } : OutletEntry) with iForecast := 65536 }] : List OutletEntry).all (fun x => !WellFormed (.planReceive { outlets := [x] } 1)) = true := by decide


theorem test_illFormed_plan :
  WellFormed (.planReceive ({} : Plan) 1) = true ∧
    ([{ ({} : Plan) with planNo := 2 ^ 32 }, { ({} : Plan) with applyTime := 2 ^ 64 * 10000000 },
      { ({} : Plan) with applyTime := 1 }, { ({} : Plan) with leaseMs := 256 }, { ({} : Plan) with rampMs := 256 },
      { ({} : Plan) with stackEntries := List.replicate 33 { row := 1, col := 1 } },
      { ({} : Plan) with outlets := List.replicate 17 { col := 1 } }] : List Plan).all (fun x => !WellFormed (.planReceive x 1)) = true := by decide


theorem test_illFormed_demand :
  WellFormed (.demandReceive ({ col := 1 } : Demand)) = true ∧
    ([{ ({ col := 1 } : Demand) with col := 0 }, { ({ col := 1 } : Demand) with col := 17 },
      { ({ col := 1 } : Demand) with mode := 3 }, { ({ col := 1 } : Demand) with seq := 256 },
      { ({ col := 1 } : Demand) with iRef := 32768 }, { ({ col := 1 } : Demand) with iRef := -32769 },
      { ({ col := 1 } : Demand) with vRef := 65536 },
      { ({ col := 1 } : Demand) with vBus := 65536 }] : List Demand).all (fun x => !WellFormed (.demandReceive x)) = true := by decide


theorem test_illFormed_lead :
  WellFormed (.leadReceive ({ col := 1, row := 1 } : Lead)) = true ∧
    ([{ ({ col := 1, row := 1 } : Lead) with col := 0 }, { ({ col := 1, row := 1 } : Lead) with row := 33 },
      { ({ col := 1, row := 1 } : Lead) with seq := 256 }, { ({ col := 1, row := 1 } : Lead) with iLead := -32769 },
      { ({ col := 1, row := 1 } : Lead) with shareLead := 65536 }] : List Lead).all (fun x => !WellFormed (.leadReceive x)) = true := by decide


theorem test_illFormed_header :
  WellFormed (.cycleHeaderReceive ({ master := 1 } : RingHeader) false true 0 0) = true ∧
    ([{ ({ master := 1 } : RingHeader) with master := 0 }, { ({ master := 1 } : RingHeader) with master := 97 },
      { ({ master := 1 } : RingHeader) with epoch := 65536 }, { ({ master := 1 } : RingHeader) with cycle := 2 ^ 64 },
      { ({ master := 1 } : RingHeader) with ringTime := 2 ^ 64 }, { ({ master := 1 } : RingHeader) with calOffset := 2 ^ 63 },
      { ({ master := 1 } : RingHeader) with stepCount := 256 },
      { ({ master := 1 } : RingHeader) with tackMask := 65536, tackTarget := 1 },
      { ({ master := 1 } : RingHeader) with tackMask := 1, tackTarget := 98 },
      { ({ master := 1 } : RingHeader) with tackTime := 2 ^ 64 }] : List RingHeader).all (fun x => !WellFormed (.cycleHeaderReceive x false true 0 0)) = true := by decide


theorem test_illFormed_slot :
  WellFormed (.dataSlotReceive ({ src := 1, channel := 1 } : DataSlot) 0 true) = true ∧
    ([{ ({ src := 1, channel := 1 } : DataSlot) with src := 97 }, { ({ src := 1, channel := 1 } : DataSlot) with channel := 0 },
      { ({ src := 1, channel := 1 } : DataSlot) with channel := 8 },
      { ({ src := 1, channel := 1 } : DataSlot) with payload := List.replicate 49 0 },
      { ({ src := 1, channel := 1 } : DataSlot) with payload := [256] }] : List DataSlot).all (fun x => !WellFormed (.dataSlotReceive x 0 true)) = true := by decide


theorem test_illFormed_squall :
  WellFormed (.squallReceive ({ src := 1 } : SquallFrame) true) = true ∧
    ([{ ({ src := 1 } : SquallFrame) with src := 0 }, { ({ src := 1 } : SquallFrame) with count := 0 },
      { ({ src := 1 } : SquallFrame) with count := 256 }, { ({ src := 1 } : SquallFrame) with code := 65536 },
      { ({ src := 1 } : SquallFrame) with seq := 65536 },
      { ({ src := 1 } : SquallFrame) with time := 2 ^ 32 }] : List SquallFrame).all (fun x => !WellFormed (.squallReceive x true)) = true := by decide


theorem test_illFormed_safetyFrame :
  WellFormed (.safetyFrameReceive 1 0 ({} : SafetyFrame) true) = true ∧
    ([{ ({} : SafetyFrame) with connId := 2 ^ 32 }, { ({} : SafetyFrame) with seq := 65536 },
      { ({} : SafetyFrame) with wdMs := 65536 }, { ({} : SafetyFrame) with req := 65536 },
      { ({} : SafetyFrame) with pState := 256 }, { ({} : SafetyFrame) with pCause := 256 },
      { ({} : SafetyFrame) with pairData := 2 ^ 32 },
      { ({} : SafetyFrame) with crc := 2 ^ 32 }] : List SafetyFrame).all (fun x => !WellFormed (.safetyFrameReceive 1 0 x true)) = true := by decide


theorem test_illFormed_pairSafetyFrame :
  WellFormed (.pairSafetyFrame {} [] ({} : SafetyFrame) 0 0) = true ∧
    ([{ ({} : SafetyFrame) with connId := 2 ^ 32 }, { ({} : SafetyFrame) with seq := 65536 },
      { ({} : SafetyFrame) with wdMs := 65536 }, { ({} : SafetyFrame) with req := 65536 },
      { ({} : SafetyFrame) with pState := 256 }, { ({} : SafetyFrame) with pCause := 256 },
      { ({} : SafetyFrame) with pairData := 2 ^ 32 },
      { ({} : SafetyFrame) with crc := 2 ^ 32 }] : List SafetyFrame).all (fun x => !WellFormed (.pairSafetyFrame {} [] x 0 0)) = true := by decide


theorem test_illFormed_joinRequest :
  WellFormed (.joinWindowTake (some ({ addr := 1, digest := List.replicate 48 0 } : JoinReq)) none) = true ∧
    ([{ ({ addr := 1, digest := List.replicate 48 0 } : JoinReq) with addr := 0 },
      { ({ addr := 1, digest := List.replicate 48 0 } : JoinReq) with strap := 128 },
      { ({ addr := 1, digest := List.replicate 48 0 } : JoinReq) with hop := 256 },
      { ({ addr := 1, digest := List.replicate 48 0 } : JoinReq) with device := 2 ^ 64 },
      { ({ addr := 1, digest := List.replicate 48 0 } : JoinReq) with digest := [] },
      { ({ addr := 1, digest := List.replicate 48 0 } : JoinReq) with digest := List.replicate 48 256 }] : List JoinReq).all (fun x => !WellFormed (.joinWindowTake (some x) none)) = true := by decide


theorem test_illFormed_secondJoinRequest :
  WellFormed (.joinWindowTake none (some ({ addr := 1, digest := List.replicate 48 0 } : JoinReq))) = true ∧
    ([{ ({ addr := 1, digest := List.replicate 48 0 } : JoinReq) with addr := 97 },
      { ({ addr := 1, digest := List.replicate 48 0 } : JoinReq) with digest := [] }] : List JoinReq).all (fun x => !WellFormed (.joinWindowTake none (some x))) = true := by decide


theorem test_illFormed_duty :
  WellFormed (.dutyReceive ({} : Duty) 1) = true ∧
    ([{ ({} : Duty) with witnesses := List.replicate 256 (1, 1) }, { ({} : Duty) with witnesses := [(256, 1)] },
      { ({} : Duty) with witnesses := [(1, 256)] }, { ({} : Duty) with replicas := List.replicate 256 (1, 1, 1) },
      { ({} : Duty) with replicas := [(97, 1, 1)] }, { ({} : Duty) with replicas := [(1, 256, 1)] },
      { ({} : Duty) with replicas := [(1, 1, 256)] }] : List Duty).all (fun x => !WellFormed (.dutyReceive x 1)) = true := by decide


theorem test_powerOn : (fun (s : State) => (True) ∧ (fun t => t.sys.startPending = some 1 ∧ t.sys.vinPresent = true ∧ t.trg = {} ∧
    t.met.running = false) (after (.powerOn) s)) (st0) := by decide

theorem test_brownOutReset : (fun (s : State) => ((s.sys.vinPresent = true)) ∧ (fun t => t.sys.startPending = some 2 ∧
    t.sys.earlyWarning = false ∧ t.met.running = false) (after (.brownOutReset) s)) (stUp) := by decide

theorem test_resetPin : (fun (s : State) => (True) ∧ (fun t => t.sys.startPending = some 6 ∧ t.sys.running = false ∧ t.saf.pw =
    s.saf.pw ∧ t.met = { s.met with po := [] } ∧ t.bil = s.bil) (after (.resetPin) s)) (st0) := by decide

theorem test_sysResetForce : (fun (side : Side) (s : State) => (True) ∧ (fun t => t.sys.startPending = some 5 ∧ t.sys.running = false)
    (after (.sysResetForce side 0x1D62#16) s)) (0) (stUp) := by decide

theorem test_sysReset : (fun (side : Side) (s : State) => ((s.active = false)) ∧ (fun t => t.sys.startPending = some 5 ∧ t.sys.running
    = false) (after (.sysReset side 0x1D62#16) s)) (1) (stUp) := by decide

theorem test_earlyWarningClear : (fun (s : State) => ((s.sys.earlyWarning = true) ∧ (s.inLull = false)) ∧ (fun t => t.sys.startPending
    = some 3 ∧ t.sys.earlyWarning = false) (after (.earlyWarningClear) s)) ({ stUp with sys.earlyWarning := true }) := by decide

theorem test_lockstepMismatch : (fun (s : State) => ((s.bar.withdrawing = none)) ∧ (fun t => t.sys.startPending = some 4 ∧
    t.bar.withdrawing = some 2) (after (.lockstepMismatch) s)) (stUp) := by decide

theorem test_uncorrectableError : (fun (s : State) => ((s.bar.withdrawing = none) ∧ (s.inLull = false)) ∧ (fun t => t.sys.startPending
    = some 4 ∧ t.bar.withdrawing = some 1) (after (.uncorrectableError) s)) (stUp) := by decide

theorem test_clockMonitor : (fun (ppm : Int) (s : State) => ((s.sys.running = true) ∧ (s.inLull = false) ∧ (500 < ppm.natAbs) ∧
    (s.bar.withdrawing = none)) ∧ (fun t => t.sys.startPending = some 4 ∧ t.bar.withdrawing = some 6) (after (.clockMonitor ppm) s))
    ((-501)) (stUp) := by decide

theorem test_pllLockLoss : (fun (pll : Fin 5) (s : State) => ((s.sys.running = true) ∧ (s.inLull = false) ∧ (s.bar.withdrawing =
    none)) ∧ (fun t => t.sys.startPending = some 4 ∧ t.bar.withdrawing = some 6) (after (.pllLockLoss pll) s)) (2) (stUp) := by decide

theorem test_retentionScrub : (fun (s : State) => ((s.bar.withdrawing = none) ∧ (s.inLull = false)) ∧ (fun t => t.sys.startPending =
    some 4) (after (.retentionScrub .uncorrectable) s)) (stUp) := by decide

theorem test_earlyWarning : (fun (s : State) => ((s.sys.earlyWarning = false) ∧ (s.sys.vinPresent = true) ∧ (s.inLull = false) ∧
    (s.sys.running = true) ∧ (s.bar.withdrawing = none)) ∧ (fun t => t.sys.earlyWarning = true ∧ t.sys.startPending = none ∧
    t.bar.withdrawing = some 8) (after (.earlyWarning) s)) (stUp) := by decide

theorem test_startBegin : (fun (straps : BitVec 7) (rtc : Nat) (src : Nat) (memA : Bool) (memB : Bool) (dbgLow : Bool) (s : State) =>
    (s.sys.startPending = some src) ∧ (s.sys.vinPresent = true) ∧ (s.sys.earlyWarning = false)) (5) (1000) (1) (true) (true) (true)
    (stPend) := by decide

theorem test_comparatorSelfTest : (fun (time : Nat) (s : State) => ((s.sys.running = true) ∧ (s.trg.join = .joined) ∧ (s.rd
    F.SYS_START_PHASE = 7) ∧ (s.kind = .none)) ∧ (fun t => t.rd F.SYS_START_PHASE = 15 ∧ t.rdb F.CLK_AON_STATUS_POR = false) (after
    (.comparatorSelfTest time) s)) (0) ((stJoined.wr F.SYS_START_PHASE 7)) := by decide

theorem test_comparatorTestTimeout : (fun (g : Fin 8) (s : State) => ((s.sys.testWait = [g.val]) ∧ (g.val ∈ s.groups) ∧ ((s.grp
    g.val).testSeen = [])) ∧ (fun t => t.rd (F.PRT_GRP_TEST_DESAT g.val) = 0 ∧ t.rd (F.PRT_GRP_TEST_BIAS g.val) = 0 ∧ t.sys = s.sys)
    (after (.comparatorTestTimeout) s)) (0) ({ stAfe with sys.testWait := [0] }) := by decide

theorem test_formingTimeout : (fun (time : Nat) (s : State) => ((s.trg.join = .joined) ∧ (s.pair.partnerAddr ≠ 0) ∧ (s.rdb
    F.PAIR_STATUS_LINK = false) ∧ (s.own = 0) ∧ (s.rd F.PAIR_STATUS_STATE = psForming) ∧ (s.bar.benched = 0) ∧ (s.kind ≠ .site)) ∧ (fun
    t => t.rd F.PAIR_STATUS_STATE = psCold ∧ t.pair.lost = true ∧ t.pair.formed = false) (after (.formingTimeout time) s)) (0)
    (({ stOutlet with pair.partnerAddr := 27 } : State).wr F.PAIR_STATUS_STATE psForming) := by decide

theorem test_roleStart : (fun (s : State) => ((s.active = true) ∧ (s.sys.roleStarted = false) ∧ (s.inLull = false) ∧ (s.kind = .stack)
    ∧ (s.groups = []) ∧ (s.sys.down = false)) ∧ (fun t => t.sys.roleStarted = true ∧ t.sys.preCoil = true ∧ t.sys.preOk = false) (after
    (.roleStart) s)) (stStack) := by decide

theorem test_prechargeComplete : (fun (s : State) => ((s.active = true) ∧ (s.sys.preCoil = true) ∧ (s.sys.preOk = false) ∧ (s.loops =
    [])) ∧ (fun t => t.sys.preOk = true ∧ t.sys.mainCoil = true) (after (.prechargeComplete) s)) ({ stStack with sys.preCoil := true })
    := by decide

theorem test_prechargeTimeout : (fun (s : State) => ((s.active = true) ∧ (s.sys.preCoil = true) ∧ (s.sys.preOk = false)) ∧ (fun t =>
    t.rdb F.SYS_START_ROLE_FAIL = true ∧ t.sys.preCoil = false ∧ t.sys.mainCoil = false) (after (.prechargeTimeout) s))
    ({ stStack with sys.preCoil := true }) := by decide

theorem test_prechargeRetry : (fun (s : State) => ((s.active = true) ∧ (s.kind = .stack) ∧ (s.sys.roleStarted = true) ∧ (s.sys.down =
    false) ∧ (s.sys.preCoil = false) ∧ (s.sys.mainCoil = false) ∧ (s.rd F.SYS_START_ROLE_TRIES = 1) ∧ (s.groups = [])) ∧ (fun t =>
    t.sys.preCoil = true ∧ t.sys.preOk = false) (after (.prechargeRetry) s)) (({ stStack with sys.roleStarted := true } : State).wr
    F.SYS_START_ROLE_TRIES 1) := by decide

theorem test_prechargeCoilRelease : (fun (s : State) => ((s.sys.preCoil = true) ∧ (s.sys.mainCoil = true) ∧ (s.sys.preOk = true)) ∧
    (fun t => t.sys.preCoil = false ∧ t.sys.mainCoil = true) (after (.prechargeCoilRelease) s))
    ({ stStack with sys.preCoil := true, sys.mainCoil := true, sys.preOk := true }) := by decide

theorem test_stackAvailable : (fun (d : LoopDecl) (s : State) => (s.active = true) ∧ (s.kind = .stack) ∧ (s.sys.mainCoil = true) ∧ (d
    ∈ s.loops) ∧ (s.nowMode d.loop = mAfeDclink)) ({ loop := 0, hbMask := 1 }) (stAfe) := by decide

theorem test_floaterTakeover : (fun (report : List Nat) (taken : List (Nat × Nat × Nat)) (r : RoleDecl) (s : State) => (s.trg.join =
    .joined) ∧ (s.kind = .none) ∧ (s.pat.instance_ = 0) ∧ (s.bar.benched = 0) ∧ (({ s with mrk.floats := taken } : State).freeFloaters
    report = [s.addr]) ∧ (({ s with mrk.floats := taken } : State).floaterChoice report s.addr = some r) ∧ (s.pat.content.roles.find?
    (·.instance_ == r.instance_) = some r)) ([26]) ([]) ({ instance_ := 34, kind := .outlet, unitA := 26, unitB := 27, rowCol := 1 })
    (stFloat) := by decide

theorem test_pairRelease : (fun (side : Side) (s : State) => ((s.inLull = false) ∧ (side ≠ 0) ∧ (s.rdb F.PAIR_FLOAT_VALID = true)) ∧
    (fun t => (s.active = true → t.pair.releaseWait = true ∧ t.pat.instance_ = s.pat.instance_) ∧ (s.active = false → t.pat.instance_ =
    0 ∧ t.rdb F.PAIR_FLOAT_VALID = false ∧ t.own = 0)) (after (.pairRelease side 0x2C95#16) s)) (1) (stStack.wrb F.PAIR_FLOAT_VALID
    true) := by decide

theorem test_pairRelease_2 : (fun (side : Side) (s : State) => ((s.inLull = false) ∧ (side ≠ 0) ∧ (s.rdb F.PAIR_FLOAT_VALID = true) ∧
    (s.active = false)) ∧ (fun t => t.pat.instance_ = 0 ∧ t.rdb F.PAIR_FLOAT_VALID = false) (after (.pairRelease side 0x2C95#16) s)) (1)
    (stOutlet.wrb F.PAIR_FLOAT_VALID true) := by decide

theorem test_floaterDeferredRelease : (fun (s : State) => ((s.pair.releaseWait = true) ∧ (s.active = false) ∧ (s.rdb
    F.PAIR_FLOAT_VALID = true)) ∧ (fun t => t.pat.instance_ = 0 ∧ t.pair.releaseWait = false ∧ t.rdb F.PAIR_FLOAT_VALID = false) (after
    (.floaterDeferredRelease) s)) (({ stOutlet with pair.releaseWait := true } : State).wrb F.PAIR_FLOAT_VALID true) := by decide

theorem test_barographSave : (fun (s : State) => ((s.sys.earlyWarning = false)) ∧ (fun t => t.rd F.BAR_SAVE_SEQ = (s.rd F.BAR_SAVE_SEQ
    + 1) % 2 ^ 32 ∧ SMap.get (fun _ => none) t.bar.saves ((s.rd F.BAR_SAVE_SEQ + 1) % 2) = some (s.rd F.BAR_SAVE_SEQ + 1, s.bar.cnt) ∧
    t.bar.cnt = s.bar.cnt) (after (.barographSave) s)) (stUp) := by decide

theorem test_barographDaily : (fun (s : State) => ((s.bar.lastDaily + 691200000 ≤ s.ledger)) ∧ (fun t => t.bar.lastDaily = s.ledger ∧
    t.rd F.BAR_BLOCK_NO = (s.rd F.BAR_BLOCK_NO + 5) % 2 ^ 32 ∧ (t.bar.blocks.take 5).map (fun b => (b.page, b.reason)) =
    [(4, 1), (3, 1), (2, 1), (1, 1), (0, 1)]) (after (.barographDaily) s)) ({ stUp with met.tot.ledger := 691200000 }) := by decide

theorem test_barSnapshot : (fun (side : Side) (s : State) => ((s.inLull = false)) ∧ (fun t => t.rd F.BAR_BLOCK_NO = (s.rd
    F.BAR_BLOCK_NO + 5) % 2 ^ 32 ∧ (t.bar.blocks.take 5).map (fun b => (b.page, b.reason)) = [(4, 5), (3, 5), (2, 5), (1, 5), (0, 5)])
    (after (.barSnapshot side 0x6D58#16) s)) (0) (stUp) := by decide

theorem test_barUnbench : (fun (side : Side) (s : State) => ((s.inLull = false) ∧ (side ≠ 0) ∧ (s.bar.benched ≠ 0) ∧ (s.maint side =
    true)) ∧ (fun t => t.bar.benched = 0 ∧ t.bar.wdHist = [] ∧ t.bar.selResets = []) (after (.barUnbench side 0x6D58#16) s)) (2)
    (({ stUp with bar.benched := 1 } : State).wrb (F.HBI_CRED_STATUS_MAINT_OPEN.bank 2) true) := by decide

theorem test_meterSuspectExpiry : (fun (s : State) => (s.bar.selResets.headD 0 + 20736000000 ≤ s.ledger))
    ({ stUp with met.tot.ledger := 20736000000 }) := by decide

theorem test_rtc32Loss : (fun (s : State) => ((s.sys.vinPresent = true)) ∧ (fun t => t.rdb F.CLK_AON_STATUS_RTC_FAIL = true ∧ t.rdb
    F.CLK_STATUS_RTC_FAIL = true ∧ t.clk = s.clk) (after (.rtc32Loss) s)) (stUp) := by decide

theorem test_vbatMeasure : (fun (mv : Nat) (rtc : Nat) (tAon : Int) (s : State) => ((mv < 2 ^ 32) ∧ (s.inLull = false)) ∧ (fun t =>
    t.rd F.CLK_AON_VBAT = mv ∧ t.rdb F.CLK_STATUS_VBAT_LOW = decide (mv < 2400) ∧ (s.sys.vinPresent = true → t.barGet 0 = min (s.barGet
    0 + 1) (2 ^ 64 - 1))) (after (.vbatMeasure mv tAon rtc) s)) (3000) (7) (250) (stUp) := by decide

theorem test_aonSupplySwitch : (fun (vin : Bool) (s : State) => (True) ∧ (fun t => t.sys.vinPresent = vin ∧ t.rdb
    F.CLK_AON_STATUS_SOURCE = !vin) (after (.aonSupplySwitch vin) s)) (false) (stUp) := by decide

theorem test_aonReset : (fun (s : State) => ((s.sys.vinPresent = false)) ∧ (fun t => t.rdb F.CLK_AON_STATUS_POR = true ∧ t.que.ring =
    [] ∧ t.bar.cnt = {} ∧ t.bar.retentionOk = false ∧ t.clk.aonLost = true) (after (.aonReset) s)) (st0) := by decide

theorem test_retentionScrub_2 : (fun (s : State) => (True) ∧ (fun t => t.barGet 0xD = min (s.barGet 0xD + 1) (2 ^ 32 - 1)) (after
    (.retentionScrub .sramFixed) s)) (stUp) := by decide

theorem test_lullMessageReceive : (fun (target : Nat) (src : Nat) (s : State) => (s.kind = .outlet) ∧ (target = s.addr) ∧ (src =
    s.trg.lastMaster) ∧ (s.inLull = false)) (26) (1) (stOutlet) := by decide

theorem test_lullEntry : (fun (rtc : Nat) (s : State) => ((s.clk.lullNext = true) ∧ (s.inLull = false) ∧ (s.sys.earlyWarning = false)
    ∧ (s.rd F.CLK_LULL_STATUS_STATE = 0) ∧ (s.lullRefusals = 0) ∧ (s.trg.join = .joined)) ∧ (fun t => t.rd F.CLK_LULL_STATUS_STATE = 1 ∧
    t.trg.leaveLeft = 3 ∧ t.own = 0 ∧ t.clk.lullNext = false) (after (.lullEntry rtc) s)) (77) ({ stOutlet with clk.lullNext := true })
    := by decide

theorem test_lullEntry_2 : (fun (rtc : Nat) (s : State) => ((s.clk.lullNext = true) ∧ (s.inLull = false) ∧ (s.sys.earlyWarning =
    false) ∧ (s.rd F.CLK_LULL_STATUS_STATE = 0) ∧ (s.lullRefusals = 0) ∧ (s.trg.join ≠ .joined) ∧ (s.trg.leaveLeft = 0) ∧
    (s.clk.wakeWait = none)) ∧ (fun t => t.inLull = true ∧ t.rd F.CLK_STATUS_LOCK = 4 ∧ t.trg.key = none ∧ t.met.running = false) (after
    (.lullEntry rtc) s)) (77) ({ stOutlet with clk.lullNext := true, trg.join := .idle }) := by decide

theorem test_hostWake : (fun (side : Side) (s : State) => ((s.inLull = true)) ∧ (fun t => t.rd F.CLK_LULL_STATUS_STATE = 3 ∧ t.rd
    F.CLK_LULL_STATUS_WAKE_CAUSE = 2) (after (.hostWake side 0x5C03#16) s)) (0) (stLull) := by decide

theorem test_plugWake : (fun (s : State) => ((s.inLull = true) ∧ (s.kind = .outlet)) ∧ (fun t => t.rd F.CLK_LULL_STATUS_STATE = 3 ∧
    t.rd F.CLK_LULL_STATUS_WAKE_CAUSE = 3) (after (.plugWake) s)) (stLull) := by decide

theorem test_safetyWake : (fun (k : Fin 4) (s : State) => ((s.inLull = true) ∧ (s.rdb (F.SAF_IN_CFG_ENABLE k.val) = true)) ∧ (fun t =>
    t.rd F.CLK_LULL_STATUS_STATE = 3 ∧ t.rd F.CLK_LULL_STATUS_WAKE_CAUSE = 4) (after (.safetyWake k) s)) (3) (stLull.wrb
    (F.SAF_IN_CFG_ENABLE 3) true) := by decide

theorem test_wakeComplete : (fun (rtc : Nat) (s : State) => ((s.rd F.CLK_LULL_STATUS_STATE = 3) ∧ (s.sys.earlyWarning = false) ∧
    (s.clk.scrubBad = false)) ∧ (fun t => t.rd F.CLK_LULL_STATUS_STATE = 0 ∧ t.inLull = false ∧ t.rd F.CLK_STATUS_LOCK = 31 ∧
    t.met.running = true ∧ t.th.started = false ∧ t.clk.wakeWait = none) (after (.wakeComplete rtc) s)) (9)
    (({ stLull with met.running := true } : State).wr F.CLK_LULL_STATUS_STATE 3) := by decide

theorem test_patOpen : (fun (side : Side) (s : State) => ((s.inLull = false) ∧ (s.foreignOwner side = false) ∧ (s.pat.updState ≠ 4) ∧
    (s.pat.updState ≠ 5)) ∧ (fun t => t.pat.updState = 1 ∧ t.rd F.PAT_UPD_STATUS_STATE = 1 ∧ (t.slotOf s.inactive).empty = true ∧
    t.pat.updOwner = (if side.val = 0 then 1 else 2) ∧ t.pat.updClient = (if side.val = 0 then 0 else s.clientOf side)) (after (.patOpen
    side 0x5A7E#16) s)) (3) (stUp) := by decide

theorem test_patVerify : (fun (side : Side) (s : State) => ((s.inLull = false) ∧ (s.foreignOwner side = false) ∧ (s.pat.updState = 1 ∨
    s.pat.updState = 3)) ∧ (fun t => t.pat.updState = 2 ∧ t.rd F.PAT_UPD_STATUS_STATE = 2 ∧ t.pat.updOwner = s.pat.updOwner) (after
    (.patVerify side 0x5A7E#16) s)) (0) ({ stUp with pat.updState := 1 }) := by decide

theorem test_patVerifyDone : (fun (memOk : Bool) (r : Nat) (s : State) => ((s.pat.updState = 2) ∧ (s.checkSlot (s.slotOf s.inactive)
    memOk (some (s.slotOf s.inactive).top) = r) ∧ (r < 256)) ∧ (fun t => t.pat.updState = (if r = 0 then 3 else 1) ∧ t.rd
    F.PAT_UPD_STATUS_STATE = (if r = 0 then 3 else 1) ∧ t.pat.updResult = r ∧ t.rd F.PAT_UPD_STATUS_RESULT = r) (after (.patVerifyDone
    memOk) s)) (true) (13) ({ stUp with pat.updState := 2 }) := by decide

theorem test_patArm : (fun (side : Side) (s : State) => ((s.inLull = false) ∧ (s.foreignOwner side = false) ∧ (s.pat.updState = 3) ∧
    (s.changesSafety = false ∨ s.safety side = true) ∧ (s.active = false)) ∧ (fun t => t.pat.updState = 4 ∧ t.pat.oneshot = s.inactive ∧
    t.pat.slot = s.pat.slot ∧ t.sys.startPending = some 7 ∧ t.sys.running = false) (after (.patArm side 0x5A7E#16) s)) (0)
    ({ stUp with pat.updState := 3 }) := by decide

theorem test_patArm_2 : (fun (side : Side) (s : State) => ((s.inLull = false) ∧ (s.foreignOwner side = false) ∧ (s.pat.updState = 3) ∧
    (s.changesSafety = false ∨ s.safety side = true) ∧ (s.active = true) ∧ (s.partnerReady = true) ∧ (s.pair.formed = true)) ∧ (fun t =>
    t.pair.handover = some 1 ∧ t.pat.sealed = s.pat.sealed) (after (.patArm side 0x5A7E#16) s)) (0)
    (({ stOutletAct with pat.updState := 3, pair.formed := true, pair.pState := psHot, pair.pHealthy := true } : State).wrb
    F.PAIR_STATUS_LINK true) := by decide

theorem test_patArmSingle : (fun (side : Side) (s : State) => ((s.inLull = false) ∧ (s.foreignOwner side = false) ∧ (s.pat.updState =
    3) ∧ (s.changesSafety = false ∨ s.safety side = true)) ∧ (fun t => t.pat.updState = 4 ∧ t.pat.oneshot = s.inactive ∧ t.pat.slot =
    s.pat.slot ∧ t.sys.startPending = some 7 ∧ t.sys.running = false) (after (.patArmSingle side 0x5A7E#16) s)) (2)
    ({ stUp with pat.updState := 3 }) := by decide

theorem test_patCommit : (fun (side : Side) (s : State) => ((s.inLull = false) ∧ (s.foreignOwner side = false) ∧ (s.pat.updState = 5)
    ∧ (s.rdb F.PAT_STATUS_TRIAL = true) ∧ (s.pat.boundOwner ≠ 0)) ∧ (fun t => t.pat.updState = 6 ∧ t.pat.updOwner = 0 ∧ t.pat.oneshot =
    0 ∧ t.pat.slot = s.runSlot ∧ t.pat.svnMin = max s.pat.svnMin s.pat.runSvn ∧ t.rdb F.PAT_STATUS_TRIAL = false) (after (.patCommit
    side 0x5A7E#16) s)) (0) (({ stUp with pat.updState := 5, pat.boundOwner := 7 } : State).wrb F.PAT_STATUS_TRIAL true) := by decide

theorem test_patCommit_2 : (fun (side : Side) (s : State) => (s.inLull = false) ∧ (s.foreignOwner side = false) ∧ (s.pat.updState = 5)
    ∧ (s.rdb F.PAT_STATUS_TRIAL = true) ∧ (s.pat.boundOwner = 0) ∧ (s.rd F.KEY_STATUS_LC = lcOpen)) (0)
    (({ stUp with pat.updState := 5 } : State).wrb F.PAT_STATUS_TRIAL true |>.wr F.KEY_STATUS_LC lcOpen) := by decide

theorem test_patAbort : (fun (side : Side) (s : State) => ((s.inLull = false) ∧ (s.foreignOwner side = false) ∧ (1 ≤ s.pat.updState) ∧
    (s.pat.updState ≤ 3) ∧ (s.pat.updOwner ≠ 0)) ∧ (fun t => t.pat.updState = 0 ∧ t.pat.updOwner = 0 ∧ t.pat.updClient = 0 ∧ (t.slotOf
    s.inactive).empty = true ∧ t.rd F.PAT_UPD_STATUS_STATE = 0) (after (.patAbort side 0x5A7E#16) s)) (0)
    ({ stUp with pat.updState := 3, pat.updOwner := 1 }) := by decide

theorem test_patAbort_2 : (fun (side : Side) (s : State) => ((s.inLull = false) ∧ (s.foreignOwner side = false) ∧ (s.pat.updState = 5)
    ∧ (s.rdb F.PAT_STATUS_TRIAL = true) ∧ (s.bar.withdrawing = none) ∧ (s.active = true)) ∧ (fun t => t.pat.expired = true ∧ t.trialLeft
    = 0 ∧ t.sys.startPending = s.sys.startPending) (after (.patAbort side 0x5A7E#16) s)) (0) (({ stOutletAct with pat.updState := 5 } :
    State).wrb F.PAT_STATUS_TRIAL true) := by decide

theorem test_patAbort_3 : (fun (side : Side) (s : State) => ((s.inLull = false) ∧ (s.foreignOwner side = false) ∧ (s.pat.updState = 5)
    ∧ (s.rdb F.PAT_STATUS_TRIAL = true) ∧ (s.bar.withdrawing = none) ∧ (s.active = false)) ∧ (fun t => t.sys.startPending = some 7 ∧
    t.bar.withdrawing = some 9) (after (.patAbort side 0x5A7E#16) s)) (0) (({ stUp with pat.updState := 5 } : State).wrb
    F.PAT_STATUS_TRIAL true) := by decide

theorem test_patSeal : (fun (side : Side) (s : State) => ((s.inLull = false) ∧ (side ≠ 0) ∧ (s.safety side = true) ∧ (s.rdb
    F.PAT_STATUS_TRIAL = false) ∧ (s.runSlot ≠ 0) ∧ (s.runSlot ≠ 3) ∧ (s.runSlot = s.pat.slot) ∧ (s.rd F.KEY_STATUS_LC ≠ lcDebug) ∧
    (s.heldFor 1 = []) ∧ ((s.q 1).length < s.depth 1)) ∧ (fun t => t.q 1 = s.q 1 ++ [{ kind := 2, body := [] }] ∧ t.pat.sealed =
    s.pat.sealed) (after (.patSeal side 0x5A7E#16) s)) (1) ((({ stUp with pat.slot := 1 } : State).wr F.PAT_STATUS_RUN_SLOT 1).wrb
    (F.HBI_CRED_STATUS_SAFETY_OPEN.bank 1) true) := by decide

theorem test_updateOwnerTimeout : (fun (s : State) => ((s.pat.updOwner ≠ 0)) ∧ (fun t => t.pat.updOwner = 0 ∧ t.pat.updClient = 0 ∧
    (t.slotOf s.inactive).empty = true ∧ t.rd F.PAT_UPD_STATUS_OWNER = 0) (after (.updateOwnerTimeout) s))
    ({ stUp with pat.updState := 1, pat.updOwner := 2, pat.updClient := 5 }) := by decide

theorem test_trialExpiry : (fun (s : State) => ((s.rdb F.PAT_STATUS_TRIAL = true) ∧ (s.bar.withdrawing = none) ∧ (s.active = true)) ∧
    (fun t => t.pat.expired = true ∧ t.trialLeft = 0 ∧ t.sys.startPending = s.sys.startPending) (after (.trialExpiry) s))
    (stOutletAct.wrb F.PAT_STATUS_TRIAL true) := by decide

theorem test_trialExpiry_2 : (fun (s : State) => ((s.rdb F.PAT_STATUS_TRIAL = true) ∧ (s.bar.withdrawing = none) ∧ (s.active = false))
    ∧ (fun t => t.sys.startPending = some 7 ∧ t.bar.withdrawing = some 9) (after (.trialExpiry) s)) (stUp.wrb F.PAT_STATUS_TRIAL true)
    := by decide

theorem test_trialDeferredRevert : (fun (s : State) => ((s.pat.expired = true) ∧ (s.active = false) ∧ (s.bar.withdrawing = none)) ∧
    (fun t => t.sys.startPending = some 7 ∧ t.bar.withdrawing = some 9) (after (.trialDeferredRevert) s))
    ({ stOutlet with pat.expired := true }) := by decide

theorem test_scrubWord : (fun (s : State) => (s.pat.scrubAt + 1 < s.pat.scrubLen)) ({ stUp with pat.scrubLen := 2 }) := by decide

theorem test_scrubWord_2 : (fun (s : State) => ((s.pat.scrubAt + 1 < s.pat.scrubLen)) ∧ (fun t => t.rd F.PAT_SCRUB_FIXED = (s.rd
    F.PAT_SCRUB_FIXED + 1) % 2 ^ 32 ∧ t.barGet 0xA = min (s.barGet 0xA + 1) (2 ^ 32 - 1) ∧ t.pat.scrubAt = s.pat.scrubAt + 1) (after
    (.scrubWord .sramFixed) s)) ({ stUp with pat.scrubLen := 2 }) := by decide

theorem test_scrubWord_3 : (fun (s : State) => ((s.pat.scrubLen ≤ s.pat.scrubAt + 1)) ∧ (fun t => t.pat.scrubAt = 0 ∧ t.rd
    F.PAT_SCRUB_PASSES = (s.rd F.PAT_SCRUB_PASSES + 1) % 2 ^ 32 ∧ t.barGet 0xC = min (s.barGet 0xC + 1) (2 ^ 32 - 1)) (after (.scrubWord
    .mramFixed) s)) ({ stUp with pat.scrubLen := 2, pat.scrubAt := 1 }) := by decide

theorem test_scrubWord_4 : (fun (s : State) => ((s.inLull = false) ∧ (s.bar.withdrawing = none)) ∧ (fun t => t.sys.startPending = some
    4 ∧ t.bar.withdrawing = some 1) (after (.scrubWord .uncorrectable) s)) ({ stUp with pat.scrubLen := 2 }) := by decide

theorem test_levelWrite : (fun (side : Side) (b : Fin 20) (value : BitVec 32) (s : State) => ((s.lullBlocks (blockBase b.val) = false)
    ∧ (value.toNat / 65536 = 0x1E7A) ∧ (value.toNat &&& 0xFCFE = 0) ∧ (s.blockCred b.val side = true)) ∧ (fun t => t.expert b.val side =
    (value.toNat % 2 == 1)) (after (.levelWrite side b value) s)) (3) (6) (0x1E7A0001) (stUp.wrb (F.HBI_CRED_STATUS_MAINT_OPEN.bank 3)
    true) := by decide

theorem test_tackPinEdge : (fun (widthNs : Nat) (time : Nat) (s : State) => (20 ≤ widthNs) ∧ (s.hbi.pinAt = none) ∧ (s.rd
    F.HBI_PIN_TACK_MASK ≠ 0)) (20) (7) (stUp.wr F.HBI_PIN_TACK_MASK 2) := by decide

theorem test_pfgLiveTimeout : (fun (g : Nat) (x : Nat × List Nat) (e : Nat × Nat × Nat) (s : State) => ((s.numberedGroups.find? (·.1
    == g) = some x) ∧ (e ∈ s.hbi.pfgPending) ∧ (e.1 = g) ∧ (s.groupAgrees x.2 s.pendMarks s.pendCand = false)) ∧ (fun t =>
    t.hbi.pfgPending = s.hbi.pfgPending.filter (·.1 != g) ∧ t.rd F.HBI_PFG_ERR_GROUP = g % 512 ∧ t.rd F.HBI_PFG_ERR_COUNT = min (s.rd
    F.HBI_PFG_ERR_COUNT + 1) 255 ∧ (∀ p ∈ s.hbi.pfgPending, p.1 = g → SMap.get resetCell t.shadow p.2.1 = SMap.get resetCell s.live
    p.2.1 ∧ SMap.get resetCell t.tbuf p.2.1 = SMap.get resetCell s.live p.2.1)) (after (.pfgLiveTimeout g) s)) (0) ((0, [64, 96])) ((0,
    64, 5)) ({ stUp with pat.content.pairedGroups := [[64, 96]], hbi.pfgPending := [(0, 64, 5)], hbi.pfgWritten := [64] }) := by decide

theorem test_ringTackRequest : (fun (side : Side) (time : Nat) (s : State) => ((s.kind = .site) ∧ (s.active = true) ∧ (1 ≤ s.rd
    F.HBI_RTACK_MASK_TARGET) ∧ (s.rd F.HBI_RTACK_MASK_TARGET ≤ 96) ∧ (time + 100000 ≤ s.rd64 F.HBI_RTACK_TIME_LO) ∧ (s.rd64
    F.HBI_RTACK_TIME_LO ≤ time + 10000000000) ∧ (s.hbi.rtackSent = none)) ∧ (fun t => t.hbi.rtackSent = some (s.rd
    F.HBI_RTACK_MASK_MASK, s.rd F.HBI_RTACK_MASK_TARGET, s.rd64 F.HBI_RTACK_TIME_LO)) (after (.ringTackRequest side 0x6B2C#16 time) s))
    (0) (50) (((stSite.wr F.HBI_RTACK_MASK_TARGET 96).wr F.HBI_RTACK_MASK_MASK 5).wr64 F.HBI_RTACK_TIME_LO 100050) := by decide

theorem test_ringTackInstant : (fun (time : Nat) (mask : Nat) (at_ : Nat) (s : State) => (s.hbi.rtackDue = [(mask, at_)]) ∧ (at_ ≤
    time)) (9) (3) (9) ({ stUp with hbi.rtackDue := [(3, 9)] }) := by decide

theorem test_credOpenMaintenance (k : List Nat) (hk : stChal.credKey false = some k) (hr : stChal.credGiven 1 = stChal.credResponse 1 false k) :
  (stChal.side 1).lockedOut = false ∧ (stChal.side 1).chalValid = true ∧ stChal.credKey false = some k ∧
    stChal.credGiven 1 = stChal.credResponse 1 false k := ⟨by decide, by decide, hk, hr⟩

theorem test_credOpenMaintenance_2 : (fun (side : Side) (s : State) => (((s.side side).lockedOut = false) ∧ ((((s.credKey false).any
    fun k => s.credGiven side == s.credResponse side false k) = false))) ∧ (fun t => t.rd (F.HBI_CRED_STATUS_FAILS.bank side) = min
    (s.rd (F.HBI_CRED_STATUS_FAILS.bank side) + 1) 5 ∧ (t.side side).lockedOut = decide (5 ≤ s.rd (F.HBI_CRED_STATUS_FAILS.bank side) +
    1)) (after (.credOpenMaintenance side 0x3C1D#16 true) s)) (1) ({ stUp with hbi.sides := [(1, { chalValid := true })] }) := by decide

theorem test_credOpenSafety (k : List Nat) (hk : stChal.credKey true = some k) (hr : stChal.credGiven 1 = stChal.credResponse 1 true k) :
  (stChal.side 1).lockedOut = false ∧ (stChal.side 1).chalValid = true ∧ stChal.credKey true = some k ∧
    stChal.credGiven 1 = stChal.credResponse 1 true k := ⟨by decide, by decide, hk, hr⟩

theorem test_credOpenSafety_2 : (fun (side : Side) (s : State) => (((s.side side).lockedOut = false) ∧ ((((s.credKey true).any fun k
    => s.credGiven side == s.credResponse side true k) = false))) ∧ (fun t => t.rd (F.HBI_CRED_STATUS_FAILS.bank side) = min (s.rd
    (F.HBI_CRED_STATUS_FAILS.bank side) + 1) 5 ∧ (t.side side).lockedOut = decide (5 ≤ s.rd (F.HBI_CRED_STATUS_FAILS.bank side) + 1))
    (after (.credOpenSafety side 0x3C1D#16 true) s)) (1) ({ stUp with hbi.sides := [(1, { chalValid := true })] }) := by decide

theorem test_credCloseAll : (fun (side : Side) (s : State) => (((s.side side).lockedOut = false)) ∧ (fun t => t.maint side = false ∧
    t.safety side = false ∧ (∀ b : Fin 20, t.expert b.val side = false)) (after (.credCloseAll side 0x3C1D#16) s)) (2) ((stUp.wrb
    (F.HBI_CRED_STATUS_MAINT_OPEN.bank 2) true).wrb (levelField 6 2) true) := by decide

theorem test_credTimeout : (fun (side : Side) (safety : Bool) (s : State) => (True) ∧ (fun t => (if safety then t.safety side = false
    ∧ t.maint side = s.maint side ∧ (∀ b : Fin 20, safetyBlock b.val = true → t.expert b.val side = false) else t.maint side = false ∧
    t.safety side = s.safety side)) (after (.credTimeout side safety) s)) (0) (true) ((stUp.wrb (F.HBI_CRED_STATUS_SAFETY_OPEN.bank 0)
    true).wrb (levelField 7 0) true) := by decide

theorem test_credLockoutEnd : (fun (side : Side) (s : State) => (((s.side side).lockedOut = true)) ∧ (fun t => (t.side side).lockedOut
    = false ∧ t.rd (F.HBI_CRED_STATUS_FAILS.bank side) = 0 ∧ t.lockLeft side = 0) (after (.credLockoutEnd side) s)) (4)
    ({ stUp with hbi.sides := [(4, { lockedOut := true })] }) := by decide

theorem test_idxAddrWrite : (fun (side : Side) (addr : BitVec 32) (p : Nat) (s : State) => ((addr.toNat % 4 = 0) ∧ (idxRange
    addr.toNat = some p) ∧ (p ≠ rSlot) ∧ (s.inLull = false) ∧ ((s.side side).posted = none) ∧ ((s.side side).waitPost = none) ∧
    (s.portHeld side p = false)) ∧ (fun t => t.idxAddr side = addr.toNat ∧ (t.side side).port = some p ∧ (t.side side).fetching = true ∧
    t.idxReady side = false ∧ t.idxWait side = false) (after (.idxAddrWrite side addr) s)) (1) (0x300000) (3) (stUp) := by decide

theorem test_idxAddrWrite_2 : (fun (side : Side) (addr : BitVec 32) (p : Nat) (s : State) => ((addr.toNat % 4 = 0) ∧ (idxRange
    addr.toNat = some p) ∧ (s.inLull = false) ∧ ((s.side side).posted = none) ∧ ((s.side side).waitPost = none) ∧ (s.portHeld side p =
    true)) ∧ (fun t => t.idxAddr side = addr.toNat ∧ (t.side side).port = none ∧ t.idxWait side = true ∧ t.idxReady side = false) (after
    (.idxAddrWrite side addr) s)) (1) (0x300000) (3) ({ stUp with hbi.sides := [(2, { port := some 3 })] }) := by decide

theorem test_idxFetchDone : (fun (side : Side) (s : State) => (((s.side side).fetching = true)) ∧ (fun t => (t.side side).fetching =
    false ∧ t.idxReady side = true ∧ (s.idxAddr side < 0x10000 → t.rd (F.HBI_IDX_DATA.bank side) = s.windowWord (s.idxAddr side) % 2 ^
    32)) (after (.idxFetchDone side) s)) (0) ({ stUp with hbi.sides := [(0, { fetching := true })] }) := by decide

theorem test_idxDataRead : (fun (side : Side) (s : State) => ((s.idxRefusal side = none) ∧ ((s.side side).fetchErr = 0) ∧ (s.rdb
    (F.HBI_IDX_CTRL_INC.bank side) = false)) ∧ (fun t => t.idxAddr side = s.idxAddr side ∧ (side = 0 → t.hbi.data = s.rd F.HBI_IDX_DATA
    ∧ t.hbi.errN = false)) (after (.idxDataRead side) s)) (0) ((stIdx 0x300000).wr F.HBI_IDX_DATA 77) := by decide

theorem test_idxDataRead_2 : (fun (side : Side) (p : Nat) (s : State) => ((s.idxRefusal side = none) ∧ ((s.side side).fetchErr = 0) ∧
    (s.rdb (F.HBI_IDX_CTRL_INC.bank side) = true) ∧ (idxRange (s.idxAddr side) = some p) ∧ (idxRange (s.idxAddr side + 4) = some p) ∧ (p
    ≠ rSlot) ∧ ((s.side side).waitPost = none) ∧ (s.portHeld side p = false)) ∧ (fun t => t.idxAddr side = s.idxAddr side + 4 ∧ (t.side
    side).fetching = true) (after (.idxDataRead side) s)) (0) (3) ((stIdx 0x300000).wrb F.HBI_IDX_CTRL_INC true) := by decide

theorem test_idxDataWrite : (fun (side : Side) (value : BitVec 32) (s : State) => ((s.idxRefusal side = none) ∧ (idxRange (s.idxAddr
    side) = some rSlot) ∧ (s.portHeld side rSlot = false) ∧ (s.slotRefusal side = none)) ∧ (fun t => (t.side side).posted = some
    (s.idxAddr side, value.toNat) ∧ t.idxReady side = false ∧ SMap.get (fun _ => 0) (t.slotOf s.inactive).mem ((s.idxAddr side -
    0x1000000) / 4) = value.toNat) (after (.idxDataWrite side value) s)) (0) (5)
    ({ stIdx 0x1000010 with pat.updState := 1, pat.updOwner := 1 }) := by decide

theorem test_idxPostDone : (fun (side : Side) (x : Nat × Nat) (s : State) => (((s.side side).posted = some x) ∧ ((s.side
    side).nextAddr = none) ∧ (s.rdb (F.HBI_IDX_CTRL_INC.bank side) = false)) ∧ (fun t => (t.side side).posted = none ∧ t.idxReady side =
    true ∧ t.idxAddr side = s.idxAddr side) (after (.idxPostDone side) s)) (0) ((4, 5))
    ({ stUp with hbi.sides := [(0, { posted := some (4, 5) })] }) := by decide

theorem test_idxRelease : (fun (side : Side) (s : State) => (True) ∧ (fun t => (t.side side).port = none ∧ t.idxWait side = s.idxWait
    side ∧ t.rdb (F.HBI_IDX_STATUS_LOCKED.bank side) = false ∧ t.idxAddr side = s.idxAddr side ∧ t.idxReady side = s.idxReady side)
    (after (.idxRelease side) s)) (0) (stIdx 0) := by decide

theorem test_idxPortTimeout : (fun (side : Side) (s : State) => ((s.idxReady side = true)) ∧ (fun t => (t.side side).port = none ∧
    t.rdb (F.HBI_IDX_STATUS_LOCKED.bank side) = false ∧ t.idxAddr side = s.idxAddr side) (after (.idxPortTimeout side) s)) (0) (stIdx 0)
    := by decide

theorem test_idxPortFree : (fun (side : Side) (p : Nat) (s : State) => ((s.idxWait side = true) ∧ (idxRange (s.idxAddr side) = some p)
    ∧ (p ≠ rSlot) ∧ (s.portHeld side p = false) ∧ ((s.side side).waitPost = none)) ∧ (fun t => t.idxWait side = false ∧ (t.side
    side).port = some p ∧ (t.side side).fetching = true) (after (.idxPortFree side) s)) (0) (0) (stUp.wrb F.HBI_IDX_STATUS_WAIT true) :=
    by decide

theorem test_registerWrite : (fun (n : Fin 12) (side : Side) (value : BitVec 32) (time : Nat) (fresh : Bool) (s : State) => ((s.inLull
    = false) ∧ (value.toNat < 65536) ∧ (s.expert 6 side = true) ∧ (s.maint side = true)) ∧ (fun t => t.rdShadow (F.PWM_HB_PERIOD_PERIOD
    n.val) = value.toNat ∧ t.rd (F.PWM_HB_PERIOD_PERIOD n.val) = s.rd (F.PWM_HB_PERIOD_PERIOD n.val) ∧ t.hbi.refused = none) (after
    (.registerWrite side (BitVec.ofNat 32 (F.PWM_HB_PERIOD_PERIOD n.val).addr) value time fresh) s)) (7) (3) (5000) (0) (false)
    ((stUp.wrb (levelField 6 3) true).wrb (F.HBI_CRED_STATUS_MAINT_OPEN.bank 3) true) := by decide

theorem test_registerWrite_2 : (fun (side : Side) (value : BitVec 32) (time : Nat) (fresh : Bool) (s : State) => ((s.inLull = false))
    ∧ (fun t => t.hbi.refused = some eRoWrite ∧ t.rd F.HBI_ERR_INFO_CODE = eRoWrite ∧ t.rd F.HBI_ERR_ADDR = 0x2A300) (after
    (.registerWrite side 0x2A300#32 value time fresh) s)) (0) (1) (0) (false) (stUp) := by decide

theorem test_registerWrite_3 : (fun (side : Side) (value : BitVec 32) (time : Nat) (fresh : Bool) (s : State) => ((value.toNat <
    65536)) ∧ (fun t => t.rd F.HBI_PIN_TACK_MASK = value.toNat ∧ t.hbi.refused = none) (after (.registerWrite side 0x1010#32 value time
    fresh) s)) (3) (65535) (0) (false) (stUp) := by decide

theorem test_registerWrite_4 : (fun (side : Side) (value : BitVec 32) (time : Nat) (fresh : Bool) (s : State) => ((s.inLull = false))
    ∧ (fun t => t.hbi.refused = some eAddr ∧ t.rd F.HBI_ERR_INFO_CODE = eAddr ∧ t.rd F.HBI_ERR_ADDR = 0x3FFFC ∧ (side = 0 → t.hbi.errN =
    true)) (after (.registerWrite side 0x3FFFC#32 value time fresh) s)) (0) (0) (0) (false) (stUp) := by decide

theorem test_registerRead : (fun (side : Side) (s : State) => (True) ∧ (fun t => (side = 0 → t.hbi.data = s.rd F.HBI_PIN_TACK_MASK) ∧
    t.live = s.live ∧ t.hbi.refused = none) (after (.registerRead side 0x1010#32) s)) (0) (stUp.wr F.HBI_PIN_TACK_MASK 5) := by decide

theorem test_remoteRequest : (fun (job : RemoteJob) (rest : List RemoteJob) (side : Side) (a : Nat) (time : Nat) (fresh : Bool) (x :
    Nat × State) (s : State) => (s.trg.jobs = job :: rest) ∧ (s.inLull = false) ∧ (s.trg.join = .joined) ∧ (side ≠ 0) ∧ (job.session =
    side.val) ∧ (job.typ = 1) ∧ (parseOps 256 job.body = some [{ count := 1, addr := a }]) ∧ ((s.session job.session).isOpen = true) ∧
    (s.goldenShuts a = false) ∧ (({ s with hbi.refused := none } : State).readWord side a = x) ∧ (x.2.hbi.refused = none) ∧ (job ∈
    x.2.trg.jobs)) ({ session := 1, typ := 1, reqId := 7, body := [1, 0, 1, 0, 0x10, 0x10, 0, 0] }) ([]) (1) (0x1010) (0) (false)
    ((({ stStack with trg.jobs := [{ session := 1, typ := 1, reqId := 7, body := [1, 0, 1, 0, 0x10, 0x10, 0, 0] }], trg.shore := [(1, { isOpen := true })], hbi.refused := none }
    : State).readWord 1 0x1010))
    ({ stStack with trg.jobs := [{ session := 1, typ := 1, reqId := 7, body := [1, 0, 1, 0, 0x10, 0x10, 0, 0] }], trg.shore := [(1, { isOpen := true })] })
    := ⟨by decide, by decide, by decide, by decide, by decide, by decide, by decide, by decide, by decide, rfl, by decide, by decide⟩

theorem test_queueMove : (fun (ready : BitVec 16) (e : Ev) (es : List Ev) (s : State) => ((s.inLull = false) ∧ (s.que.q0 = e :: es) ∧
    (s.heldFor 0 = [])) ∧ (fun t => t.que.q0 = es ∧ SMap.get (fun _ => none) t.que.ring (s.rd F.QUE_FR_HEAD) = some e ∧ t.rd
    F.QUE_FR_HEAD = (s.rd F.QUE_FR_HEAD + 1) % 4096) (after (.queueMove ready) s)) (0) ({ code := 0xD001 }) ([])
    ({ stUp with que.q0 := [{ code := 0xD001 }] }) := by decide

theorem test_queMbxPop : (fun (side : Side) (e : Ev) (es : List Ev) (s : State) => ((s.inLull = false) ∧ (s.que.q11 = e :: es)) ∧ (fun
    t => t.que.q11 = es ∧ t.rdb F.QUE_IRQ_STATUS_MBX_OUT = (es != []) ∧ t.que.ring = s.que.ring) (after (.queMbxPop side 0x3E90#16) s))
    (0) ({ code := 0xD001 }) ([]) ({ stUp with que.q11 := [{ code := 0xD001 }] }) := by decide

theorem test_queMbxPush : (fun (side : Side) (s : State) => ((s.inLull = false) ∧ (evClass s.mbxIn.code = 0xE) ∧ (s.que.q10.length <
    s.depth 10)) ∧ (fun t => t.que.q10 = s.que.q10 ++ [s.mbxIn] ∧ t.que.ring = s.que.ring) (after (.queMbxPush side 0x3E90#16) s)) (2)
    (stUp.wr (F.QUE_MBX_IN 2) 0xE401) := by decide

theorem test_subscriptionSend : (fun (session : Fin 4) (time : Nat) (sub : Subscription) (s : State) => ((s.que.subs.find? (·.session
    == session.val + 1) = some sub) ∧ (sub.waiting ≠ []) ∧ (sub.sentAt = none)) ∧ (fun t => t.que.subs.find? (·.session == session.val +
    1) = some { sub with waiting := sub.waiting.drop 64, lost := 0, sentAt := some time }) (after (.subscriptionSend session time) s))
    (0) (5) ({ session := 1, waiting := [{ code := 0xD001 }] })
    ({ stSite with que.subs := [{ session := 1, waiting := [{ code := 0xD001 }] }] }) := by decide

theorem test_traceRead : (fun (side : Side) (s : State) => ((s.inLull = false)) ∧ (fun t => t.que.trace = s.que.trace.drop 1 ∧ (side =
    0 → t.hbi.data = s.que.trace.headD 0)) (after (.traceRead side) s)) (0) ({ stUp with que.trace := [3, 4] }) := by decide

theorem test_shoreConnect : (fun (digest : List Nat) (j : Nat) (k : Nat) (s : State) => ((s.inLull = false) ∧ (s.kind = .site) ∧
    (s.active = true) ∧ (s.rdb F.TRG_SHORE_CFG_ENABLE = true) ∧ (s.clientEntry digest = some j) ∧ ([1, 2, 3, 4].find? (fun k =>
    !(s.session k).isOpen) = some k)) ∧ (fun t => t.session k = s.admitted j ∧ t.pair = s.pair) (after (.shoreConnect true digest) s))
    ([9]) (3) (1) (((({ stSite with key.clients := [(3, { a := { bytes := [9] } })] } : State).wrb F.TRG_SHORE_CFG_ENABLE true).wrb
    (F.KEY_CLIENT_VALID 3) true).wrb (F.KEY_CLIENT_OBSERVE 3) true) := by decide

theorem test_shoreSessionTimeout : (fun (session : Fin 4) (s : State) => (True) ∧ (fun t => t.session (session.val + 1) = {} ∧ t.side
    (session.val + 1) = {} ∧ t.maint (session.val + 1) = false ∧ t.safety (session.val + 1) = false ∧ (∀ x ∈ t.que.subs, x.session ≠
    session.val + 1)) (after (.shoreSessionTimeout session) s)) (0) (stShore.wrb (F.HBI_CRED_STATUS_MAINT_OPEN.bank 1) true) := by
    decide

theorem test_shoreSessionClose : (fun (session : Fin 4) (s : State) => (True) ∧ (fun t => t.session (session.val + 1) = {} ∧ t.side
    (session.val + 1) = {} ∧ t.maint (session.val + 1) = false ∧ t.safety (session.val + 1) = false ∧ (∀ x ∈ t.que.subs, x.session ≠
    session.val + 1)) (after (.shoreSessionClose session) s)) (0) (stShore.wrb (F.HBI_CRED_STATUS_MAINT_OPEN.bank 1) true) := by decide

theorem test_shoreAccess : (fun (session : Fin 4) (reqId : Nat) (target : Nat) (length : Nat) (body : List Nat) (ops : List AccessOp)
    (s : State) => ((s.kind = .site) ∧ (s.active = true) ∧ ((s.session (session.val + 1)).isOpen = true) ∧ (8 ≤ length) ∧ (length ≤
    8188) ∧ ((s.session (session.val + 1)).outstanding.length < 8) ∧ (parseOps 256 body = some ops) ∧ ((s.session (session.val +
    1)).observe = true) ∧ ((s.session (session.val + 1)).operate = true) ∧ (s.reachable target = true)) ∧ (fun t => (t.session
    (session.val + 1)).outstanding = (s.session (session.val + 1)).outstanding ++
    [{ typ := 1, reqId := reqId, target := target, body := body }]) (after (.shoreAccess session reqId target length body) s)) (0) (7)
    (1) (16) ([1, 0, 1, 0, 0x10, 0x10, 0, 0]) ([{ count := 1, addr := 0x1010 }]) (stShore) := by decide

theorem test_shoreAccess_2 : (fun (session : Fin 4) (reqId : Nat) (target : Nat) (length : Nat) (body : List Nat) (s : State) =>
    ((s.kind = .site) ∧ (s.active = true) ∧ ((s.session (session.val + 1)).isOpen = true) ∧ (length < 8)) ∧ (fun t => t.session
    (session.val + 1) = {}) (after (.shoreAccess session reqId target length body) s)) (0) (7) (1) (7) ([]) (stShore) := by decide

theorem test_shoreKeepalive : (fun (session : Fin 4) (reqId : Nat) (target : Nat) (length : Nat) (s : State) => (s.kind = .site) ∧
    (s.active = true) ∧ ((s.session (session.val + 1)).isOpen = true) ∧ (8 ≤ length) ∧ (length ≤ 8188) ∧ ((s.session (session.val +
    1)).outstanding.length < 8)) (0) (7) (1) (8) (stShore) := by decide

theorem test_shoreKeepalive_2 : (fun (session : Fin 4) (reqId : Nat) (target : Nat) (length : Nat) (s : State) => (s.kind = .site) ∧
    (s.active = true) ∧ ((s.session (session.val + 1)).isOpen = true) ∧ (8 ≤ length) ∧ (length ≤ 8188) ∧ (8 ≤ (s.session (session.val +
    1)).outstanding.length)) (0) (7) (1) (8)
    ({ stShore with trg.shore := [(1, { isOpen := true, outstanding := List.replicate 8 {} })] }) := by decide

theorem test_remoteResponse : (fun (session : Fin 4) (typ : Nat) (reqId : Nat) (target : Nat) (status : Nat) (index : Nat) (body :
    List Nat) (s : State) => (s.kind = .site) ∧ (s.active = true) ∧ ((s.session (session.val + 1)).isOpen = true) ∧ ((s.session
    (session.val + 1)).outstanding.any (fun q => 0x8000 + q.typ == 0x8000 + typ && q.reqId == reqId && q.target == target) = true)) (0)
    (1) (7) (3) (0) (0) ([4])
    ({ stShore with trg.shore := [(1, { isOpen := true, outstanding := [{ typ := 1, reqId := 7, target := 3 }] })] }) := by decide

theorem test_remoteUnreachable : (fun (session : Fin 4) (reqId : Nat) (target : Nat) (q : ShoreReq) (s : State) => ((s.session
    (session.val + 1)).isOpen = true) ∧ ((s.session (session.val + 1)).outstanding.find? (fun q => q.reqId == reqId && q.target ==
    target) = some q)) (0) (7) (3) ({ typ := 1, reqId := 7, target := 3 })
    ({ stShore with trg.shore := [(1, { isOpen := true, outstanding := [{ typ := 1, reqId := 7, target := 3 }] })] }) := by decide

theorem test_shoreEventSubscribe : (fun (session : Fin 4) (reqId : Nat) (target : Nat) (length : Nat) (body : List Nat) (s : State) =>
    ((s.servesShore = false) ∧ (s.inLull = false) ∧ (s.trg.join = .joined) ∧ (s.trg.jobs = []) ∧ (target = s.addr) ∧ (body.length = 4) ∧
    (leNat (body.take 2) ≠ 0)) ∧ (fun t => t.que.subs = s.que.subs.filter (·.session != session.val + 1) ++
    [{ session := session.val + 1, reqId := reqId, classes := leNat (body.take 2), maxSev := body.getD 2 0, scopeAll := body.getD 3 0 == 1 }])
    (after (.shoreEventSubscribe session reqId target length body) s)) (1) (9) (3) (12) ([255, 1, 2, 1]) (stStack) := by decide

theorem test_shoreEventSubscribe_2 : (fun (session : Fin 4) (reqId : Nat) (target : Nat) (length : Nat) (body : List Nat) (s : State)
    => ((s.kind = .site) ∧ (s.active = true) ∧ ((s.session (session.val + 1)).isOpen = true) ∧ (8 ≤ length) ∧ (length ≤ 8188) ∧
    ((s.session (session.val + 1)).outstanding.length < 8) ∧ (body.length = 4) ∧ (body.getD 3 0 ≤ 1) ∧ (target ≠ s.addr) ∧ (s.reachable
    target = true)) ∧ (fun t => (t.session (session.val + 1)).outstanding = (s.session (session.val + 1)).outstanding ++
    [{ typ := 4, reqId := reqId, target := target, body := body }]) (after (.shoreEventSubscribe session reqId target length body) s))
    (0) (9) (3) (12) ([255, 1, 2, 1]) (stShore.setMember 3 true) := by decide

theorem test_shoreJournalGet : (fun (session : Fin 4) (reqId : Nat) (target : Nat) (length : Nat) (body : List Nat) (q : RecordAsk) (s
    : State) => (s.servesShore = false) ∧ (recordAsk 2 body = some q) ∧ (s.inLull = false) ∧ (s.trg.join = .joined)) (1) (9) (3) (22)
    ([3, 0, 0, 0, 1, 0, 0, 0, 0, 0, 0, 0, 2, 0]) ({ owner := 3, what := 0, first := 1, count := 2 }) (stStack) := by decide

theorem test_shoreJournalGet_2 : (fun (session : Fin 4) (reqId : Nat) (target : Nat) (length : Nat) (body : List Nat) (q : RecordAsk)
    (s : State) => (s.kind = .site) ∧ (s.active = true) ∧ ((s.session (session.val + 1)).isOpen = true) ∧ (8 ≤ length) ∧ (length ≤ 8188)
    ∧ ((s.session (session.val + 1)).outstanding.length < 8) ∧ (recordAsk 2 body = some q) ∧ (q.owner = s.addr) ∧ (s.reachable s.addr =
    true) ∧ (4 < (s.recordAnswer q).2.length)) (0) (9) (1) (22) ([1, 0, 0, 0, 5, 0, 0, 0, 0, 0, 0, 0, 1, 0])
    ({ owner := 1, what := 0, first := 5, count := 1 })
    ({ stShore with bil.journal := [{ seq := 5, bytes := [1, 2], signature := some [3] }] }) := by decide

theorem test_shoreBarographGet : (fun (session : Fin 4) (reqId : Nat) (target : Nat) (length : Nat) (body : List Nat) (q : RecordAsk)
    (s : State) => (s.servesShore = false) ∧ (recordAsk 3 body = some q) ∧ (s.inLull = false) ∧ (s.trg.join = .joined)) (1) (9) (3) (22)
    ([3, 0, 0, 0, 1, 0, 0, 0, 2, 0]) ({ owner := 3, what := 2, first := 1, count := 2 }) (stStack) := by decide

theorem test_shoreBarographGet_2 : (fun (session : Fin 4) (reqId : Nat) (target : Nat) (length : Nat) (body : List Nat) (q :
    RecordAsk) (s : State) => (s.kind = .site) ∧ (s.active = true) ∧ ((s.session (session.val + 1)).isOpen = true) ∧ (8 ≤ length) ∧
    (length ≤ 8188) ∧ ((s.session (session.val + 1)).outstanding.length < 8) ∧ (recordAsk 3 body = some q) ∧ (q.owner = s.addr) ∧
    (s.reachable s.addr = true) ∧ (4 < (s.recordAnswer q).2.length)) (0) (9) (1) (22) ([1, 0, 0, 0, 5, 0, 0, 0, 1, 0])
    ({ owner := 1, what := 2, first := 5, count := 1 }) ({ stShore with bar.blocks := [{ no := 5, body := [1] }] }) := by decide

theorem test_recordTransfer : (fun (session : Fin 4) (typ : Nat) (reqId : Nat) (target : Nat) (status : Nat) (body : List Nat) (r :
    ShoreReq) (q : RecordAsk) (s : State) => (s.servesShore = true) ∧ ((s.session (session.val + 1)).outstanding.find? (fun q => 0x8000
    + q.typ == typ && q.reqId == reqId && q.target == target) = some r) ∧ (recordAsk r.typ r.body = some q) ∧ (4 < body.length)) (0)
    (0x8003) (7) (3) (0) ([3, 0, 0, 0, 1]) ({ typ := 3, reqId := 7, target := 3, body := [3, 0, 0, 0, 1, 0, 0, 0, 2, 0] })
    ({ owner := 3, what := 2, first := 1, count := 2 })
    ({ stShore with trg.shore := [(1, { isOpen := true, outstanding := [{ typ := 3, reqId := 7, target := 3, body := [3, 0, 0, 0, 1, 0, 0, 0, 2, 0] }] })] })
    := by decide

theorem test_cycleStart : (fun (time : Nat) (unwrapNext : Bool) (wrapped : Bool) (s : State) => ((s.kind = .site) ∧ (s.isMaster =
    true) ∧ (s.trg.key.isSome = true) ∧ (s.trg.join = .joined)) ∧ (fun t => t.cycle = (s.cycle + 1) % 2 ^ 64 ∧ t.trg.header.cycle =
    (s.cycle + 1) % 2 ^ 64 ∧ t.trg.header.master = s.addr ∧ t.trg.header.wrapped = wrapped ∧ t.trg.header.unwrapNext = unwrapNext ∧
    t.trg.header.ringTime = t.now ∧ t.now = max s.now time % 2 ^ 64 ∧ t.trg.lastMaster = s.addr ∧ (unwrapNext = true →
    t.trg.unwrapSeen.isSome = true)) (after (.cycleStart time unwrapNext wrapped) s)) (75000) (true) (false) (stMaster) := by decide

theorem test_trainDelimiter : (fun (dirB : Bool) (wrapped : Bool) (ringWrapped : Bool) (cycle : Nat) (hop : Nat) (correction : Nat)
    (delay : Nat) (forward : Nat) (neighbour : Nat) (master : Nat) (time : Nat) (s : State) => ((s.isMaster = false) ∧ (s.rd
    F.CLK_LULL_STATUS_STATE = 0) ∧ (s.trg.away = false) ∧ (s.addr ≠ 0) ∧ (s.sys.running = true) ∧ (s.trg.join = .joined) ∧
    (s.trg.key.isSome = true) ∧ (s.trg.leaveLeft = 0) ∧ (s.trg.slotCycle ≠ some cycle)) ∧ (fun t => t.trg.slotSent = s.trg.slot ∧
    t.trg.slot = none ∧ t.trg.slotCycle = some cycle ∧ t.trg.slotLeave = false ∧ (if dirB then t.trg.hopB = (hop + 1) % 256 ∧
    t.trg.corrB = (correction + delay) % 2 ^ 32 else t.trg.hopA = (hop + 1) % 256 ∧ t.trg.corrA = (correction + delay) % 2 ^ 32)) (after
    (.trainDelimiter dirB wrapped ringWrapped cycle hop correction delay forward neighbour master time) s)) (true) (false) (false) (3)
    (4) (5) (6) (7) (8) (1) (9) (stStack) := by decide

theorem test_cycleHeaderReceive : (fun (header : RingHeader) (arrival : Nat) (steer : Int) (s : State) => ((s.trg.key.isSome = true) ∧
    (header.master ≠ s.addr) ∧ (s.isMaster = false) ∧ (s.cycle < header.cycle)) ∧ (fun t => t.trg.lastMaster = header.master ∧
    (header.unwrapNext = true → t.trg.unwrapSeen.isSome = true) ∧ t.cycle = header.cycle % 2 ^ 64 ∧ t.now = max s.now (s.trainTime
    header false) % 2 ^ 64) (after (.cycleHeaderReceive header false true arrival steer) s))
    ({ master := 1, cycle := 4, ringTime := 100000 }) (100002) (0) (stStack) := by decide

theorem test_dataSlotReceive : (fun (slot : DataSlot) (cycle : Nat) (s : State) => ((s.inLull = false) ∧ (slotSeen s.trg.dataSeen
    slot.src cycle = false) ∧ (s.trg.key.isSome = true) ∧ (1 ≤ slot.src) ∧ (slot.src ≤ 96) ∧ (slot.src ≠ s.addr) ∧ (slot.leave = false)
    ∧ (slot.payload = [])) ∧ (fun t => t.member slot.src = true ∧ SMap.get (fun _ => none) t.pair.slotAt slot.src = some cycle) (after
    (.dataSlotReceive slot cycle true) s)) ({ src := 4 }) (7) (stStack) := by decide

theorem test_dataSlotReceive_2 : (fun (slot : DataSlot) (cycle : Nat) (s : State) => ((s.inLull = false) ∧ (slotSeen s.trg.dataSeen
    slot.src cycle = false) ∧ (s.trg.key.isSome = true) ∧ (1 ≤ slot.src) ∧ (slot.src ≤ 96) ∧ (slot.src ≠ s.addr) ∧ (slot.leave = false)
    ∧ (s.member slot.src = true) ∧ (1 ≤ slot.channel) ∧ (slot.channel ≤ 7) ∧ (slot.first = true) ∧ (slot.last = true) ∧ (slot.payload ≠
    []) ∧ (slot.payload.headD 0 = s.addr) ∧ ((s.q 5).length < s.depth 5)) ∧ (fun t => t.trg.message = some (slot.src, slot.channel,
    slot.payload.take 48) ∧ (t.q 5).length = (s.q 5).length + 1) (after (.dataSlotReceive slot cycle true) s))
    ({ src := 4, channel := 2, first := true, last := true, payload := [3, 9] }) (7) (stStack.setMember 4 true) := by decide

theorem test_provisionalMaster : (fun (time : Nat) (s : State) => ((s.kind = .site) ∧ (s.rd F.TRG_STATUS_SOURCE = 1) ∧ (s.sys.running
    = true) ∧ (s.trg.join ≠ .joined) ∧ (s.trg.away = false) ∧ (s.isMaster = false) ∧ (s.inLull = false) ∧ (s.trg.trainAt.all (fun t => t
    + 50000000 ≤ time) = true)) ∧ (fun t => t.trg.provisional = true ∧ t.isMaster = true ∧ t.trg.key.isSome = true ∧ t.trg.join =
    .joined) (after (.provisionalMaster time) s)) (50000000) (({ stSite with trg.join := .idle, trg.trainAt := some 0 } : State).wr
    F.TRG_STATUS_SOURCE 1) := by decide

theorem test_ptpSync : (fun (offset : Int) (calendar : Int) (locked : Bool) (port : Fin 3) (s : State) => ((s.kind = .site)) ∧ (fun t
    => t.bil.ptpOffset = calendar ∧ t.rdb F.TRG_CAL_STATUS_PTP_LOCK = locked ∧ t.rd F.TRG_CAL_STATUS_PTP_PORT = port.val ∧ t.trg.ptpGood
    = (if offset.natAbs ≤ 100000 then min 16 (s.trg.ptpGood + 1) else 0)) (after (.ptpSync offset calendar locked port) s)) (5) (7)
    (true) (2) (stSite) := by decide

theorem test_ptpSyncTimeout : (fun (s : State) => ((s.kind = .site)) ∧ (fun t => t.trg.ptpGood = 0 ∧ (s.active = true → t.rdb
    F.TRG_CAL_STATUS_PROVEN = false)) (after (.ptpSyncTimeout) s)) (stSite) := by decide

theorem test_squallEvent : (fun (code : BitVec 16) (arg : BitVec 32) (s : State) => ((evClass code.toNat ≠ 0) ∧ (evClass code.toNat ≠
    15) ∧ (s.inLull = false) ∧ (s.que.q0.length < s.depth 0)) ∧ (fun t => t.que.q0 = s.que.q0 ++
    [{ time := s.now, code := code.toNat, src := s.addr, arg := arg.toNat }] ∧ (squallWorthy code.toNat = true → t.trg.squall.isSome =
    true)) (after (.squallEvent code arg) s)) (0x4001) (7) (stStack) := by decide

theorem test_squallSend : (fun (cycle : Nat) (e : Ev) (s : State) => ((s.trg.squall = some e) ∧ (cycle % 3 = s.addr % 3) ∧ (s.inLull =
    false) ∧ (s.trg.squallAt ≠ some cycle) ∧ (s.trg.key.isSome = true) ∧ (s.addr ≠ 0)) ∧ (fun t => t.trg.squall = none ∧
    t.trg.squallSent = some (e, s.trg.squallSeq) ∧ t.trg.squallSeq = (s.trg.squallSeq + 1) % 65536 ∧ t.trg.squallAt = some cycle) (after
    (.squallSend cycle) s)) (6) ({ code := 0x4001 }) ({ stStack with trg.squall := some { code := 0x4001 } }) := by decide

theorem test_squallReceive : (fun (frame : SquallFrame) (s : State) => ((s.inLull = false) ∧ (frame.src ≠ s.addr) ∧ (s.trg.key.isSome
    = true) ∧ (s.squallTwice frame.src frame.seq = false) ∧ (s.que.q0.length < s.depth 0)) ∧ (fun t => t.que.q0 = s.que.q0 ++
    [{ time := eventTime s.now frame.time, code := frame.code, src := frame.src, count := max 1 frame.count, arg := 0 }] ∧ (frame.seq,
    s.cycle) ∈ SMap.get (fun _ => []) t.trg.squallSeen frame.src) (after (.squallReceive frame true) s))
    ({ src := 4, code := 0x4001, seq := 8 }) (stStack) := by decide

theorem test_linkBreak : (fun (port : Fin 2) (s : State) => ((s.trg.broken.contains (port.val + 1) = false)) ∧ (fun t => t.trg.broken
    = (port.val + 1) :: s.trg.broken ∧ t.rdb F.TRG_STATUS_WRAP_1 = t.trg.broken.contains 1 ∧ t.rdb F.TRG_STATUS_WRAP_2 =
    t.trg.broken.contains 2 ∧ t.rd F.TRG_BREAKS = (s.rd F.TRG_BREAKS + 1) % 2 ^ 32) (after (.linkBreak port) s)) (1) (stStack) := by
    decide

theorem test_ringUnwrap : (fun (port : Fin 2) (c : Nat) (s : State) => ((s.trg.broken.contains (port.val + 1) = true) ∧
    (s.trg.unwrapSeen = some c) ∧ (c < s.cycle)) ∧ (fun t => t.trg.broken = s.trg.broken.filter (· != port.val + 1) ∧ t.rdb
    F.TRG_STATUS_WRAP_1 = t.trg.broken.contains 1 ∧ t.rdb F.TRG_STATUS_WRAP_2 = t.trg.broken.contains 2) (after (.ringUnwrap port) s))
    (0) (4) (({ stStack with trg.broken := [1], trg.unwrapSeen := some 4 } : State).wr64 F.TRG_CYCLE_LO 5) := by decide

theorem test_joinRequest (k : List Nat) (h : ({ stStack with trg.join := .idle } : State).joinKey Config.deviceId 3 = some k) :
  ({ stStack with trg.join := .idle } : State).addr ≠ 0 ∧ ({ stStack with trg.join := .idle } : State).isMaster = false ∧
    ({ stStack with trg.join := .idle } : State).inLull = false ∧ ({ stStack with trg.join := .idle } : State).sys.running = true ∧
    ({ stStack with trg.join := .idle } : State).joinKey Config.deviceId ({ stStack with trg.join := .idle } : State).addr = some k :=
  ⟨by decide, by decide, by decide, rfl, h⟩

theorem test_joinRequest_2 : (fun (dirB : Bool) (s : State) => (s.addr ≠ 0) ∧ (s.trg.join = .idle) ∧ (s.trg.leaveLeft = 0) ∧
    (s.isMaster = false) ∧ (s.inLull = false) ∧ (s.sys.running = true) ∧ (s.joinKey Config.deviceId s.addr = none)) (true)
    ({ stStack with trg.join := .idle }) := by decide

theorem test_joinWindowTake (k : List Nat) (h : stMaster.joinKey 77 4 = some k) :
  stMaster.isMaster = true ∧ stMaster.trg.tookCycle ≠ some stMaster.cycle ∧ stMaster.inLull = false ∧ stMaster.member 4 = false ∧
    4 ≠ stMaster.addr ∧ stMaster.trg.grants = [] ∧ stMaster.joinKey 77 4 = some k :=
  ⟨by decide, by decide, by decide, by decide, by decide, rfl, h⟩

theorem test_joinWindowTake_2 : (fun (request : JoinReq) (s : State) => ((s.isMaster = false) ∧ (s.kind = .site) ∧ (s.inLull = false))
    ∧ (fun t => SMap.get (fun _ => 0) t.trg.devices request.addr = request.device ∧ SMap.get (fun _ => []) t.trg.digests request.addr =
    request.digest) (after (.joinWindowTake (some request) none) s)) ({ addr := 4, device := 77 }) (stSite) := by decide

theorem test_joinChalReceive : (fun (s : State) => ((s.trg.join = .requested)) ∧ (fun t => t.trg.join = .idle ∧ t.rdb
    F.TRG_STATUS_CONFLICT = true ∧ t.addr = 0 ∧ t.pat.instance_ = 0) (after (.joinChalReceive none) s))
    ({ stStack with trg.join := .requested }) := by decide

theorem test_joinChalReceive_2 : (fun (nonce : List Nat) (key : List Nat) (s : State) => (s.trg.join = .requested) ∧ (s.trg.joinWith =
    some key)) ([1, 2]) ([9]) ({ stStack with trg.join := .requested, trg.joinWith := some [9] }) := by decide

theorem test_joinResponseCheck :
  ({ stMaster with trg.grants := [{ addr := 4 }] } : State).isMaster = true ∧
    ({ stMaster with trg.grants := [{ addr := 4 }] } : State).trg.grants.find? (·.addr == 4) = some { addr := 4 } ∧
    ({ stMaster with trg.grants := [{ addr := 4 }] } : State).joinProof { addr := 4 } 4
      ((Config.hmac384 [] (joinMessage [] 0 4 [] 0)).take 32) = true :=
  ⟨by decide, by decide, List.any_eq_true.mpr ⟨0, by decide, beq_self_eq_true _⟩⟩

theorem test_joinResponseCheck_2 (r : List Nat)
    (h : ({ stMaster with trg.grants := [{ addr := 4 }] } : State).joinProof { addr := 4 } 4 r = false) :
  ({ stMaster with trg.grants := [{ addr := 4 }] } : State).isMaster = true ∧
    ({ stMaster with trg.grants := [{ addr := 4 }] } : State).trg.grants.find? (·.addr == 4) = some { addr := 4 } ∧
    ({ stMaster with trg.grants := [{ addr := 4 }] } : State).joinProof { addr := 4 } 4 r = false :=
  ⟨by decide, by decide, h⟩

theorem test_joinRetry : (fun (s : State) => ((s.trg.join = .challenged) ∧ (s.trg.key = none)) ∧ (fun t => t.trg.join = .idle ∧ t.rdb
    F.KEY_STATUS_JOIN_FAIL = true) (after (.joinRetry) s)) ({ stUp with trg.join := .challenged }) := by decide

theorem test_ringKeyReceive (r : List Nat) (h : Config.unwrap [9] [2] = some r) :
  ({ stUp with trg.join := .challenged, trg.joinWith := some [9] } : State).trg.join = .challenged ∧
    ({ stUp with trg.join := .challenged, trg.joinWith := some [9] } : State).trg.joinWith = some [9] ∧ Config.unwrap [9] [2] = some r :=
  ⟨rfl, rfl, h⟩

theorem test_ringKeyReceive_2 (h : Config.unwrap [9] [2] = none) :
  ({ stUp with trg.join := .challenged, trg.joinWith := some [9] } : State).trg.join = .challenged ∧
    ({ stUp with trg.join := .challenged, trg.joinWith := some [9] } : State).trg.joinWith = some [9] ∧ Config.unwrap [9] [2] = none :=
  ⟨rfl, rfl, h⟩

theorem test_rekeyDeliveryReceive (k r : List Nat) (h : stJoined.joinKey Config.deviceId stJoined.addr = some k) (hr : Config.unwrap k [2] = some r) :
  stJoined.trg.join = .joined ∧ 1 % 65536 = (stJoined.trg.epoch + 1) % 65536 ∧ stJoined.joinKey Config.deviceId stJoined.addr = some k ∧
    Config.unwrap k [2] = some r := ⟨rfl, by decide, h, hr⟩

theorem test_rekeyDeliveryReceive_2 : (fun (epoch : Nat) (wrapped : List Nat) (s : State) => (s.trg.join = .joined) ∧ (epoch % 65536 =
    (s.trg.epoch + 1) % 65536) ∧ ((s.joinKey Config.deviceId s.addr).bind (fun k => Config.unwrap k wrapped) = none)) (1) ([2])
    (stJoined) := by decide

theorem test_leaveCommand : (fun (side : Side) (s : State) => ((s.inLull = false) ∧ (s.trg.join = .joined)) ∧ (fun t =>
    t.trg.leaveLeft = 3 ∧ t.hbi.refused = none) (after (.leaveCommand side 0x7A4D#16) s)) (1) (stStack) := by decide

theorem test_declaredLeave : (fun (addr : Nat) (s : State) => ((s.isMaster = true) ∧ (addr ≠ s.addr) ∧ (addr ≤ 96) ∧ (s.member addr =
    true) ∧ (s.silent addr = true)) ∧ (fun t => t.member addr = false ∧ t.trg.grants = s.trg.grants.filter (·.addr != addr)) (after
    (.declaredLeave addr) s)) (4) (stMaster.setMember 4 true) := by decide

theorem test_rekeyCommand : (fun (side : Side) (s : State) => (s.isMaster = true) ∧ (s.inLull = false) ∧ (s.trg.rekey = none) ∧
    (s.trg.key.isSome = true)) (0) (stMaster) := by decide

theorem test_rekeyDue : (fun (s : State) => (s.isMaster = true) ∧ (s.inLull = false) ∧ (s.trg.rekey = none) ∧ (s.trg.key.isSome =
    true)) (stMaster) := by decide

theorem test_epochAdvance : (fun (time : Nat) (at_ : Nat) (d : List Nat) (s : State) => ((s.isMaster = true) ∧ (s.trg.rekey = some (d,
    at_)) ∧ (at_ + 100000000 ≤ time) ∧ (s.deliveryWaits = false)) ∧ (fun t => t.trg.key = s.trg.nextKey ∧ t.trg.nextKey = none ∧
    t.trg.epoch = (s.trg.epoch + 1) % 65536 ∧ t.trg.rekey = none) (after (.epochAdvance time) s)) (100000009) (9) ([4])
    ({ stMaster with trg.rekey := some ([4], 9), trg.nextKey := some [5] }) := by decide

theorem test_pairFrameSend : (fun (time : Nat) (s : State) => ((s.pair.partnerAddr ≠ 0) ∧ (s.inLull = false) ∧ (s.pair.withdrawing =
    false)) ∧ (fun t => t.pair.seq = (s.pair.seq + 1) % 2 ^ 64 ∧ t.pair.payload.length = 96 ∧ t.pair.frame.head? = some t.pair.lastType
    ∧ t.pair.lastType ∈ [1, 2, 3] ∧ (s.sendKey = none → t.pair.frame.length = 106)) (after (.pairFrameSend time) s)) (5000) (stPair) :=
    by decide

theorem test_pairShadowFrame : (fun (frame : PairFrame) (time : Nat) (s : State) => ((s.pair.partnerAddr ≠ 0) ∧ (s.inLull = false) ∧
    (s.pair.withdrawing = false) ∧ (s.rd F.PAIR_STATUS_STATE = psCold) ∧ (s.predicted = [])) ∧ (fun t => t.rdb F.PAIR_STATUS_LINK = true
    ∧ t.rd F.PAIR_STATUS_PARTNER_CLAIM = frame.head.claim % 256 ∧ t.pair.missed = 0 ∧ t.pair.lost = false ∧ t.pair.lastFrame = time ∧
    t.pair.partnerSeq = frame.head.seq) (after (.pairShadowFrame frame time) s)) ({ head := { claim := 7, seq := 8 } }) (5000) (stPair)
    := by decide

theorem test_pairShadowFrame_2 : (fun (frame : PairFrame) (time : Nat) (s : State) => ((s.pair.partnerAddr ≠ 0) ∧ (s.inLull = false) ∧
    (s.pair.withdrawing = false) ∧ (s.rd F.PAIR_STATUS_STATE = psHot) ∧ (s.own = 0) ∧ (s.bar.benched = 0) ∧ (s.pair.missed = 0) ∧
    (frame.head.handover = true) ∧ (frame.head.claim % 256 ≠ 0)) ∧ (fun t => t.own = nextClaim (frame.head.claim % 256) ∧ t.active =
    true ∧ t.en = true) (after (.pairShadowFrame frame time) s)) ({ head := { claim := 7, seq := 8, handover := true } }) (5000)
    (stPair.wr F.PAIR_STATUS_STATE psHot) := by decide

theorem test_pairShadowFrame_3 : (fun (frame : PairFrame) (time : Nat) (s : State) => ((s.pair.partnerAddr ≠ 0) ∧ (s.inLull = false) ∧
    (s.pair.withdrawing = false) ∧ (s.own = 0) ∧ (s.en = false) ∧ (s.rd F.PAIR_STATUS_STATE = psCold) ∧ (s.shadowList ≠ []) ∧
    (frame.words ≠ [])) ∧ (fun t => t.pair.received.contains (frame.sliceIdx % s.shadowList.length) = true) (after (.pairShadowFrame
    frame time) s)) ({ head := { claim := 7, seq := 8 }, words := [5] }) (5000) (({ stLoop with pair.partnerAddr := 4 } : State).wr
    F.PAIR_STATUS_STATE psCold) := by decide

theorem test_pairSafetyFrame : (fun (head : PairHead) (prot : List Nat) (safety : SafetyFrame) (uv : BitVec 24) (time : Nat) (s :
    State) => (s.pair.partnerAddr ≠ 0) ∧ (s.inLull = false) ∧ (s.pair.withdrawing = false) ∧ (s.rd F.PAIR_STATUS_STATE = psCold))
    ({ claim := 7 }) ([]) ({}) (5) (5000) (stPair) := by decide

theorem test_heartbeatMissed : (fun (item : Fin 10) (time : Nat) (s : State) => ((s.pair.partnerAddr ≠ 0) ∧ (s.pair.lost = false) ∧
    (s.rdb F.PAIR_STATUS_LINK = true) ∧ (s.pair.lastFrame ≤ time) ∧ (s.pair.missed < 2)) ∧ (fun t => t.pair.missed = s.pair.missed + 1 ∧
    t.pair.good = 0 ∧ t.rd F.PAIR_MISSED = min (s.rd F.PAIR_MISSED + 1) (2 ^ 32 - 1) ∧ t.rd F.PAIR_STATUS_STATE = s.rd
    F.PAIR_STATUS_STATE ∧ (item ≠ 0 → t.pair.incomplete.contains item.val = true)) (after (.heartbeatMissed item time) s)) (3) (9)
    (stPair.wrb F.PAIR_STATUS_LINK true) := by decide

theorem test_heartbeatMissed_2 : (fun (item : Fin 10) (time : Nat) (s : State) => ((s.pair.partnerAddr ≠ 0) ∧ (s.pair.lost = false) ∧
    (s.rdb F.PAIR_STATUS_LINK = true) ∧ (s.pair.lastFrame ≤ time) ∧ (s.pair.missed = 2)) ∧ (fun t => t.pair.lost = true ∧ t.rdb
    F.PAIR_STATUS_LINK = false ∧ (s.rd F.PAIR_STATUS_STATE = psHot → s.rd F.PAIR_IDENT_WITNESS ≠ 0 → s.bar.benched = 0 → t.pair.voting =
    some (false, 1) ∧ t.pair.voteOut = s.pair.voteOut ++
    [{ kind := 1, src := s.addr, instance_ := s.pat.instance_, target := s.rd F.PAIR_IDENT_WITNESS, claim := s.pair.partnerLast, seq := s.trg.squallSeq }])
    ∧ (s.rd F.PAIR_STATUS_STATE = psForming → t.pair.formed = false ∧ t.rd F.PAIR_STATUS_STATE = psNone)) (after (.heartbeatMissed item
    time) s)) (0) (9) ((({ stPair with pair.missed := 2 } : State).wrb F.PAIR_STATUS_LINK true).wr F.PAIR_STATUS_STATE psForming) := by
    decide

theorem test_pairItemRoleDigest : (fun (digest : List Nat) (image : List Nat) (serial : Nat) (addr : Nat) (time : Nat) (s : State) =>
    ((addr = s.pair.partnerAddr) ∧ (addr ≠ 0) ∧ (digest = s.role.digest) ∧ (s.rd F.PAIR_STATUS_STATE = psForming) ∧ (s.partner ≠ 0)) ∧
    (fun t => t.pair.formed = true ∧ t.rd F.PAIR_STATUS_STATE = psCold ∧ t.pat.partnerDigest = image ∧ t.rd F.PAT_PARTNER_SERIAL =
    serial % 2 ^ 32 ∧ t.rdb F.PAT_STATUS_MIXED = (image != s.pat.imageDigest)) (after (.pairItemRoleDigest digest image serial addr
    time) s)) ([]) ([4]) (9) (27) (5) ((stPair.wr F.PAIR_STATUS_STATE psForming).wr F.PAIR_STATUS_PARTNER_CLAIM 3) := by decide

theorem test_pairItemRoleDigest_2 : (fun (digest : List Nat) (image : List Nat) (serial : Nat) (addr : Nat) (time : Nat) (s : State)
    => ((addr = s.pair.partnerAddr) ∧ (addr ≠ 0) ∧ (digest ≠ s.role.digest) ∧ (s.rd F.PAIR_STATUS_STATE = psForming) ∧ (s.pair.mismatch
    = false) ∧ (s.en = false)) ∧ (fun t => t.pair.formed = false ∧ t.rd F.PAIR_STATUS_STATE = psNone ∧ t.pair.mismatch = true ∧ t.en =
    false) (after (.pairItemRoleDigest digest image serial addr time) s)) ([1]) ([4]) (9) (27) (5) (stPair.wr F.PAIR_STATUS_STATE
    psForming) := by decide

theorem test_pairItemSessionMark : (fun (close : Bool) (sid : Nat) (time : Nat) (source : Nat) (s : State) => ((s.heldFor 1 = []) ∧
    ((s.q 1).length < s.depth 1)) ∧ (fun t => t.q 1 = s.q 1 ++
    [{ kind := 4, body := leBytes 8 sid ++ leBytes 8 time ++ [source, if close then 1 else 0] }] ∧ bit (t.rd F.PAIR_BULK_ITEMS) 2 =
    true) (after (.pairItemSessionMark close sid time source) s)) (true) (7) (8) (26) (stPair) := by decide

theorem test_pairItemSessionValues : (fun (imp : Nat) (exp : Nat) (unbooked : Nat) (complete : Bool) (closed : Bool) (s : State) =>
    ((s.heldFor 1 = []) ∧ ((s.q 1).length < s.depth 1)) ∧ (fun t => t.rd64 F.MET_PARTNER_IMP_LO = imp % 2 ^ 64 ∧ t.rd64
    F.MET_PARTNER_EXP_LO = exp % 2 ^ 64 ∧ (t.q 1).length = (s.q 1).length + 1) (after (.pairItemSessionValues imp exp complete unbooked
    closed) s)) (7) (8) (9) (true) (false) (stPair) := by decide

theorem test_pairItemImdPhase : (fun (phase : Bool) (s : State) => ((s.active = false)) ∧ (fun t => t.met.phase = phase ∧ bit (t.rd
    F.PAIR_BULK_ITEMS) 4 = true) (after (.pairItemImdPhase phase) s)) (true) (stPair) := by decide

theorem test_pairItemVehicleSession : (fun (session : VehicleSession) (s : State) => ((s.active = false) ∧ (s.kind = .outlet)) ∧ (fun
    t => t.rd F.VLK_STATUS_STATE = session.state % 16 ∧ t.rd64 F.VLK_SESSION_ID_LO = session.sid % 2 ^ 64 ∧ t.vlk.iReq = session.iReq ∧
    t.vlk.vRef = session.vRef ∧ t.vlk.secrets = session.complete ∧ t.rdb F.VLK_STATUS_SHADOW_OK = session.complete ∧ t.vlk.marked =
    session.marked) (after (.pairItemVehicleSession session) s)) ({ state := 6, sid := 9, iReq := 5 }) (stPair) := by decide

theorem test_pairItemObserver : (fun (tc : Int) (m : Int) (b : Int) (s : State) => (True) ∧ (fun t => t.th.partner = some (tc, m, b) ∧
    bit (t.rd F.PAIR_BULK_ITEMS) 6 = true) (after (.pairItemObserver tc m b) s)) (1) (2) (3) (stPair) := by decide

theorem test_pairItemMrkValues : (fun (key : Nat) (v : Nat) (s : State) => ((s.kind = .site) ∧ (s.active = false) ∧ (planningKey key =
    true)) ∧ (fun t => SMap.get resetCell t.live key = landed key v ∧ bit (t.rd F.PAIR_BULK_ITEMS) 7 = true) (after (.pairItemMrkValues
    [(key, v)]) s)) (F.MRK_CURTAIL_HOLD_HOLD.key) (1) (stSite.wr F.PAIR_STATUS_STATE psCold) := by decide

theorem test_pairItemRoleFigures : (fun (fig : RoleFigures) (role : RoleState) (s : State) => ((s.active = false) ∧ (role.seqs = []))
    ∧ (fun t => bit (t.rd F.PAIR_BULK_ITEMS) 8 = true ∧ t.sys.available = role.available ∧ t.sys.preCoil = role.preCoil ∧ t.sys.mainCoil
    = role.mainCoil ∧ t.vlk.partnerR = role.rTotal ∧ t.barGet 8 = min (max (s.barGet 8) fig.lifeUsed) (2 ^ 32 - 1) ∧ t.bar.cnt.rainMax =
    max s.bar.cnt.rainMax fig.rainMax) (after (.pairItemRoleFigures fig role) s)) ({ lifeUsed := 9, rainMax := 3 })
    ({ available := true }) (stPair) := by decide

theorem test_voteRequestReceive : (fun (src : Nat) (inst : Nat) (claim : BitVec 8) (time : Nat) (s : State) =>
    ((s.mrk.duty.witnesses.contains (inst, s.addr) = true) ∧ (s.memberOf inst src = true) ∧ (s.bar.withdrawing = none) ∧ (s.bar.benched
    = 0) ∧ (s.inLull = false) ∧ (SMap.get (fun _ => none) s.pair.grantAt inst = none)) ∧ (fun t => t.pair.voteOut = s.pair.voteOut ++
    [{ kind := 3, src := s.addr, instance_ := inst, target := src, claim := nextClaim claim.toNat, seq := s.trg.squallSeq }] ∧ SMap.get
    (fun _ => none) t.pair.grantAt inst = some time ∧ t.rd F.PAIR_WIT_GRANTS = min (s.rd F.PAIR_WIT_GRANTS + 1) (2 ^ 32 - 1)) (after
    (.voteRequestReceive false src inst claim time) s)) (26) (34) (7) (9) ({ stSite with mrk.duty := { witnesses := [(34, 1)] } }) := by
    decide

theorem test_voteRequestReceive_2 : (fun (cold : Bool) (src : Nat) (inst : Nat) (at_ : Nat) (claim : BitVec 8) (time : Nat) (s :
    State) => ((s.mrk.duty.witnesses.contains (inst, s.addr) = true) ∧ (s.memberOf inst src = true) ∧ (s.bar.withdrawing = none) ∧
    (s.bar.benched = 0) ∧ (s.inLull = false) ∧ (SMap.get (fun _ => none) s.pair.grantAt inst = some at_) ∧ (time < at_ + 100000000)) ∧
    (fun t => t.pair.voteOut = s.pair.voteOut ++
    [{ kind := 4, src := s.addr, instance_ := inst, target := src, reason := 1, seq := s.trg.squallSeq }] ∧ t.pair.grantAt =
    s.pair.grantAt) (after (.voteRequestReceive cold src inst claim time) s)) (true) (26) (34) (5) (7) (9)
    ({ stSite with mrk.duty := { witnesses := [(34, 1)] }, pair.grantAt := [(34, some 5)] }) := by decide

theorem test_voteGrantReceive : (fun (inst : Nat) (target : Nat) (cold : Bool) (claim : BitVec 8) (time : Nat) (s : State) => ((inst =
    s.pat.instance_) ∧ (inst ≠ 0) ∧ (target = s.addr) ∧ (s.grantFor = some cold) ∧ (s.own = 0) ∧ (s.bar.benched = 0) ∧
    (s.pair.withdrawing = false)) ∧ (fun t => t.own = claim.toNat ∧ t.active = true ∧ t.pair.voting = none ∧ t.rd F.PAIR_LAST_CAUSE =
    (if cold then 2 else 1)) (after (.voteGrantReceive inst target claim time) s)) (34) (26) (true) (9) (5)
    ({ stPair with pair.voting := some (true, 1) }) := by decide

theorem test_voteDenyReceive : (fun (inst : Nat) (target : Nat) (reason : BitVec 8) (s : State) => ((inst = s.pat.instance_) ∧ (inst ≠
    0) ∧ (target = s.addr) ∧ (s.pair.voting.isSome = true)) ∧ (fun t => t.pair.voting = none ∧ t.rd F.PAIR_VOTES_DENIED = min (s.rd
    F.PAIR_VOTES_DENIED + 1) 65535 ∧ (s.rd F.PAIR_STATUS_STATE = psHot → t.rd F.PAIR_STATUS_STATE = psCold)) (after (.voteDenyReceive
    inst target reason) s)) (34) (26) (2) ({ stPair with pair.voting := some (true, 1) }) := by decide

theorem test_voteRetry : (fun (n : Nat) (s : State) => ((s.pair.voting = some (false, n)) ∧ (n < 4) ∧ (s.rd F.PAIR_IDENT_WITNESS ≠ 0)
    ∧ (s.bar.benched = 0)) ∧ (fun t => t.pair.voting = some (false, n + 1) ∧ t.pair.voteOut.length = s.pair.voteOut.length + 1) (after
    (.voteRetry) s)) (1) (({ stPair with pair.voting := some (false, 1) } : State).wr F.PAIR_IDENT_WITNESS 1) := by decide

theorem test_voteRetry_2 : (fun (s : State) => ((s.pair.voting = some (false, 4))) ∧ (fun t => t.pair.voting = none ∧ t.rdb
    F.PAIR_STATUS_NO_VOTE = true) (after (.voteRetry) s)) ({ stPair with pair.voting := some (false, 4) }) := by decide

theorem test_coldRequestDue : (fun (s : State) => ((s.pair.lost = true) ∧ (s.own = 0) ∧ (s.rd F.PAIR_STATUS_STATE = psCold) ∧ (s.rdb
    F.PAIR_CFG_ALLOW_COLD = true) ∧ (s.rd F.PAIR_IDENT_WITNESS ≠ 0) ∧ (s.bar.benched = 0)) ∧ (fun t => t.pair.voting = some (true, 1) ∧
    t.pair.voteOut = s.pair.voteOut ++
    [{ kind := 2, src := s.addr, instance_ := s.pat.instance_, target := s.rd F.PAIR_IDENT_WITNESS, claim := s.pair.partnerLast, seq := s.trg.squallSeq }])
    (after (.coldRequestDue) s)) ((({ stPair with pair.lost := true } : State).wr F.PAIR_IDENT_WITNESS 1).wrb F.PAIR_CFG_ALLOW_COLD
    true) := by decide

theorem test_pairHandover : (fun (side : Side) (s : State) => ((s.inLull = false) ∧ (s.active = true) ∧ (s.partnerReady = true)) ∧
    (fun t => t.pair.handover = some 0 ∧ t.hbi.refused = none) (after (.pairHandover side 0x2C95#16) s)) (0)
    (({ stOutletAct with pair.pState := psHot, pair.pHealthy := true } : State).wrb F.PAIR_STATUS_LINK true) := by decide

theorem test_pairHandover_2 : (fun (side : Side) (s : State) => ((s.inLull = false) ∧ (s.partnerReady = false)) ∧ (fun t =>
    t.hbi.refused = some eState ∧ t.pair = s.pair) (after (.pairHandover side 0x2C95#16) s)) (0) (stOutletAct) := by decide

theorem test_handoverTimeout : (fun (p : Nat) (s : State) => ((s.pair.handover = some p)) ∧ (fun t => t.pair.handover = none ∧ (p = 1
    → t.pat.updResult = 14 ∧ t.rd F.PAT_UPD_STATUS_RESULT = 14)) (after (.handoverTimeout) s)) (1)
    ({ stOutletAct with pair.handover := some 1 }) := by decide

theorem test_standbyHotEntry : (fun (s : State) => ((s.rd F.PAIR_STATUS_STATE = psCold) ∧ (s.pair.formed = true) ∧ (s.rdb
    F.PAIR_STATUS_LINK = true) ∧ (s.bar.benched = 0) ∧ (s.pair.good = 10000) ∧ (s.pair.received.length = s.shadowList.length) ∧
    (s.pair.incomplete = []) ∧ (s.loops.all (fun d => s.countsClear d.loop) = true)) ∧ (fun t => t.rd F.PAIR_STATUS_STATE = psHot ∧
    t.pair = s.pair) (after (.standbyHotEntry) s)) (({ stPair with pair.formed := true, pair.good := 10000 } : State).wrb
    F.PAIR_STATUS_LINK true) := by decide

theorem test_pairLockInput : (fun (level : Bool) (time : Nat) (s : State) => ((s.pair.lastFrame ≤ time) ∧ (s.own = 0)) ∧ (fun t =>
    t.pair.lockIn = level ∧ t.rdb F.PAIR_STATUS_PL_IN = level ∧ t.own = 0) (after (.pairLockInput level time) s)) (true) (5) (stPair) :=
    by decide

theorem test_pairLockInput_2 : (fun (time : Nat) (s : State) => ((s.pair.lastFrame ≤ time) ∧ (s.en = true) ∧ (s.grant = false) ∧
    (s.pair.handover = none)) ∧ (fun t => t.own = 0 ∧ t.en = false ∧ t.pair.lockIn = true ∧ t.rd F.PAIR_STATUS_STATE = psCold ∧ t.rd
    F.PAIR_LAST_CAUSE = 5) (after (.pairLockInput true time) s)) (5) ((stOutletAct.wr F.PAIR_STATUS_OWN_CLAIM 3).wrb F.PAIR_STATUS_EN
    true) := by decide

theorem test_markerCycleStart : (fun (time : Nat) (s : State) => ((s.kind = .site) ∧ (s.active = true) ∧ (s.inLull = false) ∧
    (s.mrk.latched = none)) ∧ (fun t => t.mrk.solving = some time ∧ t.mrk.invalid = false ∧ t.rdb F.MRK_STATUS_DEGRADED =
    t.mrk.snap.degraded) (after (.markerCycleStart time) s)) (9) (stSite) := by decide

theorem test_markerCycleStart_2 : (fun (time : Nat) (p : Plan) (s : State) => ((s.kind = .stack) ∧ (s.inLull = false) ∧ (s.mrk.latched
    = some p) ∧ (p.applyTime ≤ time)) ∧ (fun t => t.mrk.applied = p ∧ t.mrk.latched = none ∧ t.mrk.applyTime = p.applyTime ∧
    t.mrk.leaseMs = p.leaseMs ∧ t.rd F.MRK_PLAN_NO = p.planNo % 2 ^ 32) (after (.markerCycleStart time) s)) (9)
    ({ planNo := 4, applyTime := 9 }) ({ stStack with mrk.latched := some { planNo := 4, applyTime := 9 } }) := by decide

theorem test_solveComplete : (fun (t0 : Nat) (updating : List Nat) (s : State) => (s.kind = .site) ∧ (s.active = true) ∧ (s.inLull =
    false) ∧ (s.mrk.solving = some t0)) (20000000) ([]) ({ stSite with mrk.solving := some 20000000 }) := by decide

theorem test_solveDeadline : (fun (t0 : Nat) (updating : List Nat) (s : State) => (s.kind = .site) ∧ (s.active = true) ∧ (s.inLull =
    false) ∧ (s.mrk.solving = some t0)) (20000000) ([]) ({ stSite with mrk.solving := some 20000000 }) := by decide

theorem test_solveDeadline_2 : (fun (t0 : Nat) (best : List Nat) (updating : List Nat) (s : State) => (s.kind = .site) ∧ (s.active =
    true) ∧ (s.inLull = false) ∧ (s.mrk.solving = some t0) ∧ (s.mrk.snap.targets.contains best = true)) (20000000) ([]) ([])
    ({ stSite with mrk.solving := some 20000000 }) := by decide

theorem test_stackStatusReceive : (fun (time : Nat) (report : StackStatus) (s : State) => ((s.siteListens = true) ∧ (1 ≤ report.row) ∧
    (report.row ≤ 32)) ∧ (fun t => SMap.get (fun _ => none) t.mrk.stackRep report.row = some (time, report) ∧ t.rdb
    (F.MRK_STACK_STATE_AVAILABLE report.row) = report.available) (after (.stackStatusReceive time report) s)) (9)
    ({ row := 1, available := true }) (stSite) := by decide

theorem test_stackCurveReceive : (fun (time : Nat) (row : Nat) (curve : List Nat) (s : State) => (s.siteListens = true) ∧ (1 ≤ row) ∧
    (row ≤ 32)) (9) (32) ([1, 2]) (stSite) := by decide

theorem test_outletStatusReceive : (fun (time : Nat) (report : OutletStatus) (s : State) => ((s.siteListens = true) ∧ (1 ≤ report.col)
    ∧ (report.col ≤ 16)) ∧ (fun t => SMap.get (fun _ => none) t.mrk.outletRep report.col = some (time, report) ∧ t.live = s.live) (after
    (.outletStatusReceive time report) s)) (9) ({ col := 16, phase := 2 }) (stSite) := by decide

theorem test_quarantineEnd : (fun (row : Nat) (col : Nat) (s : State) => ((1 ≤ row) ∧ (row ≤ 32) ∧ ((s.mrk.quarantine.filter (· !=
    (row, col))).any (·.1 == row) = false)) ∧ (fun t => t.mrk.quarantine = s.mrk.quarantine.filter (· != (row, col)) ∧ t.rdb
    (F.MRK_STACK_STATE_QUARANTINE row) = false) (after (.quarantineEnd row col) s)) (1) (2) (({ stSite with mrk.quarantine := [(1, 2)] }
    : State).wrb (F.MRK_STACK_STATE_QUARANTINE 1) true) := by decide

theorem test_curtailWrite : (fun (side : Side) (value : BitVec 32) (s : State) => ((s.inLull = false) ∧ (s.kind ≠ .site ∨ s.active =
    true) ∧ (value.toNat ≤ 0xFFFFFF)) ∧ (fun t => t.rd F.MRK_CURTAIL_KW = value.toNat ∧ t.mrk.curtailAt = s.now ∧ (value.toNat ≠
    noCurtail → t.curtailLeft = s.rd F.MRK_CURTAIL_HOLD_HOLD)) (after (.curtailWrite side value) s)) (0) (500) (stSite.wr
    F.MRK_CURTAIL_HOLD_HOLD 7) := by decide

theorem test_curtailLapse : (fun (s : State) => ((s.rd F.MRK_CURTAIL_HOLD_HOLD ≠ 0)) ∧ (fun t => t.rd F.MRK_CURTAIL_KW = noCurtail ∧
    t.curtailLeft = 0) (after (.curtailLapse) s)) (stSite.wr F.MRK_CURTAIL_HOLD_HOLD 7) := by decide

theorem test_mrkHoldOn : (fun (side : Side) (s : State) => ((s.inLull = false) ∧ (s.kind ≠ .site ∨ s.active = true)) ∧ (fun t => t.rdb
    F.MRK_STATUS_HOLD = true ∧ t.mrk = s.mrk) (after (.mrkHoldOn side 0x2B6E#16) s)) (0) (stSite) := by decide

theorem test_mrkHoldOff : (fun (side : Side) (s : State) => ((s.inLull = false) ∧ (s.kind ≠ .site ∨ s.active = true)) ∧ (fun t =>
    t.rdb F.MRK_STATUS_HOLD = false ∧ t.mrk = s.mrk) (after (.mrkHoldOff side 0x2B6E#16) s)) (2) (stSite) := by decide

theorem test_mrkReplan : (fun (side : Side) (s : State) => ((s.inLull = false) ∧ (s.kind ≠ .site ∨ s.active = true)) ∧ (fun t => t.mrk
    = { s.mrk with invalid := true } ∧ t.live = s.live) (after (.mrkReplan side 0x2B6E#16) s)) (2) (stSite) := by decide

theorem test_reportSample : (fun (s : State) => (s.kind = .outlet) ∧ (s.active = true) ∧ (s.inLull = false)) (stOutletAct) := by
    decide

theorem test_reportSample_2 : (fun (s : State) => (s.kind = .stack) ∧ (s.active = true) ∧ (s.inLull = false)) (stStack) := by decide

theorem test_planReceive : (fun (plan : Plan) (src : Nat) (s : State) => ((s.inLull = false) ∧ (src = s.trg.lastMaster) ∧ (s.now +
    1000000 ≤ plan.applyTime)) ∧ (fun t => t.mrk.plan = some plan ∧ (s.kind = .site → s.active = false → t.mrk.committed = plan) ∧
    (s.kind ≠ .site → t.live = s.live)) (after (.planReceive plan src) s)) ({ applyTime := 1000000 }) (1) (stStack) := by decide

theorem test_planTack : (fun (time : Nat) (p : Plan) (s : State) => (s.inLull = false) ∧ (s.mrk.plan = some p) ∧ (p.applyTime ≤ time +
    1000000)) (9) ({ applyTime := 9 }) ({ stStack with mrk.plan := some { applyTime := 9 } }) := by decide

theorem test_planTack_2 : (fun (time : Nat) (s : State) => ((s.inLull = false) ∧ (s.mrk.plan = none)) ∧ (fun t => t.rd
    F.MRK_LOCAL_MISSED = min (s.rd F.MRK_LOCAL_MISSED + 1) 255 ∧ t.mrk = s.mrk) (after (.planTack time) s)) (9) (stStack) := by decide

theorem test_dutyReceive : (fun (duty : Duty) (src : Nat) (s : State) => ((s.inLull = false) ∧ (src = s.trg.lastMaster)) ∧ (fun t =>
    t.mrk.duty = duty ∧ (s.pat.instance_ ≠ 0 → t.rd F.PAIR_IDENT_WITNESS = ((duty.witnesses.find? (·.1 == s.pat.instance_)).map
    (·.2)).getD 0 % 128)) (after (.dutyReceive duty src) s)) ({ witnesses := [(2, 26)] }) (1) (stStack) := by decide

theorem test_demandSend : (fun (cycle : Nat) (time : Nat) (s : State) => ((s.kind = .outlet) ∧ (s.active = true) ∧ (cycle % 4 = 0) ∧
    (s.columnLeased time = true)) ∧ (fun t => (t.mrk.demand.getD {}).col = s.role.rowCol ∧ (t.mrk.demand.getD {}).mode = s.demandMode ∧
    (t.mrk.demand.getD {}).seq = s.mrk.demandSeq ∧ t.mrk.demandSeq = (s.mrk.demandSeq + 1) % 256) (after (.demandSend cycle time) s))
    (8) (0) ({ stOutletAct with mrk.leases := [(1, 90)] }) := by decide

theorem test_demandReceive : (fun (demand : Demand) (s : State) => ((s.kind = .stack) ∧ (s.ownColumn ≠ 0) ∧ (demand.col = s.ownColumn)
    ∧ (demand.mode ≠ 0)) ∧ (fun t => t.mrk.demand = some demand ∧ t.mrk.demandLost = false) (after (.demandReceive demand) s))
    ({ col := 1, mode := 2 }) ({ stStack with mrk.stack := some { row := 1, col := 1 }, mrk.demandLost := true }) := by decide

theorem test_demandReceive_2 : (fun (demand : Demand) (s : State) => ((s.kind = .stack) ∧ (s.ownColumn ≠ 0) ∧ (demand.col =
    s.ownColumn) ∧ (demand.mode = 0)) ∧ (fun t => t.mrk.demand = some { demand with iRef := 0 } ∧ t.mrk.demandLost = false) (after
    (.demandReceive demand) s)) ({ col := 1, iRef := 5 })
    ({ stStack with mrk.stack := some { row := 1, col := 1 }, mrk.demandLost := true }) := by decide

theorem test_demandLost : (fun (time : Nat) (s : State) => (s.kind = .stack) ∧ (s.mrk.lease.isSome = true)) (9)
    ({ stStack with mrk.lease := some (1, 90) }) := by decide

theorem test_leadSend : (fun (cycle : Nat) (time : Nat) (iLead : Int) (e : StackEntry) (d : LoopDecl) (s : State) => (s.kind = .stack)
    ∧ (s.active = true) ∧ (cycle % 4 = 2) ∧ (s.isLead = true) ∧ (s.ownColumn ≠ 0) ∧ (e ∈ s.mrk.applied.stackEntries) ∧ (e.col =
    s.ownColumn) ∧ (e.row ≠ s.role.rowCol) ∧ (2 ≤ e.mode) ∧ (e.mode ≤ 5) ∧ (d ∈ s.outputLoops) ∧ (s.nowMode d.loop = mOutVoltage)) (2)
    (9) (30) ({ row := 2, col := 1, mode := 3 }) ({ loop := 1, hbMask := 2, modes := [{ mode := 4 }] }) (stLead) := by decide

theorem test_leadReceive : (fun (lead : Lead) (s : State) => ((s.kind = .stack) ∧ (s.ownColumn ≠ 0) ∧ (lead.col = s.ownColumn) ∧
    (lead.row ≠ s.role.rowCol)) ∧ (fun t => t.mrk.lead = some lead ∧ t.mrk.leadLost = false) (after (.leadReceive lead) s))
    ({ col := 1, row := 2 }) ({ stStack with mrk.stack := some { row := 1, col := 1 }, mrk.leadLost := true }) := by decide

theorem test_leadLost : (fun (time : Nat) (s : State) => (s.kind = .stack) ∧ (s.isLead = false) ∧ (s.mrk.lead.isSome = true) ∧
    (s.dem.mode ≠ 0)) (9) ({ stStack with mrk.lead := some {}, mrk.demand := some { mode := 1 } }) := by decide

theorem test_wakeReceive : (fun (target : Nat) (src : Nat) (s : State) => ((s.inLull = true) ∧ (target = s.addr) ∧ (src =
    s.trg.lastMaster)) ∧ (fun t => t.rd F.CLK_LULL_STATUS_STATE = 3 ∧ t.rd F.CLK_LULL_STATUS_WAKE_CAUSE = 1) (after (.wakeReceive target
    src) s)) (26) (1) (stLull) := by decide

theorem test_wakeReceive_2 : (fun (target : Nat) (src : Nat) (s : State) => (s.kind = .site) ∧ (s.active = false) ∧ (s.inLull = false)
    ∧ (src = s.trg.lastMaster) ∧ (s.mrk.waking.any (·.1 == target) = false)) (4) (1) (stSite.wr F.PAIR_STATUS_STATE psCold) := by decide

theorem test_wakeJoinTimeout : (fun (addr : Nat) (s : State) => ((s.mrk.waking.any (·.1 == addr) = true) ∧ (s.member addr = false)) ∧
    (fun t => t.mrk.waking = s.mrk.waking.filter (·.1 != addr) ∧ t.mrk.lullUnits = s.mrk.lullUnits.filter (· != addr) ∧ t.mrk.invalid =
    true) (after (.wakeJoinTimeout addr) s)) (4) ({ stSite with mrk.waking := [(4, 9)], mrk.lullUnits := [4] }) := by decide

theorem test_replicaWriteReceive : (fun (owner : Nat) (seq : Nat) (bytes : List Nat) (s : State) => ((s.inLull = false)) ∧ (fun t =>
    t.mrk.replicas = (owner, false, seq, bytes) :: s.mrk.replicas.filter (fun r => !(r.1 == owner && r.2.1 == false && r.2.2.1 == seq)))
    (after (.replicaWriteReceive owner false seq bytes) s)) (26) (3) ([1, 2]) (stStack) := by decide

theorem test_replicaWriteReceive_2 : (fun (owner : Nat) (seq : Nat) (bytes : List Nat) (s : State) => (s.inLull = false)) (26) (3)
    ([1, 2]) (stStack) := by decide

theorem test_leaseRampStart : (fun (time : Nat) (c : Nat) (e : Nat) (s : State) => (s.kind = .stack) ∧ (s.mrk.lease = some (c, e)) ∧
    (e ≤ time + s.mrk.rampMs * 1000000) ∧ (time < e) ∧ (s.mrk.leaseRamp = false)) (9) (1) (10)
    ({ stStack with mrk.lease := some (1, 10), mrk.rampMs := 5 }) := by decide

theorem test_leaseExpiry : (fun (time : Nat) (c : Nat) (e : Nat) (s : State) => ((s.kind = .stack) ∧ (s.mrk.lease = some (c, e)) ∧ (e
    ≤ time)) ∧ (fun t => t.mrk.lease = none ∧ t.mrk.coil = 0 ∧ t.mrk.leaseRamp = false ∧ t.rd F.MRK_LOCAL_COLUMN = 0) (after
    (.leaseExpiry time) s)) (9) (1) (9) ({ stStack with mrk.lease := some (1, 9), mrk.coil := 1 }) := by decide

theorem test_connectVoltageMatched : (fun (c : Nat) (e : Nat) (s : State) => ((s.mrk.lease = some (c, e)) ∧ (s.mrk.seq = .matching) ∧
    (s.mrk.coil = 0) ∧ (s.mrk.closed = 0) ∧ (s.fitted c = true) ∧ (s.matched = true)) ∧ (fun t => t.mrk.coil = c ∧ t.mrk.seq = .closing
    ∧ t.mrk.closed = 0) (after (.connectVoltageMatched) s)) (1) (9)
    ({ stStack with mrk.lease := some (1, 9), mrk.seq := .matching, mrk.demand := some {}, pat.content.crossPoints := [(1, 1)] }) := by
    decide

theorem test_connectMatchTimeout : (fun (s : State) => ((s.mrk.seq = .matching)) ∧ (fun t => t.mrk.seq = .idle ∧ t.mrk.coil = 0 ∧
    t.mrk.connectFail = true ∧ t.mrk.ready = false) (after (.connectMatchTimeout) s))
    ({ stStack with mrk.seq := .matching, mrk.coil := 1 }) := by decide

theorem test_xpAuxCloseTimeout : (fun (s : State) => ((s.mrk.seq = .closing)) ∧ (fun t => t.mrk.seq = .idle ∧ t.mrk.coil = 0 ∧
    t.mrk.connectFail = true ∧ t.mrk.ready = false) (after (.xpAuxCloseTimeout) s))
    ({ stStack with mrk.seq := .closing, mrk.coil := 1 }) := by decide

theorem test_xpAuxClosed : (fun (s : State) => (s.mrk.seq = .closing)) ({ stStack with mrk.seq := .closing, mrk.coil := 1 }) := by
    decide

theorem test_xpDebounceEnd : (fun (s : State) => ((s.mrk.seq = .closeDebounce)) ∧ (fun t => t.mrk.seq = .connected ∧ t.mrk.ready =
    true ∧ t.mrk.closed = s.mrk.closed) (after (.xpDebounceEnd) s)) ({ stStack with mrk.seq := .closeDebounce, mrk.closed := 1 }) := by
    decide

theorem test_xpDebounceEnd_2 : (fun (s : State) => ((s.mrk.seq = .openDebounce)) ∧ (fun t => t.mrk.seq = .idle ∧ t.mrk.closed = 0 ∧
    t.mrk.lease = none ∧ t.mrk.releaseFail = false ∧ t.rd F.MRK_LOCAL_COLUMN = 0) (after (.xpDebounceEnd) s))
    ({ stStack with mrk.seq := .openDebounce, mrk.closed := 1 }) := by decide

theorem test_rampOutZeroHeld : (fun (time : Nat) (s : State) => ((s.mrk.seq = .rampOut) ∧ (s.zeroOut = true) ∧ (s.rampOutEnd + 500000
    ≤ time)) ∧ (fun t => t.mrk.seq = .opening ∧ t.mrk.coil = 0) (after (.rampOutZeroHeld time) s)) (500000)
    ({ stStack with mrk.seq := .rampOut, mrk.coil := 1 }) := by decide

theorem test_releaseFail : (fun (time : Nat) (s : State) => ((s.mrk.seq = .rampOut) ∧ (s.mrk.releaseFail = false) ∧ (s.rampOutEnd +
    5000000 ≤ time)) ∧ (fun t => t.mrk = { s.mrk with releaseFail := true }) (after (.releaseFail time) s)) (5000000)
    ({ stStack with mrk.seq := .rampOut, mrk.coil := 1 }) := by decide

theorem test_xpAuxOpen : (fun (s : State) => (s.mrk.seq = .opening)) ({ stStack with mrk.seq := .opening }) := by decide

theorem test_adcTrigger : (fun (m : Fin 8) (k : Fin 8) (d : LoopDecl) (s : State) => ((s.loopDecl m.val = some d) ∧ (s.inLull = false)
    ∧ ((s.lp m.val).event = none) ∧ (k.val < 2 ^ s.rd (F.PWM_HB_TRIG_SAMPLES d.anchorHb))) ∧ (fun t => (t.lp m.val).event = some k.val ∧
    (t.lp m.val).late = 0 ∧ t.live = s.live) (after (.adcTrigger m k) s)) (1) (0) (loop1) (stLoop) := by decide

theorem test_adcTriggerDeferred : (fun (m : Fin 8) (k : Fin 8) (a : Fin 16) (d : LoopDecl) (s : State) => ((s.loopDecl m.val = some d)
    ∧ (s.inLull = false) ∧ ((s.loopOfAdc a.val).isSome = true) ∧ ((s.lp m.val).event.isSome = true) ∧ (bit d.adcMask a.val = true)) ∧
    (fun t => (t.lp m.val).deferred = some k.val ∧ (t.lp m.val).deferN = (s.lp m.val).deferN + 1 ∧ t.rd (F.PWM_ADC_DEFER a.val) = min
    (s.rd (F.PWM_ADC_DEFER a.val) + 1) (2 ^ 32 - 1)) (after (.adcTriggerDeferred m k a) s)) (1) (1) (2) (loop1) (stLoop.setLp 1
    { stLoop.lp 1 with event := some 0 }) := by decide

theorem test_adcTriggerDeferred_2 : (fun (m : Fin 8) (k : Fin 8) (a : Fin 16) (s : State) => ((s.inLull = false) ∧ ((s.loopOfAdc
    a.val).isNone = true)) ∧ (fun t => t.rd (F.PWM_ADC_DEFER a.val) = min (s.rd (F.PWM_ADC_DEFER a.val) + 1) (2 ^ 32 - 1) ∧ t.sht =
    s.sht) (after (.adcTriggerDeferred m k a) s)) (1) (1) (5) (stLoop) := by decide

theorem test_conversionEnd : (fun (m : Fin 8) (codes : List (List (BitVec 16))) (vOut : Int) (iOut : Int) (pos : List Nat) (zero :
    List (BitVec 32)) (time : Nat) (k : Nat) (d : LoopDecl) (s : State) => (s.loopDecl m.val = some d) ∧ ((s.lp m.val).event = some k) ∧
    (s.inLull = false)) (1) ([[7]]) (9) (8) ([]) ([]) (5) (0) (loop1) (stLoop.setLp 1 { stLoop.lp 1 with event := some 0 }) := by decide

theorem test_conversionEnd_2 : (fun (m : Fin 8) (codes : List (List (BitVec 16))) (vOut : Int) (iOut : Int) (pos : List Nat) (zero :
    List (BitVec 32)) (time : Nat) (k : Nat) (d : LoopDecl) (s : State) => (s.loopDecl m.val = some d) ∧ ((s.lp m.val).event = some k) ∧
    (s.inLull = false) ∧ (s.sampleHits m.val d (codes.map fun l => l.map BitVec.toNat) vOut iOut = true)) (1) ([[7]]) (9) (8) ([]) ([])
    (5) (0) (loop1) ((stLoop.setLp 1 { stLoop.lp 1 with event := some 0 }).wr (F.SHT_LOOP_CTRL_NB 1) 1) := by decide

theorem test_conversionEnd_3 : (fun (m : Fin 8) (codes : List (List (BitVec 16))) (vOut : Int) (iOut : Int) (pos : List Nat) (zero :
    List (BitVec 32)) (time : Nat) (k : Nat) (d : LoopDecl) (s : State) => (s.loopDecl m.val = some d) ∧ ((s.lp m.val).event = some k) ∧
    (s.inLull = false) ∧ (s.sampleHits m.val d (codes.map fun l => l.map BitVec.toNat) vOut iOut = false)) (1) ([[7]]) (9) (8) ([]) ([])
    (5) (0) (loop1) (stLoop.setLp 1 { stLoop.lp 1 with event := some 0 }) := by decide

theorem test_conversionEnd_4 : (fun (m : Fin 8) (c : List (BitVec 16)) (vOut : Int) (iOut : Int) (pos : List Nat) (zero : List (BitVec
    32)) (time : Nat) (k : Nat) (a : Nat) (d : LoopDecl) (s : State) => (s.loopDecl m.val = some d) ∧ ((s.lp m.val).event = some k) ∧
    (s.inLull = false) ∧ (bitsBelow d.adcMask 16 = [a]) ∧ (s.sampleHits m.val d [c.map BitVec.toNat] vOut iOut = false)) (1) ([0x9000])
    (9) (8) ([]) ([]) (5) (0) (2) (loop1) (stLoop.setLp 1 { stLoop.lp 1 with event := some 0 }) := by decide

theorem test_exactCommit : (fun (m : Fin 8) (pos : List Nat) (zero : List (BitVec 32)) (time : Nat) (d : LoopDecl) (ms : MissSt) (s :
    State) => (s.loopDecl m.val = some d) ∧ ((s.lp m.val).miss = some ms) ∧ ((s.exactLane m.val d ms.drawn ms.oldAdc s.adcWords
    (ms.dev.getD 0 0)).nonfin = false)) (1) ([]) ([]) (5) (loop1) ({}) (stLoop.setLp 1 { stLoop.lp 1 with miss := some {} }) := by
    decide

theorem test_exactCommit_2 : (fun (m : Fin 8) (pos : List Nat) (zero : List (BitVec 32)) (time : Nat) (d : LoopDecl) (ms : MissSt) (st
    : StopSt) (s : State) => (s.loopDecl m.val = some d) ∧ ((s.lp m.val).miss = some ms) ∧ ((s.exactLane m.val d ms.drawn ms.oldAdc
    s.adcWords (ms.dev.getD 0 0)).nonfin = false) ∧ ((s.lp m.val).stop = some st) ∧ (st.ended = true) ∧ ((s.lp m.val).restart = none) ∧
    (s.nextMode m.val = 0) ∧ (s.nowMode m.val ≠ mOutVoltage) ∧ (s.nowMode m.val ≠ mOutPower) ∧ (s.pair.shadowWait = [])) (1) ([]) ([])
    (5) (loop1) ({}) ({ start := [], k := 0, n := 9, ended := true }) (stLoop.setLp 1
    { stLoop.lp 1 with miss := some {}, stop := some { start := [], k := 0, n := 9, ended := true } }) := by decide

theorem test_bwWindowEnd : (fun (m : Fin 8) (d : LoopDecl) (s : State) => ((s.loopDecl m.val = some d) ∧ (1024 ≤ (s.lp m.val).winN) ∧
    (s.rdb (F.SHT_LOOP_CTRL_AUTO_WIDTH m.val) = true) ∧ (20 < (s.lp m.val).winOut)) ∧ (fun t => t.rd (F.SHT_LOOP_STATUS_BW_NOW m.val) =
    max d.bwMin (min d.bwMax (s.rd (F.SHT_LOOP_STATUS_BW_NOW m.val) + 1)) % 16 ∧ (t.lp m.val).winN = 0 ∧ (t.lp m.val).winOut = 0) (after
    (.bwWindowEnd m) s)) (1) (loop1) ((stLoop.setLp 1 { stLoop.lp 1 with winN := 1024, winOut := 21 }).wrb (F.SHT_LOOP_CTRL_AUTO_WIDTH
    1) true) := by decide

theorem test_plausibilityAttribute : (fun (m : Fin 8) (c : Fin 4) (frame : Bool) (d : LoopDecl) (s : State) => ((s.loopDecl m.val =
    some d) ∧ ((s.lp m.val).attributing.contains c.val = true) ∧ (s.pair.formed = false)) ∧ (fun t => t.rd (F.SHT_LOOP_STATUS_ATTRIB
    m.val) = 4 ∧ t.rdb (F.SHT_LOOP_STATUS_PLS_FAULT m.val) = true ∧ (t.lp m.val).attributing = (s.lp m.val).attributing.filter (· !=
    c.val) ∧ (∀ h ∈ bitsBelow d.hbMask 12, (t.hb h).holders.contains .plausibility = true)) (after (.plausibilityAttribute m c frame)
    s)) (1) (0) (true) (loop1) (stLoop.setLp 1 { stLoop.lp 1 with attributing := [0] }) := by decide

theorem test_plsFaultClear : (fun (side : Side) (m : Fin 8) (d : LoopDecl) (s : State) => ((s.loopDecl m.val = some d) ∧ (s.inLull =
    false) ∧ (s.countsClear m.val = true) ∧ (s.rdb (F.SHT_LOOP_STATUS_PLS_FAULT m.val) = true)) ∧ (fun t => t.rdb
    (F.SHT_LOOP_STATUS_PLS_FAULT m.val) = false ∧ (∀ h ∈ bitsBelow d.hbMask 12, (t.hb h).holders.contains .plausibility = false)) (after
    (.plsFaultClear side m) s)) (0) (1) (loop1) (stLoop.wrb (F.SHT_LOOP_STATUS_PLS_FAULT 1) true) := by decide

theorem test_modeRequest : (fun (side : Side) (m : Fin 8) (req : BitVec 4) (d : LoopDecl) (s : State) => ((s.loopDecl m.val = some d)
    ∧ (s.inLull = false) ∧ (req ≠ 0) ∧ ((mapOf d req.toNat).isSome = true) ∧ (s.rdb (F.SHT_LOOP_MODE_HO_FAIL m.val) = false) ∧ ((s.lp
    m.val).stop = none) ∧ (s.nextMode m.val = 0)) ∧ (fun t => (t.lp m.val).req = some req.toNat ∧ (t.lp m.val).byHost = true ∧ (t.lp
    m.val).retry = none) (after (.modeRequest side 0x4D0E#16 m req) s)) (0) (1) (5) (loop1) (stLoop) := by decide

theorem test_modeRequest_2 : (fun (side : Side) (m : Fin 8) (req : BitVec 4) (d : LoopDecl) (s : State) => ((s.loopDecl m.val = some
    d) ∧ (s.inLull = false) ∧ (req ≠ 0) ∧ ((mapOf d req.toNat).isNone = true)) ∧ (fun t => t.hbi.refused = some eCommand ∧ t.sht =
    s.sht) (after (.modeRequest side 0x4D0E#16 m req) s)) (0) (1) (6) (loop1) (stLoop) := by decide

theorem test_modeRequest_3 : (fun (side : Side) (m : Fin 8) (d : LoopDecl) (s : State) => ((s.loopDecl m.val = some d) ∧ (s.inLull =
    false) ∧ (s.nowMode m.val ≠ mOff) ∧ ((s.lp m.val).stop = none)) ∧ (fun t => (t.lp m.val).stop.isSome = true ∧ t.rdb
    (F.SHT_LOOP_MODE_STOPPING m.val) = true ∧ (t.lp m.val).req = none) (after (.modeRequest side 0x4D0E#16 m 0) s)) (0) (1) (loop1)
    (stLoop) := by decide

theorem test_handoverRetry : (fun (m : Fin 8) (time : Nat) (target : Nat) (d : LoopDecl) (s : State) => ((s.loopDecl m.val = some d) ∧
    ((s.lp m.val).retry = some target) ∧ ((s.lp m.val).retryIn = 0) ∧ ((s.lp m.val).byHost = true)) ∧ (fun t => (t.lp m.val).req = some
    target ∧ (t.lp m.val).retry = none ∧ t.live = s.live) (after (.handoverRetry m time) s)) (1) (9) (5) (loop1) (stLoop.setLp 1
    { stLoop.lp 1 with retry := some 5, byHost := true }) := by decide

theorem test_stopRampEnd : (fun (m : Fin 8) (time : Nat) (b : Nat) (st : StopSt) (s : State) => (((s.lp m.val).stop = some st) ∧
    (st.began = some b) ∧ (b + s.rd (F.SHT_LOOP_STOP_TIME m.val) * 100000 ≤ time)) ∧ (fun t => (t.lp m.val).stop = some
    { st with ended := true } ∧ t.live = s.live) (after (.stopRampEnd m time) s)) (1) (9000000000) (4)
    ({ start := [], k := 4, n := 9, began := some 4 }) (stLoop.setLp 1
    { stLoop.lp 1 with stop := some { start := [], k := 4, n := 9, began := some 4 } }) := by decide

theorem test_hoFailClear : (fun (side : Side) (m : Fin 8) (s : State) => ((s.inLull = false)) ∧ (fun t => t.rdb
    (F.SHT_LOOP_MODE_HO_FAIL m.val) = false ∧ t.hbi.refused = none) (after (.hoFailClear side m) s)) (0) (1) (stLoop.wrb
    (F.SHT_LOOP_MODE_HO_FAIL 1) true) := by decide

theorem test_rcPhaseTimeout : (fun (e : Fin 32) (time : Nat) (s : State) => ((s.rcSource e.val < 2) ∧ ((s.rc e.val).locked = true) ∧
    ((s.rc e.val).lastEdge.getD 0 + 2000 * (s.rc e.val).period ≤ time)) ∧ (fun t => (t.rc e.val).locked = false ∧ (t.rc e.val).falling =
    ((s.rc e.val).fade != 0) ∧ t.rdb (F.SHT_RC_STATUS_LOCKED e.val) = false) (after (.rcPhaseTimeout e time) s)) (4) (9) ((stLoop.setRc
    4 { locked := true, fade := 9 }).wr (F.SHT_RC_CFG_SOURCE 4) 1) := by decide

theorem test_rcSpectralEval : (fun (e : Fin 32) (adc : Fin 16) (period : Nat) (tenthsDb : Int) (phase : BitVec 32) (time : Nat) (s :
    State) => ((s.rdb (F.SHT_RC_CFG_ENABLE e.val) = true) ∧ (s.rcSource e.val = 2) ∧ (s.rd (F.SHT_RC_SRC_SPEC_ADC e.val) = adc.val)) ∧
    (fun t => (t.rc e.val).t0 = time ∧ (t.rc e.val).phi0 = phase.toNat ∧ (t.rc e.val).period = period ∧ t.rd (F.SHT_RC_PERIOD_NOW e.val)
    = min period (2 ^ 32 - 1)) (after (.rcSpectralEval e adc period tenthsDb phase time) s)) (4) (0) (20000) (130) (77) (9) ((stLoop.wrb
    (F.SHT_RC_CFG_ENABLE 4) true).wr (F.SHT_RC_CFG_SOURCE 4) 2) := by decide

theorem test_rcFadeEnd : (fun (e : Fin 32) (s : State) => (((s.rc e.val).rising = true) ∧ ((s.rc e.val).fade = fadeOne)) ∧ (fun t =>
    (t.rc e.val).rising = false ∧ (t.rc e.val).accCount = 0 ∧ t.rdb (F.SHT_RC_STATUS_FADING e.val) = false) (after (.rcFadeEnd e) s))
    (4) (stLoop.setRc 4 { rising := true, fade := fadeOne }) := by decide

theorem test_rcPeriodFreezeEnd : (fun (e : Fin 32) (time : Nat) (s : State) => (((s.rc e.val).freezePeriod = true) ∧ ((s.rc
    e.val).freezeEnd ≤ time)) ∧ (fun t => (t.rc e.val).freezePeriod = false ∧ bit (t.rd (F.SHT_RC_STATUS_FREEZE e.val)) 5 = false)
    (after (.rcPeriodFreezeEnd e time) s)) (4) (9) (stLoop.setRc 4 { freezePeriod := true, freezeEnd := 9 }) := by decide

theorem test_rcClear : (fun (side : Side) (e : Fin 32) (s : State) => ((s.inLull = false)) ∧ (fun t => t.rc e.val =
    { s.rc e.val with clear := true } ∧ t.hbi.refused = none) (after (.rcClear side e) s)) (0) (4) (stLoop) := by decide

theorem test_counterReload : (fun (h : Fin 12) (err : Int) (codes : List (List (BitVec 16))) (s : State) => ((s.inLull = false)) ∧
    (fun t => t.rd (F.PWM_HB_COUNT_POSITION h.val) = 0 ∧ t.rdb (F.PWM_HB_STATUS_ALIGNED h.val) = (s.syncSource h.val == 2 && decide
    (err.natAbs ≤ 1)) ∧ (t.hb h.val).nextCmp = none) (after (.counterReload h err codes) s)) (1) (1) ([]) (stLoop.wr
    (F.PWM_HB_COUNT_POSITION 1) 9) := by decide

theorem test_pwmCommandChange : (fun (h : Fin 12) (pos : Nat) (s : State) => ((s.inLull = false)) ∧ (fun t => t.rd
    (F.PWM_HB_COUNT_POSITION h.val) = pos / 16 % 2 ^ 20) (after (.pwmCommandChange h pos) s)) (1) (160) (stLoop) := by decide

theorem test_pwmCommandChange_2 : (fun (h : Fin 12) (pos : Nat) (s : State) => ((s.inLull = false) ∧ (((16 * s.rd
    (F.PWM_HB_MIN_PULSE_MIN_PULSE h.val) : Nat) : Int) ≤ pos - (s.hb h.val).edgeAt) ∧ (((s.hb h.val).lengthFrom (commandAt (s.hb
    h.val).cmpOn (s.hb h.val).cmpOff pos) pos).any (· < 16 * s.rd (F.PWM_HB_MIN_PULSE_MIN_PULSE h.val)) = false)) ∧ (fun t => t.rdb
    (F.PWM_HB_STATUS_OUT h.val) = commandAt (s.hb h.val).cmpOn (s.hb h.val).cmpOff pos) (after (.pwmCommandChange h pos) s)) (1) (160)
    ((stDrive.setHb 1 { cmpOn := 160, cmpOff := 60000 })) := by decide

theorem test_pwmCommandChange_3 : (fun (h : Fin 12) (pos : Nat) (s : State) => ((s.inLull = false) ∧ (((s.hb h.val).lengthFrom
    (commandAt (s.hb h.val).cmpOn (s.hb h.val).cmpOff pos) pos).any (· < 16 * s.rd (F.PWM_HB_MIN_PULSE_MIN_PULSE h.val)) = true)) ∧ (fun
    t => t.rdb (F.PWM_HB_STATUS_OUT h.val) = s.rdb (F.PWM_HB_STATUS_OUT h.val)) (after (.pwmCommandChange h pos) s)) (1) (160)
    ((stDrive.setHb 1 { cmpOn := 160, cmpOff := 170 }).wr (F.PWM_HB_MIN_PULSE_MIN_PULSE 1) 4) := by decide

theorem test_deadTimeEnd : (fun (h : Fin 12) (interval : Nat) (s : State) => (((s.hb h.val).waiting = some .high) ∧ (64 ≤ interval)) ∧
    (fun t => t.chState (2 * h.val) = onSt ∧ (t.ch (2 * h.val)).edge = .on ∧ (t.hb h.val).waiting = none ∧ t.rd (F.GDI_HB_OMIT h.val) =
    s.rd (F.GDI_HB_OMIT h.val)) (after (.deadTimeEnd h interval) s)) (1) (64) (stDrive.setHb 1 { waiting := some .high }) := by decide

theorem test_deadTimeEnd_2 : (fun (h : Fin 12) (interval : Nat) (s : State) => (((s.hb h.val).waiting = some .low) ∧ (64 ≤ interval))
    ∧ (fun t => t.chState (2 * h.val + 1) = onSt ∧ (t.ch (2 * h.val + 1)).edge = .on ∧ (t.hb h.val).waiting = none) (after (.deadTimeEnd
    h interval) s)) (1) (64) (stDrive.setHb 1 { waiting := some .low }) := by decide

theorem test_deadTimeEnd_3 : (fun (h : Fin 12) (interval : Nat) (x : Device) (s : State) => (((s.hb h.val).waiting = some x) ∧
    (interval < 64)) ∧ (fun t => (t.hb h.val).waiting = none ∧ t.rd (F.GDI_HB_OMIT h.val) = min (s.rd (F.GDI_HB_OMIT h.val) + 1) (2 ^ 32
    - 1) ∧ t.gd.ch = s.gd.ch) (after (.deadTimeEnd h interval) s)) (1) (63) (.low) (stDrive.setHb 1 { waiting := some .low }) := by
    decide

theorem test_gateSegmentEnd : (fun (n : Fin 24) (byLevel : Bool) (s : State) => (((s.ch n.val).segmented = true) ∧ ((s.ch n.val).edge
    ≠ .none) ∧ (segHolds (s.ch n.val).segs (s.ch n.val).seg = false)) ∧ (fun t => (t.ch n.val).seg = (s.ch n.val).seg + 1 ∧ (t.ch
    n.val).segs = (s.ch n.val).segs ∧ (byLevel = false → (t.ch n.val).byLevel = (s.ch n.val).byLevel)) (after (.gateSegmentEnd n
    byLevel) s)) (2) (true) (stDrive.setCh 2 { segmented := true, edge := .on, segs := [0, 0, 0, 0] }) := by decide

theorem test_gateSegmentEnd_2 : (fun (n : Fin 24) (byLevel : Bool) (s : State) => (((s.ch n.val).segmented = true) ∧ ((s.ch
    n.val).edge = .on) ∧ (segHolds (s.ch n.val).segs (s.ch n.val).seg = false) ∧ (segHolds (s.ch n.val).segs ((s.ch n.val).seg + 1) =
    true)) ∧ (fun t => t.rd (F.GDI_CH_SEG_END_ON n.val) = (t.ch n.val).byLevel % 16) (after (.gateSegmentEnd n byLevel) s)) (2) (true)
    (stDrive.setCh 2 { segmented := true, edge := .on, segs := [2 ^ 30, 2 ^ 31, 0, 0] }) := by decide

theorem test_biasUndervoltage : (fun (n : Fin 24) (vdd : BitVec 16) (vee : BitVec 16) (time : Nat) (s : State) => ((s.rdb
    (F.GDI_CH_STATUS_LINK n.val) = true) ∧ (s.chLocked n.val = false) ∧ (vdd.toNat < s.vddFall n.val)) ∧ (fun t => (t.ch n.val).lockVdd
    = true ∧ t.rdb (F.GDI_CH_STATUS_UV_VDD n.val) = true ∧ t.rd (F.GDI_CH_UV_COUNT n.val) = min (s.rd (F.GDI_CH_UV_COUNT n.val) + 1) (2
    ^ 32 - 1) ∧ bit (t.rd F.GDI_UV_EVENT_CH) n.val = true ∧ (t.hb (n.val / 2)).holders.contains .lockout = true ∧ t.rd (F.GDI_CH_MON_VDD
    n.val) = vdd.toNat) (after (.biasUndervoltage n vdd vee time) s)) (2) (80) (0) (9) (stDrive) := by decide

theorem test_biasRelease : (fun (n : Fin 24) (vdd : BitVec 16) (vee : BitVec 16) (s : State) => ((s.rdb (F.GDI_CH_STATUS_LINK n.val) =
    true) ∧ (s.vddFall n.val + 8 ≤ vdd.toNat) ∧ (s.veeLimit n.val = none)) ∧ (fun t => (t.ch n.val).lockVdd = false ∧ (t.ch
    n.val).lockVee = false ∧ t.rdb (F.GDI_CH_STATUS_UV_VDD n.val) = false) (after (.biasRelease n vdd vee) s)) (2) (180) (0)
    ((stDrive.setCh 2 { lockVdd := true }).wr (F.GDI_CH_SUPPLY_VEE_UV 2) 0) := by decide

theorem test_biasRelease_2 : (fun (n : Fin 24) (vdd : BitVec 16) (vee : BitVec 16) (l : Int) (s : State) => ((s.rdb
    (F.GDI_CH_STATUS_LINK n.val) = true) ∧ (s.vddFall n.val + 8 ≤ vdd.toNat) ∧ (s.veeLimit n.val = some l) ∧ (signedOf 16 vee.toNat ≤ l
    - 3)) ∧ (fun t => (t.ch n.val).lockVdd = false ∧ (t.ch n.val).lockVee = false ∧ t.rdb (F.GDI_CH_STATUS_UV_VEE n.val) = false) (after
    (.biasRelease n vdd vee) s)) (2) (180) (65486) (-15) ((stDrive.setCh 2 { lockVdd := true, lockVee := true }).wr
    (F.GDI_CH_SUPPLY_VEE_UV 2) 1) := by decide

theorem test_enableOffHoldEnd : (fun (s : State) => (True) ∧ (fun t => (∀ n : Fin 24, s.rdb (F.GDI_CH_STATUS_ENABLE n.val) = false →
    (s.ch n.val).protHold = false → t.chState n.val = hizSt) ∧ (s.en = false → t.rd F.GDA_STATUS_DRIVE = 0) ∧ t.gd = s.gd) (after
    (.enableOffHoldEnd) s)) ((stLoop.wr (F.GDI_CH_STATUS_STATE 2) 1).wr F.GDA_STATUS_DRIVE 9) := by decide

theorem test_firstOnEdgePermitted : (fun (s : State) => ((s.en = true)) ∧ (fun t => t.gd.onPermitted = true ∧ (∀ n : Fin 24, (t.ch
    n.val).fresh = false)) (after (.firstOnEdgePermitted) s)) ({ stDrive with gd.onPermitted := false }) := by decide

theorem test_refreshLoss : (fun (n : Fin 24) (s : State) => ((s.rdb (F.GDI_CH_STATUS_LINK n.val) = true)) ∧ (fun t => t.rdb
    (F.GDI_CH_STATUS_LINK n.val) = false ∧ t.rdb (F.GDI_CH_STATUS_ENABLE n.val) = false ∧ bit (t.rd F.GDI_STATUS_DIE_OK) (n.val / 4) =
    false ∧ (s.chState n.val = onSt → (s.ch n.val).protHold = false → t.chState n.val = offSt)) (after (.refreshLoss n) s)) (2)
    (stDrive.wr (F.GDI_CH_STATUS_STATE 2) onSt) := by decide

theorem test_barrierRefreshResume : (fun (n : Fin 24) (vdd : BitVec 16) (vee : BitVec 16) (time : Nat) (s : State) => ((s.rdb
    (F.GDI_CH_STATUS_LINK n.val) = false)) ∧ (fun t => t.rdb (F.GDI_CH_STATUS_LINK n.val) = true ∧ t.rd (F.GDI_CH_MON_VDD n.val) =
    vdd.toNat ∧ t.rdb (F.GDI_CH_STATUS_UV_VDD n.val) = (s.ch n.val).lockVdd ∧ (s.en = true → s.ownsGates = true → t.rdb
    (F.GDI_CH_STATUS_ENABLE n.val) = true ∧ (t.ch n.val).fresh = true ∧ t.chState n.val ≠ hizSt)) (after (.barrierRefreshResume n vdd
    vee time) s)) (3) (180) (0) (9) (stDrive.wr (F.GDI_CH_STATUS_STATE 3) 0) := by decide

theorem test_auxDrvUndervoltage : (fun (s : State) => (True) ∧ (fun t => t.rdb F.GDA_STATUS_UV_DRV = true ∧ (∀ a : Fin 6, t.rdb
    (F.GDA_HB_STATUS_OUT a.val) = false) ∧ t.gd = s.gd) (after (.auxDrvUndervoltage) s)) (stDrive.wrb (F.GDA_HB_STATUS_OUT 2) true) :=
    by decide

theorem test_auxDrvRecover : (fun (s : State) => (True) ∧ (fun t => t.rdb F.GDA_STATUS_UV_DRV = false ∧ t.gd = s.gd) (after
    (.auxDrvRecover) s)) (stDrive.wrb F.GDA_STATUS_UV_DRV true) := by decide

theorem test_auxPeriodStart : (fun (a : Fin 6) (recovered : Bool) (s : State) => (True) ∧ (fun t => (t.aux a.val).periods = ((s.aux
    a.val).periods + 1) % 64 ∧ t.rd (F.GDA_HB_DUTY_NOW_DUTY a.val) = t.auxDuty a.val % 2 ^ 14 ∧ (s.en = false → t.rdb
    (F.GDA_HB_STATUS_OUT a.val) = false) ∧ ((s.aux a.val).bstWait = true → recovered = true → (t.aux a.val).bstWait = false ∧ t.rdb
    (F.GDA_HB_STATUS_CAPPED a.val) = true)) (after (.auxPeriodStart a recovered) s)) (2) (true) (stDrive.setAux 2
    { bstWait := true, periods := 63 }) := by decide

theorem test_bootstrapUndervoltage : (fun (a : Fin 6) (s : State) => (True) ∧ (fun t => t.rdb (F.GDA_HB_STATUS_BST_UV a.val) = true ∧
    t.rdb (F.GDA_HB_STATUS_OUT a.val) = false ∧ t.rd (F.GDA_HB_BST_UV_COUNT a.val) = min (s.rd (F.GDA_HB_BST_UV_COUNT a.val) + 1) (2 ^
    32 - 1) ∧ (t.aux a.val).bstWait = true) (after (.bootstrapUndervoltage a) s)) (2) (stDrive.wrb (F.GDA_HB_STATUS_OUT 2) true) := by
    decide

theorem test_desatTrip : (fun (n : Fin 24) (g : Fin 8) (time : Nat) (s : State) => ((s.active = true) ∧ (s.rdb (F.PRT_CH_DESAT_ENABLE
    n.val) = true) ∧ (s.chState n.val = onSt) ∧ (s.groupOf (n.val / 2) = some g.val) ∧ (s.gst g.val = gArmed)) ∧ (fun t => t.rdb
    (F.PRT_CH_STATUS_DESAT_LATCH n.val) = true ∧ t.chState n.val = softSt ∧ t.gst g.val = gTripped ∧ t.rd (F.PRT_GRP_STATE_CAUSE g.val)
    = 1 ∧ t.rd (F.PRT_GRP_STATE_LEGS g.val) = 2 ^ (n.val / 2) % 2 ^ 12 ∧ (t.grp g.val).t0 = time ∧ (t.grp g.val).short = true ∧ (t.grp
    g.val).collecting = true ∧ (∀ h ∈ s.groupHbs g.val, (t.hb h).holders.contains .protection = true)) (after (.desatTrip n true time)
    s)) (2) (1) (9) ((stDrive.wr (F.GDI_CH_STATUS_STATE 2) onSt).wrb (F.PRT_CH_DESAT_ENABLE 2) true) := by decide

theorem test_hardShortTrip : (fun (h : Fin 12) (g : Fin 8) (time : Nat) (s : State) => ((s.active = true) ∧ (s.rdb (F.PRT_HB_HS_ENABLE
    h.val) = true) ∧ (s.groupOf h.val = some g.val) ∧ (s.gst g.val = gArmed)) ∧ (fun t => t.rdb (F.PRT_HB_STATUS_HS_LATCH h.val) = true
    ∧ t.gst g.val = gTripped ∧ t.rd (F.PRT_GRP_STATE_CAUSE g.val) = 2 ∧ t.rd (F.PRT_GRP_STATE_LEGS g.val) = 2 ^ h.val % 2 ^ 12 ∧ (t.grp
    g.val).t0 = time ∧ (t.grp g.val).short = true ∧ (t.grp g.val).collecting = true ∧ (∀ h ∈ s.groupHbs g.val, (t.hb h).holders.contains
    .protection = true)) (after (.hardShortTrip h true time) s)) (1) (1) (9) (stDrive.wrb (F.PRT_HB_HS_ENABLE 1) true) := by decide

theorem test_hardShortTrip_2 : (fun (h : Fin 12) (g : Fin 8) (time : Nat) (s : State) => ((s.active = false) ∧ (s.rdb
    (F.PRT_HB_HS_ENABLE h.val) = true) ∧ (s.groupOf h.val = some g.val) ∧ (s.gst g.val = gArmed)) ∧ (fun t => t.rdb
    (F.PRT_HB_STATUS_HS_LATCH h.val) = true ∧ bit t.prt.standbyLegs h.val = true ∧ t.gst g.val = gArmed ∧ t.gd = s.gd) (after
    (.hardShortTrip h true time) s)) (1) (1) (9) ((stDrive.wrb (F.PRT_HB_HS_ENABLE 1) true).wr F.PAIR_STATUS_STATE psCold) := by decide

theorem test_phaseCurrentTrip : (fun (a : Fin 16) (g : Fin 8) (time : Nat) (s : State) => ((s.active = true) ∧ (s.rdb
    (F.PRT_ADC_CFG_ENABLE a.val) = true) ∧ (s.rdb (F.PRT_ADC_CFG_ACTION a.val) = false) ∧ (s.groupOf (s.rd (F.PRT_ADC_CFG_HB a.val)) =
    some g.val) ∧ (s.gst g.val = gArmed)) ∧ (fun t => t.rdb (F.PRT_ADC_CFG_LATCH a.val) = true ∧ t.gst g.val = gTripped ∧ t.rd
    (F.PRT_GRP_STATE_CAUSE g.val) = 3 ∧ t.rd (F.PRT_GRP_STATE_LEGS g.val) = 2 ^ s.rd (F.PRT_ADC_CFG_HB a.val) % 2 ^ 12 ∧ (t.grp
    g.val).t0 = time ∧ (t.grp g.val).short = true ∧ (t.grp g.val).collecting = true ∧ (∀ h ∈ s.groupHbs g.val, (t.hb h).holders.contains
    .protection = true)) (after (.phaseCurrentTrip a true time) s)) (2) (1) (9) (((stDrive.wrb (F.PRT_ADC_CFG_ENABLE 2) true).wr
    (F.PRT_ADC_CFG_HB 2) 1).wrb (F.PRT_ADC_CFG_ACTION 2) false) := by decide

theorem test_phaseCurrentTrip_2 : (fun (a : Fin 16) (g : Fin 8) (time : Nat) (s : State) => ((s.active = true) ∧ (s.rdb
    (F.PRT_ADC_CFG_ENABLE a.val) = true) ∧ (s.rdb (F.PRT_ADC_CFG_ACTION a.val) = true) ∧ (s.groupOf (s.rd (F.PRT_ADC_CFG_HB a.val)) =
    some g.val) ∧ (s.gst g.val = gArmed)) ∧ (fun t => t.rdb (F.PRT_ADC_CFG_LATCH a.val) = true ∧ t.gst g.val = gTripped ∧ t.rd
    (F.PRT_GRP_STATE_CAUSE g.val) = 4 ∧ t.rd (F.PRT_GRP_STATE_LEGS g.val) = 2 ^ s.rd (F.PRT_ADC_CFG_HB a.val) % 2 ^ 12 ∧ (t.grp
    g.val).t0 = time ∧ (t.grp g.val).short = false ∧ (t.grp g.val).collecting = true ∧ (∀ h ∈ s.groupHbs g.val, (t.hb
    h).holders.contains .protection = true)) (after (.phaseCurrentTrip a true time) s)) (2) (1) (9) (((stDrive.wrb (F.PRT_ADC_CFG_ENABLE
    2) true).wr (F.PRT_ADC_CFG_HB 2) 1).wrb (F.PRT_ADC_CFG_ACTION 2) true) := by decide

theorem test_gateVoltageTrip : (fun (n : Fin 24) (g : Fin 8) (time : Nat) (s : State) => ((s.active = true) ∧ (s.rdb
    (F.PRT_CH_GATE_ENABLE n.val) = true) ∧ (s.chState n.val = onSt) ∧ (s.groupOf (n.val / 2) = some g.val) ∧ (s.gst g.val = gArmed)) ∧
    (fun t => t.rdb (F.PRT_CH_STATUS_GV_LATCH n.val) = true ∧ t.gst g.val = gTripped ∧ t.rd (F.PRT_GRP_STATE_CAUSE g.val) = 5 ∧ t.rd
    (F.PRT_GRP_STATE_LEGS g.val) = 2 ^ (n.val / 2) % 2 ^ 12 ∧ (t.grp g.val).t0 = time ∧ (t.grp g.val).short = true ∧ (t.grp
    g.val).collecting = true ∧ (∀ h ∈ s.groupHbs g.val, (t.hb h).holders.contains .protection = true)) (after (.gateVoltageTrip n true
    time) s)) (2) (1) (9) ((stDrive.wr (F.GDI_CH_STATUS_STATE 2) onSt).wrb (F.PRT_CH_GATE_ENABLE 2) true) := by decide

theorem test_gateVoltageTrip_2 : (fun (n : Fin 24) (g : Fin 8) (time : Nat) (s : State) => ((s.active = true) ∧ (s.rdb
    (F.PRT_CH_GATE_ENABLE n.val) = true) ∧ (s.chState n.val = offSt) ∧ (s.groupOf (n.val / 2) = some g.val) ∧ (s.gst g.val = gArmed)) ∧
    (fun t => t.rdb (F.PRT_CH_STATUS_GV_LATCH n.val) = true ∧ t.gst g.val = gTripped ∧ t.rd (F.PRT_GRP_STATE_CAUSE g.val) = 6 ∧ t.rd
    (F.PRT_GRP_STATE_LEGS g.val) = 2 ^ (n.val / 2) % 2 ^ 12 ∧ (t.grp g.val).t0 = time ∧ (t.grp g.val).short = false ∧ (t.grp
    g.val).collecting = true ∧ (∀ h ∈ s.groupHbs g.val, (t.hb h).holders.contains .protection = true)) (after (.gateVoltageTrip n true
    time) s)) (2) (1) (9) ((stDrive.wr (F.GDI_CH_STATUS_STATE 2) offSt).wrb (F.PRT_CH_GATE_ENABLE 2) true) := by decide

theorem test_softOffEnd : (fun (n : Fin 24) (byTime : Bool) (s : State) => ((s.chState n.val = softSt)) ∧ (fun t => t.chState n.val =
    offSt ∧ (t.ch n.val).protHold = (s.ch n.val).protHold ∧ (byTime = true → t.rdb (F.PRT_CH_STATUS_SOFT_TIMEOUT n.val) = true)) (after
    (.softOffEnd n byTime) s)) (2) (true) (stDrive.wr (F.GDI_CH_STATUS_STATE 2) softSt) := by decide

theorem test_tripCollectionEnd : (fun (g : Fin 8) (time : Nat) (kept : List Nat) (s : State) => ((s.gst g.val = gTripped) ∧ ((s.grp
    g.val).collecting = true) ∧ ((s.grp g.val).t0 + 2000 ≤ time) ∧ ((s.groupChs g.val).all (fun n => s.chState n != softSt) = true) ∧ (∀
    k < 8, (s.grp k).doubt = false) ∧ ((s.grp g.val).explained = true) ∧ ((s.grp g.val).short = false) ∧ (s.rdb (F.PRT_GRP_CFG_RETRY
    g.val) = true) ∧ (kept = (s.grp g.val).history.filter (fun e => (s.grp g.val).t0 ≤ e + 60000000000)) ∧ (kept.length < 3)) ∧ (fun t
    => t.gst g.val = gWait ∧ t.rd (F.PRT_GRP_STATE_TRIES g.val) = kept.length + 1 ∧ t.rd (F.PRT_GRP_TRIPS g.val) = min (s.rd
    (F.PRT_GRP_TRIPS g.val) + 1) (2 ^ 32 - 1) ∧ (t.grp g.val).history = kept ++ [(s.grp g.val).t0] ∧ (kept = [] → (t.grp g.val).waitEnd
    = time + 10000000 ∧ t.rd (F.PRT_GRP_WAIT_LEFT g.val) = 10)) (after (.tripCollectionEnd g time) s)) (1) (5000) ([]) (stTrip) := by
    decide

theorem test_tripCollectionEnd_2 : (fun (g : Fin 8) (time : Nat) (s : State) => ((s.gst g.val = gTripped) ∧ ((s.grp g.val).collecting
    = true) ∧ ((s.grp g.val).t0 + 2000 ≤ time) ∧ ((s.groupChs g.val).all (fun n => s.chState n != softSt) = true) ∧ (∀ k < 8, (s.grp
    k).doubt = false) ∧ ((s.grp g.val).explained = true) ∧ ((s.grp g.val).short = true) ∧ (2 ≤ legCount (s.rd (F.PRT_GRP_STATE_LEGS
    g.val)))) ∧ (fun t => t.gst g.val = gLockout ∧ t.rdb (F.PRT_GRP_STATE_MULTI g.val) = true ∧ (∀ h ∈ s.groupHbs g.val, SMap.get (fun _
    => none) t.prt.records h = some (s.rd (F.PRT_GRP_STATE_CAUSE g.val), true))) (after (.tripCollectionEnd g time) s)) (1) (5000)
    ((stTrip.setGrp 1 { collecting := true, short := true }).wr (F.PRT_GRP_STATE_LEGS 1) 6) := by decide

theorem test_tripCollectionEnd_3 : (fun (g : Fin 8) (time : Nat) (s : State) => (s.gst g.val = gTripped) ∧ ((s.grp g.val).collecting =
    true) ∧ ((s.grp g.val).t0 + 2000 ≤ time) ∧ ((s.groupChs g.val).all (fun n => s.chState n != softSt) = true) ∧ ((s.grp
    g.val).explained = false) ∧ (s.rd (F.PRT_GRP_STATE_CAUSE g.val) = 1) ∧ ((s.grp g.val).t0 + 5000 ≤ time) ∧ (s.bar.withdrawing =
    none)) (1) (5000) ((stTrip.setGrp 1 { collecting := true, explained := false }).wr (F.PRT_GRP_STATE_CAUSE 1) 1) := by decide

theorem test_tripCollectionEnd_4 : (fun (g : Fin 8) (time : Nat) (s : State) => ((s.gst g.val = gTripped) ∧ ((s.grp g.val).collecting
    = true) ∧ ((s.grp g.val).t0 + 2000 ≤ time) ∧ ((s.groupChs g.val).all (fun n => s.chState n != softSt) = true) ∧ (∀ k < 8, (s.grp
    k).doubt = false) ∧ ((s.grp g.val).explained = false) ∧ (s.rd (F.PRT_GRP_STATE_CAUSE g.val) = 1) ∧ (time < (s.grp g.val).t0 + 5000))
    ∧ (fun t => (t.grp g.val).doubt = true ∧ (t.grp g.val).collecting = false ∧ t.gst g.val ≠ gTripped) (after (.tripCollectionEnd g
    time) s)) (1) (2000) ((stTrip.setGrp 1 { collecting := true, explained := false }).wr (F.PRT_GRP_STATE_CAUSE 1) 1) := by decide

theorem test_prtWaitEnd : (fun (g : Fin 8) (time : Nat) (s : State) => ((s.active = true) ∧ (s.gst g.val = gWait) ∧ ((s.grp
    g.val).waitEnd ≤ time)) ∧ (fun t => t.gst g.val = gCheck ∧ (t.grp g.val).checkAt = time ∧ t.rd (F.PRT_GRP_WAIT_LEFT g.val) = 0)
    (after (.prtWaitEnd g time) s)) (1) (9) (stDrive.wr (F.PRT_GRP_STATE_STATE 1) gWait) := by decide

theorem test_prtRelease : (fun (g : Fin 8) (s : State) => ((s.active = true) ∧ (s.gst g.val = gCheck) ∧ (s.releaseCheck g.val true =
    true)) ∧ (fun t => t.gst g.val = gArmed ∧ t.rd (F.PRT_GRP_WAIT_LEFT g.val) = 0 ∧ (∀ h ∈ s.groupHbs g.val, (t.hb h).holders.contains
    .protection = false)) (after (.prtRelease g) s)) (1) (stDrive.wr (F.PRT_GRP_STATE_STATE 1) gCheck) := by decide

theorem test_prtReleaseTimeout : (fun (g : Fin 8) (time : Nat) (s : State) => ((s.active = true) ∧ (s.gst g.val = gCheck) ∧ ((s.grp
    g.val).checkAt + 1000000000 ≤ time)) ∧ (fun t => t.gst g.val = gLockout ∧ t.rd (F.PRT_GRP_STATE_CAUSE g.val) = 9 ∧ t.rdb
    (F.PRT_GRP_STATE_MULTI g.val) = false) (after (.prtReleaseTimeout g time) s)) (1) (1000000000) (stDrive.wr (F.PRT_GRP_STATE_STATE 1)
    gCheck) := by decide

theorem test_prtReset : (fun (side : Side) (groups : BitVec 8) (s : State) => ((s.inLull = false) ∧ (s.maint side.val = true) ∧
    ((s.lockedGroups groups.toNat).all (fun g => s.releaseCheck g false) = true)) ∧ (fun t => ∀ g ∈ s.lockedGroups groups.toNat, t.gst g
    = gArmed ∧ t.rd (F.PRT_GRP_STATE_TRIES g) = 0) (after (.prtReset side 0x9C31#16 groups) s)) (0) (2) (stLock) := by decide

theorem test_prtReset_2 : (fun (side : Side) (groups : BitVec 8) (s : State) => ((s.inLull = false) ∧ (s.maint side.val = false)) ∧
    (fun t => t.hbi.refused = some eCredential ∧ t.prt = s.prt) (after (.prtReset side 0x9C31#16 groups) s)) (1) (2) (stLock) := by
    decide

theorem test_pairItemPrtReset : (fun (groups : BitVec 8) (s : State) => (((s.lockedGroups groups.toNat).all (fun g => s.releaseCheck g
    false) = true)) ∧ (fun t => ∀ g ∈ s.lockedGroups groups.toNat, t.gst g = gArmed ∧ t.rd (F.PRT_GRP_STATE_TRIES g) = 0) (after
    (.pairItemPrtReset groups) s)) (2) (stLock) := by decide

theorem test_prtTest : (fun (side : Side) (groups : BitVec 8) (s : State) => ((s.inLull = false) ∧ ((s.namedGroups groups.toNat).all
    s.mayTest = true)) ∧ (fun t => ∀ g ∈ s.namedGroups groups.toNat, s.groupHbs g ≠ [] → t.gst g = gTest ∧ (s.gst g ≠ gTest → t.rdb
    (F.PRT_GRP_TEST_DONE g) = false ∧ (t.grp g).testFrom = s.gst g)) (after (.prtTest side 0x9C31#16 groups) s)) (0) (2) (stLock) := by
    decide

theorem test_prtTest_2 : (fun (side : Side) (groups : BitVec 8) (s : State) => ((s.inLull = false) ∧ ((s.namedGroups groups.toNat).all
    s.mayTest = false)) ∧ (fun t => t.hbi.refused = some eState ∧ t.prt = s.prt) (after (.prtTest side 0x9C31#16 groups) s)) (0) (2)
    (stTrip) := by decide

theorem test_prtTestAbort : (fun (side : Side) (groups : BitVec 8) (s : State) => ((s.inLull = false)) ∧ (fun t => ∀ g ∈ s.namedGroups
    groups.toNat, s.gst g = gTest → t.rdb (F.PRT_GRP_TEST_DONE g) = true ∧ (t.grp g).testItems = []) (after (.prtTestAbort side
    0x9C31#16 groups) s)) (0) (2) ((stDrive.wr (F.PRT_GRP_STATE_STATE 1) gTest).setGrp 1
    { testItems := [(1, 2)], testFrom := gLockout }) := by decide

theorem test_prtTestItemDone : (fun (g : Fin 8) (kind : Nat) (item : Nat) (rest : List (Nat × Nat)) (s : State) => ((s.gst g.val =
    gTest) ∧ ((s.grp g.val).testItems = (kind, item) :: rest) ∧ (rest ≠ [])) ∧ (fun t => t.gst g.val = gTest ∧ (t.grp g.val).testItems =
    rest ∧ t.rd (F.PRT_GRP_STATE_CAUSE g.val) = s.rd (F.PRT_GRP_STATE_CAUSE g.val)) (after (.prtTestItemDone g 1) s)) (1) (1) (2)
    ([(1, 3)]) ((stDrive.wr (F.PRT_GRP_STATE_STATE 1) gTest).setGrp 1 { testItems := [(1, 2), (1, 3)] }) := by decide

theorem test_prtTestItemDone_2 : (fun (g : Fin 8) (kind : Nat) (item : Nat) (s : State) => ((s.gst g.val = gTest) ∧ ((s.grp
    g.val).testItems = [(kind, item)]) ∧ ((s.grp g.val).testFrom < 8)) ∧ (fun t => t.gst g.val = (s.grp g.val).testFrom ∧ (t.grp
    g.val).testItems = [] ∧ t.rdb (F.PRT_GRP_TEST_DONE g.val) = true) (after (.prtTestItemDone g 1) s)) (1) (1) (2) ((stDrive.wr
    (F.PRT_GRP_STATE_STATE 1) gTest).setGrp 1 { testItems := [(1, 2)], testFrom := gLockout }) := by decide

theorem test_prtTestItemDone_3 : (fun (g : Fin 8) (code : Fin 7) (kind : Nat) (item : Nat) (rest : List (Nat × Nat)) (s : State) =>
    ((s.gst g.val = gTest) ∧ ((s.grp g.val).testItems = (kind, item) :: rest) ∧ (rest ≠ []) ∧ (2 ≤ code.val) ∧ (code ≠ 6)) ∧ (fun t =>
    t.gst g.val = gTest ∧ (t.grp g.val).testItems = rest ∧ (t.grp g.val).testFrom = gLockout ∧ t.rd (F.PRT_GRP_STATE_CAUSE g.val) = 8)
    (after (.prtTestItemDone g code) s)) (1) (3) (1) (2) ([(1, 3)]) ((stDrive.wr (F.PRT_GRP_STATE_STATE 1) gTest).setGrp 1
    { testItems := [(1, 2), (1, 3)] }) := by decide

theorem test_hkRoundStart : (fun (l : Fin 2) (s : State) => ((s.role.cool[l.val]?).isSome = true) ∧ (s.inLull = false)) (0) (stCool)
    := by decide

theorem test_ffHoldEnd : (fun (l : Fin 2) (q : Nat) (s : State) => (((s.cool l.val).holdMax = some q)) ∧ (fun t => (t.cool l.val).qff
    = q ∧ (t.cool l.val).holdMax = none ∧ t.rdb (F.TH_LOOP_STATUS_HOLDING l.val) = false) (after (.ffHoldEnd l) s)) (0) (9)
    (stCool.setCool 0 { holdMax := some 9 }) := by decide

theorem test_flowFaultTimeout : (fun (l : Fin 2) (s : State) => (((s.role.cool[l.val]?).isSome = true) ∧ (2000 ≤ s.rd
    (F.TH_LOOP_STATUS_DUTY l.val)) ∧ (2 * s.rd (F.TH_LOOP_STATE_Q l.val) < s.rd (F.TH_LOOP_STATE_Q_DEM l.val))) ∧ (fun t => t.rdb
    (F.TH_LOOP_STATUS_FLOW_LOW l.val) = true ∧ t.rdb F.TH_EVENT_FLOW_LOW = true ∧ t.th = s.th) (after (.flowFaultTimeout l false) s))
    (0) ((stCool.wr (F.TH_LOOP_STATUS_DUTY 0) 2000).wr (F.TH_LOOP_STATE_Q_DEM 0) 5) := by decide

theorem test_flowFaultTimeout_2 : (fun (l : Fin 2) (d : CoolDecl) (s : State) => ((s.role.cool[l.val]? = some d) ∧ (d.flowSrc = 1) ∧
    (2000 ≤ s.rd (F.TH_LOOP_STATUS_DUTY l.val))) ∧ (fun t => (t.cool l.val).unreadable = true ∧ t.rd (F.TH_LOOP_STATE_Q l.val) = 0 ∧
    t.rdb (F.TH_LOOP_STATUS_FLOW_LOW l.val) = true) (after (.flowFaultTimeout l true) s)) (0) ({ pumpHb := 2, flowSrc := 1 })
    (({ stCool with pat.content.roles := [{ instance_ := 34, kind := .outlet, rowCol := 1, cool := [{ pumpHb := 2, flowSrc := 1 }] }] }
    : State).wr (F.TH_LOOP_STATUS_DUTY 0) 2000) := by decide

theorem test_observerStep : (fun (iSq : Nat) (s : State) => (s.kind = .outlet)) (9) (stCool) := by decide

theorem test_observerStep_2 : (fun (iSq : Nat) (valid : Bool) (s : State) => (s.kind = .outlet)) (9) (true) (stCool) := by decide

theorem test_observerStep_3 : (fun (iSq : Nat) (s : State) => (s.kind = .outlet) ∧ (s.th.started = true)) (9)
    ({ stCool with th.started := true }) := by decide

theorem test_thermalRestart : (fun (s : State) => (s.rdb F.TH_STATUS_SHUTDOWN = true)) (stCool.wrb F.TH_STATUS_SHUTDOWN true) := by
    decide

theorem test_safetyEvaluation : (fun (readbacks : BitVec 24) (partnerDrive : BitVec 24) (s : State) => (s.inLull = false)) (5) (0)
    (stLoop) := by decide

theorem test_safetyInputChange : (fun (k : Fin 4) (chB : Bool) (closed : Bool) (held : Nat) (s : State) => ((s.inLull = false) ∧
    (s.rdb (F.SAF_IN_CFG_ENABLE k.val) = true) ∧ (s.rd (F.SAF_IN_CFG_FILTER k.val) ≤ held)) ∧ (fun t => t.safeIn k.val = (if chB then
    { s.safeIn k.val with b := closed, firstB := true } else { s.safeIn k.val with a := closed, firstA := true }) ∧ t.rdb
    (F.SAF_IN_STATUS_A k.val) = (t.safeIn k.val).a ∧ t.rdb (F.SAF_IN_STATUS_DEMANDING k.val) = t.inDemands k.val) (after
    (.safetyInputChange k chB closed held) s)) (1) (false) (true) (500) (stCool.wrb (F.SAF_IN_CFG_ENABLE 1) true) := by decide

theorem test_safetyDiscrepancy : (fun (k : Fin 4) (ms : Nat) (s : State) => ((s.inLull = false) ∧ (s.inDisagrees k.val = true) ∧
    (s.rdb (F.SAF_IN_CFG_ENABLE k.val) = true) ∧ (s.rd (F.SAF_IN_CFG_DISC k.val) < ms) ∧ (s.saf.record = none)) ∧ (fun t => t.saf.record
    = some (1, k.val) ∧ t.rdb F.SAF_STATUS_LOCKOUT = true ∧ t.saf.sfo = [false, false] ∧ t.rd F.SAF_LOCKOUTS = min (s.rd F.SAF_LOCKOUTS
    + 1) (2 ^ 32 - 1)) (after (.safetyDiscrepancy k ms) s)) (1) (5000) (((stCool.wrb (F.SAF_IN_CFG_ENABLE 1) true).wrb
    (F.SAF_IN_CFG_MODE 1) false).setSafeIn 1 { a := true, firstA := true, firstB := true }) := by decide

theorem test_safetyFrameReceive : (fun (src : Nat) (cycle : Nat) (frame : SafetyFrame) (j : Nat) (s : State) => ((s.inLull = false) ∧
    (s.trg.key.isSome = true) ∧ (1 ≤ src) ∧ (src ≤ 96) ∧ (src ≠ s.addr) ∧ (slotSeen s.trg.safeSeen src cycle = false) ∧ (s.connFor 2
    frame.connId = some j) ∧ (frameCrcOk frame = true) ∧ (frame.wdMs = s.rd (F.SAF_CONN_STATUS_WD_MS j)) ∧ (s.rd
    (F.SAF_CONN_STATUS_STATE j) = 1) ∧ (1 ≤ (frame.seq + 65536 - s.rd (F.SAF_CONN_STATUS_SEQ j)) % 65536) ∧ ((frame.seq + 65536 - s.rd
    (F.SAF_CONN_STATUS_SEQ j)) % 65536 ≤ 64)) ∧ (fun t => (t.conn j).inbox = some frame ∧ t.rd (F.SAF_CONN_STATUS_SEQ j) = frame.seq %
    65536 ∧ t.rd (F.SAF_CONN_ERR j) = s.rd (F.SAF_CONN_ERR j)) (after (.safetyFrameReceive src cycle frame true) s)) (4) (7) (sfNext)
    (2) (stConn) := by decide

theorem test_safetyFrameReceive_2 : (fun (src : Nat) (cycle : Nat) (frame : SafetyFrame) (j : Nat) (s : State) => ((s.inLull = false)
    ∧ (s.trg.key.isSome = true) ∧ (1 ≤ src) ∧ (src ≤ 96) ∧ (src ≠ s.addr) ∧ (slotSeen s.trg.safeSeen src cycle = false) ∧ (s.connFor 2
    frame.connId = some j) ∧ (frameCrcOk frame = false)) ∧ (fun t => t.rd (F.SAF_CONN_ERR j) = min (s.rd (F.SAF_CONN_ERR j) + 1) (2 ^ 32
    - 1) ∧ (t.conn j).inbox = (s.conn j).inbox) (after (.safetyFrameReceive src cycle frame true) s)) (4) (7)
    ({ sfNext with pState := 9 }) (2) (stConn) := by decide

theorem test_safetyWatchdogExpiry : (fun (j : Fin 16) (s : State) => ((s.inLull = false) ∧ (s.rd (F.SAF_CONN_STATUS_STATE j.val) = 1)
    ∧ (s.rd (F.SAF_CONN_CFG_KIND j.val) ≠ 3)) ∧ (fun t => t.rd (F.SAF_CONN_STATUS_STATE j.val) = 2 ∧ (t.conn j.val).latch = (s.conn
    j.val).latch ||| (s.rd (F.SAF_CONN_CFG_ON_EXPIRY j.val) &&& s.funcMask) ∧ (t.conn j.val).inbox = none ∧ t.saf.record.isSome = true)
    (after (.safetyWatchdogExpiry j) s)) (2) (stConn) := by decide

theorem test_safetyWatchdogExpiry_2 : (fun (j : Fin 16) (s : State) => ((s.inLull = false) ∧ (s.rd (F.SAF_CONN_STATUS_STATE j.val) =
    1) ∧ (s.rd (F.SAF_CONN_CFG_KIND j.val) = 3)) ∧ (fun t => t.rd (F.SAF_CONN_STATUS_STATE j.val) = 2 ∧ t.rdb
    F.SAF_STATUS_PARTNER_ABSENT = true ∧ t.saf.record = s.saf.record) (after (.safetyWatchdogExpiry j) s)) (2) (stConn.wr
    (F.SAF_CONN_CFG_KIND 2) 3) := by decide

theorem test_offPulseStart : (fun (i : Fin 24) (time : Nat) (s : State) => ((s.active = true) ∧ (s.outDriven i.val = true) ∧
    (s.sys.earlyWarning = false) ∧ (time % 500000000 = i.val * 20000000) ∧ (s.rd64 F.PAIR_LAST_TIME_LO + 1000000 ≤ time)) ∧ (fun t =>
    t.saf.pulsing = i.val :: s.saf.pulsing ∧ t.rdb (F.SAF_OUT_STATUS_DRIVEN i.val) = false) (after (.offPulseStart i time) s)) (0)
    (500000000) (stCool) := by decide

theorem test_offPulseEnd : (fun (i : Fin 24) (c : Nat) (s : State) => ((s.saf.pulsing.contains i.val = true) ∧ (s.outCode i.val = some
    c) ∧ (s.drives c = true)) ∧ (fun t => t.rdb (F.SAF_OUT_STATUS_PASSED i.val) = true ∧ t.saf.pulsing.contains i.val = false ∧
    t.saf.record = s.saf.record) (after (.offPulseEnd i true true) s)) (0) (0) ({ stCool with saf.pulsing := [0] }) := by decide

theorem test_offPulseEnd_2 : (fun (i : Fin 24) (onOk : Bool) (c : Nat) (s : State) => ((s.saf.pulsing.contains i.val = true) ∧
    (s.outCode i.val = some c) ∧ (s.drives c = true) ∧ (s.saf.record = none)) ∧ (fun t => t.rdb (F.SAF_OUT_STATUS_PASSED i.val) = false
    ∧ t.saf.record = some (2, i.val)) (after (.offPulseEnd i false onOk) s)) (0) (true) (0) ({ stCool with saf.pulsing := [0] }) := by
    decide

theorem test_readbackStuck : (fun (i : Fin 24) (s : State) => ((s.active = true) ∧ ((s.outCode i.val).isSome = true) ∧
    (s.saf.pulsing.contains i.val = false) ∧ (s.rdb (F.SAF_OUT_STATUS_READBACK i.val) = !s.outDriven i.val) ∧ (s.saf.record = none)) ∧
    (fun t => t.saf.record = some (if s.outDriven i.val then 3 else 2, i.val) ∧ t.saf.sfo = [false, false] ∧ t.rdb F.SAF_STATUS_LOCKOUT
    = true) (after (.readbackStuck i) s)) (0) (stCool) := by decide

theorem test_safReset : (fun (side : Side) (s : State) => ((s.inLull = false) ∧ (s.safety side.val = true) ∧ (s.causePersists =
    false)) ∧ (fun t => t.saf.record = none ∧ t.saf.resetCount = (s.saf.resetCount + 1) % 256 ∧ t.saf.partnerCause = (if s.rdb
    F.SAF_STATUS_PARTNER_ABSENT then 0 else s.saf.partnerCause) ∧ t.rdb F.SAF_STATUS_LOCKOUT = (t.saf.partnerCause != 0)) (after
    (.safReset side 0x71D4#16) s)) (0) (({ stCool with saf.record := some (1, 1) } : State).wrb (F.HBI_CRED_STATUS_SAFETY_OPEN.bank 0)
    true) := by decide

theorem test_safReset_2 : (fun (side : Side) (s : State) => ((s.inLull = false) ∧ (s.safety side.val = false)) ∧ (fun t =>
    t.hbi.refused = some eCredential ∧ t.saf = s.saf) (after (.safReset side 0x71D4#16) s)) (0)
    ({ stCool with saf.record := some (1, 1) }) := by decide

theorem test_safClearDemand : (fun (side : Side) (s : State) => ((s.inLull = false) ∧ (side = 0 ∨ (SMap.get (fun _ => ({} : ShoreSt))
    s.trg.shore side.val).operate = true)) ∧ (fun t => t.saf.ownLatch = s.saf.ownLatch &&& s.requested ∧ t.saf.record = s.saf.record)
    (after (.safClearDemand side 0x71D4#16) s)) (0) ({ stCool with saf.ownLatch := 5 }) := by decide

theorem test_safClearDemand_2 : (fun (side : Side) (s : State) => ((s.inLull = false) ∧ (side ≠ 0) ∧ ((SMap.get (fun _ => ({} :
    ShoreSt)) s.trg.shore side.val).operate = false)) ∧ (fun t => t.hbi.refused = some eCredential ∧ t.saf = s.saf) (after
    (.safClearDemand side 0x71D4#16) s)) (2) ({ stCool with saf.ownLatch := 5 }) := by decide

theorem test_safSetPw : (fun (side : Side) (s : State) => (s.inLull = false) ∧ (s.rdb F.SAF_STATUS_PW_SET = false) ∧ (s.maint side.val
    = true)) (0) (((stCool.wrb (F.HBI_CRED_STATUS_MAINT_OPEN.bank 0) true).wr (F.SAF_PW_BUF 3) 99)) := by decide

theorem test_safSetPw_2 : (fun (side : Side) (s : State) => ((s.inLull = false) ∧ (s.rdb F.SAF_STATUS_PW_SET = true) ∧ (s.safety
    side.val = false)) ∧ (fun t => t.hbi.refused = some eCredential ∧ t.saf = s.saf) (after (.safSetPw side 0x71D4#16) s)) (0)
    (stCool.wrb F.SAF_STATUS_PW_SET true) := by decide

theorem test_paramCrcCheck : (fun (s : State) => ((s.inLull = false) ∧ (s.saf.record = none)) ∧ (fun t => t.saf.record = some (6, 0) ∧
    t.rdb F.SAF_STATUS_LOCKOUT = true ∧ t.saf.sfo = [false, false]) (after (.paramCrcCheck true) s)) (stCool) := by decide

theorem test_connectorStateChange : (fun (cs : Fin 4) (s : State) => ((s.kind = .outlet)) ∧ (fun t => t.rd F.VLK_STATUS_CS = cs.val)
    (after (.connectorStateChange cs) s)) (2) (stVeh) := by decide

theorem test_connectorStateChange_2 : (fun (cs : Fin 4) (s : State) => ((s.kind = .outlet) ∧ (s.active = true) ∧ (s.rd F.VLK_STATUS_CS
    = csUnplugged) ∧ (cs.val ≠ csUnplugged) ∧ (s.vst = vIdle) ∧ (s.contactorsClosed = false)) ∧ (fun t => t.vst = vPlugged ∧ t.barGet 7
    = min (s.barGet 7 + 1) (2 ^ 32 - 1)) (after (.connectorStateChange cs) s)) (1) ((stVst vIdle).wr F.VLK_STATUS_CS csUnplugged) := by
    decide

theorem test_connectorStateChange_3 : (fun (cs : Fin 4) (s : State) => ((s.kind = .outlet) ∧ (s.active = true) ∧ (s.rd F.VLK_STATUS_CS
    = csReady) ∧ (cs.val ≠ csReady) ∧ (s.contactorsClosed = true) ∧ (s.vlk.esd = false) ∧ (s.vst ≠ vIdle) ∧ (s.vst ≠ vFinished)) ∧ (fun
    t => t.vlk.esd = true ∧ t.vst = vFault ∧ bit t.saf.raised 0 = true) (after (.connectorStateChange cs) s)) (1)
    (({ stVst vCharge with vlk.soPos := true } : State).wr F.VLK_STATUS_CS csReady) := by decide

theorem test_v2gSessionSetup : (fun (protocol : Fin 4) (control : Fin 4) (bpt : Bool) (s : State) => (s.vlinkUp = true) ∧ (s.vst =
    vPlugged) ∧ (s.protocolOn protocol.val = true) ∧ (s.serviceOn protocol.val control.val bpt = true) ∧ (s.startRefused = false) ∧
    (s.vlk.session = false)) (1) (1) (false) (({ stVst vPlugged with vlk.session := false } : State).wrb F.VLK_CFG_EN_20 true |>.wrb
    F.VLK_CFG_SCHED_EN true) := by decide

theorem test_v2gSessionSetup_2 : (fun (protocol : Fin 4) (control : Fin 4) (bpt : Bool) (s : State) => ((s.vlinkUp = true) ∧ (s.vst =
    vPlugged) ∧ (s.protocolOn protocol.val = true) ∧ (s.serviceOn protocol.val control.val bpt = true) ∧ (s.startRefused = true)) ∧ (fun
    t => t.vlk.answer.map (fun a => (a.kind, a.body.take 1)) = some (1, [aRefused]) ∧ t.vlk.session = s.vlk.session ∧ t.rd F.VLK_REFUSED
    = min (s.rd F.VLK_REFUSED + 1) (2 ^ 32 - 1)) (after (.v2gSessionSetup protocol control bpt) s)) (1) (1) (false)
    ((({ stVst vPlugged with vlk.session := false } : State).wrb F.VLK_CFG_EN_20 true |>.wrb F.VLK_CFG_SCHED_EN true).wrb
    F.VLK_STATUS_LOCKOUT true) := by decide

theorem test_v2gAuthorization : (fun (emaid : List Nat) (chainOk : Bool) (root : List Nat) (s : State) => ((s.vlinkUp = true) ∧ (s.vst
    = vPlugged) ∧ (s.vlk.session = true) ∧ (s.rd F.VLK_STATUS_AUTH = 0) ∧ (s.rdb F.VLK_CFG_AUTO_AUTH = true)) ∧ (fun t => t.rd
    F.VLK_STATUS_AUTH = 2 ∧ t.vlk.answer.map (fun a => (a.kind, a.body.take 1)) = some (2, [aDone]) ∧ t.rd (F.VLK_EMAID 0) = wordAt
    (padTo 20 emaid) 0 % 2 ^ 32) (after (.v2gAuthorization emaid false chainOk root) s)) ([65]) (false) ([]) (stVeh.wrb
    F.VLK_CFG_AUTO_AUTH true) := by decide

theorem test_v2gAuthorization_2 : (fun (emaid : List Nat) (chainOk : Bool) (root : List Nat) (s : State) => ((s.vlinkUp = true) ∧
    (s.vst = vPlugged) ∧ (s.vlk.session = true) ∧ (s.rd F.VLK_STATUS_AUTH = 0) ∧ (s.rdb F.VLK_CFG_AUTO_AUTH = false)) ∧ (fun t => t.rd
    F.VLK_STATUS_AUTH = 1 ∧ t.vlk.answer.map (fun a => (a.kind, a.body.take 1)) = some (2, [aOngoing])) (after (.v2gAuthorization emaid
    false chainOk root) s)) ([65]) (false) ([]) (stVeh) := by decide

theorem test_v2gAuthorization_3 : (fun (emaid : List Nat) (root : List Nat) (s : State) => ((s.vlinkUp = true) ∧ (s.vst = vPlugged) ∧
    (s.vlk.session = true) ∧ (s.rd F.VLK_STATUS_AUTH = 0)) ∧ (fun t => t.rd F.VLK_STATUS_AUTH = 3 ∧ t.vlk.answer.map (fun a => (a.kind,
    a.body.take 1)) = some (2, [aRefused])) (after (.v2gAuthorization emaid true false root) s)) ([65]) ([]) (stVeh) := by decide

theorem test_v2gCableCheck : (fun (evVmax : BitVec 16) (s : State) => ((s.vlinkUp = true) ∧ (s.vst = vPlugged) ∧ (s.vlk.session =
    true) ∧ (s.rd F.VLK_STATUS_AUTH = 2) ∧ (s.vlk.marked = true ∨ (s.refusals.any id = false ∧ (s.q 1).length + 8 ≤ s.depth 1))) ∧ (fun
    t => t.vst = vCableCheck ∧ t.vlk.ccStep = 0 ∧ t.vlk.marked = true ∧ t.vlk.vReq = min evVmax.toNat s.role.vRated ∧ t.rd
    F.VLK_EV_MAX_A_V_MAX = evVmax.toNat ∧ t.vlk.answer.map (fun a => (a.kind, a.body.take 1)) = some (3, [aOngoing])) (after
    (.v2gCableCheck evVmax) s)) (9000) (stVeh.wr F.VLK_STATUS_AUTH 2) := by decide

theorem test_v2gPreCharge : (fun (vTgt : BitVec 16) (s : State) => ((s.vlinkUp = true) ∧ (s.vst = vCableCheck) ∧ (s.vlk.ccStep = 4)) ∧
    (fun t => t.vst = vPreCharge ∧ t.rd F.VLK_EV_TARGET_V_TGT = vTgt.toNat ∧ t.vlk.vReq = vTgt.toNat) (after (.v2gPreCharge vTgt) s))
    (4000) ({ stVst vCableCheck with vlk.ccStep := 4 }) := by decide

theorem test_v2gPowerDeliveryStart : (fun (s : State) => ((s.vlinkUp = true) ∧ (s.vst = vPreCharge)) ∧ (fun t => t.vst = vCharge ∧
    t.vlk.vReq = s.rd F.VLK_EV_MAX_A_V_MAX ∧ t.vlk.answer.map (fun a => (a.kind, a.body.take 1)) = some (5, [aDone])) (after
    (.v2gPowerDeliveryStart) s)) (stVst vPreCharge) := by decide

theorem test_v2gChargeLoop : (fun (iTgt : Int) (iMax : BitVec 16) (iDis : BitVec 16) (vMax : BitVec 16) (vTgt : BitVec 16) (pMax :
    BitVec 16) (discharge : Bool) (depart : BitVec 16) (energy : BitVec 16) (s : State) => ((s.vlinkUp = true) ∧ (s.vlk.session = true)
    ∧ (s.vst ≠ vIdle)) ∧ (fun t => t.rd F.VLK_EV_MAX_A_V_MAX = vMax.toNat ∧ t.rd F.VLK_OFFER_I_OFFER = min s.offer.1 (2 ^ 16 - 1) ∧
    (s.rd F.VLK_STATUS_CONTROL ≠ 2 → discharge = false → 0 ≤ iTgt → t.vlk.iReq = iTgt) ∧ t.vst = s.vst) (after (.v2gChargeLoop iTgt iMax
    iDis vMax vTgt pMax discharge depart energy) s)) (500) (5000) (0) (9000) (8000) (300) (false) (0) (0) (stVst vCharge) := by decide

theorem test_v2gStopRequest : (fun (vehOpen : Bool) (s : State) => ((s.vlinkUp = true) ∧ (vPlugged ≤ s.vst) ∧ (s.vst ≤ vCharge)) ∧
    (fun t => t.vst = vStopping ∧ t.vlk.vehOpen = vehOpen ∧ t.vlk.stopAt = s.now ∧ t.vlk.answer.map (fun a => (a.kind, a.body.take 1)) =
    some (7, [aDone])) (after (.v2gStopRequest vehOpen) s)) (true) (stVst vCharge) := by decide

theorem test_v2gEmergencyStop : (fun (s : State) => ((s.vlinkUp = true) ∧ (s.vst ≠ vIdle) ∧ (s.vst ≠ vFinished) ∧ (s.vlk.esd = false))
    ∧ (fun t => t.vlk.esd = true ∧ t.vst = vFault ∧ bit t.saf.raised 0 = true) (after (.v2gEmergencyStop) s)) (stVst vCharge) := by
    decide

theorem test_vlkAuthGrant : (fun (side : Side) (s : State) => ((s.inLull = false) ∧ (s.rd F.VLK_STATUS_AUTH = 1)) ∧ (fun t => t.rd
    F.VLK_STATUS_AUTH = 2 ∧ t.vst = s.vst) (after (.vlkAuthGrant side 0x5E21#16) s)) (0) (stVeh.wr F.VLK_STATUS_AUTH 1) := by decide

theorem test_vlkAuthDeny : (fun (side : Side) (s : State) => ((s.inLull = false) ∧ (s.rd F.VLK_STATUS_AUTH = 1)) ∧ (fun t => t.rd
    F.VLK_STATUS_AUTH = 3 ∧ t.vst = s.vst) (after (.vlkAuthDeny side 0x5E21#16) s)) (0) (stVeh.wr F.VLK_STATUS_AUTH 1) := by decide

theorem test_authWaitTimeout : (fun (s : State) => ((s.rd F.VLK_STATUS_AUTH = 1)) ∧ (fun t => t.rd F.VLK_STATUS_AUTH = 3 ∧
    t.vlk.answer.map (fun a => (a.kind, a.body.take 1)) = some (2, [aRefused])) (after (.authWaitTimeout) s)) (stVeh.wr
    F.VLK_STATUS_AUTH 1) := by decide

theorem test_vlkStop : (fun (side : Side) (s : State) => ((s.inLull = false) ∧ (vPlugged ≤ s.vst) ∧ (s.vst ≤ vCharge)) ∧ (fun t =>
    t.vst = vStopping ∧ t.vlk.stopByPre = false ∧ t.vlk.soPos = s.vlk.soPos) (after (.vlkStop side 0x5E21#16) s)) (0) (stVst vCharge) :=
    by decide

theorem test_vlkResetLockout : (fun (side : Side) (s : State) => ((s.inLull = false) ∧ (s.maint side.val = true)) ∧ (fun t => t.rdb
    F.VLK_STATUS_LOCKOUT = false) (after (.vlkResetLockout side 0x5E21#16) s)) (0) ((stVeh.wrb F.VLK_STATUS_LOCKOUT true).wrb
    (F.HBI_CRED_STATUS_MAINT_OPEN.bank 0) true) := by decide

theorem test_vlkResetLockout_2 : (fun (side : Side) (s : State) => ((s.inLull = false) ∧ (s.maint side.val = false)) ∧ (fun t =>
    t.hbi.refused = some eCredential ∧ t.rd F.VLK_STATUS_LOCKOUT = s.rd F.VLK_STATUS_LOCKOUT) (after (.vlkResetLockout side 0x5E21#16)
    s)) (0) (stVeh.wrb F.VLK_STATUS_LOCKOUT true) := by decide

theorem test_vlkEsd : (fun (side : Side) (s : State) => ((s.inLull = false) ∧ (s.kind = .outlet) ∧ (s.active = true) ∧ (s.vlk.esd =
    false) ∧ (s.vst ≠ vIdle) ∧ (s.vst ≠ vFinished)) ∧ (fun t => t.vlk.esd = true ∧ t.vst = vFault) (after (.vlkEsd side 0x5E21#16) s))
    (0) (stVst vCharge) := by decide

theorem test_outletContactorClose : (fun (s : State) => ((s.kind = .outlet) ∧ (s.active = true) ∧ (s.vst = vCableCheck) ∧
    (s.vlk.ccStep = 0) ∧ (s.planValid = true) ∧ (s.vlk.auxPos = false) ∧ (s.vlk.auxNeg = false) ∧ (s.busV.natAbs ≤ 60 * 4096) ∧ ((s.mean
    2).natAbs ≤ 60 * 4096) ∧ (s.zeroI = true)) ∧ (fun t => t.vlk.soPos = true ∧ t.vlk.soNeg = true ∧ t.vlk.ccStep = 1) (after
    (.outletContactorClose true) s)) ({ stVst vCableCheck with mrk.outlet := some { planned := true }, mrk.leaseMs := 5 }) := by decide

theorem test_outletAuxClosed : (fun (s : State) => ((s.vst = vCableCheck) ∧ (s.vlk.ccStep = 1)) ∧ (fun t => t.vlk.auxPos = true ∧
    t.vlk.auxNeg = true ∧ t.vlk.ccStep = 2 ∧ t.vlk.vRef = (rneInt (s.busV * 10000) 4096).toNat) (after (.outletAuxClosed) s))
    ({ stVst vCableCheck with vlk.ccStep := 1 }) := by decide

theorem test_outletAuxCloseTimeout : (fun (s : State) => ((s.vst = vCableCheck) ∧ (s.vlk.ccStep = 1)) ∧ (fun t => t.vst = vFault ∧
    t.vlk.soPos = false ∧ t.vlk.soNeg = false) (after (.outletAuxCloseTimeout) s))
    ({ stVst vCableCheck with vlk.ccStep := 1, vlk.soPos := true }) := by decide

theorem test_cableCheckSettled : (fun (s : State) => ((s.vst = vCableCheck) ∧ (s.vlk.ccStep = 2)) ∧ (fun t => t.vlk.ccStep = 3 ∧ t.rdb
    F.VLK_IMD_STATUS_INJECTING = s.active) (after (.cableCheckSettled) s)) ({ stVst vCableCheck with vlk.ccStep := 2 }) := by decide

theorem test_cableCheckTimeout : (fun (s : State) => ((s.vst = vCableCheck) ∧ (s.vlk.ccStep ≠ 4)) ∧ (fun t => t.vst = vFault ∧
    t.vlk.session = s.vlk.session) (after (.cableCheckTimeout) s)) ({ stVst vCableCheck with vlk.ccStep := 3 }) := by decide

theorem test_imdHalfPeriod : (fun (avg : Int) (move : Nat) (vPos : Int) (vNeg : Int) (s : State) => ((s.kind = .outlet) ∧
    (s.contactorsClosed = true ∨ s.active = false) ∧ (s.vlk.half = none)) ∧ (fun t => t.vlk.half = some (avg, move) ∧ t.rd
    F.VLK_IMD_R_TOTAL = s.rd F.VLK_IMD_R_TOTAL ∧ (s.active = true → t.bil.sent = some
    { kind := 9, body := [1, if s.met.phase then 0 else 1] })) (after (.imdHalfPeriod avg move vPos vNeg) s)) (500) (3) (7) (8)
    ({ stVst vCharge with vlk.soPos := true }) := by decide

theorem test_imdHalfPeriod_2 : (fun (avg : Int) (move : Nat) (vPos : Int) (vNeg : Int) (a : Int) (m : Nat) (s : State) => ((s.kind =
    .outlet) ∧ (s.contactorsClosed = true ∨ s.active = false) ∧ (s.vlk.half = some (a, m)) ∧ (100 * max m move < (a - avg).natAbs)) ∧
    (fun t => t.vlk.half = none ∧ t.rdb F.VLK_IMD_STATUS_VALID = true ∧ t.rd F.VLK_IMD_R_TOTAL = rTotalOf (a - avg).natAbs ∧
    t.vlk.validAt = some s.ledger ∧ t.imdAge = 0) (after (.imdHalfPeriod avg move vPos vNeg) s)) (500) (3) (7) (8) (30000) (4)
    ({ stVst vCharge with vlk.soPos := true, vlk.half := some (30000, 4) }) := by decide

theorem test_preChargeTimeout : (fun (s : State) => ((s.vst = vPreCharge)) ∧ (fun t => t.vst = vStopping ∧ t.vlk.stopByPre = true)
    (after (.preChargeTimeout) s)) (stVst vPreCharge) := by decide

theorem test_validPlanLapse : (fun (s : State) => ((s.kind = .outlet) ∧ (s.active = true) ∧ (s.planValid = false) ∧ (s.vst = vCharge))
    ∧ (fun t => t.vst = vStopping ∧ t.vlk.stopAt = s.now) (after (.validPlanLapse) s)) (stVst vCharge) := by decide

theorem test_validPlanLapse_2 : (fun (s : State) => ((s.kind = .outlet) ∧ (s.active = true) ∧ (s.planValid = false) ∧ (s.vst =
    vCableCheck)) ∧ (fun t => t.vst = vFault) (after (.validPlanLapse) s)) (stVst vCableCheck) := by decide

theorem test_vehicleLinkTick : (fun (s : State) => (s.inLull = false)) ({ stVeh with hbi.tackParts := [(11, 0)] }) := by decide

theorem test_stopContactorOpen : (fun (s : State) => ((s.zeroI = true) ∧ ((s.vst = vStopping ∧ (s.vlk.vehOpen = true ∨ s.vlk.stopWait
    = true)) ∨ s.vst = vFault)) ∧ (fun t => t.vlk.soPos = false ∧ t.vlk.soNeg = false ∧ t.vlk.half = none ∧ (s.vlk.auxPos = false →
    s.vlk.auxNeg = false → t.vlk.soDsc = true)) (after (.stopContactorOpen) s))
    ({ stVst vStopping with vlk.soPos := true, vlk.vehOpen := true }) := by decide

theorem test_stopWaitExpiry : (fun (s : State) => (s.vst = vStopping)) (stVst vStopping) := by decide

theorem test_outletAuxOpen : (fun (s : State) => ((s.contactorsClosed = false) ∧ (s.vst = vStopping)) ∧ (fun t => t.vlk.auxPos = false
    ∧ t.vlk.auxNeg = false ∧ t.vlk.soDsc = true) (after (.outletAuxOpen) s)) ({ stVst vStopping with vlk.auxPos := true }) := by decide

theorem test_dischargeComplete : (fun (s : State) => (s.vlk.soDsc = true) ∧ (s.vehicleDead = true))
    ({ stVst vStopping with vlk.soDsc := true }) := by decide

theorem test_dischargeTimeout : (fun (s : State) => ((s.vlk.soDsc = true) ∧ (s.vehicleDead = false)) ∧ (fun t => t.rdb
    F.VLK_WELD_VEHICLE_LIVE = true ∧ t.vst = vFault ∧ t.vlk = s.vlk) (after (.dischargeTimeout) s))
    ({ stVst vStopping with vlk.soDsc := true, met.pub.means := [0, 0, 1000000] }) := by decide

theorem test_weldCheck : (fun (s : State) => ((s.vlk.weldDue = true) ∧ (s.contactorsClosed = false) ∧ (100 * 4096 ≤ s.busV) ∧
    (s.poleWelded 4 6 = false) ∧ (s.poleWelded 5 7 = false) ∧ (s.vst = vStopping) ∧ (s.vlk.stopByPre = false) ∧ (s.rd F.VLK_STATUS_CS ≠
    csUnplugged)) ∧ (fun t => t.rd F.VLK_WELD_RESULT = 1 ∧ t.vst = vFinished ∧ t.vlk.weldDue = false) (after (.weldCheck) s))
    ({ stVst vStopping with vlk.weldDue := true, met.pub.means := [0, 0, 0, 0, 1000000, -1000000] }) := by decide

theorem test_weldCheck_2 : (fun (s : State) => ((s.vlk.weldDue = true) ∧ (s.contactorsClosed = false) ∧ (100 * 4096 ≤ s.busV) ∧
    (s.poleWelded 4 6 = true ∨ s.poleWelded 5 7 = true)) ∧ (fun t => t.rd F.VLK_WELD_RESULT = 2 ∧ t.rdb F.VLK_WELD_POS_WELD =
    s.poleWelded 4 6 ∧ t.rdb F.VLK_STATUS_LOCKOUT = true) (after (.weldCheck) s))
    ({ stVst vStopping with vlk.weldDue := true, met.pub.means := [0, 0, 0, 0, 1000000, -1000000, 1000000] }) := by decide

theorem test_weldCheck_3 : (fun (s : State) => ((s.vlk.weldDue = true) ∧ (s.contactorsClosed = false) ∧ (s.busV < 100 * 4096)) ∧ (fun
    t => t.rd F.VLK_WELD_RESULT = 3 ∧ t.rd F.VLK_STATUS_LOCKOUT = s.rd F.VLK_STATUS_LOCKOUT) (after (.weldCheck) s))
    ({ stVst vStopping with vlk.weldDue := true }) := by decide

theorem test_esdOpenDeadline : (fun (s : State) => ((s.vlk.esd = true) ∧ (s.contactorsClosed = true)) ∧ (fun t => t.vlk.soPos = false
    ∧ t.vlk.soNeg = false ∧ t.vst = s.vst) (after (.esdOpenDeadline) s)) ({ stVst vFault with vlk.esd := true, vlk.soNeg := true }) :=
    by decide

theorem test_outletAuxOpenTimeout : (fun (s : State) => ((s.contactorsClosed = false) ∧ (s.vlk.auxPos = true)) ∧ (fun t => t.rd
    F.VLK_WELD_RESULT = 2 ∧ t.rdb F.VLK_WELD_AUX_FAIL = true ∧ t.rdb F.VLK_STATUS_LOCKOUT = true ∧ t.vst = vFault ∧ bit t.saf.raised 5 =
    true) (after (.outletAuxOpenTimeout) s)) ({ stVst vStopping with vlk.auxPos := true }) := by decide

theorem test_ledgerTick : (fun (codes : List Int) (rtc : Nat) (s : State) => ((s.met.booking = true)) ∧ (fun t => t.met.tot.ledger =
    s.met.tot.ledger + 1 ∧ t.met.pub.seq = (s.met.tot.ledger + 1) % 2 ^ 32 ∧ t.met.pub.means = ((List.range 8).map fun c => rneInt
    ((channelTick s.selBytes codes s.met.last c).1.foldl (· + ·) 0) 4) ∧ t.met.pub.power = rneInt (powerSum (channelTick s.selBytes
    codes s.met.last 0).1 (channelTick s.selBytes codes s.met.last 2).1) (2 ^ 26)) (after (.ledgerTick codes rtc) s)) ([]) (9) (stMet)
    := by decide

theorem test_ledgerTick_2 : (fun (codes : List Int) (rtc : Nat) (de : Int) (s : State) => (s.met.booking = true) ∧ (s.bil.isSite =
    false) ∧ (s.selBytes ≠ []) ∧ (de = rneInt (powerSum (channelTick s.selBytes codes s.met.last 0).1 (channelTick s.selBytes codes
    s.met.last 2).1) (2 ^ 13)) ∧ (creepOf s.selBytes ≤ de.natAbs)) ([]) (9) (0)
    ({ stMet with pat.sealed := [(34, [1])], bil.inst := 34 }) := by decide

theorem test_ledgerTick_3 : (fun (codes : List Int) (rtc : Nat) (s : State) => ((s.met.booking = false)) ∧ (fun t => t.met = s.met ∧
    t.bil = s.bil) (after (.ledgerTick codes rtc) s)) ([]) (9) (stOutletAct) := by decide

theorem test_periodicSave : (fun (s : State) => ((s.met.booking = true) ∧ (s.met.tot.ledger % 8000 = 0) ∧ (s.met.tot.ledger ≠ 0)) ∧
    (fun t => t.met.saveSeq = s.met.saveSeq + 1 ∧ SMap.get (fun _ => none) t.met.saves ((s.met.saveSeq + 1) % 2) = some
    { seq := s.met.saveSeq + 1, earlyWarning := false, tot := s.met.tot, rtc := s.rtc, records := [] }) (after (.periodicSave) s))
    ({ stMet with met.tot := { ledger := 16000 } }) := by decide

theorem test_checkPairCount : (fun (s : State) => ((8000 ≤ s.met.disagree.getD 0 0)) ∧ (fun t => t.met.chkState.getD 0 false = true ∧
    (s.met.tot.sess.isOpen = true → t.met.tot.sess.checkFail = true)) (after (.checkPairCount) s))
    ({ stMet with met.disagree := [8000, 0], met.tot.sess.isOpen := true }) := by decide

theorem test_meterCrossCheck : (fun (iOuts : List Int) (s : State) => ((s.rdb F.MET_XCHK_CFG_ENABLE = true) ∧ (s.kind = .outlet) ∧
    (s.crossDisagrees iOuts = true) ∧ (9 ≤ s.met.xBad) ∧ (s.rdb F.MET_STATUS_XCHK = false)) ∧ (fun t => t.rdb F.MET_STATUS_XCHK = true ∧
    t.rdb F.MET_EVENT_XCHK = true ∧ t.bil.sent = some { kind := 7, body := [1] }) (after (.meterCrossCheck iOuts false) s)) ([5000])
    (({ stMet with met.xBad := 9 } : State).wrb F.MET_XCHK_CFG_ENABLE true) := by decide

theorem test_meterCrossCheck_2 : (fun (iOuts : List Int) (s : State) => ((s.rdb F.MET_XCHK_CFG_ENABLE = true) ∧ (s.kind = .outlet) ∧
    (s.crossDisagrees iOuts = false)) ∧ (fun t => t.met.xBad = 0 ∧ t.met.xGood = min 10 (s.met.xGood + 1)) (after (.meterCrossCheck
    iOuts false) s)) ([]) (({ stMet with met.xBad := 9 } : State).wrb F.MET_XCHK_CFG_ENABLE true) := by decide

theorem test_meterResume : (fun (ticks : Nat) (s : State) => ((s.met.running = true) ∧ (s.met.booking = false) ∧ (s.rdb
    F.TH_STATUS_SHUTDOWN = false)) ∧ (fun t => t.met.booking = true ∧ t.met.tot.ledger = s.met.tot.ledger + ticks ∧ t.met.gapTicks =
    ticks ∧ t.met.tot.int.gap = true) (after (.meterResume ticks) s)) (7) ({ stMet with met.booking := false }) := by decide

theorem test_partnerValuesSend : (fun (s : State) => (s.kind = .outlet) ∧ (s.hasPartner = true))
    ({ stMet with pair.partnerAddr := 27 }) := by decide

theorem test_standsTimeout : (fun (s : State) => (s.met.tot.sess.closeLedger + 800 ≤ s.met.tot.ledger) ∧ (s.met.tot.sess.awaiting =
    true)) ({ stMet with met.tot := { ledger := 900, sess := { awaiting := true } } }) := by decide

theorem test_mirrorRefresh : (fun (s : State) => (True) ∧ (fun t => t.rd64 F.MET_E_IMP_ALL_LO = s.met.tot.impAll / 65536 % 2 ^ 64 ∧
    t.rd64 F.BIL_LEDGER_LO = s.met.tot.ledger % 2 ^ 64 ∧ t.rd F.BIL_STATUS_CLOCK = s.met.tot.clock % 4 ∧ t.rdb F.MET_STATUS_METERING =
    s.met.booking ∧ t.met = s.met ∧ t.bil = s.bil) (after (.mirrorRefresh) s)) (stMet) := by decide

theorem test_pulseInputEdge : (fun (i : Fin 8) (level : Bool) (time : Nat) (held : Nat) (s : State) => ((s.inLull = false) ∧ (s.rd
    (F.MET_PI_CFG_DEBOUNCE i.val) ≤ held) ∧ (level ≠ s.rdb (F.MET_PI_STATUS_LEVEL i.val)) ∧ (level ≠ s.rdb (F.MET_PI_CFG_EDGE i.val))) ∧
    (fun t => t.rdb (F.MET_PI_STATUS_LEVEL i.val) = level ∧ t.rd64 (F.MET_PI_COUNT_LO i.val) = (s.rd64 (F.MET_PI_COUNT_LO i.val) + 1) %
    2 ^ 64 ∧ t.rd64 (F.MET_PI_EDGE_TIME_LO i.val) = time % 2 ^ 64) (after (.pulseInputEdge i level time held) s)) (2) (true) (77)
    (90000) (stMet) := by decide

theorem test_pulseInputEdge_2 : (fun (i : Fin 8) (level : Bool) (time : Nat) (held : Nat) (s : State) => ((s.inLull = false) ∧ (held <
    s.rd (F.MET_PI_CFG_DEBOUNCE i.val))) ∧ (fun t => t.rd (F.MET_PI_GLITCH i.val) = min (s.rd (F.MET_PI_GLITCH i.val) + 1) (2 ^ 32 - 1)
    ∧ t.rdb (F.MET_PI_STATUS_LEVEL i.val) = s.rdb (F.MET_PI_STATUS_LEVEL i.val)) (after (.pulseInputEdge i level time held) s)) (2)
    (true) (77) (0) (stMet.wr (F.MET_PI_CFG_DEBOUNCE 2) 5) := by decide

theorem test_pulseOutputUpdate : (fun (k : Fin 4) (b : Bool) (s : State) => ((s.poLevel k.val = some b)) ∧ (fun t => t.rdb
    (F.MET_PO_STATUS_OUT k.val) = (b && s.poDrives k.val) ∧ t.met = s.met) (after (.pulseOutputUpdate k) s)) (1) (false) (stMet.wr
    (F.MET_PO_CFG_QUANTITY 1) 9) := by decide

theorem test_pulseOutputUpdate_2 : (fun (k : Fin 4) (c : Rat) (s : State) => ((s.rd (F.MET_PO_CFG_QUANTITY k.val) ∈
    [1, 2, 3, 4, 5, 6, 8])) ∧ ((SMap.get (fun _ => ({} : PoSt)) s.met.po k.val).counted = some (s.rd (F.MET_PO_CFG_QUANTITY k.val), c))
    ∧ (c ≤ s.poQuantity k.val)) (1) (0) (({ stMet with met.tot.impAll := 655360000000, met.po := [(1, { counted := some (1, 0) })] } :
    State).wr (F.MET_PO_CFG_QUANTITY 1) 1 |>.wr (F.MET_PO_WEIGHT 1) 2) := by decide

theorem test_pulseOutputUpdate_3 : (fun (k : Fin 4) (s : State) => ((s.rd (F.MET_PO_CFG_QUANTITY k.val) ∈ [1, 2, 3, 4, 5, 6, 8])) ∧
    ((SMap.get (fun _ => ({} : PoSt)) s.met.po k.val).counted = none)) (1) (({ stMet with met.tot.impAll := 655360000000 } : State).wr
    (F.MET_PO_CFG_QUANTITY 1) 1 |>.wr (F.MET_PO_WEIGHT 1) 2) := by decide

theorem test_pulseOutputWidthEnd : (fun (k : Fin 4) (s : State) => (((SMap.get (fun _ => ({} : PoSt)) s.met.po k.val).active = true))
    ∧ (fun t => (SMap.get (fun _ => ({} : PoSt)) t.met.po k.val).active = false ∧ (SMap.get (fun _ => ({} : PoSt)) t.met.po k.val).gap =
    true ∧ t.rdb (F.MET_PO_STATUS_OUT k.val) = false) (after (.pulseOutputWidthEnd k) s)) (1)
    ({ stMet with met.po := [(1, { active := true })] }) := by decide

theorem test_pulseOutputWidthEnd_2 : (fun (k : Fin 4) (s : State) => (((SMap.get (fun _ => ({} : PoSt)) s.met.po k.val).active =
    false) ∧ ((SMap.get (fun _ => ({} : PoSt)) s.met.po k.val).gap = true)) ∧ (fun t => (SMap.get (fun _ => ({} : PoSt)) t.met.po
    k.val).gap = false) (after (.pulseOutputWidthEnd k) s)) (1) ({ stMet with met.po := [(1, { gap := true })] }) := by decide

theorem test_mbxOffer : (fun (seq : Nat) (inst : Nat) (bytes : List Nat) (held : List Nat) (s : State) => ((s.met.running = true) ∧
    (seq = (s.bil.lastSeq + 1) % 65536) ∧ (s.pat.sealed.find? (·.1 == inst) = some (inst, held))) ∧ (fun t => t.bil.lastSeq = seq ∧
    (t.bil.offerDiffers.contains inst = !(held.take bytes.length == bytes)) ∧ t.pat.sealed = s.pat.sealed) (after (.mbxOffer seq true
    inst 0 bytes) s)) (1) (34) ([7]) ([7, 8]) ({ stMet with pat.sealed := [(34, [7, 8])], bil.offerDiffers := [34] }) := by decide

theorem test_mbxOffer_2 : (fun (seq : Nat) (inst : Nat) (offset : Nat) (bytes : List Nat) (held : List Nat) (s : State) =>
    ((s.met.running = true) ∧ (seq = (s.bil.lastSeq + 1) % 65536) ∧ (s.pat.sealed.find? (·.1 == inst) = some (inst, held)) ∧ ((held.drop
    offset).take bytes.length ≠ bytes)) ∧ (fun t => t.bil.lastSeq = seq ∧ t.bil.offerDiffers.contains inst = true ∧ t.pat.sealed =
    s.pat.sealed) (after (.mbxOffer seq true inst offset bytes) s)) (1) (34) (1) ([7]) ([7, 8])
    ({ stMet with pat.sealed := [(34, [7, 8])] }) := by decide

theorem test_mbxOffer_3 : (fun (seq : Nat) (inst : Nat) (offset : Nat) (bytes : List Nat) (s : State) => ((s.met.running = true)) ∧
    (fun t => t.bil = s.bil ∧ t.rd F.BIL_MBX_REFUSED = min (s.rd F.BIL_MBX_REFUSED + 1) (2 ^ 32 - 1)) (after (.mbxOffer seq false inst
    offset bytes) s)) (1) (34) (0) ([7]) (stMet) := by decide

theorem test_mbxSeal : (fun (seq : Nat) (s : State) => (s.met.running = true) ∧ (seq = (s.bil.lastSeq + 1) % 65536)) (1) (stMet) := by
    decide

theorem test_mbxCal : (fun (seq : Nat) (tick : Nat) (calMs : Nat) (proven : Bool) (step : Nat) (s : State) => ((s.met.running = true)
    ∧ (seq = (s.bil.lastSeq + 1) % 65536) ∧ (s.met.tot.clock ≠ 2) ∧ (step % 256 = s.met.tot.stepCount) ∧ (((8 * calMs : Nat) -
    ((s.met.tot.cal : Int) + tick - s.met.tot.ledger)).natAbs ≤ 800)) ∧ (fun t => t.bil.lastSeq = seq ∧ t.met.tot.cal = (((8 * calMs :
    Nat) : Int) + s.met.tot.ledger - tick).toNat ∧ t.met.tot.clock = (if proven then 0 else 1) ∧ t.bil.adoptTick = s.met.tot.ledger ∧
    t.bil.mismatch = false) (after (.mbxCal seq true tick calMs proven step) s)) (1) (9) (10) (true) (0)
    ({ stMet with met.tot := { ledger := 9, cal := 80, clock := 1 } }) := by decide

theorem test_mbxCal_2 : (fun (seq : Nat) (tick : Nat) (calMs : Nat) (proven : Bool) (step : Nat) (s : State) => ((s.met.running =
    true) ∧ (seq = (s.bil.lastSeq + 1) % 65536) ∧ (s.met.tot.clock ≠ 2) ∧ (step % 256 = s.met.tot.stepCount) ∧ (((8 * calMs : Nat) -
    ((s.met.tot.cal : Int) + tick - s.met.tot.ledger)).natAbs > 800)) ∧ (fun t => t.bil.lastSeq = seq ∧ t.met.tot.clock = 1 ∧
    t.bil.mismatch = true ∧ t.met.tot.cal = s.met.tot.cal ∧ t.rdb F.BIL_EVENT_MISMATCH = true) (after (.mbxCal seq true tick calMs
    proven step) s)) (1) (9) (1000) (true) (0) ({ stMet with met.tot := { ledger := 9, cal := 80, clock := 1 } }) := by decide

theorem test_mbxCal_3 : (fun (seq : Nat) (tick : Nat) (calMs : Nat) (proven : Bool) (step : Nat) (s : State) => (s.met.running = true)
    ∧ (seq = (s.bil.lastSeq + 1) % 65536) ∧ (s.met.tot.clock = 2)) (1) (9) (1000) (true) (0)
    ({ stMet with met.tot := { ledger := 9, clock := 2 } }) := by decide

theorem test_mbxMark : (fun (seq : Nat) (close : Bool) (sid : Nat) (time : Nat) (source : Nat) (s : State) => ((s.met.running = true)
    ∧ (seq = (s.bil.lastSeq + 1) % 65536)) ∧ (fun t => t.bil.lastSeq = seq ∧ t.met.marks = s.met.marks ++
    [{ close := close, id := sid, source := source, late := decide (time + 1000000 < s.now), tick := s.met.tot.ledger }]) (after
    (.mbxMark seq true close sid time source) s)) (1) (true) (5) (6) (26) (stMet) := by decide

theorem test_mbxPartner : (fun (seq : Nat) (imp : Nat) (exp : Nat) (complete : Bool) (unbooked : Nat) (closed : Bool) (s : State) =>
    ((s.met.running = true) ∧ (seq = (s.bil.lastSeq + 1) % 65536)) ∧ (fun t => t.bil.lastSeq = seq ∧ t.met.pImp = imp ∧ t.met.pExp = exp
    ∧ t.met.pComplete = complete ∧ t.met.pUnbooked = unbooked ∧ t.met.pSeen = true ∧ t.met.pClosed = (s.met.pClosed || closed)) (after
    (.mbxPartner seq true imp exp complete unbooked closed) s)) (1) (5) (6) (true) (0) (false) (stMet) := by decide

theorem test_mbxPulse : (fun (seq : Nat) (weight : Nat) (s : State) => ((s.met.running = true) ∧ (seq = (s.bil.lastSeq + 1) % 65536) ∧
    (s.bil.isSite = true)) ∧ (fun t => t.bil.lastSeq = seq ∧ t.met.tot.int.imp = s.met.tot.int.imp + weight * 3600 * 65536 ∧ getKey
    s.met.tot.tariff t.met.tot.impT = getKey s.met.tot.tariff s.met.tot.impT + weight * 3600 * 65536) (after (.mbxPulse seq true false
    weight) s)) (1) (5) ({ stMet with bil.isSite := true }) := by decide

theorem test_mbxPulse_2 : (fun (seq : Nat) (weight : Nat) (s : State) => ((s.met.running = true) ∧ (seq = (s.bil.lastSeq + 1) % 65536)
    ∧ (s.bil.isSite = true) ∧ (s.syncMode = true) ∧ (s.bil.ignoreUntil ≤ s.met.tot.ledger) ∧ (s.bil.closeAt = none)) ∧ (fun t =>
    t.bil.lastSeq = seq ∧ t.bil.closeAt = some (s.met.tot.ledger + 1, false) ∧ t.met = s.met) (after (.mbxPulse seq true true weight)
    s)) (1) (5) ({ stMet with bil.isSite := true, bil.site := [0, 1, 1] }) := by decide

theorem test_mbxFlag : (fun (seq : Nat) (xchk : Bool) (s : State) => ((s.met.running = true) ∧ (seq = (s.bil.lastSeq + 1) % 65536)) ∧
    (fun t => t.bil.lastSeq = seq ∧ t.met.xchk = xchk ∧ t.met.tot.sess.xchk = (s.met.tot.sess.xchk || (xchk && s.met.tot.sess.isOpen)))
    (after (.mbxFlag seq true xchk) s)) (1) (true) (stMet) := by decide

theorem test_mbxAck : (fun (seq : Nat) (holder : Nat) (record : Nat) (s : State) => ((s.met.running = true) ∧ (seq = (s.bil.lastSeq +
    1) % 65536)) ∧ (fun t => t.bil.lastSeq = seq ∧ (∀ r ∈ t.bil.journal, r.seq = record → r.holders.contains holder = true) ∧
    t.bil.journal.map (·.bytes) = s.bil.journal.map (·.bytes)) (after (.mbxAck seq true holder record) s)) (1) (3) (1)
    ({ stMet with bil.journal := [{ seq := 1 }] }) := by decide

theorem test_mbxImd : (fun (seq : Nat) (start : Bool) (phase : Bool) (s : State) => ((s.met.running = true) ∧ (seq = (s.bil.lastSeq +
    1) % 65536)) ∧ (fun t => t.bil.lastSeq = seq ∧ t.met.injecting = start ∧ t.met.phase = phase) (after (.mbxImd seq true start phase)
    s)) (1) (true) (false) (stMet) := by decide

theorem test_mbxSiteParam : (fun (seq : Nat) (offset : Nat) (bytes : List Nat) (s : State) => ((s.met.running = true) ∧ (seq =
    (s.bil.lastSeq + 1) % 65536)) ∧ (fun t => t.bil.lastSeq = seq ∧ t.bil.site = putBytes s.bil.site offset bytes) (after (.mbxSiteParam
    seq true offset bytes) s)) (1) (0) ([7]) (stMet) := by decide

theorem test_calSend : (fun (s : State) => ((s.rdb F.TRG_CAL_STATUS_VALID = true) ∧ (s.heldFor 1 = []) ∧ ((s.q 1).length < s.depth 1))
    ∧ (fun t => t.q 1 = s.q 1 ++
    [{ kind := 3, body := leBytes 8 s.met.tot.ledger ++ leBytes 8 (s.calendar / 1000000).toNat ++ [if s.rdb F.TRG_CAL_STATUS_PROVEN then 1 else 0, s.rd F.TRG_CAL_STATUS_STEP_COUNT] }])
    (after (.calSend) s)) (stMet.wrb F.TRG_CAL_STATUS_VALID true) := by decide

theorem test_calAdoptTimeout : (fun (s : State) => (s.met.tot.clock = 0) ∧ (s.bil.adoptTick + 80000 ≤ s.met.tot.ledger))
    ({ stMet with met.tot := { ledger := 80000, clock := 0 } }) := by decide

theorem test_bilTimeSet : (fun (side : Side) (s : State) => ((s.inLull = false) ∧ (side ≠ 0) ∧ (s.maint side.val = true) ∧ (s.kind =
    .site) ∧ (s.active = true) ∧ (s.rdb F.TRG_CAL_STATUS_PTP_LOCK = true) ∧ (s.rdb F.BIL_STATUS_STEP_PENDING = true) ∧ (s.bil.lastStep =
    none)) ∧ (fun t => t.bil.timeSet = some (SMap.get (fun _ => ({} : ShoreSt)) s.trg.shore side.val).client) (after (.bilTimeSet side
    0x8B17#16) s)) (1) (((stShore.wrb (F.HBI_CRED_STATUS_MAINT_OPEN.bank 1) true).wrb F.TRG_CAL_STATUS_PTP_LOCK true).wrb
    F.BIL_STATUS_STEP_PENDING true) := by decide

theorem test_bilTamperAck : (fun (side : Side) (s : State) => ((s.inLull = false) ∧ (s.maint side.val = true) ∧ (s.bil.inForce.any id
    = false)) ∧ (fun t => t.bil = { s.bil with unacked := false }) (after (.bilTamperAck side 0x8B17#16) s)) (0)
    (({ stMet with bil.unacked := true } : State).wrb (F.HBI_CRED_STATUS_MAINT_OPEN.bank 0) true) := by decide

theorem test_bilTamperAck_2 : (fun (side : Side) (s : State) => ((s.inLull = false) ∧ (s.maint side.val = true) ∧ (s.bil.inForce.any
    id = true)) ∧ (fun t => t.hbi.refused = some eState ∧ t.bil = s.bil) (after (.bilTamperAck side 0x8B17#16) s)) (0)
    (({ stMet with bil.inForce := [true] } : State).wrb (F.HBI_CRED_STATUS_MAINT_OPEN.bank 0) true) := by decide

theorem test_intervalEnd : (fun (s : State) => ((s.met.booking = true) ∧ (s.syncMode = false) ∧ (s.bil.closeAt = none) ∧
    (s.intervalDue = true)) ∧ (fun t => t.met.tot.int.no = s.met.tot.int.no + 1 ∧ t.met.tot.int.start = s.met.tot.ledger ∧ t.rdb
    F.BIL_EVENT_INTERVAL_CLOSE = true ∧ (t.met.bnd.any fun b => b.tick == s.met.tot.ledger && b.close) = true) (after (.intervalEnd) s))
    (stDue) := by decide

theorem test_intervalEnd_2 : (fun (k : Nat) (setBack : Bool) (s : State) => ((s.met.booking = true) ∧ (s.bil.closeAt = some (k,
    setBack)) ∧ (k ≤ s.met.tot.ledger)) ∧ (fun t => t.bil.closeAt = none ∧ t.met.tot.int.no = s.met.tot.int.no + 1 ∧ t.met.tot.int.start
    = s.met.tot.ledger ∧ t.rdb F.BIL_EVENT_INTERVAL_CLOSE = true) (after (.intervalEnd) s)) (0) (false)
    ({ stDue with bil.closeAt := some (0, false) }) := by decide

theorem test_demandSyncTimeout : (fun (s : State) => ((s.met.booking = true) ∧ (s.syncMode = true) ∧ (s.bil.closeAt = none) ∧
    (s.intervalDue = true)) ∧ (fun t => t.met.tot.int.no = s.met.tot.int.no + 1 ∧ t.bil.ignoreUntil = s.met.tot.ledger + 80000 ∧ t.rdb
    F.BIL_EVENT_INTERVAL_CLOSE = true) (after (.demandSyncTimeout) s)) ({ stDue with bil.isSite := true, bil.site := [0, 1, 1] }) := by
    decide

theorem test_tariffSwitch : (fun (s : State) => ((s.met.booking = true) ∧ (s.met.tot.tariffNow s.calBytes ≠ s.met.tot.tariff)) ∧ (fun
    t => t.met.tot.tariff = s.met.tot.tariffNow s.calBytes ∧ t.rdb F.BIL_EVENT_TARIFF_SWITCH = true ∧ (t.met.bnd.any fun b => b.tick ==
    s.met.tot.ledger && b.switch) = true) (after (.tariffSwitch) s)) ({ stMet with met.tot := { tariff := 3, clock := 1 } }) := by
    decide

theorem test_boundaryCommit : (fun (b : Bnd) (bs : List Bnd) (s : State) => ((s.met.bnd = b :: bs) ∧ (b.tick + 800 ≤
    s.met.tot.ledger)) ∧ (fun t => t.met.bnd = bs ∧ t.met.tot.ledger = s.met.tot.ledger) (after (.boundaryCommit) s)) ({}) ([])
    ({ stMet with met.bnd := [{}], met.tot := { ledger := 900 } }) := by decide

theorem test_recordSign : (fun (r : JRec) (s : State) => ((s.key.legal ≠ [] ∨ r.signature.isSome = true)) ∧
    (s.bil.journal.reverse.find? (fun r => !r.sent) = some r)) ({ seq := 1 })
    ({ stMet with bil.journal := [{ seq := 1 }], key.legal := [1] }) := by decide

theorem test_tamperCoverEdge : (fun (terminal : Bool) (rtc : Nat) (k : Nat) (s : State) => (k = (if terminal then 1 else 0)) ∧ (bit
    s.tamperDecl.1 k = true) ∧ (s.bil.inForce.getD k false = false)) (true) (9) (1)
    ({ stMet with pat.content.roles := [{ instance_ := 34, kind := .outlet, tamper := 15 }], met.running := false }) := by decide

theorem test_hallReading : (fun (x : Int) (y : Int) (z : Int) (rtc : Nat) (s : State) => ((bit s.tamperDecl.1 2 = false) ∧ (bit
    s.tamperDecl.1 3 = true) ∧ (10 * s.tamperDecl.2.2 * (10 * s.tamperDecl.2.2) < (x * x + y * y + z * z).toNat) ∧ (s.bil.inForce.getD 3
    false = false) ∧ (s.bil.hallRun.getD 1 0 = 0)) ∧ (fun t => t.bil.hallRun = s.bil.hallRun.set 1 1 ∧ t.bil.inForce = s.bil.inForce)
    (after (.hallReading x y z rtc) s)) (500) (0) (0) (9)
    ({ stMet with pat.content.roles := [{ instance_ := 34, kind := .outlet, tamper := 8, hallHi := 9 }] }) := by decide

theorem test_hallReading_2 : (fun (x : Int) (y : Int) (z : Int) (rtc : Nat) (s : State) => (bit s.tamperDecl.1 2 = false) ∧ (bit
    s.tamperDecl.1 3 = true) ∧ (10 * s.tamperDecl.2.2 * (10 * s.tamperDecl.2.2) < (x * x + y * y + z * z).toNat) ∧ (s.bil.inForce.getD 3
    false = false) ∧ (s.bil.hallRun.getD 1 0 ≠ 0)) (500) (0) (0) (9)
    ({ stMet with pat.content.roles := [{ instance_ := 34, kind := .outlet, tamper := 8, hallHi := 9 }], bil.hallRun := [0, 1] }) := by
    decide

theorem test_keySubmit : (fun (side : Side) (s : State) => ((s.inLull = false) ∧ ((s.q 7).length < s.depth 7)) ∧ (fun t => t.q 7 = s.q
    7 ++ [{ kind := 1, body := side.val :: s.jobBuf side.val }] ∧ t.rdb (F.KEY_JOB_STATUS_DONE.bank side.val) = false) (after
    (.keySubmit side 0x47A3#16) s)) (0) (stMet) := by decide

theorem test_keySubmit_2 : (fun (side : Side) (s : State) => ((s.inLull = false) ∧ (s.depth 7 ≤ (s.q 7).length)) ∧ (fun t => t.q 7 =
    s.q 7 ∧ t.rdb (F.KEY_JOB_STATUS_DONE.bank side.val) = true ∧ t.rd (F.KEY_JOB_STATUS_RESULT.bank side.val) = rBusy) (after
    (.keySubmit side 0x47A3#16) s)) (2) ({ stMet with pat.content.queues := [(7, 0)] }) := by decide

theorem test_keyOpImport : (fun (memOk : Bool) (side : Nat) (m : List Nat) (js : List QItem) (s : State) => (s.q 7 =
    { kind := 1, body := side :: m } :: js) ∧ (msgOp m = 1)) (true) (0) ([0, 1]) ([])
    ({ stMet with que.items := [(7, [{ kind := 1, body := [0, 0, 1] }])] }) := by decide

theorem test_keyOpImport_2 (p : List Nat) (hd : msgDevice (msgOf 1) = Config.deviceId) (hp : (stMsg 1).msgPayload (msgOf 1) = some p) :
  (stMsg 1).q 7 = [{ kind := 1, body := 0 :: msgOf 1 }] ∧ msgOp (msgOf 1) = 1 ∧ ((stMsg 1).msgCheck (msgOf 1)).1 = rOk ∧
    (stMsg 1).secondSeed (msgOf 1) = false ∧ (stMsg 1).sys.earlyWarning = false :=
  ⟨rfl, rfl, msg_accepted 1 p (by decide) hd hp, by decide, rfl⟩

theorem test_keyOpDelete : (fun (memOk : Bool) (side : Nat) (m : List Nat) (js : List QItem) (s : State) => (s.q 7 =
    { kind := 1, body := side :: m } :: js) ∧ (msgOp m = 2)) (true) (0) ([0, 2]) ([])
    ({ stMet with que.items := [(7, [{ kind := 1, body := [0, 0, 2] }])] }) := by decide

theorem test_keyOpDelete_2 (p : List Nat) (hd : msgDevice (msgOf 2) = Config.deviceId) (hp : (stMsg 2).msgPayload (msgOf 2) = some p) :
  (stMsg 2).q 7 = [{ kind := 1, body := 0 :: msgOf 2 }] ∧ msgOp (msgOf 2) = 2 ∧ ((stMsg 2).msgCheck (msgOf 2)).1 = rOk ∧
    (stMsg 2).secondSeed (msgOf 2) = false ∧ (stMsg 2).sys.earlyWarning = false :=
  ⟨rfl, rfl, msg_accepted 2 p (by decide) hd hp, by decide, rfl⟩

theorem test_keyOpRevoke : (fun (memOk : Bool) (side : Nat) (m : List Nat) (js : List QItem) (s : State) => (s.q 7 =
    { kind := 1, body := side :: m } :: js) ∧ (msgOp m = 3)) (true) (0) ([0, 3]) ([])
    ({ stMet with que.items := [(7, [{ kind := 1, body := [0, 0, 3] }])] }) := by decide

theorem test_keyOpRevoke_2 (p : List Nat) (hd : msgDevice (msgOf 3) = Config.deviceId) (hp : (stMsg 3).msgPayload (msgOf 3) = some p) :
  (stMsg 3).q 7 = [{ kind := 1, body := 0 :: msgOf 3 }] ∧ msgOp (msgOf 3) = 3 ∧ ((stMsg 3).msgCheck (msgOf 3)).1 = rOk ∧
    (stMsg 3).secondSeed (msgOf 3) = false ∧ (stMsg 3).sys.earlyWarning = false :=
  ⟨rfl, rfl, msg_accepted 3 p (by decide) hd hp, by decide, rfl⟩

theorem test_keyOpSetClient : (fun (memOk : Bool) (side : Nat) (m : List Nat) (js : List QItem) (s : State) => (s.q 7 =
    { kind := 1, body := side :: m } :: js) ∧ (msgOp m = 4)) (true) (0) ([0, 4]) ([])
    ({ stMet with que.items := [(7, [{ kind := 1, body := [0, 0, 4] }])] }) := by decide

theorem test_keyOpSetClient_2 (p : List Nat) (hd : msgDevice (msgOf 4) = Config.deviceId) (hp : (stMsg 4).msgPayload (msgOf 4) = some p) :
  (stMsg 4).q 7 = [{ kind := 1, body := 0 :: msgOf 4 }] ∧ msgOp (msgOf 4) = 4 ∧ ((stMsg 4).msgCheck (msgOf 4)).1 = rOk ∧
    (stMsg 4).secondSeed (msgOf 4) = false ∧ (stMsg 4).sys.earlyWarning = false :=
  ⟨rfl, rfl, msg_accepted 4 p (by decide) hd hp, by decide, rfl⟩

theorem test_keyOpTrust : (fun (memOk : Bool) (side : Nat) (m : List Nat) (js : List QItem) (s : State) => (s.q 7 =
    { kind := 1, body := side :: m } :: js) ∧ (msgOp m = 5)) (true) (0) ([0, 5]) ([])
    ({ stMet with que.items := [(7, [{ kind := 1, body := [0, 0, 5] }])] }) := by decide

theorem test_keyOpTrust_2 (p : List Nat) (hd : msgDevice (msgOf 5) = Config.deviceId) (hp : (stMsg 5).msgPayload (msgOf 5) = some p) :
  (stMsg 5).q 7 = [{ kind := 1, body := 0 :: msgOf 5 }] ∧ msgOp (msgOf 5) = 5 ∧ ((stMsg 5).msgCheck (msgOf 5)).1 = rOk ∧
    (stMsg 5).secondSeed (msgOf 5) = false ∧ (stMsg 5).sys.earlyWarning = false :=
  ⟨rfl, rfl, msg_accepted 5 p (by decide) hd hp, by decide, rfl⟩

theorem test_keyOpRelease : (fun (memOk : Bool) (side : Nat) (m : List Nat) (js : List QItem) (s : State) => (s.q 7 =
    { kind := 1, body := side :: m } :: js) ∧ (msgOp m = 6)) (true) (0) ([0, 6]) ([])
    ({ stMet with que.items := [(7, [{ kind := 1, body := [0, 0, 6] }])] }) := by decide

theorem test_keyOpRelease_2 (p : List Nat) (hd : msgDevice (msgOf 6) = Config.deviceId) (hp : (stMsg 6).msgPayload (msgOf 6) = some p) :
  (stMsg 6).q 7 = [{ kind := 1, body := 0 :: msgOf 6 }] ∧ msgOp (msgOf 6) = 6 ∧ ((stMsg 6).msgCheck (msgOf 6)).1 = rOk ∧
    (stMsg 6).releaseRefused = false :=
  ⟨rfl, rfl, msg_accepted 6 p (by decide) hd hp, by decide⟩

theorem test_keyEnrol : (fun (s : State) => (s.inLull = false) ∧ (s.rd F.KEY_STATUS_LC = lcBound) ∧ (s.rdb F.KEY_STATUS_ENROLLED =
    false)) ((stMet.wr F.KEY_STATUS_LC lcBound)) := by decide

theorem test_keyEnrol_2 : (fun (side : Side) (s : State) => ((s.inLull = false) ∧ (side ≠ 0)) ∧ (fun t => t.hbi.refused = some eState
    ∧ t.key = s.key) (after (.keyEnrol side 0x47A3#16) s)) (1) (stMet) := by decide

theorem test_enrolDataRead : (fun (side : Side) (s : State) => ((s.inLull = false) ∧ (s.key.enrolPlaced = true)) ∧ (fun t => t.rdb
    F.KEY_STATUS_ENROLLED = true ∧ t.key.enrolPlaced = false ∧ (∀ i : Fin 12, t.rd (F.KEY_ENROL_DATA i.val) = 0) ∧ (side = 0 →
    t.hbi.data = s.rd (F.KEY_ENROL_DATA 11))) (after (.enrolDataRead side) s)) (0) (({ stMet with key.enrolPlaced := true } : State).wr
    (F.KEY_ENROL_DATA 11) 77) := by decide

theorem test_keyAttest : (fun (side : Side) (s : State) => ((s.inLull = false) ∧ (s.rdb F.KEY_STATUS_ENROLLED = false)) ∧ (fun t =>
    t.rd (F.KEY_JOB_STATUS_RESULT.bank side.val) = rNotEnrolled ∧ t.rdb (F.KEY_JOB_STATUS_DONE.bank side.val) = true) (after (.keyAttest
    side 0x47A3#16) s)) (2) (stMet) := by decide

theorem test_keyAttest_2 : (fun (side : Side) (s : State) => (s.inLull = false) ∧ (s.rdb F.KEY_STATUS_ENROLLED = true) ∧
    (s.seccImported = false ∨ s.seccKey.isSome = true)) (2) (stMet.wrb F.KEY_STATUS_ENROLLED true) := by decide

theorem test_keyDebug : (fun (s : State) => (s.inLull = false) ∧ (s.rd F.KEY_STATUS_LC = lcOpen)) (stMet.wr F.KEY_STATUS_LC lcOpen) :=
    by decide

theorem test_keyDebug_2 : (fun (side : Side) (dbgLow : Bool) (s : State) => ((s.inLull = false) ∧ (side ≠ 0 ∨ s.rd F.KEY_STATUS_LC ≠
    lcOpen ∨ dbgLow = false)) ∧ (fun t => t.hbi.refused = some eState ∧ t.key.slots = s.key.slots ∧ t.key.debugPort = s.key.debugPort)
    (after (.keyDebug side 0x47A3#16 dbgLow) s)) (1) (true) (stMet) := by decide

theorem test_certDataAccess : (fun (side : Side) (value : BitVec 32) (s : State) => ((s.inLull = false) ∧ (s.rd (F.KEY_CERT_ADDR.bank
    side.val) % 4 = 0) ∧ (s.rd (F.KEY_CERT_ADDR.bank side.val) < 65536)) ∧ (fun t => SMap.get (fun _ => 0) t.key.certs (s.rd
    (F.KEY_CERT_ADDR.bank side.val) / 4) = value.toNat ∧ t.rd (F.KEY_CERT_ADDR.bank side.val) = s.rd (F.KEY_CERT_ADDR.bank side.val) +
    4) (after (.certDataAccess side true value) s)) (2) (77) (stMet) := by decide

theorem test_certDataAccess_2 : (fun (side : Side) (value : BitVec 32) (s : State) => ((s.inLull = false) ∧ (s.rd
    (F.KEY_CERT_ADDR.bank side.val) % 4 = 0) ∧ (s.rd (F.KEY_CERT_ADDR.bank side.val) < 65536)) ∧ (fun t => t.rd (F.KEY_CERT_DATA.bank
    side.val) = SMap.get (fun _ => 0) s.key.certs (s.rd (F.KEY_CERT_ADDR.bank side.val) / 4) % 2 ^ 32 ∧ t.rd (F.KEY_CERT_ADDR.bank
    side.val) = s.rd (F.KEY_CERT_ADDR.bank side.val) + 4 ∧ t.key = s.key) (after (.certDataAccess side false value) s)) (2) (77) (stMet)
    := by decide

theorem test_pairKeyErase : (fun (s : State) => (True) ∧ (fun t => t.key.pairHeld = s.key.pairHeld.take 1 ∧ t.live = s.live) (after
    (.pairKeyErase) s)) ({ stMet with key.pairHeld := [4, 3] }) := by decide

theorem test_FrameOfStartAndUpdate :
  ((fun (s : State) => ∃ t, exec (.powerOn) s = .next t) (st0)) ∧
  ((fun (straps : BitVec 7) (rtc : Nat) (src : Nat) (memA : Bool) (memB : Bool) (dbgLow : Bool) (s : State) => ∃ t, exec (.startBegin straps 0 true rtc memA memB dbgLow) s = .next t) (5) (1000) (1) (true) (true) (true) (stPend)) ∧
  ((fun (s : State) => ∃ t, exec (.brownOutReset) s = .next t) (stUp)) ∧
  ((fun (s : State) => ∃ t, exec (.earlyWarning) s = .next t) (stUp)) ∧
  ((fun (s : State) => ∃ t, exec (.earlyWarningClear) s = .next t) ({ stUp with sys.earlyWarning := true })) ∧
  ((fun (s : State) => ∃ t, exec (.resetPin) s = .next t) (st0)) ∧
  ((fun (side : Side) (s : State) => ∃ t, exec (.sysReset side 0x1D62#16) s = .next t) (1) (stUp)) ∧
  ((fun (side : Side) (s : State) => ∃ t, exec (.sysResetForce side 0x1D62#16) s = .next t) (0) (stUp)) ∧
  ((fun (time : Nat) (s : State) => ∃ t, exec (.comparatorSelfTest time) s = .next t) (0) ((stJoined.wr F.SYS_START_PHASE 7))) ∧
  ((fun (time : Nat) (s : State) => ∃ t, exec (.formingTimeout time) s = .next t) (0) (({ stOutlet with pair.partnerAddr := 27 } : State).wr F.PAIR_STATUS_STATE psForming)) ∧
  ((fun (s : State) => ∃ t, exec (.roleStart) s = .next t) (stStack)) ∧
  ((fun (s : State) => ∃ t, exec (.prechargeComplete) s = .next t) ({ stStack with sys.preCoil := true })) ∧
  ((fun (s : State) => ∃ t, exec (.prechargeTimeout) s = .next t) ({ stStack with sys.preCoil := true })) ∧
  ((fun (s : State) => ∃ t, exec (.prechargeRetry) s = .next t) (({ stStack with sys.roleStarted := true } : State).wr F.SYS_START_ROLE_TRIES 1)) ∧
  ((fun (side : Side) (s : State) => ∃ t, exec (.patOpen side 0x5A7E#16) s = .next t) (3) (stUp)) ∧
  ((fun (side : Side) (s : State) => ∃ t, exec (.patVerify side 0x5A7E#16) s = .next t) (0) ({ stUp with pat.updState := 1 })) ∧
  ((fun (memOk : Bool) (r : Nat) (s : State) => ∃ t, exec (.patVerifyDone memOk) s = .next t) (true) (13) ({ stUp with pat.updState := 2 })) ∧
  ((fun (side : Side) (s : State) => ∃ t, exec (.patArm side 0x5A7E#16) s = .next t) (0) ({ stUp with pat.updState := 3 })) ∧
  ((fun (side : Side) (s : State) => ∃ t, exec (.patArmSingle side 0x5A7E#16) s = .next t) (2) ({ stUp with pat.updState := 3 })) ∧
  ((fun (side : Side) (s : State) => ∃ t, exec (.patCommit side 0x5A7E#16) s = .next t) (0) (({ stUp with pat.updState := 5, pat.boundOwner := 7 } : State).wrb F.PAT_STATUS_TRIAL true)) ∧
  ((fun (side : Side) (s : State) => ∃ t, exec (.patAbort side 0x5A7E#16) s = .next t) (0) ({ stUp with pat.updState := 3, pat.updOwner := 1 })) ∧
  ((fun (side : Side) (s : State) => ∃ t, exec (.patSeal side 0x5A7E#16) s = .next t) (1) ((({ stUp with pat.slot := 1 } : State).wr F.PAT_STATUS_RUN_SLOT 1).wrb (F.HBI_CRED_STATUS_SAFETY_OPEN.bank 1) true)) ∧
  ((fun (s : State) => ∃ t, exec (.updateOwnerTimeout) s = .next t) ({ stUp with pat.updState := 1, pat.updOwner := 2, pat.updClient := 5 })) ∧
  ((fun (s : State) => ∃ t, exec (.trialExpiry) s = .next t) (stOutletAct.wrb F.PAT_STATUS_TRIAL true)) ∧
  ((fun (s : State) => ∃ t, exec (.trialDeferredRevert) s = .next t) ({ stOutlet with pat.expired := true })) ∧
  ((fun (s : State) => ∃ t, exec (.scrubWord .equal) s = .next t) ({ stUp with pat.scrubLen := 2 })) ∧
  ((fun (report : List Nat) (taken : List (Nat × Nat × Nat)) (r : RoleDecl) (s : State) => ∃ t, exec (.floaterTakeover report taken) s = .next t) ([26]) ([]) ({ instance_ := 34, kind := .outlet, unitA := 26, unitB := 27, rowCol := 1 }) (stFloat)) ∧
  ((fun (side : Side) (s : State) => ∃ t, exec (.pairRelease side 0x2C95#16) s = .next t) (1) (stStack.wrb F.PAIR_FLOAT_VALID true)) ∧
  ((fun (s : State) => ∃ t, exec (.floaterDeferredRelease) s = .next t) (({ stOutlet with pair.releaseWait := true } : State).wrb F.PAIR_FLOAT_VALID true)) ∧
  ((fun (s : State) => ∃ t, exec (.lockstepMismatch) s = .next t) (stUp)) ∧
  ((fun (ppm : Int) (s : State) => ∃ t, exec (.clockMonitor ppm) s = .next t) ((-501)) (stUp)) ∧
  ((fun (pll : Fin 5) (s : State) => ∃ t, exec (.pllLockLoss pll) s = .next t) (2) (stUp)) ∧
  ((fun (s : State) => ∃ t, exec (.rtc32Loss) s = .next t) (stUp)) ∧
  ((fun (mv : Nat) (rtc : Nat) (tAon : Int) (s : State) => ∃ t, exec (.vbatMeasure mv tAon rtc) s = .next t) (3000) (7) (250) (stUp)) ∧
  ((fun (vin : Bool) (s : State) => ∃ t, exec (.aonSupplySwitch vin) s = .next t) (false) (stUp)) ∧
  ((fun (s : State) => ∃ t, exec (.aonReset) s = .next t) (st0)) ∧
  ((fun (target : Nat) (src : Nat) (s : State) => ∃ t, exec (.lullMessageReceive target src) s = .next t) (26) (1) (stOutlet)) ∧
  ((fun (rtc : Nat) (s : State) => ∃ t, exec (.lullEntry rtc) s = .next t) (77) ({ stOutlet with clk.lullNext := true })) ∧
  ((fun (side : Side) (s : State) => ∃ t, exec (.hostWake side 0x5C03#16) s = .next t) (0) (stLull)) ∧
  ((fun (s : State) => ∃ t, exec (.plugWake) s = .next t) (stLull)) ∧
  ((fun (rtc : Nat) (s : State) => ∃ t, exec (.wakeComplete rtc) s = .next t) (9) (({ stLull with met.running := true } : State).wr F.CLK_LULL_STATUS_STATE 3)) ∧
  ((fun (s : State) => ∃ t, exec (.retentionScrub .uncorrectable) s = .next t) (stUp)) ∧
  ((fun (s : State) => ∃ t, exec (.barographSave) s = .next t) (stUp)) ∧
  ((fun (s : State) => ∃ t, exec (.barographDaily) s = .next t) ({ stUp with met.tot.ledger := 691200000 })) ∧
  ((fun (side : Side) (s : State) => ∃ t, exec (.barSnapshot side 0x6D58#16) s = .next t) (0) (stUp)) ∧
  ((fun (side : Side) (s : State) => ∃ t, exec (.barUnbench side 0x6D58#16) s = .next t) (2) (({ stUp with bar.benched := 1 } : State).wrb (F.HBI_CRED_STATUS_MAINT_OPEN.bank 2) true)) ∧
  ((fun (s : State) => ∃ t, exec (.meterSuspectExpiry) s = .next t) ({ stUp with met.tot.ledger := 20736000000 })) ∧
  ((fun (g : Fin 8) (s : State) => ∃ t, exec (.comparatorTestTimeout) s = .next t) (0) ({ stAfe with sys.testWait := [0] })) ∧
  ((fun (s : State) => ∃ t, exec (.prechargeCoilRelease) s = .next t) ({ stStack with sys.preCoil := true, sys.mainCoil := true, sys.preOk := true })) ∧
  ((fun (d : LoopDecl) (s : State) => ∃ t, exec (.stackAvailable) s = .next t) ({ loop := 0, hbMask := 1 }) (stAfe)) ∧
  ((fun (k : Fin 4) (s : State) => ∃ t, exec (.safetyWake k) s = .next t) (3) (stLull.wrb (F.SAF_IN_CFG_ENABLE 3) true)) ∧
  ((fun (s : State) => ∃ t, exec (.uncorrectableError) s = .next t) (stUp)) :=
  ⟨⟨_, rfl⟩, ⟨_, rfl⟩, ⟨_, rfl⟩, ⟨_, rfl⟩, ⟨_, rfl⟩, ⟨_, rfl⟩, ⟨_, rfl⟩, ⟨_, rfl⟩, ⟨_, rfl⟩, ⟨_, rfl⟩, ⟨_, rfl⟩, ⟨_, rfl⟩, ⟨_, rfl⟩, ⟨_, rfl⟩, ⟨_, rfl⟩, ⟨_, rfl⟩, ⟨_, rfl⟩, ⟨_, rfl⟩, ⟨_, rfl⟩, ⟨_, rfl⟩, ⟨_, rfl⟩, ⟨_, rfl⟩, ⟨_, rfl⟩, ⟨_, rfl⟩, ⟨_, rfl⟩, ⟨_, rfl⟩, ⟨_, rfl⟩, ⟨_, rfl⟩, ⟨_, rfl⟩, ⟨_, rfl⟩, ⟨_, rfl⟩, ⟨_, rfl⟩, ⟨_, rfl⟩, ⟨_, rfl⟩, ⟨_, rfl⟩, ⟨_, rfl⟩, ⟨_, rfl⟩, ⟨_, rfl⟩, ⟨_, rfl⟩, ⟨_, rfl⟩, ⟨_, rfl⟩, ⟨_, rfl⟩, ⟨_, rfl⟩, ⟨_, rfl⟩, ⟨_, rfl⟩, ⟨_, rfl⟩, ⟨_, rfl⟩, ⟨_, rfl⟩, ⟨_, rfl⟩, ⟨_, rfl⟩, ⟨_, rfl⟩, ⟨_, rfl⟩⟩

theorem test_FrameOfHostAndQueues :
  (∃ t, State.reset.commandWrite 0 0x1010 5 0 false = none ∧ State.reset.specialWrite 0 0x1010 5 = none ∧ exec (.registerWrite 0 0x1010#32 5#32 0 false) State.reset = .next t) ∧
  ((fun (side : Side) (b : Fin 20) (value : BitVec 32) (s : State) => ∃ t, exec (.levelWrite side b value) s = .next t) (3) (6) (0x1E7A0001) (stUp.wrb (F.HBI_CRED_STATUS_MAINT_OPEN.bank 3) true)) ∧
  ((fun (side : Side) (mask : BitVec 16) (s : State) => ∃ t, exec (.localTack side mask) s = .next t) (0) (1) (stUp)) ∧
  ((fun (widthNs : Nat) (time : Nat) (s : State) => ∃ t, exec (.tackPinEdge widthNs time) s = .next t) (20) (7) (stUp.wr F.HBI_PIN_TACK_MASK 2)) ∧
  ((fun (g : Nat) (x : Nat × List Nat) (e : Nat × Nat × Nat) (s : State) => ∃ t, exec (.pfgLiveTimeout g) s = .next t) (0) ((0, [64, 96])) ((0, 64, 5)) ({ stUp with pat.content.pairedGroups := [[64, 96]], hbi.pfgPending := [(0, 64, 5)], hbi.pfgWritten := [64] })) ∧
  ((fun (side : Side) (time : Nat) (s : State) => ∃ t, exec (.ringTackRequest side 0x6B2C#16 time) s = .next t) (0) (50) (((stSite.wr F.HBI_RTACK_MASK_TARGET 96).wr F.HBI_RTACK_MASK_MASK 5).wr64 F.HBI_RTACK_TIME_LO 100050)) ∧
  ((fun (time : Nat) (mask : Nat) (at_ : Nat) (s : State) => ∃ t, exec (.ringTackInstant time) s = .next t) (9) (3) (9) ({ stUp with hbi.rtackDue := [(3, 9)] })) ∧
  ((fun (side : Side) (s : State) => ∃ t, exec (.credChallengeRead side) s = .next t) (2) (stUp)) ∧
  ((fun (side : Side) (s : State) => ∃ t, exec (.credOpenMaintenance side 0x3C1D#16 true) s = .next t) (1) ({ stUp with hbi.sides := [(1, { chalValid := true })] })) ∧
  ((fun (side : Side) (s : State) => ∃ t, exec (.credOpenSafety side 0x3C1D#16 true) s = .next t) (1) ({ stUp with hbi.sides := [(1, { chalValid := true })] })) ∧
  ((fun (side : Side) (s : State) => ∃ t, exec (.credCloseAll side 0x3C1D#16) s = .next t) (2) ((stUp.wrb (F.HBI_CRED_STATUS_MAINT_OPEN.bank 2) true).wrb (levelField 6 2) true)) ∧
  ((fun (side : Side) (safety : Bool) (s : State) => ∃ t, exec (.credTimeout side safety) s = .next t) (0) (true) ((stUp.wrb (F.HBI_CRED_STATUS_SAFETY_OPEN.bank 0) true).wrb (levelField 7 0) true)) ∧
  ((fun (side : Side) (s : State) => ∃ t, exec (.credLockoutEnd side) s = .next t) (4) ({ stUp with hbi.sides := [(4, { lockedOut := true })] })) ∧
  ((fun (side : Side) (addr : BitVec 32) (p : Nat) (s : State) => ∃ t, exec (.idxAddrWrite side addr) s = .next t) (1) (0x300000) (3) (stUp)) ∧
  ((fun (side : Side) (s : State) => ∃ t, exec (.idxDataRead side) s = .next t) (0) ((stIdx 0x300000).wr F.HBI_IDX_DATA 77)) ∧
  ((fun (side : Side) (value : BitVec 32) (s : State) => ∃ t, exec (.idxDataWrite side value) s = .next t) (0) (5) ({ stIdx 0x1000010 with pat.updState := 1, pat.updOwner := 1 })) ∧
  ((fun (side : Side) (s : State) => ∃ t, exec (.idxFetchDone side) s = .next t) (0) ({ stUp with hbi.sides := [(0, { fetching := true })] })) ∧
  ((fun (side : Side) (x : Nat × Nat) (s : State) => ∃ t, exec (.idxPostDone side) s = .next t) (0) ((4, 5)) ({ stUp with hbi.sides := [(0, { posted := some (4, 5) })] })) ∧
  ((fun (side : Side) (s : State) => ∃ t, exec (.idxRelease side) s = .next t) (0) (stIdx 0)) ∧
  ((fun (side : Side) (s : State) => ∃ t, exec (.idxPortTimeout side) s = .next t) (0) (stIdx 0)) ∧
  ((fun (side : Side) (p : Nat) (s : State) => ∃ t, exec (.idxPortFree side) s = .next t) (0) (0) (stUp.wrb F.HBI_IDX_STATUS_WAIT true)) ∧
  ((fun (session : Fin 4) (typ : Nat) (reqId : Nat) (target : Nat) (status : Nat) (index : Nat) (body : List Nat) (s : State) => ∃ t, exec (.remoteResponse session (0x8000 + typ) reqId target status index body) s = .next t) (0) (1) (7) (3) (0) (0) ([4]) ({ stShore with trg.shore := [(1, { isOpen := true, outstanding := [{ typ := 1, reqId := 7, target := 3 }] })] })) ∧
  ((fun (session : Fin 4) (reqId : Nat) (target : Nat) (q : ShoreReq) (s : State) => ∃ t, exec (.remoteUnreachable session reqId target) s = .next t) (0) (7) (3) ({ typ := 1, reqId := 7, target := 3 }) ({ stShore with trg.shore := [(1, { isOpen := true, outstanding := [{ typ := 1, reqId := 7, target := 3 }] })] })) ∧
  ((fun (digest : List Nat) (j : Nat) (k : Nat) (s : State) => ∃ t, exec (.shoreConnect true digest) s = .next t) ([9]) (3) (1) (((({ stSite with key.clients := [(3, { a := { bytes := [9] } })] } : State).wrb F.TRG_SHORE_CFG_ENABLE true).wrb (F.KEY_CLIENT_VALID 3) true).wrb (F.KEY_CLIENT_OBSERVE 3) true)) ∧
  ((fun (session : Fin 4) (s : State) => ∃ t, exec (.shoreSessionTimeout session) s = .next t) (0) (stShore.wrb (F.HBI_CRED_STATUS_MAINT_OPEN.bank 1) true)) ∧
  ((fun (session : Fin 4) (reqId : Nat) (target : Nat) (length : Nat) (body : List Nat) (ops : List AccessOp) (s : State) => ∃ t, exec (.shoreAccess session reqId target length body) s = .next t) (0) (7) (1) (16) ([1, 0, 1, 0, 0x10, 0x10, 0, 0]) ([{ count := 1, addr := 0x1010 }]) (stShore)) ∧
  ((fun (session : Fin 4) (reqId : Nat) (target : Nat) (length : Nat) (body : List Nat) (q : RecordAsk) (s : State) => ∃ t, exec (.shoreJournalGet session reqId target length body) s = .next t) (1) (9) (3) (22) ([3, 0, 0, 0, 1, 0, 0, 0, 0, 0, 0, 0, 2, 0]) ({ owner := 3, what := 0, first := 1, count := 2 }) (stStack)) ∧
  ((fun (session : Fin 4) (reqId : Nat) (target : Nat) (length : Nat) (body : List Nat) (q : RecordAsk) (s : State) => ∃ t, exec (.shoreBarographGet session reqId target length body) s = .next t) (1) (9) (3) (22) ([3, 0, 0, 0, 1, 0, 0, 0, 2, 0]) ({ owner := 3, what := 2, first := 1, count := 2 }) (stStack)) ∧
  ((fun (session : Fin 4) (reqId : Nat) (target : Nat) (length : Nat) (body : List Nat) (s : State) => ∃ t, exec (.shoreEventSubscribe session reqId target length body) s = .next t) (1) (9) (3) (12) ([255, 1, 2, 1]) (stStack)) ∧
  ((fun (session : Fin 4) (reqId : Nat) (target : Nat) (length : Nat) (s : State) => ∃ t, exec (.shoreKeepalive session reqId target length) s = .next t) (0) (7) (1) (8) (stShore)) ∧
  ((fun (session : Fin 4) (typ : Nat) (reqId : Nat) (target : Nat) (status : Nat) (body : List Nat) (r : ShoreReq) (q : RecordAsk) (s : State) => ∃ t, exec (.recordTransfer session typ reqId target status body) s = .next t) (0) (0x8003) (7) (3) (0) ([3, 0, 0, 0, 1]) ({ typ := 3, reqId := 7, target := 3, body := [3, 0, 0, 0, 1, 0, 0, 0, 2, 0] }) ({ owner := 3, what := 2, first := 1, count := 2 }) ({ stShore with trg.shore := [(1, { isOpen := true, outstanding := [{ typ := 3, reqId := 7, target := 3, body := [3, 0, 0, 0, 1, 0, 0, 0, 2, 0] }] })] })) ∧
  ((fun (ready : BitVec 16) (e : Ev) (es : List Ev) (s : State) => ∃ t, exec (.queueMove ready) s = .next t) (0) ({ code := 0xD001 }) ([]) ({ stUp with que.q0 := [{ code := 0xD001 }] })) ∧
  ((fun (side : Side) (e : Ev) (es : List Ev) (s : State) => ∃ t, exec (.queMbxPop side 0x3E90#16) s = .next t) (0) ({ code := 0xD001 }) ([]) ({ stUp with que.q11 := [{ code := 0xD001 }] })) ∧
  ((fun (side : Side) (s : State) => ∃ t, exec (.queMbxPush side 0x3E90#16) s = .next t) (2) (stUp.wr (F.QUE_MBX_IN 2) 0xE401)) ∧
  ((fun (session : Fin 4) (time : Nat) (sub : Subscription) (s : State) => ∃ t, exec (.subscriptionSend session time) s = .next t) (0) (5) ({ session := 1, waiting := [{ code := 0xD001 }] }) ({ stSite with que.subs := [{ session := 1, waiting := [{ code := 0xD001 }] }] })) ∧
  ((fun (side : Side) (s : State) => ∃ t, exec (.traceRead side) s = .next t) (0) ({ stUp with que.trace := [3, 4] })) ∧
  ((fun (session : Fin 4) (s : State) => ∃ t, exec (.shoreSessionClose session) s = .next t) (0) (stShore.wrb (F.HBI_CRED_STATUS_MAINT_OPEN.bank 1) true)) ∧
  ((fun (side : Side) (s : State) => ∃ t, exec (.registerRead side 0x1010#32) s = .next t) (0) (stUp.wr F.HBI_PIN_TACK_MASK 5)) :=
  ⟨⟨_, by decide, by decide, rfl⟩, ⟨_, rfl⟩, ⟨_, rfl⟩, ⟨_, rfl⟩, ⟨_, rfl⟩, ⟨_, rfl⟩, ⟨_, rfl⟩, ⟨_, rfl⟩, ⟨_, rfl⟩, ⟨_, rfl⟩, ⟨_, rfl⟩, ⟨_, rfl⟩, ⟨_, rfl⟩, ⟨_, rfl⟩, ⟨_, rfl⟩, ⟨_, rfl⟩, ⟨_, rfl⟩, ⟨_, rfl⟩, ⟨_, rfl⟩, ⟨_, rfl⟩, ⟨_, rfl⟩, ⟨_, rfl⟩, ⟨_, rfl⟩, ⟨_, rfl⟩, ⟨_, rfl⟩, ⟨_, rfl⟩, ⟨_, rfl⟩, ⟨_, rfl⟩, ⟨_, rfl⟩, ⟨_, rfl⟩, ⟨_, rfl⟩, ⟨_, rfl⟩, ⟨_, rfl⟩, ⟨_, rfl⟩, ⟨_, rfl⟩, ⟨_, rfl⟩, ⟨_, rfl⟩, ⟨_, rfl⟩⟩

theorem test_FrameOfRing :
  ((fun (time : Nat) (unwrapNext : Bool) (wrapped : Bool) (s : State) => ∃ t, exec (.cycleStart time unwrapNext wrapped) s = .next t) (75000) (true) (false) (stMaster)) ∧
  ((fun (dirB : Bool) (wrapped : Bool) (ringWrapped : Bool) (cycle : Nat) (hop : Nat) (correction : Nat) (delay : Nat) (forward : Nat) (neighbour : Nat) (master : Nat) (time : Nat) (s : State) => ∃ t, exec (.trainDelimiter dirB wrapped ringWrapped cycle hop correction delay forward neighbour master time) s = .next t) (true) (false) (false) (3) (4) (5) (6) (7) (8) (1) (9) (stStack)) ∧
  ((fun (header : RingHeader) (arrival : Nat) (steer : Int) (s : State) => ∃ t, exec (.cycleHeaderReceive header false true arrival steer) s = .next t) ({ master := 1, cycle := 4, ringTime := 100000 }) (100002) (0) (stStack)) ∧
  ((fun (slot : DataSlot) (cycle : Nat) (s : State) => ∃ t, exec (.dataSlotReceive slot cycle true) s = .next t) ({ src := 4 }) (7) (stStack)) ∧
  ((fun (code : BitVec 16) (arg : BitVec 32) (s : State) => ∃ t, exec (.squallEvent code arg) s = .next t) (0x4001) (7) (stStack)) ∧
  ((fun (cycle : Nat) (e : Ev) (s : State) => ∃ t, exec (.squallSend cycle) s = .next t) (6) ({ code := 0x4001 }) ({ stStack with trg.squall := some { code := 0x4001 } })) ∧
  ((fun (frame : SquallFrame) (s : State) => ∃ t, exec (.squallReceive frame true) s = .next t) ({ src := 4, code := 0x4001, seq := 8 }) (stStack)) ∧
  ((fun (port : Fin 2) (s : State) => ∃ t, exec (.linkBreak port) s = .next t) (1) (stStack)) ∧
  ((fun (port : Fin 2) (c : Nat) (s : State) => ∃ t, exec (.ringUnwrap port) s = .next t) (0) (4) (({ stStack with trg.broken := [1], trg.unwrapSeen := some 4 } : State).wr64 F.TRG_CYCLE_LO 5)) ∧
  ((fun (time : Nat) (s : State) => ∃ t, exec (.provisionalMaster time) s = .next t) (50000000) (({ stSite with trg.join := .idle, trg.trainAt := some 0 } : State).wr F.TRG_STATUS_SOURCE 1)) ∧
  ((fun (offset : Int) (calendar : Int) (locked : Bool) (port : Fin 3) (s : State) => ∃ t, exec (.ptpSync offset calendar locked port) s = .next t) (5) (7) (true) (2) (stSite)) ∧
  ((fun (s : State) => ∃ t, exec (.ptpSyncTimeout) s = .next t) (stSite)) ∧
  ((fun (dirB : Bool) (s : State) => ∃ t, exec (.joinRequest dirB) s = .next t) (true) ({ stStack with trg.join := .idle })) ∧
  ((fun (request : JoinReq) (s : State) => ∃ t, exec (.joinWindowTake (some request) none) s = .next t) ({ addr := 4, device := 77 }) (stSite)) ∧
  ((fun (s : State) => ∃ t, exec (.joinChalReceive none) s = .next t) ({ stStack with trg.join := .requested })) ∧
  ((fun (addr : Nat) (response : List Nat) (g : JoinGrant) (s : State) => ∃ t, exec (.joinResponseCheck addr response) s = .next t) (4) ([1]) ({ addr := 4 }) ({ stMaster with trg.grants := [{ addr := 4 }] })) ∧
  ((fun (s : State) => ∃ t, exec (.joinRetry) s = .next t) ({ stUp with trg.join := .challenged })) ∧
  ((fun (epoch : Nat) (wrapped : List Nat) (key : List Nat) (r : List Nat) (next : Option (Nat × List Nat)) (s : State) => ∃ t, exec (.ringKeyReceive epoch wrapped next) s = .next t) (1) ([2]) ([9]) ([]) (none) ({ stUp with trg.join := .challenged, trg.joinWith := some [9] })) ∧
  ((fun (epoch : Nat) (wrapped : List Nat) (s : State) => ∃ t, exec (.rekeyDeliveryReceive epoch wrapped) s = .next t) (1) ([2]) (stJoined)) ∧
  ((fun (side : Side) (s : State) => ∃ t, exec (.leaveCommand side 0x7A4D#16) s = .next t) (1) (stStack)) ∧
  ((fun (addr : Nat) (s : State) => ∃ t, exec (.declaredLeave addr) s = .next t) (4) (stMaster.setMember 4 true)) ∧
  ((fun (side : Side) (s : State) => ∃ t, exec (.rekeyCommand side 0x7A4D#16) s = .next t) (0) (stMaster)) ∧
  ((fun (s : State) => ∃ t, exec (.rekeyDue) s = .next t) (stMaster)) ∧
  ((fun (time : Nat) (at_ : Nat) (d : List Nat) (s : State) => ∃ t, exec (.epochAdvance time) s = .next t) (100000009) (9) ([4]) ({ stMaster with trg.rekey := some ([4], 9), trg.nextKey := some [5] })) :=
  ⟨⟨_, rfl⟩, ⟨_, rfl⟩, ⟨_, rfl⟩, ⟨_, rfl⟩, ⟨_, rfl⟩, ⟨_, rfl⟩, ⟨_, rfl⟩, ⟨_, rfl⟩, ⟨_, rfl⟩, ⟨_, rfl⟩, ⟨_, rfl⟩, ⟨_, rfl⟩, ⟨_, rfl⟩, ⟨_, rfl⟩, ⟨_, rfl⟩, ⟨_, rfl⟩, ⟨_, rfl⟩, ⟨_, rfl⟩, ⟨_, rfl⟩, ⟨_, rfl⟩, ⟨_, rfl⟩, ⟨_, rfl⟩, ⟨_, rfl⟩, ⟨_, rfl⟩⟩

theorem test_FrameOfPair :
  ((fun (time : Nat) (s : State) => ∃ t, exec (.pairFrameSend time) s = .next t) (5000) (stPair)) ∧
  ((fun (frame : PairFrame) (time : Nat) (s : State) => ∃ t, exec (.pairShadowFrame frame time) s = .next t) ({ head := { claim := 7, seq := 8 } }) (5000) (stPair)) ∧
  ((fun (head : PairHead) (prot : List Nat) (safety : SafetyFrame) (uv : BitVec 24) (time : Nat) (s : State) => ∃ t, exec (.pairSafetyFrame head prot safety uv time) s = .next t) ({ claim := 7 }) ([]) ({}) (5) (5000) (stPair)) ∧
  ((fun (item : Fin 10) (time : Nat) (s : State) => ∃ t, exec (.heartbeatMissed item time) s = .next t) (3) (9) (stPair.wrb F.PAIR_STATUS_LINK true)) ∧
  ((fun (digest : List Nat) (image : List Nat) (serial : Nat) (addr : Nat) (time : Nat) (s : State) => ∃ t, exec (.pairItemRoleDigest digest image serial addr time) s = .next t) ([]) ([4]) (9) (27) (5) ((stPair.wr F.PAIR_STATUS_STATE psForming).wr F.PAIR_STATUS_PARTNER_CLAIM 3)) ∧
  ((fun (close : Bool) (sid : Nat) (time : Nat) (source : Nat) (s : State) => ∃ t, exec (.pairItemSessionMark close sid time source) s = .next t) (true) (7) (8) (26) (stPair)) ∧
  ((fun (imp : Nat) (exp : Nat) (unbooked : Nat) (complete : Bool) (closed : Bool) (s : State) => ∃ t, exec (.pairItemSessionValues imp exp complete unbooked closed) s = .next t) (7) (8) (9) (true) (false) (stPair)) ∧
  ((fun (phase : Bool) (s : State) => ∃ t, exec (.pairItemImdPhase phase) s = .next t) (true) (stPair)) ∧
  ((fun (session : VehicleSession) (s : State) => ∃ t, exec (.pairItemVehicleSession session) s = .next t) ({ state := 6, sid := 9, iReq := 5 }) (stPair)) ∧
  ((fun (tc : Int) (m : Int) (b : Int) (s : State) => ∃ t, exec (.pairItemObserver tc m b) s = .next t) (1) (2) (3) (stPair)) ∧
  ((fun (key : Nat) (v : Nat) (s : State) => ∃ t, exec (.pairItemMrkValues [(key, v)]) s = .next t) (F.MRK_CURTAIL_HOLD_HOLD.key) (1) (stSite.wr F.PAIR_STATUS_STATE psCold)) ∧
  ((fun (fig : RoleFigures) (role : RoleState) (s : State) => ∃ t, exec (.pairItemRoleFigures fig role) s = .next t) ({ lifeUsed := 9, rainMax := 3 }) ({ available := true }) (stPair)) ∧
  ((fun (level : Bool) (time : Nat) (s : State) => ∃ t, exec (.pairLockInput level time) s = .next t) (true) (5) (stPair)) ∧
  ((fun (src : Nat) (inst : Nat) (claim : BitVec 8) (time : Nat) (s : State) => ∃ t, exec (.voteRequestReceive false src inst claim time) s = .next t) (26) (34) (7) (9) ({ stSite with mrk.duty := { witnesses := [(34, 1)] } })) ∧
  ((fun (inst : Nat) (target : Nat) (cold : Bool) (claim : BitVec 8) (time : Nat) (s : State) => ∃ t, exec (.voteGrantReceive inst target claim time) s = .next t) (34) (26) (true) (9) (5) ({ stPair with pair.voting := some (true, 1) })) ∧
  ((fun (inst : Nat) (target : Nat) (reason : BitVec 8) (s : State) => ∃ t, exec (.voteDenyReceive inst target reason) s = .next t) (34) (26) (2) ({ stPair with pair.voting := some (true, 1) })) ∧
  ((fun (n : Nat) (s : State) => ∃ t, exec (.voteRetry) s = .next t) (1) (({ stPair with pair.voting := some (false, 1) } : State).wr F.PAIR_IDENT_WITNESS 1)) ∧
  ((fun (s : State) => ∃ t, exec (.coldRequestDue) s = .next t) ((({ stPair with pair.lost := true } : State).wr F.PAIR_IDENT_WITNESS 1).wrb F.PAIR_CFG_ALLOW_COLD true)) ∧
  ((fun (side : Side) (s : State) => ∃ t, exec (.pairHandover side 0x2C95#16) s = .next t) (0) (({ stOutletAct with pair.pState := psHot, pair.pHealthy := true } : State).wrb F.PAIR_STATUS_LINK true)) ∧
  ((fun (p : Nat) (s : State) => ∃ t, exec (.handoverTimeout) s = .next t) (1) ({ stOutletAct with pair.handover := some 1 })) ∧
  ((fun (s : State) => ∃ t, exec (.standbyHotEntry) s = .next t) (({ stPair with pair.formed := true, pair.good := 10000 } : State).wrb F.PAIR_STATUS_LINK true)) :=
  ⟨⟨_, rfl⟩, ⟨_, rfl⟩, ⟨_, rfl⟩, ⟨_, rfl⟩, ⟨_, rfl⟩, ⟨_, rfl⟩, ⟨_, rfl⟩, ⟨_, rfl⟩, ⟨_, rfl⟩, ⟨_, rfl⟩, ⟨_, rfl⟩, ⟨_, rfl⟩, ⟨_, rfl⟩, ⟨_, rfl⟩, ⟨_, rfl⟩, ⟨_, rfl⟩, ⟨_, rfl⟩, ⟨_, rfl⟩, ⟨_, rfl⟩, ⟨_, rfl⟩, ⟨_, rfl⟩⟩

theorem test_FrameOfMarker :
  ((fun (time : Nat) (s : State) => ∃ t, exec (.markerCycleStart time) s = .next t) (9) (stSite)) ∧
  ((fun (t0 : Nat) (updating : List Nat) (s : State) => ∃ t, exec (.solveComplete updating) s = .next t) (20000000) ([]) ({ stSite with mrk.solving := some 20000000 })) ∧
  ((fun (t0 : Nat) (updating : List Nat) (s : State) => ∃ t, exec (.solveDeadline none updating) s = .next t) (20000000) ([]) ({ stSite with mrk.solving := some 20000000 })) ∧
  ((fun (s : State) => ∃ t, exec (.reportSample none) s = .next t) (stOutletAct)) ∧
  ((fun (time : Nat) (report : StackStatus) (s : State) => ∃ t, exec (.stackStatusReceive time report) s = .next t) (9) ({ row := 1, available := true }) (stSite)) ∧
  ((fun (time : Nat) (row : Nat) (curve : List Nat) (s : State) => ∃ t, exec (.stackCurveReceive time row curve) s = .next t) (9) (32) ([1, 2]) (stSite)) ∧
  ((fun (time : Nat) (report : OutletStatus) (s : State) => ∃ t, exec (.outletStatusReceive time report) s = .next t) (9) ({ col := 16, phase := 2 }) (stSite)) ∧
  ((fun (plan : Plan) (src : Nat) (s : State) => ∃ t, exec (.planReceive plan src) s = .next t) ({ applyTime := 1000000 }) (1) (stStack)) ∧
  ((fun (time : Nat) (p : Plan) (s : State) => ∃ t, exec (.planTack time) s = .next t) (9) ({ applyTime := 9 }) ({ stStack with mrk.plan := some { applyTime := 9 } })) ∧
  ((fun (duty : Duty) (src : Nat) (s : State) => ∃ t, exec (.dutyReceive duty src) s = .next t) ({ witnesses := [(2, 26)] }) (1) (stStack)) ∧
  ((fun (cycle : Nat) (time : Nat) (s : State) => ∃ t, exec (.demandSend cycle time) s = .next t) (8) (0) ({ stOutletAct with mrk.leases := [(1, 90)] })) ∧
  ((fun (demand : Demand) (s : State) => ∃ t, exec (.demandReceive demand) s = .next t) ({ col := 1, mode := 2 }) ({ stStack with mrk.stack := some { row := 1, col := 1 }, mrk.demandLost := true })) ∧
  ((fun (time : Nat) (s : State) => ∃ t, exec (.demandLost time) s = .next t) (9) ({ stStack with mrk.lease := some (1, 90) })) ∧
  ((fun (cycle : Nat) (time : Nat) (iLead : Int) (e : StackEntry) (d : LoopDecl) (s : State) => ∃ t, exec (.leadSend cycle time iLead) s = .next t) (2) (9) (30) ({ row := 2, col := 1, mode := 3 }) ({ loop := 1, hbMask := 2, modes := [{ mode := 4 }] }) (stLead)) ∧
  ((fun (lead : Lead) (s : State) => ∃ t, exec (.leadReceive lead) s = .next t) ({ col := 1, row := 2 }) ({ stStack with mrk.stack := some { row := 1, col := 1 }, mrk.leadLost := true })) ∧
  ((fun (time : Nat) (s : State) => ∃ t, exec (.leadLost time) s = .next t) (9) ({ stStack with mrk.lead := some {}, mrk.demand := some { mode := 1 } })) ∧
  ((fun (time : Nat) (c : Nat) (e : Nat) (s : State) => ∃ t, exec (.leaseRampStart time) s = .next t) (9) (1) (10) ({ stStack with mrk.lease := some (1, 10), mrk.rampMs := 5 })) ∧
  ((fun (time : Nat) (c : Nat) (e : Nat) (s : State) => ∃ t, exec (.leaseExpiry time) s = .next t) (9) (1) (9) ({ stStack with mrk.lease := some (1, 9), mrk.coil := 1 })) ∧
  ((fun (c : Nat) (e : Nat) (s : State) => ∃ t, exec (.connectVoltageMatched) s = .next t) (1) (9) ({ stStack with mrk.lease := some (1, 9), mrk.seq := .matching, mrk.demand := some {}, pat.content.crossPoints := [(1, 1)] })) ∧
  ((fun (s : State) => ∃ t, exec (.connectMatchTimeout) s = .next t) ({ stStack with mrk.seq := .matching, mrk.coil := 1 })) ∧
  ((fun (s : State) => ∃ t, exec (.xpAuxClosed) s = .next t) ({ stStack with mrk.seq := .closing, mrk.coil := 1 })) ∧
  ((fun (s : State) => ∃ t, exec (.xpAuxCloseTimeout) s = .next t) ({ stStack with mrk.seq := .closing, mrk.coil := 1 })) ∧
  ((fun (s : State) => ∃ t, exec (.xpDebounceEnd) s = .next t) ({ stStack with mrk.seq := .closeDebounce, mrk.closed := 1 })) ∧
  ((fun (time : Nat) (s : State) => ∃ t, exec (.rampOutZeroHeld time) s = .next t) (500000) ({ stStack with mrk.seq := .rampOut, mrk.coil := 1 })) ∧
  ((fun (time : Nat) (s : State) => ∃ t, exec (.releaseFail time) s = .next t) (5000000) ({ stStack with mrk.seq := .rampOut, mrk.coil := 1 })) ∧
  ((fun (s : State) => ∃ t, exec (.xpAuxOpen) s = .next t) ({ stStack with mrk.seq := .opening })) ∧
  ((fun (row : Nat) (col : Nat) (s : State) => ∃ t, exec (.quarantineEnd row col) s = .next t) (1) (2) (({ stSite with mrk.quarantine := [(1, 2)] } : State).wrb (F.MRK_STACK_STATE_QUARANTINE 1) true)) ∧
  ((fun (side : Side) (value : BitVec 32) (s : State) => ∃ t, exec (.curtailWrite side value) s = .next t) (0) (500) (stSite.wr F.MRK_CURTAIL_HOLD_HOLD 7)) ∧
  ((fun (s : State) => ∃ t, exec (.curtailLapse) s = .next t) (stSite.wr F.MRK_CURTAIL_HOLD_HOLD 7)) ∧
  ((fun (side : Side) (s : State) => ∃ t, exec (.mrkHoldOn side 0x2B6E#16) s = .next t) (0) (stSite)) ∧
  ((fun (side : Side) (s : State) => ∃ t, exec (.mrkHoldOff side 0x2B6E#16) s = .next t) (2) (stSite)) ∧
  ((fun (side : Side) (s : State) => ∃ t, exec (.mrkReplan side 0x2B6E#16) s = .next t) (2) (stSite)) ∧
  ((fun (target : Nat) (src : Nat) (s : State) => ∃ t, exec (.wakeReceive target src) s = .next t) (26) (1) (stLull)) ∧
  ((fun (addr : Nat) (s : State) => ∃ t, exec (.wakeJoinTimeout addr) s = .next t) (4) ({ stSite with mrk.waking := [(4, 9)], mrk.lullUnits := [4] })) ∧
  ((fun (owner : Nat) (seq : Nat) (bytes : List Nat) (s : State) => ∃ t, exec (.replicaWriteReceive owner false seq bytes) s = .next t) (26) (3) ([1, 2]) (stStack)) ∧
  ((fun (holder : Nat) (seq : Nat) (s : State) => ∃ t, exec (.replicaAckReceive holder seq) s = .next t) (3) (9) (stStack)) :=
  ⟨⟨_, rfl⟩, ⟨_, rfl⟩, ⟨_, rfl⟩, ⟨_, rfl⟩, ⟨_, rfl⟩, ⟨_, rfl⟩, ⟨_, rfl⟩, ⟨_, rfl⟩, ⟨_, rfl⟩, ⟨_, rfl⟩, ⟨_, rfl⟩, ⟨_, rfl⟩, ⟨_, rfl⟩, ⟨_, rfl⟩, ⟨_, rfl⟩, ⟨_, rfl⟩, ⟨_, rfl⟩, ⟨_, rfl⟩, ⟨_, rfl⟩, ⟨_, rfl⟩, ⟨_, rfl⟩, ⟨_, rfl⟩, ⟨_, rfl⟩, ⟨_, rfl⟩, ⟨_, rfl⟩, ⟨_, rfl⟩, ⟨_, rfl⟩, ⟨_, rfl⟩, ⟨_, rfl⟩, ⟨_, rfl⟩, ⟨_, rfl⟩, ⟨_, rfl⟩, ⟨_, rfl⟩, ⟨_, rfl⟩, ⟨_, rfl⟩, ⟨_, rfl⟩⟩

theorem test_FrameOfPowerStage :
  ((fun (groups : BitVec 8) (s : State) => ∃ t, exec (.pairItemPrtReset groups) s = .next t) (2) (stLock)) ∧
  ((fun (m : Fin 8) (k : Fin 8) (d : LoopDecl) (s : State) => ∃ t, exec (.adcTrigger m k) s = .next t) (1) (0) (loop1) (stLoop)) ∧
  ((fun (m : Fin 8) (k : Fin 8) (a : Fin 16) (d : LoopDecl) (s : State) => ∃ t, exec (.adcTriggerDeferred m k a) s = .next t) (1) (1) (2) (loop1) (stLoop.setLp 1 { stLoop.lp 1 with event := some 0 })) ∧
  ((fun (m : Fin 8) (codes : List (List (BitVec 16))) (vOut : Int) (iOut : Int) (pos : List Nat) (zero : List (BitVec 32)) (time : Nat) (k : Nat) (d : LoopDecl) (s : State) => ∃ t, exec (.conversionEnd m codes vOut iOut pos zero time) s = .next t) (1) ([[7]]) (9) (8) ([]) ([]) (5) (0) (loop1) (stLoop.setLp 1 { stLoop.lp 1 with event := some 0 })) ∧
  ((fun (m : Fin 8) (pos : List Nat) (zero : List (BitVec 32)) (time : Nat) (d : LoopDecl) (ms : MissSt) (s : State) => ∃ t, exec (.exactCommit m pos zero time) s = .next t) (1) ([]) ([]) (5) (loop1) ({}) (stLoop.setLp 1 { stLoop.lp 1 with miss := some {} })) ∧
  ((fun (m : Fin 8) (d : LoopDecl) (s : State) => ∃ t, exec (.bwWindowEnd m) s = .next t) (1) (loop1) ((stLoop.setLp 1 { stLoop.lp 1 with winN := 1024, winOut := 21 }).wrb (F.SHT_LOOP_CTRL_AUTO_WIDTH 1) true)) ∧
  ((fun (m : Fin 8) (c : Fin 4) (frame : Bool) (d : LoopDecl) (s : State) => ∃ t, exec (.plausibilityAttribute m c frame) s = .next t) (1) (0) (true) (loop1) (stLoop.setLp 1 { stLoop.lp 1 with attributing := [0] })) ∧
  ((fun (side : Side) (m : Fin 8) (d : LoopDecl) (s : State) => ∃ t, exec (.plsFaultClear side m) s = .next t) (0) (1) (loop1) (stLoop.wrb (F.SHT_LOOP_STATUS_PLS_FAULT 1) true)) ∧
  ((fun (h : Fin 12) (err : Int) (codes : List (List (BitVec 16))) (s : State) => ∃ t, exec (.counterReload h err codes) s = .next t) (1) (1) ([]) (stLoop.wr (F.PWM_HB_COUNT_POSITION 1) 9)) ∧
  ((fun (h : Fin 12) (pos : Nat) (s : State) => ∃ t, exec (.pwmCommandChange h pos) s = .next t) (1) (160) (stLoop)) ∧
  ((fun (h : Fin 12) (interval : Nat) (s : State) => ∃ t, exec (.deadTimeEnd h interval) s = .next t) (1) (64) (stDrive.setHb 1 { waiting := some .high })) ∧
  ((fun (n : Fin 24) (byLevel : Bool) (s : State) => ∃ t, exec (.gateSegmentEnd n byLevel) s = .next t) (2) (true) (stDrive.setCh 2 { segmented := true, edge := .on, segs := [0, 0, 0, 0] })) ∧
  ((fun (side : Side) (m : Fin 8) (req : BitVec 4) (d : LoopDecl) (s : State) => ∃ t, exec (.modeRequest side 0x4D0E#16 m req) s = .next t) (0) (1) (5) (loop1) (stLoop)) ∧
  ((fun (m : Fin 8) (time : Nat) (target : Nat) (d : LoopDecl) (s : State) => ∃ t, exec (.handoverRetry m time) s = .next t) (1) (9) (5) (loop1) (stLoop.setLp 1 { stLoop.lp 1 with retry := some 5, byHost := true })) ∧
  ((fun (m : Fin 8) (time : Nat) (b : Nat) (st : StopSt) (s : State) => ∃ t, exec (.stopRampEnd m time) s = .next t) (1) (9000000000) (4) ({ start := [], k := 4, n := 9, began := some 4 }) (stLoop.setLp 1 { stLoop.lp 1 with stop := some { start := [], k := 4, n := 9, began := some 4 } })) ∧
  ((fun (side : Side) (m : Fin 8) (s : State) => ∃ t, exec (.hoFailClear side m) s = .next t) (0) (1) (stLoop.wrb (F.SHT_LOOP_MODE_HO_FAIL 1) true)) ∧
  ((fun (e : Fin 32) (time : Nat) (s : State) => ∃ t, exec (.rcPhaseTimeout e time) s = .next t) (4) (9) ((stLoop.setRc 4 { locked := true, fade := 9 }).wr (F.SHT_RC_CFG_SOURCE 4) 1)) ∧
  ((fun (e : Fin 32) (adc : Fin 16) (period : Nat) (tenthsDb : Int) (phase : BitVec 32) (time : Nat) (s : State) => ∃ t, exec (.rcSpectralEval e adc period tenthsDb phase time) s = .next t) (4) (0) (20000) (130) (77) (9) ((stLoop.wrb (F.SHT_RC_CFG_ENABLE 4) true).wr (F.SHT_RC_CFG_SOURCE 4) 2)) ∧
  ((fun (e : Fin 32) (s : State) => ∃ t, exec (.rcFadeEnd e) s = .next t) (4) (stLoop.setRc 4 { rising := true, fade := fadeOne })) ∧
  ((fun (e : Fin 32) (time : Nat) (s : State) => ∃ t, exec (.rcPeriodFreezeEnd e time) s = .next t) (4) (9) (stLoop.setRc 4 { freezePeriod := true, freezeEnd := 9 })) ∧
  ((fun (side : Side) (e : Fin 32) (s : State) => ∃ t, exec (.rcClear side e) s = .next t) (0) (4) (stLoop)) ∧
  ((fun (n : Fin 24) (vdd : BitVec 16) (vee : BitVec 16) (time : Nat) (s : State) => ∃ t, exec (.biasUndervoltage n vdd vee time) s = .next t) (2) (80) (0) (9) (stDrive)) ∧
  ((fun (n : Fin 24) (vdd : BitVec 16) (vee : BitVec 16) (s : State) => ∃ t, exec (.biasRelease n vdd vee) s = .next t) (2) (180) (0) ((stDrive.setCh 2 { lockVdd := true }).wr (F.GDI_CH_SUPPLY_VEE_UV 2) 0)) ∧
  ((fun (s : State) => ∃ t, exec (.enableOffHoldEnd) s = .next t) ((stLoop.wr (F.GDI_CH_STATUS_STATE 2) 1).wr F.GDA_STATUS_DRIVE 9)) ∧
  ((fun (n : Fin 24) (s : State) => ∃ t, exec (.refreshLoss n) s = .next t) (2) (stDrive.wr (F.GDI_CH_STATUS_STATE 2) onSt)) ∧
  ((fun (s : State) => ∃ t, exec (.auxDrvUndervoltage) s = .next t) (stDrive.wrb (F.GDA_HB_STATUS_OUT 2) true)) ∧
  ((fun (s : State) => ∃ t, exec (.auxDrvRecover) s = .next t) (stDrive.wrb F.GDA_STATUS_UV_DRV true)) ∧
  ((fun (a : Fin 6) (recovered : Bool) (s : State) => ∃ t, exec (.auxPeriodStart a recovered) s = .next t) (2) (true) (stDrive.setAux 2 { bstWait := true, periods := 63 })) ∧
  ((fun (a : Fin 6) (s : State) => ∃ t, exec (.bootstrapUndervoltage a) s = .next t) (2) (stDrive.wrb (F.GDA_HB_STATUS_OUT 2) true)) ∧
  ((fun (n : Fin 24) (g : Fin 8) (time : Nat) (s : State) => ∃ t, exec (.desatTrip n true time) s = .next t) (2) (1) (9) ((stDrive.wr (F.GDI_CH_STATUS_STATE 2) onSt).wrb (F.PRT_CH_DESAT_ENABLE 2) true)) ∧
  ((fun (h : Fin 12) (g : Fin 8) (time : Nat) (s : State) => ∃ t, exec (.hardShortTrip h true time) s = .next t) (1) (1) (9) (stDrive.wrb (F.PRT_HB_HS_ENABLE 1) true)) ∧
  ((fun (a : Fin 16) (g : Fin 8) (time : Nat) (s : State) => ∃ t, exec (.phaseCurrentTrip a true time) s = .next t) (2) (1) (9) (((stDrive.wrb (F.PRT_ADC_CFG_ENABLE 2) true).wr (F.PRT_ADC_CFG_HB 2) 1).wrb (F.PRT_ADC_CFG_ACTION 2) false)) ∧
  ((fun (n : Fin 24) (g : Fin 8) (time : Nat) (s : State) => ∃ t, exec (.gateVoltageTrip n true time) s = .next t) (2) (1) (9) ((stDrive.wr (F.GDI_CH_STATUS_STATE 2) onSt).wrb (F.PRT_CH_GATE_ENABLE 2) true)) ∧
  ((fun (n : Fin 24) (byTime : Bool) (s : State) => ∃ t, exec (.softOffEnd n byTime) s = .next t) (2) (true) (stDrive.wr (F.GDI_CH_STATUS_STATE 2) softSt)) ∧
  ((fun (g : Fin 8) (time : Nat) (kept : List Nat) (s : State) => ∃ t, exec (.tripCollectionEnd g time) s = .next t) (1) (5000) ([]) (stTrip)) ∧
  ((fun (g : Fin 8) (time : Nat) (s : State) => ∃ t, exec (.prtWaitEnd g time) s = .next t) (1) (9) (stDrive.wr (F.PRT_GRP_STATE_STATE 1) gWait)) ∧
  ((fun (g : Fin 8) (s : State) => ∃ t, exec (.prtRelease g) s = .next t) (1) (stDrive.wr (F.PRT_GRP_STATE_STATE 1) gCheck)) ∧
  ((fun (g : Fin 8) (time : Nat) (s : State) => ∃ t, exec (.prtReleaseTimeout g time) s = .next t) (1) (1000000000) (stDrive.wr (F.PRT_GRP_STATE_STATE 1) gCheck)) ∧
  ((fun (side : Side) (groups : BitVec 8) (s : State) => ∃ t, exec (.prtReset side 0x9C31#16 groups) s = .next t) (0) (2) (stLock)) ∧
  ((fun (side : Side) (groups : BitVec 8) (s : State) => ∃ t, exec (.prtTest side 0x9C31#16 groups) s = .next t) (0) (2) (stLock)) ∧
  ((fun (side : Side) (groups : BitVec 8) (s : State) => ∃ t, exec (.prtTestAbort side 0x9C31#16 groups) s = .next t) (0) (2) ((stDrive.wr (F.PRT_GRP_STATE_STATE 1) gTest).setGrp 1 { testItems := [(1, 2)], testFrom := gLockout })) ∧
  ((fun (g : Fin 8) (kind : Nat) (item : Nat) (rest : List (Nat × Nat)) (s : State) => ∃ t, exec (.prtTestItemDone g 1) s = .next t) (1) (1) (2) ([(1, 3)]) ((stDrive.wr (F.PRT_GRP_STATE_STATE 1) gTest).setGrp 1 { testItems := [(1, 2), (1, 3)] })) ∧
  ((fun (s : State) => ∃ t, exec (.firstOnEdgePermitted) s = .next t) ({ stDrive with gd.onPermitted := false })) ∧
  ((fun (n : Fin 24) (vdd : BitVec 16) (vee : BitVec 16) (time : Nat) (s : State) => ∃ t, exec (.barrierRefreshResume n vdd vee time) s = .next t) (3) (180) (0) (9) (stDrive.wr (F.GDI_CH_STATUS_STATE 3) 0)) :=
  ⟨⟨_, rfl⟩, ⟨_, rfl⟩, ⟨_, rfl⟩, ⟨_, rfl⟩, ⟨_, rfl⟩, ⟨_, rfl⟩, ⟨_, rfl⟩, ⟨_, rfl⟩, ⟨_, rfl⟩, ⟨_, rfl⟩, ⟨_, rfl⟩, ⟨_, rfl⟩, ⟨_, rfl⟩, ⟨_, rfl⟩, ⟨_, rfl⟩, ⟨_, rfl⟩, ⟨_, rfl⟩, ⟨_, rfl⟩, ⟨_, rfl⟩, ⟨_, rfl⟩, ⟨_, rfl⟩, ⟨_, rfl⟩, ⟨_, rfl⟩, ⟨_, rfl⟩, ⟨_, rfl⟩, ⟨_, rfl⟩, ⟨_, rfl⟩, ⟨_, rfl⟩, ⟨_, rfl⟩, ⟨_, rfl⟩, ⟨_, rfl⟩, ⟨_, rfl⟩, ⟨_, rfl⟩, ⟨_, rfl⟩, ⟨_, rfl⟩, ⟨_, rfl⟩, ⟨_, rfl⟩, ⟨_, rfl⟩, ⟨_, rfl⟩, ⟨_, rfl⟩, ⟨_, rfl⟩, ⟨_, rfl⟩, ⟨_, rfl⟩, ⟨_, rfl⟩⟩

theorem test_FrameOfThermalSafetyVehicle :
  ((fun (l : Fin 2) (s : State) => ∃ t, exec (.hkRoundStart) s = .next t) (0) (stCool)) ∧
  ((fun (raw : List Int) (flows : List Nat) (s : State) => ∃ t, exec (.hkRoundEnd raw flows) s = .next t) ([]) ([]) (stCool)) ∧
  ((fun (s : State) => ∃ t, exec (.thermalRestart) s = .next t) (stCool.wrb F.TH_STATUS_SHUTDOWN true)) ∧
  ((fun (l : Fin 2) (q : Nat) (s : State) => ∃ t, exec (.ffHoldEnd l) s = .next t) (0) (9) (stCool.setCool 0 { holdMax := some 9 })) ∧
  ((fun (l : Fin 2) (s : State) => ∃ t, exec (.flowFaultTimeout l false) s = .next t) (0) ((stCool.wr (F.TH_LOOP_STATUS_DUTY 0) 2000).wr (F.TH_LOOP_STATE_Q_DEM 0) 5)) ∧
  ((fun (iSq : Nat) (s : State) => ∃ t, exec (.observerStep iSq false) s = .next t) (9) (stCool)) ∧
  ((fun (cs : Fin 4) (s : State) => ∃ t, exec (.connectorStateChange cs) s = .next t) (2) (stVeh)) ∧
  ((fun (protocol : Fin 4) (control : Fin 4) (bpt : Bool) (s : State) => ∃ t, exec (.v2gSessionSetup protocol control bpt) s = .next t) (1) (1) (false) (({ stVst vPlugged with vlk.session := false } : State).wrb F.VLK_CFG_EN_20 true |>.wrb F.VLK_CFG_SCHED_EN true)) ∧
  ((fun (emaid : List Nat) (chainOk : Bool) (root : List Nat) (s : State) => ∃ t, exec (.v2gAuthorization emaid false chainOk root) s = .next t) ([65]) (false) ([]) (stVeh.wrb F.VLK_CFG_AUTO_AUTH true)) ∧
  ((fun (evVmax : BitVec 16) (s : State) => ∃ t, exec (.v2gCableCheck evVmax) s = .next t) (9000) (stVeh.wr F.VLK_STATUS_AUTH 2)) ∧
  ((fun (vTgt : BitVec 16) (s : State) => ∃ t, exec (.v2gPreCharge vTgt) s = .next t) (4000) ({ stVst vCableCheck with vlk.ccStep := 4 })) ∧
  ((fun (s : State) => ∃ t, exec (.v2gPowerDeliveryStart) s = .next t) (stVst vPreCharge)) ∧
  ((fun (iTgt : Int) (iMax : BitVec 16) (iDis : BitVec 16) (vMax : BitVec 16) (vTgt : BitVec 16) (pMax : BitVec 16) (discharge : Bool) (depart : BitVec 16) (energy : BitVec 16) (s : State) => ∃ t, exec (.v2gChargeLoop iTgt iMax iDis vMax vTgt pMax discharge depart energy) s = .next t) (500) (5000) (0) (9000) (8000) (300) (false) (0) (0) (stVst vCharge)) ∧
  ((fun (vehOpen : Bool) (s : State) => ∃ t, exec (.v2gStopRequest vehOpen) s = .next t) (true) (stVst vCharge)) ∧
  ((fun (s : State) => ∃ t, exec (.v2gEmergencyStop) s = .next t) (stVst vCharge)) ∧
  ((fun (side : Side) (s : State) => ∃ t, exec (.vlkAuthGrant side 0x5E21#16) s = .next t) (0) (stVeh.wr F.VLK_STATUS_AUTH 1)) ∧
  ((fun (side : Side) (s : State) => ∃ t, exec (.vlkAuthDeny side 0x5E21#16) s = .next t) (0) (stVeh.wr F.VLK_STATUS_AUTH 1)) ∧
  ((fun (side : Side) (s : State) => ∃ t, exec (.vlkStop side 0x5E21#16) s = .next t) (0) (stVst vCharge)) ∧
  ((fun (side : Side) (s : State) => ∃ t, exec (.vlkResetLockout side 0x5E21#16) s = .next t) (0) ((stVeh.wrb F.VLK_STATUS_LOCKOUT true).wrb (F.HBI_CRED_STATUS_MAINT_OPEN.bank 0) true)) ∧
  ((fun (side : Side) (s : State) => ∃ t, exec (.vlkEsd side 0x5E21#16) s = .next t) (0) (stVst vCharge)) ∧
  ((fun (s : State) => ∃ t, exec (.authWaitTimeout) s = .next t) (stVeh.wr F.VLK_STATUS_AUTH 1)) ∧
  ((fun (s : State) => ∃ t, exec (.outletContactorClose true) s = .next t) ({ stVst vCableCheck with mrk.outlet := some { planned := true }, mrk.leaseMs := 5 })) ∧
  ((fun (s : State) => ∃ t, exec (.outletAuxCloseTimeout) s = .next t) ({ stVst vCableCheck with vlk.ccStep := 1, vlk.soPos := true })) ∧
  ((fun (s : State) => ∃ t, exec (.cableCheckSettled) s = .next t) ({ stVst vCableCheck with vlk.ccStep := 2 })) ∧
  ((fun (s : State) => ∃ t, exec (.cableCheckTimeout) s = .next t) ({ stVst vCableCheck with vlk.ccStep := 3 })) ∧
  ((fun (avg : Int) (move : Nat) (vPos : Int) (vNeg : Int) (s : State) => ∃ t, exec (.imdHalfPeriod avg move vPos vNeg) s = .next t) (500) (3) (7) (8) ({ stVst vCharge with vlk.soPos := true })) ∧
  ((fun (s : State) => ∃ t, exec (.preChargeTimeout) s = .next t) (stVst vPreCharge)) ∧
  ((fun (s : State) => ∃ t, exec (.stopContactorOpen) s = .next t) ({ stVst vStopping with vlk.soPos := true, vlk.vehOpen := true })) ∧
  ((fun (s : State) => ∃ t, exec (.stopWaitExpiry) s = .next t) (stVst vStopping)) ∧
  ((fun (s : State) => ∃ t, exec (.outletAuxOpen) s = .next t) ({ stVst vStopping with vlk.auxPos := true })) ∧
  ((fun (s : State) => ∃ t, exec (.dischargeComplete) s = .next t) ({ stVst vStopping with vlk.soDsc := true })) ∧
  ((fun (s : State) => ∃ t, exec (.dischargeTimeout) s = .next t) ({ stVst vStopping with vlk.soDsc := true, met.pub.means := [0, 0, 1000000] })) ∧
  ((fun (s : State) => ∃ t, exec (.weldCheck) s = .next t) ({ stVst vStopping with vlk.weldDue := true, met.pub.means := [0, 0, 0, 0, 1000000, -1000000] })) ∧
  ((fun (s : State) => ∃ t, exec (.esdOpenDeadline) s = .next t) ({ stVst vFault with vlk.esd := true, vlk.soNeg := true })) ∧
  ((fun (readbacks : BitVec 24) (partnerDrive : BitVec 24) (s : State) => ∃ t, exec (.safetyEvaluation readbacks partnerDrive) s = .next t) (5) (0) (stLoop)) ∧
  ((fun (k : Fin 4) (chB : Bool) (closed : Bool) (held : Nat) (s : State) => ∃ t, exec (.safetyInputChange k chB closed held) s = .next t) (1) (false) (true) (500) (stCool.wrb (F.SAF_IN_CFG_ENABLE 1) true)) ∧
  ((fun (k : Fin 4) (ms : Nat) (s : State) => ∃ t, exec (.safetyDiscrepancy k ms) s = .next t) (1) (5000) (((stCool.wrb (F.SAF_IN_CFG_ENABLE 1) true).wrb (F.SAF_IN_CFG_MODE 1) false).setSafeIn 1 { a := true, firstA := true, firstB := true })) ∧
  ((fun (src : Nat) (cycle : Nat) (frame : SafetyFrame) (j : Nat) (s : State) => ∃ t, exec (.safetyFrameReceive src cycle frame true) s = .next t) (4) (7) (sfNext) (2) (stConn)) ∧
  ((fun (j : Fin 16) (s : State) => ∃ t, exec (.safetyWatchdogExpiry j) s = .next t) (2) (stConn)) ∧
  ((fun (i : Fin 24) (time : Nat) (s : State) => ∃ t, exec (.offPulseStart i time) s = .next t) (0) (500000000) (stCool)) ∧
  ((fun (i : Fin 24) (c : Nat) (s : State) => ∃ t, exec (.offPulseEnd i true true) s = .next t) (0) (0) ({ stCool with saf.pulsing := [0] })) ∧
  ((fun (i : Fin 24) (s : State) => ∃ t, exec (.readbackStuck i) s = .next t) (0) (stCool)) ∧
  ((fun (side : Side) (s : State) => ∃ t, exec (.safReset side 0x71D4#16) s = .next t) (0) (({ stCool with saf.record := some (1, 1) } : State).wrb (F.HBI_CRED_STATUS_SAFETY_OPEN.bank 0) true)) ∧
  ((fun (side : Side) (s : State) => ∃ t, exec (.safClearDemand side 0x71D4#16) s = .next t) (0) ({ stCool with saf.ownLatch := 5 })) ∧
  ((fun (side : Side) (s : State) => ∃ t, exec (.safSetPw side 0x71D4#16) s = .next t) (0) (((stCool.wrb (F.HBI_CRED_STATUS_MAINT_OPEN.bank 0) true).wr (F.SAF_PW_BUF 3) 99))) ∧
  ((fun (s : State) => ∃ t, exec (.paramCrcCheck true) s = .next t) (stCool)) ∧
  ((fun (s : State) => ∃ t, exec (.vehicleLinkTick) s = .next t) ({ stVeh with hbi.tackParts := [(11, 0)] })) ∧
  ((fun (s : State) => ∃ t, exec (.outletAuxClosed) s = .next t) ({ stVst vCableCheck with vlk.ccStep := 1 })) ∧
  ((fun (s : State) => ∃ t, exec (.outletAuxOpenTimeout) s = .next t) ({ stVst vStopping with vlk.auxPos := true })) ∧
  ((fun (s : State) => ∃ t, exec (.validPlanLapse) s = .next t) (stVst vCharge)) :=
  ⟨⟨_, rfl⟩, ⟨_, rfl⟩, ⟨_, rfl⟩, ⟨_, rfl⟩, ⟨_, rfl⟩, ⟨_, rfl⟩, ⟨_, rfl⟩, ⟨_, rfl⟩, ⟨_, rfl⟩, ⟨_, rfl⟩, ⟨_, rfl⟩, ⟨_, rfl⟩, ⟨_, rfl⟩, ⟨_, rfl⟩, ⟨_, rfl⟩, ⟨_, rfl⟩, ⟨_, rfl⟩, ⟨_, rfl⟩, ⟨_, rfl⟩, ⟨_, rfl⟩, ⟨_, rfl⟩, ⟨_, rfl⟩, ⟨_, rfl⟩, ⟨_, rfl⟩, ⟨_, rfl⟩, ⟨_, rfl⟩, ⟨_, rfl⟩, ⟨_, rfl⟩, ⟨_, rfl⟩, ⟨_, rfl⟩, ⟨_, rfl⟩, ⟨_, rfl⟩, ⟨_, rfl⟩, ⟨_, rfl⟩, ⟨_, rfl⟩, ⟨_, rfl⟩, ⟨_, rfl⟩, ⟨_, rfl⟩, ⟨_, rfl⟩, ⟨_, rfl⟩, ⟨_, rfl⟩, ⟨_, rfl⟩, ⟨_, rfl⟩, ⟨_, rfl⟩, ⟨_, rfl⟩, ⟨_, rfl⟩, ⟨_, rfl⟩, ⟨_, rfl⟩, ⟨_, rfl⟩, ⟨_, rfl⟩⟩

theorem test_FrameOfMeteringAndKeys :
  ((fun (codes : List Int) (rtc : Nat) (s : State) => ∃ t, exec (.ledgerTick codes rtc) s = .next t) ([]) (9) (stMet)) ∧
  ((fun (s : State) => ∃ t, exec (.periodicSave) s = .next t) ({ stMet with met.tot := { ledger := 16000 } })) ∧
  ((fun (s : State) => ∃ t, exec (.checkPairCount) s = .next t) ({ stMet with met.disagree := [8000, 0], met.tot.sess.isOpen := true })) ∧
  ((fun (iOuts : List Int) (s : State) => ∃ t, exec (.meterCrossCheck iOuts false) s = .next t) ([5000]) (({ stMet with met.xBad := 9 } : State).wrb F.MET_XCHK_CFG_ENABLE true)) ∧
  ((fun (ticks : Nat) (s : State) => ∃ t, exec (.meterResume ticks) s = .next t) (7) ({ stMet with met.booking := false })) ∧
  ((fun (rtc : Nat) (s : State) => ∃ t, exec (.selvedgeReset rtc) s = .next t) (7) (stMet)) ∧
  ((fun (i : Fin 8) (level : Bool) (time : Nat) (held : Nat) (s : State) => ∃ t, exec (.pulseInputEdge i level time held) s = .next t) (2) (true) (77) (90000) (stMet)) ∧
  ((fun (k : Fin 4) (b : Bool) (s : State) => ∃ t, exec (.pulseOutputUpdate k) s = .next t) (1) (false) (stMet.wr (F.MET_PO_CFG_QUANTITY 1) 9)) ∧
  ((fun (k : Fin 4) (s : State) => ∃ t, exec (.pulseOutputWidthEnd k) s = .next t) (1) ({ stMet with met.po := [(1, { active := true })] })) ∧
  ((fun (s : State) => ∃ t, exec (.partnerValuesSend) s = .next t) ({ stMet with pair.partnerAddr := 27 })) ∧
  ((fun (s : State) => ∃ t, exec (.standsTimeout) s = .next t) ({ stMet with met.tot := { ledger := 900, sess := { awaiting := true } } })) ∧
  ((fun (s : State) => ∃ t, exec (.mirrorRefresh) s = .next t) (stMet)) ∧
  ((fun (seq : Nat) (inst : Nat) (bytes : List Nat) (held : List Nat) (s : State) => ∃ t, exec (.mbxOffer seq true inst 0 bytes) s = .next t) (1) (34) ([7]) ([7, 8]) ({ stMet with pat.sealed := [(34, [7, 8])], bil.offerDiffers := [34] })) ∧
  ((fun (seq : Nat) (s : State) => ∃ t, exec (.mbxSeal seq true ) s = .next t) (1) (stMet)) ∧
  ((fun (seq : Nat) (tick : Nat) (calMs : Nat) (proven : Bool) (step : Nat) (s : State) => ∃ t, exec (.mbxCal seq true tick calMs proven step) s = .next t) (1) (9) (10) (true) (0) ({ stMet with met.tot := { ledger := 9, cal := 80, clock := 1 } })) ∧
  ((fun (seq : Nat) (close : Bool) (sid : Nat) (time : Nat) (source : Nat) (s : State) => ∃ t, exec (.mbxMark seq true close sid time source) s = .next t) (1) (true) (5) (6) (26) (stMet)) ∧
  ((fun (seq : Nat) (imp : Nat) (exp : Nat) (complete : Bool) (unbooked : Nat) (closed : Bool) (s : State) => ∃ t, exec (.mbxPartner seq true imp exp complete unbooked closed) s = .next t) (1) (5) (6) (true) (0) (false) (stMet)) ∧
  ((fun (seq : Nat) (weight : Nat) (s : State) => ∃ t, exec (.mbxPulse seq true false weight) s = .next t) (1) (5) ({ stMet with bil.isSite := true })) ∧
  ((fun (seq : Nat) (xchk : Bool) (s : State) => ∃ t, exec (.mbxFlag seq true xchk) s = .next t) (1) (true) (stMet)) ∧
  ((fun (seq : Nat) (holder : Nat) (record : Nat) (s : State) => ∃ t, exec (.mbxAck seq true holder record) s = .next t) (1) (3) (1) ({ stMet with bil.journal := [{ seq := 1 }] })) ∧
  ((fun (seq : Nat) (start : Bool) (phase : Bool) (s : State) => ∃ t, exec (.mbxImd seq true start phase) s = .next t) (1) (true) (false) (stMet)) ∧
  ((fun (seq : Nat) (offset : Nat) (bytes : List Nat) (s : State) => ∃ t, exec (.mbxSiteParam seq true offset bytes) s = .next t) (1) (0) ([7]) (stMet)) ∧
  ((fun (s : State) => ∃ t, exec (.calSend) s = .next t) (stMet.wrb F.TRG_CAL_STATUS_VALID true)) ∧
  ((fun (s : State) => ∃ t, exec (.calAdoptTimeout) s = .next t) ({ stMet with met.tot := { ledger := 80000, clock := 0 } })) ∧
  ((fun (side : Side) (s : State) => ∃ t, exec (.bilTimeSet side 0x8B17#16) s = .next t) (1) (((stShore.wrb (F.HBI_CRED_STATUS_MAINT_OPEN.bank 1) true).wrb F.TRG_CAL_STATUS_PTP_LOCK true).wrb F.BIL_STATUS_STEP_PENDING true)) ∧
  ((fun (side : Side) (s : State) => ∃ t, exec (.bilTamperAck side 0x8B17#16) s = .next t) (0) (({ stMet with bil.unacked := true } : State).wrb (F.HBI_CRED_STATUS_MAINT_OPEN.bank 0) true)) ∧
  ((fun (s : State) => ∃ t, exec (.intervalEnd) s = .next t) (stDue)) ∧
  ((fun (s : State) => ∃ t, exec (.tariffSwitch) s = .next t) ({ stMet with met.tot := { tariff := 3, clock := 1 } })) ∧
  ((fun (s : State) => ∃ t, exec (.demandSyncTimeout) s = .next t) ({ stDue with bil.isSite := true, bil.site := [0, 1, 1] })) ∧
  ((fun (b : Bnd) (bs : List Bnd) (s : State) => ∃ t, exec (.boundaryCommit) s = .next t) ({}) ([]) ({ stMet with met.bnd := [{}], met.tot := { ledger := 900 } })) ∧
  ((fun (r : JRec) (s : State) => ∃ t, exec (.recordSign) s = .next t) ({ seq := 1 }) ({ stMet with bil.journal := [{ seq := 1 }], key.legal := [1] })) ∧
  ((fun (terminal : Bool) (rtc : Nat) (k : Nat) (s : State) => ∃ t, exec (.tamperCoverEdge terminal true rtc) s = .next t) (true) (9) (1) ({ stMet with pat.content.roles := [{ instance_ := 34, kind := .outlet, tamper := 15 }], met.running := false })) ∧
  ((fun (x : Int) (y : Int) (z : Int) (rtc : Nat) (s : State) => ∃ t, exec (.hallReading x y z rtc) s = .next t) (500) (0) (0) (9) ({ stMet with pat.content.roles := [{ instance_ := 34, kind := .outlet, tamper := 8, hallHi := 9 }] })) ∧
  ((fun (side : Side) (s : State) => ∃ t, exec (.keySubmit side 0x47A3#16) s = .next t) (0) (stMet)) ∧
  ((fun (memOk : Bool) (side : Nat) (m : List Nat) (js : List QItem) (s : State) => ∃ t, exec (.keyOpImport memOk) s = .next t) (true) (0) ([0, 1]) ([]) ({ stMet with que.items := [(7, [{ kind := 1, body := [0, 0, 1] }])] })) ∧
  ((fun (memOk : Bool) (side : Nat) (m : List Nat) (js : List QItem) (s : State) => ∃ t, exec (.keyOpDelete memOk) s = .next t) (true) (0) ([0, 2]) ([]) ({ stMet with que.items := [(7, [{ kind := 1, body := [0, 0, 2] }])] })) ∧
  ((fun (memOk : Bool) (side : Nat) (m : List Nat) (js : List QItem) (s : State) => ∃ t, exec (.keyOpRevoke memOk) s = .next t) (true) (0) ([0, 3]) ([]) ({ stMet with que.items := [(7, [{ kind := 1, body := [0, 0, 3] }])] })) ∧
  ((fun (memOk : Bool) (side : Nat) (m : List Nat) (js : List QItem) (s : State) => ∃ t, exec (.keyOpSetClient memOk) s = .next t) (true) (0) ([0, 4]) ([]) ({ stMet with que.items := [(7, [{ kind := 1, body := [0, 0, 4] }])] })) ∧
  ((fun (memOk : Bool) (side : Nat) (m : List Nat) (js : List QItem) (s : State) => ∃ t, exec (.keyOpTrust memOk) s = .next t) (true) (0) ([0, 5]) ([]) ({ stMet with que.items := [(7, [{ kind := 1, body := [0, 0, 5] }])] })) ∧
  ((fun (memOk : Bool) (side : Nat) (m : List Nat) (js : List QItem) (s : State) => ∃ t, exec (.keyOpRelease memOk) s = .next t) (true) (0) ([0, 6]) ([]) ({ stMet with que.items := [(7, [{ kind := 1, body := [0, 0, 6] }])] })) ∧
  ((fun (s : State) => ∃ t, exec (.keyEnrol 0 0x47A3#16) s = .next t) ((stMet.wr F.KEY_STATUS_LC lcBound))) ∧
  ((fun (side : Side) (s : State) => ∃ t, exec (.enrolDataRead side) s = .next t) (0) (({ stMet with key.enrolPlaced := true } : State).wr (F.KEY_ENROL_DATA 11) 77)) ∧
  ((fun (side : Side) (s : State) => ∃ t, exec (.keyAttest side 0x47A3#16) s = .next t) (2) (stMet)) ∧
  ((fun (s : State) => ∃ t, exec (.keyDebug 0 0x47A3#16 true) s = .next t) (stMet.wr F.KEY_STATUS_LC lcOpen)) ∧
  ((fun (side : Side) (value : BitVec 32) (s : State) => ∃ t, exec (.certDataAccess side true value) s = .next t) (2) (77) (stMet)) ∧
  ((fun (s : State) => ∃ t, exec (.pairKeyErase) s = .next t) ({ stMet with key.pairHeld := [4, 3] })) :=
  ⟨⟨_, rfl⟩, ⟨_, rfl⟩, ⟨_, rfl⟩, ⟨_, rfl⟩, ⟨_, rfl⟩, ⟨_, rfl⟩, ⟨_, rfl⟩, ⟨_, rfl⟩, ⟨_, rfl⟩, ⟨_, rfl⟩, ⟨_, rfl⟩, ⟨_, rfl⟩, ⟨_, rfl⟩, ⟨_, rfl⟩, ⟨_, rfl⟩, ⟨_, rfl⟩, ⟨_, rfl⟩, ⟨_, rfl⟩, ⟨_, rfl⟩, ⟨_, rfl⟩, ⟨_, rfl⟩, ⟨_, rfl⟩, ⟨_, rfl⟩, ⟨_, rfl⟩, ⟨_, rfl⟩, ⟨_, rfl⟩, ⟨_, rfl⟩, ⟨_, rfl⟩, ⟨_, rfl⟩, ⟨_, rfl⟩, ⟨_, rfl⟩, ⟨_, rfl⟩, ⟨_, rfl⟩, ⟨_, rfl⟩, ⟨_, rfl⟩, ⟨_, rfl⟩, ⟨_, rfl⟩, ⟨_, rfl⟩, ⟨_, rfl⟩, ⟨_, rfl⟩, ⟨_, rfl⟩, ⟨_, rfl⟩, ⟨_, rfl⟩, ⟨_, rfl⟩, ⟨_, rfl⟩, ⟨_, rfl⟩⟩

theorem test_StepRunsFront : State.reset.pending = [] := rfl

theorem test_EveryStepCompletes : Completes State.reset := ⟨_, rfl⟩

theorem test_StepsKeepTheInvariant : stUp.canonical ∧ stUp.pendStaged = true ∧ Completes { stUp with pending := [.resetPin] } :=
  ⟨⟨by decide, by decide, by decide⟩, by decide, _, rfl⟩

theorem test_UnmappedAddresses :
  (0x3FFFC#32).toNat < 0x40000 ∧ regAt (0x3FFFC#32).toNat = none ∧ (0x3FFFC#32).toNat ≠ blockBase (blockOf (0x3FFFC#32).toNat) ∧
    stUp.inLull = false ∧ regAt (0x1FF0#32).toNat = none ∧ (0x1FF0#32).toNat ≠ blockBase (blockOf (0x1FF0#32).toNat) := by decide

theorem test_PlanNotHeld : stStack.inLull = false ∧ stStack.mrk.plan = none := by decide

theorem test_ParameterMismatch : stCool.inLull = false ∧ (true = true ∨ stCool.paramCrc ≠ stCool.rd F.SAF_PARAM_CRC) ∧ stCool.saf.record = none := ⟨by decide, Or.inl rfl, by decide⟩

end Sys2Proof.Tests
end

namespace Sys2Proof.Machine
open Sys2Proof
-- Proofs in sequence: in parallel, waiting threads' stacks take more memory than the check allows.
set_option Elab.async false

/-! ### Steady states: the queue of commands stands, and the invariant of the register stores is kept -/

/-- The invariant of the register stores: their canonical form, and what live writes wait (R67, R72, R77). -/
def State.sound (s : State) : Prop := s.canonical ∧ s.pendStaged = true

/-- From `s` a meaning leads to `t` with the commands that wait as they were, and keeps the invariant of the register stores. -/
structure Steady (s t : State) : Prop where
  pending : t.pending = s.pending
  sound : s.sound → t.sound

/-- A meaning answers a next state, steady from `s`: no fault and no refusal. -/
def Runs (s : State) : Out → Prop
  | .next t => Steady s t
  | _ => False

variable {o s t : State}

theorem Steady.refl (s : State) : Steady s s := ⟨rfl, id⟩

theorem Steady.trans (h : Steady o s) (k : Steady s t) : Steady o t := ⟨k.pending.trans h.pending, k.sound ∘ h.sound⟩

/-- A state that is used more than once is shown steady once. -/
theorem Steady.thru (h : Steady o s) (k : Steady o s → Steady o t) : Steady o t := k h

theorem Steady.ite {c : Prop} {_ : Decidable c} (h : Steady o s) (k : Steady o t) : Steady o (if c then s else t) := by
  split
  · exact h
  · exact k

theorem Steady.dite {c : Prop} {_ : Decidable c} {f : c → State} {g : ¬c → State}
    (h : ∀ x, Steady o (f x)) (k : ∀ x, Steady o (g x)) :
    Steady o (if x : c then f x else g x) := by
  split
  · exact h _
  · exact k _

theorem Runs.ite {c : Prop} {_ : Decidable c} {a b : Out} (h : Runs o a) (k : Runs o b) : Runs o (if c then a else b) := by
  split
  · exact h
  · exact k

theorem Runs.dite {c : Prop} {_ : Decidable c} {f : c → Out} {g : ¬c → Out} (h : ∀ x, Runs o (f x)) (k : ∀ x, Runs o (g x)) :
    Runs o (if x : c then f x else g x) := by
  split
  · exact h _
  · exact k _

theorem Steady.foldl {α : Type} {f : State → α → State} {xs : List α} (h : Steady o s)
    (k : ∀ {t x}, Steady o t → Steady o (f t x)) : Steady o (xs.foldl f s) := by
  induction xs generalizing s with
  | nil => exact h
  | cons x xs ih => exact ih (k h)

theorem Steady.foldlMem {α : Type} {f : State → α → State} {xs : List α} (h : Steady o s)
    (k : ∀ {t x}, x ∈ xs → Steady o t → Steady o (f t x)) : Steady o (xs.foldl f s) := by
  induction xs generalizing s with
  | nil => exact h
  | cons x xs ih => exact ih (k (List.mem_cons_self ..) h) fun hx => k (List.mem_cons_of_mem _ hx)

/-- A change of parts of the state beside the register stores and the host interface. -/
theorem Steady.set (h : Steady o s) {drawn que bar sys pat gd sht prt pair trg mrk th vlk met bil key saf clk} :
    Steady o ⟨s.pending, s.live, s.shadow, s.tbuf, drawn, s.hbi, que, bar, sys, pat, gd, sht, prt, pair, trg, mrk, th, vlk, met, bil,
      key, saf, clk⟩ :=
  ⟨h.pending, h.sound⟩

/-- So does one of the host interface that leaves the live writes that wait. -/
theorem Steady.setHbi (h : Steady o s) {drawn hbi que bar sys pat gd sht prt pair trg mrk th vlk met bil key saf clk}
    (hp : hbi.pfgPending = s.hbi.pfgPending := by rfl) :
    Steady o ⟨s.pending, s.live, s.shadow, s.tbuf, drawn, hbi, que, bar, sys, pat, gd, sht, prt, pair, trg, mrk, th, vlk, met, bil,
      key, saf, clk⟩ := by
  refine ⟨h.pending, fun hs => ⟨(h.sound hs).1, ?_⟩⟩
  simpa [State.pendStaged, hp] using (h.sound hs).2

/-- A change of the register stores and of the live writes that wait, each of which keeps its invariant. -/
theorem Steady.setStores (h : Steady o s)
    {live shadow tbuf drawn hbi que bar sys pat gd sht prt pair trg mrk th vlk met bil key saf clk}
    (hl : SMap.wf resetCell s.live = true → SMap.wf resetCell live = true)
    (hd : SMap.wf resetCell s.shadow = true → SMap.wf resetCell shadow = true)
    (hb : SMap.wf resetCell s.tbuf = true → SMap.wf resetCell tbuf = true)
    (hp : ∀ e ∈ hbi.pfgPending, e ∈ s.hbi.pfgPending ∨ stagedKey e.2.1 = true) :
    Steady o ⟨s.pending, live, shadow, tbuf, drawn, hbi, que, bar, sys, pat, gd, sht, prt, pair, trg, mrk, th, vlk, met, bil, key, saf,
      clk⟩ := by
  refine h.trans ⟨rfl, fun ⟨⟨cl, cs, cb⟩, staged⟩ => ⟨⟨hl cl, hd cs, hb cb⟩, ?_⟩⟩
  simp only [State.pendStaged, List.all_eq_true] at staged ⊢
  exact fun e he => (hp e he).elim (staged e) id

theorem Steady.wr (h : Steady o s) {f v} : Steady o (s.wr f v) :=
  h.setStores (SMap.wf_set _ _) id id fun _ he => .inl he


/-! ### Meanings of Machine/Ops.lean -/

theorem Steady.wrb (hs : Steady o s) {f b} : Steady o (s.wrb f b) := hs.wr

theorem Steady.wri (hs : Steady o s) {f i} : Steady o (s.wri f i) := hs.wr

theorem Steady.wrisat (hs : Steady o s) {f i} : Steady o (s.wrisat f i) := hs.wri

theorem Steady.wrsat (hs : Steady o s) {f v} : Steady o (s.wrsat f v) := hs.wr

theorem Steady.inc (hs : Steady o s) {f n} : Steady o (s.inc f n) := hs.wrsat

theorem Steady.wr64 (hs : Steady o s) {lo v} : Steady o (s.wr64 lo v) := hs.wr.wr

theorem Steady.load (hs : Steady o s) {k v} : Steady o (s.load k v) :=
  hs.setStores (SMap.wf_set _ _) (SMap.wf_set _ _) (SMap.wf_set _ _) fun _ he => .inl he

theorem Steady.draw (hs : Steady o s) (tag) : Steady o (s.draw tag).2 := hs.set

theorem Steady.queLevel (hs : Steady o s) {n level} : Steady o (s.queLevel n level) := hs.wr.wr.wr.thru fun hs => .ite hs.wr hs

theorem Steady.setQ (hs : Steady o s) {n xs} : Steady o (s.setQ n xs) := hs.set.queLevel

theorem Steady.enqueue (hs : Steady o s) {n x} : Steady o (s.enqueue n x) := .ite hs.setQ hs.inc

theorem Steady.enqueueOldest (hs : Steady o s) {n x} : Steady o (s.enqueueOldest n x) := .ite hs.setQ hs.setQ.inc

theorem Steady.place (hs : Steady o s) {n x} : Steady o (s.place n x) := .ite hs.setQ hs.set

theorem Steady.placeAll (hs : Steady o s) {n xs} : Steady o (s.placeAll n xs) := .ite hs.setQ hs.inc

theorem Steady.ringSend (hs : Steady o s) {queue channel dest body} : Steady o (s.ringSend queue channel dest body) :=
  hs.foldl fun hs => hs.place

theorem Steady.ringReply (hs : Steady o s) {channel dest body} : Steady o (s.ringReply channel dest body) := hs.placeAll

theorem Steady.setQ0 (hs : Steady o s) {xs} : Steady o (s.setQ0 xs) := hs.set.queLevel

theorem Steady.enterQ0 (hs : Steady o s) {e} : Steady o (s.enterQ0 e) :=
  .ite hs.setQ0 (by split; exacts [hs.setQ0.inc, .ite hs.setQ0.inc hs.inc])

theorem Steady.setQ11 (hs : Steady o s) {xs} : Steady o (s.setQ11 xs) := hs.set.queLevel.wrb

theorem Steady.ringOver (hs : Steady o s) : Steady o s.ringOver := by
  unfold State.ringOver
  split; exacts [hs, hs.set.inc.wrb]

theorem Steady.ringStore (hs : Steady o s) {e} : Steady o (s.ringStore e) := hs.set.wr

theorem Steady.ringFlags (hs : Steady o s) {e} : Steady o (s.ringFlags e) := .ite (.ite hs.wrb hs) (.ite hs.wrb hs)

theorem Steady.ringMailbox (hs : Steady o s) {e} : Steady o (s.ringMailbox e) := .ite (.ite hs.setQ11 hs.inc) hs

theorem Steady.ringWrite (hs : Steady o s) {e} : Steady o (s.ringWrite e) := hs.ringOver.ringStore.ringFlags.ringMailbox

theorem Steady.squallPend (hs : Steady o s) {e} : Steady o (s.squallPend e) := hs.set

theorem Steady.event (hs : Steady o s) {code arg} : Steady o (s.event code arg) :=
  (Steady.ite hs.ringWrite hs.enterQ0).thru fun hs => .ite hs.squallPend hs

theorem Steady.configError (hs : Steady o s) {kind item} : Steady o (s.configError kind item) := hs.event

theorem Steady.barAdd (hs : Steady o s) {id n} : Steady o (s.barAdd id n) := hs.set

/-! ### Meanings of Machine/Baro.lean -/

theorem Steady.barSave (hs : Steady o s) : Steady o s.barSave := hs.set.wr

theorem Steady.barBlock (hs : Steady o s) {reason page} : Steady o (s.barBlock reason page) := hs.set.wr.foldl fun hs => hs.enqueueOldest

theorem Steady.barBlocks (hs : Steady o s) {reason} : Steady o (s.barBlocks reason) := hs.foldl fun hs => hs.barBlock

theorem Steady.stackEnergy (hs : Steady o s) {e} : Steady o (s.stackEnergy e) := .ite hs.set.barAdd hs.set.barAdd

theorem Steady.contactorOp (hs : Steady o s) {k breakA load} : Steady o (s.contactorOp k breakA load) := by
  unfold State.contactorOp
  split; exacts [hs, hs.set]

theorem Steady.closeRange (hs : Steady o s) {dt full} : Steady o (s.closeRange dt full) := .ite hs hs.set.barAdd

theorem Steady.rainflow (hs : Steady o s) {t} : Steady o (s.rainflow t) :=
  (hs.foldl fun hs => hs.closeRange).thru fun hs => .ite hs.set.closeRange hs.set

theorem Steady.tempAdd (hs : Steady o s) {i rounds} : Steady o (s.tempAdd i rounds) := hs.set

/-! ### Meanings of Machine/Params.lean -/

theorem Steady.safLog (hs : Steady o s) {kind origin client cause oldCrc newCrc fields first} : Steady o (s.safLog kind origin client
    cause oldCrc newCrc fields first) :=
  (Steady.ite hs hs.inc).wr64.set

theorem Steady.paramsApplied (hs : Steady o s) {old} : Steady o (s.paramsApplied old) := by
  unfold State.paramsApplied
  dsimp only
  split; exacts [hs, hs.wr.set.safLog]

/-! ### Meanings of Machine/Tack.lean -/

theorem Steady.pfgError (hs : Steady o s) {g} : Steady o (s.pfgError g) := hs.inc.wr.configError

theorem Steady.showPending (hs : Steady o s) : Steady o s.showPending := hs.wr

theorem Steady.fitPhases (hs : Steady o s) {apply} : Steady o (s.fitPhases apply) := hs.foldl fun hs => hs.wr

/-- A fold of writes keeps a store canonical. -/
theorem wf_foldl_set (key val : Nat → Nat) (xs : List Nat) {m : SMap Nat} (h : SMap.wf resetCell m = true) :
    SMap.wf resetCell (xs.foldl (fun (m : SMap Nat) x => SMap.set resetCell (key x) (val x) m) m) = true := by
  induction xs generalizing m with
  | nil => exact h
  | cons x xs ih => exact ih (SMap.wf_set _ _ h)

theorem Steady.applyParts (hs : Steady o s) {parts} : Steady o (s.applyParts parts) := by
  unfold State.applyParts
  refine .ite hs (.foldl (.foldl (.foldl (.foldl (.showPending (.fitPhases ?_)) fun hs => hs.pfgError) fun hs => hs.wrb.configError)
    fun hs => hs.configError) fun hs => hs.configError)
  exact hs.setStores (fun hl => wf_foldl_set id _ _ (SMap.wf_copyKeys _ _ _ hl)) id id fun _ he => .inl (List.mem_of_mem_filter he)

theorem Steady.boundary (hs : Steady o s) {parts} : Steady o (s.boundary parts) := hs.applyParts.paramsApplied

theorem Steady.tack (hs : Steady o s) {mask} : Steady o (s.tack mask) := by
  unfold State.tack
  refine .boundary (.showPending ?_)
  exact hs.setStores id id (SMap.wf_copyKeys _ _ _) fun _ he => .inl he

theorem Steady.applyAtOnce (hs : Steady o s) : Steady o s.applyAtOnce := hs.boundary

/-! ### Meanings of Machine/Access.lean -/

theorem Steady.accessError (hs : Steady o s) {side code addr path} : Steady o (s.accessError side code addr path) :=
  hs.wr.wr.wr.wr.inc.setHbi.thru fun hs => .ite hs.setHbi hs

theorem Steady.accepted (hs : Steady o s) {side} : Steady o (s.accepted side) := hs.setHbi.thru fun hs => .ite hs.setHbi hs

theorem Steady.basic (hs : Steady o s) {side blocks} : Steady o (s.basic side blocks) := hs.foldl fun hs => hs.wrb

theorem Steady.closeCreds (hs : Steady o s) {side maint safety} : Steady o (s.closeCreds side maint safety) :=
  (Steady.ite hs.wrb hs).thru fun hs => (Steady.ite hs.wrb hs).thru fun hs => .ite hs.basic (.ite hs.basic hs)

theorem Steady.setSide (hs : Steady o s) {k x} : Steady o (s.setSide k x) := hs.setHbi

theorem Steady.endSide (hs : Steady o s) {side} : Steady o (s.endSide side) :=
  hs.closeCreds.setSide.setStores (SMap.wf_filter _) id id fun _ he => .inl he

theorem Steady.command (hs : Steady o s) {side addr key want f} (hf : ∀ {s}, Steady o s → Steady o (f s)) :
    Steady o (s.command side addr key want f) :=
  .ite hs.accessError (.ite hs.accessError (hf hs.accepted))

theorem Steady.writeField (hs : Steady o s) {addr side v f} : Steady o (s.writeField addr side v f) := by
  have staged : ∀ written, Steady o { s with
      shadow := SMap.set resetCell (f.at addr side).key (f.bits v) s.shadow, hbi.pfgWritten := written } := fun _ =>
    hs.setStores id (SMap.wf_set _ _) id fun _ he => .inl he
  unfold State.writeField
  dsimp only
  split
  · exact hs
  · exact hs
  · exact hs.wr
  · exact hs.wr
  · exact hs.wr
  · exact hs.wr
  · exact staged _
  · exact staged _

theorem Steady.writeFields (hs : Steady o s) {side addr v} : Steady o (s.writeFields side addr v) := by
  unfold State.writeFields
  split; exacts [hs, (hs.foldl fun hs => hs.writeField)]

theorem Steady.writeReg (hs : Steady o s) {side addr v path} : Steady o (s.writeReg side addr v path) := by
  unfold State.writeReg
  split; exacts [hs.accessError, (hs.writeFields.thru fun hs => (Steady.ite hs.set hs).paramsApplied.accepted)]

theorem Steady.clearRc (hs : Steady o s) {addr side r} : Steady o (s.clearRc addr side r) := hs.foldl fun hs => .ite hs.wr hs

/-- The fields of a register lie in its word, at places of their own. -/
def RegDef.placed (r : RegDef) : Prop := (∀ f ∈ r.fields, f.lsb < 32) ∧ (r.fields.map (·.lsb)).Nodup

/-- The field at a place of a placed register is found by it. -/
theorem RegDef.placed.find {r : RegDef} (h : r.placed) {f : FieldDef} (hf : f ∈ r.fields) :
    r.fields.find? (·.lsb == f.lsb) = some f := by
  obtain ⟨as, bs, e⟩ := List.append_of_mem hf
  refine List.find?_eq_some_iff_append.mpr ⟨by simp, as, bs, e, fun a ha => ?_⟩
  have distinct := h.2
  simp only [e, List.map_append, List.map_cons, List.nodup_append] at distinct
  simpa using distinct.2.2 a.lsb (List.mem_map_of_mem ha) f.lsb (List.mem_cons_self ..)

/-- Every register of some maps is placed, as a check of each map. -/
def allPlaced (rs : List RegDef) : Bool := rs.all fun r => r.fields.all (·.lsb < 32) && decide (r.fields.map (·.lsb)).Nodup

theorem allPlaced_ite {c : Prop} [Decidable c] {xs ys : List RegDef} (hx : allPlaced xs = true) (hy : allPlaced ys = true) :
    allPlaced (if c then xs else ys) = true := by
  split
  · exact hx
  · exact hy

theorem regsAt_allPlaced (addr : Nat) : allPlaced (regsAt addr) = true := by
  unfold regsAt
  iterate 20 refine allPlaced_ite (by decide) ?_
  rfl

theorem regAt_placed {addr : Nat} {r : RegDef} (h : regAt addr = some r) : r.placed := by
  have placed := List.all_eq_true.mp (regsAt_allPlaced addr) r (List.mem_of_find?_eq_some h)
  simpa [RegDef.placed] using placed

/-- A register lies below the bank stride. -/
theorem regAt_lt {addr : Nat} {r : RegDef} (h : regAt addr = some r) : addr < bankStride := by
  by_contra hn
  have high : 0x10000000 ≤ addr := Nat.le_of_not_lt hn
  have none : regsAt addr = [] := by
    unfold regsAt
    iterate 19 rw [if_neg (by omega)]
    exact if_neg (by simp; omega)
  rw [regAt, none] at h
  exact nomatch h

/-- A key spells the address and the place of its field, whatever bank it lies in. -/
theorem key_place {a l n b : Nat} (hl : l < 32) (ha : a < b) : ((a + n * b) * 32 + l) / 32 % b = a ∧ ((a + n * b) * 32 + l) % 32 = l := by
  refine ⟨?_, by omega⟩
  rw [show ((a + n * b) * 32 + l) / 32 = a + n * b by omega, Nat.add_mul_mod_self_right, Nat.mod_eq_of_lt ha]

theorem FieldDef.at_key (f : FieldDef) (addr side : Nat) :
    (f.at addr side).key = (addr + (if perSide addr then side else 0) * bankStride) * 32 + f.lsb := rfl

/-- A staged field of a register has a shadow, in every side's copy. -/
theorem stagedKey_at {addr : Nat} {r : RegDef} {f : FieldDef} (h : regAt addr = some r) (hf : f ∈ r.fields) (hs : f.staged = true)
    (side : Nat) : stagedKey (f.at addr side).key = true := by
  have ⟨place, bit⟩ := key_place (n := if perSide addr then side else 0) ((regAt_placed h).1 f hf) (regAt_lt h)
  rw [FieldDef.at_key, stagedKey, fieldDefAt, place, bit, h, Option.bind_some, (regAt_placed h).find hf]
  exact hs

theorem Steady.liveField (hs : Steady o s) {side addr v r f} (hr : regAt addr = some r) (hf : f ∈ r.fields) :
    Steady o (s.liveField side addr v f) := by
  unfold State.liveField
  split
  next => exact hs
  next lv =>
    have held : stagedKey (f.at addr side).key = true := stagedKey_at hr hf (by simp_all [FieldDef.staged]) side
    dsimp only
    split
    · exact hs.setStores id (SMap.wf_set _ _) (SMap.wf_set _ _) fun _ he => .inl he
    · refine hs.setStores id (SMap.wf_set _ _) (SMap.wf_set _ _) fun e he => ?_
      rcases List.mem_cons.mp he with rfl | he
      · exact .inr held
      · exact .inl (List.mem_of_mem_filter he)

theorem Steady.liveWrite (hs : Steady o s) {side addr v} : Steady o (s.liveWrite side addr v) := by
  unfold State.liveWrite
  split
  · exact hs.accessError
  · split
    next => exact hs
    next hr => exact hs.accepted.foldlMem fun hf hs => hs.liveField hr hf

/-! ### Meanings of Machine/Selvedge.lean -/

theorem Steady.showSealed (hs : Steady o s) : Steady o s.showSealed := hs.wrb.wrb

theorem Steady.closeInterval (hs : Steady o s) {setBack extra} : Steady o (s.closeInterval setBack extra) := hs.set.wrb

theorem Steady.closeDue (hs : Steady o s) : Steady o s.closeDue := .ite hs.set.closeInterval hs.closeInterval

theorem Steady.closeAtTick (hs : Steady o s) {setBack} : Steady o (s.closeAtTick setBack) := hs.set

theorem Steady.intervalStep (hs : Steady o s) : Steady o s.intervalStep := by
  unfold State.intervalStep
  split; exacts [.ite hs.set.closeInterval (.ite hs.closeDue hs), .ite hs.closeDue hs]

theorem Steady.tariffStep (hs : Steady o s) : Steady o s.tariffStep := (Steady.ite hs.set hs).thru fun hs => .ite hs hs.set.wrb

theorem Steady.checkPairs (hs : Steady o s) : Steady o s.checkPairs :=
  hs.set.thru fun hs => .ite ((Steady.ite hs.set hs).thru fun hs => .ite hs hs.wrb.event) hs

theorem Steady.jrnlWrite (hs : Steady o s) {typ flags ledger cal body} : Steady o (s.jrnlWrite typ flags ledger cal body).1 := by
  unfold State.jrnlWrite
  dsimp only
  generalize (if typ == 1 || (2 < s.jrnlFree && !((s.met.tot.sess.isOpen || s.met.tot.sess.awaiting) && s.jrnlFree < 8)) then
    s.placeFor (if typ == 1 then 2 else 1) else none) = place
  cases place with
  | none => exact hs
  | some i => exact .ite hs.set.wrb.event hs.set

theorem Steady.commitBnd (hs : Steady o s) {b extra saveSeq} : Steady o (s.commitBnd b extra saveSeq) :=
  .ite hs (.ite hs.set.wrb hs.jrnlWrite)

theorem Steady.sessionRecord (hs : Steady o s) {extra} : Steady o (s.sessionRecord extra) := hs.set.jrnlWrite

theorem Steady.trySession (hs : Steady o s) {timeout} : Steady o (s.trySession timeout) := .ite hs.sessionRecord hs

theorem Steady.openSess (hs : Steady o s) {m} : Steady o (s.openSess m) := (Steady.ite hs.sessionRecord hs).set

theorem Steady.closeSess (hs : Steady o s) {late} : Steady o (s.closeSess late) :=
  hs.set.thru fun hs => (Steady.ite hs.wrb.event hs).trySession

theorem Steady.applyMark (hs : Steady o s) {force} : Steady o (s.applyMark force) := by
  unfold State.applyMark
  split; exacts [hs, (.ite hs (.ite (hs.set.thru fun hs => .ite hs.closeSess hs) (.ite hs.set.closeSess hs.set.openSess)))]

theorem Steady.applyMarks (hs : Steady o s) {force} : Steady o (s.applyMarks force) := hs.foldl fun hs => hs.applyMark

theorem Steady.setRtc (hs : Steady o s) {n} : Steady o (s.setRtc n) := .ite hs.wr64 hs

theorem Steady.metSave (hs : Steady o s) {earlyWarning records} : Steady o (s.metSave earlyWarning records) := hs.set

theorem Steady.settle (hs : Steady o s) : Steady o s.settle := hs.intervalStep.tariffStep.checkPairs

theorem Steady.metGap (hs : Steady o s) {ticks} : Steady o (s.metGap ticks) := hs.set

theorem Steady.unsavedEvent (hs : Steady o s) {bound} : Steady o (s.unsavedEvent bound) := hs.set.wrb.event

theorem Steady.powerFail (hs : Steady o s) : Steady o s.powerFail :=
  .ite hs (hs.settle.thru fun hs => Steady.thru (by split; exacts [(hs.set.thru fun hs => .ite hs hs.closeInterval), .ite hs.closeDue hs])
    fun hs => ((Steady.ite hs.set hs).applyMarks.foldl fun hs => hs.commitBnd).thru fun hs => (Steady.ite hs.sessionRecord
    hs).set.metSave)

theorem Steady.recover (hs : Steady o s) : Steady o s.recover := by
  unfold State.recover
  dsimp only
  split
  · exact hs.set
  · refine .thru (.thru (.thru ?_ fun hs => .ite hs.commitBnd.wrb.event hs) fun hs => .ite hs.set.unsavedEvent hs.set) fun hs =>
      .ite hs.unsavedEvent hs
    split
    · exact .ite hs.set hs.set
    · exact hs.set

theorem Steady.signAll (hs : Steady o s) : Steady o s.signAll := .ite hs hs.set

theorem Steady.tamperRecord (hs : Steady o s) {kind onset vin rtc b} : Steady o (s.tamperRecord kind onset vin rtc b) :=
  .ite hs.jrnlWrite hs.jrnlWrite.set

theorem Steady.selStart (hs : Steady o s) : Steady o s.selStart := (hs.recover.foldl fun hs => hs.tamperRecord).set.wr.signAll.jrnlWrite

theorem Steady.bookTick (hs : Steady o s) {codes rtc} : Steady o (s.bookTick codes rtc) :=
  hs.setRtc.settle.applyMarks.set.thru fun hs => (Steady.ite hs.barAdd.barAdd hs).thru fun hs => .ite (hs.wrb.thru fun hs => .ite hs
    hs.event) hs

theorem Steady.mirrorMet (hs : Steady o s) : Steady o s.mirrorMet :=
  hs.wr64.wr64.wr64.wr64.wr.wrsat.wrsat.wr.wr.wrb.wrb.wrb.wrb.wrb.wrb.wrb.wrb

theorem Steady.mirrorBil (hs : Steady o s) : Steady o s.mirrorBil :=
  (hs.wr64.wr64.wr64.wr64.wr64.wrsat.wrsat.wrsat.wrsat.wrsat.wr.wr64.wr.foldl fun hs =>
    hs.wr64.wr64).wrb.wrb.wrb.wrb.wrb.wr.wr.wrb.wr.wrb.wr.wr.wr.wrb.wrb.wrb.wrb.wrb

/-! ### Meanings of Machine/Gate.lean -/

theorem Steady.setCh (hs : Steady o s) {n c} : Steady o (s.setCh n c) := hs.set

theorem Steady.setHb (hs : Steady o s) {h x} : Steady o (s.setHb h x) := hs.set

theorem Steady.setChState (hs : Steady o s) {n st} : Steady o (s.setChState n st) := hs.wr.wr.thru fun hs => .ite hs.wrb hs.wrb

theorem Steady.startEdge (hs : Steady o s) {n on} : Steady o (s.startEdge n on) := (Steady.ite hs hs.wr).setCh.setChState

theorem Steady.offEdge (hs : Steady o s) {n} : Steady o (s.offEdge n) := .ite hs.startEdge hs

theorem Steady.cancelWait (hs : Steady o s) {h} : Steady o (s.cancelWait h) := by
  unfold State.cancelWait
  split; exacts [hs, hs.setHb.inc]

theorem Steady.hbOff (hs : Steady o s) {h} : Steady o (s.hbOff h) := hs.setHb.offEdge.offEdge

theorem Steady.follow (hs : Steady o s) {h} : Steady o (s.follow h) :=
  (Steady.ite hs hs.offEdge).thru fun hs => (Steady.ite hs hs.offEdge).thru fun hs => Steady.thru
    (by split; exacts [.ite hs hs.cancelWait, .ite hs hs.cancelWait, hs]) fun hs => .ite hs.setHb (.ite hs.setHb hs)

theorem Steady.showHeld (hs : Steady o s) {h} : Steady o (s.showHeld h) := hs.wrb

theorem Steady.hold (hs : Steady o s) {h who} : Steady o (s.hold h who) := hs.setHb.hbOff.showHeld

theorem Steady.release (hs : Steady o s) {h who} : Steady o (s.release h who) := hs.setHb.showHeld.follow

theorem Steady.setAux (hs : Steady o s) {a x} : Steady o (s.setAux a x) := hs.set

theorem Steady.auxSink (hs : Steady o s) {a} : Steady o (s.auxSink a) := hs.setAux.wrb

theorem Steady.enableRise (hs : Steady o s) : Steady o s.enableRise :=
  hs.set.thru fun hs => (Steady.ite hs.wr hs).foldl fun hs => .ite hs (hs.wrb.thru fun hs => .ite hs.setChState hs)

theorem Steady.releasePulse (hs : Steady o s) {k} : Steady o (s.releasePulse k) := hs.set.wrb

theorem Steady.releasePulses (hs : Steady o s) {all} : Steady o (s.releasePulses all) := hs.foldl fun hs => .ite hs.releasePulse hs

theorem Steady.enableFall (hs : Steady o s) : Steady o s.enableFall :=
  ((hs.set.foldl fun hs => hs.wrb.offEdge).foldl fun hs => hs.setHb).foldl fun hs => hs.auxSink

theorem Steady.enterHighz (hs : Steady o s) : Steady o s.enterHighz := by
  unfold State.enterHighz
  exact (hs.foldl fun hs => .ite hs hs.setChState).thru fun hs => .ite hs hs.wr

/-! ### Meanings of Machine/Claims.lean -/

theorem Steady.startDone (hs : Steady o s) : Steady o s.startDone := hs.wr.wrb

theorem Steady.stepEight (hs : Steady o s) {n} : Steady o (s.stepEight n) := .ite hs (hs.wrsat.thru fun hs => .ite hs.wr hs.startDone)

theorem Steady.setPairState (hs : Steady o s) {n} : Steady o (s.setPairState n) := hs.wr.stepEight

theorem Steady.showLock (hs : Steady o s) : Steady o s.showLock := hs.wrb

theorem Steady.setEn (hs : Steady o s) {e} : Steady o (s.setEn e) :=
  .ite hs.showLock (.ite hs.wrb.wrsat.set.wrb.enableRise.showLock hs.wrb.wrb.wrb.enableFall.releasePulses.showLock)

theorem Steady.discardAhead (hs : Steady o s) : Steady o s.discardAhead := .ite hs hs.set.inc

theorem Steady.endMaster (hs : Steady o s) : Steady o s.endMaster := .ite hs hs.discardAhead.set.wrb.wrb.wrb

theorem Steady.claimEval (hs : Steady o s) : Steady o s.claimEval :=
  hs.setEn.thru fun hs => (Steady.ite hs.setEn.wr.setPairState.wr.endMaster hs).thru fun hs => .ite hs.wrb hs

theorem Steady.raiseClaim (hs : Steady o s) {c grant cause} : Steady o (s.raiseClaim c grant cause) := by
  unfold State.raiseClaim
  exact hs.wr.wrb.inc.barAdd.wr64.thru fun hs => (Steady.thru (by split; exacts [hs.wr, hs]) fun hs =>
    hs).set.setPairState.claimEval.event

theorem Steady.dropClaim (hs : Steady o s) {st} : Steady o (s.dropClaim st) := hs.wr.wrb.setPairState.claimEval.endMaster

theorem Steady.startYield (hs : Steady o s) {purpose} : Steady o (s.startYield purpose) := hs.set

theorem Steady.showReleased (hs : Steady o s) : Steady o s.showReleased := hs.set.showLock

theorem Steady.sendVote (hs : Steady o s) {v} : Steady o (s.sendVote v) := hs.set

theorem Steady.requestVote (hs : Steady o s) {cold n} : Steady o (s.requestVote cold n) := .ite hs hs.set.sendVote

theorem Steady.sendItem (hs : Steady o s) {item body} : Steady o (s.sendItem item body) := hs.set

/-! ### Meanings of Machine/Unit.lean -/

theorem Steady.mainReset (hs : Steady o s) {src leave} : Steady o (s.mainReset src leave) := by
  have ring := hs.foldl (f := State.ringWrite) (xs := s.que.q0) fun hs => hs.ringWrite
  unfold State.mainReset
  exact Steady.thru (ring.setStores (SMap.wf_filter _) (fun _ => rfl) (fun _ => rfl) (by simp [State.reset])) fun hs =>
    .ite hs hs.queLevel

theorem Steady.announceLeave (hs : Steady o s) : Steady o s.announceLeave := .ite hs.set hs

theorem Steady.wakeBy (hs : Steady o s) {cause} : Steady o (s.wakeBy cause) := by
  unfold State.wakeBy
  split; exacts [hs.wr.wr.wr64, .ite hs.set hs, hs]

theorem Steady.showHist (hs : Steady o s) : Steady o s.showHist := hs.foldl fun hs => hs.wr64

theorem Steady.bench (hs : Steady o s) {cause} : Steady o (s.bench cause) := .ite hs hs.set.wrb.wr.barAdd.barBlocks.claimEval.event

theorem Steady.claimWithdraw (hs : Steady o s) : Steady o s.claimWithdraw := hs.set.dropClaim.set

theorem Steady.withdrawSteps (hs : Steady o s) {cause reason save} : Steady o (s.withdrawSteps cause reason save) :=
  hs.set.claimWithdraw.wr.barAdd.thru fun hs => (Steady.ite hs.set.showHist hs).wr.thru fun hs => (Steady.ite hs.barSave.barBlocks
    hs).event.thru fun hs => .ite hs.bench hs

theorem Steady.withdraw (hs : Steady o s) {cause} : Steady o (s.withdraw cause) := by
  unfold State.withdraw
  split; exacts [hs.ringWrite, hs.withdrawSteps.announceLeave.mainReset]

/-! ### Meanings of Machine/Keys.lean -/

theorem Steady.showSlot (hs : Steady o s) {i} : Steady o (s.showSlot i) := hs.wrb.wrb.wrb.wr.wr.wr.wrb

theorem Steady.showClient (hs : Steady o s) {j} : Steady o (s.showClient j) := hs.wrb.wrb.wrb.wr

theorem Steady.showTrust (hs : Steady o s) {j} : Steady o (s.showTrust j) := hs.wrb.wr.wr

theorem Steady.showGens (hs : Steady o s) : Steady o s.showGens := hs.wr.wr

theorem Steady.showPairGen (hs : Steady o s) : Steady o s.showPairGen := hs.wr

theorem Steady.takePairGen (hs : Steady o s) : Steady o s.takePairGen := hs.set.showPairGen

theorem Steady.showKeys (hs : Steady o s) : Steady o s.showKeys :=
  (((hs.foldl fun hs => hs.showSlot).foldl fun hs => hs.showClient).foldl fun hs => hs.showTrust).showGens.wr64.wr64.wrb

theorem Steady.jobDone (hs : Steady o s) {side result} : Steady o (s.jobDone side result) := hs.wrb.wr.inc

theorem Steady.eraseLegal (hs : Steady o s) {release} : Steady o (s.eraseLegal release) :=
  hs.set.thru fun hs => .ite hs hs.set.metSave.showSealed

theorem Steady.destroyKeys (hs : Steady o s) {release} : Steady o (s.destroyKeys release) :=
  (hs.set.wrb.wrb.foldl fun hs => hs.wr).thru fun hs => (Steady.ite hs hs.set.wr.wr64).eraseLegal.showKeys.thru fun hs => (Steady.ite
    hs.set (((hs.draw 21)).set)).set.wrb.wrb

theorem Steady.changeLife (hs : Steady o s) {lc release} : Steady o (s.changeLife lc release) :=
  (hs.set.wr.wrb.foldl fun hs => .ite hs.jobDone hs).setQ.destroyKeys

theorem Steady.passLegal (hs : Steady o s) : Steady o s.passLegal := hs.set

theorem Steady.issueCompat (hs : Steady o s) : Steady o s.issueCompat := .ite hs hs.set

theorem Steady.msgApply (hs : Steady o s) {m p commit} : Steady o (s.msgApply m p commit) := by
  unfold State.msgApply
  dsimp only
  split; exacts [hs.set.showSlot, hs.set.showSlot, hs.set.showClient, hs.set.showTrust, (.ite hs (hs.set.thru fun hs => (Steady.ite
    (hs.foldl fun hs => hs.showSlot) hs.takePairGen).showGens)), hs.set.showClient, hs.set.showTrust, hs]

theorem Steady.runMessage (hs : Steady o s) {side m memOk} : Steady o (s.runMessage side m memOk) :=
  .ite hs.jobDone (.ite hs.jobDone (.ite (.ite hs.jobDone hs.changeLife.jobDone) (.ite hs.jobDone (.ite hs.msgApply
    hs.msgApply.wr64.jobDone))))

theorem Steady.keyOp (hs : Steady o s) {op memOk} : Steady o (s.keyOp op memOk) := by
  unfold State.keyOp
  split; exacts [hs, .ite hs.setQ.runMessage hs]

theorem Steady.execKeyOpImport (hs : Steady o s) {memOk} : Runs o (execKeyOpImport memOk s) := hs.keyOp

theorem Steady.execKeyOpDelete (hs : Steady o s) {memOk} : Runs o (execKeyOpDelete memOk s) := hs.keyOp

theorem Steady.execKeyOpRevoke (hs : Steady o s) {memOk} : Runs o (execKeyOpRevoke memOk s) := hs.keyOp

theorem Steady.execKeyOpSetClient (hs : Steady o s) {memOk} : Runs o (execKeyOpSetClient memOk s) := hs.keyOp

theorem Steady.execKeyOpTrust (hs : Steady o s) {memOk} : Runs o (execKeyOpTrust memOk s) := hs.keyOp

theorem Steady.execKeyOpRelease (hs : Steady o s) {memOk} : Runs o (execKeyOpRelease memOk s) := hs.keyOp

theorem Steady.keyCmd (hs : Steady o s) {side key f} (hf : ∀ {s}, Steady o s → Steady o (f s)) : Steady o (s.keyCmd side key f) :=
  hs.command fun hs => hf hs.wrb

theorem Steady.keySubmit (hs : Steady o s) {side} : Steady o (s.keySubmit side) := .ite hs.enqueue hs.jobDone

theorem Steady.execKeySubmit (hs : Steady o s) {side key} : Runs o (execKeySubmit side key s) := hs.keyCmd (fun hs => hs.keySubmit)

theorem Steady.keyEnrol (hs : Steady o s) {side} : Steady o (s.keyEnrol side) :=
  .ite hs.accessError ((hs.set.foldl fun hs => hs.wr).jobDone)

theorem Steady.execKeyEnrol (hs : Steady o s) {side key} : Runs o (execKeyEnrol side key s) := hs.keyCmd (fun hs => hs.keyEnrol)

theorem Steady.enrolRead (hs : Steady o s) {side} : Steady o (s.enrolRead side) :=
  .ite hs.accessError (hs.accepted.setHbi.thru fun hs => .ite (hs.set.wrb.foldl fun hs => hs.wr) hs)

theorem Steady.execEnrolDataRead (hs : Steady o s) {side} : Runs o (execEnrolDataRead side s) := hs.enrolRead

theorem Steady.keyAttest (hs : Steady o s) {side} : Steady o (s.keyAttest side) :=
  .ite hs.jobDone (.ite hs.jobDone ((hs.foldl fun hs => hs.wr).jobDone))

theorem Steady.execKeyAttest (hs : Steady o s) {side key} : Runs o (execKeyAttest side key s) := hs.keyCmd (fun hs => hs.keyAttest)

theorem Steady.keyDebug (hs : Steady o s) {side} : Steady o (s.keyDebug side) := .ite hs.accessError hs.changeLife.jobDone.set

theorem Steady.execKeyDebug (hs : Steady o s) {side key dbgLow} : Runs o (execKeyDebug side key dbgLow s) :=
  hs.set.keyCmd (fun hs => hs.keyDebug)

theorem Steady.certAccess (hs : Steady o s) {side write v} : Steady o (s.certAccess side write v) :=
  .ite hs.accessError (hs.accepted.thru fun hs => (Steady.ite (.ite hs.set hs) ((Steady.ite hs ((hs.draw 22))).wr.thru fun hs => .ite
    hs.setHbi hs)).wr)

theorem Steady.execCertDataAccess (hs : Steady o s) {side write value} : Runs o (execCertDataAccess side write value s) := hs.certAccess

theorem Steady.erasePairKey (hs : Steady o s) : Steady o s.erasePairKey := hs.set

theorem Steady.execPairKeyErase (hs : Steady o s) : Runs o (execPairKeyErase s) := hs.erasePairKey

/-! ### Meanings of Machine/Metering.lean -/

theorem Steady.ledgerTick (hs : Steady o s) {codes rtc} : Steady o (s.ledgerTick codes rtc) :=
  hs.boundary.thru fun hs => .ite hs.bookTick hs

theorem Steady.execLedgerTick (hs : Steady o s) {codes rtc} : Runs o (execLedgerTick codes rtc s) := hs.ledgerTick

theorem Steady.periodicSave (hs : Steady o s) : Steady o s.periodicSave := .ite hs.metSave hs

theorem Steady.execPeriodicSave (hs : Steady o s) : Runs o (execPeriodicSave s) := hs.periodicSave

theorem Steady.execCheckPairCount (hs : Steady o s) : Runs o (execCheckPairCount s) := hs.checkPairs

theorem Steady.compose (hs : Steady o s) {kind body} : Steady o (s.compose kind body) := hs.set

theorem Steady.toQ1 (hs : Steady o s) {kind body} : Steady o (s.toQ1 kind body) := hs.place

theorem Steady.crossCheck (hs : Steady o s) {iOuts missing} : Steady o (s.crossCheck iOuts missing) :=
  .ite hs (.ite (hs.set.thru fun hs => .ite hs.wrb.wrb.event.compose hs) (hs.set.thru fun hs => .ite hs.wrb.compose hs))

theorem Steady.execMeterCrossCheck (hs : Steady o s) {iOuts missing} : Runs o (execMeterCrossCheck iOuts missing s) := hs.crossCheck

theorem Steady.meterResume (hs : Steady o s) {ticks} : Steady o (s.meterResume ticks) := .ite hs.set.metGap.unsavedEvent hs

theorem Steady.execMeterResume (hs : Steady o s) {ticks} : Runs o (execMeterResume ticks s) := hs.meterResume

theorem Steady.countSelReset (hs : Steady o s) : Steady o s.countSelReset := hs.barAdd.set.thru fun hs => .ite hs.wrb.event hs

theorem Steady.selReset (hs : Steady o s) {rtc} : Steady o (s.selReset rtc) := by
  unfold State.selReset
  exact hs.setRtc.set.selStart.set.thru fun hs => (Steady.ite hs.set hs.metGap.unsavedEvent).countSelReset

theorem Steady.execSelvedgeReset (hs : Steady o s) {rtc} : Runs o (execSelvedgeReset rtc s) := hs.selReset

theorem Steady.poAdd (hs : Steady o s) {k n} : Steady o (s.poAdd k n) := .ite hs.wr hs.wr.wrb.wrb

theorem Steady.pulseEdge (hs : Steady o s) {i level time held} : Steady o (s.pulseEdge i level time held) :=
  .ite hs (.ite hs.inc (.ite hs (hs.wrb.thru fun hs => .ite hs ((hs.wr64.wr64.foldl fun hs => .ite hs.poAdd hs).thru fun hs => .ite hs
    (by split; exacts [hs.set.toQ1, hs.toQ1, hs])))))

theorem Steady.poEmit (hs : Steady o s) {k} : Steady o (s.poEmit k) := .ite hs.set.wrb.wr hs

theorem Steady.poUpdate (hs : Steady o s) {k} : Steady o (s.poUpdate k) := by
  unfold State.poUpdate
  split; exacts [hs.wrb, .ite hs.poEmit hs.set.poAdd.poEmit]

theorem Steady.execPulseOutputUpdate (hs : Steady o s) {k} : Runs o (execPulseOutputUpdate k s) := hs.poUpdate

theorem Steady.poWidthEnd (hs : Steady o s) {k} : Steady o (s.poWidthEnd k) := .ite hs.set.wrb (.ite hs.set.poEmit hs)

theorem Steady.execPulseOutputWidthEnd (hs : Steady o s) {k} : Runs o (execPulseOutputWidthEnd k s) := hs.poWidthEnd

theorem Steady.partnerValues (hs : Steady o s) : Steady o s.partnerValues := .ite hs.sendItem hs

theorem Steady.execPartnerValuesSend (hs : Steady o s) : Runs o (execPartnerValuesSend s) := hs.partnerValues

theorem Steady.standsTimeout (hs : Steady o s) : Steady o s.standsTimeout := .ite hs.trySession hs

theorem Steady.execStandsTimeout (hs : Steady o s) : Runs o (execStandsTimeout s) := hs.standsTimeout

theorem Steady.execMirrorRefresh (hs : Steady o s) : Runs o (execMirrorRefresh s) := hs.mirrorMet.mirrorBil

theorem Steady.mailbox (hs : Steady o s) {seq crcOk f} (hf : ∀ {s}, Steady o s → Steady o (f s)) :
    Steady o (s.mailbox seq crcOk f) :=
  .ite hs (.ite (hf hs.set) hs.inc)

theorem Steady.offerChunk (hs : Steady o s) {inst offset bytes} : Steady o (s.offerChunk inst offset bytes) := by
  unfold State.offerChunk
  split; exacts [hs, hs.set]

theorem Steady.execMbxOffer (hs : Steady o s) {seq crcOk inst offset bytes} : Runs o (execMbxOffer seq crcOk inst offset bytes s) :=
  hs.mailbox (fun hs => hs.offerChunk)

theorem Steady.sendChunks (hs : Steady o s) {kind head bytes} : Steady o (s.sendChunks kind head bytes) := hs.foldl fun hs => hs.toQ1

theorem Steady.offerSections (hs : Steady o s) : Steady o s.offerSections := hs.foldl fun hs => hs.sendChunks

theorem Steady.sealOne (hs : Steady o s) {d} : Steady o (s.sealOne d) := .ite hs hs.set.jrnlWrite

theorem Steady.execMbxSeal (hs : Steady o s) {seq crcOk} : Runs o (execMbxSeal seq crcOk s) :=
  hs.mailbox (fun hs => (hs.foldl fun hs => hs.sealOne).showSealed)

theorem Steady.stepRecord (hs : Steady o s) {old new oldStep newStep origin client flags} : Steady o (s.stepRecord old new oldStep newStep
    origin client flags) :=
  hs.jrnlWrite

theorem Steady.adoptCal (hs : Steady o s) {cal proven step} : Steady o (s.adoptCal cal proven step) := hs.set

theorem Steady.calMessage (hs : Steady o s) {tick calMs proven step} : Steady o (s.calMessage tick calMs proven step) :=
  .ite hs.adoptCal (.ite (hs.adoptCal.wrb.stepRecord.thru fun hs => .ite hs.closeAtTick hs) hs.set.wrb.event)

theorem Steady.execMbxCal (hs : Steady o s) {seq crcOk tick calMs proven step} : Runs o (execMbxCal seq crcOk tick calMs proven step s) :=
  hs.mailbox (fun hs => hs.calMessage)

theorem Steady.execMbxMark (hs : Steady o s) {seq crcOk close sid time source} : Runs o (execMbxMark seq crcOk close sid time source s) :=
  hs.mailbox (fun hs => hs.set)

theorem Steady.execMbxPartner (hs : Steady o s) {seq crcOk imp exp complete unbooked closed} : Runs o (execMbxPartner seq crcOk imp exp
    complete unbooked closed s) :=
  hs.mailbox (fun hs => hs.set.trySession)

theorem Steady.execMbxPulse (hs : Steady o s) {seq crcOk sync weight} : Runs o (execMbxPulse seq crcOk sync weight s) :=
  hs.mailbox (fun hs => .ite hs (.ite hs.set (.ite hs.closeAtTick hs)))

theorem Steady.execMbxFlag (hs : Steady o s) {seq crcOk xchk} : Runs o (execMbxFlag seq crcOk xchk s) := hs.mailbox (fun hs => hs.set)

theorem Steady.execMbxAck (hs : Steady o s) {seq crcOk holder record} : Runs o (execMbxAck seq crcOk holder record s) :=
  hs.mailbox (fun hs => hs.set)

theorem Steady.execMbxImd (hs : Steady o s) {seq crcOk start phase} : Runs o (execMbxImd seq crcOk start phase s) :=
  hs.mailbox (fun hs => hs.set)

theorem Steady.execMbxSiteParam (hs : Steady o s) {seq crcOk offset bytes} : Runs o (execMbxSiteParam seq crcOk offset bytes s) :=
  hs.mailbox (fun hs => hs.set)

theorem Steady.calSend (hs : Steady o s) : Steady o s.calSend := .ite hs.toQ1 hs

theorem Steady.execCalSend (hs : Steady o s) : Runs o (execCalSend s) := hs.calSend

theorem Steady.calTimeout (hs : Steady o s) : Steady o s.calTimeout := .ite hs.set hs

theorem Steady.execCalAdoptTimeout (hs : Steady o s) : Runs o (execCalAdoptTimeout s) := hs.calTimeout

theorem Steady.timeSet (hs : Steady o s) {side} : Steady o (s.timeSet side) := .ite hs.accessError (.ite hs.accessError hs.set)

theorem Steady.execBilTimeSet (hs : Steady o s) {side key} : Runs o (execBilTimeSet side key s) := hs.command (fun hs => hs.timeSet)

theorem Steady.tamperAck (hs : Steady o s) {side} : Steady o (s.tamperAck side) := .ite hs.accessError (.ite hs.accessError hs.set)

theorem Steady.execBilTamperAck (hs : Steady o s) {side key} : Runs o (execBilTamperAck side key s) := hs.command (fun hs => hs.tamperAck)

theorem Steady.execIntervalEnd (hs : Steady o s) : Runs o (execIntervalEnd s) := Steady.ite hs.intervalStep hs

theorem Steady.execTariffSwitch (hs : Steady o s) : Runs o (execTariffSwitch s) := Steady.ite hs.tariffStep hs

theorem Steady.execDemandSyncTimeout (hs : Steady o s) : Runs o (execDemandSyncTimeout s) := Steady.ite hs.intervalStep hs

theorem Steady.boundaryCommit (hs : Steady o s) : Steady o s.boundaryCommit := by
  unfold State.boundaryCommit
  split; exacts [hs, .ite hs.set.commitBnd hs]

theorem Steady.execBoundaryCommit (hs : Steady o s) : Runs o (execBoundaryCommit s) := hs.boundaryCommit

theorem Steady.recordSign (hs : Steady o s) : Steady o s.recordSign := by
  unfold State.recordSign
  split; exacts [hs, (.ite hs (hs.set.foldl fun hs => hs.ringSend))]

theorem Steady.execRecordSign (hs : Steady o s) : Runs o (execRecordSign s) := hs.recordSign

theorem Steady.tamper (hs : Steady o s) {k onset b} : Steady o (s.tamper k onset b) :=
  .ite hs (hs.set.thru fun hs => (Steady.ite hs.tamperRecord (.ite hs.set.wr hs.set)).thru fun hs => .ite hs.wrb.event.wakeBy hs)

theorem Steady.coverEdge (hs : Steady o s) {k opened rtc} : Steady o (s.coverEdge k opened rtc) := .ite hs.setRtc.tamper hs

theorem Steady.execTamperCoverEdge (hs : Steady o s) {terminal opened rtc} : Runs o (execTamperCoverEdge terminal opened rtc s) :=
  hs.coverEdge

theorem Steady.hallCondition (hs : Steady o s) {k beyond b} : Steady o (s.hallCondition k beyond b) :=
  .ite hs.set (.ite hs.set hs.set.tamper)

theorem Steady.hallReading (hs : Steady o s) {x y z rtc} : Steady o (s.hallReading x y z rtc) :=
  hs.setRtc.thru fun hs => (Steady.ite hs.hallCondition hs).thru fun hs => .ite hs.hallCondition hs

theorem Steady.execHallReading (hs : Steady o s) {x y z rtc} : Runs o (execHallReading x y z rtc s) := hs.hallReading

/-! ### Meanings of Machine/Vlk.lean -/

theorem Steady.setVst (hs : Steady o s) {n} : Steady o (s.setVst n) := hs.wr

theorem Steady.sendVehicle (hs : Steady o s) {kind body} : Steady o (s.sendVehicle kind body) := .ite hs hs.sendItem

theorem Steady.answer (hs : Steady o s) {kind code} : Steady o (s.answer kind code) := hs.wrsat.wrsat.set.sendVehicle.enqueue

theorem Steady.sessionMark (hs : Steady o s) {close} : Steady o (s.sessionMark close) := hs.toQ1.thru fun hs => .ite hs hs.sendItem

theorem Steady.showRefusals (hs : Steady o s) : Steady o s.showRefusals := hs.wrb.wrb.wrb.wrb.wrb.wrb

theorem Steady.toIdle (hs : Steady o s) : Steady o s.toIdle :=
  (Steady.ite hs.sessionMark hs).thru fun hs => (Steady.ite hs.event hs).setVst.wr.wr.wrb.wrb.wr.wrb.set

theorem Steady.unplugEnd (hs : Steady o s) : Steady o s.unplugEnd := .ite hs.toIdle hs

theorem Steady.injector (hs : Steady o s) {start phase} : Steady o (s.injector start phase) := hs.wrb.set

theorem Steady.openContactors (hs : Steady o s) : Steady o s.openContactors :=
  (Steady.ite (hs.foldl fun hs => hs.contactorOp) hs).set.injector

theorem Steady.toFault (hs : Steady o s) : Steady o s.toFault := hs.setVst.thru fun hs => .ite hs.openContactors hs

theorem Steady.toStopping (hs : Steady o s) {byPre} : Steady o (s.toStopping byPre) := hs.setVst.set

theorem Steady.stopSession (hs : Steady o s) : Steady o s.stopSession := .ite hs.toStopping hs

theorem Steady.esd (hs : Steady o s) : Steady o s.esd := .ite hs (hs.set.thru fun hs => .ite hs (.ite hs.event hs.setVst.set.event))

theorem Steady.connector (hs : Steady o s) {cs} : Steady o (s.connector cs) :=
  .ite hs (hs.wr.thru fun hs => .ite hs ((Steady.ite hs.event hs).thru fun hs => .ite hs.esd (.ite (hs.setVst.barAdd.thru fun hs => .ite
    hs.showRefusals.inc hs.showRefusals) (.ite hs.toIdle (.ite hs.unplugEnd (.ite hs.stopSession hs))))))

theorem Steady.execConnectorStateChange (hs : Steady o s) {cs} : Runs o (execConnectorStateChange cs s) := hs.connector

theorem Steady.sessionSetup (hs : Steady o s) {p control bpt} : Steady o (s.sessionSetup p control bpt) :=
  .ite hs (.ite hs.answer (.ite hs.showRefusals.inc.answer (.ite hs.answer ((((hs.showRefusals.draw
    23)).wr64).inc.wr.wr.wrb.wrb.wr.set.event.answer))))

theorem Steady.execV2gSessionSetup (hs : Steady o s) {protocol control bpt} : Runs o (execV2gSessionSetup protocol control bpt s) :=
  hs.sessionSetup

theorem Steady.storeEmaid (hs : Steady o s) {id} : Steady o (s.storeEmaid id) := hs.foldl fun hs => hs.wr

theorem Steady.answerAuth (hs : Steady o s) : Steady o s.answerAuth := hs.answer

theorem Steady.authorise (hs : Steady o s) {emaid pnc chainOk root} : Steady o (s.authorise emaid pnc chainOk root) :=
  .ite hs (.ite hs.answerAuth (hs.storeEmaid.thru fun hs => .ite hs.wr.answerAuth (.ite hs.wr.answerAuth hs.wr.event.answerAuth)))

theorem Steady.execV2gAuthorization (hs : Steady o s) {emaid pnc chainOk root} : Runs o (execV2gAuthorization emaid pnc chainOk root s) :=
  hs.authorise

theorem Steady.cableCheck (hs : Steady o s) {evVmax} : Steady o (s.cableCheck evVmax) :=
  .ite hs (.ite hs.answer (.ite hs.answer (.ite hs (.ite hs.answer (hs.setVst.wr.wrb.set.thru fun hs => (Steady.ite hs.sessionMark
    hs).answer)))))

theorem Steady.execV2gCableCheck (hs : Steady o s) {evVmax} : Runs o (execV2gCableCheck evVmax s) := hs.cableCheck

theorem Steady.preCharge (hs : Steady o s) {vTgt} : Steady o (s.preCharge vTgt) := .ite hs hs.setVst.wr.set.answer

theorem Steady.execV2gPreCharge (hs : Steady o s) {vTgt} : Runs o (execV2gPreCharge vTgt s) := hs.preCharge

theorem Steady.powerStart (hs : Steady o s) : Steady o s.powerStart := .ite hs.setVst.set.answer hs

theorem Steady.execV2gPowerDeliveryStart (hs : Steady o s) : Runs o (execV2gPowerDeliveryStart s) := hs.powerStart

theorem Steady.evValues (hs : Steady o s) {iTgt iMax iDis vMax vTgt pMax discharge depart energy} : Steady o (s.evValues iTgt iMax iDis
    vMax vTgt pMax discharge depart energy) :=
  hs.wrsat.wrsat.wrsat.wrsat.wrsat.wrisat.thru fun hs => (Steady.ite hs.wrsat.wrsat hs).set

theorem Steady.execV2gChargeLoop (hs : Steady o s) {iTgt iMax iDis vMax vTgt pMax discharge depart energy} : Runs o (execV2gChargeLoop
    iTgt iMax iDis vMax vTgt pMax discharge depart energy s) :=
  Steady.ite hs.evValues.answer hs

theorem Steady.stopRequest (hs : Steady o s) {vehOpen} : Steady o (s.stopRequest vehOpen) :=
  .ite hs (hs.stopSession.thru fun hs => (Steady.ite hs.set hs).answer)

theorem Steady.execV2gStopRequest (hs : Steady o s) {vehOpen} : Runs o (execV2gStopRequest vehOpen s) := hs.stopRequest

theorem Steady.execV2gEmergencyStop (hs : Steady o s) : Runs o (execV2gEmergencyStop s) := Steady.ite hs.esd.answer hs

theorem Steady.decideAuth (hs : Steady o s) {grant} : Steady o (s.decideAuth grant) := .ite hs.wr.answerAuth hs

theorem Steady.execVlkAuthGrant (hs : Steady o s) {side key} : Runs o (execVlkAuthGrant side key s) :=
  hs.command (fun hs => hs.decideAuth)

theorem Steady.execVlkAuthDeny (hs : Steady o s) {side key} : Runs o (execVlkAuthDeny side key s) := hs.command (fun hs => hs.decideAuth)

theorem Steady.execVlkStop (hs : Steady o s) {side key} : Runs o (execVlkStop side key s) := hs.command (fun hs => hs.stopSession)

theorem Steady.resetLockout (hs : Steady o s) {side} : Steady o (s.resetLockout side) := .ite hs.wrb hs.accessError

theorem Steady.execVlkResetLockout (hs : Steady o s) {side key} : Runs o (execVlkResetLockout side key s) :=
  hs.command (fun hs => hs.resetLockout)

theorem Steady.execVlkEsd (hs : Steady o s) {side key} : Runs o (execVlkEsd side key s) := hs.command (fun hs => hs.esd)

theorem Steady.execAuthWaitTimeout (hs : Steady o s) : Runs o (execAuthWaitTimeout s) := hs.decideAuth

theorem Steady.closeContactors (hs : Steady o s) {ready} : Steady o (s.closeContactors ready) :=
  .ite (hs.set.foldl fun hs => hs.contactorOp) hs

theorem Steady.execOutletContactorClose (hs : Steady o s) {ready} : Runs o (execOutletContactorClose ready s) := hs.closeContactors

theorem Steady.auxClosed (hs : Steady o s) : Steady o s.auxClosed := hs.set.thru fun hs => .ite hs.set hs

theorem Steady.execOutletAuxClosed (hs : Steady o s) : Runs o (execOutletAuxClosed s) := hs.auxClosed

theorem Steady.execOutletAuxCloseTimeout (hs : Steady o s) : Runs o (execOutletAuxCloseTimeout s) :=
  Steady.ite hs.toFault.openContactors hs

theorem Steady.ccSettled (hs : Steady o s) : Steady o s.ccSettled := .ite hs.set.injector hs

theorem Steady.execCableCheckSettled (hs : Steady o s) : Runs o (execCableCheckSettled s) := hs.ccSettled

theorem Steady.execCableCheckTimeout (hs : Steady o s) : Runs o (execCableCheckTimeout s) := Steady.ite hs.toFault hs

theorem Steady.imdFault (hs : Steady o s) : Steady o s.imdFault := hs.wrb.thru fun hs => .ite hs.toFault (.ite hs.set.esd hs)

theorem Steady.actOnImd (hs : Steady o s) {r} : Steady o (s.actOnImd r) :=
  .ite hs.imdFault (hs.set.thru fun hs => (Steady.ite hs.set hs).thru fun hs => (Steady.ite hs.wrb.event hs).thru fun hs => .ite hs.wrb
    hs)

theorem Steady.compareImd (hs : Steady o s) {r} : Steady o (s.compareImd r) := by
  unfold State.compareImd
  split; exacts [hs, (.ite (hs.set.thru fun hs => .ite hs.wrb.event hs) hs.set.wrb)]

theorem Steady.imdPeriod (hs : Steady o s) {a b move vPos vNeg} : Steady o (s.imdPeriod a b move vPos vNeg) :=
  hs.wrb.thru fun hs => .ite (hs.wr.wr.wr.set.compareImd.thru fun hs => .ite hs.actOnImd hs) (hs.set.thru fun hs => .ite hs.imdFault hs)

theorem Steady.imdHalf (hs : Steady o s) {avg move vPos vNeg} : Steady o (s.imdHalf avg move vPos vNeg) :=
  .ite hs ((Steady.ite (hs.injector.thru fun hs => .ite hs hs.sendItem) hs).thru fun hs =>
    by dsimp only; split; exacts [hs.set, hs.set.imdPeriod])

theorem Steady.execImdHalfPeriod (hs : Steady o s) {avg move vPos vNeg} : Runs o (execImdHalfPeriod avg move vPos vNeg s) := hs.imdHalf

theorem Steady.execPreChargeTimeout (hs : Steady o s) : Runs o (execPreChargeTimeout s) := Steady.ite hs.toStopping hs

theorem Steady.dischargeOn (hs : Steady o s) : Steady o s.dischargeOn := .ite hs.set.wrb hs

theorem Steady.stopOpen (hs : Steady o s) : Steady o s.stopOpen := .ite hs (.ite hs.openContactors.dischargeOn hs)

theorem Steady.execStopContactorOpen (hs : Steady o s) : Runs o (execStopContactorOpen s) := hs.stopOpen

theorem Steady.execStopWaitExpiry (hs : Steady o s) : Runs o (execStopWaitExpiry s) := Steady.ite hs.set hs

theorem Steady.execOutletAuxOpen (hs : Steady o s) : Runs o (execOutletAuxOpen s) := hs.set.dischargeOn

theorem Steady.discharged (hs : Steady o s) : Steady o s.discharged := .ite hs.set hs

theorem Steady.execDischargeComplete (hs : Steady o s) : Runs o (execDischargeComplete s) := hs.discharged

theorem Steady.execDischargeTimeout (hs : Steady o s) : Runs o (execDischargeTimeout s) := Steady.ite hs.wrb.setVst hs

theorem Steady.welded (hs : Steady o s) {pos neg aux} : Steady o (s.welded pos neg aux) := by
  unfold State.welded
  exact (hs.wr.wrb.wrb.wrb.wrb.set.foldl fun hs => .ite hs.contactorOp hs).event

theorem Steady.stopDone (hs : Steady o s) : Steady o s.stopDone := (Steady.ite hs.setVst hs).unplugEnd

theorem Steady.weldCheck (hs : Steady o s) : Steady o s.weldCheck :=
  .ite hs (hs.set.thru fun hs => (Steady.ite hs.set.wr.wrb.wrb.wrb (.ite hs.welded hs.wr.wrb.wrb.wrb)).stopDone)

theorem Steady.execWeldCheck (hs : Steady o s) : Runs o (execWeldCheck s) := hs.weldCheck

theorem Steady.auxOpenTimeout (hs : Steady o s) : Steady o s.auxOpenTimeout := .ite hs.welded.setVst hs

theorem Steady.execOutletAuxOpenTimeout (hs : Steady o s) : Runs o (execOutletAuxOpenTimeout s) := hs.auxOpenTimeout

theorem Steady.execEsdOpenDeadline (hs : Steady o s) : Runs o (execEsdOpenDeadline s) := Steady.ite hs.openContactors hs

theorem Steady.planLapse (hs : Steady o s) : Steady o s.planLapse := .ite hs (.ite hs.toFault (.ite hs.toStopping hs))

theorem Steady.execValidPlanLapse (hs : Steady o s) : Runs o (execValidPlanLapse s) := hs.planLapse

theorem Steady.execVehicleLinkTick (hs : Steady o s) : Runs o (execVehicleLinkTick s) := hs.boundary

theorem Steady.vlinkTakeOver (hs : Steady o s) : Steady o s.vlinkTakeOver := .ite hs (hs.set.thru fun hs => .ite hs hs.set.stopSession)

/-! ### Meanings of Machine/Thermal.lean -/

theorem Steady.showHk (hs : Steady o s) {e} : Steady o (s.showHk e) := by
  unfold State.showHk
  split; exacts [hs.wrb, hs.wrb.wrisat]

theorem Steady.setExcluded (hs : Steady o s) {k x} : Steady o (s.setExcluded k x) := hs.set.wrb.wrb.event

theorem Steady.checkMember (hs : Steady o s) {g vals k} : Steady o (s.checkMember g vals k) := by
  unfold State.checkMember
  dsimp only
  split; exacts [.ite hs.set hs.setExcluded, (hs.set.thru fun hs => .ite (.ite hs.setExcluded hs) (.ite hs.setExcluded hs))]

theorem Steady.formGroup (hs : Steady o s) {vals g} : Steady o (s.formGroup vals g) :=
  .ite hs ((hs.foldl fun hs => hs.checkMember).wr.wr.thru fun hs => .ite (.ite hs hs.wrb.wrb.event) (hs.wrb.thru fun hs =>
    by dsimp only; split; exacts [hs, hs.wrisat]))

theorem Steady.stopMetering (hs : Steady o s) : Steady o s.stopMetering := hs.set.powerFail

theorem Steady.thermalShutdown (hs : Steady o s) {g} : Steady o (s.thermalShutdown g) :=
  .ite (.ite hs.stopMetering hs) (hs.withdrawSteps.wrb.wrb.wr64.wrisat.wr.inc.barAdd.event.set.thru fun hs => .ite hs.stopMetering hs)

theorem Steady.dieLevels (hs : Steady o s) : Steady o s.dieLevels :=
  hs.wri.wri.thru fun hs => (Steady.ite hs.wrb.event hs).thru fun hs => (Steady.ite hs.wrb.event hs).wrb.wr.wr.thru fun hs => .ite
    hs.thermalShutdown hs

theorem Steady.execThermalRestart (hs : Steady o s) : Runs o (execThermalRestart s) := Steady.ite hs.mainReset hs

theorem Steady.windows (hs : Steady o s) : Steady o s.windows := .ite (hs.wrb.wrb.thru fun hs => .ite hs.toStopping hs) (.ite hs.set hs)

theorem Steady.binRound (hs : Steady o s) {src v} : Steady o (s.binRound src v) := .ite hs.set hs.tempAdd

theorem Steady.flushBins (hs : Steady o s) : Steady o s.flushBins := .ite hs ((hs.foldl fun hs => hs.tempAdd).set)

theorem Steady.barRound (hs : Steady o s) : Steady o s.barRound :=
  hs.flushBins.binRound.binRound.thru fun hs => Steady.thru (by split; exacts [hs.binRound, hs]) fun hs => .ite hs.rainflow hs

theorem Steady.setCool (hs : Steady o s) {l c} : Steady o (s.setCool l c) := hs.set

theorem Steady.reportFlow (hs : Steady o s) {l} : Steady o (s.reportFlow l) := .ite hs hs.wrb.wrb.event

theorem Steady.coolRound (hs : Steady o s) {vals l pulse} : Steady o (s.coolRound vals l pulse) := by
  unfold State.coolRound
  split
  · exact hs
  · exact hs.wrsat.thru fun hs => (Steady.ite (.ite hs.reportFlow hs) (.ite hs.wrb hs)).thru fun hs => by
      dsimp only
      split
      · exact hs.setCool
      · exact hs.setCool.thru fun hs => (Steady.ite hs.wrb.wrb.event hs).thru fun hs => (Steady.ite hs.wrb hs).thru fun hs =>
          (Steady.ite hs.wrb.wrb.event hs).thru fun hs => .ite hs.wrb hs

theorem Steady.hkRoundEnd (hs : Steady o s) {raw flows} : Steady o (s.hkRoundEnd raw flows) := by
  unfold State.hkRoundEnd
  exact (((hs.foldl fun hs => hs.showHk).foldl fun hs => hs.formGroup).wrb.foldl fun hs => hs.coolRound).wr.windows.barRound.dieLevels

theorem Steady.execHkRoundEnd (hs : Steady o s) {raw flows} : Runs o (execHkRoundEnd raw flows s) := hs.hkRoundEnd

theorem Steady.takeFF (hs : Steady o s) {l q} : Steady o (s.takeFF l q) := .ite hs.setCool.wrb (.ite hs.setCool.wrb hs.setCool.wrb)

theorem Steady.bindDuty (hs : Steady o s) {a duty} : Steady o (s.bindDuty a duty) := .ite hs.setAux hs

theorem Steady.coolStart (hs : Steady o s) {l} : Steady o (s.coolStart l) := by
  unfold State.coolStart
  split; exacts [hs, (.ite (hs.bindDuty.thru fun hs => (Steady.thru (by split; exacts [hs.bindDuty, hs]) fun hs => hs).wr)
    (hs.takeFF.wrsat.setCool.wr.bindDuty.thru fun hs => by dsimp only; split; exacts [hs, hs.bindDuty]))]

theorem Steady.hkRoundStart (hs : Steady o s) : Steady o s.hkRoundStart := hs.boundary.coolStart.coolStart

theorem Steady.execHkRoundStart (hs : Steady o s) : Runs o (execHkRoundStart s) := hs.hkRoundStart

theorem Steady.ffHoldEnd (hs : Steady o s) {l} : Steady o (s.ffHoldEnd l) := by
  unfold State.ffHoldEnd
  dsimp only
  split; exacts [hs, hs.setCool.wrb]

theorem Steady.execFfHoldEnd (hs : Steady o s) {l} : Runs o (execFfHoldEnd l s) := hs.ffHoldEnd

theorem Steady.flowFault (hs : Steady o s) {l noPulse} : Steady o (s.flowFault l noPulse) := by
  unfold State.flowFault
  split; exacts [hs, (.ite hs ((Steady.ite hs.setCool.wr hs).thru fun hs => .ite hs.reportFlow hs))]

theorem Steady.execFlowFaultTimeout (hs : Steady o s) {l noPulse} : Runs o (execFlowFaultTimeout l noPulse s) := hs.flowFault

theorem Steady.obsStart (hs : Steady o s) : Steady o s.obsStart := .ite hs (by split; exacts [hs.set, .ite hs.set hs.set])

theorem Steady.obsStep (hs : Steady o s) {iSq valid} : Steady o (s.obsStep iSq valid) :=
  .ite hs (hs.obsStart.thru fun hs => (Steady.ite hs.set hs).wrisat.wrisat.wrisat.thru fun hs => .ite hs.wr.wr.wrb hs.wr.wr.wrb)

theorem Steady.execObserverStep (hs : Steady o s) {iSq valid} : Runs o (execObserverStep iSq valid s) := hs.obsStep

/-! ### Meanings of Machine/Loop.lean -/

theorem Steady.setLp (hs : Steady o s) {m x} : Steady o (s.setLp m x) := hs.set

theorem Steady.setWord (hs : Steady o s) {m w v} : Steady o (s.setWord m w v) := hs.setLp

theorem Steady.setComp (hs : Steady o s) {m w v} : Steady o (s.setComp m w v) := hs.setLp

theorem Steady.setRc (hs : Steady o s) {e x} : Steady o (s.setRc e x) := hs.set

theorem Steady.showBlend (hs : Steady o s) {m} : Steady o (s.showBlend m) := hs.wr

theorem Steady.schedule (hs : Steady o s) {m d} : Steady o (s.schedule m d) :=
  hs.setLp.thru fun hs => .ite hs.showBlend hs.setLp.wr.showBlend

theorem Steady.countSat (hs : Steady o s) {k n} : Steady o (s.countSat k n) := hs.set

theorem Steady.countSats (hs : Steady o s) {m d drawn adcs} : Steady o (s.countSats m d drawn adcs) := hs.foldl fun hs => hs.countSat

theorem Steady.backgroundStep (hs : Steady o s) {m d due} : Steady o (s.backgroundStep m d due) := hs.setLp

theorem Steady.plausible (hs : Steady o s) {m devs} : Steady o (s.plausible m devs) := hs.foldl fun hs => .ite hs.setLp hs.setLp

theorem Steady.commitEntry (hs : Steady o s) {m d out bg corr e} : Steady o (s.commitEntry m d out bg corr e) := by
  have put (src : Nat) (corr : List Rat) : Steady o (match e.kind with
      | 0 =>
        let h := e.target / 2 % 16
        let v := commitCompare e src (s.hb h).period corr
        if e.target % 2 == 0 then s.wr (F.PWM_HB_CMP_ON_CMP_ON h) v else s.wr (F.PWM_HB_CMP_OFF_CMP_OFF h) v
      | 1 => s.setWord m e.target (commitWord e src corr)
      | _ => s.setComp m (s.word m e.target) (commitWord e src corr)) := by
    split
    · exact .ite hs.wr hs.wr
    · exact hs.setWord
    · exact hs.setComp
  unfold State.commitEntry
  refine .ite hs ?_
  dsimp only
  split
  · exact put _ corr
  · split
    · exact put _ []
    · exact hs

theorem Steady.commitAll (hs : Steady o s) {m d out bg corr} : Steady o (s.commitAll m d out bg corr) := hs.foldl fun hs => hs.commitEntry

theorem Steady.genCommand (hs : Steady o s) {h pos} : Steady o (s.genCommand h pos) := .ite hs hs.setHb.wrb.follow

theorem Steady.generators (hs : Steady o s) {m d pos} : Steady o (s.generators m d pos) :=
  hs.foldl fun hs => hs.wr.thru fun hs => .ite hs.setHb (.ite hs.setHb (hs.setHb.genCommand.thru fun hs => .ite hs.inc hs))

/-! ### Meanings of Machine/Safe.lean -/

theorem Steady.xpDropCoil (hs : Steady o s) : Steady o s.xpDropCoil := .ite hs hs.set.contactorOp

theorem Steady.acDrop (hs : Steady o s) : Steady o s.acDrop :=
  (Steady.ite hs.contactorOp hs).thru fun hs => (Steady.ite hs.contactorOp hs).set

theorem Steady.showOuts (hs : Steady o s) : Steady o s.showOuts := hs.foldl fun hs => hs.wrb

theorem Steady.releaseOutputs (hs : Steady o s) : Steady o s.releaseOutputs :=
  (Steady.ite hs.openContactors hs).thru fun hs => (Steady.ite hs.set hs).thru fun hs => (Steady.ite hs.acDrop hs).thru fun hs =>
    (Steady.ite hs.xpDropCoil hs).set

theorem Steady.safetyHold (hs : Steady o s) {on} : Steady o (s.safetyHold on) :=
  hs.foldl fun hs => .ite (.ite hs hs.hold) (.ite hs.release hs)

theorem Steady.setSafeIn (hs : Steady o s) {k x} : Steady o (s.setSafeIn k x) := hs.set

theorem Steady.setConn (hs : Steady o s) {j x} : Steady o (s.setConn j x) := hs.set

theorem Steady.showSafety (hs : Steady o s) : Steady o s.showSafety := by
  unfold State.showSafety
  dsimp only
  split <;> exact hs.wr.wrb.wrb.wr.wr.wrb

theorem Steady.esdIfOpen (hs : Steady o s) : Steady o s.esdIfOpen := .ite hs.esd hs

theorem Steady.safetyFault (hs : Steady o s) {cause source} : Steady o (s.safetyFault cause source) := by
  unfold State.safetyFault
  exact hs.releaseOutputs.safetyHold.thru fun hs => (Steady.ite hs.esd hs).thru fun hs => (Steady.ite hs
    hs.inc.set).showSafety.showOuts.event

theorem Steady.safetyInput (hs : Steady o s) {k chB closed held} : Steady o (s.safetyInput k chB closed held) :=
  .ite hs hs.setSafeIn.wrb.wrb.wrb

theorem Steady.execSafetyInputChange (hs : Steady o s) {k chB closed held} : Runs o (execSafetyInputChange k chB closed held s) :=
  hs.safetyInput

theorem Steady.execSafetyDiscrepancy (hs : Steady o s) {k ms} : Runs o (execSafetyDiscrepancy k ms s) := Steady.ite hs.safetyFault hs

theorem Steady.makeFrame (hs : Steady o s) {j pairLink} : Steady o (s.makeFrame j pairLink).2 := hs.setConn.wr

theorem Steady.refuseFrame (hs : Steady o s) {j} : Steady o (s.refuseFrame j) :=
  hs.inc.thru fun hs => .ite hs.setConn.safetyFault hs.setConn

theorem Steady.takeFrame (hs : Steady o s) {j f} : Steady o (s.takeFrame j f) :=
  .ite hs.refuseFrame (.ite (.ite hs.setConn.wr hs.refuseFrame) (.ite (hs.setConn.wr.wr.thru fun hs => .ite hs.wrb hs) hs.setConn.wr.wr))

theorem Steady.safetyFrame (hs : Steady o s) {kind f} : Steady o (s.safetyFrame kind f) := by
  unfold State.safetyFrame
  split; exacts [hs, hs.takeFrame]

theorem Steady.watchdog (hs : Steady o s) {j} : Steady o (s.watchdog j) :=
  .ite hs (hs.wr.thru fun hs => .ite hs.setConn.wrb hs.setConn.safetyFault)

theorem Steady.execSafetyWatchdogExpiry (hs : Steady o s) {j} : Runs o (execSafetyWatchdogExpiry j s) := hs.watchdog

theorem Steady.clearLockout (hs : Steady o s) {origin client counts} : Steady o (s.clearLockout origin client counts) :=
  hs.set.safLog.showSafety

theorem Steady.safReset (hs : Steady o s) {side} : Steady o (s.safReset side) := .ite hs.accessError (.ite hs.accessError hs.clearLockout)

theorem Steady.execSafReset (hs : Steady o s) {side key} : Runs o (execSafReset side key s) := hs.command (fun hs => hs.safReset)

theorem Steady.clearDemand (hs : Steady o s) {side} : Steady o (s.clearDemand side) :=
  .ite hs.accessError ((hs.set.foldl fun hs => .ite hs hs.setConn).showSafety)

theorem Steady.execSafClearDemand (hs : Steady o s) {side key} : Runs o (execSafClearDemand side key s) :=
  hs.command (fun hs => hs.clearDemand)

theorem Steady.setPw (hs : Steady o s) {side} : Steady o (s.setPw side) :=
  .ite hs.accessError ((hs.set.wrb.foldl fun hs => hs.wr).safLog.foldl fun hs => hs.closeCreds)

theorem Steady.execSafSetPw (hs : Steady o s) {side key} : Runs o (execSafSetPw side key s) := hs.command (fun hs => hs.setPw)

theorem Steady.actOnConn (hs : Steady o s) {j} : Steady o (s.actOnConn j) := by
  unfold State.actOnConn
  dsimp only
  split; exacts [hs, (.ite (hs.setConn.set.thru fun hs => (Steady.ite hs.clearLockout hs)) hs.setConn)]

theorem Steady.compareOuts (hs : Steady o s) {readbacks partnerDrive} : Steady o (s.compareOuts readbacks partnerDrive) :=
  (hs.foldl fun hs => hs.event).set

theorem Steady.actOnDemands (hs : Steady o s) : Steady o s.actOnDemands :=
  (Steady.ite hs.esdIfOpen hs).thru fun hs => (Steady.ite hs.acDrop.xpDropCoil hs).thru fun hs => (Steady.ite hs.releaseOutputs
    hs).safetyHold.set

theorem Steady.safetyEval (hs : Steady o s) {readbacks partnerDrive} : Steady o (s.safetyEval readbacks partnerDrive) :=
  .ite hs ((((Steady.ite hs.boundary hs).foldl fun hs => hs.wrb).foldl fun hs => hs.actOnConn).set.showSafety.thru fun hs => ((Steady.ite
    hs.event hs).actOnDemands.showOuts.foldl fun hs => hs.wrb).thru fun hs => .ite hs.set hs.compareOuts)

theorem Steady.execSafetyEvaluation (hs : Steady o s) {readbacks partnerDrive} : Runs o (execSafetyEvaluation readbacks partnerDrive s) :=
  hs.safetyEval

theorem Steady.execOffPulseStart (hs : Steady o s) {i time} : Runs o (execOffPulseStart i time s) := Steady.ite hs.set.showOuts hs

theorem Steady.pulseEnd (hs : Steady o s) {i offOk onOk} : Steady o (s.pulseEnd i offOk onOk) :=
  .ite hs (hs.set.showOuts.thru fun hs => .ite hs (.ite hs.wrb.safetyFault (.ite hs.wrb.safetyFault hs.wrb)))

theorem Steady.execOffPulseEnd (hs : Steady o s) {i offOk onOk} : Runs o (execOffPulseEnd i offOk onOk s) := hs.pulseEnd

theorem Steady.readbackStuck (hs : Steady o s) {i} : Steady o (s.readbackStuck i) := .ite hs (.ite hs.safetyFault hs.safetyFault)

theorem Steady.execReadbackStuck (hs : Steady o s) {i} : Runs o (execReadbackStuck i s) := hs.readbackStuck

theorem Steady.paramCheck (hs : Steady o s) {upset} : Steady o (s.paramCheck upset) := .ite hs.safetyFault hs

theorem Steady.execParamCrcCheck (hs : Steady o s) {upset} : Runs o (execParamCrcCheck upset s) := hs.paramCheck

theorem Steady.safetyResync (hs : Steady o s) : Steady o s.safetyResync := hs.set.foldl fun hs => hs.wr

/-! ### Meanings of Machine/Modes.lean -/

theorem Steady.setWords (hs : Steady o s) {m w vs} : Steady o (s.setWords m w vs) := hs.foldl fun hs => hs.setWord

theorem Steady.writeRefs (hs : Steady o s) {m d t} : Steady o (s.writeRefs m d t) :=
  .ite hs ((Steady.ite hs hs.setWords).thru fun hs => .ite hs hs.setWords)

theorem Steady.enterOff (hs : Steady o s) {m d} : Steady o (s.enterOff m d) := hs.setWords.setWord.wr.wr.wrb.setLp

theorem Steady.startStop (hs : Steady o s) {m d} : Steady o (s.startStop m d) :=
  .ite hs.setLp.wr (.ite hs ((Steady.ite hs hs.wr).setLp.wrb))

theorem Steady.columnOff (hs : Steady o s) : Steady o s.columnOff := hs.set.foldl fun hs => hs.startStop

theorem Steady.requestMode (hs : Steady o s) {m d target byHost} : Steady o (s.requestMode m d target byHost) :=
  .ite hs.startStop (.ite hs (.ite hs.setLp hs.setLp))

theorem Steady.beginHandover (hs : Steady o s) {m next} : Steady o (s.beginHandover m next) := hs.setLp.wr.wr

theorem Steady.afterHandover (hs : Steady o s) {m} : Steady o (s.afterHandover m) := hs.setLp.wr

theorem Steady.enterMode (hs : Steady o s) {m d next r} : Steady o (s.enterMode m d next r) :=
  hs.setWord.setWords.wr.setLp.thru fun hs => .ite (hs.foldl fun hs => hs.release) hs

theorem Steady.abandon (hs : Steady o s) {m d next} : Steady o (s.abandon m d next) :=
  hs.wr.inc.setLp.event.thru fun hs => Steady.thru (by split; exacts [hs.setLp, hs]) fun hs => .ite hs hs.wrb.event.setLp.startStop

theorem Steady.backCalc (hs : Steady o s) {m d z} : Steady o (s.backCalc m d z) := by
  unfold State.backCalc
  dsimp only
  split; exacts [hs.wr, (hs.setWords.wr.thru fun hs => .ite hs.abandon hs.enterMode)]

theorem Steady.blendStep (hs : Steady o s) {m d} : Steady o (s.blendStep m d) :=
  hs.setWords.wr.setLp.thru fun hs => .ite hs.inc.afterHandover hs

theorem Steady.cancelHandover (hs : Steady o s) {m d} : Steady o (s.cancelHandover m d) := hs.setWords.setLp.afterHandover

theorem Steady.stopStep (hs : Steady o s) {m d st t} : Steady o (s.stopStep m d st t) :=
  .ite (.ite hs.setLp.beginHandover hs) (.ite hs.enterOff hs.setLp)

theorem Steady.requestStep (hs : Steady o s) {m d} : Steady o (s.requestStep m d) := by
  unfold State.requestStep
  split; exacts [hs, .ite hs.setLp (by split; exacts [hs, .ite hs.setLp (.ite hs.beginHandover hs)])]

theorem Steady.restartStep (hs : Steady o s) {m d mode} : Steady o (s.restartStep m d mode) :=
  hs.enterOff.thru fun hs => .ite hs hs.setLp.requestMode

theorem Steady.handoverStep (hs : Steady o s) {m d z} : Steady o (s.handoverStep m d z) :=
  .ite hs (.ite hs.cancelHandover (.ite hs.blendStep hs.backCalc))

theorem Steady.sequence (hs : Steady o s) {m d z t} : Steady o (s.sequence m d z t) := by
  unfold State.sequence
  dsimp only
  split
  · exact hs.setLp.restartStep
  · split
    · exact .ite hs.setLp.handoverStep hs.setLp.handoverStep.stopStep
    · exact .ite hs.setLp.handoverStep hs.setLp.handoverStep.requestStep

theorem Steady.denyExport (hs : Steady o s) {m d t} : Steady o (s.denyExport m d t) := .ite hs.wrb hs

theorem Steady.confirmTarget (hs : Steady o s) {m d t} : Steady o (s.confirmTarget m d t) := by
  unfold State.confirmTarget
  dsimp only
  split; exacts [hs.setLp, (hs.setLp.thru fun hs => .ite hs.requestMode hs)]

theorem Steady.autoRequest (hs : Steady o s) {m d t} : Steady o (s.autoRequest m d t) :=
  hs.denyExport.setLp.thru fun hs => .ite hs (.ite hs.confirmTarget (.ite hs.requestMode hs))

/-! ### Meanings of Machine/Rc.lean -/

theorem Steady.showRc (hs : Steady o s) {e} : Steady o (s.showRc e) := hs.wrb.wr.wrb.wrb.wrsat

theorem Steady.rcEstimate (hs : Steady o s) {e est need ok lo hi t} : Steady o (s.rcEstimate e est need ok lo hi t) := hs.setRc.showRc

theorem Steady.rcPulse (hs : Steady o s) {e t} : Steady o (s.rcPulse e t) := hs.setRc.thru fun hs => .ite hs hs.rcEstimate

theorem Steady.rcWord (hs : Steady o s) {m e t} : Steady o (s.rcWord m e t) := by
  unfold State.rcWord
  exact hs.setRc.thru fun hs => by dsimp only; split; exacts [.ite hs.rcEstimate hs, hs]

theorem Steady.learn (hs : Steady o s) {m c e k kPrev mean} : Steady o (s.learn m c e k kPrev mean) := hs.foldl fun hs => hs.setComp

theorem Steady.rcCommit (hs : Steady o s) {m c t d} : Steady o (s.rcCommit m c t d) :=
  (Steady.ite hs hs.setLp.setRc).thru fun hs => .ite (.ite hs.setRc.showRc hs) ((Steady.ite hs hs.setRc).thru fun hs => (Steady.ite
    hs.rcWord hs).setRc.thru fun hs => (Steady.ite hs ((Steady.ite hs.learn hs).setRc)).setWord.wr.showRc)

theorem Steady.rcZero (hs : Steady o s) {m c} : Steady o (s.rcZero m c) := .ite hs hs.setWord

theorem Steady.rcAll (hs : Steady o s) {m t d} : Steady o (s.rcAll m t d) := (hs.foldl fun hs => hs.rcZero).foldl fun hs => hs.rcCommit

theorem Steady.rcEdges (hs : Steady o s) {i level t} : Steady o (s.rcEdges i level t) := hs.foldl fun hs => .ite hs.rcPulse hs

theorem Steady.pulseInput (hs : Steady o s) {i level t held} : Steady o (s.pulseInput i level t held) :=
  hs.pulseEdge.thru fun hs => .ite hs.rcEdges hs

theorem Steady.execPulseInputEdge (hs : Steady o s) {i level time held} : Runs o (execPulseInputEdge i level time held s) := hs.pulseInput

theorem Steady.rcTimeout (hs : Steady o s) {e t} : Steady o (s.rcTimeout e t) := .ite hs hs.setRc.showRc

theorem Steady.execRcPhaseTimeout (hs : Steady o s) {e time} : Runs o (execRcPhaseTimeout e time s) := hs.rcTimeout

theorem Steady.rcSpectral (hs : Steady o s) {e adc est tenthsDb phase t} : Steady o (s.rcSpectral e adc est tenthsDb phase t) :=
  .ite hs (hs.setRc.rcEstimate.thru fun hs => .ite hs.setRc.showRc hs)

theorem Steady.execRcSpectralEval (hs : Steady o s) {e adc period tenthsDb phase time} : Runs o (execRcSpectralEval e adc period tenthsDb
    phase time s) :=
  hs.rcSpectral

theorem Steady.rcFadeEnd (hs : Steady o s) {e} : Steady o (s.rcFadeEnd e) := .ite hs.setRc.showRc hs

theorem Steady.execRcFadeEnd (hs : Steady o s) {e} : Runs o (execRcFadeEnd e s) := hs.rcFadeEnd

theorem Steady.rcThaw (hs : Steady o s) {e t} : Steady o (s.rcThaw e t) := .ite hs hs.setRc.showRc

theorem Steady.execRcPeriodFreezeEnd (hs : Steady o s) {e time} : Runs o (execRcPeriodFreezeEnd e time s) := hs.rcThaw

theorem Steady.rcClear (hs : Steady o s) {side e} : Steady o (s.rcClear side e) := .ite hs.accessError hs.accepted.setRc

theorem Steady.execRcClear (hs : Steady o s) {side e} : Runs o (execRcClear side e s) := hs.rcClear

/-! ### Meanings of Machine/Shuttle.lean -/

theorem Steady.setBw (hs : Steady o s) {m d bw} : Steady o (s.setBw m d bw) := hs.wr

theorem Steady.newWindow (hs : Steady o s) {m} : Steady o (s.newWindow m) := hs.setLp

theorem Steady.reviewBw (hs : Steady o s) {m d} : Steady o (s.reviewBw m d) :=
  .ite hs ((Steady.ite hs (.ite hs.setBw (.ite hs.setBw hs))).newWindow)

theorem Steady.countSample (hs : Steady o s) {m d hit outside dev} : Steady o (s.countSample m d hit outside dev) :=
  hs.reviewBw.thru fun hs => (Steady.ite hs.inc hs.inc).setLp

theorem Steady.placeTrace (hs : Steady o s) {e} : Steady o (s.placeTrace e) := .ite hs.set.queLevel hs.set.inc

theorem Steady.traceCommit (hs : Steady o s) {m d hit late dev t} : Steady o (s.traceCommit m d hit late dev t) :=
  hs.setLp.foldl fun hs => .ite hs.placeTrace hs

theorem Steady.takeShadow (hs : Steady o s) {m d} : Steady o (s.takeShadow m d) :=
  .ite hs ((hs.set.foldl fun hs => hs.setWord).thru fun hs => .ite hs (hs.wr.thru fun hs => .ite hs.wr (.ite hs.setLp hs.wr.setLp)))

theorem Steady.takeBw (hs : Steady o s) {m d} : Steady o (s.takeBw m d) := by
  unfold State.takeBw
  refine .ite hs (.newWindow (.setBw ?_))
  exact hs.setStores (SMap.wf_set _ _) id id fun _ he => .inl he

theorem Steady.loopBoundary (hs : Steady o s) {m d} : Steady o (s.loopBoundary m d) :=
  hs.boundary.thru fun hs => (Steady.ite hs.setBw.newWindow hs).thru fun hs => .ite hs (hs.foldl fun hs => .ite hs hs.hold)

theorem Steady.showSlack (hs : Steady o s) {m d t} : Steady o (s.showSlack m d t) := hs.setLp.foldl fun hs => hs.wrsat

theorem Steady.commitSample (hs : Steady o s) {m d c pos z t} : Steady o (s.commitSample m d c pos z t) :=
  hs.showSlack.thru fun hs => (Steady.ite hs.countSat hs).plausible.wrb.commitAll.backgroundStep.setLp.autoRequest.sequence.thru
    fun hs => hs.writeRefs.rcAll.schedule.countSample.takeBw.generators.inc.takeShadow.traceCommit.setLp.thru fun hs =>
      .ite hs.loopBoundary hs

theorem Steady.adcTrigger (hs : Steady o s) {m k} : Steady o (s.adcTrigger m k) := by
  unfold State.adcTrigger
  split; exacts [hs, .ite hs hs.setLp]

theorem Steady.execAdcTrigger (hs : Steady o s) {m k} : Runs o (execAdcTrigger m k s) := hs.adcTrigger

theorem Steady.adcDeferred (hs : Steady o s) {m k a} : Steady o (s.adcDeferred m k a) :=
  .ite hs (.ite hs.inc (by split; exacts [hs, .ite hs hs.setLp.inc]))

theorem Steady.execAdcTriggerDeferred (hs : Steady o s) {m k a} : Runs o (execAdcTriggerDeferred m k a s) := hs.adcDeferred

theorem Steady.storeResult (hs : Steady o s) {a codes} : Steady o (s.storeResult a codes) := hs.wri

theorem Steady.storeResults (hs : Steady o s) {as codes} : Steady o (s.storeResults as codes) := hs.foldl fun hs => hs.storeResult

theorem Steady.addSums (hs : Steady o s) {m d devs} : Steady o (s.addSums m d devs) := hs.setLp

theorem Steady.takeSample (hs : Steady o s) {m d codes vOut iOut} : Steady o (s.takeSample m d codes vOut iOut) :=
  hs.storeResults.set.setLp

theorem Steady.conversionEnd (hs : Steady o s) {m codes vOut iOut pos z t} : Steady o (s.conversionEnd m codes vOut iOut pos z t) := by
  unfold State.conversionEnd
  split; exacts [(.ite hs (hs.takeSample.addSums.thru fun hs => .ite hs.countSats.commitSample hs.countSat.setLp)), hs]

theorem Steady.execConversionEnd (hs : Steady o s) {m codes vOut iOut pos z time} : Runs o (execConversionEnd m codes vOut iOut pos z time
    s) :=
  hs.conversionEnd

theorem Steady.exactCommit (hs : Steady o s) {m pos z t} : Steady o (s.exactCommit m pos z t) := by
  unfold State.exactCommit
  split; exacts [(hs.countSat.thru fun hs => .ite (hs.setLp.wrb.wrb.event.thru fun hs => .ite hs.withdraw hs) hs.commitSample), hs]

theorem Steady.execExactCommit (hs : Steady o s) {m pos zero time} : Runs o (execExactCommit m pos zero time s) := hs.exactCommit

theorem Steady.execBwWindowEnd (hs : Steady o s) {m} : Runs o (execBwWindowEnd m s) := by
  unfold Machine.execBwWindowEnd
  split; exacts [hs.reviewBw, hs]

theorem Steady.plsOff (hs : Steady o s) {m d} : Steady o (s.plsOff m d) := (hs.foldl fun hs => hs.hold).wrb

theorem Steady.plsAction (hs : Steady o s) {m c d} : Steady o (s.plsAction m c d) := by
  unfold State.plsAction
  split; exacts [hs.startStop.wrb, hs.plsOff, .ite hs hs.setLp]

theorem Steady.execPlausibilityAttribute (hs : Steady o s) {m c frame} : Runs o (execPlausibilityAttribute m c frame s) := by
  change Steady o (match s.loopDecl m with | none => s | some d => _)
  split
  · exact hs
  · exact .ite hs (hs.setLp.thru fun hs => .ite hs.wr.plsOff.event (.ite hs.wr.plsAction.event hs.wr.withdraw))

theorem Steady.plsClear (hs : Steady o s) {m} : Steady o (s.plsClear m) :=
  .ite hs (by split; exacts [hs.wrb, (hs.wrb.foldl fun hs => hs.release)])

theorem Steady.execPlsFaultClear (hs : Steady o s) {side m} : Runs o (execPlsFaultClear side m s) :=
  Steady.ite hs.accessError hs.accepted.plsClear

theorem Steady.counterReload (hs : Steady o s) {h err codes} : Steady o (s.counterReload h err codes) :=
  .ite hs (hs.setHb.wrb.wr.storeResults.thru fun hs => (Steady.ite hs hs.boundary.setHb).genCommand)

theorem Steady.execCounterReload (hs : Steady o s) {h err codes} : Runs o (execCounterReload h err codes s) := hs.counterReload

theorem Steady.commandChange (hs : Steady o s) {h pos} : Steady o (s.commandChange h pos) := .ite hs hs.wr.genCommand

theorem Steady.execPwmCommandChange (hs : Steady o s) {h pos} : Runs o (execPwmCommandChange h pos s) := hs.commandChange

theorem Steady.modeRequest (hs : Steady o s) {side m req} : Steady o (s.modeRequest side m req) := by
  unfold State.modeRequest
  split; exacts [hs.accessError, .ite hs.accessError (.ite hs.accessError hs.requestMode)]

theorem Steady.execModeRequest (hs : Steady o s) {side key m req} : Runs o (execModeRequest side key m req s) :=
  hs.command (fun hs => hs.modeRequest)

theorem Steady.handoverRetry (hs : Steady o s) {m t} : Steady o (s.handoverRetry m t) := by
  unfold State.handoverRetry
  split; exacts [.ite hs (.ite hs.setLp hs.setLp), hs]

theorem Steady.execHandoverRetry (hs : Steady o s) {m time} : Runs o (execHandoverRetry m time s) := hs.handoverRetry

theorem Steady.stopRampEnd (hs : Steady o s) {m time} : Steady o (s.stopRampEnd m time) := by
  unfold State.stopRampEnd
  split; exacts [.ite hs.setLp hs, hs]

theorem Steady.execStopRampEnd (hs : Steady o s) {m time} : Runs o (execStopRampEnd m time s) := hs.stopRampEnd

theorem Steady.execHoFailClear (hs : Steady o s) {side m} : Runs o (execHoFailClear side m s) := Steady.ite hs.accessError hs.accepted.wrb

/-! ### Meanings of Machine/Prot.lean -/

theorem Steady.setGrp (hs : Steady o s) {g x} : Steady o (s.setGrp g x) := hs.set

theorem Steady.setGst (hs : Steady o s) {g st} : Steady o (s.setGst g st) := hs.wr.wr.wr

theorem Steady.holdGroup (hs : Steady o s) {g who} : Steady o (s.holdGroup g who) := hs.foldl fun hs => hs.hold

theorem Steady.letGroup (hs : Steady o s) {g who} : Steady o (s.letGroup g who) := hs.foldl fun hs => hs.release

theorem Steady.stopLoops (hs : Steady o s) {g} : Steady o (s.stopLoops g) := hs.foldl fun hs => .ite hs hs.setLp

theorem Steady.holdFor (hs : Steady o s) {g} : Steady o (s.holdFor g) := hs.holdGroup.stopLoops.foldl fun hs => hs.holdGroup.stopLoops

theorem Steady.softOff (hs : Steady o s) {g} : Steady o (s.softOff g) :=
  hs.foldl fun hs => hs.setCh.thru fun hs => .ite hs.setCh.setChState hs

theorem Steady.restartLoops (hs : Steady o s) : Steady o s.restartLoops :=
  hs.foldl fun hs => by dsimp only; split; exacts [hs, (.ite hs (hs.setLp.thru fun hs => .ite hs hs.requestMode))]

theorem Steady.letGo (hs : Steady o s) {g} : Steady o (s.letGo g) :=
  (hs.foldl fun hs => hs.setCh.thru fun hs => .ite hs hs.setChState).thru fun hs => ((Steady.ite hs hs.showReleased).letGroup.foldl fun hs
    => .ite hs hs.letGroup).restartLoops

theorem Steady.showLegs (hs : Steady o s) {g} : Steady o (s.showLegs g) := hs.foldl fun hs => hs.wrb

theorem Steady.firstDetection (hs : Steady o s) {g short cause t} : Steady o (s.firstDetection g short cause t) :=
  hs.setGrp.setGst.wr.wrb.wrb.wr.wr64.showLegs.thru fun hs => (Steady.ite hs.softOff hs).holdFor

theorem Steady.laterDetection (hs : Steady o s) {g short cause t} : Steady o (s.laterDetection g short cause t) :=
  hs.setGrp.thru fun hs => .ite hs.softOff hs

theorem Steady.explain (hs : Steady o s) {g t} : Steady o (s.explain g t) := .ite hs.setGrp hs

theorem Steady.detect (hs : Steady o s) {h short cause t leg} : Steady o (s.detect h short cause t leg) := by
  unfold State.detect
  split; exacts [hs, (.ite (.ite hs.set hs) ((Steady.ite hs.firstDetection (.ite hs.laterDetection (.ite hs.explain hs))).thru fun hs =>
    .ite hs.wr.showLegs hs))]

theorem Steady.desat (hs : Steady o s) {n now t} : Steady o (s.desat n now t) := hs.wrb.thru fun hs => .ite hs hs.wrb.detect

theorem Steady.execDesatTrip (hs : Steady o s) {n now time} : Runs o (execDesatTrip n now time s) := hs.desat

theorem Steady.hardShort (hs : Steady o s) {h now t} : Steady o (s.hardShort h now t) :=
  .ite hs.wrb (hs.wrb.thru fun hs => .ite hs hs.wrb.detect)

theorem Steady.execHardShortTrip (hs : Steady o s) {h now time} : Runs o (execHardShortTrip h now time s) := hs.hardShort

theorem Steady.phaseCurrent (hs : Steady o s) {a now t} : Steady o (s.phaseCurrent a now t) :=
  .ite hs.wrb (hs.wrb.thru fun hs => .ite hs hs.wrb.detect)

theorem Steady.execPhaseCurrentTrip (hs : Steady o s) {a now time} : Runs o (execPhaseCurrentTrip a now time s) := hs.phaseCurrent

theorem Steady.gateVoltage (hs : Steady o s) {n now t} : Steady o (s.gateVoltage n now t) := hs.wrb.thru fun hs => .ite hs hs.wrb.detect

theorem Steady.execGateVoltageTrip (hs : Steady o s) {n now time} : Runs o (execGateVoltageTrip n now time s) := hs.gateVoltage

theorem Steady.softEnd (hs : Steady o s) {n byTime} : Steady o (s.softEnd n byTime) :=
  .ite hs (hs.setCh.thru fun hs => (Steady.ite hs.wrb hs).setChState)

theorem Steady.execSoftOffEnd (hs : Steady o s) {n byTime} : Runs o (execSoftOffEnd n byTime s) := hs.softEnd

theorem Steady.lockGroup (hs : Steady o s) {g cause multi} : Steady o (s.lockGroup g cause multi) := by
  unfold State.lockGroup
  exact hs.setGst.wr.wrb.set.setGrp.barAdd.holdFor.event

theorem Steady.settleDoubts (hs : Steady o s) {t} : Steady o (s.settleDoubts t) := hs.foldl fun hs => .ite hs hs.setGrp.wrb.withdraw

theorem Steady.judge (hs : Steady o s) {g t} : Steady o (s.judge g t) :=
  hs.inc.barAdd.event.setGrp.thru fun hs => (Steady.ite hs.lockGroup (.ite hs.setGrp.lockGroup hs.setGrp.setGst.wr.wr)).settleDoubts

theorem Steady.collectionEnd (hs : Steady o s) {g t} : Steady o (s.collectionEnd g t) := .ite hs.judge hs

theorem Steady.execTripCollectionEnd (hs : Steady o s) {g time} : Runs o (execTripCollectionEnd g time s) := hs.collectionEnd

theorem Steady.setGstUnder (hs : Steady o s) {g st} : Steady o (s.setGstUnder g st) := .ite hs.setGrp hs.setGst

theorem Steady.waitEnd (hs : Steady o s) {g t} : Steady o (s.waitEnd g t) := .ite hs.setGrp.setGstUnder.wr hs

theorem Steady.execPrtWaitEnd (hs : Steady o s) {g time} : Runs o (execPrtWaitEnd g time s) := hs.waitEnd

theorem Steady.armGroup (hs : Steady o s) {g} : Steady o (s.armGroup g) := hs.setGst.wr.letGo

theorem Steady.execPrtRelease (hs : Steady o s) {g} : Runs o (execPrtRelease g s) := Steady.ite hs.armGroup hs

theorem Steady.releaseTimeout (hs : Steady o s) {g t} : Steady o (s.releaseTimeout g t) :=
  .ite hs (.ite hs.lockGroup.setGst.setGrp hs.lockGroup)

theorem Steady.execPrtReleaseTimeout (hs : Steady o s) {g time} : Runs o (execPrtReleaseTimeout g time s) := hs.releaseTimeout

theorem Steady.clearGroup (hs : Steady o s) {g} : Steady o (s.clearGroup g) := hs.set.setGrp.wrb.wr.armGroup

theorem Steady.resetGroups (hs : Steady o s) {mask} (ht : s.resetGroups mask = some t) : Steady o t := by
  unfold State.resetGroups at ht
  dsimp only at ht
  split at ht
  · exact Option.some.inj ht ▸ hs.foldl fun hs => hs.clearGroup
  · exact nomatch ht

theorem Steady.prtReset (hs : Steady o s) {side mask} : Steady o (s.prtReset side mask) := by
  refine .ite hs.accessError ?_
  split
  next => exact hs.accessError
  next ht => exact .ite (hs.resetGroups ht).sendItem (hs.resetGroups ht)

theorem Steady.execPrtReset (hs : Steady o s) {side key groups} : Runs o (execPrtReset side key groups s) :=
  hs.command (fun hs => hs.prtReset)

theorem Steady.endTest (hs : Steady o s) {g} : Steady o (s.endTest g) := hs.setGrp.wrb.thru fun hs => .ite hs.armGroup hs.setGst

theorem Steady.startTest (hs : Steady o s) {g} : Steady o (s.startTest g) :=
  (hs.foldl fun hs => hs.wr).wrb.wr.wr.setGrp.setGst.holdGroup.thru fun hs => .ite hs.endTest hs

theorem Steady.prtTest (hs : Steady o s) {side mask} : Steady o (s.prtTest side mask) :=
  .ite (hs.foldl fun hs => hs.startTest) hs.accessError

theorem Steady.execPrtTest (hs : Steady o s) {side key groups} : Runs o (execPrtTest side key groups s) :=
  hs.command (fun hs => hs.prtTest)

theorem Steady.testResult (hs : Steady o s) {g kind code} : Steady o (s.testResult g kind code) := (Steady.ite hs hs.wr).setGrp

theorem Steady.abortTest (hs : Steady o s) {g} : Steady o (s.abortTest g) := .ite hs ((hs.foldl fun hs => hs.testResult).endTest)

theorem Steady.execPrtTestAbort (hs : Steady o s) {side key groups} : Runs o (execPrtTestAbort side key groups s) :=
  hs.command (fun hs => hs.foldl fun hs => hs.abortTest)

theorem Steady.itemDone (hs : Steady o s) {g code} : Steady o (s.itemDone g code) := by
  unfold State.itemDone
  split; exacts [hs, (.ite hs (hs.testResult.setGrp.thru fun hs => (Steady.ite hs ((Steady.ite hs.wr.wr
    hs).event.lockGroup.setGst.setGrp)).thru fun hs => .ite hs.endTest hs))]

theorem Steady.execPrtTestItemDone (hs : Steady o s) {g code} : Runs o (execPrtTestItemDone g code s) := hs.itemDone

theorem Steady.startWaitingTests (hs : Steady o s) : Steady o s.startWaitingTests := hs.set.foldl fun hs => hs.startTest

theorem Steady.prtTakeOver (hs : Steady o s) {t} : Steady o (s.prtTakeOver t) := hs.foldl fun hs => .ite hs hs.setGrp.wr64.holdFor

theorem Steady.takeProt (hs : Steady o s) {g e t} : Steady o (s.takeProt g e t) :=
  hs.set.thru fun hs => .ite (.ite hs hs.wr.lockGroup) (.ite (.ite hs (hs.explain.thru fun hs => .ite hs.wr.showLegs hs)) (.ite hs
    (hs.setGrp.wr.wr.wrb.wrb.wr.setGst.thru fun hs => .ite (.ite hs hs.letGo) (.ite hs.holdFor hs))))

theorem Steady.execPairItemPrtReset (hs : Steady o s) {groups} : Runs o (execPairItemPrtReset groups s) := by
  show Steady o ((s.resetGroups groups.toNat).getD s)
  cases ht : s.resetGroups groups.toNat with
  | none => exact hs
  | some t => exact hs.resetGroups ht

theorem Steady.startGroups (hs : Steady o s) : Steady o s.startGroups :=
  hs.foldl fun hs => by split; exacts [hs, hs.setGst.wr.wrb.holdFor]

/-! ### Meanings of Machine/GateCmd.lean -/

theorem Steady.showBias (hs : Steady o s) {n vdd vee} : Steady o (s.showBias n vdd vee) := hs.wrb.wrb.wr.wr

theorem Steady.lockOutActs (hs : Steady o s) {n t} : Steady o (s.lockOutActs n t) := by
  unfold State.lockOutActs
  exact hs.inc.wr.hold.event.detect.thru fun hs => .ite hs.startYield hs

theorem Steady.biasLock (hs : Steady o s) {n vdd vee t} : Steady o (s.biasLock n vdd vee t) :=
  hs.setCh.thru fun hs => .ite hs (hs.showBias.thru fun hs => .ite hs hs.lockOutActs)

theorem Steady.execBiasUndervoltage (hs : Steady o s) {n vdd vee time} : Runs o (execBiasUndervoltage n vdd vee time s) := hs.biasLock

theorem Steady.biasRelease (hs : Steady o s) {n vdd vee} : Steady o (s.biasRelease n vdd vee) :=
  hs.setCh.thru fun hs => .ite hs (hs.showBias.thru fun hs => (Steady.ite hs hs.release).startWaitingTests)

theorem Steady.execBiasRelease (hs : Steady o s) {n vdd vee} : Runs o (execBiasRelease n vdd vee s) := hs.biasRelease

theorem Steady.showDie (hs : Steady o s) {n} : Steady o (s.showDie n) := hs.wr

theorem Steady.execEnableOffHoldEnd (hs : Steady o s) : Runs o (execEnableOffHoldEnd s) := hs.enterHighz.showReleased

theorem Steady.firstOn (hs : Steady o s) : Steady o s.firstOn := .ite hs ((hs.set.foldl fun hs => hs.setCh).foldl fun hs => hs.follow)

theorem Steady.execFirstOnEdgePermitted (hs : Steady o s) : Runs o (execFirstOnEdgePermitted s) := hs.firstOn

theorem Steady.refreshLoss (hs : Steady o s) {n} : Steady o (s.refreshLoss n) := by
  unfold State.refreshLoss
  exact .ite hs (hs.wrb.wrb.showDie.offEdge.thru fun hs => by dsimp only; split; exacts [.ite hs.setHb hs, .ite hs.setHb hs, hs])

theorem Steady.execRefreshLoss (hs : Steady o s) {n} : Runs o (execRefreshLoss n s) := hs.refreshLoss

theorem Steady.takeBias (hs : Steady o s) {n t wasFree} : Steady o (s.takeBias n t wasFree) :=
  .ite hs.lockOutActs (.ite hs.hold (.ite hs hs.release))

theorem Steady.refreshResume (hs : Steady o s) {n vdd vee t} : Steady o (s.refreshResume n vdd vee t) :=
  .ite hs (hs.wrb.showDie.showBias.takeBias.startWaitingTests.thru fun hs => .ite hs (hs.wrb.setCh.thru fun hs => .ite hs.setChState hs))

theorem Steady.execBarrierRefreshResume (hs : Steady o s) {n vdd vee time} : Runs o (execBarrierRefreshResume n vdd vee time s) :=
  hs.refreshResume

theorem Steady.segmentEnd (hs : Steady o s) {n byLevel} : Steady o (s.segmentEnd n byLevel) :=
  .ite hs (hs.setCh.thru fun hs => .ite hs.wr hs)

theorem Steady.execGateSegmentEnd (hs : Steady o s) {n byLevel} : Runs o (execGateSegmentEnd n byLevel s) := hs.segmentEnd

theorem Steady.deadTimeEnd (hs : Steady o s) {h interval} : Steady o (s.deadTimeEnd h interval) := by
  unfold State.deadTimeEnd
  split; exacts [hs, .ite hs.cancelWait (by split <;> exact hs.setHb.startEdge)]

theorem Steady.execDeadTimeEnd (hs : Steady o s) {h interval} : Runs o (execDeadTimeEnd h interval s) := hs.deadTimeEnd

theorem Steady.execAuxDrvUndervoltage (hs : Steady o s) : Runs o (execAuxDrvUndervoltage s) := hs.wrb.foldl fun hs => hs.auxSink

theorem Steady.execAuxDrvRecover (hs : Steady o s) : Runs o (execAuxDrvRecover s) := hs.wrb

theorem Steady.auxPeriod (hs : Steady o s) {a recovered} : Steady o (s.auxPeriod a recovered) :=
  hs.boundary.thru fun hs => (Steady.ite hs.wrb.wrb hs).setAux.wr.wrb.setAux.wrb

theorem Steady.execAuxPeriodStart (hs : Steady o s) {a recovered} : Runs o (execAuxPeriodStart a recovered s) := hs.auxPeriod

theorem Steady.bootstrapUv (hs : Steady o s) {a} : Steady o (s.bootstrapUv a) := by
  unfold State.bootstrapUv
  exact hs.inc.wrb.wrb.setAux.barAdd.event

theorem Steady.execBootstrapUndervoltage (hs : Steady o s) {a} : Runs o (execBootstrapUndervoltage a s) := hs.bootstrapUv

/-! ### Meanings of Machine/PairCmd.lean -/

theorem Steady.becomeMaster (hs : Steady o s) : Steady o s.becomeMaster := .ite hs hs.set.discardAhead.wrb.wrb.wrb

theorem Steady.takeOver (hs : Steady o s) {cold t} : Steady o (s.takeOver cold t) :=
  hs.prtTakeOver.vlinkTakeOver.becomeMaster.thru fun hs => .ite hs.set ((hs.foldl fun hs => hs.enterOff).set)

theorem Steady.closePeriod (hs : Steady o s) : Steady o s.closePeriod := hs.foldl fun hs => .ite hs hs.setLp

theorem Steady.periodicItems (hs : Steady o s) {t} : Steady o (s.periodicItems t) :=
  .ite hs (hs.set.thru fun hs => (Steady.ite hs.sendItem hs).thru fun hs => (Steady.ite hs.set.sendItem hs).thru fun hs => .ite hs (.ite
    hs.sendItem hs))

theorem Steady.sealFrame (hs : Steady o s) {typ t payload} : Steady o (s.sealFrame typ t payload) := hs.set

theorem Steady.composeFrame (hs : Steady o s) {t} : Steady o (s.composeFrame t) := by
  have closed := hs.closePeriod.periodicItems (t := t)
  unfold State.composeFrame
  refine .sealFrame ?_
  generalize s.closePeriod.periodicItems t = x at closed
  dsimp only
  split
  · exact closed.makeFrame
  · exact closed.set
  · exact closed.set

theorem Steady.frameSend (hs : Steady o s) {t} : Steady o (s.frameSend t) := by
  unfold State.frameSend
  exact hs.boundary.settleDoubts.thru fun hs => .ite hs hs.composeFrame

theorem Steady.execPairFrameSend (hs : Steady o s) {time} : Runs o (execPairFrameSend time s) := hs.frameSend

theorem Steady.startForming (hs : Steady o s) : Steady o s.startForming :=
  .ite hs (.ite hs.setPairState hs.setPairState.wr.wr.wr.set.sendItem)

theorem Steady.takeHead (hs : Steady o s) {h t} : Steady o (s.takeHead h t) :=
  hs.set.wrb.wr.thru fun hs => (Steady.ite hs.setPairState hs).startForming.thru fun hs => (Steady.ite hs.raiseClaim.takeOver (.ite
    hs.raiseClaim.takeOver hs)).thru fun hs => (Steady.ite hs.sendItem hs).claimEval

theorem Steady.takeProts (hs : Steady o s) {prot t} : Steady o (s.takeProts prot t) :=
  hs.foldl fun hs => by split; exacts [hs.takeProt, hs]

theorem Steady.crossMeans (hs : Steady o s) {means exceed} : Steady o (s.crossMeans means exceed) := (hs.foldl fun hs => hs.set).set

theorem Steady.takeWord (hs : Steady o s) {i v t} : Steady o (s.takeWord i v t) := by
  unfold State.takeWord
  split; exacts [hs, hs.set.wrsat]

theorem Steady.shadowFrame (hs : Steady o s) {f t} : Steady o (s.shadowFrame f t) :=
  .ite hs (hs.takeHead.takeProts.set.showPairGen.crossMeans.thru fun hs => (Steady.ite hs (hs.foldl fun hs => hs.takeWord)).thru fun hs =>
    .ite hs ((hs.foldl fun hs => hs.wr).withdraw))

theorem Steady.execPairShadowFrame (hs : Steady o s) {frame time} : Runs o (execPairShadowFrame frame time s) := hs.shadowFrame

theorem Steady.pairSafety (hs : Steady o s) {h prot f uv t} : Steady o (s.pairSafety h prot f uv t) :=
  .ite hs hs.takeHead.takeProts.set.safetyFrame

theorem Steady.execPairSafetyFrame (hs : Steady o s) {head prot safety uv time} :
    Runs o (execPairSafetyFrame head prot safety uv time s) :=
  hs.pairSafety

theorem Steady.heartbeatMissed (hs : Steady o s) {item} : Steady o (s.heartbeatMissed item) :=
  .ite hs (hs.set.inc.thru fun hs => .ite hs (hs.set.wrb.event.thru fun hs => .ite hs.requestVote (.ite hs.set.wr.setPairState hs)))

theorem Steady.execHeartbeatMissed (hs : Steady o s) {item time} : Runs o (execHeartbeatMissed item time s) :=
  Steady.ite hs hs.heartbeatMissed

theorem Steady.coldDue (hs : Steady o s) : Steady o s.coldDue := .ite hs.requestVote hs

theorem Steady.execColdRequestDue (hs : Steady o s) : Runs o (execColdRequestDue s) := hs.coldDue

theorem Steady.voteRequest (hs : Steady o s) {cold src inst claim t} : Steady o (s.voteRequest cold src inst claim t) :=
  .ite hs (.ite hs.sendVote (.ite hs.sendVote hs.set.inc.sendVote))

theorem Steady.execVoteRequestReceive (hs : Steady o s) {cold src inst claim time} : Runs o (execVoteRequestReceive cold src inst claim
    time s) :=
  hs.voteRequest

theorem Steady.voteGrant (hs : Steady o s) {inst target claim t} : Steady o (s.voteGrant inst target claim t) :=
  .ite hs (.ite (by split; exacts [hs, .ite hs hs.inc.raiseClaim.takeOver]) (.ite hs.dropClaim.wr hs))

theorem Steady.execVoteGrantReceive (hs : Steady o s) {inst target claim time} : Runs o (execVoteGrantReceive inst target claim time s) :=
  hs.voteGrant

theorem Steady.voteDeny (hs : Steady o s) {inst target reason} : Steady o (s.voteDeny inst target reason) :=
  .ite hs (hs.set.inc.event.thru fun hs => .ite hs.setPairState hs)

theorem Steady.execVoteDenyReceive (hs : Steady o s) {inst target reason} : Runs o (execVoteDenyReceive inst target reason s) :=
  hs.voteDeny

theorem Steady.voteRetry (hs : Steady o s) : Steady o s.voteRetry := by
  unfold State.voteRetry
  split; exacts [.ite hs.requestVote hs.set.wrb.event, hs]

theorem Steady.execVoteRetry (hs : Steady o s) : Runs o (execVoteRetry s) := hs.voteRetry

theorem Steady.commitRecord (hs : Steady o s) {oneshot slot} : Steady o (s.commitRecord oneshot slot) := hs.set

theorem Steady.finishYield (hs : Steady o s) : Steady o s.finishYield := by
  unfold State.finishYield
  split; exacts [hs, (hs.set.wr.thru fun hs => .ite hs.commitRecord.set.announceLeave.mainReset (.ite hs.announceLeave.mainReset hs))]

theorem Steady.lockInput (hs : Steady o s) {level} : Steady o (s.lockInput level) :=
  hs.set.wrb.claimEval.thru fun hs => .ite hs.finishYield hs

theorem Steady.execPairLockInput (hs : Steady o s) {level time} : Runs o (execPairLockInput level time s) := Steady.ite hs hs.lockInput

theorem Steady.pairHandover (hs : Steady o s) {side} : Steady o (s.pairHandover side) := .ite hs.startYield hs.accessError

theorem Steady.execPairHandover (hs : Steady o s) {side key} : Runs o (execPairHandover side key s) :=
  hs.command (fun hs => hs.pairHandover)

theorem Steady.handoverTimeout (hs : Steady o s) : Steady o s.handoverTimeout := by
  unfold State.handoverTimeout
  split; exacts [hs, (hs.set.thru fun hs => .ite hs.set.wr hs)]

theorem Steady.execHandoverTimeout (hs : Steady o s) : Runs o (execHandoverTimeout s) := hs.handoverTimeout

theorem Steady.hotEntry (hs : Steady o s) : Steady o s.hotEntry := .ite hs.setPairState hs

theorem Steady.execStandbyHotEntry (hs : Steady o s) : Runs o (execStandbyHotEntry s) := hs.hotEntry

theorem Steady.itemSeen (hs : Steady o s) {item} : Steady o (s.itemSeen item) := hs.set.wr

theorem Steady.sendFigures (hs : Steady o s) : Steady o s.sendFigures := hs.sendItem

theorem Steady.pairMismatch (hs : Steady o s) {addr} : Steady o (s.pairMismatch addr) :=
  hs.set.wr.thru fun hs => .ite hs hs.set.setPairState.claimEval.configError

theorem Steady.formPair (hs : Steady o s) {digest serial addr t} : Steady o (s.formPair digest serial addr t) :=
  .ite hs.pairMismatch ((Steady.ite hs.set.startForming hs).set.wr.thru fun hs => (Steady.ite hs.sendFigures hs).thru fun hs => .ite hs
    (.ite hs.setPairState (.ite hs.setPairState hs.raiseClaim.takeOver)))

theorem Steady.itemDigest (hs : Steady o s) {digest image serial addr t} : Steady o (s.itemDigest digest image serial addr t) :=
  .ite hs hs.itemSeen.set.wrb.formPair

theorem Steady.execPairItemRoleDigest (hs : Steady o s) {digest image serial addr time} : Runs o (execPairItemRoleDigest digest image
    serial addr time s) :=
  hs.itemDigest

theorem Steady.execPairItemSessionMark (hs : Steady o s) {close sid time source} : Runs o (execPairItemSessionMark close sid time source
    s) :=
  hs.itemSeen.toQ1

theorem Steady.itemValues (hs : Steady o s) {imp exp complete unbooked closed} :
    Steady o (s.itemValues imp exp complete unbooked closed) :=
  hs.itemSeen.wr64.wr64.toQ1

theorem Steady.execPairItemSessionValues (hs : Steady o s) {imp exp complete unbooked closed} : Runs o (execPairItemSessionValues imp exp
    complete unbooked closed s) :=
  hs.itemValues

theorem Steady.execPairItemImdPhase (hs : Steady o s) {phase} : Runs o (execPairItemImdPhase phase s) :=
  Steady.ite hs.itemSeen hs.itemSeen.set

theorem Steady.itemVehicle (hs : Steady o s) {v} : Steady o (s.itemVehicle v) :=
  hs.itemSeen.thru fun hs => .ite hs hs.wr.wr.wr.wrb.wr.wr64.wrb.set

theorem Steady.execPairItemVehicleSession (hs : Steady o s) {session} : Runs o (execPairItemVehicleSession session s) := hs.itemVehicle

theorem Steady.itemObserver (hs : Steady o s) {tc m b} : Steady o (s.itemObserver tc m b) := hs.itemSeen.set

theorem Steady.execPairItemObserver (hs : Steady o s) {tc m b} : Runs o (execPairItemObserver tc m b s) := hs.itemObserver

theorem Steady.execPairItemMrkValues (hs : Steady o s) {values} : Runs o (execPairItemMrkValues values s) :=
  Steady.ite hs.itemSeen (hs.itemSeen.foldl fun hs => .ite hs.load hs)

theorem Steady.takeSeq (hs : Steady o s) {q} : Steady o (s.takeSeq q) := by
  unfold State.takeSeq
  split; exacts [hs, hs.setLp.wr.wrb]

theorem Steady.itemFigures (hs : Steady o s) {f r} : Steady o (s.itemFigures f r) :=
  hs.itemSeen.set.set.thru fun hs => .ite hs (hs.set.foldl fun hs => hs.takeSeq)

theorem Steady.execPairItemRoleFigures (hs : Steady o s) {fig role} : Runs o (execPairItemRoleFigures fig role s) := hs.itemFigures

/-! ### Meanings of Machine/Image.lean -/

theorem Steady.ld (hs : Steady o s) {f v} : Steady o (s.ld f v) := hs.load

theorem Steady.ldb (hs : Steady o s) {f b} : Steady o (s.ldb f b) := hs.ld

theorem Steady.ldWord (hs : Steady o s) {addr w} : Steady o (s.ldWord addr w) := by
  unfold State.ldWord
  split; exacts [hs, (hs.foldl fun hs => .ite hs.load hs)]

theorem Steady.loadInit (hs : Steady o s) {scope} : Steady o (s.loadInit scope) := hs.foldl fun hs => hs.load

theorem Steady.loadLoop (hs : Steady o s) {d} : Steady o (s.loadLoop d) :=
  ((((hs.ld.ld.ldb.ldb.ldb.ld.ld.ld.ld.foldl fun hs => hs.ld).foldl fun hs => hs.ld.ld).foldl fun hs => hs.ld.ld.ld.ldb.ldb).foldl fun hs
    => hs.ldWord.ldWord.ldWord.ld).foldl fun hs => hs.ld

theorem Steady.loadInitRole (hs : Steady o s) : Steady o s.loadInitRole := hs.foldl fun hs => hs.load

theorem Steady.setSlot (hs : Steady o s) {n x} : Steady o (s.setSlot n x) := .ite hs.set hs.set

theorem Steady.showUpdate (hs : Steady o s) : Steady o s.showUpdate := hs.wr.wr.wr.wr.wr.wr.wr64

theorem Steady.showBound (hs : Steady o s) : Steady o s.showBound :=
  ((hs.wr.wr.foldl fun hs => hs.wr).foldl fun hs => hs.wrb.wrb.wr.setHb.showHeld).wr

theorem Steady.loadSensors (hs : Steady o s) : Steady o s.loadSensors :=
  ((((hs.foldl fun hs => hs.ld.ldb.ld).foldl fun hs => hs.ld).foldl fun hs => hs.ld).ld.ld.ld.foldl fun hs =>
    hs.ldb.ld.ldb.ld.ld.ld.ld.ld.ld.ldb.ld.ldb.thru fun hs => by dsimp only; split; exacts [hs.ldb, hs]).ld.ld.wr

theorem Steady.loadSafety (hs : Steady o s) : Steady o s.loadSafety := (hs.foldl fun hs => hs.ld.ld.ld.ld.ld).foldl fun hs => hs.wrb

theorem Steady.loadParams (hs : Steady o s) : Steady o s.loadParams := by
  unfold State.loadParams
  exact (hs.foldl fun hs => hs.load).thru fun hs =>
    by dsimp only; split; exacts [hs.wr, (.ite ((hs.foldl fun hs => hs.load).wr) hs.set.wr.safLog)]

theorem Steady.loadRole (hs : Steady o s) {inst partner} : Steady o (s.loadRole inst partner) :=
  (hs.set.foldl fun hs => hs.loadLoop).thru fun hs => (Steady.ite (hs.foldl fun hs => hs.load)
    hs).loadInitRole.loadInit.loadSensors.loadParams.loadSafety.showBound.startGroups.ld.ld.ld.ld.ld.wr.ld.ldb.ldb.wrb.set.thru fun hs =>
    (Steady.ite hs.sendChunks hs).showSealed.mirrorBil

theorem Steady.copySections (hs : Steady o s) : Steady o s.copySections := hs.set.showSealed.offerSections

theorem Steady.takeEntry (hs : Steady o s) : Steady o s.takeEntry := by
  unfold State.takeEntry
  split; exacts [hs.wr.configError, (.ite hs.wr (hs.copySections.thru fun hs => .ite hs hs.loadRole))]

theorem Steady.takeStrap (hs : Steady o s) : Steady o s.takeStrap :=
  hs.wr.wr.wr.set.loadInit.showSealed.thru fun hs => .ite hs (.ite hs.configError (.ite hs.wr.wr
    (by split; exacts [hs.wr.configError, hs.wr.wr.takeEntry])))

theorem Steady.loadSlot (hs : Steady o s) {n} : Steady o (s.loadSlot n) := hs.set.wr.wr.wr.wrb

theorem Steady.loadGolden (hs : Steady o s) : Steady o s.loadGolden := hs.set.wr.wr.wr

theorem Steady.selectImage (hs : Steady o s) {memA memB} : Steady o (s.selectImage memA memB) :=
  (Steady.ite hs.commitRecord hs).thru fun hs => .ite hs.loadSlot.wrb.wrb.set ((Steady.ite hs.wr hs).thru fun hs => .ite hs.loadSlot
    ((Steady.ite hs.wr hs).thru fun hs => .ite hs.loadSlot.wrb hs.wr.loadGolden))

theorem Steady.startUpdate (hs : Steady o s) : Steady o s.startUpdate := hs.set.showUpdate

/-! ### Meanings of Machine/PatCmd.lean -/

theorem Steady.setUpdate (hs : Steady o s) {st result} : Steady o (s.setUpdate st result) := hs.set.showUpdate

theorem Steady.dropOwner (hs : Steady o s) : Steady o s.dropOwner := hs.set.showUpdate

theorem Steady.emptySlot (hs : Steady o s) : Steady o s.emptySlot := hs.setSlot

theorem Steady.patCommand (hs : Steady o s) {side key f} (hf : ∀ {s}, Steady o s → Steady o (f s)) :
    Steady o (s.patCommand side key f) :=
  hs.command fun hs => .ite hs.accessError (hf hs)

theorem Steady.patOpen (hs : Steady o s) {side} : Steady o (s.patOpen side) := .ite hs.accessError hs.emptySlot.set.setUpdate

theorem Steady.execPatOpen (hs : Steady o s) {side key} : Runs o (execPatOpen side key s) := hs.patCommand (fun hs => hs.patOpen)

theorem Steady.patVerify (hs : Steady o s) {side} : Steady o (s.patVerify side) := .ite hs.setUpdate hs.accessError

theorem Steady.execPatVerify (hs : Steady o s) {side key} : Runs o (execPatVerify side key s) := hs.patCommand (fun hs => hs.patVerify)

theorem Steady.verifyDone (hs : Steady o s) {memOk} : Steady o (s.verifyDone memOk) := .ite hs hs.setUpdate

theorem Steady.execPatVerifyDone (hs : Steady o s) {memOk} : Runs o (execPatVerifyDone memOk s) := hs.verifyDone

theorem Steady.armReset (hs : Steady o s) : Steady o s.armReset := hs.commitRecord.set.announceLeave.mainReset

theorem Steady.patArm (hs : Steady o s) {side single} : Steady o (s.patArm side single) :=
  .ite hs.accessError (.ite hs.accessError.setUpdate (.ite hs.armReset (.ite hs.startYield hs.accessError.setUpdate)))

theorem Steady.execPatArm (hs : Steady o s) {side key} : Runs o (execPatArm side key s) := hs.patCommand (fun hs => hs.patArm)

theorem Steady.execPatArmSingle (hs : Steady o s) {side key} : Runs o (execPatArmSingle side key s) := hs.patCommand (fun hs => hs.patArm)

theorem Steady.patCommit (hs : Steady o s) {side} : Steady o (s.patCommit side) :=
  .ite hs.accessError (hs.commitRecord.set.wrb.wrb.setUpdate.dropOwner.thru fun hs => .ite hs.changeLife hs)

theorem Steady.execPatCommit (hs : Steady o s) {side key} : Runs o (execPatCommit side key s) := hs.patCommand (fun hs => hs.patCommit)

theorem Steady.endUpdate (hs : Steady o s) : Steady o s.endUpdate := hs.emptySlot.setUpdate.dropOwner

theorem Steady.trialExpiry (hs : Steady o s) : Steady o s.trialExpiry := .ite hs (hs.set.thru fun hs => .ite hs hs.withdraw)

theorem Steady.patAbort (hs : Steady o s) {side} : Steady o (s.patAbort side) := .ite hs.accessError (.ite hs.trialExpiry hs.endUpdate)

theorem Steady.execPatAbort (hs : Steady o s) {side key} : Runs o (execPatAbort side key s) := hs.patCommand (fun hs => hs.patAbort)

theorem Steady.patSeal (hs : Steady o s) {side} : Steady o (s.patSeal side) :=
  .ite hs.accessError (.ite hs.accessError (.ite hs.accessError hs.toQ1))

theorem Steady.execPatSeal (hs : Steady o s) {side key} : Runs o (execPatSeal side key s) := hs.command (fun hs => hs.patSeal)

theorem Steady.execUpdateOwnerTimeout (hs : Steady o s) : Runs o (execUpdateOwnerTimeout s) := Steady.ite hs hs.endUpdate

theorem Steady.execTrialExpiry (hs : Steady o s) : Runs o (execTrialExpiry s) := hs.trialExpiry

theorem Steady.execTrialDeferredRevert (hs : Steady o s) : Runs o (execTrialDeferredRevert s) := Steady.ite hs.withdraw hs

theorem Steady.memoryFault (hs : Steady o s) : Steady o s.memoryFault := .ite hs.set.wakeBy hs.withdraw

theorem Steady.scrubWord (hs : Steady o s) {f} : Steady o (s.scrubWord f) := by
  unfold State.scrubWord
  exact (Steady.ite hs.set.wr hs.set).thru fun hs => by dsimp only; split; exacts [hs, hs.wr.barAdd, hs.barAdd, hs.memoryFault]

theorem Steady.execScrubWord (hs : Steady o s) {finding} : Runs o (execScrubWord finding s) := hs.scrubWord

/-! ### Meanings of Machine/Ring.lean -/

theorem Steady.setMember (hs : Steady o s) {a b} : Steady o (s.setMember a b) := .ite hs hs.wr

theorem Steady.nowJoined (hs : Steady o s) : Steady o s.nowJoined :=
  hs.set.setMember.thru fun hs => (Steady.ite hs.wr hs).thru fun hs => (Steady.ite hs.event hs).startForming

theorem Steady.offRing (hs : Steady o s) : Steady o s.offRing := hs.set.setMember.thru fun hs => .ite hs.set hs.set.wrb

theorem Steady.ringKeyOwn (hs : Steady o s) : Steady o s.ringKeyOwn :=
  (Steady.ite hs ((((hs.draw 40)).set).wrb)).thru fun hs => .ite hs hs.nowJoined

theorem Steady.calSlew (hs : Steady o s) : Steady o s.calSlew :=
  .ite hs
    (by dsimp only; split; exacts [hs.wr64.wrb.wr.wr.set.stepRecord, (.ite hs.wr64.wrb.wr (hs.wrb.wrisat.thru fun hs => .ite hs
      hs.event))])

theorem Steady.showProven (hs : Steady o s) : Steady o s.showProven := .ite hs.wrb hs

theorem Steady.sendHeader (hs : Steady o s) {h} : Steady o (s.sendHeader h) := hs.set

theorem Steady.cycleFrame (hs : Steady o s) {cycle} : Steady o (s.cycleFrame cycle) := by
  unfold State.cycleFrame
  dsimp only
  split; exacts [hs.set, hs.makeFrame.set]

theorem Steady.putSlots (hs : Steady o s) {cycle x leave} : Steady o (s.putSlots cycle x leave) := hs.set

theorem Steady.deliveredAt (hs : Steady o s) {x} : Steady o (s.deliveredAt x) := .ite hs.set hs

theorem Steady.writeSlots (hs : Steady o s) {cycle} : Steady o (s.writeSlots cycle) :=
  .ite hs (.ite (hs.set.putSlots.thru fun hs => .ite hs.offRing hs) (.ite hs ((Steady.ite hs
    hs.nowJoined).cycleFrame.putSlots.set.deliveredAt)))

theorem Steady.unwrapSign (hs : Steady o s) {unwrapNext cycle} : Steady o (s.unwrapSign unwrapNext cycle) := .ite hs.set hs

theorem Steady.cycleStart (hs : Steady o s) {time unwrapNext wrapped} : Steady o (s.cycleStart time unwrapNext wrapped) :=
  .ite hs hs.ringKeyOwn.wr64.wr64.boundary.calSlew.wrb.showProven.sendHeader.set.unwrapSign.writeSlots

theorem Steady.execCycleStart (hs : Steady o s) {time unwrapNext wrapped} : Runs o (execCycleStart time unwrapNext wrapped s) :=
  hs.cycleStart

theorem Steady.provisionalStart (hs : Steady o s) {time} : Steady o (s.provisionalStart time) := .ite hs.set.wrb.ringKeyOwn hs

theorem Steady.execProvisionalMaster (hs : Steady o s) {time} : Runs o (execProvisionalMaster time s) := hs.provisionalStart

theorem Steady.takePosition (hs : Steady o s) {hop master} : Steady o (s.takePosition hop master) :=
  .ite hs (hs.set.thru fun hs => by dsimp only; split; exacts [hs.wr.wr.wr.takeEntry, hs.wr.configError])

theorem Steady.measureLink (hs : Steady o s) {dirB delay neighbour} : Steady o (s.measureLink dirB delay neighbour) :=
  .ite hs.wr.wr hs.wr.wr

theorem Steady.takeHop (hs : Steady o s) {dirB hop correction delay forward} : Steady o (s.takeHop dirB hop correction delay forward) :=
  .ite hs.set hs.set

theorem Steady.nextVote (hs : Steady o s) : Steady o s.nextVote := hs.set

theorem Steady.train (hs : Steady o s) {dirB wrapped ringWrapped cycle hop correction delay forward neighbour master time} : Steady o
    (s.train dirB wrapped ringWrapped cycle hop correction delay forward neighbour master time) :=
  hs.set.measureLink.thru fun hs => .ite hs (hs.takeHop.thru fun hs => (Steady.ite hs.takePosition hs).writeSlots.thru fun hs => .ite hs
    hs.nextVote)

theorem Steady.tagFail (hs : Steady o s) {src} : Steady o (s.tagFail src) := hs.inc.thru fun hs => .ite hs.set.event hs.set

theorem Steady.headerTack (hs : Steady o s) {h} : Steady o (s.headerTack h) :=
  .ite hs (.ite hs (.ite hs.setHbi.wrb.configError hs.setHbi))

theorem Steady.followTime (hs : Steady o s) {h dirB arrival} : Steady o (s.followTime h dirB arrival) :=
  (Steady.ite hs.set hs.set).wrb.thru fun hs => (Steady.ite hs.event hs).thru fun hs => .ite hs hs.wr64

theorem Steady.stepDown (hs : Steady o s) : Steady o s.stepDown := hs.set.wrb.offRing.foldl fun hs => hs.wr

theorem Steady.headerFields (hs : Steady o s) {h} : Steady o (s.headerFields h) :=
  hs.wr64.wr64.wr.wrb.wrb.thru fun hs => (Steady.ite hs.set hs).set.unwrapSign

theorem Steady.takeHeader (hs : Steady o s) {h dirB arrival steer} : Steady o (s.takeHeader h dirB arrival steer) :=
  hs.followTime.wrisat.thru fun hs => (Steady.ite hs.headerFields hs).thru fun hs => .ite hs (hs.headerTack.thru fun hs => .ite
    hs.boundary hs)

theorem Steady.cycleHeader (hs : Steady o s) {h dirB tagOk arrival steer} : Steady o (s.cycleHeader h dirB tagOk arrival steer) :=
  .ite hs (.ite (.ite hs.stepDown hs) (.ite (.ite hs.takeHeader hs) (.ite hs.tagFail hs.takeHeader)))

theorem Steady.execCycleHeaderReceive (hs : Steady o s) {header dirB tagOk arrival steer} : Runs o (execCycleHeaderReceive header dirB
    tagOk arrival steer s) :=
  hs.cycleHeader

theorem Steady.setSession (hs : Steady o s) {k x} : Steady o (s.setSession k x) := hs.set

theorem Steady.forward (hs : Steady o s) {session unit q} : Steady o (s.forward session unit q) := hs.foldl fun hs => hs.place

theorem Steady.forwardWaiting (hs : Steady o s) {a} : Steady o (s.forwardWaiting a) :=
  hs.foldl fun hs => .ite hs (hs.setSession.foldl fun hs => hs.forward)

theorem Steady.noteLeave (hs : Steady o s) {src} : Steady o (s.noteLeave src) := hs.set

theorem Steady.noteJoin (hs : Steady o s) {src} : Steady o (s.noteJoin src) := hs.set

theorem Steady.membership (hs : Steady o s) {src leave} : Steady o (s.membership src leave) :=
  .ite (.ite hs (hs.noteLeave.setMember.thru fun hs => .ite hs.event hs)) (.ite hs (hs.setMember.noteJoin.thru fun hs => (Steady.ite
    hs.event hs).forwardWaiting))

theorem Steady.takeJob (hs : Steady o s) {src channel msg} : Steady o (s.takeJob src channel msg) := .ite hs hs.set

theorem Steady.reassemble (hs : Steady o s) {x} : Steady o (s.reassemble x) :=
  .ite hs.set (.ite hs.set.inc (hs.enqueue.thru fun hs => .ite hs.set.set.takeJob hs.set))

theorem Steady.dataSlot (hs : Steady o s) {x cycle tagOk} : Steady o (s.dataSlot x cycle tagOk) :=
  .ite hs (.ite hs.tagFail (.ite hs (hs.set.membership.thru fun hs => .ite hs hs.reassemble)))

theorem Steady.execDataSlotReceive (hs : Steady o s) {slot cycle tagOk} : Runs o (execDataSlotReceive slot cycle tagOk s) := hs.dataSlot

theorem Steady.safetySlot (hs : Steady o s) {src cycle f tagOk} : Steady o (s.safetySlot src cycle f tagOk) :=
  .ite hs (.ite hs.tagFail (.ite hs hs.set.safetyFrame))

theorem Steady.execSafetyFrameReceive (hs : Steady o s) {src cycle frame tagOk} :
    Runs o (execSafetyFrameReceive src cycle frame tagOk s) :=
  hs.safetySlot

theorem Steady.execSquallEvent (hs : Steady o s) {code arg} : Runs o (execSquallEvent code arg s) := Steady.ite hs hs.event

theorem Steady.squallSend (hs : Steady o s) {cycle} : Steady o (s.squallSend cycle) := by
  unfold State.squallSend
  split; exacts [hs, .ite hs hs.inc.set]

theorem Steady.execSquallSend (hs : Steady o s) {cycle} : Runs o (execSquallSend cycle s) := hs.squallSend

theorem Steady.unitHears (hs : Steady o s) {src code} : Steady o (s.unitHears src code) :=
  .ite (.ite hs.columnOff hs) (.ite hs (.ite hs.set (.ite hs.set (.ite hs.set hs))))

theorem Steady.siteHears (hs : Steady o s) {src code} : Steady o (s.siteHears src code) :=
  .ite hs (.ite hs.set (.ite hs.set (.ite hs.set hs)))

theorem Steady.markerHears (hs : Steady o s) {src code} : Steady o (s.markerHears src code) := hs.unitHears.siteHears

theorem Steady.squallReceive (hs : Steady o s) {f tagOk} : Steady o (s.squallReceive f tagOk) :=
  .ite hs (.ite hs.tagFail (.ite hs hs.set.enterQ0.markerHears))

theorem Steady.execSquallReceive (hs : Steady o s) {frame tagOk} : Runs o (execSquallReceive frame tagOk s) := hs.squallReceive

theorem Steady.showWrap (hs : Steady o s) : Steady o s.showWrap := hs.wrb.wrb

theorem Steady.linkBreak (hs : Steady o s) {port} : Steady o (s.linkBreak port) :=
  .ite hs (hs.set.showWrap.thru fun hs => (Steady.ite hs.wr hs.wr).wr.barAdd.event.markerHears)

theorem Steady.execLinkBreak (hs : Steady o s) {port} : Runs o (execLinkBreak port s) := hs.linkBreak

theorem Steady.execRingUnwrap (hs : Steady o s) {port} : Runs o (execRingUnwrap port s) := Steady.ite hs.set.showWrap.event.markerHears hs

theorem Steady.ptpSync (hs : Steady o s) {offset calendar locked port} : Steady o (s.ptpSync offset calendar locked port) :=
  .ite hs (hs.set.wrisat.wrb.wr.thru fun hs => (Steady.ite hs.wr64.wr.set.wrb hs).showProven)

theorem Steady.execPtpSync (hs : Steady o s) {offset calendar locked port} : Runs o (execPtpSync offset calendar locked port s) :=
  hs.ptpSync

theorem Steady.execPtpSyncTimeout (hs : Steady o s) : Runs o (execPtpSyncTimeout s) := Steady.ite hs hs.set.showProven

theorem Steady.joinRequest (hs : Steady o s) {dirB} : Steady o (s.joinRequest dirB) := .ite hs hs.set

theorem Steady.execJoinRequest (hs : Steady o s) {dirB} : Runs o (execJoinRequest dirB s) := hs.joinRequest

theorem Steady.joinTake (hs : Steady o s) {r} : Steady o (s.joinTake r) :=
  .ite hs (hs.set.thru fun hs => .ite hs (by split; exacts [hs, (((hs.draw 41)).set).ringSend]))

theorem Steady.noteWindow (hs : Steady o s) {r} : Steady o (s.noteWindow r) := .ite hs hs.set

theorem Steady.joinWindows (hs : Steady o s) {windowA windowB} : Steady o (s.joinWindows windowA windowB) :=
  .ite (hs.foldl fun hs => hs.noteWindow) (by split; exacts [hs.joinTake, hs.joinTake, hs])

theorem Steady.execJoinWindowTake (hs : Steady o s) {windowA windowB} : Runs o (execJoinWindowTake windowA windowB s) := hs.joinWindows

theorem Steady.unassign (hs : Steady o s) : Steady o s.unassign := hs.wr.wr.ld.ld.set

theorem Steady.joinChal (hs : Steady o s) {nonce} : Steady o (s.joinChal nonce) :=
  .ite hs (by split; exacts [hs.set.wrb.configError.event.unassign, (by split; exacts [hs, hs.set.inc])])

theorem Steady.execJoinChalReceive (hs : Steady o s) {nonce} : Runs o (execJoinChalReceive nonce s) := hs.joinChal

theorem Steady.joinCheck (hs : Steady o s) {addr response} : Steady o (s.joinCheck addr response) := by
  unfold State.joinCheck
  split; exacts [hs, (.ite hs (hs.inc.thru fun hs => .ite hs.ringSend hs.set.event))]

theorem Steady.execJoinResponseCheck (hs : Steady o s) {addr response} : Runs o (execJoinResponseCheck addr response s) := hs.joinCheck

theorem Steady.execJoinRetry (hs : Steady o s) : Runs o (execJoinRetry s) := Steady.ite hs.set.wrb (.ite hs.set hs)

theorem Steady.ringKey (hs : Steady o s) {epoch wrapped next} : Steady o (s.ringKey epoch wrapped next) :=
  .ite hs (by split; exacts [hs, (hs.inc.thru fun hs => by split; exacts [hs.set, hs.set.wrb])])

theorem Steady.execRingKeyReceive (hs : Steady o s) {epoch wrapped next} : Runs o (execRingKeyReceive epoch wrapped next s) := hs.ringKey

theorem Steady.execRekeyDeliveryReceive (hs : Steady o s) {epoch wrapped} : Runs o (execRekeyDeliveryReceive epoch wrapped s) :=
  Steady.ite hs (hs.inc.thru fun hs => by dsimp only; split; exacts [hs, hs.set])

theorem Steady.execLeaveCommand (hs : Steady o s) {side key} : Runs o (execLeaveCommand side key s) :=
  hs.command (fun hs => hs.announceLeave)

theorem Steady.execDeclaredLeave (hs : Steady o s) {addr} : Runs o (execDeclaredLeave addr s) := Steady.ite hs.membership.set hs

theorem Steady.startRekey (hs : Steady o s) : Steady o s.startRekey :=
  .ite hs (((((hs.draw 40)).set).foldl fun hs => by split; exacts [hs.ringSend, hs]).set)

theorem Steady.execRekeyCommand (hs : Steady o s) {side key} : Runs o (execRekeyCommand side key s) :=
  hs.command (fun hs => .ite hs.startRekey hs.accessError)

theorem Steady.execRekeyDue (hs : Steady o s) : Runs o (execRekeyDue s) := Steady.ite hs.startRekey hs

theorem Steady.execEpochAdvance (hs : Steady o s) {time} : Runs o (execEpochAdvance time s) := by
  show Steady o _
  split
  · exact .ite hs hs.set
  · exact hs

/-! ### Meanings of Machine/Que.lean -/

theorem Steady.setQ10 (hs : Steady o s) {xs} : Steady o (s.setQ10 xs) := hs.set.queLevel

theorem Steady.refill (hs : Steady o s) {q} : Steady o (s.refill q) := by
  unfold State.refill
  split; exacts [hs, .ite hs.set.setQ hs]

theorem Steady.traceIn (hs : Steady o s) {e} : Steady o (s.traceIn e) := (Steady.ite hs.set hs.set.inc).wr

theorem Steady.handOut (hs : Steady o s) {q} : Steady o (s.handOut q) := by
  unfold State.handOut
  split; exacts [hs, hs.set.setQ]

theorem Steady.moveHead (hs : Steady o s) {q} : Steady o (s.moveHead q) := by
  unfold State.moveHead
  split; exacts [(by split; exacts [hs, hs.setQ0.ringWrite]), (by split; exacts [hs, hs.set.handOut]),
    (by split; exacts [hs, hs.set.setQ]), (by split; exacts [hs, hs.setQ.setQ]),
    (by split; exacts [hs, (hs.setQ10.enterQ0.thru fun hs => .ite hs.squallPend hs)]), (by split; exacts [hs, hs.setQ.setQ]),
    (by split; exacts [hs, hs.setQ.setQ]), (by split; exacts [hs, hs.set.queLevel.traceIn]), hs.handOut]

theorem Steady.queueMove (hs : Steady o s) {ready} : Steady o (s.queueMove ready) := .ite hs (by split; exacts [hs, hs.moveHead.refill])

theorem Steady.execQueueMove (hs : Steady o s) {ready} : Runs o (execQueueMove ready s) := hs.queueMove

theorem Steady.mbxPop (hs : Steady o s) {side} : Steady o (s.mbxPop side) := by
  unfold State.mbxPop
  split; exacts [hs.accessError, hs.setQ11]

theorem Steady.execQueMbxPop (hs : Steady o s) {side key} : Runs o (execQueMbxPop side key s) := hs.command (fun hs => hs.mbxPop)

theorem Steady.mbxPush (hs : Steady o s) {side} : Steady o (s.mbxPush side) := .ite hs.accessError (.ite hs.accessError hs.setQ10)

theorem Steady.execQueMbxPush (hs : Steady o s) {side key} : Runs o (execQueMbxPush side key s) := hs.command (fun hs => hs.mbxPush)

theorem Steady.traceDrop (hs : Steady o s) : Steady o s.traceDrop := hs.set.wr

theorem Steady.drive (hs : Steady o s) {side v} : Steady o (s.drive side v) := .ite hs.setHbi hs

theorem Steady.traceRead (hs : Steady o s) {side} : Steady o (s.traceRead side) := .ite hs.accessError.drive hs.traceDrop.accepted.drive

theorem Steady.execTraceRead (hs : Steady o s) {side} : Runs o (execTraceRead side s) := hs.traceRead

theorem Steady.toShore (hs : Steady o s) {session msg} : Steady o (s.toShore session msg) := hs.placeAll

theorem Steady.toSession (hs : Steady o s) {session msg} : Steady o (s.toSession session msg) := .ite hs.toShore hs.ringReply

theorem Steady.subSend (hs : Steady o s) {session time} : Steady o (s.subSend session time) := by
  unfold State.subSend
  split; exacts [hs, .ite hs hs.set.toSession]

theorem Steady.execSubscriptionSend (hs : Steady o s) {session time} : Runs o (execSubscriptionSend session time s) := hs.subSend

theorem Steady.subscribe (hs : Steady o s) {session reqId classes maxSev scope} : Steady o (s.subscribe session reqId classes maxSev
    scope) :=
  hs.set

/-! ### Meanings of Machine/Hbi.lean -/

theorem Steady.plainRead (hs : Steady o s) {side addr x} (hx : s.plainRead side addr = .ok x) : Steady o x.2 := by
  unfold State.plainRead at hx
  split at hx
  · exact nomatch hx
  · split at hx
    · exact nomatch hx
    · exact Except.ok.inj hx ▸ hs.clearRc

theorem Steady.levelWrite (hs : Steady o s) {side b v} : Steady o (s.levelWrite side b v) :=
  .ite hs.accessError (.ite hs.accessError (.ite hs.accessError (.ite hs.accessError hs.accepted.wr)))

theorem Steady.execLevelWrite (hs : Steady o s) {side b value} : Runs o (execLevelWrite side b value s) := hs.levelWrite

theorem Steady.execLocalTack (hs : Steady o s) {side mask} : Runs o (execLocalTack side mask s) := hs.accepted.tack

theorem Steady.pinTack (hs : Steady o s) {widthNs time} : Steady o (s.pinTack widthNs time) := .ite hs hs.setHbi.tack

theorem Steady.execTackPinEdge (hs : Steady o s) {widthNs time} : Runs o (execTackPinEdge widthNs time s) := hs.pinTack

theorem Steady.pfgTimeout (hs : Steady o s) {g} : Steady o (s.pfgTimeout g) := by
  unfold State.pfgTimeout
  split
  · exact hs
  · refine .ite hs (.pfgError ?_)
    exact hs.setStores id (SMap.wf_copyKeys _ _ _) (SMap.wf_copyKeys _ _ _) fun _ he => .inl (List.mem_of_mem_filter he)

theorem Steady.execPfgLiveTimeout (hs : Steady o s) {g} : Runs o (execPfgLiveTimeout g s) := hs.pfgTimeout

theorem Steady.rtackGo (hs : Steady o s) {side time} : Steady o (s.rtackGo side time) :=
  .ite hs.accessError (.ite hs.accessError hs.setHbi)

theorem Steady.execRingTackRequest (hs : Steady o s) {side key time} : Runs o (execRingTackRequest side key time s) :=
  hs.command (fun hs => hs.rtackGo)

theorem Steady.rtackInstant (hs : Steady o s) {time} : Steady o (s.rtackInstant time) := hs.setHbi.foldl fun hs => hs.tack

theorem Steady.execRingTackInstant (hs : Steady o s) {time} : Runs o (execRingTackInstant time s) := hs.rtackInstant

theorem Steady.newChallenge (hs : Steady o s) {side} : Steady o (s.newChallenge side) := (((hs.draw 50)).foldl fun hs => hs.wr).setSide

theorem Steady.readChallenge (hs : Steady o s) {side} : Steady o (s.readChallenge side) := hs.newChallenge.accepted.drive

theorem Steady.execCredChallengeRead (hs : Steady o s) {side} : Runs o (execCredChallengeRead side s) := hs.readChallenge

theorem Steady.credFail (hs : Steady o s) {side} : Steady o (s.credFail side) := hs.wr.thru fun hs => .ite hs hs.setSide.event

theorem Steady.credOpen (hs : Steady o s) {side safety fresh} : Steady o (s.credOpen side safety fresh) :=
  .ite hs.accessError (.ite hs.credFail (hs.wr.thru fun hs => .ite hs.wrb hs.wrb))

theorem Steady.execCredOpenMaintenance (hs : Steady o s) {side key fresh} : Runs o (execCredOpenMaintenance side key fresh s) :=
  hs.command (fun hs => hs.credOpen)

theorem Steady.execCredOpenSafety (hs : Steady o s) {side key fresh} : Runs o (execCredOpenSafety side key fresh s) :=
  hs.command (fun hs => hs.credOpen)

theorem Steady.credClose (hs : Steady o s) {side} : Steady o (s.credClose side) := .ite hs.accessError hs.closeCreds

theorem Steady.execCredCloseAll (hs : Steady o s) {side key} : Runs o (execCredCloseAll side key s) := hs.command (fun hs => hs.credClose)

theorem Steady.execCredTimeout (hs : Steady o s) {side safety} : Runs o (execCredTimeout side safety s) := hs.closeCreds

theorem Steady.credLockoutEnd (hs : Steady o s) {side} : Steady o (s.credLockoutEnd side) := .ite hs hs.setSide.wr

theorem Steady.execCredLockoutEnd (hs : Steady o s) {side} : Runs o (execCredLockoutEnd side s) := hs.credLockoutEnd

theorem Steady.plainWord (hs : Steady o s) {side b} : Steady o (match s.plainRead side b with
    | .ok (v, s) => (v, 0, s)
    | .error e => (0, e, s) : Nat × Nat × State).2.2 := by
  cases hx : s.plainRead side b with
  | ok x => have read := hs.plainRead hx; exact read
  | error e => exact hs

theorem Steady.idxWord (hs : Steady o s) {side a} : Steady o (s.idxWord side a).2.2 := by
  unfold State.idxWord
  split
  · exact hs
  split
  · exact hs
  split
  · exact hs
  split
  · exact hs.plainWord
  split
  · exact hs
  split
  · exact hs
  split
  · exact hs.plainWord
  · exact hs.draw 46

theorem Steady.setReady (hs : Steady o s) {side b} : Steady o (s.setReady side b) := hs.wrb

theorem Steady.setWait (hs : Steady o s) {side b} : Steady o (s.setWait side b) := hs.wrb

theorem Steady.setPort (hs : Steady o s) {side p} : Steady o (s.setPort side p) := hs.setSide.wrb

theorem Steady.slotWrite (hs : Steady o s) {off v} : Steady o (s.slotWrite off v) := hs.setSlot.thru fun hs => .ite hs.setUpdate hs

theorem Steady.idxPost (hs : Steady o s) {side v} : Steady o (s.idxPost side v) :=
  .ite (by split; exacts [hs.accessError.setReady, hs.slotWrite.accepted.setSide.wr.setReady]) (.ite
    (by split; exacts [hs.accessError.setReady, hs.liveWrite.setSide.wr.setReady])
    (by split; exacts [hs.accessError.setReady, hs.writeReg.setSide.wr.setReady]))

theorem Steady.idxLock (hs : Steady o s) {side} : Steady o (s.idxLock side) := by
  unfold State.idxLock
  split
  · exact hs
  · refine .ite hs.setPort.setReady.setWait ?_
    dsimp only
    split
    · exact hs.setPort.setWait.setSide.idxPost
    · exact .ite hs.setPort.setWait.setSide.wr.setReady hs.setPort.setWait.setSide.setReady

theorem Steady.idxGoto (hs : Steady o s) {side a} : Steady o (s.idxGoto side a) :=
  hs.wr.setSide.thru fun hs => (Steady.ite hs hs.setPort).idxLock

theorem Steady.idxAddrWrite (hs : Steady o s) {side a} : Steady o (s.idxAddrWrite side a) := by
  unfold State.idxAddrWrite
  split; exacts [hs.accessError, .ite hs.accessError (.ite hs.accepted.setSide hs.accepted.idxGoto)]

theorem Steady.execIdxAddrWrite (hs : Steady o s) {side addr} : Runs o (execIdxAddrWrite side addr s) := hs.idxAddrWrite

theorem Steady.idxRefused (hs : Steady o s) {side e} : Steady o (s.idxRefused side e) :=
  hs.setSide.thru fun hs => .ite hs.accessError hs.accessError

theorem Steady.idxAdvance (hs : Steady o s) {side fetch} : Steady o (s.idxAdvance side fetch) :=
  .ite (.ite hs.idxGoto hs.wr) hs.wrb.setSide

theorem Steady.idxDataRead (hs : Steady o s) {side} : Steady o (s.idxDataRead side).2 := by
  unfold State.idxDataRead
  split
  · exact hs.idxRefused
  · split
    · exact hs.idxRefused
    · exact .ite hs.accepted.idxAdvance hs.accepted

theorem Steady.readIdxData (hs : Steady o s) {side} : Steady o (s.readIdxData side) := hs.idxDataRead.drive

theorem Steady.execIdxDataRead (hs : Steady o s) {side} : Runs o (execIdxDataRead side s) := hs.readIdxData

theorem Steady.idxDataWrite (hs : Steady o s) {side v} : Steady o (s.idxDataWrite side v) := by
  unfold State.idxDataWrite
  split; exacts [hs.idxRefused, hs, .ite hs.idxRefused (.ite hs.accepted.setSide.setReady.setWait hs.setPort.idxPost)]

theorem Steady.execIdxDataWrite (hs : Steady o s) {side value} : Runs o (execIdxDataWrite side value s) := hs.idxDataWrite

theorem Steady.idxFetchDone (hs : Steady o s) {side} : Steady o (s.idxFetchDone side) := .ite hs hs.idxWord.setSide.wr.setReady

theorem Steady.execIdxFetchDone (hs : Steady o s) {side} : Runs o (execIdxFetchDone side s) := hs.idxFetchDone

theorem Steady.idxPostDone (hs : Steady o s) {side} : Steady o (s.idxPostDone side) :=
  .ite hs (hs.setSide.thru fun hs => by split; exacts [hs.idxGoto, (hs.setReady.thru fun hs => .ite hs.idxAdvance hs)])

theorem Steady.execIdxPostDone (hs : Steady o s) {side} : Runs o (execIdxPostDone side s) := hs.idxPostDone

theorem Steady.idxRelease (hs : Steady o s) {side} : Steady o (s.idxRelease side) := hs.setPort

theorem Steady.execIdxRelease (hs : Steady o s) {side} : Runs o (execIdxRelease side s) := hs.accepted.idxRelease

theorem Steady.execIdxPortTimeout (hs : Steady o s) {side} : Runs o (execIdxPortTimeout side s) := Steady.ite hs.setPort hs

theorem Steady.idxPortFree (hs : Steady o s) {side} : Steady o (s.idxPortFree side) := .ite hs.idxLock hs

theorem Steady.execIdxPortFree (hs : Steady o s) {side} : Runs o (execIdxPortFree side s) := hs.idxPortFree

/-! ### Meanings of Machine/MrkUnit.lean -/

theorem Steady.reportSample (hs : Steady o s) {curve} : Steady o (s.reportSample curve) :=
  .ite hs (by split; exacts [(hs.set.stackEnergy.ringSend.thru fun hs => by split; exacts [hs, hs.set.ringSend]), hs.ringSend, hs])

theorem Steady.execReportSample (hs : Steady o s) {curve} : Runs o (execReportSample curve s) := hs.reportSample

theorem Steady.showLease (hs : Steady o s) : Steady o s.showLease := hs.wr

theorem Steady.showCommitted (hs : Steady o s) {p} : Steady o (s.showCommitted p) :=
  (hs.foldl fun hs => hs.wr.wr.wr).foldl fun hs => hs.wr.wr

theorem Steady.followPlan (hs : Steady o s) {p} : Steady o (s.followPlan p) := hs.set.showCommitted

theorem Steady.planReceive (hs : Steady o s) {p src} : Steady o (s.planReceive p src) :=
  .ite hs (hs.set.thru fun hs => .ite hs.followPlan hs)

theorem Steady.execPlanReceive (hs : Steady o s) {plan src} : Runs o (execPlanReceive plan src s) := hs.planReceive

theorem Steady.planMissed (hs : Steady o s) : Steady o s.planMissed := hs.inc.event

theorem Steady.planTack (hs : Steady o s) {time} : Steady o (s.planTack time) :=
  .ite hs (by split; exacts [.ite hs.set.tack hs.planMissed, hs.planMissed])

theorem Steady.execPlanTack (hs : Steady o s) {time} : Runs o (execPlanTack time s) := hs.planTack

theorem Steady.requestOutput (hs : Steady o s) {mode} : Steady o (s.requestOutput mode) := hs.foldl fun hs => hs.requestMode

theorem Steady.stopThese (hs : Steady o s) {ds} : Steady o (s.stopThese ds) := hs.foldl fun hs => .ite hs hs.startStop

theorem Steady.stopOutput (hs : Steady o s) : Steady o s.stopOutput := hs.stopThese

theorem Steady.endRamp (hs : Steady o s) : Steady o s.endRamp := .ite hs hs.set

theorem Steady.renewLease (hs : Steady o s) {p col} : Steady o (s.renewLease p col) := hs.set.endRamp.showLease

theorem Steady.startConnect (hs : Steady o s) : Steady o s.startConnect := hs.set.requestOutput

theorem Steady.takeEntryOf (hs : Steady o s) {p e} : Steady o (s.takeEntryOf p e) := hs.set.endRamp

theorem Steady.noColumn (hs : Steady o s) {p e} : Steady o (s.noColumn p e) :=
  .ite hs (hs.takeEntryOf.thru fun hs => .ite hs.stopThese hs.stopOutput)

theorem Steady.applyStack (hs : Steady o s) {p e} : Steady o (s.applyStack p e) :=
  hs.wr.thru fun hs => (Steady.ite hs.set hs).thru fun hs => .ite hs.noColumn (.ite hs (hs.takeEntryOf.renewLease.thru fun hs => .ite
    hs.startConnect (.ite hs.set hs)))

theorem Steady.noteLeases (hs : Steady o s) {p} : Steady o (s.noteLeases p) := hs.set

theorem Steady.planApply (hs : Steady o s) {p} : Steady o (s.planApply p) := by
  unfold State.planApply
  exact hs.set.wr.thru fun hs => by dsimp only; split; exacts [hs.applyStack, hs.set.noteLeases, hs]

theorem Steady.sendPlanning (hs : Steady o s) : Steady o s.sendPlanning := .ite hs hs.sendItem

theorem Steady.markerApply (hs : Steady o s) {time} : Steady o (s.markerApply time) := by
  unfold State.markerApply
  exact hs.boundary.thru fun hs => (Steady.ite hs.sendPlanning.set hs).thru fun hs =>
    by dsimp only; split; exacts [.ite hs.planApply hs, hs]

theorem Steady.demandSend (hs : Steady o s) {cycle time} : Steady o (s.demandSend cycle time) := .ite hs hs.set.set.ringSend

theorem Steady.execDemandSend (hs : Steady o s) {cycle time} : Runs o (execDemandSend cycle time s) := hs.demandSend

theorem Steady.demandReceive (hs : Steady o s) {d} : Steady o (s.demandReceive d) :=
  .ite hs (hs.set.endRamp.thru fun hs => .ite hs.columnOff hs)

theorem Steady.execDemandReceive (hs : Steady o s) {demand} : Runs o (execDemandReceive demand s) := hs.demandReceive

theorem Steady.startRamp (hs : Steady o s) {time len} : Steady o (s.startRamp time len) := .ite hs hs.set

theorem Steady.demandGone (hs : Steady o s) {time} : Steady o (s.demandGone time) := .ite hs hs.startRamp.set

theorem Steady.execDemandLost (hs : Steady o s) {time} : Runs o (execDemandLost time s) := hs.demandGone

theorem Steady.leadSend (hs : Steady o s) {cycle time iLead} : Steady o (s.leadSend cycle time iLead) := .ite hs hs.set.ringSend

theorem Steady.execLeadSend (hs : Steady o s) {cycle time iLead} : Runs o (execLeadSend cycle time iLead s) := hs.leadSend

theorem Steady.leadReceive (hs : Steady o s) {l} : Steady o (s.leadReceive l) := .ite hs hs.set.endRamp

theorem Steady.execLeadReceive (hs : Steady o s) {lead} : Runs o (execLeadReceive lead s) := hs.leadReceive

theorem Steady.leadGone (hs : Steady o s) {time} : Steady o (s.leadGone time) := .ite hs hs.startRamp.set

theorem Steady.execLeadLost (hs : Steady o s) {time} : Runs o (execLeadLost time s) := hs.leadGone

theorem Steady.leaseRampStart (hs : Steady o s) {time} : Steady o (s.leaseRampStart time) := by
  unfold State.leaseRampStart
  split; exacts [.ite hs hs.startRamp.set, hs]

theorem Steady.execLeaseRampStart (hs : Steady o s) {time} : Runs o (execLeaseRampStart time s) := hs.leaseRampStart

theorem Steady.leaseExpiry (hs : Steady o s) {time} : Steady o (s.leaseExpiry time) := by
  unfold State.leaseExpiry
  split; exacts [(.ite hs ((Steady.ite hs.barAdd.event hs).xpDropCoil.set.thru fun hs => (Steady.ite hs hs.set.stopOutput).showLease)),
    hs]

theorem Steady.execLeaseExpiry (hs : Steady o s) {time} : Runs o (execLeaseExpiry time s) := hs.leaseExpiry

theorem Steady.voltageMatched (hs : Steady o s) : Steady o s.voltageMatched := by
  unfold State.voltageMatched
  split; exacts [.ite hs.set.contactorOp hs, hs]

theorem Steady.execConnectVoltageMatched (hs : Steady o s) : Runs o (execConnectVoltageMatched s) := hs.voltageMatched

theorem Steady.failConnect (hs : Steady o s) : Steady o s.failConnect := by
  unfold State.failConnect
  exact hs.xpDropCoil.stopOutput.set.event

theorem Steady.execConnectMatchTimeout (hs : Steady o s) : Runs o (execConnectMatchTimeout s) := Steady.ite hs.failConnect hs

theorem Steady.xpClosed (hs : Steady o s) : Steady o s.xpClosed := .ite hs.set hs

theorem Steady.execXpAuxClosed (hs : Steady o s) : Runs o (execXpAuxClosed s) := hs.xpClosed

theorem Steady.execXpAuxCloseTimeout (hs : Steady o s) : Runs o (execXpAuxCloseTimeout s) := Steady.ite hs.failConnect hs

theorem Steady.debounceEnd (hs : Steady o s) : Steady o s.debounceEnd := by
  unfold State.debounceEnd
  split; exacts [(hs.set.thru fun hs => .ite hs hs.requestOutput), hs.stopOutput.set.endRamp.showLease, hs]

theorem Steady.execXpDebounceEnd (hs : Steady o s) : Runs o (execXpDebounceEnd s) := hs.debounceEnd

theorem Steady.rampOutZero (hs : Steady o s) {time} : Steady o (s.rampOutZero time) := .ite hs.xpDropCoil.set hs

theorem Steady.execRampOutZeroHeld (hs : Steady o s) {time} : Runs o (execRampOutZeroHeld time s) := hs.rampOutZero

theorem Steady.releaseFailed (hs : Steady o s) {time} : Steady o (s.releaseFailed time) := .ite hs.set.event hs

theorem Steady.execReleaseFail (hs : Steady o s) {time} : Runs o (execReleaseFail time s) := hs.releaseFailed

theorem Steady.xpOpen (hs : Steady o s) : Steady o s.xpOpen := .ite hs.set hs

theorem Steady.execXpAuxOpen (hs : Steady o s) : Runs o (execXpAuxOpen s) := hs.xpOpen

theorem Steady.refillHolder (hs : Steady o s) {h} : Steady o (s.refillHolder h) :=
  (hs.foldl fun hs => by split; exacts [hs.ringSend, hs]).foldl fun hs => hs.ringSend

theorem Steady.refillHolders (hs : Steady o s) {old new} : Steady o (s.refillHolders old new) :=
  .ite (hs.foldl fun hs => hs.refillHolder) hs

theorem Steady.takeDuty (hs : Steady o s) {d} : Steady o (s.takeDuty d) :=
  hs.set.refillHolders.thru fun hs => (Steady.ite hs hs.wr.wrb).thru fun hs => .ite hs.requestVote hs

theorem Steady.storeReplica (hs : Steady o s) {owner block seq bytes} : Steady o (s.storeReplica owner block seq bytes) :=
  hs.set.ringReply

theorem Steady.execReplicaWriteReceive (hs : Steady o s) {owner block seq bytes} : Runs o (execReplicaWriteReceive owner block seq bytes
    s) :=
  Steady.ite hs hs.storeReplica

theorem Steady.replicaAck (hs : Steady o s) {holder seq} : Steady o (s.replicaAck holder seq) := hs.compose

theorem Steady.execReplicaAckReceive (hs : Steady o s) {holder seq} : Runs o (execReplicaAckReceive holder seq s) := hs.replicaAck

/-! ### Meanings of Machine/Marker.lean -/

theorem Steady.storeReport (hs : Steady o s) {time r old} : Steady o (s.storeReport time r old) := (Steady.ite hs hs.set).set.wrb

theorem Steady.quarantine (hs : Steady o s) {row col} : Steady o (s.quarantine row col) := .ite hs hs.set.wrb

theorem Steady.stackReport (hs : Steady o s) {time r} : Steady o (s.stackReport time r) := by
  unfold State.stackReport
  refine .ite hs ?_
  dsimp only
  split
  · exact .ite hs.storeReport.set.quarantine hs.storeReport.set
  · exact hs.storeReport.set

theorem Steady.execStackStatusReceive (hs : Steady o s) {time report} : Runs o (execStackStatusReceive time report s) := hs.stackReport

theorem Steady.curveReport (hs : Steady o s) {time row curve} : Steady o (s.curveReport time row curve) := .ite hs hs.set

theorem Steady.execStackCurveReceive (hs : Steady o s) {time row curve} : Runs o (execStackCurveReceive time row curve s) :=
  hs.curveReport

theorem Steady.outletReport (hs : Steady o s) {time r} : Steady o (s.outletReport time r) := .ite hs hs.set

theorem Steady.execOutletStatusReceive (hs : Steady o s) {time report} : Runs o (execOutletStatusReceive time report s) := hs.outletReport

theorem Steady.endQuarantine (hs : Steady o s) {row col} : Steady o (s.endQuarantine row col) := hs.set.thru fun hs => .ite hs hs.wrb

theorem Steady.execQuarantineEnd (hs : Steady o s) {row col} : Runs o (execQuarantineEnd row col s) := hs.endQuarantine

theorem Steady.showCaps (hs : Steady o s) : Steady o s.showCaps := .ite hs hs.wrb.wrb

theorem Steady.curtail (hs : Steady o s) {kw} : Steady o (s.curtail kw) := hs.wr.set.showCaps.sendPlanning

theorem Steady.curtailWrite (hs : Steady o s) {side v} : Steady o (s.curtailWrite side v) :=
  .ite hs.accessError (.ite hs.accessError (.ite hs.accessError hs.accepted.curtail))

theorem Steady.execCurtailWrite (hs : Steady o s) {side value} : Runs o (execCurtailWrite side value s) := hs.curtailWrite

theorem Steady.curtailLapse (hs : Steady o s) : Steady o s.curtailLapse := .ite hs hs.wr.showCaps.sendPlanning

theorem Steady.execCurtailLapse (hs : Steady o s) : Runs o (execCurtailLapse s) := hs.curtailLapse

theorem Steady.mrkCommand (hs : Steady o s) {side key f} (hf : ∀ {s}, Steady o s → Steady o (f s)) :
    Steady o (s.mrkCommand side key f) :=
  hs.command fun hs => .ite hs.accessError (hf hs)

theorem Steady.freeze (hs : Steady o s) {on} : Steady o (s.freeze on) := hs.wrb

theorem Steady.execMrkHoldOn (hs : Steady o s) {side key} : Runs o (execMrkHoldOn side key s) := hs.mrkCommand (fun hs => hs.freeze)

theorem Steady.execMrkHoldOff (hs : Steady o s) {side key} : Runs o (execMrkHoldOff side key s) := hs.mrkCommand (fun hs => hs.freeze)

theorem Steady.replan (hs : Steady o s) : Steady o s.replan := hs.set

theorem Steady.execMrkReplan (hs : Steady o s) {side key} : Runs o (execMrkReplan side key s) := hs.mrkCommand (fun hs => hs.replan)

theorem Steady.commitPlan (hs : Steady o s) {p} : Steady o (s.commitPlan p) :=
  hs.set.set.showCommitted.ringSend.foldl fun hs => hs.wrb.wrb

theorem Steady.dropAhead (hs : Steady o s) {w} : Steady o (s.dropAhead w) := hs.set.thru fun hs => .ite hs.discardAhead hs

theorem Steady.readInputs (hs : Steady o s) {t0} : Steady o (s.readInputs t0) := (Steady.ite hs.set hs).set

theorem Steady.takeSnapshot (hs : Steady o s) {t0} : Steady o (s.takeSnapshot t0) := .ite hs hs.readInputs.set.dropAhead.wrb.wrb.wrb

theorem Steady.markerCycle (hs : Steady o s) {time} : Steady o (s.markerCycle time) := .ite hs hs.markerApply.takeSnapshot

theorem Steady.execMarkerCycleStart (hs : Steady o s) {time} : Runs o (execMarkerCycleStart time s) := hs.markerCycle

theorem Steady.commitTarget (hs : Steady o s) {t0 w t} : Steady o (s.commitTarget t0 w t) := by
  unfold State.commitTarget
  split; exacts [hs, hs.commitPlan.set]

theorem Steady.showDuties (hs : Steady o s) {d} : Steady o (s.showDuties d) :=
  ((hs.foldl fun hs => hs.wr.wr.wrb).foldl fun hs => hs.wr.wr.wrb).wrb.wrb

theorem Steady.dutyReceive (hs : Steady o s) {d src} : Steady o (s.dutyReceive d src) := .ite hs (.ite hs.takeDuty.showDuties hs.takeDuty)

theorem Steady.execDutyReceive (hs : Steady o s) {duty src} : Runs o (execDutyReceive duty src s) := hs.dutyReceive

theorem Steady.sendDuties (hs : Steady o s) {t0 d} : Steady o (s.sendDuties t0 d) :=
  hs.showDuties.thru fun hs => .ite hs hs.set.ringSend.takeDuty

theorem Steady.sendWake (hs : Steady o s) {t0 r} : Steady o (s.sendWake t0 r) := hs.foldl fun hs => .ite hs hs.set.ringSend

theorem Steady.sendLull (hs : Steady o s) {r} : Steady o (s.sendLull r) := hs.set.thru fun hs => .ite (hs.foldl fun hs => hs.ringSend) hs

theorem Steady.placeWork (hs : Steady o s) {t0 w t updating} : Steady o (s.placeWork t0 w t updating) :=
  (hs.sendDuties.foldl fun hs => hs.sendLull).foldl fun hs => hs.sendWake

theorem Steady.solve (hs : Steady o s) {updating} : Steady o (s.solve updating) := by
  unfold State.solve
  split; exacts [hs, hs.wrb.commitTarget.placeWork]

theorem Steady.execSolveComplete (hs : Steady o s) {updating} : Runs o (execSolveComplete updating s) := hs.solve

theorem Steady.solveDeadline (hs : Steady o s) {best updating} : Steady o (s.solveDeadline best updating) := by
  unfold State.solveDeadline
  split; exacts [hs, (hs.inc.thru fun hs => by split; exacts [hs.wrb.commitTarget.placeWork, hs.wrb.commitPlan.set.placeWork])]

theorem Steady.execSolveDeadline (hs : Steady o s) {best updating} : Runs o (execSolveDeadline best updating s) := hs.solveDeadline

theorem Steady.wakeReceive (hs : Steady o s) {target src} : Steady o (s.wakeReceive target src) :=
  .ite hs (.ite (.ite hs.wakeBy hs) (.ite hs.set hs))

theorem Steady.execWakeReceive (hs : Steady o s) {target src} : Runs o (execWakeReceive target src s) := hs.wakeReceive

theorem Steady.wakeTimeout (hs : Steady o s) {a} : Steady o (s.wakeTimeout a) := by
  unfold State.wakeTimeout
  split; exacts [hs, (hs.set.thru fun hs => .ite hs hs.set)]

theorem Steady.execWakeJoinTimeout (hs : Steady o s) {addr} : Runs o (execWakeJoinTimeout addr s) := hs.wakeTimeout

/-! ### Meanings of Machine/Clk.lean -/

theorem Steady.clockMonitor (hs : Steady o s) {ppm} : Steady o (s.clockMonitor ppm) := .ite hs hs.withdraw

theorem Steady.execClockMonitor (hs : Steady o s) {ppm} : Runs o (execClockMonitor ppm s) := hs.clockMonitor

theorem Steady.pllLoss (hs : Steady o s) {pll} : Steady o (s.pllLoss pll) := .ite hs hs.wr.withdraw

theorem Steady.execPllLockLoss (hs : Steady o s) {pll} : Runs o (execPllLockLoss pll s) := hs.pllLoss

theorem Steady.rtcLoss (hs : Steady o s) : Steady o s.rtcLoss := hs.wrb.wrb.thru fun hs => .ite hs hs.set

theorem Steady.execRtc32Loss (hs : Steady o s) : Runs o (execRtc32Loss s) := hs.rtcLoss

theorem Steady.vbatMeasure (hs : Steady o s) {mv tAon rtc} : Steady o (s.vbatMeasure mv tAon rtc) :=
  hs.setRtc.wrsat.wrb.wrb.wrisat.wrb.thru fun hs => (Steady.ite hs.barAdd hs).thru fun hs => .ite hs.barAdd.inc hs

theorem Steady.execVbatMeasure (hs : Steady o s) {mv tAon rtc} : Runs o (execVbatMeasure mv tAon rtc s) := hs.vbatMeasure

theorem Steady.supplySwitch (hs : Steady o s) {vin} : Steady o (s.supplySwitch vin) :=
  hs.wrb.thru fun hs => .ite hs.set hs.releasePulses.set.wrb

theorem Steady.execAonSupplySwitch (hs : Steady o s) {vin} : Runs o (execAonSupplySwitch vin s) := hs.supplySwitch

theorem Steady.aonReset (hs : Steady o s) : Steady o s.aonReset := .ite hs hs.set.wr64.wr.wrb.wrb.wr.wr.wrb

theorem Steady.execAonReset (hs : Steady o s) : Runs o (execAonReset s) := hs.aonReset

theorem Steady.retentionScrub (hs : Steady o s) {f} : Steady o (s.retentionScrub f) := by
  unfold State.retentionScrub
  exact hs.set.wr.thru fun hs => by dsimp only; split; exacts [hs, hs.barAdd, hs.barAdd, hs.memoryFault]

theorem Steady.execRetentionScrub (hs : Steady o s) {finding} : Runs o (execRetentionScrub finding s) := hs.retentionScrub

theorem Steady.earlyWarningOn (hs : Steady o s) : Steady o s.earlyWarningOn :=
  .ite hs (hs.set.wrb.thru fun hs => .ite hs (hs.set.thru fun hs => (Steady.thru
    (by split; exacts [hs, .ite hs.withdrawSteps hs.claimWithdraw]) fun hs => hs).powerFail.barSave))

theorem Steady.execEarlyWarning (hs : Steady o s) : Runs o (execEarlyWarning s) := hs.earlyWarningOn

theorem Steady.earlyWarningOff (hs : Steady o s) : Steady o s.earlyWarningOff := .ite hs (.ite hs.set.wrb hs.mainReset)

theorem Steady.execEarlyWarningClear (hs : Steady o s) : Runs o (execEarlyWarningClear s) := hs.earlyWarningOff

theorem Steady.lullMessage (hs : Steady o s) {target src} : Steady o (s.lullMessage target src) := .ite hs.set (.ite hs.set hs)

theorem Steady.execLullMessageReceive (hs : Steady o s) {target src} : Runs o (execLullMessageReceive target src s) := hs.lullMessage

theorem Steady.discard (hs : Steady o s) {q} : Steady o (s.discard q) := .ite hs hs.setQ.inc

theorem Steady.drain (hs : Steady o s) {q} : Steady o (s.drain q) := hs.foldl fun hs => by split; exacts [hs.set.handOut, hs.handOut]

theorem Steady.lullQueues (hs : Steady o s) : Steady o s.lullQueues := by
  unfold State.lullQueues
  exact (hs.drain.drain.drain.foldl fun hs => hs.discard).thru fun hs => (Steady.ite hs hs.setQ10.inc).thru fun hs => (Steady.ite hs
    hs.setQ11.inc).thru fun hs => .ite hs.set hs.set.queLevel.inc

theorem Steady.finishLull (hs : Steady o s) : Steady o s.finishLull := by
  unfold State.finishLull
  exact hs.lullQueues.setRtc.releasePulses.powerFail.set.setMember.wrb.wr.inc.wr.thru fun hs =>
    by dsimp only; split; exacts [hs.set.wakeBy, hs]

theorem Steady.lullProceed (hs : Steady o s) : Steady o s.lullProceed := .ite hs.finishLull hs

theorem Steady.enterLull (hs : Steady o s) {rtc} : Steady o (s.enterLull rtc) := hs.set.wr.dropClaim.announceLeave.lullProceed

theorem Steady.lullEntry (hs : Steady o s) {rtc} : Steady o (s.lullEntry rtc) := .ite hs (.ite hs.set.wr hs.enterLull)

theorem Steady.execLullEntry (hs : Steady o s) {rtc} : Runs o (execLullEntry rtc s) := hs.lullEntry

theorem Steady.hostWake (hs : Steady o s) : Steady o s.hostWake := .ite hs.wakeBy hs

theorem Steady.execHostWake (hs : Steady o s) {side key} : Runs o (execHostWake side key s) := hs.command (fun hs => hs.hostWake)

theorem Steady.plugWake (hs : Steady o s) : Steady o s.plugWake := .ite hs.wakeBy hs

theorem Steady.execPlugWake (hs : Steady o s) : Runs o (execPlugWake s) := hs.plugWake

theorem Steady.execSafetyWake (hs : Steady o s) {k} : Runs o (execSafetyWake k s) := Steady.ite hs.wakeBy hs

theorem Steady.wakeComplete (hs : Steady o s) {rtc} : Steady o (s.wakeComplete rtc) :=
  .ite hs (hs.wr.wr.setRtc.thru fun hs => (Steady.ite hs hs.selStart).set.safetyResync.applyAtOnce.thru fun hs => .ite hs.set.withdraw hs)

theorem Steady.execWakeComplete (hs : Steady o s) {rtc} : Runs o (execWakeComplete rtc s) := hs.wakeComplete

theorem Steady.execTrainDelimiter (hs : Steady o s) {dirB wrapped ringWrapped cycle hop correction delay forward neighbour master time} :
    Runs o (execTrainDelimiter dirB wrapped ringWrapped cycle hop correction delay forward neighbour master time s) :=
  hs.train.lullProceed

/-! ### Meanings of Machine/Start.lean -/

theorem Steady.selvedgeOff (hs : Steady o s) : Steady o s.selvedgeOff := hs.set

theorem Steady.powerOn (hs : Steady o s) : Steady o s.powerOn :=
  (Steady.ite hs.wr64.wrb hs).selvedgeOff.mainReset.wrb.setStores (SMap.wf_filter _) id id fun _ he => .inl he

theorem Steady.execPowerOn (hs : Steady o s) : Runs o (execPowerOn s) := hs.powerOn

theorem Steady.brownOut (hs : Steady o s) : Steady o s.brownOut := .ite hs hs.selvedgeOff.mainReset.set

theorem Steady.execBrownOutReset (hs : Steady o s) : Runs o (execBrownOutReset s) := hs.brownOut

theorem Steady.execResetPin (hs : Steady o s) : Runs o (execResetPin s) := hs.mainReset

theorem Steady.commandReset (hs : Steady o s) : Steady o s.commandReset := hs.announceLeave.mainReset

theorem Steady.recall (hs : Steady o s) {side} : Steady o (s.recall side) := .ite hs hs.set

theorem Steady.sysReset (hs : Steady o s) {side} : Steady o (s.sysReset side) :=
  .ite (.ite hs.startYield hs.accessError) hs.recall.commandReset

theorem Steady.execSysReset (hs : Steady o s) {side key} : Runs o (execSysReset side key s) := hs.command (fun hs => hs.sysReset)

theorem Steady.execSysResetForce (hs : Steady o s) {side key} : Runs o (execSysResetForce side key s) :=
  hs.command (fun hs => hs.recall.commandReset)

theorem Steady.execLockstepMismatch (hs : Steady o s) : Runs o (execLockstepMismatch s) := hs.withdraw

theorem Steady.execUncorrectableError (hs : Steady o s) : Runs o (execUncorrectableError s) := hs.memoryFault

theorem Steady.startLife (hs : Steady o s) {dbgLow} : Steady o (s.startLife dbgLow) :=
  hs.set.thru fun hs => (Steady.ite hs.destroyKeys hs).thru fun hs => .ite hs.changeLife hs

theorem Steady.startFirst (hs : Steady o s) : Steady o s.startFirst :=
  hs.wrb.thru fun hs => .ite hs (hs.set.thru fun hs => (Steady.ite hs.passLegal hs).thru fun hs => .ite hs ((hs.issueCompat.set.foldl fun
    hs => hs.wr).wr.wr.wr.wr.wr.wr.wr.wr))

theorem Steady.startPartition (hs : Steady o s) {ok} : Steady o (s.startPartition ok) := .ite hs.set (.ite hs hs.selStart)

theorem Steady.barRestore (hs : Steady o s) : Steady o s.barRestore := by
  unfold State.barRestore
  dsimp only
  split; exacts [hs.wrb.set, .ite hs.wrb hs.wrb.set]

theorem Steady.benchRestore (hs : Steady o s) : Steady o s.benchRestore := hs.wrb.wr.wr.showHist

theorem Steady.startLoad (hs : Steady o s) {memA memB} : Steady o (s.startLoad memA memB) :=
  hs.barRestore.selectImage.startUpdate.showBound.showKeys.takeStrap.wrb.safetyResync.showSafety.benchRestore

theorem Steady.startBegin (hs : Steady o s) {straps bist selOk rtc memA memB dbgLow} : Steady o (s.startBegin straps bist selOk rtc memA
    memB dbgLow) := by
  unfold State.startBegin
  split; exacts [hs, (.ite hs (hs.setRtc.set.wr.wr.wr.wr.startLife.startFirst.wr.startPartition.startLoad.set.inc.wr.event.thru fun hs =>
    .ite hs.bench hs))]

theorem Steady.execStartBegin (hs : Steady o s) {straps bist selOk rtc memA memB dbgLow} : Runs o (execStartBegin straps bist selOk rtc
    memA memB dbgLow s) :=
  hs.startBegin

theorem Steady.selfTest (hs : Steady o s) {time} : Steady o (s.selfTest time) :=
  .ite hs (((hs.foldl fun hs => hs.startTest).set.foldl fun hs => hs.holdGroup).wr.thru fun hs => .ite hs.startDone (.ite
    hs.raiseClaim.takeOver (.ite hs.stepEight hs)))

theorem Steady.execComparatorSelfTest (hs : Steady o s) {time} : Runs o (execComparatorSelfTest time s) := hs.selfTest

theorem Steady.selfTestTimeout (hs : Steady o s) : Steady o s.selfTestTimeout := hs.foldl fun hs => hs.foldl fun hs => hs.testResult

theorem Steady.execComparatorTestTimeout (hs : Steady o s) : Runs o (execComparatorTestTimeout s) := hs.selfTestTimeout

theorem Steady.formingTimeout (hs : Steady o s) {time} : Steady o (s.formingTimeout time) :=
  .ite hs (.ite hs.raiseClaim.takeOver hs.set.setPairState)

theorem Steady.execFormingTimeout (hs : Steady o s) {time} : Runs o (execFormingTimeout time s) := hs.formingTimeout

theorem Steady.acPreCharge (hs : Steady o s) : Steady o s.acPreCharge := hs.set.contactorOp

theorem Steady.roleStart (hs : Steady o s) : Steady o s.roleStart :=
  .ite hs
    (by dsimp only; split; exacts [.ite hs.set.startDone.acPreCharge hs, hs.set.obsStart.setVst.set.startDone, hs.set.set.startDone, hs])

theorem Steady.execRoleStart (hs : Steady o s) : Runs o (execRoleStart s) := hs.roleStart

theorem Steady.preChargeDone (hs : Steady o s) : Steady o s.preChargeDone :=
  .ite hs (hs.set.contactorOp.foldl fun hs => .ite hs.requestMode hs)

theorem Steady.execPrechargeComplete (hs : Steady o s) : Runs o (execPrechargeComplete s) := hs.preChargeDone

theorem Steady.preChargeFail (hs : Steady o s) : Steady o s.preChargeFail := .ite hs hs.acDrop.wrb.wr.set

theorem Steady.execPrechargeTimeout (hs : Steady o s) : Runs o (execPrechargeTimeout s) := hs.preChargeFail

theorem Steady.preChargeRetry (hs : Steady o s) : Steady o s.preChargeRetry := .ite hs.acPreCharge hs

theorem Steady.execPrechargeRetry (hs : Steady o s) : Runs o (execPrechargeRetry s) := hs.preChargeRetry

theorem Steady.preCoilOff (hs : Steady o s) : Steady o s.preCoilOff := .ite hs.set.contactorOp hs

theorem Steady.execPrechargeCoilRelease (hs : Steady o s) : Runs o (execPrechargeCoilRelease s) := hs.preCoilOff

theorem Steady.stackAvailable (hs : Steady o s) : Steady o s.stackAvailable := .ite hs.set hs

theorem Steady.execStackAvailable (hs : Steady o s) : Runs o (execStackAvailable s) := hs.stackAvailable

theorem Steady.floaterJoin (hs : Steady o s) {r member} : Steady o (s.floaterJoin r member) := hs.loadRole.wrb.wr.wr.wr.startForming

theorem Steady.dropRole (hs : Steady o s) : Steady o s.dropRole := hs.dropClaim.ld.ld.wr.set

theorem Steady.becomeSpare (hs : Steady o s) : Steady o s.becomeSpare := hs.set.dropRole

theorem Steady.placeFloater (hs : Steady o s) {report f} : Steady o (State.placeFloater report s f) := by
  unfold State.placeFloater
  split; exacts [hs, hs.set]

theorem Steady.floaterOwn (hs : Steady o s) {given} : Steady o (s.floaterOwn given) :=
  .ite (by split; exacts [.ite hs (by split; exacts [hs.floaterJoin, hs]), hs]) (.ite hs.becomeSpare hs)

theorem Steady.floaterReport (hs : Steady o s) {report taken} : Steady o (s.floaterReport report taken) :=
  .ite hs (((Steady.ite hs hs.set).foldl fun hs => hs.placeFloater).floaterOwn)

theorem Steady.execFloaterTakeover (hs : Steady o s) {report taken} : Runs o (execFloaterTakeover report taken s) := hs.floaterReport

theorem Steady.floaterLeave (hs : Steady o s) : Steady o s.floaterLeave := hs.set.dropRole.wrb.wr.wr.wr

theorem Steady.pairRelease (hs : Steady o s) {side} : Steady o (s.pairRelease side) := .ite hs.accessError (.ite hs.set hs.floaterLeave)

theorem Steady.execPairRelease (hs : Steady o s) {side key} : Runs o (execPairRelease side key s) := hs.command (fun hs => hs.pairRelease)

theorem Steady.execFloaterDeferredRelease (hs : Steady o s) : Runs o (execFloaterDeferredRelease s) := Steady.ite hs.floaterLeave hs

theorem Steady.baroSave (hs : Steady o s) : Steady o s.baroSave := .ite hs hs.barSave.wrb

theorem Steady.execBarographSave (hs : Steady o s) : Runs o (execBarographSave s) := hs.baroSave

theorem Steady.baroDaily (hs : Steady o s) : Steady o s.baroDaily := .ite hs hs.set.barBlocks

theorem Steady.execBarographDaily (hs : Steady o s) : Runs o (execBarographDaily s) := hs.baroDaily

theorem Steady.execBarSnapshot (hs : Steady o s) {side key} : Runs o (execBarSnapshot side key s) := hs.command (fun hs => hs.barBlocks)

theorem Steady.unbench (hs : Steady o s) {side} : Steady o (s.unbench side) :=
  .ite hs.accessError (.ite hs.accessError (hs.set.benchRestore.wrb.event.thru fun hs => (Steady.ite hs.takeEntry.startForming hs).thru
    fun hs => .ite hs.setPairState.startForming hs))

theorem Steady.execBarUnbench (hs : Steady o s) {side key} : Runs o (execBarUnbench side key s) := hs.command (fun hs => hs.unbench)

theorem Steady.suspectExpiry (hs : Steady o s) : Steady o s.suspectExpiry := .ite hs hs.wrb

theorem Steady.execMeterSuspectExpiry (hs : Steady o s) : Runs o (execMeterSuspectExpiry s) := hs.suspectExpiry

/-! ### Meanings of Machine/Fabric.lean -/

/-- What a command leaves that runs inside another. -/
theorem Runs.leaves {a : Out} (h : Runs o a) {s} : Steady o (leaves s a) := by
  cases a with
  | next t => exact h
  | fault _ => exact h.elim
  | refused _ => exact h.elim

/-- A command that a register's bits spell runs from every steady state. -/
def Acts (o : State) (act : Option (State → Out)) : Prop := ∀ f ∈ act, ∀ s, Steady o s → Runs o (f s)

theorem Acts.some {f : State → Out} (hf : ∀ {s}, Steady o s → Runs o (f s)) : Acts o (some f) := by
  rintro _ ⟨⟩ s hs
  exact hf hs

theorem Acts.none : Acts o none := nofun

theorem Steady.keyed (hs : Steady o s) {side addr v want mask act} (hf : ∀ c, Acts o (act c)) :
    Steady o (s.keyed side addr v want mask act) := by
  refine hs.command fun hs => .ite hs.accessError ?_
  split
  next hc => exact (hf _ _ hc _ hs).leaves
  next => exact hs.accessError

theorem Steady.inTurn (hs : Steady o s) {fs} (hf : ∀ x ∈ fs, ∀ s, Steady o s → Runs o (x.2 s)) : Runs o (inTurn fs s) :=
  hs.foldlMem fun hx hs => .ite (hf _ hx _ hs).leaves hs

/-- A write that may be a command of its own is steady where it is one. -/
def Offers (o : State) : Option State → Prop
  | some t => Steady o t
  | none => True

theorem Offers.ite {c : Prop} {_ : Decidable c} {a b : Option State} (h : Offers o a) (k : Offers o b) :
    Offers o (if c then a else b) := by
  split
  · exact h
  · exact k

theorem Offers.of_eq {x : Option State} (h : Offers o x) (e : x = some t) : Steady o t := by
  subst e
  exact h

theorem Steady.commandWrite (hs : Steady o s) {side addr v time fresh} : Offers o (s.commandWrite side addr v time fresh) := by
  unfold State.commandWrite
  dsimp only
  refine .ite (hs.keyed fun _ => ?sys) (.ite (hs.keyed fun _ => .some fun hs => hs.inTurn ?rtack) (.ite (hs.keyed fun _ => ?cred)
    (.ite (hs.keyed fun _ => ?pat) (.ite (hs.keyed fun _ => .some fun hs => hs.inTurn ?trg) (.ite (hs.keyed fun _ => ?mrk)
    (.ite (hs.keyed fun _ => ?prt) (.ite (hs.keyed fun _ => ?vlk) (.ite (hs.keyed fun _ => ?bil) (.ite (hs.keyed fun _ => ?key)
    (.ite (hs.keyed fun _ => ?pair) (.ite (hs.keyed fun _ => ?saf) (.ite (hs.keyed fun _ => .some fun hs => hs.inTurn ?mbx)
    (.ite (hs.keyed fun _ => .some fun hs => hs.inTurn ?clk) (.ite (hs.keyed fun _ => ?bar) ?mode))))))))))))))
  case sys => split; exacts [.some fun hs => hs.execSysReset, .some fun hs => hs.execSysResetForce, .none]
  case rtack => exact List.forall_mem_singleton.mpr fun _ hs => hs.execRingTackRequest
  case cred =>
    split
    exacts [.some fun hs => hs.execCredOpenMaintenance, .some fun hs => hs.execCredOpenSafety, .some fun hs => hs.execCredCloseAll, .none]
  case pat =>
    split
    exacts [.some fun hs => hs.execPatOpen, .some fun hs => hs.execPatVerify, .some fun hs => hs.execPatArm,
      .some fun hs => hs.execPatArmSingle, .some fun hs => hs.execPatCommit, .some fun hs => hs.execPatAbort,
      .some fun hs => hs.execPatSeal, .none]
  case trg =>
    exact List.forall_mem_cons.mpr ⟨fun _ hs => hs.execRekeyCommand, List.forall_mem_singleton.mpr fun _ hs => hs.execLeaveCommand⟩
  case mrk => split; exacts [.some fun hs => hs.execMrkHoldOn, .some fun hs => hs.execMrkHoldOff, .some fun hs => hs.execMrkReplan, .none]
  case prt => split; exacts [.some fun hs => hs.execPrtReset, .some fun hs => hs.execPrtTest, .some fun hs => hs.execPrtTestAbort, .none]
  case vlk =>
    split
    exacts [.some fun hs => hs.execVlkAuthGrant, .some fun hs => hs.execVlkAuthDeny, .some fun hs => hs.execVlkStop,
      .some fun hs => hs.execVlkResetLockout, .some fun hs => hs.execVlkEsd, .none]
  case bil => split; exacts [.some fun hs => hs.execBilTimeSet, .some fun hs => hs.execBilTamperAck, .none]
  case key =>
    split
    exacts [.some fun hs => hs.execKeySubmit, .some fun hs => hs.execKeyEnrol, .some fun hs => hs.execKeyAttest,
      .some fun hs => hs.execKeyDebug]
  case pair => split; exacts [.some fun hs => hs.execPairHandover, .some fun hs => hs.execPairRelease, .none]
  case saf => split; exacts [.some fun hs => hs.execSafReset, .some fun hs => hs.execSafClearDemand, .some fun hs => hs.execSafSetPw,
    .none]
  case mbx =>
    exact List.forall_mem_cons.mpr ⟨fun _ hs => hs.execQueMbxPop, List.forall_mem_singleton.mpr fun _ hs => hs.execQueMbxPush⟩
  case clk => exact List.forall_mem_singleton.mpr fun _ hs => hs.execHostWake
  case bar => split; exacts [.some fun hs => hs.execBarSnapshot, .some fun hs => hs.execBarUnbench, .none]
  case mode => split; exacts [hs.keyed fun _ => .some fun hs => hs.execModeRequest, trivial]

theorem Steady.bitCommand (hs : Steady o s) {side addr v n f} (hf : ∀ {s}, Steady o s → Runs o (f s)) :
    Steady o (s.bitCommand side addr v n f) :=
  .ite (hf hs.writeReg).leaves hs.writeReg

theorem Steady.specialWrite (hs : Steady o s) {side addr v} : Offers o (s.specialWrite side addr v) := by
  unfold State.specialWrite
  refine .ite ?level (.ite (Steady.ite hs.execLocalTack.leaves hs.accessError) (.ite hs.execIdxAddrWrite.leaves
    (.ite hs.execIdxDataWrite.leaves (.ite (hs.bitCommand fun hs => hs.execIdxRelease) (.ite hs.execCurtailWrite.leaves
    (.ite (Steady.ite hs.writeReg.sendPlanning hs.writeReg) (.ite hs.execCertDataAccess.leaves ?rest)))))))
  case level =>
    split
    · exact hs.execLevelWrite.leaves
    · trivial
  case rest =>
    split
    · exact hs.bitCommand fun hs => hs.execPlsFaultClear
    · split
      · exact hs.bitCommand fun hs => hs.execRcClear
      · trivial

theorem Steady.writeWord (hs : Steady o s) {side addr v time fresh} : Steady o (s.writeWord side addr v time fresh) := by
  unfold State.writeWord
  refine .ite hs.accessError ?_
  split
  next e => exact hs.commandWrite.of_eq e
  next =>
    split
    next e => exact hs.specialWrite.of_eq e
    next => exact hs.writeReg

theorem Steady.execRegisterWrite (hs : Steady o s) {side addr value time fresh} :
    Runs o (execRegisterWrite side addr value time fresh s) :=
  hs.writeWord

theorem Steady.readReg (hs : Steady o s) {side addr} : Steady o (s.readReg side addr).2 := by
  unfold State.readReg
  split
  next hx => exact (hs.plainRead hx).accepted
  next => exact hs.accessError

theorem Steady.readWord (hs : Steady o s) {side addr} : Steady o (s.readWord side addr).2 := by
  unfold State.readWord
  split
  · exact hs.accessError
  split
  · exact hs.execCredChallengeRead.leaves (s := s)
  split
  · exact hs.execIdxDataRead.leaves (s := s)
  split
  · exact hs.execTraceRead.leaves (s := s)
  split
  · exact hs.execCertDataAccess.leaves (s := s)
  split
  · exact hs.execEnrolDataRead.leaves (s := s)
  · exact hs.readReg

theorem Steady.registerRead (hs : Steady o s) {side addr} : Steady o (s.registerRead side addr) := by
  unfold State.registerRead
  exact hs.readWord.drive

theorem Steady.execRegisterRead (hs : Steady o s) {side addr} : Runs o (execRegisterRead side addr s) := hs.registerRead

theorem Steady.idxComplete (hs : Steady o s) {side} : Steady o (s.idxComplete side) := hs.idxFetchDone.idxPostDone

theorem Steady.resolve (hs : Steady o s) {session typ reqId target} : Steady o (s.resolve session typ reqId target) := by
  unfold State.resolve
  dsimp only
  split; exacts [hs.setSession, hs]

theorem Steady.answerShore (hs : Steady o s) {session typ reqId target status index body} : Steady o (s.answerShore session typ reqId
    target status index body) :=
  .ite hs hs.resolve.toShore

theorem Steady.answerSession (hs : Steady o s) {channel session typ reqId status index body} : Steady o (s.answerSession channel session
    typ reqId status index body) :=
  .ite hs.answerShore hs.ringReply

theorem Steady.knowSession (hs : Steady o s) {session client observe operate} : Steady o (s.knowSession session client observe operate) :=
  .ite hs hs.setSession

theorem Steady.subscribed (hs : Steady o s) {k reqId body} : Steady o (s.subscribed k reqId body) := hs.subscribe.answerSession

/-! ### Remote requests, whose runs hold the state -/

theorem Steady.runFold {α : Type} {f : RemoteRun → α → RemoteRun} {xs : List α} {r : RemoteRun} (hs : Steady o r.s)
    (k : ∀ {r x}, Steady o r.s → Steady o (f r x).s) : Steady o (xs.foldl f r).s := by
  induction xs generalizing r with
  | nil => exact hs
  | cons x xs ih => exact ih (k hs)

theorem Steady.runWord {r : RemoteRun} (hs : Steady o r.s) {side job ready time fresh i op k} :
    Steady o (r.word side job ready time fresh i op k).s := by
  unfold RemoteRun.word
  dsimp only
  generalize op.addr + (if op.fixed = true then 0 else 4 * k) = addr
  split
  · exact hs
  have came : Steady o (if ready.contains r.made then r.s.idxComplete side else r.s) := .ite hs.idxComplete hs
  split
  · exact came.setHbi.accessError
  · split
    · exact came.setHbi.writeWord
    · exact came.setHbi.readWord

theorem Steady.runOp {r : RemoteRun} (hs : Steady o r.s) {side job ready time fresh i op} :
    Steady o (r.op side job ready time fresh i op).s := by
  have run := Steady.runFold (r := { r with part := [] }) (xs := List.range op.count)
    (f := fun (r : RemoteRun) k => r.word side job ready time fresh i op k) hs fun hs => hs.runWord
  unfold RemoteRun.op
  dsimp only
  split
  · exact run
  · exact run

theorem Steady.runAccess (hs : Steady o s) {job side ready time fresh} : Steady o (s.runAccess job side ready time fresh) := by
  unfold State.runAccess
  split
  · exact hs.set.answerSession
  next ops _ =>
    have run := Steady.runFold (r := { s := s }) (xs := List.range ops.length)
      (f := fun (r : RemoteRun) i => r.op side job ready time fresh i (ops.getD i {})) hs fun hs => hs.runOp
    refine .ite run ?_
    dsimp only
    split
    · exact run.set.answerSession
    · exact run.set.answerSession

theorem Steady.remoteRequest (hs : Steady o s) {ready time fresh} : Steady o (s.remoteRequest ready time fresh) := by
  unfold State.remoteRequest
  split; exacts [hs, (.ite hs (.dite (fun _ => hs.knowSession.thru fun hs => .ite hs.set.subscribed hs.runAccess) (fun _ => hs.set)))]

theorem Steady.execRemoteRequest (hs : Steady o s) {ready time fresh} : Runs o (execRemoteRequest ready time fresh s) := hs.remoteRequest

/-! ### Meanings of Machine/Shore.lean -/

theorem Steady.showSessions (hs : Steady o s) : Steady o s.showSessions := hs.wr

theorem Steady.endSession (hs : Steady o s) {k} : Steady o (s.endSession k) := hs.endSide.setSession.set.showSessions

theorem Steady.execShoreSessionTimeout (hs : Steady o s) {session} : Runs o (execShoreSessionTimeout session s) := hs.endSession

theorem Steady.closeSession (hs : Steady o s) {k} : Steady o (s.closeSession k) := hs.endSession

theorem Steady.execShoreSessionClose (hs : Steady o s) {session} : Runs o (execShoreSessionClose session s) := hs.closeSession

theorem Steady.connect (hs : Steady o s) {tlsOk digest} : Steady o (s.connect tlsOk digest) :=
  .ite hs (by split; exacts [hs.endSession.setSession.showSessions, hs])

theorem Steady.execShoreConnect (hs : Steady o s) {tlsOk digest} : Runs o (execShoreConnect tlsOk digest s) := hs.connect

theorem Steady.shoreRequest (hs : Steady o s) {k typ reqId target length f} (hf : ∀ {s}, Steady o s → Steady o (f s)) :
    Steady o (s.shoreRequest k typ reqId target length f) :=
  .ite hs (.ite hs.answerShore.endSession (.ite hs.toShore (hf hs)))

theorem Steady.refuse (hs : Steady o s) {k typ reqId target status} : Steady o (s.refuse k typ reqId target status) := hs.toShore

theorem Steady.ownJob (hs : Steady o s) {k q} : Steady o (s.ownJob k q) := hs.set

theorem Steady.dispatch (hs : Steady o s) {k q} : Steady o (s.dispatch k q) :=
  .ite hs.refuse (hs.setSession.thru fun hs => .ite hs.ownJob hs.forward)

theorem Steady.access (hs : Steady o s) {k reqId target length body} : Steady o (s.access k reqId target length body) :=
  hs.shoreRequest (fun hs => by split; exacts [hs.refuse, .ite hs.refuse hs.dispatch])

theorem Steady.execShoreAccess (hs : Steady o s) {session reqId target length body} : Runs o (execShoreAccess session reqId target length
    body s) :=
  hs.access

theorem Steady.remoteResponse (hs : Steady o s) {k typ reqId target status index body} : Steady o (s.remoteResponse k typ reqId target
    status index body) :=
  .ite hs (.ite hs.answerShore (.ite hs.toShore hs))

theorem Steady.execRemoteResponse (hs : Steady o s) {session typ reqId target status index body} : Runs o (execRemoteResponse session typ
    reqId target status index body s) :=
  hs.remoteResponse

theorem Steady.unreachable (hs : Steady o s) {k reqId target} : Steady o (s.unreachable k reqId target) := by
  unfold State.unreachable
  split; exacts [hs, hs.answerShore]

theorem Steady.execRemoteUnreachable (hs : Steady o s) {session reqId target} : Runs o (execRemoteUnreachable session reqId target s) :=
  hs.unreachable

theorem Steady.keepalive (hs : Steady o s) {k reqId target length} : Steady o (s.keepalive k reqId target length) :=
  hs.shoreRequest (fun hs => hs.refuse)

theorem Steady.execShoreKeepalive (hs : Steady o s) {session reqId target length} : Runs o (execShoreKeepalive session reqId target length
    s) :=
  hs.keepalive

theorem Steady.subscribeJob (hs : Steady o s) {k q} : Steady o (s.subscribeJob k q) := .ite hs.subscribed hs.ownJob

theorem Steady.eventSubscribe (hs : Steady o s) {k reqId target length body} : Steady o (s.eventSubscribe k reqId target length body) :=
  .ite (hs.shoreRequest (fun hs => .ite hs.refuse (.ite hs.dispatch hs.setSession.subscribed))) (.ite hs hs.subscribeJob)

theorem Steady.execShoreEventSubscribe (hs : Steady o s) {session reqId target length body} : Runs o (execShoreEventSubscribe session
    reqId target length body s) :=
  hs.eventSubscribe

theorem Steady.wakeFor (hs : Steady o s) {a} : Steady o (s.wakeFor a) := .ite hs hs.set.ringSend

theorem Steady.recordRoute (hs : Steady o s) {k q n} :
    ∀ {req last}, Steady o (State.recordRoute k req q n last s) := by
  induction n generalizing s with
  | zero => exact hs.answerShore
  | succ n ih =>
    intro req last
    unfold State.recordRoute
    dsimp only
    split
    · exact .ite (.ite (ih hs.resolve.setSession) hs.answerShore) hs.resolve.setSession.forward
    · split
      · exact hs.resolve.setSession.wakeFor
      · exact hs.answerShore

theorem Steady.recordGet (hs : Steady o s) {typ k reqId target length body} : Steady o (s.recordGet typ k reqId target length body) :=
  .ite (hs.shoreRequest (fun hs => by split; exacts [hs.refuse, hs.setSession.recordRoute])) (by split; exacts [hs, .ite hs hs.ringReply])

theorem Steady.execShoreJournalGet (hs : Steady o s) {session reqId target length body} : Runs o (execShoreJournalGet session reqId target
    length body s) :=
  hs.recordGet

theorem Steady.execShoreBarographGet (hs : Steady o s) {session reqId target length body} : Runs o (execShoreBarographGet session reqId
    target length body s) :=
  hs.recordGet

theorem Steady.recordTransfer (hs : Steady o s) {k typ reqId target status body} : Steady o (s.recordTransfer k typ reqId target status
    body) :=
  .ite hs (by split; exacts [hs, (by split; exacts [hs, .ite hs.recordRoute hs.answerShore])])

theorem Steady.execRecordTransfer (hs : Steady o s) {session typ reqId target status body} : Runs o (execRecordTransfer session typ reqId
    target status body s) :=
  hs.recordTransfer

/-! ### Meanings of Machine/Dispatch.lean -/

theorem Steady.exec (hs : Steady o s) {i} : Runs o (exec i s) := by
  unfold Machine.exec
  split; exacts [hs.execPowerOn, hs.execStartBegin, hs.execBrownOutReset, hs.execEarlyWarning, hs.execEarlyWarningClear, hs.execResetPin,
    hs.execSysReset, hs.execSysResetForce, hs.execComparatorSelfTest, hs.execFormingTimeout, hs.execRoleStart, hs.execPrechargeComplete,
    hs.execPrechargeTimeout, hs.execPrechargeRetry, hs.execPatOpen, hs.execPatVerify, hs.execPatVerifyDone, hs.execPatArm,
    hs.execPatArmSingle, hs.execPatCommit, hs.execPatAbort, hs.execPatSeal, hs.execUpdateOwnerTimeout, hs.execTrialExpiry,
    hs.execTrialDeferredRevert, hs.execScrubWord, hs.execRegisterWrite, hs.execLevelWrite, hs.execLocalTack, hs.execTackPinEdge,
    hs.execPfgLiveTimeout, hs.execRingTackRequest, hs.execRingTackInstant, hs.execCredChallengeRead, hs.execCredOpenMaintenance,
    hs.execCredOpenSafety, hs.execCredCloseAll, hs.execCredTimeout, hs.execCredLockoutEnd, hs.execIdxAddrWrite, hs.execIdxDataRead,
    hs.execIdxDataWrite, hs.execIdxFetchDone, hs.execIdxPostDone, hs.execIdxRelease, hs.execIdxPortTimeout, hs.execIdxPortFree,
    hs.execRemoteRequest, hs.execRemoteResponse, hs.execRemoteUnreachable, hs.execCycleStart, hs.execTrainDelimiter,
    hs.execCycleHeaderReceive, hs.execDataSlotReceive, hs.execSquallEvent, hs.execSquallSend, hs.execSquallReceive, hs.execLinkBreak,
    hs.execRingUnwrap, hs.execProvisionalMaster, hs.execPtpSync, hs.execPtpSyncTimeout, hs.execJoinRequest, hs.execJoinWindowTake,
    hs.execJoinChalReceive, hs.execJoinResponseCheck, hs.execJoinRetry, hs.execRingKeyReceive, hs.execRekeyDeliveryReceive,
    hs.execLeaveCommand, hs.execDeclaredLeave, hs.execRekeyCommand, hs.execRekeyDue, hs.execEpochAdvance, hs.execPairFrameSend,
    hs.execPairShadowFrame, hs.execPairSafetyFrame, hs.execHeartbeatMissed, hs.execPairItemRoleDigest, hs.execPairItemPrtReset,
    hs.execPairItemSessionMark, hs.execPairItemSessionValues, hs.execPairItemImdPhase, hs.execPairItemVehicleSession,
    hs.execPairItemObserver, hs.execPairItemMrkValues, hs.execPairItemRoleFigures, hs.execShoreConnect, hs.execShoreSessionTimeout,
    hs.execShoreAccess, hs.execShoreJournalGet, hs.execShoreBarographGet, hs.execShoreEventSubscribe, hs.execShoreKeepalive,
    hs.execRecordTransfer, hs.execMarkerCycleStart, hs.execSolveComplete, hs.execSolveDeadline, hs.execReportSample,
    hs.execStackStatusReceive, hs.execStackCurveReceive, hs.execOutletStatusReceive, hs.execPlanReceive, hs.execPlanTack,
    hs.execDutyReceive, hs.execDemandSend, hs.execDemandReceive, hs.execDemandLost, hs.execLeadSend, hs.execLeadReceive, hs.execLeadLost,
    hs.execLeaseRampStart, hs.execLeaseExpiry, hs.execConnectVoltageMatched, hs.execConnectMatchTimeout, hs.execXpAuxClosed,
    hs.execXpAuxCloseTimeout, hs.execXpDebounceEnd, hs.execRampOutZeroHeld, hs.execReleaseFail, hs.execXpAuxOpen, hs.execQuarantineEnd,
    hs.execCurtailWrite, hs.execCurtailLapse, hs.execMrkHoldOn, hs.execMrkHoldOff, hs.execMrkReplan, hs.execWakeReceive,
    hs.execWakeJoinTimeout, hs.execReplicaWriteReceive, hs.execReplicaAckReceive, hs.execFloaterTakeover, hs.execPairRelease,
    hs.execFloaterDeferredRelease, hs.execAdcTrigger, hs.execAdcTriggerDeferred, hs.execConversionEnd, hs.execExactCommit,
    hs.execBwWindowEnd, hs.execPlausibilityAttribute, hs.execPlsFaultClear, hs.execCounterReload, hs.execPwmCommandChange,
    hs.execDeadTimeEnd, hs.execGateSegmentEnd, hs.execModeRequest, hs.execHandoverRetry, hs.execStopRampEnd, hs.execHoFailClear,
    hs.execRcPhaseTimeout, hs.execRcSpectralEval, hs.execRcFadeEnd, hs.execRcPeriodFreezeEnd, hs.execRcClear, hs.execBiasUndervoltage,
    hs.execBiasRelease, hs.execEnableOffHoldEnd, hs.execRefreshLoss, hs.execAuxDrvUndervoltage, hs.execAuxDrvRecover,
    hs.execAuxPeriodStart, hs.execBootstrapUndervoltage, hs.execDesatTrip, hs.execHardShortTrip, hs.execPhaseCurrentTrip,
    hs.execGateVoltageTrip, hs.execSoftOffEnd, hs.execTripCollectionEnd, hs.execPrtWaitEnd, hs.execPrtRelease, hs.execPrtReleaseTimeout,
    hs.execPrtReset, hs.execPrtTest, hs.execPrtTestAbort, hs.execPrtTestItemDone, hs.execHkRoundStart, hs.execHkRoundEnd,
    hs.execThermalRestart, hs.execFfHoldEnd, hs.execFlowFaultTimeout, hs.execObserverStep, hs.execConnectorStateChange,
    hs.execV2gSessionSetup, hs.execV2gAuthorization, hs.execV2gCableCheck, hs.execV2gPreCharge, hs.execV2gPowerDeliveryStart,
    hs.execV2gChargeLoop, hs.execV2gStopRequest, hs.execV2gEmergencyStop, hs.execVlkAuthGrant, hs.execVlkAuthDeny, hs.execVlkStop,
    hs.execVlkResetLockout, hs.execVlkEsd, hs.execAuthWaitTimeout, hs.execOutletContactorClose, hs.execOutletAuxCloseTimeout,
    hs.execCableCheckSettled, hs.execCableCheckTimeout, hs.execImdHalfPeriod, hs.execPreChargeTimeout, hs.execStopContactorOpen,
    hs.execStopWaitExpiry, hs.execOutletAuxOpen, hs.execDischargeComplete, hs.execDischargeTimeout, hs.execWeldCheck,
    hs.execEsdOpenDeadline, hs.execLedgerTick, hs.execPeriodicSave, hs.execCheckPairCount, hs.execMeterCrossCheck, hs.execMeterResume,
    hs.execSelvedgeReset, hs.execPulseInputEdge, hs.execPulseOutputUpdate, hs.execPulseOutputWidthEnd, hs.execPartnerValuesSend,
    hs.execStandsTimeout, hs.execMirrorRefresh, hs.execMbxOffer, hs.execMbxSeal, hs.execMbxCal, hs.execMbxMark, hs.execMbxPartner,
    hs.execMbxPulse, hs.execMbxFlag, hs.execMbxAck, hs.execMbxImd, hs.execMbxSiteParam, hs.execCalSend, hs.execCalAdoptTimeout,
    hs.execBilTimeSet, hs.execBilTamperAck, hs.execIntervalEnd, hs.execTariffSwitch, hs.execDemandSyncTimeout, hs.execBoundaryCommit,
    hs.execRecordSign, hs.execTamperCoverEdge, hs.execHallReading, hs.execKeySubmit, hs.execKeyOpImport, hs.execKeyOpDelete,
    hs.execKeyOpRevoke, hs.execKeyOpSetClient, hs.execKeyOpTrust, hs.execKeyOpRelease, hs.execKeyEnrol, hs.execEnrolDataRead,
    hs.execKeyAttest, hs.execKeyDebug, hs.execCertDataAccess, hs.execPairKeyErase, hs.execPairLockInput, hs.execVoteRequestReceive,
    hs.execVoteGrantReceive, hs.execVoteDenyReceive, hs.execVoteRetry, hs.execColdRequestDue, hs.execPairHandover, hs.execHandoverTimeout,
    hs.execStandbyHotEntry, hs.execLockstepMismatch, hs.execSafetyEvaluation, hs.execSafetyInputChange, hs.execSafetyDiscrepancy,
    hs.execSafetyFrameReceive, hs.execSafetyWatchdogExpiry, hs.execOffPulseStart, hs.execOffPulseEnd, hs.execReadbackStuck,
    hs.execSafReset, hs.execSafClearDemand, hs.execSafSetPw, hs.execParamCrcCheck, hs.execQueueMove, hs.execQueMbxPop, hs.execQueMbxPush,
    hs.execSubscriptionSend, hs.execTraceRead, hs.execClockMonitor, hs.execPllLockLoss, hs.execRtc32Loss, hs.execVbatMeasure,
    hs.execAonSupplySwitch, hs.execAonReset, hs.execLullMessageReceive, hs.execLullEntry, hs.execHostWake, hs.execPlugWake,
    hs.execWakeComplete, hs.execRetentionScrub, hs.execBarographSave, hs.execBarographDaily, hs.execBarSnapshot, hs.execBarUnbench,
    hs.execMeterSuspectExpiry, hs.execVehicleLinkTick, hs.execShoreSessionClose, hs.execRegisterRead, hs.execFirstOnEdgePermitted,
    hs.execBarrierRefreshResume, hs.execComparatorTestTimeout, hs.execOutletAuxClosed, hs.execOutletAuxOpenTimeout,
    hs.execPrechargeCoilRelease, hs.execStackAvailable, hs.execValidPlanLapse, hs.execSafetyWake, hs.execUncorrectableError]

/-! ### Commands and steps -/

/-- Every command answers a next state, steady from its own. -/
theorem exec_runs (c : Instr) (hs : Steady o s) : Runs o (exec c s) := by
  cases c with
  | powerOn => exact hs.execPowerOn
  | startBegin => exact hs.execStartBegin
  | brownOutReset => exact hs.execBrownOutReset
  | earlyWarning => exact hs.execEarlyWarning
  | earlyWarningClear => exact hs.execEarlyWarningClear
  | resetPin => exact hs.execResetPin
  | sysReset => exact hs.execSysReset
  | sysResetForce => exact hs.execSysResetForce
  | comparatorSelfTest => exact hs.execComparatorSelfTest
  | formingTimeout => exact hs.execFormingTimeout
  | roleStart => exact hs.execRoleStart
  | prechargeComplete => exact hs.execPrechargeComplete
  | prechargeTimeout => exact hs.execPrechargeTimeout
  | prechargeRetry => exact hs.execPrechargeRetry
  | patOpen => exact hs.execPatOpen
  | patVerify => exact hs.execPatVerify
  | patVerifyDone => exact hs.execPatVerifyDone
  | patArm => exact hs.execPatArm
  | patArmSingle => exact hs.execPatArmSingle
  | patCommit => exact hs.execPatCommit
  | patAbort => exact hs.execPatAbort
  | patSeal => exact hs.execPatSeal
  | updateOwnerTimeout => exact hs.execUpdateOwnerTimeout
  | trialExpiry => exact hs.execTrialExpiry
  | trialDeferredRevert => exact hs.execTrialDeferredRevert
  | scrubWord => exact hs.execScrubWord
  | registerWrite => exact hs.execRegisterWrite
  | levelWrite => exact hs.execLevelWrite
  | localTack => exact hs.execLocalTack
  | tackPinEdge => exact hs.execTackPinEdge
  | pfgLiveTimeout => exact hs.execPfgLiveTimeout
  | ringTackRequest => exact hs.execRingTackRequest
  | ringTackInstant => exact hs.execRingTackInstant
  | credChallengeRead => exact hs.execCredChallengeRead
  | credOpenMaintenance => exact hs.execCredOpenMaintenance
  | credOpenSafety => exact hs.execCredOpenSafety
  | credCloseAll => exact hs.execCredCloseAll
  | credTimeout => exact hs.execCredTimeout
  | credLockoutEnd => exact hs.execCredLockoutEnd
  | idxAddrWrite => exact hs.execIdxAddrWrite
  | idxDataRead => exact hs.execIdxDataRead
  | idxDataWrite => exact hs.execIdxDataWrite
  | idxFetchDone => exact hs.execIdxFetchDone
  | idxPostDone => exact hs.execIdxPostDone
  | idxRelease => exact hs.execIdxRelease
  | idxPortTimeout => exact hs.execIdxPortTimeout
  | idxPortFree => exact hs.execIdxPortFree
  | remoteRequest => exact hs.execRemoteRequest
  | remoteResponse => exact hs.execRemoteResponse
  | remoteUnreachable => exact hs.execRemoteUnreachable
  | cycleStart => exact hs.execCycleStart
  | trainDelimiter => exact hs.execTrainDelimiter
  | cycleHeaderReceive => exact hs.execCycleHeaderReceive
  | dataSlotReceive => exact hs.execDataSlotReceive
  | squallEvent => exact hs.execSquallEvent
  | squallSend => exact hs.execSquallSend
  | squallReceive => exact hs.execSquallReceive
  | linkBreak => exact hs.execLinkBreak
  | ringUnwrap => exact hs.execRingUnwrap
  | provisionalMaster => exact hs.execProvisionalMaster
  | ptpSync => exact hs.execPtpSync
  | ptpSyncTimeout => exact hs.execPtpSyncTimeout
  | joinRequest => exact hs.execJoinRequest
  | joinWindowTake => exact hs.execJoinWindowTake
  | joinChalReceive => exact hs.execJoinChalReceive
  | joinResponseCheck => exact hs.execJoinResponseCheck
  | joinRetry => exact hs.execJoinRetry
  | ringKeyReceive => exact hs.execRingKeyReceive
  | rekeyDeliveryReceive => exact hs.execRekeyDeliveryReceive
  | leaveCommand => exact hs.execLeaveCommand
  | declaredLeave => exact hs.execDeclaredLeave
  | rekeyCommand => exact hs.execRekeyCommand
  | rekeyDue => exact hs.execRekeyDue
  | epochAdvance => exact hs.execEpochAdvance
  | pairFrameSend => exact hs.execPairFrameSend
  | pairShadowFrame => exact hs.execPairShadowFrame
  | pairSafetyFrame => exact hs.execPairSafetyFrame
  | heartbeatMissed => exact hs.execHeartbeatMissed
  | pairItemRoleDigest => exact hs.execPairItemRoleDigest
  | pairItemPrtReset => exact hs.execPairItemPrtReset
  | pairItemSessionMark => exact hs.execPairItemSessionMark
  | pairItemSessionValues => exact hs.execPairItemSessionValues
  | pairItemImdPhase => exact hs.execPairItemImdPhase
  | pairItemVehicleSession => exact hs.execPairItemVehicleSession
  | pairItemObserver => exact hs.execPairItemObserver
  | pairItemMrkValues => exact hs.execPairItemMrkValues
  | pairItemRoleFigures => exact hs.execPairItemRoleFigures
  | shoreConnect => exact hs.execShoreConnect
  | shoreSessionTimeout => exact hs.execShoreSessionTimeout
  | shoreAccess => exact hs.execShoreAccess
  | shoreJournalGet => exact hs.execShoreJournalGet
  | shoreBarographGet => exact hs.execShoreBarographGet
  | shoreEventSubscribe => exact hs.execShoreEventSubscribe
  | shoreKeepalive => exact hs.execShoreKeepalive
  | recordTransfer => exact hs.execRecordTransfer
  | markerCycleStart => exact hs.execMarkerCycleStart
  | solveComplete => exact hs.execSolveComplete
  | solveDeadline => exact hs.execSolveDeadline
  | reportSample => exact hs.execReportSample
  | stackStatusReceive => exact hs.execStackStatusReceive
  | stackCurveReceive => exact hs.execStackCurveReceive
  | outletStatusReceive => exact hs.execOutletStatusReceive
  | planReceive => exact hs.execPlanReceive
  | planTack => exact hs.execPlanTack
  | dutyReceive => exact hs.execDutyReceive
  | demandSend => exact hs.execDemandSend
  | demandReceive => exact hs.execDemandReceive
  | demandLost => exact hs.execDemandLost
  | leadSend => exact hs.execLeadSend
  | leadReceive => exact hs.execLeadReceive
  | leadLost => exact hs.execLeadLost
  | leaseRampStart => exact hs.execLeaseRampStart
  | leaseExpiry => exact hs.execLeaseExpiry
  | connectVoltageMatched => exact hs.execConnectVoltageMatched
  | connectMatchTimeout => exact hs.execConnectMatchTimeout
  | xpAuxClosed => exact hs.execXpAuxClosed
  | xpAuxCloseTimeout => exact hs.execXpAuxCloseTimeout
  | xpDebounceEnd => exact hs.execXpDebounceEnd
  | rampOutZeroHeld => exact hs.execRampOutZeroHeld
  | releaseFail => exact hs.execReleaseFail
  | xpAuxOpen => exact hs.execXpAuxOpen
  | quarantineEnd => exact hs.execQuarantineEnd
  | curtailWrite => exact hs.execCurtailWrite
  | curtailLapse => exact hs.execCurtailLapse
  | mrkHoldOn => exact hs.execMrkHoldOn
  | mrkHoldOff => exact hs.execMrkHoldOff
  | mrkReplan => exact hs.execMrkReplan
  | wakeReceive => exact hs.execWakeReceive
  | wakeJoinTimeout => exact hs.execWakeJoinTimeout
  | replicaWriteReceive => exact hs.execReplicaWriteReceive
  | replicaAckReceive => exact hs.execReplicaAckReceive
  | floaterTakeover => exact hs.execFloaterTakeover
  | pairRelease => exact hs.execPairRelease
  | floaterDeferredRelease => exact hs.execFloaterDeferredRelease
  | adcTrigger => exact hs.execAdcTrigger
  | adcTriggerDeferred => exact hs.execAdcTriggerDeferred
  | conversionEnd => exact hs.execConversionEnd
  | exactCommit => exact hs.execExactCommit
  | bwWindowEnd => exact hs.execBwWindowEnd
  | plausibilityAttribute => exact hs.execPlausibilityAttribute
  | plsFaultClear => exact hs.execPlsFaultClear
  | counterReload => exact hs.execCounterReload
  | pwmCommandChange => exact hs.execPwmCommandChange
  | deadTimeEnd => exact hs.execDeadTimeEnd
  | gateSegmentEnd => exact hs.execGateSegmentEnd
  | modeRequest => exact hs.execModeRequest
  | handoverRetry => exact hs.execHandoverRetry
  | stopRampEnd => exact hs.execStopRampEnd
  | hoFailClear => exact hs.execHoFailClear
  | rcPhaseTimeout => exact hs.execRcPhaseTimeout
  | rcSpectralEval => exact hs.execRcSpectralEval
  | rcFadeEnd => exact hs.execRcFadeEnd
  | rcPeriodFreezeEnd => exact hs.execRcPeriodFreezeEnd
  | rcClear => exact hs.execRcClear
  | biasUndervoltage => exact hs.execBiasUndervoltage
  | biasRelease => exact hs.execBiasRelease
  | enableOffHoldEnd => exact hs.execEnableOffHoldEnd
  | refreshLoss => exact hs.execRefreshLoss
  | auxDrvUndervoltage => exact hs.execAuxDrvUndervoltage
  | auxDrvRecover => exact hs.execAuxDrvRecover
  | auxPeriodStart => exact hs.execAuxPeriodStart
  | bootstrapUndervoltage => exact hs.execBootstrapUndervoltage
  | desatTrip => exact hs.execDesatTrip
  | hardShortTrip => exact hs.execHardShortTrip
  | phaseCurrentTrip => exact hs.execPhaseCurrentTrip
  | gateVoltageTrip => exact hs.execGateVoltageTrip
  | softOffEnd => exact hs.execSoftOffEnd
  | tripCollectionEnd => exact hs.execTripCollectionEnd
  | prtWaitEnd => exact hs.execPrtWaitEnd
  | prtRelease => exact hs.execPrtRelease
  | prtReleaseTimeout => exact hs.execPrtReleaseTimeout
  | prtReset => exact hs.execPrtReset
  | prtTest => exact hs.execPrtTest
  | prtTestAbort => exact hs.execPrtTestAbort
  | prtTestItemDone => exact hs.execPrtTestItemDone
  | hkRoundStart => exact hs.execHkRoundStart
  | hkRoundEnd => exact hs.execHkRoundEnd
  | thermalRestart => exact hs.execThermalRestart
  | ffHoldEnd => exact hs.execFfHoldEnd
  | flowFaultTimeout => exact hs.execFlowFaultTimeout
  | observerStep => exact hs.execObserverStep
  | connectorStateChange => exact hs.execConnectorStateChange
  | v2gSessionSetup => exact hs.execV2gSessionSetup
  | v2gAuthorization => exact hs.execV2gAuthorization
  | v2gCableCheck => exact hs.execV2gCableCheck
  | v2gPreCharge => exact hs.execV2gPreCharge
  | v2gPowerDeliveryStart => exact hs.execV2gPowerDeliveryStart
  | v2gChargeLoop => exact hs.execV2gChargeLoop
  | v2gStopRequest => exact hs.execV2gStopRequest
  | v2gEmergencyStop => exact hs.execV2gEmergencyStop
  | vlkAuthGrant => exact hs.execVlkAuthGrant
  | vlkAuthDeny => exact hs.execVlkAuthDeny
  | vlkStop => exact hs.execVlkStop
  | vlkResetLockout => exact hs.execVlkResetLockout
  | vlkEsd => exact hs.execVlkEsd
  | authWaitTimeout => exact hs.execAuthWaitTimeout
  | outletContactorClose => exact hs.execOutletContactorClose
  | outletAuxCloseTimeout => exact hs.execOutletAuxCloseTimeout
  | cableCheckSettled => exact hs.execCableCheckSettled
  | cableCheckTimeout => exact hs.execCableCheckTimeout
  | imdHalfPeriod => exact hs.execImdHalfPeriod
  | preChargeTimeout => exact hs.execPreChargeTimeout
  | stopContactorOpen => exact hs.execStopContactorOpen
  | stopWaitExpiry => exact hs.execStopWaitExpiry
  | outletAuxOpen => exact hs.execOutletAuxOpen
  | dischargeComplete => exact hs.execDischargeComplete
  | dischargeTimeout => exact hs.execDischargeTimeout
  | weldCheck => exact hs.execWeldCheck
  | esdOpenDeadline => exact hs.execEsdOpenDeadline
  | ledgerTick => exact hs.execLedgerTick
  | periodicSave => exact hs.execPeriodicSave
  | checkPairCount => exact hs.execCheckPairCount
  | meterCrossCheck => exact hs.execMeterCrossCheck
  | meterResume => exact hs.execMeterResume
  | selvedgeReset => exact hs.execSelvedgeReset
  | pulseInputEdge => exact hs.execPulseInputEdge
  | pulseOutputUpdate => exact hs.execPulseOutputUpdate
  | pulseOutputWidthEnd => exact hs.execPulseOutputWidthEnd
  | partnerValuesSend => exact hs.execPartnerValuesSend
  | standsTimeout => exact hs.execStandsTimeout
  | mirrorRefresh => exact hs.execMirrorRefresh
  | mbxOffer => exact hs.execMbxOffer
  | mbxSeal => exact hs.execMbxSeal
  | mbxCal => exact hs.execMbxCal
  | mbxMark => exact hs.execMbxMark
  | mbxPartner => exact hs.execMbxPartner
  | mbxPulse => exact hs.execMbxPulse
  | mbxFlag => exact hs.execMbxFlag
  | mbxAck => exact hs.execMbxAck
  | mbxImd => exact hs.execMbxImd
  | mbxSiteParam => exact hs.execMbxSiteParam
  | calSend => exact hs.execCalSend
  | calAdoptTimeout => exact hs.execCalAdoptTimeout
  | bilTimeSet => exact hs.execBilTimeSet
  | bilTamperAck => exact hs.execBilTamperAck
  | intervalEnd => exact hs.execIntervalEnd
  | tariffSwitch => exact hs.execTariffSwitch
  | demandSyncTimeout => exact hs.execDemandSyncTimeout
  | boundaryCommit => exact hs.execBoundaryCommit
  | recordSign => exact hs.execRecordSign
  | tamperCoverEdge => exact hs.execTamperCoverEdge
  | hallReading => exact hs.execHallReading
  | keySubmit => exact hs.execKeySubmit
  | keyOpImport => exact hs.execKeyOpImport
  | keyOpDelete => exact hs.execKeyOpDelete
  | keyOpRevoke => exact hs.execKeyOpRevoke
  | keyOpSetClient => exact hs.execKeyOpSetClient
  | keyOpTrust => exact hs.execKeyOpTrust
  | keyOpRelease => exact hs.execKeyOpRelease
  | keyEnrol => exact hs.execKeyEnrol
  | enrolDataRead => exact hs.execEnrolDataRead
  | keyAttest => exact hs.execKeyAttest
  | keyDebug => exact hs.execKeyDebug
  | certDataAccess => exact hs.execCertDataAccess
  | pairKeyErase => exact hs.execPairKeyErase
  | pairLockInput => exact hs.execPairLockInput
  | voteRequestReceive => exact hs.execVoteRequestReceive
  | voteGrantReceive => exact hs.execVoteGrantReceive
  | voteDenyReceive => exact hs.execVoteDenyReceive
  | voteRetry => exact hs.execVoteRetry
  | coldRequestDue => exact hs.execColdRequestDue
  | pairHandover => exact hs.execPairHandover
  | handoverTimeout => exact hs.execHandoverTimeout
  | standbyHotEntry => exact hs.execStandbyHotEntry
  | lockstepMismatch => exact hs.execLockstepMismatch
  | safetyEvaluation => exact hs.execSafetyEvaluation
  | safetyInputChange => exact hs.execSafetyInputChange
  | safetyDiscrepancy => exact hs.execSafetyDiscrepancy
  | safetyFrameReceive => exact hs.execSafetyFrameReceive
  | safetyWatchdogExpiry => exact hs.execSafetyWatchdogExpiry
  | offPulseStart => exact hs.execOffPulseStart
  | offPulseEnd => exact hs.execOffPulseEnd
  | readbackStuck => exact hs.execReadbackStuck
  | safReset => exact hs.execSafReset
  | safClearDemand => exact hs.execSafClearDemand
  | safSetPw => exact hs.execSafSetPw
  | paramCrcCheck => exact hs.execParamCrcCheck
  | queueMove => exact hs.execQueueMove
  | queMbxPop => exact hs.execQueMbxPop
  | queMbxPush => exact hs.execQueMbxPush
  | subscriptionSend => exact hs.execSubscriptionSend
  | traceRead => exact hs.execTraceRead
  | clockMonitor => exact hs.execClockMonitor
  | pllLockLoss => exact hs.execPllLockLoss
  | rtc32Loss => exact hs.execRtc32Loss
  | vbatMeasure => exact hs.execVbatMeasure
  | aonSupplySwitch => exact hs.execAonSupplySwitch
  | aonReset => exact hs.execAonReset
  | lullMessageReceive => exact hs.execLullMessageReceive
  | lullEntry => exact hs.execLullEntry
  | hostWake => exact hs.execHostWake
  | plugWake => exact hs.execPlugWake
  | wakeComplete => exact hs.execWakeComplete
  | retentionScrub => exact hs.execRetentionScrub
  | barographSave => exact hs.execBarographSave
  | barographDaily => exact hs.execBarographDaily
  | barSnapshot => exact hs.execBarSnapshot
  | barUnbench => exact hs.execBarUnbench
  | meterSuspectExpiry => exact hs.execMeterSuspectExpiry
  | vehicleLinkTick => exact hs.execVehicleLinkTick
  | shoreSessionClose => exact hs.execShoreSessionClose
  | registerRead => exact hs.execRegisterRead
  | firstOnEdgePermitted => exact hs.execFirstOnEdgePermitted
  | barrierRefreshResume => exact hs.execBarrierRefreshResume
  | comparatorTestTimeout => exact hs.execComparatorTestTimeout
  | outletAuxClosed => exact hs.execOutletAuxClosed
  | outletAuxOpenTimeout => exact hs.execOutletAuxOpenTimeout
  | prechargeCoilRelease => exact hs.execPrechargeCoilRelease
  | stackAvailable => exact hs.execStackAvailable
  | validPlanLapse => exact hs.execValidPlanLapse
  | safetyWake => exact hs.execSafetyWake
  | uncorrectableError => exact hs.execUncorrectableError

theorem Runs.next {r : Out} (h : Runs s r) : ∃ t, r = .next t ∧ Steady s t := by
  cases r with
  | next t => exact ⟨t, rfl, h⟩
  | fault => exact h.elim
  | refused => exact h.elim

/-- Every step answers a next state that keeps the stores' invariant, with the front command taken from the queue. -/
theorem step_steady (s : State) : ∃ t, step s = .next t ∧ t.pending = s.pending.tail ∧ (s.sound → t.sound) := by
  rw [step]
  split
  next idle => exact ⟨s, rfl, by simp [idle], id⟩
  next c cs front =>
    have ⟨t, he, ht⟩ := (exec_runs c (.refl { s with pending := cs })).next
    exact ⟨t, he, by simp [front, ht.pending], ht.sound⟩

/-- Settles O54: every meaning is steady, hence answers a next state and leaves the queue. -/
theorem everyStepCompletes : Obligations.EveryStepCompletes := by
  refine ⟨fun c s => ?_, fun s => ?_⟩
  · have ⟨t, he, ht⟩ := (exec_runs c (.refl s)).next
    simpa [Answers, he] using ht.pending
  · have ⟨t, he, queue, _⟩ := step_steady s
    exact ⟨t, he, queue⟩

/-- Settles O55: every meaning is steady, hence keeps the invariant of the register stores. -/
theorem stepsKeepTheInvariant : Obligations.StepsKeepTheInvariant := by
  intro s t form staged he
  have ⟨u, hu, _, keeps⟩ := step_steady s
  obtain rfl : t = u := by simpa [hu, eq_comm] using he
  exact keeps ⟨form, staged⟩

/-- Settles O53: by the two cases of `step`. -/
theorem stepRunsFront : Obligations.StepRunsFront :=
  ⟨fun _ _ _ => rfl, fun _ idle => by rw [step, idle]⟩

/-- Settles O56: the stores of the reset state are empty. -/
theorem resetMeetsTheInvariant : Obligations.ResetMeetsTheInvariant :=
  ⟨⟨rfl, rfl, rfl⟩, rfl, rfl⟩

/-- Settles O57: the stores of the reset state are empty, so each field reads its reset value. -/
theorem resetValues : Obligations.ResetValues :=
  ⟨by decide, by decide, rfl, rfl, rfl, rfl, rfl, rfl, fun _ => rfl⟩

end Sys2Proof.Machine

namespace Sys2Proof.Machine
open Sys2Proof
-- Proofs in sequence: in parallel, waiting threads' stacks take more memory than the check allows.
set_option Elab.async false
variable {ps qs : List Part} {rs os : List Reach} {o s t : State}

/-! ### Frames in steps: a chain of operations stays within a frame -/

/-- Cells that a frame holds. -/
abbrev Holds (rs : List Reach) (f : Field) : Prop := rs.any (Reach.has f.key) = true

/-- From `o` to `s` everything outside a frame stays as it was: a frame that the operations of a meaning extend one by one. -/
def Stays (ps : List Part) (rs : List Reach) (o s : State) : Prop := Frame ps rs o s


theorem Stays.refl : Stays ps rs s s := Frame.refl ps rs s

theorem Stays.trans (h : Stays ps rs o s) (k : Stays ps rs s t) : Stays ps rs o t := Frame.trans h k

/-- An operation with a frame of its own, which lies within. -/
theorem Stays.via (h : Stays ps rs o s) (k : Stays qs os s t) (hp : ∀ p ∈ qs, p ∈ ps) (hr : os ⊆ rs) : Stays ps rs o t :=
  h.trans (Frame.mono k hp fun _ => (hr ·))

theorem Stays.thru (h : Stays ps rs o s) (k : Stays ps rs o s → Stays ps rs o t) : Stays ps rs o t := k h

theorem Stays.ite {c : Prop} {_ : Decidable c} (h : Stays ps rs o s) (k : Stays ps rs o t) : Stays ps rs o (if c then s else t) := by
  split
  · exact h
  · exact k

theorem Stays.foldl {α : Type} {f : State → α → State} {xs : List α} (h : Stays ps rs o s)
    (k : ∀ {t x}, x ∈ xs → Stays ps rs o t → Stays ps rs o (f t x)) : Stays ps rs o (xs.foldl f s) := by
  induction xs generalizing s with
  | nil => exact h
  | cons x xs ih => exact ih (k (List.mem_cons_self ..) h) fun hx => k (List.mem_cons_of_mem _ hx)

theorem Stays.wr (h : Stays ps rs o s) {f v} (hf : Holds rs f := by rfl) : Stays ps rs o (s.wr f v) := h.trans (Frame.wr s hf v)

theorem Stays.wrb (h : Stays ps rs o s) {f b} (hf : Holds rs f := by rfl) : Stays ps rs o (s.wrb f b) := h.wr hf

theorem Stays.wrsat (h : Stays ps rs o s) {f v} (hf : Holds rs f := by rfl) : Stays ps rs o (s.wrsat f v) := h.wr hf

theorem Stays.inc (h : Stays ps rs o s) {f n} (hf : Holds rs f := by rfl) : Stays ps rs o (s.inc f n) := h.wr hf

theorem Stays.wr64 (h : Stays ps rs o s) {f v} (hf : Holds rs f := by rfl) (hg : Holds rs { f with addr := f.addr + 4 } := by rfl) :
    Stays ps rs o (s.wr64 f v) :=
  (h.wr hf).wr hg

/-- A change of parts of the state beside the live registers. -/
theorem Stays.set (h : Stays ps rs o s) {shadow tbuf drawn hbi que bar sys pat gd sht prt pair trg mrk th vlk met bil key saf clk}
    (hp : ∀ p, p ∈ ps ∨ p.same s ⟨s.pending, s.live, shadow, tbuf, drawn, hbi, que, bar, sys, pat, gd, sht, prt, pair, trg, mrk, th, vlk,
      met, bil, key, saf, clk⟩ := by intro p; cases p <;> first | exact .inr rfl | exact .inl (by decide)) :
    Stays ps rs o ⟨s.pending, s.live, shadow, tbuf, drawn, hbi, que, bar, sys, pat, gd, sht, prt, pair, trg, mrk, th, vlk, met, bil, key,
      saf, clk⟩ :=
  h.trans (Frame.ofParts rfl rfl fun p hn => (hp p).resolve_left hn)

theorem Stays.setShadow (h : Stays ps rs o s) {x} (hp : Part.shadow ∈ ps := by decide) : Stays ps rs o { s with shadow := x } :=
  h.set fun p => by cases p <;> first | exact .inr rfl | exact .inl hp

theorem Stays.setTbuf (h : Stays ps rs o s) {x} (hp : Part.tbuf ∈ ps := by decide) : Stays ps rs o { s with tbuf := x } :=
  h.set fun p => by cases p <;> first | exact .inr rfl | exact .inl hp

theorem Stays.setDrawn (h : Stays ps rs o s) {x} (hp : Part.drawn ∈ ps := by decide) : Stays ps rs o { s with drawn := x } :=
  h.set fun p => by cases p <;> first | exact .inr rfl | exact .inl hp

theorem Stays.setHbi (h : Stays ps rs o s) {x} (hp : Part.hbi ∈ ps := by decide) : Stays ps rs o { s with hbi := x } :=
  h.set fun p => by cases p <;> first | exact .inr rfl | exact .inl hp

theorem Stays.setQue (h : Stays ps rs o s) {x} (hp : Part.que ∈ ps := by decide) : Stays ps rs o { s with que := x } :=
  h.set fun p => by cases p <;> first | exact .inr rfl | exact .inl hp

theorem Stays.setBar (h : Stays ps rs o s) {x} (hp : Part.bar ∈ ps := by decide) : Stays ps rs o { s with bar := x } :=
  h.set fun p => by cases p <;> first | exact .inr rfl | exact .inl hp

theorem Stays.setSys (h : Stays ps rs o s) {x} (hp : Part.sys ∈ ps := by decide) : Stays ps rs o { s with sys := x } :=
  h.set fun p => by cases p <;> first | exact .inr rfl | exact .inl hp

theorem Stays.setPat (h : Stays ps rs o s) {x} (hp : Part.pat ∈ ps := by decide) : Stays ps rs o { s with pat := x } :=
  h.set fun p => by cases p <;> first | exact .inr rfl | exact .inl hp

theorem Stays.setGd (h : Stays ps rs o s) {x} (hp : Part.gd ∈ ps := by decide) : Stays ps rs o { s with gd := x } :=
  h.set fun p => by cases p <;> first | exact .inr rfl | exact .inl hp

theorem Stays.setSht (h : Stays ps rs o s) {x} (hp : Part.sht ∈ ps := by decide) : Stays ps rs o { s with sht := x } :=
  h.set fun p => by cases p <;> first | exact .inr rfl | exact .inl hp

theorem Stays.setPrt (h : Stays ps rs o s) {x} (hp : Part.prt ∈ ps := by decide) : Stays ps rs o { s with prt := x } :=
  h.set fun p => by cases p <;> first | exact .inr rfl | exact .inl hp

theorem Stays.setPair (h : Stays ps rs o s) {x} (hp : Part.pair ∈ ps := by decide) : Stays ps rs o { s with pair := x } :=
  h.set fun p => by cases p <;> first | exact .inr rfl | exact .inl hp

theorem Stays.setTrg (h : Stays ps rs o s) {x} (hp : Part.trg ∈ ps := by decide) : Stays ps rs o { s with trg := x } :=
  h.set fun p => by cases p <;> first | exact .inr rfl | exact .inl hp

theorem Stays.setMrk (h : Stays ps rs o s) {x} (hp : Part.mrk ∈ ps := by decide) : Stays ps rs o { s with mrk := x } :=
  h.set fun p => by cases p <;> first | exact .inr rfl | exact .inl hp

theorem Stays.setTh (h : Stays ps rs o s) {x} (hp : Part.th ∈ ps := by decide) : Stays ps rs o { s with th := x } :=
  h.set fun p => by cases p <;> first | exact .inr rfl | exact .inl hp

theorem Stays.setVlk (h : Stays ps rs o s) {x} (hp : Part.vlk ∈ ps := by decide) : Stays ps rs o { s with vlk := x } :=
  h.set fun p => by cases p <;> first | exact .inr rfl | exact .inl hp

theorem Stays.setMet (h : Stays ps rs o s) {x} (hp : Part.met ∈ ps := by decide) : Stays ps rs o { s with met := x } :=
  h.set fun p => by cases p <;> first | exact .inr rfl | exact .inl hp

theorem Stays.setBil (h : Stays ps rs o s) {x} (hp : Part.bil ∈ ps := by decide) : Stays ps rs o { s with bil := x } :=
  h.set fun p => by cases p <;> first | exact .inr rfl | exact .inl hp

theorem Stays.setKey (h : Stays ps rs o s) {x} (hp : Part.key ∈ ps := by decide) : Stays ps rs o { s with key := x } :=
  h.set fun p => by cases p <;> first | exact .inr rfl | exact .inl hp

theorem Stays.setSaf (h : Stays ps rs o s) {x} (hp : Part.saf ∈ ps := by decide) : Stays ps rs o { s with saf := x } :=
  h.set fun p => by cases p <;> first | exact .inr rfl | exact .inl hp

theorem Stays.setClk (h : Stays ps rs o s) {x} (hp : Part.clk ∈ ps := by decide) : Stays ps rs o { s with clk := x } :=
  h.set fun p => by cases p <;> first | exact .inr rfl | exact .inl hp

/-! ### Gate drives: edges of channels -/

/-- Registers that the edges of a channel change. -/
def reachEdge : List Reach :=
  [.cell F.GDI_STATUS_DRIVE, .family (F.GDI_CH_SEG_END_OFF 0), .family (F.GDI_CH_SEG_END_ON 0), .family (F.GDI_CH_STATUS_STATE 0),
    .family (F.GDI_HB_STATUS_HIGH_ON 0), .family (F.GDI_HB_STATUS_LOW_ON 0)]

theorem reachEdge_channel (n : Fin 24) : Holds reachEdge (F.GDI_CH_STATUS_STATE n) ∧ Holds reachEdge (F.GDI_CH_SEG_END_ON n) ∧
    Holds reachEdge (F.GDI_CH_SEG_END_OFF n) := by
  revert n
  decide

theorem reachEdge_bridge (h : Fin 12) : Holds reachEdge (F.GDI_HB_STATUS_HIGH_ON h) ∧ Holds reachEdge (F.GDI_HB_STATUS_LOW_ON h) := by
  revert h
  decide

theorem setChState_frame {n st : Nat} (hn : n < 24) : Stays [] reachEdge s (s.setChState n st) := by
  obtain ⟨state, -, -⟩ := reachEdge_channel ⟨n, hn⟩
  obtain ⟨high, low⟩ := reachEdge_bridge ⟨n / 2, by omega⟩
  exact (Stays.refl.wr state).wr.thru fun hs => .ite (hs.wrb high) (hs.wrb low)

theorem startEdge_frame {n : Nat} {on : Bool} (hn : n < 24) : Stays [.gd] reachEdge s (s.startEdge n on) := by
  obtain ⟨-, ends_on, ends_off⟩ := reachEdge_channel ⟨n, hn⟩
  have ends : Holds reachEdge (if on then F.GDI_CH_SEG_END_ON n else F.GDI_CH_SEG_END_OFF n) := by
    split
    · exact ends_on
    · exact ends_off
  exact ((Stays.ite .refl (Stays.refl.wr ends)).setGd).via (setChState_frame hn) (by simp) (by simp)

theorem offEdge_frame {n : Nat} (hn : n < 24) : Stays [.gd] reachEdge s (s.offEdge n) := .ite (startEdge_frame hn) .refl

theorem hbOff_frame {h : Nat} (hh : h < 12) : Stays [.gd] reachEdge s (s.hbOff h) :=
  (Stays.refl.setGd.trans (offEdge_frame (by omega))).trans (offEdge_frame (by omega))

/-! ### The claim logic -/

/-- The parts that a change of claims changes (R404 to R406). -/
def partsClaim : List Part := [.gd, .met, .mrk, .pair]

theorem reachEdge_claim : reachEdge ⊆ reachClaim := by decide

theorem reachClaim_enable (n : Fin 24) : Holds reachClaim (F.GDI_CH_STATUS_ENABLE n) := by
  revert n
  decide

theorem reachClaim_aux (a : Fin 6) : Holds reachClaim (F.GDA_HB_STATUS_OUT a) := by
  revert a
  decide

theorem Stays.startDone (hs : Stays ps rs o s) (phase : Holds rs F.SYS_START_PHASE := by rfl)
    (por : Holds rs F.CLK_AON_STATUS_POR := by rfl) : Stays ps rs o s.startDone :=
  (hs.wr phase).wrb por

theorem Stays.stepEight (hs : Stays ps rs o s) {n} (phase : Holds rs F.SYS_START_PHASE := by rfl)
    (time : Holds rs F.SYS_START_TIME := by rfl) (por : Holds rs F.CLK_AON_STATUS_POR := by rfl) : Stays ps rs o (s.stepEight n) :=
  .ite hs ((hs.wrsat time).thru fun hs => .ite (hs.wr phase) (hs.startDone phase por))

theorem Stays.setPairState (hs : Stays ps rs o s) {n} (state : Holds rs F.PAIR_STATUS_STATE := by rfl)
    (phase : Holds rs F.SYS_START_PHASE := by rfl) (time : Holds rs F.SYS_START_TIME := by rfl)
    (por : Holds rs F.CLK_AON_STATUS_POR := by rfl) : Stays ps rs o (s.setPairState n) :=
  (hs.wr state).stepEight phase time por

theorem Stays.releasePulses (hs : Stays ps rs o s) {all} (hp : Part.met ∈ ps := by decide)
    (out : ∀ k : Fin 4, Holds rs (F.MET_PO_STATUS_OUT k) := by decide) : Stays ps rs o (s.releasePulses all) :=
  hs.foldl fun hk hs => .ite ((hs.setMet hp).wrb (out ⟨_, List.mem_range.mp hk⟩)) hs

theorem Stays.showLock (hs : Stays ps rs o s) (out : Holds rs F.PAIR_STATUS_PL_OUT := by rfl) : Stays ps rs o s.showLock := hs.wrb out

theorem offEdge_claim {n : Nat} (hs : Stays partsClaim reachClaim o s) (hn : n < 24) : Stays partsClaim reachClaim o (s.offEdge n) :=
  hs.via (offEdge_frame hn) (by decide) reachEdge_claim

theorem Stays.enableRise (hs : Stays partsClaim reachClaim o s) : Stays partsClaim reachClaim o s.enableRise :=
  hs.setGd.thru fun hs => (Stays.ite hs.wr hs).foldl fun hn hs =>
    .ite hs ((hs.wrb (reachClaim_enable ⟨_, List.mem_range.mp hn⟩)).thru fun hs =>
      .ite (hs.via (setChState_frame (List.mem_range.mp hn)) (by simp) reachEdge_claim) hs)

theorem Stays.enableFall (hs : Stays partsClaim reachClaim o s) : Stays partsClaim reachClaim o s.enableFall :=
  ((hs.setGd.foldl fun hn hs =>
    offEdge_claim (hs.wrb (reachClaim_enable ⟨_, List.mem_range.mp hn⟩)) (List.mem_range.mp hn)).foldl fun _ hs => hs.setGd).foldl
      fun ha hs => hs.setGd.wrb (reachClaim_aux ⟨_, List.mem_range.mp ha⟩)

theorem Stays.setEn (hs : Stays partsClaim reachClaim o s) {e} : Stays partsClaim reachClaim o (s.setEn e) :=
  .ite hs.showLock (.ite hs.wrb.wrsat.setPair.wrb.enableRise.showLock hs.wrb.wrb.wrb.enableFall.releasePulses.showLock)

theorem Stays.discardAhead (hs : Stays ps rs o s) (hp : Part.mrk ∈ ps := by decide) (count : Holds rs F.MRK_DISCARDS := by rfl) :
    Stays ps rs o s.discardAhead :=
  .ite hs ((hs.setMrk hp).inc count)

theorem Stays.endMaster (hs : Stays partsClaim reachClaim o s) : Stays partsClaim reachClaim o s.endMaster :=
  .ite hs hs.discardAhead.setMrk.wrb.wrb.wrb

theorem Stays.claimEval (hs : Stays partsClaim reachClaim o s) : Stays partsClaim reachClaim o s.claimEval :=
  hs.setEn.thru fun hs => (Stays.ite hs.setEn.wr.setPairState.wr.endMaster hs).thru fun hs => .ite hs.wrb hs

theorem Stays.dropClaim (hs : Stays partsClaim reachClaim o s) {st} : Stays partsClaim reachClaim o (s.dropClaim st) :=
  hs.wr.wrb.setPairState.claimEval.endMaster

theorem Stays.claimWithdraw (hs : Stays partsClaim reachClaim o s) : Stays partsClaim reachClaim o s.claimWithdraw :=
  hs.setPair.dropClaim.setPair

/-! ### Queues, events and the Barograph -/

theorem Stays.queLevel (hs : Stays ps rs o s) {n level} (depth : Holds rs (F.QUE_Q_DEPTH_LEVEL n) := by rfl)
    (some : Holds rs F.QUE_STATUS_NONEMPTY := by rfl) (full : Holds rs F.QUE_STATUS_FULL := by rfl)
    (most : Holds rs (F.QUE_Q_HWM n) := by rfl) : Stays ps rs o (s.queLevel n level) :=
  (((hs.wr depth).wr some).wr full).thru fun hs => .ite (hs.wr most) hs

theorem Stays.event (hs : Stays ps rs o s) {code arg} (hp : ∀ p ∈ [Part.que, .trg], p ∈ ps := by decide)
    (hr : reachEvent ⊆ rs := by simp) : Stays ps rs o (s.event code arg) :=
  hs.via (event_frame s code arg) hp hr

theorem Stays.barAdd (hs : Stays ps rs o s) {id n} (hp : Part.bar ∈ ps := by decide) : Stays ps rs o (s.barAdd id n) := hs.setBar hp

theorem Stays.barSave (hs : Stays ps rs o s) (hp : Part.bar ∈ ps := by decide) (seq : Holds rs F.BAR_SAVE_SEQ := by rfl) :
    Stays ps rs o s.barSave :=
  (hs.setBar hp).wr seq

theorem barBlock_frame {reason page : Nat} : Stays [.que, .bar] reachBlocks s (s.barBlock reason page) :=
  Stays.refl.setBar.wr.foldl fun _ hs => .ite hs.setQue.queLevel hs.setQue.queLevel.inc

/-- Saved blocks change the Barograph and Q14 with its registers (R495, R497). -/
theorem barBlocks_frame {reason : Nat} : Stays [.que, .bar] reachBlocks s (s.barBlocks reason) :=
  Stays.refl.foldl fun _ hs => hs.trans barBlock_frame

/-! ### Withdrawal -/

/-- The parts that a withdrawal changes before its reset (R498 to R501). -/
def partsWithdraw : List Part := [.bar, .gd, .met, .mrk, .pair, .que, .trg]

theorem reachClaim_withdraw : reachClaim ⊆ reachWithdraw := by simp [reachWithdraw]

theorem reachEvent_withdraw : reachEvent ⊆ reachWithdraw := by simp [reachWithdraw]

theorem reachBlocks_withdraw : reachBlocks ⊆ reachWithdraw := fun _ h => by simp [reachWithdraw, h]

theorem partsClaim_withdraw : ∀ p ∈ partsClaim, p ∈ partsWithdraw := by decide

theorem showHist_frame : Stays [] [.family (F.BAR_WD_HIST_HI 0), .family (F.BAR_WD_HIST_LO 0)] s s.showHist := by
  have held (i : Fin 3) : Holds [.family (F.BAR_WD_HIST_HI 0), .family (F.BAR_WD_HIST_LO 0)] (F.BAR_WD_HIST_LO i) ∧
      Holds [.family (F.BAR_WD_HIST_HI 0), .family (F.BAR_WD_HIST_LO 0)]
        { F.BAR_WD_HIST_LO i with addr := (F.BAR_WD_HIST_LO i).addr + 4 } := by
    revert i
    decide
  exact Stays.refl.foldl fun hi hs =>
    hs.wr64 (held ⟨_, List.mem_range.mp hi⟩).1 (held ⟨_, List.mem_range.mp hi⟩).2

theorem Stays.bench (hs : Stays partsWithdraw reachWithdraw o s) {cause} : Stays partsWithdraw reachWithdraw o (s.bench cause) :=
  .ite hs (((hs.setBar.wrb.wr.barAdd.via barBlocks_frame (by decide) reachBlocks_withdraw).via (Stays.claimEval .refl) partsClaim_withdraw
    reachClaim_withdraw).event (hr := reachEvent_withdraw))

theorem Stays.withdrawSteps (hs : Stays partsWithdraw reachWithdraw o s) {cause reason save} :
    Stays partsWithdraw reachWithdraw o (s.withdrawSteps cause reason save) :=
  (hs.setBar.via (Stays.claimWithdraw .refl) partsClaim_withdraw reachClaim_withdraw).wr.barAdd.thru fun hs =>
    (Stays.ite (hs.setBar.via showHist_frame (by simp) (by simp [reachWithdraw])) hs).wr.thru fun hs =>
      ((Stays.ite (hs.barSave.via barBlocks_frame (by decide) reachBlocks_withdraw) hs).event (hr := reachEvent_withdraw)).thru
        fun hs => .ite hs.bench hs

/-! ### A main-die reset -/

/-- The parts that a main-die reset changes (R507, R508): all but the partition's own and the free values drawn. -/
def partsReset : List Part :=
  [.hbi, .que, .bar, .sys, .pat, .gd, .sht, .prt, .pair, .trg, .mrk, .th, .clk, .met, .key, .saf, .vlk, .shadow, .tbuf]

/-- Single cells and sets of cells that a list of sets holds. -/
def covers (rs os : List Reach) : Bool :=
  os.all fun r => match r with
    | .cell f => rs.any (Reach.has f.key)
    | r => rs.contains r

theorem covers_has {k : Nat} (h : covers rs os = true) (hk : os.any (Reach.has k) = true) : rs.any (Reach.has k) = true := by
  obtain ⟨r, hr, has⟩ := List.any_eq_true.mp hk
  have held := List.all_eq_true.mp h r hr
  cases r
  case cell f =>
    obtain rfl : f.key = k := by simpa [Reach.has] using has
    exact held
  all_goals exact List.any_eq_true.mpr ⟨_, by simpa using held, has⟩

/-- An operation whose frame a list covers cell by cell. -/
theorem Stays.covered (h : Stays ps rs o s) (k : Stays qs os s t) (hp : ∀ p ∈ qs, p ∈ ps) (hr : covers rs os = true) :
    Stays ps rs o t :=
  h.trans ⟨k.pending, fun p hn => k.parts p fun hm => hn (hp p hm), fun i hi => k.live i (by
    rw [Bool.eq_false_iff] at hi ⊢
    exact fun hk => hi (covers_has hr hk))⟩

theorem SMap.get_filter_key {α : Type} (d : Nat → α) (p : Nat → Bool) {k : Nat} (hk : p k = true) (m : SMap α) :
    SMap.get d (m.filter fun e => p e.1) k = SMap.get d m k := by
  induction m with
  | nil => rfl
  | cons e m ih =>
    obtain ⟨a, v⟩ := e
    by_cases ha : a = k
    · simp [SMap.get, ha, hk]
    · by_cases hp : p a = true
      · simp [SMap.get, hp, ha, ih]
      · simp [SMap.get, hp, ha, ih]

/-- Cells that a filter drops, with parts of the state. -/
theorem Stays.dropCells (h : Stays ps rs o s) (kept : Nat → Bool) {shadow tbuf drawn hbi que bar sys pat gd sht prt pair trg mrk th vlk met
      bil key saf clk}
    (hr : ∀ k, rs.any (Reach.has k) = false → kept k = true)
    (hp : ∀ p, p ∉ ps → p.same s ⟨s.pending, s.live, shadow, tbuf, drawn, hbi, que, bar, sys, pat, gd, sht, prt, pair, trg, mrk, th, vlk,
      met, bil, key, saf, clk⟩) :
    Stays ps rs o ⟨s.pending, s.live.filter fun e => kept e.1, shadow, tbuf, drawn, hbi, que, bar, sys, pat, gd, sht, prt, pair, trg, mrk,
      th, vlk, met, bil, key, saf, clk⟩ :=
  h.trans ⟨rfl, fun p hn => by cases p <;> exact hp _ hn, fun k hk => SMap.get_filter_key resetCell kept (hr k hk) s.live⟩

theorem ringWrite_reset {e : Ev} : Stays partsReset reachReset s (s.ringWrite e) :=
  Stays.refl.covered (ringWrite_frame s e) (by decide) (by decide)

theorem mainReset_frame {src : Nat} {leave : Bool} : Stays partsReset reachReset s (s.mainReset src leave) := by
  have rung : Stays partsReset reachReset s (s.que.q0.foldl State.ringWrite s) := Stays.refl.foldl fun _ hs => hs.trans ringWrite_reset
  unfold State.mainReset
  refine Stays.thru (rung.dropCells keptCell (fun k hk => ?_) fun p hp => ?_) fun hs => .ite hs hs.queLevel
  · simpa [reachReset, Reach.has] using (List.any_eq_false.mp hk .lost (by simp [reachReset]))
  · cases p <;> first | rfl | exact absurd (by decide) hp

theorem Stays.announceLeave (hs : Stays ps rs o s) (hp : Part.trg ∈ ps := by decide) : Stays ps rs o s.announceLeave :=
  .ite (hs.setTrg hp) hs

/-- A withdrawal with its reset, or the record of a second fault (R499, R504, R507). -/
theorem withdraw_frame {cause : Nat} : Stays partsReset (reachWithdraw ++ reachReset) s (s.withdraw cause) := by
  unfold State.withdraw
  split
  · exact Stays.refl.via ringWrite_reset (fun _ => id) (by simp)
  · exact ((Stays.refl.via (Stays.withdrawSteps .refl) (by decide) (by simp)).announceLeave).via mainReset_frame (fun _ => id) (by simp)

/-! ### What a reset and a withdrawal leave behind -/

theorem Stays.bar (h : Stays ps rs s t) (hp : Part.bar ∉ ps := by decide) : t.bar = s.bar := h.parts .bar hp

/-- What a main-die reset leaves of the start-up state, the Barograph and the pattern. -/
theorem mainReset_kept (s : State) (src : Nat) (leave : Bool) :
    (s.mainReset src leave).sys = s.sys.afterReset src ∧ (s.mainReset src leave).bar = s.bar.afterReset ∧
      (s.mainReset src leave).pat = s.pat.afterReset := by
  have rung : QueOnly s (s.que.q0.foldl State.ringWrite s) := foldl_queOnly _ ringWrite_queOnly _ s
  unfold State.mainReset
  rw [← rung.sys, ← rung.bar, ← rung.pat]
  dsimp only
  split
  · exact ⟨rfl, rfl, rfl⟩
  · have level := fun t : State => queLevel_queOnly t 1
    exact ⟨(level _ _ (by decide)).sys, (level _ _ (by decide)).bar, (level _ _ (by decide)).pat⟩

/-- A withdrawal with its cause stands in the Barograph (R499). -/
structure Withdrawing (cause : Nat) (s : State) : Prop where
  held : s.bar.withdrawing = some cause

section
variable {cause : Nat}

theorem Withdrawing.of (h : Withdrawing cause s) (hb : t.bar.withdrawing = s.bar.withdrawing) : Withdrawing cause t := ⟨hb.trans h.held⟩

theorem Withdrawing.thru (h : Withdrawing cause s) (k : Withdrawing cause s → Withdrawing cause t) : Withdrawing cause t := k h

theorem Withdrawing.ite {c : Prop} {_ : Decidable c} (h : Withdrawing cause s) (k : Withdrawing cause t) :
    Withdrawing cause (if c then s else t) := by
  split
  · exact h
  · exact k

theorem Withdrawing.wr (h : Withdrawing cause s) {f v} : Withdrawing cause (s.wr f v) := h.of rfl

theorem Withdrawing.barAdd (h : Withdrawing cause s) {id n} : Withdrawing cause (s.barAdd id n) := h.of rfl

theorem Withdrawing.barSave (h : Withdrawing cause s) : Withdrawing cause s.barSave := h.of rfl

theorem Withdrawing.setBar (h : Withdrawing cause s) {bar : Bar} (hb : bar.withdrawing = s.bar.withdrawing := by rfl) :
    Withdrawing cause { s with bar := bar } :=
  h.of hb

theorem Withdrawing.event (h : Withdrawing cause s) {code arg} : Withdrawing cause (s.event code arg) :=
  h.of (congrArg Bar.withdrawing (event_eventOnly s code arg).bar)

theorem Withdrawing.showHist (h : Withdrawing cause s) : Withdrawing cause s.showHist := h.of (congrArg Bar.withdrawing showHist_frame.bar)

theorem Withdrawing.claimEval (h : Withdrawing cause s) : Withdrawing cause s.claimEval :=
  h.of (congrArg Bar.withdrawing (Stays.claimEval .refl).bar)

theorem Withdrawing.claimWithdraw (h : Withdrawing cause s) : Withdrawing cause s.claimWithdraw :=
  h.of (congrArg Bar.withdrawing (Stays.claimWithdraw .refl).bar)

theorem Withdrawing.foldl {f : State → Nat → State} {xs : List Nat} (h : Withdrawing cause s)
    (k : ∀ {t x}, Withdrawing cause t → Withdrawing cause (f t x)) : Withdrawing cause (xs.foldl f s) := by
  induction xs generalizing s with
  | nil => exact h
  | cons x xs ih => exact ih (k h)

theorem Withdrawing.barBlock (h : Withdrawing cause s) {reason page} : Withdrawing cause (s.barBlock reason page) :=
  h.setBar.wr.foldl fun hs =>
    hs.of (congrArg Bar.withdrawing (enqueueOldest_queOnly _ 14 _ (by decide)).bar)

theorem Withdrawing.barBlocks (h : Withdrawing cause s) {reason} : Withdrawing cause (s.barBlocks reason) := h.foldl fun hs => hs.barBlock

theorem Withdrawing.bench (h : Withdrawing cause s) {reason} : Withdrawing cause (s.bench reason) :=
  .ite h h.setBar.wr.wr.barAdd.barBlocks.claimEval.event

theorem Withdrawing.counted (h : Withdrawing cause s) {l} : Withdrawing cause ({ s with bar.wdHist := l } : State).showHist :=
  h.setBar.showHist

/-- During its steps a withdrawal stands in the Barograph (R499). -/
theorem withdrawSteps_withdrawing {reason : Nat} {save : Bool} : Withdrawing cause (s.withdrawSteps cause reason save) := by
  have begun : Withdrawing cause ({ s with bar.withdrawing := some cause } : State).claimWithdraw := Withdrawing.claimWithdraw ⟨rfl⟩
  unfold State.withdrawSteps
  extract_lets _ _ claimed
  change Withdrawing cause claimed at begun
  clear_value claimed
  exact begun.wr.barAdd.thru fun hs => (Withdrawing.ite hs.counted hs).wr.thru fun hs =>
    (Withdrawing.ite hs.barSave.barBlocks hs).event.thru fun hs => .ite hs.bench hs

end

/-- A unit that withdraws resets, with the source of the withdrawal's cause (R499, R507). -/
theorem withdraw_resets {cause : Nat} (h : s.bar.withdrawing = none) :
    (s.withdraw cause).sys.startPending = some (if cause = 9 then 7 else 4) ∧ (s.withdraw cause).bar.withdrawing = some cause := by
  have left : Withdrawing cause (s.withdrawSteps cause 2 true).announceLeave :=
    .ite (withdrawSteps_withdrawing.of rfl) withdrawSteps_withdrawing
  obtain ⟨sys, bar, -⟩ := mainReset_kept (s.withdrawSteps cause 2 true).announceLeave (if cause == 9 then 7 else 4) true
  unfold State.withdraw
  rw [h]
  dsimp only
  rw [sys, bar]
  exact ⟨by simp [Sys.afterReset], left.held⟩

/-! ### Keyed commands that are accepted -/

/-- Outside Lull a command with its key runs on the state with the access recorded (R64, R88, R90). -/
theorem command_accepts (awake : s.inLull = false) (side addr key : Nat) (f : State → State) :
    ∃ hbi, s.command side addr key key f = f { s with hbi := hbi } := by
  have run : s.command side addr key key f = f (s.accepted side) := by simp [State.command, State.lullBlocks, awake]
  rw [run]
  unfold State.accepted
  split
  · exact ⟨_, rfl⟩
  · exact ⟨_, rfl⟩

/-- So does a command of the update procedure from the owner or with no owner (R49). -/
theorem answers_patCommand {c : Instr} {side : Side} {f : State → State} {g : Hbi → State} {P : State → Prop} (awake : s.inLull = false)
    (own : s.foreignOwner side = false) (runs : exec c s = .next (s.patCommand side 0x5A7E#16 f))
    (means : ∀ hbi, f { s with hbi := hbi } = g hbi) (holds : ∀ hbi, P (g hbi)) : Answers c s P := by
  obtain ⟨hbi, accepts⟩ := command_accepts awake side patCmdAddr 0x5A7E
    fun s => if s.foreignOwner side then s.accessError side eOwner patCmdAddr else f s
  refine ⟨_, runs, ?_⟩
  rw [State.patCommand, show (0x5A7E#16).toNat = 0x5A7E from rfl, accepts, show ({ s with hbi := hbi } : State).foreignOwner side = false
    from own]
  exact means hbi ▸ holds hbi

/-! ### The registers of the update procedure -/

/-- A register that a frame does not hold reads as before. -/
theorem Stays.rd (h : Stays ps rs s t) {f : Field} (hf : rs.any (Reach.has f.key) = false := by rfl) : t.rd f = s.rd f := h.live _ hf

theorem Stays.rdb (h : Stays ps rs s t) {f : Field} (hf : rs.any (Reach.has f.key) = false := by rfl) : t.rdb f = s.rdb f :=
  congrArg (· != 0) (h.rd hf)

/-- Registers that mirror the update and the binding (R55, R58). -/
def reachUpdate : List Reach :=
  [.cell F.PAT_OWNER_ID, .cell F.PAT_SITE_ID_HI, .cell F.PAT_SITE_ID_LO, .cell F.PAT_SVN_MIN, .cell F.PAT_UPD_STATUS_OWNER,
    .cell F.PAT_UPD_STATUS_OWNER_CLIENT, .cell F.PAT_UPD_STATUS_RESULT, .cell F.PAT_UPD_STATUS_STATE]

theorem Stays.showUpdate (hs : Stays ps reachUpdate o s) : Stays ps reachUpdate o s.showUpdate := hs.wr.wr.wr.wr.wr.wr.wr64

@[simp] theorem showUpdate_pat (s : State) : s.showUpdate.pat = s.pat := rfl

theorem showUpdate_state (s : State) : s.showUpdate.rd F.PAT_UPD_STATUS_STATE = s.pat.updState % 2 ^ 4 := by
  simp (disch := decide) only [State.showUpdate, State.wr64, State.rd_wr_ne, State.rd_wr]
  rfl

theorem showUpdate_result (s : State) : s.showUpdate.rd F.PAT_UPD_STATUS_RESULT = s.pat.updResult % 2 ^ 4 := by
  simp (disch := decide) only [State.showUpdate, State.wr64, State.rd_wr_ne, State.rd_wr]
  rfl

theorem showUpdate_owner (s : State) : s.showUpdate.rd F.PAT_UPD_STATUS_OWNER = s.pat.updOwner % 2 ^ 2 := by
  simp (disch := decide) only [State.showUpdate, State.wr64, State.rd_wr_ne, State.rd_wr]
  rfl

/-- The inactive slot is left empty (R49). -/
theorem emptySlot_empty (s : State) : (s.emptySlot.slotOf s.inactive).empty = true := by
  unfold State.emptySlot State.setSlot State.slotOf
  split
  · rfl
  · rfl

theorem ite_bounded {c : Prop} {_ : Decidable c} {a b n : Nat} (ha : a ≤ n) (hb : b ≤ n) : (if c then a else b) ≤ n := by
  split
  · exact ha
  · exact hb

/-- The codes of the checks of R43 (R58). -/
theorem checkSlot_le (s : State) (x : Slot) (memOk : Bool) (limit : Option Nat) : s.checkSlot x memOk limit ≤ 13 := by
  unfold State.checkSlot
  iterate 12 refine ite_bounded (by decide) ?_
  exact Nat.zero_le _

/-! ### The key store's registers and a change of the life-cycle state -/

/-- Registers that show the key store (R372). -/
def reachStore : List Reach :=
  [.cell F.KEY_BLOBS_USED, .cell F.KEY_COUNTER_HI, .cell F.KEY_COUNTER_LO, .cell F.KEY_DEVICE_ID_HI, .cell F.KEY_DEVICE_ID_LO,
    .cell F.KEY_GEN_BLOB, .cell F.KEY_GEN_SITE, .cell F.KEY_STATUS_COMPAT, .cell F.KEY_STATUS_DESTROY_PENDING,
    .cell F.KEY_STATUS_ENROLLED, .cell F.KEY_STATUS_SEED, .family (F.KEY_CLIENT_DIGEST 0), .family (F.KEY_CLIENT_OBSERVE 0),
    .family (F.KEY_CLIENT_OPERATE 0), .family (F.KEY_CLIENT_VALID 0), .family (F.KEY_ENROL_DATA 0), .family (F.KEY_SLOT_HALF 0),
    .family (F.KEY_SLOT_KEY_ID 0), .family (F.KEY_SLOT_LOADABLE 0), .family (F.KEY_SLOT_USE 0), .family (F.KEY_SLOT_VALID 0),
    .family (F.KEY_TRUST_DIGEST 0), .family (F.KEY_TRUST_USE 0), .family (F.KEY_TRUST_VALID 0)]

theorem reachStore_slot (i : Fin 64) : Holds reachStore (F.KEY_SLOT_VALID i) ∧ Holds reachStore (F.KEY_SLOT_HALF i) ∧
    Holds reachStore (F.KEY_SLOT_LOADABLE i) ∧ Holds reachStore (F.KEY_SLOT_USE i) ∧ Holds reachStore (F.KEY_SLOT_KEY_ID i) := by
  revert i
  decide

theorem reachStore_client (j : Fin 16) : Holds reachStore (F.KEY_CLIENT_VALID j) ∧ Holds reachStore (F.KEY_CLIENT_OPERATE j) ∧
    Holds reachStore (F.KEY_CLIENT_OBSERVE j) ∧ Holds reachStore (F.KEY_CLIENT_DIGEST j) := by
  revert j
  decide

theorem reachStore_trust (j : Fin 32) : Holds reachStore (F.KEY_TRUST_VALID j) ∧ Holds reachStore (F.KEY_TRUST_USE j) ∧
    Holds reachStore (F.KEY_TRUST_DIGEST j) := by
  revert j
  decide

theorem reachStore_enrol (i : Fin 12) : Holds reachStore (F.KEY_ENROL_DATA i) := by
  revert i
  decide

theorem Stays.showSlot (hs : Stays ps reachStore o s) {i} (hi : i < 64) : Stays ps reachStore o (s.showSlot i) := by
  obtain ⟨valid, half, loadable, use, id⟩ := reachStore_slot ⟨i, hi⟩
  exact ((((((hs.wrb valid).wrb half).wrb loadable).wr use).wr id).wr).wrb

theorem Stays.showClient (hs : Stays ps reachStore o s) {j} (hj : j < 16) : Stays ps reachStore o (s.showClient j) := by
  obtain ⟨valid, operate, observe, digest⟩ := reachStore_client ⟨j, hj⟩
  exact (((hs.wrb valid).wrb operate).wrb observe).wr digest

theorem Stays.showTrust (hs : Stays ps reachStore o s) {j} (hj : j < 32) : Stays ps reachStore o (s.showTrust j) := by
  obtain ⟨valid, use, digest⟩ := reachStore_trust ⟨j, hj⟩
  exact ((hs.wrb valid).wr use).wr digest

theorem Stays.showKeys (hs : Stays ps reachStore o s) : Stays ps reachStore o s.showKeys :=
  ((((((hs.foldl fun hi hs => hs.showSlot (List.mem_range.mp hi)).foldl fun hj hs => hs.showClient (List.mem_range.mp hj)).foldl
    fun hj hs => hs.showTrust (List.mem_range.mp hj)).wr).wr).wr64.wr64).wrb

theorem reachStore_life : reachStore ⊆ reachLife := by decide

/-- The parts that a destruction of keys changes (R375). -/
def partsDestroy : List Part := [.bil, .drawn, .key, .met, .pat]

theorem Stays.showSealed (hs : Stays ps rs o s) (sealed : Holds rs F.PAT_STATUS_SEALED := by rfl)
    (role : Holds rs F.PAT_STATUS_UNSEALED_ROLE := by rfl) : Stays ps rs o s.showSealed :=
  (hs.wrb sealed).wrb role

theorem Stays.eraseLegal (hs : Stays partsDestroy reachLife o s) {release} : Stays partsDestroy reachLife o (s.eraseLegal release) :=
  hs.setKey.thru fun hs => .ite hs hs.set.setMet.showSealed

/-- The keys' own registers are cleared before the new root is drawn (R375). -/
theorem clearEnrol_frame : Stays [] reachStore s
    ((List.range 12).foldl (fun s i => s.wr (F.KEY_ENROL_DATA i) 0) ((s.wrb F.KEY_STATUS_ENROLLED false).wrb F.KEY_STATUS_SEED false)) :=
  Stays.refl.wrb.wrb.foldl fun hi hs => hs.wr (reachStore_enrol ⟨_, List.mem_range.mp hi⟩)

theorem destroyKeys_frame {release : Bool} : Stays partsDestroy reachLife s (s.destroyKeys release) :=
  (((Stays.refl.setKey.via clearEnrol_frame (by simp) reachStore_life).thru fun hs => .ite hs hs.setPat.wr.wr64).eraseLegal.via
    (Stays.showKeys (ps := partsDestroy) .refl) (fun _ => id) reachStore_life).thru fun hs => (Stays.ite hs.setKey hs.setDrawn.setKey).setKey.wrb.wrb

/-- A destruction in BOUND without a release leaves the pattern and the life-cycle state (R375). -/
theorem destroyKeys_bound (lc : s.rd F.KEY_STATUS_LC = lcBound) : Stays [.key, .drawn] reachStore s (s.destroyKeys false) := by
  unfold State.destroyKeys
  extract_lets _ _ _ erased _ _ bound
  have cleared : Stays [.key, .drawn] reachStore s erased := Stays.refl.setKey.via clearEnrol_frame (by simp) (fun _ => id)
  have kept : bound = erased := if_pos (beq_iff_eq.mpr (cleared.rd.trans lc))
  have kept : Stays [.key, .drawn] reachStore s bound := kept ▸ cleared
  exact kept.setKey.showKeys.thru fun hs => (Stays.ite hs.setKey hs.setDrawn.setKey).setKey.wrb.wrb
theorem bank_place {a l n b : Nat} (hl : l < 32) :
    ((a + n * b) * 32 + l) % 32 = l ∧ ((a + n * b) * 32 + l) / 32 % b = (a * 32 + l) / 32 % b := by
  have place : ((a + n * b) * 32 + l) / 32 = a + n * b := by omega
  have first : (a * 32 + l) / 32 = a := by omega
  exact ⟨by omega, by rw [place, first, Nat.add_mul_mod_self_right]⟩

theorem bank_key (f : Field) (side : Nat) : (f.bank side).key = (f.addr + side * bankStride) * 32 + f.lsb := by
  rw [Field.key, Field.bank]

/-- A set of copies of a field holds each side's copy. -/
theorem holds_bank {f : Field} (hl : f.lsb < 32) (hf : .family f ∈ rs) (side : Nat) : Holds rs (f.bank side) := by
  obtain ⟨low, place⟩ := bank_place (a := f.addr) (n := side) (b := bankStride) hl
  refine List.any_eq_true.mpr ⟨_, hf, ?_⟩
  rw [bank_key, Reach.has, low, familyOf, place, familyOf, Field.key]
  simp

theorem Stays.jobDone (hs : Stays ps rs o s) {side result} (done : .family F.KEY_JOB_STATUS_DONE ∈ rs := by decide)
    (told : .family F.KEY_JOB_STATUS_RESULT ∈ rs := by decide) (jobs : Holds rs F.KEY_JOBS := by rfl) :
    Stays ps rs o (s.jobDone side result) :=
  ((hs.wrb (holds_bank (by decide) done side)).wr (holds_bank (by decide) told side)).inc jobs

/-- The parts that a change of the life-cycle state changes (R375). -/
def partsLife : List Part := [.bil, .drawn, .key, .met, .pat, .que, .sys]

theorem changeLife_frame {lc : Nat} {release : Bool} : Stays partsLife reachLife s (s.changeLife lc release) := by
  unfold State.changeLife
  extract_lets _ begun ended
  have signalled : Stays partsLife reachLife s begun := Stays.refl.setSys.wr.wrb
  have jobs : Stays partsLife reachLife s ended := signalled.foldl fun _ hs => .ite hs.jobDone hs
  exact jobs.setQue.queLevel.via destroyKeys_frame (by decide) (fun _ => id)

/-- The first COMMIT's change to BOUND leaves the pattern (R374). -/
theorem changeLife_bound (s : State) :
    (s.changeLife lcBound false).pat = s.pat ∧ (s.changeLife lcBound false).rd F.KEY_STATUS_LC = lcBound := by
  unfold State.changeLife
  extract_lets _ begun ended
  have lc : begun.rd F.KEY_STATUS_LC = lcBound := (State.rd_wrb_ne _ (by decide) _).trans (State.rd_wr _ _ _)
  have jobs : Stays [] [.cell F.KEY_JOBS, .family F.KEY_JOB_STATUS_DONE, .family F.KEY_JOB_STATUS_RESULT] begun ended :=
    Stays.refl.foldl fun _ hs => .ite hs.jobDone hs
  have emptied := setQ_queOnly ended 7 [] (by decide)
  have bound : (ended.setQ 7 []).rd F.KEY_STATUS_LC = lcBound := (emptied.rd _ (by decide) (by decide)).trans (jobs.rd.trans lc)
  have gone := destroyKeys_bound bound
  exact ⟨(gone.parts .pat (by decide)).trans (emptied.pat.trans (jobs.parts .pat (by decide))), gone.rd.trans bound⟩

/-! ### The update procedure: its owner, its trial and the scrub -/

/-- A command whose meaning is known completes with that state. -/
theorem answers_of_eq {c : Instr} {P : State → Prop} (runs : exec c s = .next t) (means : t = o) (holds : P o) : Answers c s P :=
  ⟨t, runs, means ▸ holds⟩

theorem setUpdate_pat (s : State) (st r : Nat) : (s.setUpdate st r).pat = { s.pat with updState := st, updResult := r } := rfl

theorem setUpdate_state (s : State) (st r : Nat) : (s.setUpdate st r).rd F.PAT_UPD_STATUS_STATE = st % 2 ^ 4 := showUpdate_state _

theorem setUpdate_result (s : State) (st r : Nat) : (s.setUpdate st r).rd F.PAT_UPD_STATUS_RESULT = r % 2 ^ 4 := showUpdate_result _

theorem dropOwner_pat (s : State) : s.dropOwner.pat = { s.pat with updOwner := 0, updClient := 0 } := rfl

theorem dropOwner_state (s : State) : s.dropOwner.rd F.PAT_UPD_STATUS_STATE = s.pat.updState % 2 ^ 4 := showUpdate_state _

theorem dropOwner_owner (s : State) : s.dropOwner.rd F.PAT_UPD_STATUS_OWNER = 0 := showUpdate_owner _

/-- Ownership ends without a COMMIT: no owner, no client, the inactive slot empty (R49, R51). -/
theorem endUpdate_ends (s : State) :
    s.endUpdate.pat.updOwner = 0 ∧ s.endUpdate.pat.updClient = 0 ∧ (s.endUpdate.slotOf s.inactive).empty = true ∧
      s.endUpdate.rd F.PAT_UPD_STATUS_OWNER = 0 := by
  have slot : s.endUpdate.slotOf s.inactive = s.emptySlot.slotOf s.inactive := by
    simp only [State.slotOf, State.endUpdate, dropOwner_pat, setUpdate_pat]
  exact ⟨rfl, rfl, (congrArg Slot.empty slot).trans (emptySlot_empty s), dropOwner_owner _⟩

/-- It leaves the states of an update under way (R51). -/
theorem endUpdate_state (low : 1 ≤ s.pat.updState) (high : s.pat.updState ≤ 3) :
    s.endUpdate.pat.updState = 0 ∧ s.endUpdate.rd F.PAT_UPD_STATUS_STATE = 0 := by
  have idle : (if 1 ≤ s.pat.updState && s.pat.updState ≤ 3 then 0 else s.pat.updState) = 0 := if_pos (by simp [low, high])
  rw [State.endUpdate, idle]
  exact ⟨rfl, dropOwner_state _⟩

/-- A trial that ends waits for an active unit and resets any other with source UPDATE (R51). -/
theorem trialExpiry_active (trial : s.rdb F.PAT_STATUS_TRIAL = true) (active : s.active = true) :
    s.trialExpiry = { s with pat.expired := true } := by
  have active : ({ s with pat.expired := true } : State).active = true := active
  simp [State.trialExpiry, trial, active]

theorem trialExpiry_withdraws (trial : s.rdb F.PAT_STATUS_TRIAL = true) (active : s.active = false) :
    s.trialExpiry = ({ s with pat.expired := true } : State).withdraw 9 := by
  have active : ({ s with pat.expired := true } : State).active = false := active
  simp [State.trialExpiry, trial, active]

theorem trialLeft_expired (h : s.pat.expired = true) : s.trialLeft = 0 := by simp [State.trialLeft, h]

/-- A pass of the scrub that goes on (R54). -/
theorem scrubWord_equal (going : s.pat.scrubAt + 1 < s.pat.scrubLen) :
    s.scrubWord .equal = { s with pat.scrubAt := s.pat.scrubAt + 1 } := by
  simp [State.scrubWord, Nat.not_le.mpr going]

theorem scrubWord_sramFixed (going : s.pat.scrubAt + 1 < s.pat.scrubLen) :
    s.scrubWord .sramFixed = (({ s with pat.scrubAt := s.pat.scrubAt + 1 } : State).wr F.PAT_SCRUB_FIXED
      (s.rd F.PAT_SCRUB_FIXED + 1)).barAdd 0xA 1 := by
  simp [State.scrubWord, Nat.not_le.mpr going]
  rfl

/-- The last word of a pass counts it and the next begins (R54). -/
theorem scrubWord_mramFixed (last : s.pat.scrubLen ≤ s.pat.scrubAt + 1) :
    s.scrubWord .mramFixed = (({ s with pat.scrubAt := 0 } : State).wr F.PAT_SCRUB_PASSES (s.rd F.PAT_SCRUB_PASSES + 1)).barAdd 0xC 1 := by
  simp [State.scrubWord, last]

theorem barGet_barAdd (s : State) (id n : Nat) : (s.barAdd id n).barGet id = min (s.barGet id + n) (2 ^ barWidth id - 1) := by
  simp [State.barAdd, State.barGet]

theorem scrubWord_uncorrectable (awake : s.inLull = false) (stands : s.bar.withdrawing = none) :
    (s.scrubWord .uncorrectable).sys.startPending = some 4 ∧ (s.scrubWord .uncorrectable).bar.withdrawing = some 1 := by
  have advanced (t : State) (live : t.inLull = false) (bar : t.bar = s.bar) :
      t.memoryFault.sys.startPending = some 4 ∧ t.memoryFault.bar.withdrawing = some 1 := by
    rw [State.memoryFault, if_neg (by simp [live])]
    exact withdraw_resets (by rw [bar, stands])
  unfold State.scrubWord
  dsimp only
  split
  · exact advanced _ (by
      rw [State.inLull, State.rd_wr_ne _ (by decide)]
      exact awake) rfl
  · exact advanced _ awake rfl

/-- Settles O7: by the rule of each command's meaning. -/
theorem updateTimesAndScrub : Obligations.UpdateTimesAndScrub := by
  refine ⟨fun s owned => ?_, fun s trial _ active => ?_, fun s trial stands active => ?_, fun s expired active stands => ?_,
    fun s going => ?_, fun s going => ?_, fun s last => ?_, fun s awake stands => ?_⟩
  · refine answers_of_eq rfl (if_neg (by simpa using owned)) (endUpdate_ends s)
  · exact answers_of_eq rfl (trialExpiry_active trial active) ⟨rfl, trialLeft_expired rfl, rfl⟩
  · exact answers_of_eq rfl (trialExpiry_withdraws trial active) (withdraw_resets stands)
  · exact answers_of_eq rfl (if_pos (by simp [expired, active])) (withdraw_resets stands)
  · exact answers_of_eq rfl (scrubWord_equal going) rfl
  · exact answers_of_eq rfl (scrubWord_sramFixed going) ⟨State.rd_wr _ _ _, barGet_barAdd _ _ _, rfl⟩
  · exact answers_of_eq rfl (scrubWord_mramFixed last) ⟨rfl, State.rd_wr _ _ _, barGet_barAdd _ _ _⟩
  · exact ⟨_, rfl, scrubWord_uncorrectable awake stands⟩

/-! ### The commands of the update procedure -/

theorem Stays.setUpdate (hs : Stays ps reachUpdate o s) {st r} (hp : Part.pat ∈ ps := by decide) :
    Stays ps reachUpdate o (s.setUpdate st r) :=
  (hs.setPat hp).showUpdate

theorem Stays.dropOwner (hs : Stays ps reachUpdate o s) (hp : Part.pat ∈ ps := by decide) : Stays ps reachUpdate o s.dropOwner :=
  (hs.setPat hp).showUpdate

/-- OPEN takes ownership and marks the inactive slot empty (R49). -/
theorem patOpen_opens {side : Nat} (armed : s.pat.updState ≠ 4) (trial : s.pat.updState ≠ 5) :
    s.patOpen side = ({ s.emptySlot with pat.updOwner := (s.ownerCode side).1, pat.updClient := (s.ownerCode side).2 } : State).setUpdate 1
      s.pat.updResult := by
  simp [State.patOpen, armed, trial]

theorem ownerCode_eq (s : State) (side : Nat) :
    s.ownerCode side = (if side = 0 then 1 else 2, if side = 0 then 0 else s.clientOf side) := by
  by_cases h : side = 0
  · simp [State.ownerCode, h]
  · simp [State.ownerCode, h]

/-- The end of VERIFY shows the result of its checks (R49). -/
theorem verifyDone_shows {memOk : Bool} {r : Nat} (verifying : s.pat.updState = 2)
    (check : s.checkSlot (s.slotOf s.inactive) memOk (some (s.slotOf s.inactive).top) = r) :
    s.verifyDone memOk = s.setUpdate (if r = 0 then 3 else 1) r := by
  simp [State.verifyDone, verifying, check]

/-- The unit is armed and resets with source UPDATE (R49, R507). -/
theorem armReset_resets (s : State) :
    s.armReset.pat.updState = 4 ∧ s.armReset.pat.oneshot = s.inactive ∧ s.armReset.pat.slot = s.pat.slot ∧
      s.armReset.sys.startPending = some 7 ∧ s.armReset.sys.running = false := by
  obtain ⟨sys, -, pat⟩ := mainReset_kept ({ s.commitRecord s.inactive s.pat.slot with pat.updState := 4 } : State).announceLeave 7 true
  have left (t : State) : t.announceLeave.pat = t.pat := by
    unfold State.announceLeave
    split
    · rfl
    · rfl
  rw [left] at pat
  unfold State.armReset
  rw [pat, sys]
  exact ⟨rfl, rfl, rfl, rfl, rfl⟩

theorem patArm_resets {side : Nat} {single : Bool} (verified : s.pat.updState = 3) (safe : s.changesSafety = false ∨ s.safety side = true)
    (alone : single = true ∨ s.active = false) : s.patArm side single = s.armReset := by
  have safe : (s.changesSafety && !s.safety side) = false := by
    rcases safe with h | h
    · simp [h]
    · simp [h]
  have alone : (single || !s.active) = true := by
    rcases alone with h | h
    · simp [h]
    · simp [h]
  simp [State.patArm, verified, safe, alone]

theorem patArm_yields {side : Nat} (verified : s.pat.updState = 3) (safe : s.changesSafety = false ∨ s.safety side = true)
    (active : s.active = true) (ready : s.partnerReady = true) (formed : s.pair.formed = true) :
    s.patArm side false = s.startYield 1 := by
  have safe : (s.changesSafety && !s.safety side) = false := by
    rcases safe with h | h
    · simp [h]
    · simp [h]
  simp [State.patArm, verified, safe, active, ready, formed]

/-- What COMMIT in trial writes, before the first one enters BOUND (R51, R41). -/
def State.committed (s : State) : State :=
  let first := s.pat.boundOwner == 0
  (((({ s.commitRecord 0 s.runSlot with
    pat.svnMin := max s.pat.svnMin s.pat.runSvn
    pat.expired := false
    pat.boundOwner := if first then (s.slotOf s.runSlot).ownerId else s.pat.boundOwner
    pat.boundSite := if first then (s.slotOf s.runSlot).siteId else s.pat.boundSite } : State).wrb F.PAT_STATUS_TRIAL false).wrb
      F.PAT_STATUS_FALLBACK false).setUpdate 6 s.pat.updResult).dropOwner

theorem patCommit_eq {side : Nat} (state : s.pat.updState = 5) (trial : s.rdb F.PAT_STATUS_TRIAL = true) :
    s.patCommit side =
      if s.pat.boundOwner == 0 && s.committed.rd F.KEY_STATUS_LC == lcOpen then s.committed.changeLife lcBound false
      else s.committed := by
  unfold State.patCommit
  rw [if_neg (by simp [state, trial])]
  rfl

theorem committed_trial (s : State) : s.committed.rdb F.PAT_STATUS_TRIAL = false := by
  have shown (t : State) : Stays [.pat] reachUpdate t (t.setUpdate 6 s.pat.updResult).dropOwner := Stays.refl.setUpdate.dropOwner
  exact (shown _).rdb.trans ((State.rdb_wrb_ne _ (by decide) _).trans (State.rdb_wrb _ _ _ (by decide)))

theorem committed_life (s : State) : s.committed.rd F.KEY_STATUS_LC = s.rd F.KEY_STATUS_LC := by
  have shown (t : State) : Stays [.pat] reachUpdate t (t.setUpdate 6 s.pat.updResult).dropOwner := Stays.refl.setUpdate.dropOwner
  exact (shown _).rd.trans ((State.rd_wrb_ne _ (by decide) _).trans (State.rd_wrb_ne _ (by decide) _))

theorem committed_pat (s : State) : s.committed.pat = { s.pat with
    counter := (s.pat.counter + 1) % 2 ^ 32
    oneshot := 0
    slot := s.runSlot
    svnMin := max s.pat.svnMin s.pat.runSvn
    expired := false
    boundOwner := if s.pat.boundOwner == 0 then (s.slotOf s.runSlot).ownerId else s.pat.boundOwner
    boundSite := if s.pat.boundOwner == 0 then (s.slotOf s.runSlot).siteId else s.pat.boundSite
    updState := 6
    updOwner := 0
    updClient := 0 } := rfl

/-- A COMMIT of a bound unit (R51). -/
theorem patCommit_bound {side : Nat} (state : s.pat.updState = 5) (trial : s.rdb F.PAT_STATUS_TRIAL = true) (bound : s.pat.boundOwner ≠ 0) :
    s.patCommit side = s.committed := by
  rw [patCommit_eq state trial, if_neg (by simp [bound])]

/-- The first COMMIT binds the unit to the image's owner and site (R41, R374). -/
theorem patCommit_first {side : Nat} (state : s.pat.updState = 5) (trial : s.rdb F.PAT_STATUS_TRIAL = true) (unbound : s.pat.boundOwner = 0)
    (life : s.rd F.KEY_STATUS_LC = lcOpen) : s.patCommit side = s.committed.changeLife lcBound false := by
  rw [patCommit_eq state trial, if_pos (by simp [unbound, committed_life, life])]

/-- ABORT of an update under way leaves it without owner (R51). -/
theorem patAbort_ends {side : Nat} (high : s.pat.updState ≤ 3) (owned : s.pat.updOwner ≠ 0) : s.patAbort side = s.endUpdate := by
  have armed : s.pat.updState ≠ 4 := by omega
  have trial : s.pat.updState ≠ 5 := by omega
  simp [State.patAbort, armed, trial, owned]

/-- ABORT in trial ends the trial as its expiry does (R51). -/
theorem patAbort_active {side : Nat} (state : s.pat.updState = 5) (trial : s.rdb F.PAT_STATUS_TRIAL = true) (active : s.active = true) :
    s.patAbort side = { s with pat.expired := true } := by
  rw [← trialExpiry_active trial active]
  simp [State.patAbort, state]

theorem patAbort_withdraws {side : Nat} (state : s.pat.updState = 5) (trial : s.rdb F.PAT_STATUS_TRIAL = true)
    (active : s.active = false) : s.patAbort side = ({ s with pat.expired := true } : State).withdraw 9 := by
  rw [← trialExpiry_withdraws trial active]
  simp [State.patAbort, state]

/-- SEAL tells the partition (R46). -/
theorem patSeal_tells {side : Nat} (shore : side ≠ 0) (safe : s.safety side = true) (trial : s.rdb F.PAT_STATUS_TRIAL = false)
    (run : s.runSlot ≠ 0) (real : s.runSlot ≠ 3) (committed : s.runSlot = s.pat.slot) (life : s.rd F.KEY_STATUS_LC ≠ lcDebug) :
    s.patSeal side = s.toQ1 2 [] := by
  have run : s.pat.slot ≠ 0 := committed ▸ run
  have real : s.pat.slot ≠ 3 := committed ▸ real
  simp [State.patSeal, shore, safe, trial, run, real, committed, life]

theorem place_room {n : Nat} {x : QItem} (held : s.heldFor n = []) (room : (s.q n).length < s.depth n) :
    s.place n x = s.setQ n (s.q n ++ [x]) := by
  simp [State.place, held, room]

/-- SEAL places its message in Q1 where the queue has room for it. -/
theorem patSeal_places {side : Nat} (shore : side ≠ 0) (safe : s.safety side = true) (trial : s.rdb F.PAT_STATUS_TRIAL = false)
    (run : s.runSlot ≠ 0) (real : s.runSlot ≠ 3) (committed : s.runSlot = s.pat.slot) (life : s.rd F.KEY_STATUS_LC ≠ lcDebug)
    (held : s.heldFor 1 = []) (room : (s.q 1).length < s.depth 1) :
    s.patSeal side = s.setQ 1 (s.q 1 ++ [{ kind := 2, body := [] }]) :=
  (patSeal_tells shore safe trial run real committed life).trans (place_room held room)

theorem setQ_q (s : State) (n : Nat) (xs : List QItem)  : (s.setQ n xs).q n = xs := by
  have level := (Stays.queLevel (ps := []) (rs := [.all]) (s := { s with que.items := SMap.set (fun _ => []) n xs s.que.items }) .refl
    (n := n) (level := xs.length)).parts .que (by decide)
  rw [State.q, State.setQ, level]
  exact SMap.get_set_same _ _ _ _

theorem opened_update (s : State) (side : Nat) :
    (({ s.emptySlot with pat.updOwner := (s.ownerCode side).1, pat.updClient := (s.ownerCode side).2 } : State).setUpdate 1
      s.pat.updResult).slotOf s.inactive = s.emptySlot.slotOf s.inactive := by
  simp only [State.slotOf, setUpdate_pat]

/-- Settles O6: by what each command's meaning is under its conditions. -/
theorem updateProcedure : Obligations.UpdateProcedure := by
  refine ⟨fun side s awake own armed trial => ?_, fun side s awake own state => ?_, fun memOk r s verifying check _ => ?_,
    fun side s awake own verified safe rest => ?_, fun side s awake own verified safe active ready formed => ?_,
    fun side s awake own verified safe => ?_, fun side s awake own state trial bound => ?_,
    fun side s awake own state trial unbound life => ?_, fun side s awake own low high owned => ?_,
    fun side s awake own state trial _ active => ?_, fun side s awake own state trial stands rest => ?_,
    fun side s awake shore safe trial run real committed life held room => ?_⟩
  · refine answers_patCommand awake own rfl (fun hbi => patOpen_opens armed trial) fun hbi => ⟨rfl, setUpdate_state _ _ _, ?_, ?_, ?_⟩
    · exact (congrArg Slot.empty (opened_update { s with hbi := hbi } side)).trans (emptySlot_empty _)
    · exact congrArg Prod.fst (ownerCode_eq s side)
    · exact congrArg Prod.snd (ownerCode_eq s side)
  · refine answers_patCommand awake own rfl (fun hbi => if_pos (by simpa using state)) fun hbi => ⟨rfl, setUpdate_state _ _ _, rfl⟩
  · have small : r < 2 ^ 4 := by
      rw [← check]
      exact Nat.lt_of_le_of_lt (checkSlot_le ..) (by decide)
    refine answers_of_eq rfl (verifyDone_shows verifying check) ⟨rfl, (setUpdate_state _ _ _).trans ?_, rfl,
      (setUpdate_result _ _ _).trans (Nat.mod_eq_of_lt small)⟩
    split
    · rfl
    · rfl
  · exact answers_patCommand awake own rfl (fun hbi => patArm_resets verified safe (.inr rest)) fun hbi => armReset_resets _
  · exact answers_patCommand awake own rfl (fun hbi => patArm_yields verified safe active ready formed) fun hbi => ⟨rfl, rfl⟩
  · exact answers_patCommand awake own rfl (fun hbi => patArm_resets verified safe (.inl rfl)) fun hbi => armReset_resets _
  · refine answers_patCommand awake own rfl (fun hbi => patCommit_bound state trial bound) fun hbi => ?_
    rw [committed_pat]
    exact ⟨rfl, rfl, rfl, rfl, rfl, committed_trial _⟩
  · refine answers_patCommand awake own rfl (fun hbi => patCommit_first state trial unbound life) fun hbi => ?_
    obtain ⟨pat, lc⟩ := changeLife_bound ({ s with hbi := hbi } : State).committed
    rw [pat, lc, committed_pat]
    exact ⟨rfl, rfl, rfl, rfl, if_pos (by simp [unbound]), if_pos (by simp [unbound]), rfl⟩
  · refine answers_patCommand awake own rfl (fun hbi => patAbort_ends high owned) fun hbi => ?_
    obtain ⟨owner, client, slot, -⟩ := endUpdate_ends { s with hbi := hbi }
    obtain ⟨idle, shown⟩ := endUpdate_state (s := { s with hbi := hbi }) low high
    exact ⟨idle, owner, client, slot, shown⟩
  · exact answers_patCommand awake own rfl (fun hbi => patAbort_active state trial active)
      fun hbi => ⟨rfl, trialLeft_expired rfl, rfl⟩
  · exact answers_patCommand awake own rfl (fun hbi => patAbort_withdraws state trial rest)
      fun hbi => withdraw_resets stands
  · obtain ⟨hbi, accepts⟩ := command_accepts awake side patCmdAddr 0x5A7E fun s => s.patSeal side
    have told := patSeal_places (s := { s with hbi := hbi }) (side := side.val) (by simpa using shore) safe trial run real committed life held room
    refine answers_of_eq rfl (accepts.trans told) ⟨setQ_q _ _ _, ?_⟩
    exact (setQ_queOnly _ 1 _ (by decide)).pat

/-! ### The indirect window: its registers and what a side holds -/

theorem bank_key_ne {f g : Field} (side : Nat) (h : g.key ≠ f.key) : (g.bank side).key ≠ (f.bank side).key := by
  rw [Field.key, Field.key] at h
  rw [bank_key, bank_key]
  omega

theorem rd_bank_wr_ne (s : State) {f g : Field} (side v : Nat) (h : g.key ≠ f.key) :
    (s.wr (f.bank side) v).rd (g.bank side) = s.rd (g.bank side) := s.rd_wr_ne (bank_key_ne side h) v

theorem rdb_bank_wr_ne (s : State) {f g : Field} (side v : Nat) (h : g.key ≠ f.key) :
    (s.wr (f.bank side) v).rdb (g.bank side) = s.rdb (g.bank side) := s.rdb_wr_ne (bank_key_ne side h) v

theorem rd_bank_wrb_ne (s : State) {f g : Field} (side : Nat) (b : Bool) (h : g.key ≠ f.key) :
    (s.wrb (f.bank side) b).rd (g.bank side) = s.rd (g.bank side) := s.rd_wrb_ne (bank_key_ne side h) b

theorem rdb_bank_wrb_ne (s : State) {f g : Field} (side : Nat) (b : Bool) (h : g.key ≠ f.key) :
    (s.wrb (f.bank side) b).rdb (g.bank side) = s.rdb (g.bank side) := s.rdb_wrb_ne (bank_key_ne side h) b

@[simp] theorem rd_setSide (s : State) (k : Nat) (x : SideSt) (f : Field) : (s.setSide k x).rd f = s.rd f := (rfl)
@[simp] theorem rdb_setSide (s : State) (k : Nat) (x : SideSt) (f : Field) : (s.setSide k x).rdb f = s.rdb f := (rfl)
@[simp] theorem side_wr (s : State) (f : Field) (v k : Nat) : (s.wr f v).side k = s.side k := (rfl)
@[simp] theorem side_wrb (s : State) (f : Field) (b : Bool) (k : Nat) : (s.wrb f b).side k = s.side k := (rfl)

@[simp] theorem side_setSide (s : State) (k : Nat) (x : SideSt) : (s.setSide k x).side k = x := SMap.get_set_same _ _ _ _

theorem side_setSide_ne (s : State) {k j : Nat} (x : SideSt) (h : j ≠ k) : (s.setSide k x).side j = s.side j := SMap.get_set_ne _ h _ _

@[simp] theorem rd_accepted (s : State) (side : Nat) (f : Field) : (s.accepted side).rd f = s.rd f := by
  unfold State.accepted
  split
  · rfl
  · rfl

@[simp] theorem rdb_accepted (s : State) (side : Nat) (f : Field) : (s.accepted side).rdb f = s.rdb f := congrArg (· != 0) (rd_accepted s side f)

@[simp] theorem side_accepted (s : State) (side k : Nat) : (s.accepted side).side k = s.side k := by
  unfold State.accepted
  split
  · rfl
  · rfl

@[simp] theorem idxAddr_setReady (s : State) (side : Nat) (b : Bool) : (s.setReady side b).idxAddr side = s.idxAddr side :=
  rd_bank_wrb_ne s side b (by decide)
@[simp] theorem idxAddr_setWait (s : State) (side : Nat) (b : Bool) : (s.setWait side b).idxAddr side = s.idxAddr side :=
  rd_bank_wrb_ne s side b (by decide)
@[simp] theorem idxAddr_setSide (s : State) (side k : Nat) (x : SideSt) : (s.setSide k x).idxAddr side = s.idxAddr side := (rfl)
@[simp] theorem idxAddr_setPort (s : State) (side : Nat) (p : Option Nat) : (s.setPort side p).idxAddr side = s.idxAddr side :=
  rd_bank_wrb_ne _ side _ (by decide)
@[simp] theorem idxAddr_accepted (s : State) (side : Nat) : (s.accepted side).idxAddr side = s.idxAddr side := rd_accepted _ _ _

@[simp] theorem idxReady_setReady (s : State) (side : Nat) (b : Bool) : (s.setReady side b).idxReady side = b := s.rdb_wrb _ b Nat.one_pos
@[simp] theorem idxReady_setWait (s : State) (side : Nat) (b : Bool) : (s.setWait side b).idxReady side = s.idxReady side :=
  rdb_bank_wrb_ne s side b (by decide)
@[simp] theorem idxReady_setPort (s : State) (side : Nat) (p : Option Nat) : (s.setPort side p).idxReady side = s.idxReady side :=
  rdb_bank_wrb_ne _ side _ (by decide)

@[simp] theorem idxWait_setWait (s : State) (side : Nat) (b : Bool) : (s.setWait side b).idxWait side = b := s.rdb_wrb _ b Nat.one_pos
@[simp] theorem idxWait_setReady (s : State) (side : Nat) (b : Bool) : (s.setReady side b).idxWait side = s.idxWait side :=
  rdb_bank_wrb_ne s side b (by decide)
@[simp] theorem idxWait_setSide (s : State) (side k : Nat) (x : SideSt) : (s.setSide k x).idxWait side = s.idxWait side := (rfl)
@[simp] theorem idxWait_setPort (s : State) (side : Nat) (p : Option Nat) : (s.setPort side p).idxWait side = s.idxWait side :=
  rdb_bank_wrb_ne _ side _ (by decide)

@[simp] theorem side_setReady (s : State) (side k : Nat) (b : Bool) : (s.setReady side b).side k = s.side k := (rfl)
@[simp] theorem side_setWait (s : State) (side k : Nat) (b : Bool) : (s.setWait side b).side k = s.side k := (rfl)
@[simp] theorem side_setPort (s : State) (side : Nat) (p : Option Nat) : (s.setPort side p).side side = { s.side side with port := p } :=
  side_setSide _ _ _

theorem side_setPort_ne (s : State) {side k : Nat} (p : Option Nat) (h : k ≠ side) : (s.setPort side p).side k = s.side k := by
  rw [State.setPort, side_wrb, side_setSide_ne _ _ h]

/-- LOCKED shows whether the window holds a port (R85). -/
theorem locked_setPort (s : State) (side : Nat) (p : Option Nat) :
    (s.setPort side p).rdb (F.HBI_IDX_STATUS_LOCKED.bank side) = p.isSome := State.rdb_wrb _ _ _ Nat.one_pos

/-- Whether another window holds a port is a matter of the other sides. -/
theorem portHeld_congr {side p : Nat} (h : ∀ k, k ≠ side → t.side k = s.side k) : t.portHeld side p = s.portHeld side p := by
  refine congrArg (List.any (List.range 5)) (funext fun k => ?_)
  by_cases hk : k = side
  · simp [hk]
  · rw [h k hk]

/-! ### The window takes a port and turns to an address -/

/-- The window holds the port of its address, whose word is on its way (R84, R85). -/
structure Fetching (side a p : Nat) (t : State) : Prop where
  addr : t.idxAddr side = a
  port : (t.side side).port = some p
  fetching : (t.side side).fetching = true
  busy : t.idxReady side = false
  holds : t.idxWait side = false

/-- The window with its port, the fetch begun. -/
def State.fetchBegun (s : State) (side p : Nat) : State :=
  (((s.setPort side (some p)).setWait side false).setSide side { s.side side with port := some p, fetching := true }).setReady side false

theorem fetchBegun_fetching (s : State) (side p : Nat) : Fetching side (s.idxAddr side) p (s.fetchBegun side p) := by
  constructor <;> simp [State.fetchBegun]

/-- A window whose port is free takes it and fetches (R84, R85). -/
theorem idxLock_fetches {side p : Nat} (range : idxRange (s.idxAddr side) = some p) (read : p ≠ rSlot)
    (free : s.portHeld side p = false) (none : (s.side side).waitPost = none) : s.idxLock side = s.fetchBegun side p := by
  simp [State.idxLock, State.fetchBegun, range, free, none, read]

/-- A window whose port another window holds waits for it (R85). -/
theorem idxLock_waits {side p : Nat} (range : idxRange (s.idxAddr side) = some p) (held : s.portHeld side p = true) :
    s.idxLock side = ((s.setPort side none).setReady side false).setWait side true := by
  simp [State.idxLock, range, held]

theorem idxAddr_wr (s : State) (side : Nat) {a : Nat} (word : a < 2 ^ 32) : (s.wr (F.HBI_IDX_ADDR.bank side) a).idxAddr side = a := by
  rw [State.idxAddr, State.rd_wr, show (F.HBI_IDX_ADDR.bank side).width = 32 from rfl, Nat.mod_eq_of_lt word]

/-- A window that turns to an address takes the port of that address, or waits for it. -/
theorem idxGoto_locks (s : State) (side : Nat) {a : Nat} (word : a < 2 ^ 32) : ∃ u : State, s.idxGoto side a = u.idxLock side ∧
    u.idxAddr side = a ∧ (u.side side).waitPost = (s.side side).waitPost ∧ ∀ p, u.portHeld side p = s.portHeld side p := by
  unfold State.idxGoto
  extract_lets written x turned free
  have addr : turned.idxAddr side = a := (idxAddr_setSide written side side _).trans (idxAddr_wr s side word)
  have post : (turned.side side).waitPost = (s.side side).waitPost :=
    (congrArg SideSt.waitPost (show turned.side side = _ from side_setSide written side _)).trans rfl
  have others (k : Nat) (hk : k ≠ side) : turned.side k = s.side k := side_setSide_ne written _ hk
  clear_value turned
  refine ⟨free, rfl, ?_, ?_, fun p => portHeld_congr fun k hk => ?_⟩
  · exact (apply_ite (State.idxAddr · side) _ _ _).trans (by rw [idxAddr_setPort, ite_self, addr])
  · exact (apply_ite (fun u : State => (u.side side).waitPost) _ _ _).trans (by rw [side_setPort, ite_self, post])
  · exact (apply_ite (State.side · k) _ _ _).trans
      (by rw [side_setPort_ne _ _ hk, ite_self, others k hk])

theorem idxGoto_fetches {side a p : Nat} (word : a < 2 ^ 32) (range : idxRange a = some p) (read : p ≠ rSlot)
    (free : s.portHeld side p = false) (none : (s.side side).waitPost = none) : Fetching side a p (s.idxGoto side a) := by
  obtain ⟨u, means, addr, post, held⟩ := idxGoto_locks s side word
  rw [means, idxLock_fetches (by rw [addr, range]) read ((held p).trans free) (post.trans none)]
  exact addr ▸ fetchBegun_fetching u side p

theorem idxGoto_waits {side a p : Nat} (word : a < 2 ^ 32) (range : idxRange a = some p) (held : s.portHeld side p = true) :
    (s.idxGoto side a).idxAddr side = a ∧ ((s.idxGoto side a).side side).port = none ∧ (s.idxGoto side a).idxWait side = true ∧
      (s.idxGoto side a).idxReady side = false := by
  obtain ⟨u, means, addr, -, same⟩ := idxGoto_locks s side word
  rw [means, idxLock_waits (by rw [addr, range]) ((same p).trans held)]
  exact ⟨by simp [addr], by simp, by simp, by simp⟩

/-- The ranges of R83 lie within 28 bits. -/
theorem idxRange_small {a p : Nat} (range : idxRange a = some p) : a < 0x8040000 := by
  have within := List.find?_some range
  have bound : ∀ i, (idxRanges.getD i (1, 0)).2 < 0x8040000 := fun i =>
    match i with
    | 0 | 1 | 2 | 3 | 4 | 5 => by decide
    | _ + 6 => Nat.zero_lt_succ _
  exact Nat.lt_of_le_of_lt (by simpa using (Bool.and_eq_true_iff.mp within).2) (bound p)

/-- The addresses of the slot being written (R83). -/
theorem idxRange_slot {a : Nat} (range : idxRange a = some rSlot) : 0x1000000 ≤ a ∧ a ≤ 0x1BFFFFF := by
  have within := List.find?_some range
  simpa [rSlot, idxRanges] using within

/-! ### What each operation of the window does -/

/-- A write of HBI_IDX_ADDR that nothing holds up turns the window to its address (R84). -/
theorem idxAddrWrite_goes {side a p : Nat} (aligned : a % 4 = 0) (range : idxRange a = some p) (awake : s.inLull = false)
    (posted : (s.side side).posted = none) (waits : (s.side side).waitPost = none) :
    s.idxAddrWrite side a = (s.accepted side).idxGoto side a := by
  simp [State.idxAddrWrite, aligned, range, awake, posted, waits]

theorem portHeld_accepted (s : State) (side p : Nat) : (s.accepted side).portHeld side p = s.portHeld side p :=
  portHeld_congr fun k _ => side_accepted s side k

theorem portHeld_setPort (s : State) (side p : Nat) (q : Option Nat) : (s.setPort side q).portHeld side p = s.portHeld side p :=
  portHeld_congr fun _ hk => side_setPort_ne _ _ hk

theorem idxWord_window {side a : Nat} (window : a < 0x10000) : s.idxWord side a = (s.windowWord a, 0, s) := by
  simp [State.idxWord, window]

theorem idxFetchDone_ready {side : Nat} (fetching : (s.side side).fetching = true) :
    ((s.idxFetchDone side).side side).fetching = false ∧ (s.idxFetchDone side).idxReady side = true := by
  simp [State.idxFetchDone, fetching]

theorem idxFetchDone_word {side : Nat} (fetching : (s.side side).fetching = true) (window : s.idxAddr side < 0x10000) :
    (s.idxFetchDone side).rd (F.HBI_IDX_DATA.bank side) = s.windowWord (s.idxAddr side) % 2 ^ 32 := by
  simp only [State.idxFetchDone, fetching, idxWord_window window]
  exact (rd_bank_wrb_ne _ side _ (by decide)).trans (State.rd_wr _ _ _)

/-- A read of HBI_IDX_DATA that is not refused (R84). -/
theorem readIdxData_reads {side : Nat} (open_ : s.idxRefusal side = none) (sound : (s.side side).fetchErr = 0) :
    s.readIdxData side = (if s.rdb (F.HBI_IDX_CTRL_INC.bank side) then (s.accepted side).idxAdvance side true else s.accepted side).drive side
      (s.rd (F.HBI_IDX_DATA.bank side)) := by
  simp [State.readIdxData, State.idxDataRead, open_, sound]

theorem idxAdvance_goes {side p : Nat} (range : idxRange (s.idxAddr side) = some p) (more : idxRange (s.idxAddr side + 4) = some p) :
    s.idxAdvance side true = s.idxGoto side (s.idxAddr side + 4) := by
  simp [State.idxAdvance, range, more]

theorem rd_drive (s : State) (side v : Nat) (f : Field) : (s.drive side v).rd f = s.rd f := by
  unfold State.drive
  split
  · rfl
  · rfl

theorem side_drive (s : State) (side v k : Nat) : (s.drive side v).side k = s.side k := by
  unfold State.drive
  split
  · rfl
  · rfl

theorem Fetching.drive {side a p v : Nat} (h : Fetching side a p s) : (s.drive side v).idxAddr side = a ∧
    ((s.drive side v).side side).fetching = true :=
  ⟨(rd_drive _ _ _ _).trans h.addr, (congrArg SideSt.fetching (side_drive _ _ _ _)).trans h.fetching⟩

theorem slotOf_setSlot (s : State) (n : Nat) (x : Slot) : (s.setSlot n x).slotOf n = x := by
  unfold State.setSlot State.slotOf
  split
  · rfl
  · rfl

theorem slotOf_setUpdate (s : State) (st r n : Nat) : (s.setUpdate st r).slotOf n = s.slotOf n := rfl

/-- A slot write puts its word into the inactive slot (R49). -/
theorem slotWrite_word (s : State) (off v : Nat) :
    SMap.get (fun _ => 0) ((s.slotWrite off v).slotOf s.inactive).mem (off / 4) = v := by
  unfold State.slotWrite
  extract_lets x written
  have word : SMap.get (fun _ => 0) (written.slotOf s.inactive).mem (off / 4) = v := by
    rw [show written.slotOf s.inactive = _ from slotOf_setSlot _ _ _]
    exact SMap.get_set_same _ _ _ _
  split
  · exact word
  · exact word

/-- A slot word of the update's owner is posted and written (R49, R84). -/
theorem idxPost_slot {side v : Nat} (range : idxRange (s.idxAddr side) = some rSlot) (allowed : s.slotRefusal side = none) :
    s.idxPost side v = ((((((s.slotWrite (s.idxAddr side - 0x1000000) v).accepted side).setSide side
      { (s.slotWrite (s.idxAddr side - 0x1000000) v).side side with posted := some (s.idxAddr side, v) }).wr
      (F.HBI_IDX_DATA.bank side) v).setReady side false)) := by
  obtain ⟨low, high⟩ := idxRange_slot range
  have slot : s.idxAddr side / 0x1000000 = 1 := by omega
  simp [State.idxPost, slot, allowed]

theorem slotRefusal_setPort (s : State) (side : Nat) (p : Option Nat) : (s.setPort side p).slotRefusal side = s.slotRefusal side := by
  have kept : (s.setPort side p).inLull = s.inLull := by
    rw [State.inLull, State.inLull, State.setPort, State.rd_wrb_ne]
    · rfl
    · rw [bank_key, Field.key]
      simp only [F.CLK_LULL_STATUS_STATE, F.HBI_IDX_STATUS_LOCKED, bankStride]
      omega
  have code : (s.setPort side p).ownerCode side = s.ownerCode side := rfl
  rw [State.slotRefusal, kept, State.foreignOwner, code]
  rfl

theorem inactive_setPort (s : State) (side : Nat) (p : Option Nat) : (s.setPort side p).inactive = s.inactive := rfl

theorem slotOf_congr {n : Nat} (h : t.pat = s.pat) : t.slotOf n = s.slotOf n := by
  rw [State.slotOf, State.slotOf, h]

theorem pat_setReady (s : State) (side : Nat) (b : Bool) : (s.setReady side b).pat = s.pat := rfl

theorem pat_setSide (s : State) (k : Nat) (x : SideSt) : (s.setSide k x).pat = s.pat := rfl

theorem pat_accepted (s : State) (side : Nat) : (s.accepted side).pat = s.pat := by
  unfold State.accepted
  split
  · rfl
  · rfl

/-- The state that a posted slot word leaves (R49, R84). -/
theorem idxPost_posts {side v : Nat} (range : idxRange (s.idxAddr side) = some rSlot) (allowed : s.slotRefusal side = none) :
    ((s.idxPost side v).side side).posted = some (s.idxAddr side, v) ∧ (s.idxPost side v).idxReady side = false ∧
      SMap.get (fun _ => 0) ((s.idxPost side v).slotOf s.inactive).mem ((s.idxAddr side - 0x1000000) / 4) = v := by
  have word := slotWrite_word s (s.idxAddr side - 0x1000000) v
  rw [idxPost_slot range allowed]
  generalize s.slotWrite (s.idxAddr side - 0x1000000) v = written at word ⊢
  refine ⟨by simp, idxReady_setReady _ _ _, ?_⟩
  rw [slotOf_congr (pat_setReady _ _ _), slotOf_congr (State.wr_pat _ _ _), slotOf_congr (pat_setSide _ _ _),
    slotOf_congr (pat_accepted _ _)]
  exact word

/-- A write of HBI_IDX_DATA into the slot range (R84, R85). -/
theorem idxDataWrite_posts {side v : Nat} (open_ : s.idxRefusal side = none) (range : idxRange (s.idxAddr side) = some rSlot)
    (free : s.portHeld side rSlot = false) : s.idxDataWrite side v = (s.setPort side (some rSlot)).idxPost side v := by
  simp [State.idxDataWrite, open_, range, free]

/-- The target's answer without the auto-increment (R84). -/
theorem idxPostDone_ready {side : Nat} {x : Nat × Nat} (posted : (s.side side).posted = some x) (next : (s.side side).nextAddr = none)
    (inc : s.rdb (F.HBI_IDX_CTRL_INC.bank side) = false) :
    s.idxPostDone side = (s.setSide side { s.side side with posted := none }).setReady side true := by
  have off (x : SideSt) : ((s.setSide side x).setReady side true).rdb (F.HBI_IDX_CTRL_INC.bank side) = false :=
    (rdb_bank_wrb_ne _ side _ (by decide)).trans inc
  simp [State.idxPostDone, posted, next, off]

/-- What a read leaves without the auto-increment (R84). -/
theorem drive_accepted (s : State) (v : Nat) : ((s.accepted 0).drive 0 v).hbi.data = v ∧ ((s.accepted 0).drive 0 v).hbi.errN = false :=
  ⟨rfl, rfl⟩

/-- Settles O10: by what each operation of the window does. -/
theorem indirectWindow : Obligations.IndirectWindow := by
  refine ⟨fun side addr p s aligned range read awake posted waits free => ?_, fun side addr p s aligned range awake posted waits held => ?_,
    fun side s fetching => ?_, fun side s open_ sound inc => ?_, fun side p s open_ sound inc range more read waits free => ?_,
    fun side value s open_ range free allowed => ?_, fun side x s posted next inc => ?_, fun side s => ?_, fun side s ready => ?_,
    fun side p s wait range read free waits => ?_⟩
  · refine answers_of_eq rfl (idxAddrWrite_goes aligned range awake posted waits) ?_
    obtain ⟨addr, port, fetching, busy, holds⟩ := idxGoto_fetches (s := s.accepted side) addr.isLt range read
      ((portHeld_accepted _ _ _).trans free) ((congrArg SideSt.waitPost (side_accepted _ _ _)).trans waits)
    exact ⟨addr, port, fetching, busy, holds⟩
  · exact answers_of_eq rfl (idxAddrWrite_goes aligned range awake posted waits)
      (idxGoto_waits addr.isLt range ((portHeld_accepted _ _ _).trans held))
  · obtain ⟨done, ready⟩ := idxFetchDone_ready fetching
    exact ⟨_, rfl, done, ready, idxFetchDone_word fetching⟩
  · refine answers_of_eq rfl (readIdxData_reads open_ sound) ?_
    rw [if_neg (by simp [inc])]
    refine ⟨(rd_drive _ _ _ _).trans (rd_accepted _ _ _), fun host => ?_⟩
    subst host
    exact drive_accepted s _
  · refine answers_of_eq rfl (readIdxData_reads open_ sound) ?_
    have small := idxRange_small more
    rw [if_pos inc, idxAdvance_goes (by rwa [idxAddr_accepted]) (by rwa [idxAddr_accepted]), idxAddr_accepted]
    exact (idxGoto_fetches (s := s.accepted side) (by omega) more read ((portHeld_accepted _ _ _).trans free)
      ((congrArg SideSt.waitPost (side_accepted _ _ _)).trans waits)).drive
  · have addr := idxAddr_setPort s side (some rSlot)
    refine answers_of_eq rfl (idxDataWrite_posts open_ range free) ?_
    rw [← addr, ← inactive_setPort s side (some rSlot)]
    exact idxPost_posts (by rwa [addr]) ((slotRefusal_setPort _ _ _).trans allowed)
  · refine answers_of_eq rfl (idxPostDone_ready posted next inc) ⟨?_, idxReady_setReady _ _ _, ?_⟩
    · rw [side_setReady, side_setSide]
    · rw [idxAddr_setReady, idxAddr_setSide]
  · refine ⟨_, rfl, congrArg SideSt.port (side_setPort _ _ _), ?_, locked_setPort _ _ _, ?_, ?_⟩
    · exact (idxWait_setPort _ _ _).trans (rdb_accepted _ _ _)
    · exact (idxAddr_setPort _ _ _).trans (rd_accepted _ _ _)
    · exact (idxReady_setPort _ _ _).trans (rdb_accepted _ _ _)
  · refine answers_of_eq rfl (if_pos ready) ⟨congrArg SideSt.port (side_setPort _ _ _), locked_setPort _ _ _, idxAddr_setPort _ _ _⟩
  · refine answers_of_eq rfl ((if_pos wait).trans (idxLock_fetches range read free waits)) ?_
    obtain ⟨-, port, fetching, -, holds⟩ := fetchBegun_fetching s side p
    exact ⟨holds, port, fetching⟩

/-! ### The journal of the partition -/

/-- Registers that a journal record may change: the warning of a journal that fills, with its event. -/
def reachRecord : List Reach := .cell F.BIL_EVENT_JRNL_LOW :: reachEvent

/-- A record goes to the journal and the mailbox counts on (R361, R364). -/
structure Recorded (s t : State) : Prop where
  frame : Stays [.bil, .que, .trg] reachRecord s t
  lastSeq : t.bil.lastSeq = s.bil.lastSeq

theorem Recorded.met (h : Recorded s t) : t.met = s.met := h.frame.parts .met (by decide)

theorem Recorded.pat (h : Recorded s t) : t.pat = s.pat := h.frame.parts .pat (by decide)

theorem Recorded.refl (s : State) : Recorded s s := ⟨.refl, rfl⟩

theorem Recorded.trans {u : State} (h : Recorded s t) (k : Recorded t u) : Recorded s u :=
  ⟨h.frame.trans k.frame, k.lastSeq.trans h.lastSeq⟩

theorem Recorded.setBil (h : Recorded s t) {bil : Bil} (hb : bil.lastSeq = t.bil.lastSeq := by rfl) : Recorded s { t with bil := bil } :=
  ⟨h.frame.setBil, hb.trans h.lastSeq⟩

theorem Recorded.wrb (h : Recorded s t) {f b} (hf : Holds reachRecord f := by rfl) : Recorded s (t.wrb f b) := ⟨h.frame.wrb hf, h.lastSeq⟩

theorem Recorded.event (h : Recorded s t) {code arg} : Recorded s (t.event code arg) :=
  ⟨h.frame.event (hr := by simp [reachRecord]), (congrArg Bil.lastSeq (event_eventOnly t code arg).bil).trans h.lastSeq⟩

theorem Recorded.ite {c : Prop} {_ : Decidable c} {u : State} (h : Recorded s t) (k : Recorded s u) :
    Recorded s (if c then t else u) := by
  split
  · exact h
  · exact k

theorem jrnlWrite_recorded (s : State) (typ flags ledger cal : Nat) (body : List Nat) :
    Recorded s (s.jrnlWrite typ flags ledger cal body).1 := by
  unfold State.jrnlWrite
  extract_lets n free held allowed was seq calMs
  generalize (if allowed then s.placeFor n else none) = place
  cases place with
  | none => exact .refl s
  | some i =>
    have stored := (Recorded.refl s).setBil
    exact .ite stored.setBil.wrb.event stored.setBil

theorem stepRecord_recorded (s : State) (old new oldStep newStep origin client flags : Nat) :
    Recorded s (s.stepRecord old new oldStep newStep origin client flags) := jrnlWrite_recorded _ _ _ _ _ _

theorem sessionRecord_recorded (s : State) (extra : Nat) :
    Recorded { s with met.tot.sess.awaiting := false } (s.sessionRecord extra) := jrnlWrite_recorded _ _ _ _ _ _

theorem trySession_lastSeq (s : State) (timeout : Bool) : (s.trySession timeout).bil.lastSeq = s.bil.lastSeq := by
  unfold State.trySession
  split
  · exact (sessionRecord_recorded s 0).lastSeq
  · rfl

/-- Of the meter a session's record changes only that the session awaits it no more (R329). -/
theorem trySession_met (s : State) (timeout : Bool) :
    (s.trySession timeout).met = { s.met with tot.sess.awaiting := (s.trySession timeout).met.tot.sess.awaiting } := by
  unfold State.trySession
  split
  · rw [(sessionRecord_recorded s 0).met]
  · rfl

/-! ### Messages of the mailbox -/

/-- A message with a good CRC and the next sequence number is accepted (R341). -/
theorem mailbox_accepts {seq : Nat} {f : State → State} (running : s.met.running = true) (next : seq = (s.bil.lastSeq + 1) % 65536) :
    s.mailbox seq true f = f { s with bil.lastSeq := seq } := by
  simp [State.mailbox, running, ← next]

/-- A message with a wrong CRC is only counted (R341). -/
theorem mailbox_refuses {seq : Nat} {f : State → State} (running : s.met.running = true) :
    s.mailbox seq false f = s.inc F.BIL_MBX_REFUSED := by
  simp [State.mailbox, running]

/-- An accepted message has its effect on the state that has counted it. -/
theorem answers_mailbox {c : Instr} {P : State → Prop} {seq : Nat} {f : State → State} (running : s.met.running = true)
    (next : seq = (s.bil.lastSeq + 1) % 65536) (runs : exec c s = .next (s.mailbox seq true f))
    (holds : P (f { s with bil.lastSeq := seq })) : Answers c s P :=
  ⟨_, runs, (mailbox_accepts running next).symm ▸ holds⟩

/-- An offered chunk changes only what is noted of the offer: the sealed copy stands (R45). -/
theorem offerChunk_notes (s : State) (inst offset : Nat) (bytes : List Nat) :
    ∃ noted, s.offerChunk inst offset bytes = { s with bil.offerDiffers := noted } := by
  unfold State.offerChunk
  split
  · exact ⟨s.bil.offerDiffers, rfl⟩
  · exact ⟨_, rfl⟩

theorem contains_noted (noted : List Nat) (inst : Nat) : (if noted.contains inst then noted else inst :: noted).contains inst = true := by
  split
  · assumption
  · simp

/-- A chunk that differs from the sealed copy is noted (R45). -/
theorem offerChunk_differs {inst offset : Nat} {bytes held : List Nat} (found : s.pat.sealed.find? (·.1 == inst) = some (inst, held))
    (differs : (held.drop offset).take bytes.length ≠ bytes) : (s.offerChunk inst offset bytes).bil.offerDiffers.contains inst = true := by
  rw [State.offerChunk, found]
  dsimp only
  rw [beq_eq_false_iff_ne.mpr differs, Bool.false_or]
  exact contains_noted _ _

/-- A first chunk that is the sealed copy's own begins the comparison anew (R45). -/
theorem offerChunk_same {inst : Nat} {bytes held : List Nat} (found : s.pat.sealed.find? (·.1 == inst) = some (inst, held))
    (same : held.take bytes.length = bytes) : (s.offerChunk inst 0 bytes).bil.offerDiffers.contains inst = false := by
  rw [State.offerChunk, found]
  dsimp only
  rw [List.drop_zero, beq_iff_eq.mpr same, Bool.true_or, if_pos rfl]
  simp

/-! ### Sealing -/

/-- What sealing keeps, and that it takes nothing away (R46). -/
structure SealedMore (s t : State) : Prop where
  lastSeq : t.bil.lastSeq = s.bil.lastSeq
  content : t.pat.content = s.pat.content
  addr : t.addr = s.addr
  held : ∀ e ∈ s.pat.sealed, e ∈ t.pat.sealed

theorem SealedMore.refl (s : State) : SealedMore s s := ⟨rfl, rfl, rfl, fun _ => id⟩

theorem SealedMore.trans {u : State} (h : SealedMore s t) (k : SealedMore t u) : SealedMore s u :=
  ⟨k.lastSeq.trans h.lastSeq, k.content.trans h.content, k.addr.trans h.addr, fun e he => k.held e (h.held e he)⟩

theorem SealedMore.has (h : SealedMore s t) {inst : Nat} (taken : s.pat.sealed.any (·.1 == inst) = true) :
    t.pat.sealed.any (·.1 == inst) = true := by
  obtain ⟨e, he, named⟩ := List.any_eq_true.mp taken
  exact List.any_eq_true.mpr ⟨e, h.held e he, named⟩

theorem Recorded.sealedMore (h : Recorded s t) : SealedMore s t :=
  ⟨h.lastSeq, by rw [h.pat], h.frame.live _ rfl, by simp [h.pat]⟩

/-- A section is sealed once (R46). -/
theorem sealOne_seals (s : State) (d : SelvedgeDecl) :
    SealedMore s (s.sealOne d) ∧ (s.sealOne d).pat.sealed.any (·.1 == d.instance_) = true := by
  unfold State.sealOne
  split
  next taken => exact ⟨.refl s, taken⟩
  next =>
    have taken : SealedMore s { s with pat.sealed := s.pat.sealed ++ [(d.instance_, d.bytes)] } :=
      ⟨rfl, rfl, rfl, fun _ he => List.mem_append_left _ he⟩
    have recorded := fun flags ledger cal body =>
      jrnlWrite_recorded { s with pat.sealed := s.pat.sealed ++ [(d.instance_, d.bytes)] } 5 flags ledger cal body
    exact ⟨taken.trans (recorded _ _ _ _).sealedMore, (recorded _ _ _ _).sealedMore.has (by simp)⟩

theorem sealAll_seals (ds : List SelvedgeDecl) (s : State) : SealedMore s (ds.foldl State.sealOne s) ∧
    ∀ d ∈ ds, (ds.foldl State.sealOne s).pat.sealed.any (·.1 == d.instance_) = true := by
  induction ds generalizing s with
  | nil => exact ⟨.refl s, by simp⟩
  | cons d ds ih =>
    obtain ⟨one, taken⟩ := sealOne_seals s d
    obtain ⟨rest, others⟩ := ih (s.sealOne d)
    refine ⟨one.trans rest, fun e he => ?_⟩
    rcases List.mem_cons.mp he with rfl | he
    · exact rest.has taken
    · exact others e he

/-- UNSEALED_ROLE is clear when every selected section is sealed (R46, R47). -/
theorem showSealed_role (all : ∀ d ∈ s.pat.content.selvedge, s.selected.contains d.instance_ = true →
    s.pat.sealed.any (·.1 == d.instance_) = true) : s.showSealed.rdb F.PAT_STATUS_UNSEALED_ROLE = false := by
  refine (State.rdb_wrb _ _ _ (by decide)).trans (List.any_eq_false.mpr fun d hd => ?_)
  obtain ⟨among, chosen⟩ := List.mem_filter.mp hd
  simp [all d among chosen]

/-- MBX_SEAL leaves every selected section sealed and takes none away (R46). -/
theorem sealSelected_seals (s : State) :
    let t := ((s.pat.content.selvedge.filter fun d => s.selected.contains d.instance_).foldl State.sealOne s).showSealed
    t.bil.lastSeq = s.bil.lastSeq ∧
      (∀ d ∈ s.pat.content.selvedge, s.selected.contains d.instance_ = true → t.pat.sealed.any (·.1 == d.instance_) = true) ∧
      t.rdb F.PAT_STATUS_UNSEALED_ROLE = false ∧ ∀ e ∈ s.pat.sealed, e ∈ t.pat.sealed := by
  obtain ⟨more, all⟩ := sealAll_seals (s.pat.content.selvedge.filter fun d => s.selected.contains d.instance_) s
  generalize (s.pat.content.selvedge.filter fun d => s.selected.contains d.instance_).foldl State.sealOne s = t at more all ⊢
  have chosen : t.selected = s.selected := by rw [State.selected, State.selected, more.content, more.addr]
  have taken (d : SelvedgeDecl) (among : d ∈ s.pat.content.selvedge) (picked : s.selected.contains d.instance_ = true) :=
    all d (List.mem_filter.mpr ⟨among, picked⟩)
  refine ⟨more.lastSeq, taken, showSealed_role fun d among picked => taken d ?_ ?_, more.held⟩
  · rwa [← more.content]
  · rwa [← chosen]

/-! ### The partition's calendar -/

/-- A CAL message within 100 ms of the running calendar is adopted (R344). -/
theorem calMessage_adopts {tick calMs step : Nat} {proven : Bool} (set : s.met.tot.clock ≠ 2) (same : step % 256 = s.met.tot.stepCount)
    (near : ((8 * calMs : Nat) - ((s.met.tot.cal : Int) + tick - s.met.tot.ledger)).natAbs ≤ 800) :
    s.calMessage tick calMs proven step = s.adoptCal (((8 * calMs : Nat) : Int) + s.met.tot.ledger - tick).toNat proven step := by
  rw [Nat.cast_mul, Nat.cast_ofNat] at near ⊢
  simp only [State.calMessage]
  rw [if_pos (by simpa [set, same] using near)]

/-- One farther off without a step is a mismatch, and the clock is unproven (R344). -/
theorem calMessage_mismatch {tick calMs step : Nat} {proven : Bool} (set : s.met.tot.clock ≠ 2) (same : step % 256 = s.met.tot.stepCount)
    (far : ((8 * calMs : Nat) - ((s.met.tot.cal : Int) + tick - s.met.tot.ledger)).natAbs > 800) :
    s.calMessage tick calMs proven step =
      (({ s with bil.mismatch := true, met.tot.clock := 1 } : State).wrb F.BIL_EVENT_MISMATCH true).event (evCode 7 2 2) 0 := by
  rw [Nat.cast_mul, Nat.cast_ofNat] at far
  simp only [State.calMessage]
  rw [if_neg (by simpa [set, same] using far), if_neg (by simp [set, same])]

/-- The first CAL message of a lost clock is a step (R344, R345). -/
theorem calMessage_steps {tick calMs step : Nat} {proven : Bool} (lost : s.met.tot.clock = 2) :
    ∃ t, Recorded ((s.adoptCal (((8 * calMs : Nat) : Int) + s.met.tot.ledger - tick).toNat proven step).wrb F.BIL_EVENT_TIME_STEP true) t ∧
      (s.calMessage tick calMs proven step = t ∨ s.calMessage tick calMs proven step = t.closeAtTick true) := by
  rw [Nat.cast_mul, Nat.cast_ofNat]
  simp only [State.calMessage]
  rw [if_neg (by simp [lost]), if_pos (by simp [lost])]
  split
  · exact ⟨_, stepRecord_recorded _ _ _ _ _ _ _ _, .inr rfl⟩
  · exact ⟨_, stepRecord_recorded _ _ _ _ _ _ _ _, .inl rfl⟩

/-- Settles O41: by what each kind of message does to the state that has counted it. -/
theorem mailboxMessages : Obligations.MailboxMessages := by
  refine ⟨fun seq inst bytes held s running next found => answers_mailbox running next rfl ?_,
    fun seq inst offset bytes held s running next found differs => answers_mailbox running next rfl ?_,
    fun seq inst offset bytes s running => answers_of_eq rfl (mailbox_refuses running) ⟨rfl, State.rd_inc _ _ _⟩,
    fun seq s running next => answers_mailbox running next rfl ?_,
    fun seq tick calMs proven step s running next set same near => answers_of_eq rfl ((mailbox_accepts running next).trans
      (calMessage_adopts (s := { s with bil.lastSeq := seq }) set same near)) ⟨rfl, rfl, rfl, rfl, rfl⟩,
    fun seq tick calMs proven step s running next set same far => answers_of_eq rfl ((mailbox_accepts running next).trans
      (calMessage_mismatch (s := { s with bil.lastSeq := seq }) set same far)) ?_,
    fun seq tick calMs proven step s running next lost => answers_mailbox running next rfl ?_,
    fun seq close sid time source s running next => answers_mailbox running next rfl ⟨rfl, rfl⟩,
    fun seq imp exp complete unbooked closed s running next => answers_mailbox running next rfl ?_,
    fun seq weight s running next site => answers_mailbox running next rfl ?_,
    fun seq weight s running next site sync past unset => answers_mailbox running next rfl ?_,
    fun seq xchk s running next => answers_mailbox running next rfl ⟨rfl, rfl, rfl⟩,
    fun seq holder record s running next => answers_mailbox running next rfl ⟨rfl, ?_, ?_⟩,
    fun seq start phase s running next => answers_mailbox running next rfl ⟨rfl, rfl, rfl⟩,
    fun seq offset bytes s running next => answers_mailbox running next rfl ⟨rfl, rfl⟩⟩
  · obtain ⟨noted, means⟩ := offerChunk_notes { s with bil.lastSeq := seq } inst 0 bytes
    refine ⟨by rw [means], ?_, by rw [means]⟩
    by_cases same : held.take bytes.length = bytes
    · exact (offerChunk_same (s := { s with bil.lastSeq := seq }) found same).trans (by simp [same])
    · exact (offerChunk_differs (s := { s with bil.lastSeq := seq }) found same).trans (by simp [same])
  · obtain ⟨noted, means⟩ := offerChunk_notes { s with bil.lastSeq := seq } inst offset bytes
    exact ⟨by rw [means], offerChunk_differs (s := { s with bil.lastSeq := seq }) found differs, by rw [means]⟩
  · exact sealSelected_seals { s with bil.lastSeq := seq }
  · have kept := event_frame (({ s with bil.lastSeq := seq, bil.mismatch := true, met.tot.clock := 1 } : State).wrb F.BIL_EVENT_MISMATCH true)
      (evCode 7 2 2) 0
    have bil := kept.parts .bil (by decide)
    have met := kept.parts .met (by decide)
    exact ⟨congrArg Bil.lastSeq bil, congrArg (·.tot.clock) met, congrArg Bil.mismatch bil, congrArg (·.tot.cal) met,
      (Stays.rdb kept).trans (State.rdb_wrb _ _ _ (by decide))⟩
  · obtain ⟨t, recorded, means⟩ := calMessage_steps (s := { s with bil.lastSeq := seq }) (tick := tick) (calMs := calMs) (step := step)
      (proven := proven) lost
    have shown : t.rdb F.BIL_EVENT_TIME_STEP = true := recorded.frame.rdb.trans (State.rdb_wrb _ _ _ (by decide))
    have held : t.bil.lastSeq = seq ∧ t.met.tot.cal = (((8 * calMs : Nat) : Int) + s.met.tot.ledger - tick).toNat ∧
        t.met.tot.stepCount = step % 256 ∧ t.met.tot.clock = (if proven then 0 else 1) ∧ t.rdb F.BIL_EVENT_TIME_STEP = true := by
      rw [recorded.met]
      exact ⟨recorded.lastSeq, rfl, rfl, rfl, shown⟩
    rcases means with means | means
    · exact means ▸ held
    · exact means ▸ held
  · refine ⟨trySession_lastSeq _ false, ?_⟩
    rw [trySession_met]
    exact ⟨rfl, rfl, rfl, rfl, rfl, rfl⟩
  · rw [if_neg (by simp [site]), if_pos (by simp)]
    exact ⟨rfl, rfl, SMap.get_set_same _ _ _ _⟩
  · rw [if_neg (by simp [site]), if_neg (by simp), if_pos (Bool.and_eq_true_iff.mpr ⟨by exact sync, by exact decide_eq_true past⟩)]
    refine ⟨rfl, ?_, rfl⟩
    simp [State.closeAtTick, unset]
  · intro r hr named
    obtain ⟨old, -, rfl⟩ := List.mem_map.mp hr
    split
    · simp
    next acked =>
      rw [if_neg acked] at named
      simpa [named] using acked
  · simp only [List.map_map]
    refine List.map_congr_left fun r _ => ?_
    dsimp only [Function.comp]
    split
    · rfl
    · rfl

/-- An operation with a frame of its own, of closed lists of parts and registers that lie within. -/
theorem Stays.run (h : Stays ps rs o s) (k : Stays qs os s t) (hp : ∀ p ∈ qs, p ∈ ps := by decide) (hr : covers rs os = true := by decide) :
    Stays ps rs o t := h.covered k hp hr

/-! ### Half-bridges held and let go -/

/-- Registers that a hold of a half-bridge changes (R234). -/
def reachHold : List Reach := reachEdge ++ ([.family (F.GDI_HB_STATUS_HELD_OFF 0)] : List Reach)

/-- Registers that a half-bridge changes when it is let go (R232 to R234). -/
def reachFollow : List Reach := reachHold ++ ([.family (F.GDI_HB_OMIT 0)] : List Reach)

theorem reachHold_bridge (h : Fin 12) : Holds reachHold (F.GDI_HB_STATUS_HELD_OFF h) := by
  revert h
  decide

theorem reachFollow_bridge (h : Fin 12) : Holds reachFollow (F.GDI_HB_STATUS_HELD_OFF h) ∧ Holds reachFollow (F.GDI_HB_OMIT h) := by
  revert h
  decide

theorem hold_frame {h : Nat} {who : Holder} (hh : h < 12) : Stays [.gd] reachHold s (s.hold h who) :=
  (Stays.refl.setGd.run (hbOff_frame hh)).wrb (reachHold_bridge ⟨h, hh⟩)

theorem cancelWait_frame {h : Nat} (hh : h < 12) : Stays [.gd] reachFollow s (s.cancelWait h) := by
  unfold State.cancelWait
  split
  · exact .refl
  · exact Stays.refl.setGd.inc (reachFollow_bridge ⟨h, hh⟩).2

theorem cancelUnless_frame {h : Nat} {high low : Bool} (hh : h < 12) : Stays [.gd] reachFollow s
    (match (s.hb h).waiting with
      | some .high => if high then s else s.cancelWait h
      | some .low => if low then s else s.cancelWait h
      | none => s) := by
  split
  · exact .ite .refl (cancelWait_frame hh)
  · exact .ite .refl (cancelWait_frame hh)
  · exact .refl

theorem follow_frame {h : Nat} (hh : h < 12) : Stays [.gd] reachFollow s (s.follow h) := by
  have off {keep : Bool} {n : Nat} {u : State} (hn : n < 24) (hs : Stays [.gd] reachFollow s u) :
      Stays [.gd] reachFollow s (if keep then u else u.offEdge n) := .ite hs (hs.run (offEdge_frame hn))
  unfold State.follow
  split
  exact ((off (n := 2 * h + 1) (by omega) (off (n := 2 * h) (by omega) .refl)).trans (cancelUnless_frame hh)).thru fun hs =>
    .ite hs.setGd (.ite hs.setGd hs)

theorem release_frame {h : Nat} {who : Holder} (hh : h < 12) : Stays [.gd] reachFollow s (s.release h who) :=
  (Stays.refl.setGd.wrb (reachFollow_bridge ⟨h, hh⟩).1).trans (follow_frame hh)

theorem lt_of_mem_groupHbs {g h : Nat} (hh : h ∈ s.groupHbs g) : h < 12 := List.mem_range.mp (List.mem_filter.mp hh).1

theorem lt_of_mem_groupChs {g n : Nat} (hn : n ∈ s.groupChs g) : n < 24 := by
  obtain ⟨h, hh, hn⟩ := List.mem_flatMap.mp hn
  have := lt_of_mem_groupHbs hh
  simp only [List.mem_cons, List.not_mem_nil, or_false] at hn
  omega

theorem lt_of_mem_groups {g : Nat} (hg : g ∈ s.groups) : g < 8 := List.mem_range.mp (List.mem_filter.mp hg).1

theorem lt_of_mem_loops {d : LoopDecl} (hd : d ∈ s.loops) : d.loop < 8 := of_decide_eq_true (List.mem_filter.mp hd).2

theorem holdGroup_frame {g : Nat} {who : Holder} : Stays [.gd] reachHold s (s.holdGroup g who) :=
  Stays.refl.foldl fun hh hs => hs.trans (hold_frame (lt_of_mem_groupHbs hh))

theorem letGroup_frame {g : Nat} {who : Holder} : Stays [.gd] reachFollow s (s.letGroup g who) :=
  Stays.refl.foldl fun hh hs => hs.trans (release_frame (lt_of_mem_groupHbs hh))

/-! ### Modes of loops -/

/-- Registers that a request of a mode changes (R210, R213). -/
def reachMode : List Reach := [.family (F.SHT_LOOP_MODE_NEXT 0), .family (F.SHT_LOOP_MODE_STOPPING 0)]

/-- Registers that a loop's entry of OFF changes (R213). -/
def reachOff : List Reach := .family (F.SHT_LOOP_MODE_NOW 0) :: reachMode

theorem reachMode_loop (m : Fin 8) : Holds reachMode (F.SHT_LOOP_MODE_NEXT m) ∧ Holds reachMode (F.SHT_LOOP_MODE_STOPPING m) := by
  revert m
  decide

theorem reachOff_loop (m : Fin 8) : Holds reachOff (F.SHT_LOOP_MODE_NEXT m) ∧ Holds reachOff (F.SHT_LOOP_MODE_STOPPING m) ∧
    Holds reachOff (F.SHT_LOOP_MODE_NOW m) := by
  revert m
  decide

theorem startStop_frame {m : Nat} {d : LoopDecl} (hm : m < 8) : Stays [.sht] reachMode s (s.startStop m d) := by
  obtain ⟨next, stopping⟩ := reachMode_loop ⟨m, hm⟩
  exact .ite (Stays.refl.setSht.wr next) (.ite .refl ((Stays.ite .refl (Stays.refl.wr next)).setSht.wrb stopping))

theorem requestMode_frame {m target : Nat} {d : LoopDecl} {byHost : Bool} (hm : m < 8) :
    Stays [.sht] reachMode s (s.requestMode m d target byHost) :=
  .ite (startStop_frame hm) (.ite .refl (.ite Stays.refl.setSht Stays.refl.setSht))

theorem enterOff_frame {m : Nat} {d : LoopDecl} (hm : m < 8) : Stays [.sht] reachOff s (s.enterOff m d) := by
  obtain ⟨next, stopping, now⟩ := reachOff_loop ⟨m, hm⟩
  have words : Stays [.sht] reachOff s (s.setWords m d.offsetWord (List.replicate
      (max (offsetCount d (s.nowMode m)) (offsetCount d (s.nextMode m))) 0)) := Stays.refl.foldl fun _ hs => hs.setSht
  exact (((words.setSht.wr now).wr next).wrb stopping).setSht

theorem Stays.stopLoops (hs : Stays ps rs o s) {g} (hp : Part.sht ∈ ps := by decide) : Stays ps rs o (s.stopLoops g) :=
  hs.foldl fun _ hs => .ite hs (hs.setSht hp)

theorem restartLoops_frame : Stays [.sht] reachMode s s.restartLoops :=
  Stays.refl.foldl fun hd hs => by
    dsimp only
    split
    · exact hs
    · exact .ite hs (hs.setSht.thru fun hs => .ite hs (hs.trans (requestMode_frame (lt_of_mem_loops hd))))

/-! ### Protection groups -/

theorem holdFor_frame {g : Nat} : Stays [.gd, .sht] reachHold s (s.holdFor g) :=
  (Stays.refl.run holdGroup_frame).stopLoops.foldl fun _ hs => (hs.run holdGroup_frame).stopLoops

/-- Registers that a group's return to ARMED changes beside its own (R256, R258). -/
def reachLetGo : List Reach := reachFollow ++ reachMode ++ ([.cell F.PAIR_STATUS_PL_OUT] : List Reach)

theorem letGo_frame {g : Nat} : Stays [.gd, .pair, .sht] reachLetGo s (s.letGo g) :=
  (Stays.refl.foldl fun hn hs => hs.setGd.thru fun hs =>
    .ite hs (hs.run (setChState_frame (lt_of_mem_groupChs hn)))).thru fun hs =>
      (((Stays.ite hs hs.setPair.showLock).run letGroup_frame).foldl fun _ hs => .ite hs (hs.run letGroup_frame)).run restartLoops_frame

/-- The parts that a group's test changes (R265). -/
def partsTest : List Part := [.gd, .pair, .prt, .sht]

theorem reachEndTest_group (g : Fin 8) : Holds reachEndTest (F.PRT_GRP_STATE_STATE g) ∧ Holds reachEndTest (F.PRT_GRP_WAIT_LEFT g) ∧
    Holds reachEndTest (F.PRT_GRP_TEST_DONE g) := by
  revert g
  decide

theorem setGst_frame {g st : Nat} (hg : g < 8) : Stays [] reachEndTest s (s.setGst g st) :=
  (Stays.refl.wr (reachEndTest_group ⟨g, hg⟩).1).wr.wr

theorem armGroup_frame {g : Nat} (hg : g < 8) : Stays partsTest reachEndTest s (s.armGroup g) :=
  ((Stays.refl.run (setGst_frame hg)).wr (reachEndTest_group ⟨g, hg⟩).2.1).run letGo_frame

theorem endTest_frame {g : Nat} (hg : g < 8) : Stays partsTest reachEndTest s (s.endTest g) :=
  (Stays.refl.setPrt.wrb (reachEndTest_group ⟨g, hg⟩).2.2).thru fun hs =>
    .ite (hs.trans (armGroup_frame hg)) (hs.run (setGst_frame hg))

theorem reachTest_result (g : Fin 8) (k : Fin 6) : Holds reachTest (testField g (k + 1)) := by
  revert g k
  decide

theorem reachTest_group (g : Fin 8) : Holds reachTest (F.PRT_GRP_TEST_DONE g) ∧ Holds reachTest (F.PRT_GRP_TEST_FAIL_KIND g) ∧
    Holds reachTest (F.PRT_GRP_TEST_FAIL_ITEM g) := by
  revert g
  decide

theorem startTest_frame {g : Nat} (hg : g < 8) : Stays partsTest reachTest s (s.startTest g) := by
  obtain ⟨done, kind, item⟩ := reachTest_group ⟨g, hg⟩
  have cleared : Stays partsTest reachTest s ((List.range 6).foldl (fun s k => s.wr (testField g (k + 1)) 0) s) :=
    Stays.refl.foldl fun hk hs => hs.wr (reachTest_result ⟨g, hg⟩ ⟨_, List.mem_range.mp hk⟩)
  exact ((((((cleared.wrb done).wr kind).wr item).setPrt.run (setGst_frame hg)).run holdGroup_frame)).thru fun hs =>
    .ite (hs.run (endTest_frame hg)) hs

/-! ### A unit takes the claim of its role over -/

/-- Registers that the protection's groups change when the unit takes over (R261, R262). -/
def reachTrip : List Reach := reachHold ++ ([.family (F.PRT_GRP_TRIP_TIME_HI 0), .family (F.PRT_GRP_TRIP_TIME_LO 0)] : List Reach)

theorem reachTrip_group (g : Fin 8) : Holds reachTrip (F.PRT_GRP_TRIP_TIME_LO g) ∧
    Holds reachTrip { F.PRT_GRP_TRIP_TIME_LO g with addr := (F.PRT_GRP_TRIP_TIME_LO g).addr + 4 } := by
  revert g
  decide

theorem prtTakeOver_frame {at_ : Nat} : Stays [.gd, .prt, .sht] reachTrip s (s.prtTakeOver at_) :=
  Stays.refl.foldl fun hg hs =>
    have held := reachTrip_group ⟨_, lt_of_mem_groups hg⟩
    .ite hs ((hs.setPrt.wr64 held.1 held.2).run holdFor_frame)

theorem Stays.stopSession (hs : Stays ps rs o s) (hp : Part.vlk ∈ ps := by decide) (state : Holds rs F.VLK_STATUS_STATE := by rfl) :
    Stays ps rs o s.stopSession :=
  .ite ((hs.wr state).setVlk hp) hs

theorem vlinkTakeOver_frame : Stays [.vlk] [.cell F.VLK_STATUS_STATE] s s.vlinkTakeOver :=
  .ite .refl (Stays.refl.setVlk.thru fun hs => .ite hs hs.setVlk.stopSession)

/-- Registers that a site unit changes when it becomes master (R117, R163). -/
def reachMaster : List Reach :=
  [.cell F.MRK_DISCARDS, .cell F.MRK_STATUS_ACTIVE, .cell F.MRK_STATUS_FOLLOW, .cell F.TRG_STATUS_MASTER]

theorem becomeMaster_frame : Stays [.bil, .mrk, .trg] reachMaster s s.becomeMaster :=
  .ite .refl (Stays.refl.set.discardAhead.wrb.wrb.wrb)

/-- The parts that a take-over changes (R514, R515). -/
def partsTakeOver : List Part := [.bil, .gd, .mrk, .prt, .sht, .sys, .trg, .vlk]

/-- Registers that a take-over changes. -/
def reachTakeOver : List Reach := reachTrip ++ reachOff ++ reachMaster ++ ([.cell F.VLK_STATUS_STATE] : List Reach)

theorem takeOver_frame {cold : Bool} {at_ : Nat} : Stays partsTakeOver reachTakeOver s (s.takeOver cold at_) :=
  (((Stays.refl.run prtTakeOver_frame).run vlinkTakeOver_frame).run becomeMaster_frame).thru fun hs =>
    .ite hs.setSys ((hs.foldl fun hd hs => hs.run (enterOff_frame (lt_of_mem_loops hd))).setSys)

/-- The parts that a raised claim changes (R406, R514). -/
def partsRaise : List Part := .bar :: .que :: .trg :: partsClaim

/-- Registers that a raised claim changes. -/
def reachRaise : List Reach := reachClaim ++ reachEvent ++
  ([.cell F.PAIR_LAST_TIME_HI, .cell F.PAIR_LAST_TIME_LO, .cell F.PAIR_SWITCHOVERS] : List Reach)

theorem raiseClaim_frame {c : Nat} {grant : Bool} {cause : Option Nat} : Stays partsRaise reachRaise s (s.raiseClaim c grant cause) := by
  unfold State.raiseClaim
  extract_lets granted counted timed told src voted claimed
  have begun : Stays partsRaise reachRaise s timed := Stays.refl.wr.wrb.inc.barAdd.wr64
  have caused : Stays partsRaise reachRaise s told := by
    cases cause with
    | none => exact begun
    | some k => exact begun.wr
  have entered : Stays partsRaise reachRaise s (voted.setPairState psActive) := caused.setPair.setPairState
  exact (entered.run (Stays.claimEval .refl)).run (event_frame claimed _ _)

/-! ### Frames of commands -/

/-- A command whose meaning has a frame of closed lists keeps every frame that they lie within. -/
theorem keeps_of {c : Instr} {f : State → State} (runs : ∀ s, exec c s = .next (f s)) (k : ∀ s, Stays qs xs s (f s))
    (hp : ∀ p ∈ qs, p ∈ ps := by decide) (hr : covers (rs ++ os) xs = true := by decide) : Keeps c ps rs os :=
  Keeps.of f runs fun s => Stays.refl.run (k s) hp hr

theorem Stays.accessError (hs : Stays ps rs o s) {side code addr path} (hp : Part.hbi ∈ ps := by decide)
    (hr : covers rs reachKeyed = true := by decide) : Stays ps rs o (s.accessError side code addr path) :=
  hs.run (accessError_frame s side code addr path) (by simpa using hp) hr

/-- A keyed command: refused with its record, or accepted and run (R64, R88, R90). -/
theorem command_stays {f : State → State} {side addr key want : Nat} (k : ∀ u, Stays ps rs u (f u)) (hp : Part.hbi ∈ ps := by decide)
    (hr : covers rs reachKeyed = true := by decide) : Stays ps rs s (s.command side addr key want f) := by
  have accepted : Stays ps rs s (s.accepted side) := Stays.refl.via (accepted_frame rs s side) (by simpa using hp) fun _ => id
  unfold State.command
  split
  · exact Stays.refl.accessError hp hr
  · split
    · exact Stays.refl.accessError hp hr
    · exact accepted.trans (k _)

/-! ### Resets -/

theorem commandReset_frame : Stays partsReset reachReset s s.commandReset := Stays.refl.announceLeave.trans mainReset_frame

/-- Registers that a reset by command changes, refused or not (R508, R509). -/
def reachKeyedReset : List Reach := reachReset ++ reachKeyed

theorem recallReset_frame {side : Nat} : Stays partsReset reachReset s (s.recall side).commandReset :=
  (Stays.ite .refl Stays.refl.setPat).trans commandReset_frame

theorem sysReset_frame {side : Nat} : Stays partsReset reachKeyedReset s (s.sysReset side) :=
  .ite (.ite Stays.refl.setPair Stays.refl.accessError) (Stays.refl.run recallReset_frame)

/-- The parts that a reset of both dies changes (R507): the partition's too. -/
def partsOff : List Part := .bil :: partsReset

theorem selvedgeReset_frame {src : Nat} : Stays partsOff reachReset s (s.selvedgeOff.mainReset src false) :=
  (Stays.refl.set).run mainReset_frame

theorem brownOut_frame : Stays partsOff reachReset s s.brownOut := .ite .refl (Stays.refl.trans selvedgeReset_frame).setSys

/-- Registers that power-on changes (R476, R507). -/
def reachPowerOn : List Reach :=
  reachReset ++ ([.cell F.CLK_AON_CFG_CHARGE, .cell F.CLK_AON_RTC_HI, .cell F.CLK_AON_RTC_LO, .cell F.CLK_AON_STATUS_SOURCE,
    .block trgBase] : List Reach)

theorem powerOn_frame : Stays partsOff reachPowerOn s s.powerOn := by
  have supplied : Stays partsOff reachPowerOn s
      (if s.rdb F.CLK_AON_STATUS_POR then (s.wr64 F.CLK_AON_RTC_LO 0).wrb F.CLK_AON_CFG_CHARGE false else s) :=
    .ite Stays.refl.wr64.wrb .refl
  refine Stays.dropCells (supplied.run selvedgeReset_frame).wrb (fun k => !(trgBase * 32 ≤ k && k < (trgBase + 0x1000) * 32))
    (fun k hk => ?_) fun p hp => ?_
  · exact congrArg Bool.not (Bool.eq_false_of_not_eq_true (List.any_eq_false.mp hk (.block trgBase) (by simp [reachPowerOn])))
  · cases p <;> first | rfl | exact absurd (by decide) hp

theorem earlyWarningOff_frame : Stays partsReset (.cell F.CLK_STATUS_EW :: reachReset) s s.earlyWarningOff :=
  .ite .refl (.ite Stays.refl.setSys.wrb (Stays.refl.run mainReset_frame))

/-! ### Faults: wakes and withdrawals -/

/-- Registers that a wake source changes (R483). -/
def reachWake : List Reach :=
  [.cell F.CLK_LULL_STATUS_STATE, .cell F.CLK_LULL_STATUS_WAKE_CAUSE, .cell F.CLK_WAKE_TIME_HI, .cell F.CLK_WAKE_TIME_LO]

theorem wakeBy_frame {cause : Nat} : Stays [.clk] reachWake s (s.wakeBy cause) := by
  unfold State.wakeBy
  split
  · exact Stays.refl.wr.wr.wr64
  · exact .ite Stays.refl.setClk .refl
  · exact .refl

/-- Registers that a withdrawal with its reset changes (R499, R507). -/
def reachLeave : List Reach := reachWithdraw ++ reachReset

/-- Registers that an uncorrectable word changes (R54, R500). -/
def reachFault : List Reach := reachLeave ++ reachWake

theorem leave_frame {cause : Nat} : Stays partsReset reachLeave s (s.withdraw cause) := withdraw_frame

theorem memoryFault_frame : Stays partsReset reachFault s s.memoryFault :=
  .ite (Stays.refl.setClk.run wakeBy_frame) (Stays.refl.run leave_frame)

theorem clockMonitor_frame {ppm : Int} : Stays partsReset reachLeave s (s.clockMonitor ppm) := .ite .refl leave_frame

theorem pllLoss_frame {pll : Nat} : Stays partsReset (.cell F.CLK_STATUS_LOCK :: reachLeave) s (s.pllLoss pll) :=
  .ite .refl (Stays.refl.wr.run leave_frame)

theorem scrubWord_frame {finding : ScrubFinding} :
    Stays partsReset (.cell F.PAT_SCRUB_FIXED :: .cell F.PAT_SCRUB_PASSES :: reachFault) s (s.scrubWord finding) := by
  unfold State.scrubWord
  extract_lets place src passed
  have hs : Stays partsReset (.cell F.PAT_SCRUB_FIXED :: .cell F.PAT_SCRUB_PASSES :: reachFault) s passed :=
    .ite Stays.refl.setPat.wr Stays.refl.setPat
  cases finding with
  | equal => exact hs
  | sramFixed => exact hs.wr.barAdd
  | mramFixed => exact hs.barAdd
  | uncorrectable => exact hs.run memoryFault_frame

theorem retentionScrub_frame {finding : ScrubFinding} :
    Stays partsReset (.cell F.CLK_TEMP_REFRESH :: reachFault) s (s.retentionScrub finding) := by
  unfold State.retentionScrub
  extract_lets t band src measured
  have hs : Stays partsReset (.cell F.CLK_TEMP_REFRESH :: reachFault) s measured := Stays.refl.setClk.wr
  cases finding with
  | equal => exact hs
  | sramFixed => exact hs.barAdd
  | mramFixed => exact hs.barAdd
  | uncorrectable => exact hs.run memoryFault_frame

/-! ### Clocks and supplies -/

theorem rtcLoss_frame : Stays [.clk] [.cell F.CLK_AON_STATUS_RTC_FAIL, .cell F.CLK_STATUS_RTC_FAIL] s s.rtcLoss :=
  Stays.refl.wrb.wrb.thru fun hs => .ite hs hs.setClk

/-- Registers of the always-on domain's round (R476, R480). -/
def reachVbat : List Reach :=
  [.cell F.CLK_AON_RTC_HI, .cell F.CLK_AON_RTC_LO, .cell F.CLK_AON_STATUS_CHARGING, .cell F.CLK_AON_STATUS_VBAT_LOW, .cell F.CLK_AON_VBAT,
    .cell F.CLK_LULL_SECONDS, .cell F.CLK_STATUS_VBAT_LOW, .cell F.CLK_TEMP_T_AON]

theorem Stays.wrisat (h : Stays ps rs o s) {f v} (hf : Holds rs f := by rfl) : Stays ps rs o (s.wrisat f v) := h.wr hf

theorem Stays.setRtc (hs : Stays ps rs o s) {rtc} (low : Holds rs F.CLK_AON_RTC_LO := by rfl) (high : Holds rs F.CLK_AON_RTC_HI := by rfl) :
    Stays ps rs o (s.setRtc rtc) := .ite (hs.wr64 low high) hs

theorem vbatMeasure_frame {mv rtc : Nat} {tAon : Int} : Stays [.bar] reachVbat s (s.vbatMeasure mv tAon rtc) :=
  Stays.refl.setRtc.wrsat.wrb.wrb.wrisat.wrb.thru fun hs => (Stays.ite hs.barAdd hs).thru fun hs => .ite hs.barAdd.inc hs

theorem supplySwitch_frame {vin : Bool} : Stays [.sys, .clk, .met]
    [.cell F.CLK_AON_STATUS_CHARGING, .cell F.CLK_AON_STATUS_SOURCE, .family (F.MET_PO_STATUS_OUT 0)] s (s.supplySwitch vin) :=
  Stays.refl.wrb.thru fun hs => .ite hs.setSys hs.releasePulses.set.wrb

theorem aonReset_frame : Stays [.que, .bar, .clk, .met, .bil] [.cell F.CLK_AON_CFG_CHARGE, .cell F.CLK_AON_EVENTS, .cell F.CLK_AON_RTC_HI,
    .cell F.CLK_AON_RTC_LO, .cell F.CLK_AON_STATUS_POR, .cell F.CLK_AON_STATUS_RTC_FAIL, .cell F.QUE_FR_HEAD, .cell F.QUE_FR_OVERFLOW]
    s s.aonReset :=
  .ite .refl Stays.refl.set.wr64.wr.wrb.wrb.wr.wr.wrb

/-! ### The Barograph's saves -/

theorem baroSave_frame : Stays [.bar] [.cell F.BAR_SAVE_SEQ, .cell F.BAR_STATUS_PROFILE] s s.baroSave := .ite .refl Stays.refl.barSave.wrb

theorem suspectExpiry_frame : Stays [] [.cell F.BAR_STATUS_METER_SUSPECT] s s.suspectExpiry := .ite .refl Stays.refl.wrb

theorem baroDaily_frame : Stays [.que, .bar] reachBlocks s s.baroDaily := .ite .refl (Stays.refl.setBar.trans barBlocks_frame)

theorem barSnapshot_frame {side addr key want : Nat} : Stays [.hbi, .que, .bar] (reachBlocks ++ reachKeyed) s
    (s.command side addr key want fun s => s.barBlocks 5) :=
  command_stays fun _ => Stays.refl.run barBlocks_frame

/-! ### The meter at an early warning -/

/-- The parts that the meter's boundaries, sessions and records change (R353 to R356). -/
def partsMeter : List Part := [.que, .trg, .met, .bil]

/-- Registers that the commit of a boundary changes (R355, R365). -/
def reachCommit : List Reach := .cell F.BIL_EVENT_SUPPRESSED :: reachRecord

/-- Registers that the meter changes when it ends its work (R320, R332, R354). -/
def reachMeter : List Reach :=
  reachCommit ++ ([.cell F.BIL_EVENT_INTERVAL_CLOSE, .cell F.BIL_EVENT_TARIFF_SWITCH, .cell F.MET_EVENT_CHECK_FAIL,
    .cell F.MET_EVENT_DUAL_DIFF] : List Reach)

theorem jrnlWrite_frame {typ flags ledger cal : Nat} {body : List Nat} :
    Stays [.bil, .que, .trg] reachRecord s (s.jrnlWrite typ flags ledger cal body).1 := (jrnlWrite_recorded s typ flags ledger cal body).frame

theorem commitBnd_frame {b : Bnd} {extra saveSeq : Nat} : Stays partsMeter reachCommit s (s.commitBnd b extra saveSeq) :=
  .ite .refl (.ite Stays.refl.set.wrb (Stays.refl.run jrnlWrite_frame))

theorem sessionRecord_frame {extra : Nat} : Stays partsMeter reachRecord s (s.sessionRecord extra) :=
  Stays.refl.setMet.run (sessionRecord_recorded s extra).frame

section
variable (hs : Stays partsMeter reachMeter o s)
include hs

theorem Stays.sessionRecord {extra : Nat} : Stays partsMeter reachMeter o (s.sessionRecord extra) := hs.run sessionRecord_frame

theorem Stays.trySession {timeout : Bool} : Stays partsMeter reachMeter o (s.trySession timeout) := .ite hs.sessionRecord hs

theorem Stays.closeInterval {setBack : Bool} {extra : Nat} : Stays partsMeter reachMeter o (s.closeInterval setBack extra) := hs.setMet.wrb

theorem Stays.closeDue : Stays partsMeter reachMeter o s.closeDue := .ite hs.setBil.closeInterval hs.closeInterval

theorem Stays.intervalStep : Stays partsMeter reachMeter o s.intervalStep := by
  unfold State.intervalStep
  split
  · exact .ite hs.setBil.closeInterval (.ite hs.closeDue hs)
  · exact .ite hs.closeDue hs

theorem Stays.tariffStep : Stays partsMeter reachMeter o s.tariffStep :=
  (Stays.ite hs.setMet hs).thru fun hs => .ite hs hs.setMet.wrb

theorem Stays.checkPairs : Stays partsMeter reachMeter o s.checkPairs :=
  hs.setMet.thru fun hs => .ite ((Stays.ite hs.setMet hs).thru fun hs => .ite hs (hs.wrb.run (event_frame _ _ _))) hs

theorem Stays.settle : Stays partsMeter reachMeter o s.settle := hs.intervalStep.tariffStep.checkPairs

theorem Stays.openSess {m : Mark} : Stays partsMeter reachMeter o (s.openSess m) := (Stays.ite hs.sessionRecord hs).setMet

theorem Stays.closeSess {late : Bool} : Stays partsMeter reachMeter o (s.closeSess late) :=
  hs.setMet.thru fun hs => (Stays.ite (hs.wrb.run (event_frame _ _ _)) hs).trySession

theorem Stays.applyMark {force : Bool} : Stays partsMeter reachMeter o (s.applyMark force) := by
  unfold State.applyMark
  split
  · exact hs
  · exact .ite hs (.ite (hs.setMet.thru fun hs => .ite hs.closeSess hs) (.ite hs.setMet.closeSess hs.setMet.openSess))

theorem Stays.applyMarks {force : Bool} : Stays partsMeter reachMeter o (s.applyMarks force) := hs.foldl fun _ hs => hs.applyMark

end

/-- The work of the meter ends with an early warning: its boundaries, marks and session come forward (R332, R356). -/
theorem powerFail_frame : Stays partsMeter reachMeter s s.powerFail := by
  refine .ite .refl (Stays.refl.settle.thru fun hs => Stays.thru ?closed fun hs =>
    ((Stays.ite hs.setMet hs).applyMarks.foldl fun _ hs => hs.run commitBnd_frame).thru fun hs =>
      (Stays.ite hs.sessionRecord hs).setMet.setMet)
  split
  · exact hs.setBil.thru fun hs => .ite hs hs.closeInterval
  · exact .ite hs.closeDue hs

/-! ### The meter's recovery -/

/-- Registers that the meter's recovery changes (R333 to R335, R357). -/
def reachRecover : List Reach :=
  reachCommit ++ ([.cell F.BIL_EVENT_OUTAGE_BOUNDARY, .cell F.CLK_AON_EVENTS, .cell F.MET_EVENT_UNSAVED] : List Reach)

theorem unsavedEvent_frame {bound : Nat} : Stays partsMeter reachRecover s (s.unsavedEvent bound) :=
  Stays.refl.setMet.wrb.run (event_frame _ _ _)

theorem recover_frame : Stays partsMeter reachRecover s s.recover := by
  have unsaved {u : State} {bound : Nat} (hs : Stays partsMeter reachRecover s u) := hs.trans (unsavedEvent_frame (bound := bound))
  unfold State.recover
  dsimp only
  split
  · exact Stays.refl.set
  · refine .thru (.thru (.thru ?taken fun hs => .ite ((hs.run commitBnd_frame).wrb.run (event_frame _ _ _)) hs)
      fun hs => .ite (unsaved hs.setMet) hs.setMet) fun hs => .ite (unsaved hs) hs
    split
    · exact .ite Stays.refl.set Stays.refl.set
    · exact Stays.refl.set

theorem tamperRecord_frame {kind rtc : Nat} {onset vin : Bool} {b : List Int} :
    Stays partsMeter reachRecover s (s.tamperRecord kind onset vin rtc b) :=
  .ite (Stays.refl.run jrnlWrite_frame) (Stays.refl.run jrnlWrite_frame).setBil

theorem selStart_frame : Stays partsMeter reachRecover s s.selStart :=
  ((recover_frame.foldl fun _ hs => hs.trans tamperRecord_frame).setBil.wr.thru fun hs => .ite hs hs.setBil).run jrnlWrite_frame

/-! ### Queues at the entry of Lull -/

/-- Registers of the queues (R457, R458). -/
def reachQueues : List Reach :=
  [.family (F.QUE_Q_DEPTH_LEVEL 0), .family (F.QUE_Q_HWM 0), .family (F.QUE_Q_LOST 0), .cell F.QUE_IRQ_STATUS_MBX_OUT,
    .cell F.QUE_STATUS_FULL, .cell F.QUE_STATUS_NONEMPTY]

theorem reachQueues_queue (n : Fin 16) : Holds reachQueues (F.QUE_Q_DEPTH_LEVEL n) ∧ Holds reachQueues (F.QUE_Q_HWM n) ∧
    Holds reachQueues (F.QUE_Q_LOST n) := by
  revert n
  decide

/-- The parts that the emptying of the queues changes (R468). -/
def partsQueues : List Part := [.bil, .que]

theorem levelQ_frame {n level : Nat} (hn : n < 16) : Stays [] reachQueues s (s.queLevel n level) :=
  have held := reachQueues_queue ⟨n, hn⟩
  Stays.refl.queLevel held.1 rfl rfl held.2.1

theorem setQ_frame {n : Nat} {items : List QItem} (hn : n < 16) : Stays [.que] reachQueues s (s.setQ n items) :=
  Stays.refl.setQue.run (levelQ_frame hn)

theorem lost_frame {n k : Nat} (hn : n < 16) : Stays [] reachQueues s (s.inc (F.QUE_Q_LOST n) k) := Stays.refl.inc (reachQueues_queue ⟨n, hn⟩).2.2

theorem discard_frame {n : Nat} (hn : n < 16) : Stays [.que] reachQueues s (s.discard n) :=
  .ite .refl ((setQ_frame hn).run (lost_frame hn))

theorem handOut_frame {n : Nat} (hn : n < 16) : Stays [.que] reachQueues s (s.handOut n) := by
  unfold State.handOut
  split
  · exact .refl
  · exact Stays.refl.setQue.trans (setQ_frame hn)

theorem drain_frame {n : Nat} (hn : n < 16) : Stays partsQueues reachQueues s (s.drain n) :=
  Stays.refl.foldl fun _ hs => by
    split
    · exact hs.setBil.run (handOut_frame (by decide))
    · exact hs.run (handOut_frame hn)

theorem lullQueues_frame : Stays partsQueues reachQueues s s.lullQueues := by
  have drained : Stays partsQueues reachQueues s (((s.drain 1).drain 2).drain 14) :=
    ((drain_frame (by decide)).trans (drain_frame (by decide))).trans (drain_frame (by decide))
  have below : ∀ n ∈ [3, 4, 5, 6, 7, 8, 9, 12, 13], n < 16 := by decide
  have discarded := drained.foldl (f := State.discard) fun hn hs => hs.run (discard_frame (below _ hn))
  unfold State.lullQueues
  exact discarded.thru fun hs =>
    (Stays.ite hs ((hs.setQue.run (levelQ_frame (by decide))).run (lost_frame (by decide)))).thru fun hs =>
      (Stays.ite hs ((hs.setQue.run (levelQ_frame (by decide))).wrb.run (lost_frame (by decide)))).thru fun hs =>
        .ite hs.setQue ((hs.setQue.run (levelQ_frame (by decide))).run (lost_frame (by decide)))

/-! ### The entry of Lull -/

/-- The parts that the entry of Lull changes (R479). -/
def partsLull : List Part := [.que, .gd, .pair, .trg, .mrk, .clk, .met, .bil, .key]

/-- Registers that the entry of Lull changes. -/
def reachLull : List Reach :=
  reachQueues ++ reachMeter ++ reachWake ++ reachClaim ++ ([.cell F.CLK_AON_RTC_HI, .cell F.CLK_AON_RTC_LO, .cell F.CLK_LULL_ENTRIES,
    .cell F.CLK_LULL_STATUS_REFUSE, .cell F.CLK_STATUS_LOCK, .cell F.TRG_STATUS_KEYED, .family (F.TRG_MEMBERS 0)] : List Reach)

theorem reachLull_members (i : Fin 4) : Holds reachLull (F.TRG_MEMBERS i) := by
  revert i
  decide

theorem Stays.setMember (hs : Stays ps reachLull o s) {a : Nat} {b : Bool} : Stays ps reachLull o (s.setMember a b) := by
  unfold State.setMember
  split
  · exact hs
  next ha => exact hs.wr (reachLull_members ⟨a / 32, by omega⟩)

theorem finishLull_frame : Stays partsLull reachLull s s.finishLull := by
  unfold State.finishLull
  extract_lets released saved pair trg mrk met key left keyless counted asleep clk
  have ended : Stays partsLull reachLull s saved := (Stays.refl.run lullQueues_frame).setRtc.releasePulses.run powerFail_frame
  have cleared : Stays partsLull reachLull s left := ended.set
  have unnamed : Stays partsLull reachLull s keyless := cleared.setMember.wrb
  have slept : Stays partsLull reachLull s asleep := unnamed.wr.inc.wr
  split
  · exact slept.setClk.run wakeBy_frame
  · exact slept

theorem enterLull_frame {rtc : Nat} : Stays partsLull reachLull s (s.enterLull rtc) := by
  unfold State.enterLull
  extract_lets clk entering
  have begun : Stays partsLull reachLull s entering := Stays.refl.setClk.wr
  have leaving : Stays partsLull reachLull s (entering.dropClaim psNone).announceLeave := (begun.run (Stays.dropClaim .refl)).announceLeave
  exact .ite (leaving.trans finishLull_frame) leaving

theorem lullEntry_frame {rtc : Nat} : Stays partsLull reachLull s (s.lullEntry rtc) :=
  .ite .refl (.ite Stays.refl.setClk.wr enterLull_frame)

theorem lullMessage_frame {target src : Nat} : Stays [.mrk, .clk] [] s (s.lullMessage target src) :=
  .ite Stays.refl.setMrk (.ite Stays.refl.setClk .refl)

/-! ### Waking -/

theorem hostWake_frame {side addr key want : Nat} : Stays [.hbi, .clk] (reachWake ++ reachKeyed) s
    (s.command side addr key want fun s => s.hostWake) :=
  command_stays fun _ => .ite (Stays.refl.run wakeBy_frame) .refl

theorem plugWake_frame : Stays [.clk] reachWake s s.plugWake := .ite wakeBy_frame .refl

/-- Registers that the end of a wake changes (R484). -/
def reachAwake : List Reach :=
  reachLeave ++ reachBoundary ++ reachRecover ++ ([.cell F.CLK_AON_RTC_HI, .cell F.CLK_AON_RTC_LO, .cell F.CLK_LULL_STATUS_STATE,
    .cell F.CLK_STATUS_LOCK, .family (F.SAF_CONN_STATUS_STATE 0)] : List Reach)

theorem reachAwake_conn (j : Fin 16) : Holds reachAwake (F.SAF_CONN_STATUS_STATE j) := by
  revert j
  decide

theorem Stays.safetyResync (hs : Stays partsOff reachAwake o s) : Stays partsOff reachAwake o s.safetyResync :=
  hs.setSaf.foldl fun hj hs => hs.wr (reachAwake_conn ⟨_, List.mem_range.mp hj⟩)

theorem wakeComplete_frame {rtc : Nat} : Stays partsOff reachAwake s (s.wakeComplete rtc) :=
  .ite .refl (Stays.refl.wr.wr.setRtc.thru fun hs =>
    (((Stays.ite hs (hs.run selStart_frame)).set.safetyResync.run (boundary_frame _ _)).thru fun hs =>
      .ite (hs.setClk.run leave_frame) hs))

/-! ### The early warning -/

/-- The parts that an early warning changes (R477). -/
def partsEarly : List Part := [.que, .bar, .sys, .gd, .pair, .trg, .mrk, .clk, .met, .bil]

/-- Registers that an early warning changes. -/
def reachEarly : List Reach := reachWithdraw ++ reachMeter ++ ([.cell F.CLK_STATUS_EW] : List Reach)

theorem earlyWarningOn_frame : Stays partsEarly reachEarly s s.earlyWarningOn := by
  unfold State.earlyWarningOn
  extract_lets sys warned sys' clk stopped withdrawn
  have begun : Stays partsEarly reachEarly s warned := Stays.refl.setSys.wrb
  have halted : Stays partsEarly reachEarly s stopped := begun.set
  have left : Stays partsEarly reachEarly s withdrawn := by
    simp only [withdrawn]
    split
    · exact halted
    · exact .ite (halted.run (Stays.withdrawSteps .refl)) (halted.run (Stays.claimWithdraw .refl))
  exact .ite .refl (.ite begun (left.run powerFail_frame).barSave)

/-! ### Frames of the update commands -/

theorem patCommand_stays {f : State → State} {side : Side} {key : BitVec 16} (k : ∀ u, Stays ps rs u (f u)) (hp : Part.hbi ∈ ps := by decide)
    (hr : covers rs reachKeyed = true := by decide) : Stays ps rs s (s.patCommand side key f) :=
  command_stays (fun u => .ite (Stays.refl.accessError hp hr) (k u)) hp hr

theorem setUpdate_frame {st result : Nat} : Stays [.pat] reachUpdate s (s.setUpdate st result) := Stays.refl.setPat.showUpdate

theorem dropOwner_frame : Stays [.pat] reachUpdate s s.dropOwner := Stays.refl.setPat.showUpdate

theorem Stays.setSlot (hs : Stays ps rs o s) {n x} (hp : Part.pat ∈ ps := by decide) : Stays ps rs o (s.setSlot n x) :=
  .ite (hs.setPat hp) (hs.setPat hp)

theorem Stays.emptySlot (hs : Stays ps rs o s) (hp : Part.pat ∈ ps := by decide) : Stays ps rs o s.emptySlot := hs.setSlot hp

theorem endUpdate_frame : Stays [.pat] reachUpdate s s.endUpdate := (Stays.refl.emptySlot.trans setUpdate_frame).trans dropOwner_frame

/-- Registers that an owner's command changes (R49, R88). -/
def reachOwn : List Reach := reachUpdate ++ reachKeyed

theorem patOpen_frame {side : Nat} : Stays [.hbi, .pat] reachOwn s (s.patOpen side) :=
  .ite Stays.refl.accessError (Stays.refl.emptySlot.setPat.run setUpdate_frame)

theorem patVerify_frame {side : Nat} : Stays [.hbi, .pat] reachOwn s (s.patVerify side) :=
  .ite (Stays.refl.run setUpdate_frame) Stays.refl.accessError

theorem verifyDone_frame {memOk : Bool} : Stays [.pat] reachUpdate s (s.verifyDone memOk) := .ite .refl setUpdate_frame

theorem armReset_frame : Stays partsReset reachReset s s.armReset :=
  (Stays.refl.setPat.setPat.announceLeave).trans mainReset_frame

/-- Registers that ARM changes (R50). -/
def reachArm : List Reach := reachOwn ++ reachReset

theorem patArm_frame {side : Nat} {single : Bool} : Stays partsReset reachArm s (s.patArm side single) :=
  .ite Stays.refl.accessError (.ite (Stays.refl.accessError.run setUpdate_frame) (.ite (Stays.refl.run armReset_frame)
    (.ite Stays.refl.setPair (Stays.refl.accessError.run setUpdate_frame))))

/-- The parts that COMMIT changes (R51, R374). -/
def partsCommit : List Part := .hbi :: partsLife

/-- Registers that COMMIT changes. -/
def reachCommitted : List Reach := reachOwn ++ reachLife ++ ([.cell F.PAT_STATUS_FALLBACK, .cell F.PAT_STATUS_TRIAL] : List Reach)

theorem committed_frame : Stays partsCommit reachCommitted s s.committed :=
  ((Stays.refl.setPat.setPat.wrb.wrb).run setUpdate_frame).run dropOwner_frame

theorem trialExpiry_frame : Stays partsReset reachLeave s s.trialExpiry :=
  .ite .refl (Stays.refl.setPat.thru fun hs => .ite hs (hs.trans leave_frame))

/-- Registers that ABORT changes (R51). -/
def reachAbort : List Reach := reachOwn ++ reachLeave

theorem patAbort_frame {side : Nat} : Stays partsReset reachAbort s (s.patAbort side) :=
  .ite Stays.refl.accessError (.ite (Stays.refl.run trialExpiry_frame) (Stays.refl.run endUpdate_frame))

theorem patCommit_frame {side : Nat} : Stays partsCommit reachCommitted s (s.patCommit side) := by
  by_cases running : s.pat.updState = 5 ∧ s.rdb F.PAT_STATUS_TRIAL = true
  · rw [patCommit_eq running.1 running.2]
    exact .ite (committed_frame.run changeLife_frame) committed_frame
  · have refused : s.patCommit side = s.accessError side eState patCmdAddr := if_pos (by simpa [Decidable.or_iff_not_imp_left] using running)
    rw [refused]
    exact Stays.refl.accessError

/-- Registers of Q1. -/
def reachQ1 : List Reach :=
  [.cell (F.QUE_Q_DEPTH_LEVEL 1), .cell (F.QUE_Q_HWM 1), .cell F.QUE_STATUS_FULL, .cell F.QUE_STATUS_NONEMPTY]

theorem toQ1_frame {kind : Nat} {body : List Nat} : Stays [.que] reachQ1 s (s.toQ1 kind body) :=
  .ite Stays.refl.setQue.queLevel Stays.refl.setQue

theorem patSeal_frame {side : Nat} : Stays [.hbi, .que] (reachQ1 ++ reachKeyed) s (s.patSeal side) :=
  .ite Stays.refl.accessError (.ite Stays.refl.accessError (.ite Stays.refl.accessError (Stays.refl.run toQ1_frame)))

/-! ### Frames of the start -/

/-- The parts that the self-tests and what follows them change (R265, R513 to R515). -/
def partsSelfTest : List Part := [.que, .bar, .sys, .gd, .sht, .prt, .pair, .trg, .mrk, .met, .bil, .vlk]

/-- Registers that the self-tests and what follows them change. -/
def reachSelfTest : List Reach := reachRaise ++ reachTakeOver ++ reachTest

theorem selfTest_frame {time : Nat} : Stays partsSelfTest reachSelfTest s (s.selfTest time) := by
  unfold State.selfTest
  rw [List.partition_eq_filter_filter]
  refine .ite .refl ?_
  split
  next ready wait parted =>
  obtain ⟨rfl, rfl⟩ := Prod.mk.inj parted
  extract_lets tested sys waiting held shown
  have tests : Stays partsSelfTest reachSelfTest s tested :=
    Stays.refl.foldl fun hg hs => hs.run (startTest_frame (lt_of_mem_groups (List.mem_filter.mp hg).1))
  have begun : Stays partsSelfTest reachSelfTest s shown := (tests.setSys.foldl fun _ hs => hs.run holdGroup_frame).wr
  exact .ite begun.startDone (.ite ((begun.run raiseClaim_frame).run takeOver_frame) (.ite begun.stepEight begun))

theorem formingTimeout_frame {time : Nat} : Stays partsSelfTest (reachRaise ++ reachTakeOver) s (s.formingTimeout time) :=
  .ite .refl (.ite ((Stays.refl.run raiseClaim_frame).run takeOver_frame) Stays.refl.setPair.setPairState)

theorem contactorOp_frame {k breakA : Nat} {load : Bool} : Stays [.bar] [] s (s.contactorOp k breakA load) := by
  unfold State.contactorOp
  split
  · exact .refl
  · exact Stays.refl.setBar

theorem acPreCharge_frame : Stays [.bar, .sys] [] s s.acPreCharge := Stays.refl.setSys.run contactorOp_frame

theorem acDrop_frame : Stays [.bar, .sys] [] s s.acDrop :=
  (Stays.ite (Stays.refl.run contactorOp_frame) .refl).thru fun hs => (Stays.ite (hs.run contactorOp_frame) hs).setSys

theorem Stays.obsStart (hs : Stays ps rs o s) (hp : Part.th ∈ ps := by decide) : Stays ps rs o s.obsStart := by
  unfold State.obsStart
  split
  · exact hs
  · split
    · exact hs.setTh hp
    · exact .ite (hs.setTh hp) (hs.setTh hp)

/-- The parts that the start of a role changes (R516). -/
def partsRole : List Part := [.bar, .sys, .trg, .mrk, .th]

/-- Registers that the start of a role changes. -/
def reachRole : List Reach := [.cell F.CLK_AON_STATUS_POR, .cell F.SYS_START_PHASE, .cell F.VLK_STATUS_STATE]

theorem roleStart_frame : Stays partsRole reachRole s s.roleStart := by
  refine .ite .refl ?_
  dsimp only
  split
  · exact .ite (Stays.refl.setSys.startDone.run acPreCharge_frame) .refl
  · exact Stays.refl.setTh.obsStart.wr.setSys.startDone
  · have site : Stays partsRole reachRole s { s with trg.ptpGood := 0, mrk.invalid := true } := Stays.refl.set
    exact site.setSys.startDone
  · exact .refl

theorem preChargeDone_frame : Stays [.bar, .sys, .sht] reachMode s s.preChargeDone :=
  .ite .refl ((Stays.refl.setSys.run contactorOp_frame).foldl fun hd hs =>
    .ite (hs.run (requestMode_frame (lt_of_mem_loops hd))) hs)

theorem preChargeFail_frame : Stays [.bar, .sys] [.cell F.SYS_START_ROLE_FAIL, .cell F.SYS_START_ROLE_TRIES] s s.preChargeFail :=
  .ite .refl (Stays.refl.run acDrop_frame).wrb.wr.setSys

theorem preChargeRetry_frame : Stays [.bar, .sys] [] s s.preChargeRetry := .ite acPreCharge_frame .refl

theorem preCoilOff_frame : Stays [.bar, .sys] [] s s.preCoilOff := .ite (Stays.refl.setSys.run contactorOp_frame) .refl

theorem stackAvailable_frame : Stays [.sys] [] s s.stackAvailable := .ite Stays.refl.setSys .refl

/-- Registers that show a group's test results (R266). -/
def reachResult : List Reach :=
  [.family (F.PRT_GRP_TEST_DESAT 0), .family (F.PRT_GRP_TEST_HS 0), .family (F.PRT_GRP_TEST_ADC 0), .family (F.PRT_GRP_TEST_GATE 0),
    .family (F.PRT_GRP_TEST_SOFT 0), .family (F.PRT_GRP_TEST_BIAS 0)]

theorem reachResult_group (g : Fin 8) (kind : Nat) : Holds reachResult (testField g kind) := by
  unfold testField
  split <;> (revert g; decide)

theorem testResult_frame {g kind code : Nat} (hg : g < 8) : Stays [.prt] reachResult s (s.testResult g kind code) :=
  (Stays.ite .refl (Stays.refl.wr (reachResult_group ⟨g, hg⟩ kind))).setPrt

theorem selfTestTimeout_frame : Stays [.prt] reachResult s s.selfTestTimeout :=
  Stays.refl.foldl fun hg hs => hs.foldl fun _ hs => hs.trans (testResult_frame (of_decide_eq_true (List.mem_filter.mp hg).2))

/-! ### Loads: frames that leave the registers open -/

/-- An operation of closed parts, where the frame leaves every register open. -/
theorem Stays.within (h : Stays ps [.all] o s) (k : Stays qs os s t) (hp : ∀ p ∈ qs, p ∈ ps := by decide) : Stays ps [.all] o t :=
  h.trans ⟨k.pending, fun p hn => k.parts p fun hm => hn (hp p hm), fun _ held => nomatch held⟩

/-- A start value of a register, in its stores alike (R38, R67). -/
theorem Stays.load (h : Stays ps [.all] o s) {k v} (hp : ∀ p ∈ [Part.shadow, .tbuf], p ∈ ps := by decide) :
    Stays ps [.all] o (s.load k v) :=
  h.trans ⟨rfl, fun p hn => by cases p <;> first | rfl | exact absurd (hp _ (by decide)) hn, fun _ held => nomatch held⟩

theorem Stays.ld (h : Stays ps [.all] o s) {f v} (hp : ∀ p ∈ [Part.shadow, .tbuf], p ∈ ps := by decide) : Stays ps [.all] o (s.ld f v) :=
  h.load hp

theorem Stays.ldb (h : Stays ps [.all] o s) {f b} (hp : ∀ p ∈ [Part.shadow, .tbuf], p ∈ ps := by decide) :
    Stays ps [.all] o (s.ldb f b) :=
  h.load hp

/-- The parts of the register stores beside the live values. -/
def partsStore : List Part := [.shadow, .tbuf]

theorem loadInit_frame {scope : Nat} : Stays partsStore [.all] s (s.loadInit scope) := Stays.refl.foldl fun _ hs => hs.load

theorem loadInitRole_frame : Stays partsStore [.all] s s.loadInitRole := Stays.refl.foldl fun _ hs => hs.load

theorem Stays.ldWord (hs : Stays partsStore [.all] o s) {addr w : Nat} : Stays partsStore [.all] o (s.ldWord addr w) := by
  unfold State.ldWord
  split
  · exact hs
  · exact hs.foldl fun _ hs => .ite hs.load hs

theorem loadLoop_frame {d : LoopDecl} : Stays partsStore [.all] s (s.loadLoop d) :=
  (((((Stays.refl.ld.ld.ldb.ldb.ldb.ld.ld.ld.ld).foldl fun _ hs => hs.ld).foldl fun _ hs => hs.ld.ld).foldl
    fun _ hs => hs.ld.ld.ld.ldb.ldb).foldl fun _ hs => hs.ldWord.ldWord.ldWord.ld).foldl fun _ hs => hs.ld

theorem showBound_frame : Stays [.gd] [.all] s s.showBound :=
  ((Stays.refl.wr.wr.foldl fun _ hs => hs.wr).foldl fun _ hs => hs.wrb.wrb.wr.setGd.wrb).wr

theorem loadSensors_frame : Stays partsStore [.all] s s.loadSensors :=
  ((((Stays.refl.foldl fun _ hs => hs.ld.ldb.ld).foldl fun _ hs => hs.ld).foldl fun _ hs => hs.ld).ld.ld.ld.foldl fun _ hs =>
    hs.ldb.ld.ldb.ld.ld.ld.ld.ld.ld.ldb.ld.ldb.thru fun hs => by
      dsimp only
      split
      · exact hs.ldb
      · exact hs).ld.ld.wr

theorem loadSafety_frame : Stays partsStore [.all] s s.loadSafety :=
  (Stays.refl.foldl fun _ hs => hs.ld.ld.ld.ld.ld).foldl fun _ hs => hs.wrb

/-- The parts that the load of a role section changes (R38). -/
def partsLoad : List Part := [.bil, .gd, .pair, .pat, .que, .saf, .shadow, .sht, .tbuf]

theorem loadParams_frame : Stays partsLoad [.all] s s.loadParams := by
  have put {u : State} {l : List (Nat × Nat)} (hs : Stays partsLoad [.all] s u) :
      Stays partsLoad [.all] s (l.foldl (fun (s : State) e => s.load e.1 e.2) u) := hs.foldl fun _ hs => hs.load
  unfold State.loadParams
  extract_lets store stored
  have hs : Stays partsLoad [.all] s stored := put .refl
  split
  · exact hs.wr
  · exact .ite (put hs).wr (hs.setPat.wr.within (safLog_frame _ _ _ _ _ _ _ _ _))

theorem startGroups_frame : Stays [.gd, .sht] [.all] s s.startGroups :=
  Stays.refl.foldl fun hg hs => by
    split
    · exact hs
    · exact ((hs.within (setGst_frame (lt_of_mem_groups hg))).wr.wrb).within holdFor_frame

theorem sendChunks_frame {kind : Nat} {head bytes : List Nat} : Stays [.que] reachQ1 s (s.sendChunks kind head bytes) :=
  Stays.refl.foldl fun _ hs => hs.trans toQ1_frame

theorem offerSections_frame : Stays [.que] reachQ1 s s.offerSections := Stays.refl.foldl fun _ hs => hs.trans sendChunks_frame

theorem mirrorBil_frame : Stays [] [.all] s s.mirrorBil :=
  (Stays.refl.wr64.wr64.wr64.wr64.wr64.wrsat.wrsat.wrsat.wrsat.wrsat.wr.wr64.wr.foldl fun _ hs =>
    hs.wr64.wr64).wrb.wrb.wrb.wrb.wrb.wr.wr.wrb.wr.wrb.wr.wr.wr.wrb.wrb.wrb.wrb.wrb

/-- The load of a role section (R38, R179). -/
theorem loadRole_frame {inst partner : Nat} : Stays partsLoad [.all] s (s.loadRole inst partner) := by
  unfold State.loadRole
  extract_lets pat pair named role looped planned sensed saved bound told predicted groups budget words link shadowed bil kept sent
  have hs : Stays partsLoad [.all] s looped := Stays.refl.set.foldl fun _ hs => hs.within loadLoop_frame
  have hs : Stays partsLoad [.all] s planned := .ite (hs.foldl fun _ hs => hs.load) hs
  have hs : Stays partsLoad [.all] s sensed := ((hs.within loadInitRole_frame).within loadInit_frame).within loadSensors_frame
  have hs : Stays partsLoad [.all] s saved := (hs.within loadParams_frame).within loadSafety_frame
  have hs : Stays partsLoad [.all] s bound := (hs.within showBound_frame).within startGroups_frame
  have hs : Stays partsLoad [.all] s shadowed := hs.ld.ld.ld.ld.ld.wr.ld.ldb.ldb.wrb
  have hs : Stays partsLoad [.all] s kept := hs.setBil
  have hs : Stays partsLoad [.all] s sent := .ite (hs.within sendChunks_frame) hs
  exact hs.showSealed.within mirrorBil_frame

theorem copySections_frame : Stays partsLoad [.all] s s.copySections := Stays.refl.setPat.showSealed.within offerSections_frame

/-- The parts that the entry of an image for the unit changes (R35, R38). -/
def partsEntry : List Part := .trg :: partsLoad

theorem takeEntry_frame : Stays partsEntry [.all] s s.takeEntry := by
  unfold State.takeEntry
  split
  · exact Stays.refl.wr.within (configError_frame _ _ _)
  · exact .ite Stays.refl.wr ((Stays.refl.within copySections_frame).thru fun hs => .ite hs (hs.within loadRole_frame))

theorem takeStrap_frame : Stays partsEntry [.all] s s.takeStrap := by
  unfold State.takeStrap
  extract_lets strap cleared trg sealed_ take
  have hs : Stays partsEntry [.all] s sealed_ := (Stays.refl.wr.wr.wr.setTrg.within loadInit_frame).showSealed
  have taken {u : State} (hs : Stays partsEntry [.all] s u) : Stays partsEntry [.all] s (take u) := hs.wr.wr
  refine .ite hs (.ite (hs.within (configError_frame _ _ _)) (.ite (taken hs) ?_))
  split
  · exact hs.wr.within (configError_frame _ _ _)
  · exact (taken hs).within takeEntry_frame

/-! ### The start of a unit -/

theorem loadSlot_frame {n : Nat} : Stays [.pat] [.all] s (s.loadSlot n) := Stays.refl.setPat.wr.wr.wr.wrb

theorem loadGolden_frame : Stays [.pat] [.all] s s.loadGolden := Stays.refl.setPat.wr.wr.wr

theorem selectImage_frame {memA memB : Bool} : Stays [.pat] [.all] s (s.selectImage memA memB) := by
  have slot {u : State} {n : Nat} (hs : Stays [.pat] [.all] s u) := hs.trans (loadSlot_frame (n := n))
  exact (Stays.ite Stays.refl.setPat .refl).thru fun hs => .ite (slot hs).wrb.wrb.setPat ((Stays.ite hs.wr hs).thru fun hs =>
    .ite (slot hs) ((Stays.ite hs.wr hs).thru fun hs => .ite (slot hs).wrb (hs.wr.trans loadGolden_frame)))

theorem startUpdate_frame : Stays [.pat] reachUpdate s s.startUpdate := Stays.refl.setPat.showUpdate

/-- The parts that the first steps of a start change (R38, R510 to R512). -/
def partsFirst : List Part := partsLife ++ ([.trg] : List Part)

theorem startLife_frame {dbgLow : Bool} : Stays partsFirst [.all] s (s.startLife dbgLow) :=
  Stays.refl.setKey.thru fun hs => (Stays.ite (hs.within destroyKeys_frame) hs).thru fun hs => .ite (hs.within changeLife_frame) hs

theorem issueCompat_frame : Stays [.key] [] s s.issueCompat := .ite .refl Stays.refl.setKey

theorem startFirst_frame : Stays partsFirst [.all] s s.startFirst :=
  Stays.refl.wrb.thru fun hs => .ite hs (hs.setSys.thru fun hs => (Stays.ite hs.setKey hs).thru fun hs =>
    .ite hs (((hs.within issueCompat_frame).setMet.foldl fun _ hs => hs.wr).wr.wr.wr.wr.wr.wr.wr.wr))

theorem startPartition_frame {ok : Bool} : Stays partsFirst [.all] s (s.startPartition ok) :=
  .ite Stays.refl.setMet (.ite .refl (Stays.refl.within selStart_frame))

theorem barRestore_frame : Stays [.bar] [.all] s s.barRestore := by
  unfold State.barRestore
  dsimp only
  split
  · exact Stays.refl.wrb.setBar
  · exact .ite Stays.refl.wrb Stays.refl.wrb.setBar

theorem benchRestore_frame : Stays [] [.all] s s.benchRestore := Stays.refl.wrb.wr.wr.within showHist_frame

theorem showSafety_frame : Stays [] [.all] s s.showSafety := by
  unfold State.showSafety
  dsimp only
  split
  · exact Stays.refl.wr.wrb.wrb.wr.wr.wrb
  · exact Stays.refl.wr.wrb.wrb.wr.wr.wrb

theorem safetyResync_frame : Stays [.saf] [.all] s s.safetyResync := Stays.refl.setSaf.foldl fun _ hs => hs.wr

/-- The parts that the load of a unit changes (R510). -/
def partsStartLoad : List Part := .bar :: partsEntry

theorem startLoad_frame {memA memB : Bool} : Stays partsStartLoad [.all] s (s.startLoad memA memB) := by
  unfold State.startLoad
  extract_lets shown taken safe
  have hs : Stays partsStartLoad [.all] s shown :=
    ((((Stays.refl.within barRestore_frame).within selectImage_frame).within startUpdate_frame).within showBound_frame).within
      (Stays.showKeys (ps := []) .refl)
  have hs : Stays partsStartLoad [.all] s safe := (hs.within takeStrap_frame).wrb
  exact ((hs.within safetyResync_frame).within showSafety_frame).within benchRestore_frame

/-- The parts that a start changes (R510 to R512). -/
def partsStart : List Part :=
  [.que, .bar, .sys, .pat, .gd, .sht, .pair, .trg, .mrk, .clk, .met, .bil, .key, .saf, .drawn, .shadow, .tbuf]

theorem startBegin_frame {straps bist rtc : Nat} {selOk memA memB dbgLow : Bool} :
    Stays partsStart [.all] s (s.startBegin straps bist selOk rtc memA memB dbgLow) := by
  unfold State.startBegin
  split
  · exact .refl
  extract_lets timed sys begun shown lived started loaded sys' bar clk running counted told
  have hs : Stays partsStart [.all] s shown := Stays.refl.setRtc.setSys.wr.wr.wr.wr
  have hs : Stays partsStart [.all] s lived := (hs.within startLife_frame).within startFirst_frame
  have hs : Stays partsStart [.all] s started := hs.wr.within startPartition_frame
  have hs : Stays partsStart [.all] s loaded := hs.within startLoad_frame
  clear_value loaded
  have hs : Stays partsStart [.all] s running := hs.set
  have hs : Stays partsStart [.all] s counted := hs.inc.wr
  have hs : Stays partsStart [.all] s told := hs.within (event_frame _ _ _)
  exact .ite .refl (.ite (hs.within (Stays.bench .refl)) hs)

/-! ### Floaters -/

theorem startForming_frame : Stays [.pair, .th] [.all] s s.startForming :=
  .ite .refl (.ite Stays.refl.setPairState (Stays.refl.setPairState.wr.wr.wr.set.setPair))

/-- The parts that the end of a role changes (R16, R29). -/
def partsDrop : List Part := [.sys, .pat, .gd, .sht, .pair, .mrk, .th, .met, .saf, .vlk, .shadow, .tbuf]

theorem dropRole_frame : Stays partsDrop [.all] s s.dropRole := by
  unfold State.dropRole
  extract_lets dropped unnamed bare
  have hs := Stays.refl.within (ps := partsDrop) (Stays.dropClaim (s := s) (st := psNone) .refl)
  have hs : Stays partsDrop [.all] s bare := hs.ld.ld.wr
  clear_value bare
  exact hs.set

/-- The parts that a floater's place changes (R28, R29). -/
def partsFloat : List Part := [.que, .sys, .pat, .gd, .sht, .pair, .mrk, .th, .met, .bil, .saf, .vlk, .shadow, .tbuf]

theorem becomeSpare_frame : Stays partsDrop [.all] s s.becomeSpare := Stays.refl.setPat.within dropRole_frame

theorem floaterJoin_frame {r : RoleDecl} {member : Nat} : Stays partsFloat [.all] s (s.floaterJoin r member) := by
  unfold State.floaterJoin
  extract_lets other loaded valid placed
  have hs : Stays partsFloat [.all] s placed := (Stays.refl.within loadRole_frame).wrb.wr.wr.wr
  exact hs.within startForming_frame

theorem placeFloater_frame {report : List Nat} {f : Nat} : Stays [.mrk] [] s (State.placeFloater report s f) := by
  unfold State.placeFloater
  split
  · exact .refl
  · exact Stays.refl.setMrk

theorem floaterOwn_frame {given : List (Nat × Nat × Nat)} : Stays partsFloat [.all] s (s.floaterOwn given) := by
  unfold State.floaterOwn
  split
  · split
    · refine .ite .refl ?_
      split
      · exact floaterJoin_frame
      · exact .refl
    · exact .refl
  · exact .ite (Stays.refl.within becomeSpare_frame) .refl

theorem floaterReport_frame {report : List Nat} {taken : List (Nat × Nat × Nat)} :
    Stays partsFloat [.all] s (s.floaterReport report taken) :=
  .ite .refl (((Stays.ite .refl Stays.refl.setMrk).foldl fun _ hs => hs.within placeFloater_frame).trans floaterOwn_frame)

theorem floaterLeave_frame : Stays partsDrop [.all] s s.floaterLeave :=
  (Stays.refl.setMrk.within dropRole_frame).wrb.wr.wr.wr

/-- The parts that the release of a floater changes (R29). -/
def partsRelease : List Part := .hbi :: partsDrop

theorem pairRelease_frame {side : Nat} : Stays partsRelease [.all] s (s.pairRelease side) :=
  .ite (Stays.refl.within (accessError_frame _ _ _ _ _)) (.ite Stays.refl.setPair (Stays.refl.within floaterLeave_frame))

/-- The parts that the end of a benching changes (R502). -/
def partsUnbench : List Part := [.hbi, .que, .bar, .pat, .gd, .sht, .pair, .trg, .th, .bil, .saf, .shadow, .tbuf]

theorem unbench_frame {side : Nat} : Stays partsUnbench [.all] s (s.unbench side) := by
  have refused {code} : Stays partsUnbench [.all] s (s.accessError side code barCmdAddr) := Stays.refl.within (accessError_frame _ _ _ _ _)
  unfold State.unbench
  extract_lets bar pat cleared told rejoined
  have hs : Stays partsUnbench [.all] s cleared := Stays.refl.set.within benchRestore_frame
  clear_value cleared
  have hs : Stays partsUnbench [.all] s told := hs.wrb.within (event_frame _ _ _)
  clear_value told
  have hs : Stays partsUnbench [.all] s rejoined := .ite ((hs.within takeEntry_frame).within startForming_frame) hs
  exact .ite refused (.ite refused (.ite (hs.setPairState.within startForming_frame) hs))

/-- Settles O45: each command's meaning has a frame, which lies within the named parts and registers. -/
theorem frameOfStartAndUpdate : Obligations.FrameOfStartAndUpdate :=
  ⟨keeps_of (fun _ => rfl) fun _ => powerOn_frame,
    fun _ _ _ _ _ _ _ => keeps_of (fun _ => rfl) fun _ => startBegin_frame,
    keeps_of (fun _ => rfl) fun _ => brownOut_frame,
    keeps_of (fun _ => rfl) fun _ => earlyWarningOn_frame,
    keeps_of (fun _ => rfl) fun _ => earlyWarningOff_frame,
    keeps_of (fun _ => rfl) fun _ => mainReset_frame,
    fun _ _ => keeps_of (fun _ => rfl) fun _ => command_stays fun _ => sysReset_frame,
    fun _ _ => keeps_of (fun _ => rfl) fun _ => command_stays (ps := partsReset) (rs := reachKeyedReset) fun _ => Stays.refl.run recallReset_frame,
    fun _ => keeps_of (fun _ => rfl) fun _ => selfTest_frame,
    fun _ => keeps_of (fun _ => rfl) fun _ => formingTimeout_frame,
    keeps_of (fun _ => rfl) fun _ => roleStart_frame,
    keeps_of (fun _ => rfl) fun _ => preChargeDone_frame,
    keeps_of (fun _ => rfl) fun _ => preChargeFail_frame,
    keeps_of (fun _ => rfl) fun _ => preChargeRetry_frame,
    fun _ _ => keeps_of (fun _ => rfl) fun _ => patCommand_stays fun _ => patOpen_frame,
    fun _ _ => keeps_of (fun _ => rfl) fun _ => patCommand_stays fun _ => patVerify_frame,
    fun _ => keeps_of (fun _ => rfl) fun _ => verifyDone_frame,
    fun _ _ => keeps_of (fun _ => rfl) fun _ => patCommand_stays fun _ => patArm_frame,
    fun _ _ => keeps_of (fun _ => rfl) fun _ => patCommand_stays fun _ => patArm_frame,
    fun _ _ => keeps_of (fun _ => rfl) fun _ => patCommand_stays fun _ => patCommit_frame,
    fun _ _ => keeps_of (fun _ => rfl) fun _ => patCommand_stays fun _ => patAbort_frame,
    fun _ _ => keeps_of (fun _ => rfl) fun _ => command_stays fun _ => patSeal_frame,
    keeps_of (fun _ => rfl) fun _ => .ite .refl endUpdate_frame,
    keeps_of (fun _ => rfl) fun _ => trialExpiry_frame,
    keeps_of (fun _ => rfl) fun _ => .ite leave_frame .refl,
    fun _ => keeps_of (fun _ => rfl) fun _ => scrubWord_frame,
    fun _ _ => keeps_of (fun _ => rfl) fun _ => floaterReport_frame,
    fun _ _ => keeps_of (fun _ => rfl) fun _ => command_stays fun _ => pairRelease_frame,
    keeps_of (fun _ => rfl) fun _ => .ite floaterLeave_frame .refl,
    keeps_of (fun _ => rfl) fun _ => leave_frame,
    fun _ => keeps_of (fun _ => rfl) fun _ => clockMonitor_frame,
    fun _ => keeps_of (fun _ => rfl) fun _ => pllLoss_frame,
    keeps_of (fun _ => rfl) fun _ => rtcLoss_frame,
    fun _ _ _ => keeps_of (fun _ => rfl) fun _ => vbatMeasure_frame,
    fun _ => keeps_of (fun _ => rfl) fun _ => supplySwitch_frame,
    keeps_of (fun _ => rfl) fun _ => aonReset_frame,
    fun _ _ => keeps_of (fun _ => rfl) fun _ => lullMessage_frame,
    fun _ => keeps_of (fun _ => rfl) fun _ => lullEntry_frame,
    fun _ _ => keeps_of (fun _ => rfl) fun _ => hostWake_frame,
    keeps_of (fun _ => rfl) fun _ => plugWake_frame,
    fun _ => keeps_of (fun _ => rfl) fun _ => wakeComplete_frame,
    fun _ => keeps_of (fun _ => rfl) fun _ => retentionScrub_frame,
    keeps_of (fun _ => rfl) fun _ => baroSave_frame,
    keeps_of (fun _ => rfl) fun _ => baroDaily_frame,
    fun _ _ => keeps_of (fun _ => rfl) fun _ => barSnapshot_frame,
    fun _ _ => keeps_of (fun _ => rfl) fun _ => command_stays fun _ => unbench_frame,
    keeps_of (fun _ => rfl) fun _ => suspectExpiry_frame,
    keeps_of (fun _ => rfl) fun _ => selfTestTimeout_frame,
    keeps_of (fun _ => rfl) fun _ => preCoilOff_frame,
    keeps_of (fun _ => rfl) fun _ => stackAvailable_frame,
    fun _ => keeps_of (fun _ => rfl) fun _ => .ite wakeBy_frame .refl,
    keeps_of (fun _ => rfl) fun _ => memoryFault_frame⟩

end Sys2Proof.Machine

namespace Sys2Proof.Machine
open Sys2Proof
-- Proofs in sequence, as above: waiting threads' stacks take memory.
set_option Elab.async false
variable {ps qs : List Part} {rs os : List Reach} {o s t : State}

/-! ### Accesses: addresses whose access is no command, and refused accesses -/

/-- The command registers of every block. -/
def commandAddrs : List Nat :=
  [sysCmdAddr, rtackAddr, credCmdAddr, patCmdAddr, trgCtrlAddr, mrkCtrlAddr, prtCmdAddr, vlkCtrlAddr, 0x2200C, keyCmdAddr, pairCmdAddr,
    safCmdAddr, mbxCtrlAddr, clkCmdAddr, barCmdAddr] ++ (List.range 8).map modeReqAddr

/-- The registers beside LEVEL whose write does more than their access codes say. -/
def specialAddrs : List Nat :=
  [F.HBI_TACK_MASK.addr, F.HBI_IDX_ADDR.addr, F.HBI_IDX_DATA.addr, F.HBI_IDX_CTRL_INC.addr, curtailAddr, F.MRK_CURTAIL_HOLD_HOLD.addr,
    F.KEY_CERT_DATA.addr] ++ (List.range 8).map (fun m => (F.SHT_LOOP_STATUS_PLS_FAULT m).addr) ++
    (List.range 32).map fun e => (F.SHT_RC_CFG_CLEAR e).addr

/-- The registers whose read is a command. -/
def readAddrs : List Nat :=
  [(F.HBI_CRED_CHAL 0).addr, F.HBI_IDX_DATA.addr, F.QUE_TRACE_DATA.addr, F.KEY_CERT_DATA.addr, (F.KEY_ENROL_DATA 11).addr]

theorem beq_ne_of_not_mem {a k : Nat} {l : List Nat} (other : a ∉ l) (hk : k ∈ l) : ¬(a == k) = true := by
  rw [beq_iff_eq]
  rintro rfl
  exact other hk

theorem commandWrite_none {side : Side} {a v time : Nat} {fresh : Bool} (other : a ∉ commandAddrs) :
    s.commandWrite side a v time fresh = none := by
  unfold State.commandWrite
  iterate 15 refine (if_neg (beq_ne_of_not_mem other (by decide))).trans ?_
  have none : (List.finRange 8).find? (fun m : Fin 8 => a == modeReqAddr m.val) = none :=
    List.find?_eq_none.mpr fun m _ => beq_ne_of_not_mem other
      (List.mem_append_right _ (List.mem_map_of_mem (List.mem_range.mpr m.isLt)))
  rw [none]

theorem specialWrite_none {side : Side} {a v : Nat} (level : a ≠ blockBase (blockOf a)) (other : a ∉ specialAddrs) :
    s.specialWrite side a v = none := by
  unfold State.specialWrite
  refine (if_neg (by simpa using level)).trans ?_
  iterate 7 refine (if_neg (beq_ne_of_not_mem other (by decide))).trans ?_
  have loops : (List.finRange 8).find? (fun m : Fin 8 => a == (F.SHT_LOOP_STATUS_PLS_FAULT m.val).addr) = none :=
    List.find?_eq_none.mpr fun m _ => beq_ne_of_not_mem other
      (List.mem_append_left _ (List.mem_append_right _ (List.mem_map.mpr ⟨m, List.mem_range.mpr m.isLt, rfl⟩)))
  have lanes : (List.finRange 32).find? (fun e : Fin 32 => a == (F.SHT_RC_CFG_CLEAR e.val).addr) = none :=
    List.find?_eq_none.mpr fun e _ => beq_ne_of_not_mem other
      (List.mem_append_right _ (List.mem_map.mpr ⟨e, List.mem_range.mpr e.isLt, rfl⟩))
  rw [loops]
  dsimp only
  rw [lanes]

/-- A write that starts no command is a plain one (R64). -/
theorem writeWord_plain {side : Side} {a v time : Nat} {fresh : Bool} (low : a < 0x40000)
    (command : s.commandWrite side a v time fresh = none) (special : s.specialWrite side a v = none) :
    s.writeWord side a v time fresh = s.writeReg side a v := by
  rw [State.writeWord, if_neg (Nat.not_le.mpr low), command, special]

theorem readWord_plain {side : Side} {a : Nat} (low : a < 0x40000) (other : a ∉ readAddrs) : s.readWord side a = s.readReg side a := by
  unfold State.readWord
  refine (if_neg (Nat.not_le.mpr low)).trans ?_
  iterate 5 refine (if_neg (beq_ne_of_not_mem other (by decide))).trans ?_
  rfl

/-- Every register that a command or a special access lies at is mapped. -/
theorem commands_mapped {k : Nat} (hk : k ∈ commandAddrs ++ specialAddrs ++ readAddrs) : (regAt k).isSome = true := by
  revert k
  decide

theorem unmapped_plain {a : Nat} (unmapped : regAt a = none) : a ∉ commandAddrs ∧ a ∉ specialAddrs ∧ a ∉ readAddrs := by
  have other : a ∉ commandAddrs ++ specialAddrs ++ readAddrs := fun h => by simpa [unmapped] using commands_mapped h
  simpa [not_or, and_assoc] using other

theorem lullBlocks_awake (awake : s.inLull = false) (a : Nat) : s.lullBlocks a = false := by
  simp [State.lullBlocks, awake]

/-- An access of a side was refused with a code at an address, and recorded (R88). -/
structure Refused (side code addr : Nat) (t : State) : Prop where
  refused : t.hbi.refused = some code
  code : t.rd F.HBI_ERR_INFO_CODE = code % 2 ^ 4
  addr : t.rd F.HBI_ERR_ADDR = addr % 2 ^ 32
  errN : side = 0 → t.hbi.errN = true

/-- What a register reads after a refused access: the record's own five are written (R88). -/
theorem rd_accessError (s : State) (side code addr path : Nat) (f : Field) : (s.accessError side code addr path).rd f =
    (((((s.wr F.HBI_ERR_INFO_CODE code).wr F.HBI_ERR_INFO_SIDE (if side == 0 then 1 else 2)).wr F.HBI_ERR_INFO_PATH path).wr
      F.HBI_ERR_ADDR addr).inc F.HBI_ERR_COUNT).rd f := by
  unfold State.accessError
  split <;> rfl

theorem accessError_refused (s : State) (side code addr path : Nat) : Refused side code addr (s.accessError side code addr path) where
  refused := by
    unfold State.accessError
    split <;> rfl
  code := by
    rw [rd_accessError]
    simp (disch := decide) only [State.rd_inc_ne, State.rd_wr_ne, State.rd_wr, F.HBI_ERR_INFO_CODE]
  addr := by
    rw [rd_accessError]
    simp (disch := decide) only [State.rd_inc_ne, State.rd_wr, F.HBI_ERR_ADDR]
  errN host := by simp [State.accessError, host]

theorem drive_frame {side v : Nat} : Stays [.hbi] [] s (s.drive side v) := .ite Stays.refl.setHbi .refl

theorem drive_live (s : State) (side v : Nat) : (s.drive side v).live = s.live := by
  unfold State.drive
  split <;> rfl

theorem drive_hbi (s : State) (side v : Nat) :
    (s.drive side v).hbi.refused = s.hbi.refused ∧ (s.drive side v).hbi.errN = s.hbi.errN := by
  unfold State.drive
  split <;> exact ⟨rfl, rfl⟩

theorem Refused.drive {side code addr v : Nat} (h : Refused side code addr s) : Refused side code addr (s.drive side v) := by
  obtain ⟨refused, errN⟩ := drive_hbi s side v
  exact ⟨refused.trans h.refused, (rd_drive ..).trans h.code, (rd_drive ..).trans h.addr, fun host => errN.trans (h.errN host)⟩

/-! ### Addresses that hold no register -/

theorem plainRead_unmapped {side a : Nat} (awake : s.inLull = false) (unmapped : regAt a = none) :
    s.plainRead side a = .error eAddr := by
  simp [State.plainRead, lullBlocks_awake awake, unmapped]

theorem writeRefusal_unmapped {side a v : Nat} (awake : s.inLull = false) (unmapped : regAt a = none) :
    s.writeRefusal side a v = some eAddr := by
  simp [State.writeRefusal, lullBlocks_awake awake, unmapped]

theorem registerRead_unmapped {side : Side} {a : Nat} (low : a < 0x40000) (awake : s.inLull = false) (unmapped : regAt a = none) :
    s.registerRead side a = (s.accessError side eAddr a).drive side 0 := by
  rw [State.registerRead, readWord_plain low (unmapped_plain unmapped).2.2, State.readReg, plainRead_unmapped awake unmapped]

theorem writeReg_refused {side a v code path : Nat} (h : s.writeRefusal side a v = some code) :
    s.writeReg side a v path = s.accessError side code a path := by
  rw [State.writeReg, h]

theorem writeWord_unmapped {side : Side} {a v time : Nat} {fresh : Bool} (low : a < 0x40000) (level : a ≠ blockBase (blockOf a))
    (awake : s.inLull = false) (unmapped : regAt a = none) : s.writeWord side a v time fresh = s.accessError side eAddr a := by
  obtain ⟨command, special, -⟩ := unmapped_plain unmapped
  rw [writeWord_plain low (commandWrite_none command) (specialWrite_none level special),
    writeReg_refused (writeRefusal_unmapped awake unmapped)]

/-- Settles O58: a read or a write of such an address comes down to the refused access with ADDR. -/
theorem unmappedAddresses : Obligations.UnmappedAddresses := by
  intro side a v time fresh s low unmapped level awake
  have word : a.toNat % 2 ^ 32 = a.toNat := Nat.mod_eq_of_lt a.isLt
  have record := accessError_frame s side eAddr a.toNat 0
  refine ⟨answers_of_eq rfl (registerRead_unmapped low awake unmapped) ?_, answers_of_eq rfl (writeWord_unmapped low level awake unmapped) ?_⟩
  · obtain ⟨refused, code, addr, errN⟩ := (accessError_refused s side eAddr a.toNat 0).drive (v := 0)
    refine ⟨fun host => ?_, refused, code, addr.trans word, fun host => errN (congrArg _ host), Stays.trans record (Stays.refl.run drive_frame)⟩
    subst host
    rfl
  · obtain ⟨refused, code, addr, errN⟩ := accessError_refused s side eAddr a.toNat 0
    exact ⟨refused, code, addr.trans word, fun host => errN (congrArg _ host), record⟩

end Sys2Proof.Machine

namespace Sys2Proof.Machine
open Sys2Proof
-- Proofs in sequence, as above: waiting threads' stacks take memory.
set_option Elab.async false
variable {ps qs : List Part} {rs os : List Reach} {o s t : State}

/-! ### Plain writes -/

/-- A direct address whose write is no command and nothing special. -/
structure PlainAddr (a : Nat) : Prop where
  low : a < 0x40000
  command : a ∉ commandAddrs
  level : a ≠ blockBase (blockOf a)
  special : a ∉ specialAddrs

theorem PlainAddr.writeWord {a : Nat} (h : PlainAddr a) {side : Side} {v time : Nat} {fresh : Bool} :
    s.writeWord side a v time fresh = s.writeReg side a v :=
  writeWord_plain h.low (commandWrite_none h.command) (specialWrite_none h.level h.special)

/-- The registers that a binding refuses to have written: of half-bridges, ADCs and auxiliary outputs (R203, R240). -/
def boundAddrs : List Nat :=
  (List.range 12).flatMap (fun n => [(F.PWM_HB_CMP_ON_CMP_ON n).addr, (F.PWM_HB_CMP_OFF_CMP_OFF n).addr]) ++
    (List.range 16).map (fun a => (F.PWM_ADC_CFG_BURST a).addr) ++ (List.range 6).map fun a => (F.GDA_HB_DUTY_DUTY a).addr

/-- The state of the unit refuses no register that is neither bound nor a planning register. -/
theorem stateRefusal_free {a : Nat} {r : RegDef} (unbound : a ∉ boundAddrs) (outside : a < 0x4010 ∨ 0x5000 ≤ a)
    (placed : r.placed) : s.stateRefusal a r = false := by
  simp only [boundAddrs, List.mem_append, List.mem_flatMap, List.mem_map, List.mem_range, List.mem_cons, List.not_mem_nil, or_false,
    not_or, not_exists, not_and] at unbound
  obtain ⟨⟨compare, adc⟩, duty⟩ := unbound
  have planning : r.fields.any (fun f => planningKey (32 * a + f.lsb)) = false := List.any_eq_false.mpr fun f hf => by
    have low := placed.1 f hf
    have word : (32 * a + f.lsb) / 32 = a := by omega
    rw [planningKey, word]
    rcases outside with below | above
    · simp [Nat.not_le.mpr below]
    · simp [Nat.not_lt.mpr above]
  have free : (List.range 12).any (fun n => (a == (F.PWM_HB_CMP_ON_CMP_ON n).addr || a == (F.PWM_HB_CMP_OFF_CMP_OFF n).addr) &&
      (s.loopOfHb n).isSome) = false := List.any_eq_false.mpr fun n hn => by
    obtain ⟨on, off⟩ := compare n (List.mem_range.mp hn)
    simp [on, off]
  have adcs : (List.range 16).any (fun n => a == (F.PWM_ADC_CFG_BURST n).addr && s.loops.any fun d => bit d.adcMask n) = false :=
    List.any_eq_false.mpr fun n hn => by simp [Ne.symm (adc n (List.mem_range.mp hn))]
  have duties : (List.range 6).any (fun n => a == (F.GDA_HB_DUTY_DUTY n).addr && s.rdb (F.GDA_HB_CFG_BIND n)) = false :=
    List.any_eq_false.mpr fun n hn => by simp [Ne.symm (duty n (List.mem_range.mp hn))]
  simp [State.stateRefusal, free, adcs, duties, planning]

/-- Registers that an application of safety parameters changes (R446, R448). -/
def reachParams : List Reach := [.cell F.SAF_PARAM_CRC, .cell F.SAF_LOG_SEQ_LO, .cell F.SAF_LOG_SEQ_HI, .cell F.SAF_LOG_LOST]

theorem safLog_params {kind origin client cause oldCrc newCrc fields first : Nat} :
    Stays [.saf] reachParams s (s.safLog kind origin client cause oldCrc newCrc fields first) :=
  (Stays.ite .refl Stays.refl.inc).thru fun hs => hs.wr64.setSaf

theorem paramsApplied_params {old : State} : Stays [.pat, .saf] reachParams s (s.paramsApplied old) := by
  unfold State.paramsApplied
  dsimp only
  split
  · exact .refl
  · exact Stays.refl.wr.setPat.run safLog_params

/-- Where no live value changed, no parameter was applied. -/
theorem paramsApplied_same (h : t.live = s.live) : t.paramsApplied s = t := by
  unfold State.paramsApplied
  simp [h]

/-- Bits above a value's width do not meet it. -/
theorem high_and_low {n v : Nat} (k : Nat) (h : v < 2 ^ n) : k * 2 ^ n &&& v = 0 := by
  refine Nat.eq_of_testBit_eq fun i => ?_
  rw [Nat.testBit_and, Nat.testBit_mul_two_pow, Nat.zero_testBit]
  by_cases hi : n ≤ i
  · simp [Nat.testBit_lt_two_pow (Nat.lt_of_lt_of_le h (Nat.pow_le_pow_right (by decide) hi))]
  · simp [hi]

/-- An accepted plain write of a register of one field that is no safety parameter (R64). -/
theorem writeReg_field {side a v : Nat} {r : RegDef} {f : FieldDef} (allowed : s.writeRefusal side a v = none) (mapped : regAt a = some r)
    (one : r.fields = [f]) (plain : f.safety = false) :
    s.writeReg side a v = ((s.writeField a side v f).paramsApplied s).accepted side := by
  simp [State.writeReg, allowed, State.writeFields, mapped, one, plain]

/-- A write within the bits of a register of one field that no level and no credential guards is accepted (R64, R66, R80). -/
theorem writeRefusal_none {side a v : Nat} {r : RegDef} {f : FieldDef} (hears : s.lullBlocks a = false) (aligned : a % 4 = 0)
    (mapped : regAt a = some r) (one : r.fields = [f]) (writable : f.writable = true) (fits : r.reserved &&& v = 0)
    (plain : f.safety = false) (basic : f.expert = false) (free : s.stateRefusal a r = false) : s.writeRefusal side a v = none := by
  simp [State.writeRefusal, hears, aligned, mapped, one, writable, fits, List.filter_cons, FieldDef.isExpert, plain, basic, free]

/-- PWM_HB[n]_PERIOD: one BS field of 20 bits (R203). -/
def periodField : FieldDef := ⟨0, 20, .bs, 4000, false, false, false, some (800, 400000)⟩

theorem period_mapped (n : Fin 12) : regAt (F.PWM_HB_PERIOD_PERIOD n).addr = some ⟨0x10100, [(0x40, 12)], [periodField]⟩ := by
  revert n
  decide

theorem period_plain (n : Fin 12) : PlainAddr (F.PWM_HB_PERIOD_PERIOD n).addr where
  low := by revert n; decide
  command := by revert n; decide
  level := by revert n; decide
  special := by revert n; decide

/-- A write of PERIOD that its 20 bits hold is accepted. -/
theorem period_allowed {n : Fin 12} {side v : Nat} (awake : s.inLull = false) (small : v < 2 ^ 20) :
    s.writeRefusal side (F.PWM_HB_PERIOD_PERIOD n).addr v = none := by
  have unbound : (F.PWM_HB_PERIOD_PERIOD n).addr ∉ boundAddrs := by revert n; decide
  have outside : 0x5000 ≤ (F.PWM_HB_PERIOD_PERIOD n).addr := by revert n; decide
  have aligned : (F.PWM_HB_PERIOD_PERIOD n).addr % 4 = 0 := by revert n; decide
  exact writeRefusal_none (lullBlocks_awake awake _) aligned (period_mapped n) rfl rfl (high_and_low 0xFFF small) rfl rfl
    (stateRefusal_free unbound (.inr outside) (regAt_placed (period_mapped n)))

theorem period_at (n : Fin 12) (side : Nat) : (periodField.at (F.PWM_HB_PERIOD_PERIOD n).addr side).key = (F.PWM_HB_PERIOD_PERIOD n).key := by
  have shared : perSide (F.PWM_HB_PERIOD_PERIOD n).addr = false := by revert n; decide
  rw [FieldDef.at_key, shared]
  simp [Field.key, periodField, F.PWM_HB_PERIOD_PERIOD]

/-- It reaches the shadow and leaves every live value (R64, R67). -/
theorem period_written {n : Fin 12} {side v : Nat} (awake : s.inLull = false) (small : v < 2 ^ 20) :
    s.writeReg side (F.PWM_HB_PERIOD_PERIOD n).addr v = (s.writeField (F.PWM_HB_PERIOD_PERIOD n).addr side v periodField).accepted side ∧
      (s.writeField (F.PWM_HB_PERIOD_PERIOD n).addr side v periodField).live = s.live ∧
      (s.writeField (F.PWM_HB_PERIOD_PERIOD n).addr side v periodField).rdShadow (F.PWM_HB_PERIOD_PERIOD n) = v := by
  have live : (s.writeField (F.PWM_HB_PERIOD_PERIOD n).addr side v periodField).live = s.live := rfl
  have shadow : (s.writeField (F.PWM_HB_PERIOD_PERIOD n).addr side v periodField).shadow =
      SMap.set resetCell (periodField.at (F.PWM_HB_PERIOD_PERIOD n).addr side).key (periodField.bits v) s.shadow := rfl
  have bits : periodField.bits v = v := by simpa [FieldDef.bits, periodField] using small
  refine ⟨?_, live, ?_⟩
  · rw [writeReg_field (period_allowed awake small) (period_mapped n) rfl rfl, paramsApplied_same live]
  · rw [State.rdShadow, shadow, period_at, bits, SMap.get_set_same]

/-- HBI_PIN_TACK: one RW field of 16 bits (R92). -/
def pinTackField : FieldDef := ⟨0, 16, .rw, 0, false, false, false, none⟩

theorem pinTack_mapped : regAt 0x1010 = some ⟨0x1010, [], [pinTackField]⟩ := by decide

theorem pinTack_plain : PlainAddr 0x1010 := ⟨by decide, by decide, by decide, by decide⟩

theorem pinTack_at (side : Nat) : pinTackField.at 0x1010 side = F.HBI_PIN_TACK_MASK := by
  rw [FieldDef.at, if_neg (by decide)]
  rfl

/-- HBI answers in Lull too (R90). -/
theorem pinTack_hears : s.lullBlocks 0x1010 = false := by simp [State.lullBlocks, blockOf]

theorem pinTack_written {side v : Nat} (small : v < 2 ^ 16) :
    s.writeReg side 0x1010 v = ((s.wr F.HBI_PIN_TACK_MASK v).paramsApplied s).accepted side := by
  have free := stateRefusal_free (s := s) (a := 0x1010) (by decide) (.inl (by decide)) (regAt_placed pinTack_mapped)
  have bits : pinTackField.bits v = v := by simpa [FieldDef.bits, pinTackField] using small
  have allowed : s.writeRefusal side 0x1010 v = none :=
    writeRefusal_none pinTack_hears (by decide) pinTack_mapped rfl rfl (high_and_low 0xFFFF small) rfl rfl free
  have effect : s.writeField 0x1010 side v pinTackField = s.wr (pinTackField.at 0x1010 side) (pinTackField.bits v) := rfl
  rw [writeReg_field allowed pinTack_mapped rfl rfl, effect, pinTack_at, bits]

theorem accepted_refused (s : State) (side : Nat) : (s.accepted side).hbi.refused = none := by
  unfold State.accepted
  split <;> rfl

theorem accepted_live (s : State) (side : Nat) : (s.accepted side).live = s.live := by
  unfold State.accepted
  split <;> rfl

theorem accepted_shadow (s : State) (side : Nat) : (s.accepted side).shadow = s.shadow := by
  unfold State.accepted
  split <;> rfl

/-- A write of a register whose fields are all read-only is refused (R64). -/
theorem writeRefusal_readOnly {side a v : Nat} {r : RegDef} (hears : s.lullBlocks a = false) (aligned : a % 4 = 0)
    (mapped : regAt a = some r) (readOnly : r.fields.any (·.writable) = false) : s.writeRefusal side a v = some eRoWrite := by
  simp [State.writeRefusal, hears, aligned, mapped, readOnly]

/-! ### A plain read -/

/-- A plain read that is not refused (R64). -/
theorem readReg_value {side a : Nat} {r : RegDef} (hears : s.lullBlocks a = false) (aligned : a % 4 = 0) (mapped : regAt a = some r) :
    s.readReg side a = (s.value side a r, (s.clearRc a side r).accepted side) := by
  simp [State.readReg, State.plainRead, hears, aligned, mapped]

theorem pinTack_value {side : Nat} : s.value side 0x1010 ⟨0x1010, [], [pinTackField]⟩ = s.rd F.HBI_PIN_TACK_MASK := by
  have none : s.derived side 0x1010 = none := by simp [State.derived, blockOf, blockBase, F.BAR_LIFE_USED]
  have still : s.timed side 0x1010 = 0 := by
    simp [State.timed, F.MRK_LOCAL_LEASE_LEFT, F.PAT_TRIAL_LEFT, F.HBI_CRED_STATUS_LOCK_LEFT, F.VLK_IMD_STATUS_AGE, F.MRK_CURTAIL_HOLD_LEFT]
  have field : s.readField 0x1010 side pinTackField = s.rd F.HBI_PIN_TACK_MASK := congrArg s.rd (pinTack_at side)
  have low : pinTackField.lsb = 0 := rfl
  simp [State.value, none, still, field, low]

theorem pinTack_read {side : Side} : s.readWord side 0x1010 = (s.rd F.HBI_PIN_TACK_MASK, s.accepted side) := by
  rw [readWord_plain (by decide) (by decide), readReg_value pinTack_hears (by decide) pinTack_mapped, pinTack_value]
  simp [State.clearRc, pinTackField]

/-! ### A remote request of one read -/

theorem knowSession_open {session client : Nat} {observe operate : Bool} (opened : (s.session session).isOpen = true) :
    s.knowSession session client observe operate = s := if_pos opened

/-- The run of a request whose one operation reads a word that is not refused (R89, R111). -/
theorem op_reads {job : RemoteJob} {side : Side} {a time : Nat} {fresh : Bool} {x : Nat × State} (here : job ∈ s.trg.jobs)
    (open_ : s.goldenShuts a = false) (reads : ({ s with hbi.refused := none } : State).readWord side a = x)
    (sound : x.2.hbi.refused = none) :
    RemoteRun.op { s := s } side job [] time fresh 0 { count := 1, addr := a } = { s := x.2, words := [x.1], part := [x.1], made := 1 } := by
  simp [RemoteRun.op, RemoteRun.word, here, open_, reads, sound]

theorem runAccess_reads {job : RemoteJob} {side : Side} {a time : Nat} {fresh : Bool} {x : Nat × State} (here : job ∈ s.trg.jobs)
    (asks : parseOps 256 job.body = some [{ count := 1, addr := a }]) (open_ : s.goldenShuts a = false)
    (reads : ({ s with hbi.refused := none } : State).readWord side a = x) (sound : x.2.hbi.refused = none) (stays : job ∈ x.2.trg.jobs) :
    s.runAccess job side [] time fresh =
      ({ x.2 with trg.jobs := x.2.trg.jobs.erase job } : State).answerSession 3 side.val 1 job.reqId 0 0xFFFF (leBytes 4 x.1) := by
  have run := op_reads (time := time) (fresh := fresh) here open_ reads sound
  simp [State.runAccess, asks, run, stays]

theorem remoteRequest_runs {job : RemoteJob} {rest : List RemoteJob} {side : Side} {ready : List Nat} {time : Nat} {fresh : Bool}
    (jobs : s.trg.jobs = job :: rest) (awake : s.inLull = false) (joined : s.trg.join = .joined) (remote : side ≠ 0)
    (session : job.session = side.val) (access : job.typ = 1) (opened : (s.session job.session).isOpen = true) :
    s.remoteRequest ready time fresh = s.runAccess job side ready time fresh := by
  have bounds : 1 ≤ job.session ∧ job.session ≤ 4 := by
    have := side.isLt
    have : side.val ≠ 0 := fun h => remote (Fin.ext h)
    omega
  have same : (⟨job.session, by omega⟩ : Side) = side := Fin.ext session
  have known := knowSession_open (client := job.client) (observe := job.observe) (operate := job.operate) opened
  simp [State.remoteRequest, jobs, awake, joined, bounds, same, known, access]

/-- Settles O11: by what each access comes down to. -/
theorem registerAccess : Obligations.RegisterAccess := by
  refine ⟨fun n side value time fresh s awake small _ _ => ?_, fun side value time fresh s awake => ?_,
    fun side value time fresh s small => ?_, fun side value time fresh s awake => ?_, fun side s => ?_,
    fun job rest side a time fresh x s jobs awake joined remote session access asks opened open_ reads sound stays => ?_⟩
  · have word : (BitVec.ofNat 32 (F.PWM_HB_PERIOD_PERIOD n).addr).toNat = (F.PWM_HB_PERIOD_PERIOD n).addr := by revert n; decide
    obtain ⟨written, live, shadow⟩ := period_written (n := n) (side := side) awake (Nat.lt_trans small (by decide))
    refine answers_of_eq rfl ((congrArg (s.writeWord side · _ _ _) word).trans ((period_plain n).writeWord.trans written))
      ⟨?_, ?_, accepted_refused _ _⟩
    · rw [State.rdShadow, accepted_shadow]
      exact shadow
    · exact (rd_accepted _ _ _).trans (State.rd_congr live _)
  · have refusal : s.writeRefusal side 0x2A300 value.toNat = some eRoWrite :=
      writeRefusal_readOnly (lullBlocks_awake awake _) (by decide) (r := ⟨0x2A300, [(0x4, 4)], [⟨0, 32, .ro, 0, false, false, false, none⟩]⟩)
        (by decide) rfl
    have plain : PlainAddr 0x2A300 := ⟨by decide, by decide, by decide, by decide⟩
    refine answers_of_eq rfl (plain.writeWord.trans (writeReg_refused refusal)) ?_
    obtain ⟨refused, code, addr, -⟩ := accessError_refused s side eRoWrite 0x2A300 0
    exact ⟨refused, code, addr⟩
  · refine answers_of_eq rfl (pinTack_plain.writeWord.trans (pinTack_written small)) ⟨?_, accepted_refused _ _⟩
    exact (rd_accepted _ _ _).trans (paramsApplied_params.rd.trans ((State.rd_wr _ _ _).trans (Nat.mod_eq_of_lt small)))
  · refine answers_of_eq rfl (writeWord_unmapped (a := 0x3FFFC) (by decide) (by decide) awake (by decide)) ?_
    obtain ⟨refused, code, addr, errN⟩ := accessError_refused s side eAddr 0x3FFFC 0
    exact ⟨refused, code, addr, fun host => errN (congrArg _ host)⟩
  · refine answers_of_eq rfl (congrArg (fun x : Nat × State => x.2.drive side x.1) pinTack_read) ?_
    refine ⟨fun host => ?_, ?_, ?_⟩
    · subst host
      rfl
    · exact (drive_live _ _ _).trans (accepted_live _ _)
    · exact (drive_hbi _ _ _).1.trans (accepted_refused _ _)
  · exact answers_of_eq rfl ((remoteRequest_runs jobs awake joined remote session access opened).trans
      (runAccess_reads (by simp [jobs]) asks open_ reads sound stays)) rfl

end Sys2Proof.Machine

namespace Sys2Proof.Machine
open Sys2Proof
-- Proofs in sequence, as above: waiting threads' stacks take memory.
set_option Elab.async false
variable {ps qs : List Part} {rs os : List Reach} {o s t : State}

/-! ### What a boundary leaves of the host interface -/

/-- A paired-field group in error is counted, shown and reported (R76, R77). -/
theorem pfgError_stays {g : Nat} :
    Stays [.que, .trg] (.cell F.HBI_PFG_ERR_COUNT :: .cell F.HBI_PFG_ERR_GROUP :: reachEvent) s (s.pfgError g) :=
  have counted : Stays [.que, .trg] (.cell F.HBI_PFG_ERR_COUNT :: .cell F.HBI_PFG_ERR_GROUP :: reachEvent) s
      ((s.inc F.HBI_PFG_ERR_COUNT).wr F.HBI_PFG_ERR_GROUP g) := Stays.refl.inc.wr
  counted.run (configError_frame _ _ _)

/-- Of the host interface the boundary of some parts changes what waits for one (R68, R72, R76). -/
theorem applyParts_hbi (awake : s.inLull = false) (parts : List (Nat × Nat)) : ∃ keys written tacked pending,
    (s.applyParts parts).hbi = { s.hbi with
      tackParts := s.hbi.tackParts.filter fun p => !parts.contains p, liveKeys := keys, pfgWritten := written, pfgTacked := tacked,
      pfgPending := pending } := by
  have event {u v : State} {kind item : Nat} (hs : Stays [.que, .trg] [.all] u v) : Stays [.que, .trg] [.all] u (v.configError kind item) :=
    hs.within (configError_frame _ _ _)
  unfold State.applyParts
  rw [if_neg (by simp [awake])]
  exact ⟨_, _, _, _, Frame.parts (ps := [.que, .trg]) (rs := [.all])
    (Stays.foldl (Stays.foldl (Stays.foldl (Stays.foldl (Stays.wr (Stays.foldl .refl fun _ hs => hs.wr))
      fun _ hs => hs.within pfgError_stays) fun _ hs => event hs.wrb) fun _ hs => event hs) fun _ hs => event hs) .hbi (by decide)⟩

theorem boundary_hbi (awake : s.inLull = false) (parts : List (Nat × Nat)) : ∃ keys written tacked pending,
    (s.boundary parts).hbi = { s.hbi with
      tackParts := s.hbi.tackParts.filter fun p => !parts.contains p, liveKeys := keys, pfgWritten := written, pfgTacked := tacked,
      pfgPending := pending } := by
  obtain ⟨keys, written, tacked, pending, means⟩ := applyParts_hbi awake parts
  exact ⟨keys, written, tacked, pending, (paramsApplied_params.parts .hbi (by decide)).trans means⟩

/-- The instants of TACKs stand: of the pin, and of ring-wide TACKs (R69 to R71). -/
structure SameInstants (s t : State) : Prop where
  pinAt : t.hbi.pinAt = s.hbi.pinAt
  rtackSent : t.hbi.rtackSent = s.hbi.rtackSent
  rtackDue : t.hbi.rtackDue = s.hbi.rtackDue
  rtackDone : t.hbi.rtackDone = s.hbi.rtackDone

theorem boundary_instants (s : State) (parts : List (Nat × Nat)) : SameInstants s (s.boundary parts) := by
  cases lull : s.inLull
  case false =>
    obtain ⟨_, _, _, _, means⟩ := boundary_hbi lull parts
    constructor <;> rw [means]
  case true =>
    have same : s.boundary parts = s := by rw [State.boundary, State.applyParts, if_pos lull, paramsApplied_same rfl]
    rw [same]
    exact ⟨rfl, rfl, rfl, rfl⟩

theorem tack_instants (s : State) (mask : Nat) : SameInstants s (s.tack mask) := by
  obtain ⟨pinAt, rtackSent, rtackDue, rtackDone⟩ := boundary_instants _ _
  exact ⟨pinAt, rtackSent, rtackDue, rtackDone⟩

/-! ### TACK: the latch -/

theorem SMap.get_of_not_mem {α : Type} (d : Nat → α) {k : Nat} {m : SMap α} (h : k ∉ m.map (·.1)) : SMap.get d m k = d k := by
  induction m with
  | nil => rfl
  | cons e m ih =>
    obtain ⟨a, v⟩ := e
    simp only [List.map_cons, List.mem_cons, not_or] at h
    rw [SMap.get, if_neg (Ne.symm h.1), ih h.2]

/-- A copy takes every key of its list. -/
theorem SMap.get_copyKeys_mem {α : Type} [DecidableEq α] (d : Nat → α) (f : Nat → α → α) (src : SMap α) {k : Nat} :
    ∀ {keys : List Nat} (dst : SMap α), k ∈ keys → SMap.get d (SMap.copyKeys d f src keys dst) k = f k (SMap.get d src k)
  | a :: keys, dst, h => by
    by_cases later : k ∈ keys
    · exact SMap.get_copyKeys_mem (keys := keys) d f src _ later
    · obtain rfl : k = a := (List.mem_cons.mp h).resolve_right later
      exact (SMap.get_copyKeys_ne d f src keys _ later).trans (SMap.get_set_same d k _ dst)

/-- A TACK latches the shadows of the groups that it names into the tack buffers (R68). -/
theorem tack_latches (s : State) (mask : Nat) : Latched mask s (s.tack mask) := by
  intro k staged mapped named
  unfold State.tack
  extract_lets blocks keys parts latched hbi noted
  have kept := (boundary_frame noted.showPending (parts.filter fun p => s.atOnce p.1 p.2)).parts .tbuf (by decide)
  refine (congrArg (SMap.get resetCell · k) kept).trans ?_
  change SMap.get resetCell (SMap.copyKeys resetCell (fun _ v => v) s.shadow keys s.tbuf) k = _
  by_cases held : k ∈ cellsOf s.shadow s.tbuf
  · refine SMap.get_copyKeys_mem resetCell _ s.shadow s.tbuf (List.mem_filter.mpr ⟨held, ?_⟩)
    have block : blockOf (k / 32) ∈ blocks := List.mem_filter.mpr ⟨List.mem_range.mpr mapped, named⟩
    simp [staged, block]
  · have absent : k ∉ s.shadow.map (·.1) ∧ k ∉ s.tbuf.map (·.1) := by
      simp only [cellsOf, List.mem_append, List.mem_filter, not_or, not_and] at held
      exact ⟨held.1, fun there => held.2 there (by simpa using held.1)⟩
    have unlisted : k ∉ keys := fun listed => held (List.mem_filter.mp listed).1
    rw [SMap.get_copyKeys_ne _ _ _ _ _ unlisted, SMap.get_of_not_mem _ absent.1, SMap.get_of_not_mem _ absent.2]

/-! ### LEVEL, the pin, ring-wide TACKs and the time-out of a group -/

/-- An accepted write of LEVEL (R79). -/
theorem levelWrite_sets {side b v : Nat} (hears : s.lullBlocks (blockBase b) = false) (key : v / 65536 % 65536 = 0x1E7A)
    (fits : v &&& 0xFCFE = 0) (credential : s.blockCred b side = true) :
    s.levelWrite side b v = (s.accepted side).wr (levelField b side) (v % 2) := by
  simp [State.levelWrite, hears, key, fits, credential]

/-- A pulse that is wide enough, with no TACK of the pin within 1 µs before (R69). -/
theorem pinTack_tacks {widthNs time : Nat} (wide : 20 ≤ widthNs) (first : s.hbi.pinAt = none) (named : s.rd F.HBI_PIN_TACK_MASK ≠ 0) :
    s.pinTack widthNs time = ({ s with hbi.pinAt := some time } : State).tack (s.rd F.HBI_PIN_TACK_MASK) := by
  simp [State.pinTack, first, Nat.not_lt.mpr wide, named]

/-- GO of the active site unit, for a time that R70 admits. -/
theorem rtackGo_sends {side time : Nat} (site : s.kind = .site) (active : s.active = true) (above : 1 ≤ s.rd F.HBI_RTACK_MASK_TARGET)
    (below : s.rd F.HBI_RTACK_MASK_TARGET ≤ 96) (soon : time + 100000 ≤ s.rd64 F.HBI_RTACK_TIME_LO)
    (near : s.rd64 F.HBI_RTACK_TIME_LO ≤ time + 10000000000) (idle : s.hbi.rtackSent = none) :
    (s.rtackGo side time).hbi.rtackSent =
      some (s.rd F.HBI_RTACK_MASK_MASK, s.rd F.HBI_RTACK_MASK_TARGET, s.rd64 F.HBI_RTACK_TIME_LO) := by
  have early := Nat.not_lt.mpr soon
  have late := Nat.not_lt.mpr near
  simp [State.rtackGo, site, active, above, below, early, late, idle]

/-- The one ring-wide TACK that is due is made (R70, R71). -/
theorem rtackInstant_tacks {time mask at_ : Nat} (due : s.hbi.rtackDue = [(mask, at_)]) (now : at_ ≤ time) :
    ∃ hbi : Hbi, hbi.rtackDue = [] ∧ hbi.rtackDone = some (mask, at_) ∧ s.rtackInstant time = ({ s with hbi := hbi } : State).tack mask := by
  unfold State.rtackInstant
  rw [due, List.filter_cons_of_pos (by simpa using now), List.filter_cons_of_neg (by simpa using now)]
  exact ⟨_, rfl, rfl, rfl⟩

/-- The state of a unit that has taken the live values of `keys` back into shadow and tack buffer (R77). -/
def State.takenBack (s : State) (g : Nat) (keys : List Nat) : State :=
  { s with
    shadow := SMap.copyKeys resetCell (fun _ v => v) s.live keys s.shadow
    tbuf := SMap.copyKeys resetCell (fun _ v => v) s.live keys s.tbuf
    hbi.pfgPending := s.hbi.pfgPending.filter (·.1 != g)
    hbi.pfgWritten := s.hbi.pfgWritten.filter fun k => !keys.contains k
    hbi.pfgTacked := s.hbi.pfgTacked.filter fun k => !keys.contains k }

/-- A group with pending values that do not agree loses them (R77). -/
theorem pfgTimeout_discards {g : Nat} {x : Nat × List Nat} {e : Nat × Nat × Nat} (found : s.numberedGroups.find? (·.1 == g) = some x)
    (pending : e ∈ s.hbi.pfgPending) (its : e.1 = g) (disagree : s.groupAgrees x.2 s.pendMarks s.pendCand = false) :
    s.pfgTimeout g = (s.takenBack g ((s.hbi.pfgPending.filter (·.1 == g)).map (·.2.1))).pfgError g := by
  have some_ : e.2.1 ∈ (s.hbi.pfgPending.filter (·.1 == g)).map (·.2.1) :=
    List.mem_map_of_mem (List.mem_filter.mpr ⟨pending, by simpa using its⟩)
  have mine : ((s.hbi.pfgPending.filter (·.1 == g)).map (·.2.1) == []) = false := by
    rw [beq_eq_false_iff_ne]
    exact List.ne_nil_of_mem some_
  simp only [State.pfgTimeout, found, mine, disagree, Bool.or_false, Bool.false_eq_true, if_false]
  rfl

/-- The error of a group is counted and shown (R76, R77). -/
theorem pfgError_shows (s : State) (g : Nat) : (s.pfgError g).rd F.HBI_PFG_ERR_GROUP = g % 512 ∧
    (s.pfgError g).rd F.HBI_PFG_ERR_COUNT = min (s.rd F.HBI_PFG_ERR_COUNT + 1) 255 := by
  have reported : Stays [.que, .trg] reachEvent ((s.inc F.HBI_PFG_ERR_COUNT).wr F.HBI_PFG_ERR_GROUP g) (s.pfgError g) :=
    configError_frame _ _ _
  constructor
  · rw [reported.rd, State.rd_wr]
    rfl
  · rw [reported.rd, State.rd_wr_ne _ (by decide), State.rd_inc]
    rfl

/-- Settles O8: by the accepted path of each command and what a TACK latches. -/
theorem levelsTacksAndGroups : Obligations.LevelsTacksAndGroups := by
  refine ⟨fun side b value s hears key fits credential => ?_, fun side mask s => ?_, fun widthNs time s wide first named => ?_,
    fun g x e s found pending its disagree => ?_, fun side time s site active above below soon near idle => ?_,
    fun time mask at_ s due now => ?_⟩
  · refine answers_of_eq rfl (levelWrite_sets hears (by omega) fits credential) ?_
    rw [State.expert, State.rdb, State.rd_wr]
    change (value.toNat % 2 % 2 != 0) = (value.toNat % 2 == 1)
    rcases Nat.mod_two_eq_zero_or_one value.toNat with even | odd
    · simp [even]
    · simp [odd]
  · refine answers_of_eq rfl rfl fun k staged mapped named => ?_
    have group : s.tackGroup (blockOf (k / 32)) = (s.accepted side).tackGroup (blockOf (k / 32)) := by
      rw [State.tackGroup, State.tackGroup, pat_accepted]
    rw [← accepted_shadow s side]
    exact tack_latches _ mask.toNat k staged mapped (group ▸ named)
  · exact answers_of_eq rfl (pinTack_tacks wide first named) ⟨(tack_instants _ _).pinAt, tack_latches { s with hbi.pinAt := some time } _⟩
  · have error := pfgError_stays (s := s.takenBack g ((s.hbi.pfgPending.filter (·.1 == g)).map (·.2.1))) (g := g)
    obtain ⟨shown, counted⟩ := pfgError_shows (s.takenBack g ((s.hbi.pfgPending.filter (·.1 == g)).map (·.2.1))) g
    refine answers_of_eq rfl (pfgTimeout_discards found pending its disagree) ⟨?_, shown, counted, fun p hp hg => ?_⟩
    · rw [error.parts .hbi (by decide)]
      rfl
    · have listed : p.2.1 ∈ (s.hbi.pfgPending.filter (·.1 == g)).map (·.2.1) :=
        List.mem_map_of_mem (List.mem_filter.mpr ⟨hp, by simpa using hg⟩)
      have shadow := error.parts .shadow (by decide)
      have tbuf := error.parts .tbuf (by decide)
      rw [shadow, tbuf]
      exact ⟨SMap.get_copyKeys_mem resetCell (fun _ v => v) s.live s.shadow listed,
        SMap.get_copyKeys_mem resetCell (fun _ v => v) s.live s.tbuf listed⟩
  · have hears : s.lullBlocks rtackAddr = false := by simp [State.lullBlocks, blockOf, rtackAddr]
    have accepts : s.command side rtackAddr 0x6B2C 0x6B2C (·.rtackGo side time) = (s.accepted side).rtackGo side time := by
      simp [State.command, hears]
    refine answers_of_eq rfl accepts ?_
    unfold State.accepted
    split
    · exact rtackGo_sends (s := { s with hbi.refused := none, hbi.errN := false }) site active above below soon near idle
    · exact rtackGo_sends (s := { s with hbi.refused := none }) site active above below soon near idle
  · obtain ⟨hbi, rtackDue, rtackDone, means⟩ := rtackInstant_tacks due now
    obtain ⟨-, -, kept, done⟩ := tack_instants { s with hbi := hbi } mask
    exact answers_of_eq rfl means ⟨kept.trans rtackDue, done.trans rtackDone, tack_latches { s with hbi := hbi } mask⟩

end Sys2Proof.Machine

namespace Sys2Proof.Machine
open Sys2Proof
-- Proofs in sequence, as above: waiting threads' stacks take memory.
set_option Elab.async false
variable {ps qs : List Part} {rs os : List Reach} {o s t : State}

/-! ### Contactors and the states of a session -/

theorem contactorOps_frame {ks : List Nat} {breakA : Nat} {load : State → Bool} :
    Stays [.bar] [] s (ks.foldl (fun s k => s.contactorOp k breakA (load s)) s) :=
  Stays.foldl .refl fun _ hs => hs.trans contactorOp_frame

theorem injector_frame {start phase : Bool} : Stays [.bil] [.cell F.VLK_IMD_STATUS_INJECTING] s (s.injector start phase) :=
  Stays.refl.wrb.setBil

/-- Both outputs off and no half-period held. -/
def Vlk.opened (x : Vlk) : Vlk := { x with soPos := false, soNeg := false, half := none }

/-- Both contactors are commanded open and measuring ends (R303, R307). -/
theorem openContactors_vlk (s : State) : s.openContactors.vlk = s.vlk.opened := by
  have wear : Stays [.bar] [] s (if s.contactorsClosed then
      s.dcContactors.foldl (fun s' k => s'.contactorOp k ((s.mean 0).natAbs / 4096) (!s'.zeroI)) s else s) :=
    (contactorOps_frame (load := fun s => !s.zeroI)).ite .refl
  exact (injector_frame.parts .vlk (by decide)).trans (congrArg Vlk.opened (wear.parts .vlk (by decide)))

theorem openContactors_frame : Stays [.bar, .vlk, .bil] [.cell F.VLK_IMD_STATUS_INJECTING] s s.openContactors :=
  have wear : Stays [.bar, .vlk, .bil] [.cell F.VLK_IMD_STATUS_INJECTING] s (if s.contactorsClosed then
      s.dcContactors.foldl (fun s' k => s'.contactorOp k ((s.mean 0).natAbs / 4096) (!s'.zeroI)) s else s) :=
    .ite (Stays.refl.via (contactorOps_frame (load := fun s => !s.zeroI)) (by decide) (by simp)) .refl
  wear.setVlk.via injector_frame (by decide) (by simp)

theorem setVst_vst {n : Nat} (s : State) (small : n < 2 ^ F.VLK_STATUS_STATE.width) : (s.setVst n).vst = n :=
  (State.rd_wr _ _ _).trans (Nat.mod_eq_of_lt small)

theorem openContactors_vst (s : State) : s.openContactors.vst = s.vst := openContactors_frame.rd

theorem toFault_vst (s : State) : s.toFault.vst = vFault := by
  have entered := setVst_vst s (n := vFault) (by decide)
  unfold State.toFault
  dsimp only
  split
  · exact (openContactors_vst _).trans entered
  · exact entered

theorem toFault_frame :
    Stays [.bar, .vlk, .bil] [.cell F.VLK_STATUS_STATE, .cell F.VLK_IMD_STATUS_INJECTING] s s.toFault :=
  (Stays.wr .refl).thru fun hs => .ite (hs.via openContactors_frame (by decide) (by simp)) hs

/-- FAULT leaves the measured result and the session's identity, and a period that is not begun. -/
theorem toFault_vlk (s : State) : s.toFault.vlk = s.vlk ∨
    s.toFault.vlk = s.vlk.opened := by
  unfold State.toFault
  dsimp only
  split
  · exact .inr (openContactors_vlk _)
  · exact .inl rfl

theorem toStopping_vst (s : State) (byPre : Bool) : (s.toStopping byPre).vst = vStopping := setVst_vst s (n := vStopping) (by decide)

/-! ### A valid measurement and what follows it -/

/-- Registers that the reaction to a result changes. -/
def reachImd : List Reach :=
  .cell F.VLK_STATUS_STATE :: .cell F.VLK_STATUS_IMD_FAULT :: .cell F.VLK_STATUS_IMD_WARN :: .cell F.VLK_IMD_STATUS_INJECTING ::
    .cell F.VLK_IMD_STATUS_DISAGREE :: reachEvent

/-- From a result on its value, its age and the wait for the next first half-period stand. -/
structure Measured (s t : State) : Prop where
  frame : Stays [.que, .bar, .trg, .vlk, .bil, .saf] reachImd s t
  validAt : t.vlk.validAt = s.vlk.validAt
  half : s.vlk.half = none → t.vlk.half = none

theorem Measured.refl : Measured s s := ⟨.refl, rfl, id⟩

theorem Measured.trans (h : Measured o s) (k : Measured s t) : Measured o t :=
  ⟨h.frame.trans k.frame, k.validAt.trans h.validAt, fun none => k.half (h.half none)⟩

theorem Measured.ite {c : Prop} {_ : Decidable c} (h : Measured o s) (k : Measured o t) : Measured o (if c then s else t) := by
  split
  · exact h
  · exact k

theorem Measured.thru (h : Measured o s) (k : Measured o s → Measured o t) : Measured o t := k h

theorem Measured.wr (h : Measured o s) {f : Field} {v : Nat} (hf : Holds reachImd f := by rfl) : Measured o (s.wr f v) :=
  h.trans ⟨Stays.refl.wr hf, rfl, id⟩

theorem Measured.wrb (h : Measured o s) {f : Field} {b : Bool} (hf : Holds reachImd f := by rfl) : Measured o (s.wrb f b) := h.wr hf

theorem Measured.event (h : Measured o s) {code operand : Nat} : Measured o (s.event code operand) := by
  have frame : Stays [.que, .trg] reachEvent s (s.event code operand) := event_frame _ _ _
  have vlk := frame.parts .vlk (by decide)
  have within : reachEvent ⊆ reachImd := fun _ reached => by simp [reachImd, reached]
  exact h.trans ⟨Stays.refl.via frame (by decide) within, congrArg _ vlk, fun none => (congrArg _ vlk).trans none⟩

theorem Measured.setSaf (h : Measured o s) {x : Saf} : Measured o { s with saf := x } := h.trans ⟨Stays.refl.setSaf, rfl, id⟩

theorem Measured.setVlk (h : Measured o s) {x : Vlk} (validAt : x.validAt = s.vlk.validAt := by rfl) (half : x.half = s.vlk.half := by rfl) :
    Measured o { s with vlk := x } :=
  h.trans ⟨Stays.refl.setVlk, validAt, half.trans⟩

theorem Measured.toFault (h : Measured o s) : Measured o s.toFault := by
  refine h.trans ⟨Stays.refl.via toFault_frame (by decide) (by simp [reachImd]), ?_, fun none => ?_⟩
  · rcases toFault_vlk s with same | opened
    · rw [same]
    · rw [opened]
      rfl
  · rcases toFault_vlk s with same | opened
    · rw [same, none]
    · rw [opened]
      rfl

theorem Measured.esd (h : Measured o s) : Measured o s.esd :=
  .ite h (h.setSaf.thru fun hs => .ite hs (.ite hs.event (Measured.event (Measured.setVlk (s := State.setVst _ vFault) hs.wr))))

theorem Measured.imdFault (h : Measured o s) : Measured o s.imdFault :=
  (Measured.wrb h).thru fun hs => .ite hs.toFault (.ite hs.setSaf.esd hs)

theorem Measured.actOnImd (h : Measured o s) {r : Nat} : Measured o (s.actOnImd r) :=
  .ite h.imdFault ((Measured.ite (h.setVlk.setVlk) h.setVlk).thru fun hs => (Measured.ite (hs.wrb.event) hs).thru fun hs => .ite hs.wrb hs)

theorem Measured.compareImd (h : Measured o s) {r : Nat} : Measured o (s.compareImd r) := by
  unfold State.compareImd
  split
  · exact h
  · exact .ite (h.setVlk.thru fun hs => .ite hs.wrb.event hs) h.setVlk.wrb

/-- A valid period gives the resistance and its age starts (R302). -/
theorem imdPeriod_valid {a b : Int} {move : Nat} {vPos vNeg : Int} (valid : 100 * move < (a - b).natAbs) (begun : s.vlk.half = none) :
    ∃ u : State, Measured u (s.imdPeriod a b move vPos vNeg) ∧ u.vlk.half = none ∧ u.vlk.validAt = some s.ledger ∧ u.met = s.met ∧
      u.rdb F.VLK_IMD_STATUS_VALID = true ∧ u.rd F.VLK_IMD_R_TOTAL = rTotalOf (a - b).natAbs := by
  unfold State.imdPeriod
  extract_lets swing holds flagged r poles shown session dated compared
  have valid : holds := valid
  rw [if_pos valid]
  have after : Measured dated (if compared.active then compared.actOnImd (compared.governingR r) else compared) :=
    Measured.refl.compareImd.thru fun hs => .ite hs.actOnImd hs
  have width : r < 2 ^ 32 := by
    have most : r ≤ 2 ^ 32 - 1 := by
      show rTotalOf _ ≤ _
      rw [rTotalOf]
      split <;> omega
    omega
  have value : dated.rd F.VLK_IMD_R_TOTAL = r :=
    (State.rd_wr_ne _ (by decide) _).trans ((State.rd_wr_ne _ (by decide) _).trans ((State.rd_wr _ _ _).trans (Nat.mod_eq_of_lt width)))
  have flag : dated.rdb F.VLK_IMD_STATUS_VALID = true :=
    (State.rdb_wr_ne _ (by decide) _).trans ((State.rdb_wr_ne _ (by decide) _).trans ((State.rdb_wr_ne _ (by decide) _).trans
      ((State.rdb_wrb _ _ _ (by decide)).trans (decide_eq_true valid))))
  exact ⟨dated, after, begun, rfl, rfl, flag, value⟩

/-! ### Half-periods -/

/-- The phase turns and the partner is told it (R302, R304). -/
def State.turned (s : State) : State :=
  if s.active then
    let t := s.injector true (!s.met.phase)
    if t.pair.partnerAddr == 0 then t else t.sendItem 5 [if !s.met.phase then 1 else 0]
  else s

theorem turned_frame : Stays [.bil, .pair] [.cell F.VLK_IMD_STATUS_INJECTING] s s.turned :=
  .ite ((Stays.refl.via injector_frame (by decide) (by simp)).thru fun hs => .ite hs hs.setPair) .refl

theorem turned_sent (active : s.active = true) :
    s.turned.bil.sent = some { kind := 9, body := [1, if s.met.phase then 0 else 1] } := by
  have acts : (s.wrb F.VLK_IMD_STATUS_INJECTING (true && s.active)).active = true :=
    (congrArg (· == psActive) (State.rd_wrb_ne s (by decide) _)).trans active
  have told : (s.injector true (!s.met.phase)).bil.sent = some { kind := 9, body := [1, if s.met.phase then 0 else 1] } := by
    simp only [State.injector, acts]
    cases s.met.phase <;> rfl
  unfold State.turned
  rw [if_pos active]
  dsimp only
  split
  · exact told
  · exact told

/-- The unit measures: its outputs are closed or it stands by. -/
theorem imdHalf_eq {avg : Int} {move : Nat} {vPos vNeg : Int} (outlet : s.kind = .outlet)
    (measures : s.contactorsClosed = true ∨ s.active = false) :
    s.imdHalf avg move vPos vNeg = match s.turned.vlk.half with
      | none => { s.turned with vlk.half := some (avg, move) }
      | some (a, m) => ({ s.turned with vlk.half := none }).imdPeriod a avg (max m move) vPos vNeg := by
  have goes : (s.kind != .outlet || !(s.contactorsClosed || !s.active)) = false := by
    rcases measures with closed | standby
    · simp [outlet, closed]
    · simp [outlet, standby]
  unfold State.imdHalf
  rw [goes]
  rfl

theorem imdHalf_first {avg : Int} {move : Nat} {vPos vNeg : Int} (outlet : s.kind = .outlet)
    (measures : s.contactorsClosed = true ∨ s.active = false) (first : s.vlk.half = none) :
    s.imdHalf avg move vPos vNeg = { s.turned with vlk.half := some (avg, move) } := by
  have vlk : s.turned.vlk = s.vlk := turned_frame.parts .vlk (by decide)
  rw [imdHalf_eq outlet measures, vlk, first]

theorem imdHalf_second {avg : Int} {move : Nat} {vPos vNeg : Int} {a : Int} {m : Nat} (outlet : s.kind = .outlet)
    (measures : s.contactorsClosed = true ∨ s.active = false) (second : s.vlk.half = some (a, m)) :
    s.imdHalf avg move vPos vNeg = ({ s.turned with vlk.half := none }).imdPeriod a avg (max m move) vPos vNeg := by
  have vlk : s.turned.vlk = s.vlk := turned_frame.parts .vlk (by decide)
  rw [imdHalf_eq outlet measures, vlk, second]

/-- Settles O37: by what each step of the outlet does to its state. -/
theorem outletContactors : Obligations.OutletContactors := by
  refine ⟨fun s outlet active checks first planned pos neg bus vehicle zero => ?_, fun s checks step => ?_, fun s checks step => ?_,
    fun s checks step => ?_, fun s checks unfinished => ?_, fun avg move vPos vNeg s outlet measures first => ?_,
    fun avg move vPos vNeg a m s outlet measures second valid => ?_, fun s charges => ?_, fun s outlet active lapsed charges => ?_,
    fun s outlet active lapsed checks => ?_, fun s awake => ?_⟩
  · have closes : s.closeContactors true = s.dcContactors.foldl (fun s k => s.contactorOp k 0 false)
        { s with vlk.soPos := true, vlk.soNeg := true, vlk.ccStep := 1 } := by
      simp [State.closeContactors, outlet, active, checks, first, planned, pos, neg, bus, vehicle, zero]
    have vlk := (contactorOps_frame (s := { s with vlk.soPos := true, vlk.soNeg := true, vlk.ccStep := 1 }) (ks := s.dcContactors)
      (breakA := 0) (load := fun _ => false)).parts .vlk (by decide)
    refine answers_of_eq rfl closes ?_
    rw [vlk]
    exact ⟨rfl, rfl, rfl⟩
  · have closes : (s.vst == vCableCheck && s.vlk.ccStep == 1) = true := by simp [checks, step]
    exact answers_of_eq rfl (if_pos closes) ⟨rfl, rfl, rfl, rfl⟩
  · refine answers_of_eq rfl (if_pos (by simp [checks, step])) ?_
    rw [openContactors_vst, openContactors_vlk]
    exact ⟨toFault_vst s, rfl, rfl⟩
  · refine answers_of_eq rfl (if_pos (by simp [checks, step])) ⟨?_, ?_⟩
    · rw [injector_frame.parts .vlk (by decide)]
    · exact (State.rdb_wrb _ _ _ (by decide)).trans (Bool.true_and _)
  · refine answers_of_eq rfl (if_pos (by simp [checks, unfinished])) ⟨toFault_vst s, ?_⟩
    rcases toFault_vlk s with same | opened
    · rw [same]
    · rw [opened]
      rfl
  · exact answers_of_eq rfl (imdHalf_first outlet measures first) ⟨rfl, turned_frame.rd, turned_sent⟩
  · obtain ⟨u, after, half, validAt, met, flag, value⟩ :=
      imdPeriod_valid (s := { s.turned with vlk.half := none }) (vPos := vPos) (vNeg := vNeg) valid rfl
    have metered : s.turned.met = s.met := turned_frame.parts .met (by decide)
    have ledger : ({ s.turned with vlk.half := none } : State).ledger = s.ledger := congrArg (·.tot.ledger) metered
    have dated := after.validAt.trans (validAt.trans (congrArg some ledger))
    have now := (congrArg (·.tot.ledger) ((after.frame.parts .met (by decide)).trans met)).trans ledger
    refine answers_of_eq rfl (imdHalf_second outlet measures second)
      ⟨after.half half, after.frame.rdb.trans flag, after.frame.rd.trans value, dated, ?_⟩
    unfold State.imdAge
    rw [dated]
    change min 65535 ((State.ledger _ - s.ledger) / 800) = 0
    rw [State.ledger, now]
    simp
  · exact answers_of_eq rfl (if_pos (by simp [charges])) ⟨toStopping_vst s true, rfl⟩
  · have stops : s.planLapse = s.toStopping false := by
      simp [State.planLapse, outlet, active, lapsed, charges, vCharge, vCableCheck, vPreCharge]
    exact answers_of_eq rfl stops ⟨toStopping_vst s false, rfl⟩
  · have faults : s.planLapse = s.toFault := by simp [State.planLapse, outlet, active, lapsed, checks]
    exact answers_of_eq rfl faults (toFault_vst s)
  · obtain ⟨_, _, _, _, means⟩ := boundary_hbi awake [(11, 0)]
    refine answers_of_eq rfl rfl ⟨?_, (boundary_frame s [(11, 0)]).parts .vlk (by decide)⟩
    rw [means]
    simp

end Sys2Proof.Machine

namespace Sys2Proof.Machine
open Sys2Proof
-- Proofs in sequence, as above: waiting threads' stacks take memory.
set_option Elab.async false
variable {ps qs : List Part} {rs os : List Reach} {o s t : State}

/-! ### The end of a session -/

/-- A frame that holds the levels of a side. -/
def HoldsLevels (rs : List Reach) (side : Nat) : Prop := ∀ b < 20, Holds rs (levelField b side)

theorem basic_stays {side : Nat} {blocks : List Nat} (levels : HoldsLevels rs side) (small : ∀ b ∈ blocks, b < 20) :
    Stays [] rs s (s.basic side blocks) :=
  Stays.foldl .refl fun its hs => hs.wrb (levels _ (small _ its))

/-- Closing credentials changes the registers that show them, and levels (R82). -/
theorem closeCreds_stays {side : Nat} {maint safety : Bool} (maintOpen : Holds rs (F.HBI_CRED_STATUS_MAINT_OPEN.bank side))
    (safetyOpen : Holds rs (F.HBI_CRED_STATUS_SAFETY_OPEN.bank side)) (levels : HoldsLevels rs side) :
    Stays [] rs s (s.closeCreds side maint safety) :=
  (Stays.ite (Stays.refl.wrb maintOpen) .refl).thru fun hs => (Stays.ite (hs.wrb safetyOpen) hs).thru fun hs =>
    .ite (hs.trans (basic_stays levels fun _ => List.mem_range.mp))
      (.ite (hs.trans (basic_stays levels fun _ its => List.mem_range.mp (List.mem_filter.mp its).1)) hs)

/-- The copies of a side's registers go. -/
def State.dropCopies (s : State) (side : Nat) : State := { s with live := s.live.filter fun e => e.1 / 32 / bankStride != side }

theorem endSide_eq (s : State) (k : Nat) : s.endSide k = ((s.closeCreds k true true).setSide k {}).dropCopies k := (rfl)

/-- The subscriptions and jobs of a session go. -/
def State.dropSession (s : State) (k : Nat) : State :=
  { s with que.subs := s.que.subs.filter (·.session != k), trg.jobs := s.trg.jobs.filter (·.session != k) }

theorem endSession_eq (s : State) (k : Nat) : s.endSession k = (((s.endSide k).setSession k {}).dropSession k).showSessions := (rfl)

/-! What each of these leaves, over any state: so no proof compares two whole states. -/

theorem session_setSession (s : State) (k : Nat) (x : ShoreSt) : (s.setSession k x).session k = x :=
  SMap.get_set_same (fun _ => ({} : ShoreSt)) k x s.trg.shore

theorem session_showSessions (s : State) (k : Nat) : s.showSessions.session k = s.session k := (rfl)

theorem session_dropSession (s : State) (k j : Nat) : (s.dropSession k).session j = s.session j := (rfl)

theorem pair_setSession (s : State) (k : Nat) (x : ShoreSt) : (s.setSession k x).pair = s.pair := (rfl)

theorem pair_setSide (s : State) (k : Nat) (x : SideSt) : (s.setSide k x).pair = s.pair := (rfl)

theorem side_dropCopies (s : State) (k j : Nat) : (s.dropCopies k).side j = s.side j := (rfl)

theorem side_setSession (s : State) (k j : Nat) (x : ShoreSt) : (s.setSession k x).side j = s.side j := (rfl)

theorem side_dropSession (s : State) (k j : Nat) : (s.dropSession k).side j = s.side j := (rfl)

theorem side_showSessions (s : State) (j : Nat) : s.showSessions.side j = s.side j := (rfl)

theorem rd_setSession (s : State) (k : Nat) (x : ShoreSt) (f : Field) : (s.setSession k x).rd f = s.rd f := (rfl)

theorem rd_dropSession (s : State) (k : Nat) (f : Field) : (s.dropSession k).rd f = s.rd f := (rfl)

theorem rd_showSessions (s : State) {f : Field} (other : f.key ≠ F.TRG_SHORE_SESS_OPEN.key) : s.showSessions.rd f = s.rd f :=
  s.rd_wr_ne other _

theorem subs_showSessions (s : State) : s.showSessions.que.subs = s.que.subs := (rfl)

theorem dropCopies_stays {k : Nat} : Stays [] [.side k] s (s.dropCopies k) :=
  Stays.refl.dropCells (fun x => x / 32 / bankStride != k)
    (fun x outside => by simpa [Reach.has] using outside) fun p _ => by cases p <;> rfl

theorem dropSession_stays {k : Nat} : Stays [.que, .trg] [] s (s.dropSession k) := Stays.refl.set

theorem showSessions_stays : Stays [] [.cell F.TRG_SHORE_SESS_OPEN] s s.showSessions := Stays.refl.wr

theorem endSession_pair (s : State) (k : Nat) : (s.endSession k).pair = s.pair := by
  rw [endSession_eq, endSide_eq]
  calc _ = _ := showSessions_stays.parts .pair (by decide)
    _ = _ := dropSession_stays.parts .pair (by decide)
    _ = ((((s.closeCreds k true true).setSide k {}).dropCopies k)).pair := pair_setSession _ _ _
    _ = _ := dropCopies_stays.parts .pair (by decide)
    _ = (s.closeCreds k true true).pair := pair_setSide _ _ _
    _ = _ := (closeCreds_stays (rs := [.all]) rfl rfl fun _ _ => rfl).parts .pair (by decide)

/-- The copies of a session's side read their reset values where the copies of the side have gone. -/
theorem SMap.get_filter_gone {α : Type} (d : Nat → α) (p : Nat → Bool) {k : Nat} (gone : p k = false) (m : SMap α) :
    SMap.get d (m.filter fun e => p e.1) k = d k := by
  refine SMap.get_of_not_mem d fun held => ?_
  obtain ⟨e, there, rfl⟩ := List.mem_map.mp held
  exact Bool.false_ne_true (gone.symm.trans (List.mem_filter.mp there).2)

/-- What a session leaves of itself (R82, R109). -/
structure SessionGone (k : Nat) (t : State) : Prop where
  session : t.session k = {}
  side : t.side k = {}
  maint : t.maint k = false
  safety : t.safety k = false
  subs : ∀ x ∈ t.que.subs, x.session ≠ k

/-- A copy of the side reads its reset value. -/
theorem rd_dropCopies (s : State) {k : Nat} {f : Field} (copy : (f.key / 32 / bankStride != k) = false) :
    (s.dropCopies k).rd f = resetCell f.key :=
  SMap.get_filter_gone resetCell (fun x => x / 32 / bankStride != k) copy s.live

/-- The registers of a session's side that show its credentials. -/
theorem credential_copy (session : Fin 4) {f : Field} (credential : f ∈ [F.HBI_CRED_STATUS_MAINT_OPEN, F.HBI_CRED_STATUS_SAFETY_OPEN]) :
    (f.bank (session.val + 1)).key ≠ F.TRG_SHORE_SESS_OPEN.key ∧
      ((f.bank (session.val + 1)).key / 32 / bankStride != session.val + 1) = false ∧ resetCell (f.bank (session.val + 1)).key = 0 := by
  simp only [List.mem_cons, List.not_mem_nil, or_false] at credential
  rcases credential with rfl | rfl
  · revert session
    decide
  · revert session
    decide

theorem endSession_gone (session : Fin 4) (s : State) : SessionGone (session.val + 1) (s.endSession (session.val + 1)) := by
  have closed {f : Field} (credential : f ∈ [F.HBI_CRED_STATUS_MAINT_OPEN, F.HBI_CRED_STATUS_SAFETY_OPEN]) :
      (s.endSession (session.val + 1)).rdb (f.bank (session.val + 1)) = false := by
    obtain ⟨other, copy, reset⟩ := credential_copy session credential
    rw [State.rdb, endSession_eq, rd_showSessions _ other, rd_dropSession, rd_setSession, endSide_eq, rd_dropCopies _ copy, reset]
    rfl
  constructor
  · rw [endSession_eq, session_showSessions, session_dropSession, session_setSession]
  · rw [endSession_eq, side_showSessions, side_dropSession, side_setSession, endSide_eq, side_dropCopies, side_setSide]
  · exact closed (by simp)
  · exact closed (by simp)
  · rw [endSession_eq, subs_showSessions]
    exact fun x held => by simpa using (List.mem_filter.mp held).2

/-! ### Requests of a session -/

/-- A request that R110 takes. -/
theorem shoreRequest_takes {k typ reqId target length : Nat} {f : State → State} (site : s.kind = .site) (active : s.active = true)
    (opened : (s.session k).isOpen = true) (long : 8 ≤ length) (short : length ≤ 8188) :
    s.shoreRequest k typ reqId target length f =
      if 8 ≤ (s.session k).outstanding.length then s.toShore k (shoreMessage (0x8000 + typ) reqId target stBusy 0xFFFF []) else f s := by
  have fits : ¬(length < 8 ∨ 8188 < length) := by omega
  simp [State.shoreRequest, site, active, opened, fits]

theorem forward_trg (s : State) (session unit : Nat) (q : ShoreReq) : (s.forward session unit q).trg = s.trg :=
  (foldl_queOnly _ (fun s _ => place_queOnly s 13 _ (by decide)) _ s).trg

theorem session_forward (s : State) (session unit : Nat) (q : ShoreReq) (j : Nat) : (s.forward session unit q).session j = s.session j := by
  rw [State.session, forward_trg, State.session]

theorem session_ownJob (s : State) (k j : Nat) (q : ShoreReq) : (s.ownJob k q).session j = s.session j := (rfl)

/-- A request that can be reached becomes outstanding (R110). -/
theorem dispatch_outstanding {k : Nat} {q : ShoreReq} (reached : s.reachable q.target = true) :
    ((s.dispatch k q).session k).outstanding = (s.session k).outstanding ++ [q] := by
  unfold State.dispatch
  rw [if_neg (by simp [reached])]
  dsimp only
  split
  · rw [session_ownJob, session_setSession]
  · rw [session_forward, session_setSession]

/-- The answer to a request of an open session. -/
theorem answerShore_open {k typ reqId target status index : Nat} {body : List Nat} (opened : (s.session k).isOpen = true) :
    s.answerShore k typ reqId target status index body =
      (s.resolve k typ reqId target).toShore k (shoreMessage (0x8000 + typ) reqId target status index body) := by
  simp [State.answerShore, opened]

/-- Settles O13: by what the end of a session leaves and how a request is taken. -/
theorem shoreSessions : Obligations.ShoreSessions := by
  refine ⟨fun digest j k s awake site active enabled admits free => ?_, fun session s => ?_, fun session s => ?_,
    fun session reqId target length body ops s site active opened long short room asks observe operate reached => ?_,
    fun session reqId target length body s site active opened wrong => ?_,
    fun session reqId target length s site active opened long short room => ?_,
    fun session reqId target length s site active opened long short full => ?_,
    fun session typ reqId target status index body s site active opened asked => ?_,
    fun session reqId target q s opened found => ?_⟩
  · have opens : s.connect true digest = ((s.endSession k).setSession k (s.admitted j)).showSessions := by
      rw [State.connect, if_neg (by simp [awake, site, active, enabled]), admits, free]
    refine answers_of_eq rfl opens ⟨?_, ?_⟩
    · rw [session_showSessions, session_setSession]
    · exact (showSessions_stays.parts .pair (by decide)).trans ((pair_setSession _ _ _).trans (endSession_pair s k))
  · obtain ⟨session, side, maint, safety, subs⟩ := endSession_gone session s
    exact answers_of_eq rfl rfl ⟨session, side, maint, safety, subs⟩
  · obtain ⟨session, side, maint, safety, subs⟩ := endSession_gone session s
    exact answers_of_eq rfl rfl ⟨session, side, maint, safety, subs⟩
  · have rights : ((ops.any (·.write) && !(s.session (session.val + 1)).operate) ||
        (ops.any (!·.write) && !(s.session (session.val + 1)).observe)) = false := by simp [observe, operate]
    have takes : s.access (session.val + 1) reqId target length body =
        s.dispatch (session.val + 1) { typ := 1, reqId := reqId, target := target, body := body } := by
      rw [State.access, shoreRequest_takes site active opened long short, if_neg (Nat.not_le.mpr room), asks]
      exact if_neg (by simp [rights])
    exact answers_of_eq rfl takes (dispatch_outstanding reached)
  · have closes : s.access (session.val + 1) reqId target length body =
        (s.answerShore (session.val + 1) 1 reqId target stBadMessage 0xFFFF []).endSession (session.val + 1) := by
      simp [State.access, State.shoreRequest, site, active, opened, wrong]
    exact answers_of_eq rfl closes (endSession_gone session _).session
  · exact answers_of_eq rfl ((shoreRequest_takes site active opened long short).trans (if_neg (Nat.not_le.mpr room))) rfl
  · exact answers_of_eq rfl ((shoreRequest_takes site active opened long short).trans (if_pos full)) rfl
  · have answers : s.remoteResponse (session.val + 1) (0x8000 + typ) reqId target status index body =
        s.answerShore (session.val + 1) typ reqId target status index body := by
      unfold State.remoteResponse
      dsimp only
      rw [if_neg (by simp [site, active, opened]), if_pos asked, Nat.add_sub_cancel_left]
    exact answers_of_eq rfl (answers.trans (answerShore_open opened)) rfl
  · have answers : s.unreachable (session.val + 1) reqId target =
        s.answerShore (session.val + 1) q.typ reqId target stUnreachable 0xFFFF [] := by
      rw [State.unreachable, found]
    exact answers_of_eq rfl (answers.trans (answerShore_open opened)) rfl

end Sys2Proof.Machine

namespace Sys2Proof.Machine
open Sys2Proof
-- Proofs in sequence, as above: waiting threads' stacks take memory.
set_option Elab.async false
variable {ps qs : List Part} {rs os : List Reach} {o s t : State}

/-! ### Frames of plain accesses: where a field of a register lies -/

/-- A write changes the field at once, or a read clears it. -/
def FieldDef.isSoft (f : FieldDef) : Bool := [Acc.wo, .rw, .w1c, .w1s, .rc].contains f.acc

theorem soft_at {addr : Nat} {r : RegDef} {f : FieldDef} (h : regAt addr = some r) (hf : f ∈ r.fields) (soft : f.isSoft = true) (side : Nat) :
    Reach.soft.has (f.at addr side).key = true := by
  obtain ⟨place, bit⟩ := key_place (n := if perSide addr then side else 0) ((regAt_placed h).1 f hf) (regAt_lt h)
  rw [FieldDef.at_key, Reach.has, fieldDefAt, place, bit, h, Option.bind_some, (regAt_placed h).find hf]
  exact soft

theorem word_at {addr : Nat} {r : RegDef} {f : FieldDef} (h : regAt addr = some r) (hf : f ∈ r.fields) (side : Nat) :
    (Reach.word addr).has (f.at addr side).key = true := by
  have place := (key_place (n := if perSide addr then side else 0) ((regAt_placed h).1 f hf) (regAt_lt h)).1
  exact beq_iff_eq.mpr place

/-- A frame that holds the fields of a register that a write changes at once. -/
def HoldsWrites (rs : List Reach) (addr side : Nat) : Prop :=
  ∀ r f, regAt addr = some r → f ∈ r.fields → f.isSoft = true → Holds rs (f.at addr side)

theorem holdsWrites_word {addr side : Nat} (h : .word addr ∈ rs) : HoldsWrites rs addr side := fun _ _ mapped its _ =>
  List.any_eq_true.mpr ⟨_, h, word_at mapped its side⟩

theorem holdsWrites_soft {addr side : Nat} (h : .soft ∈ rs) : HoldsWrites rs addr side := fun _ _ mapped its soft =>
  List.any_eq_true.mpr ⟨_, h, soft_at mapped its soft side⟩

/-! ### Plain writes -/

theorem writeField_stays {addr side v : Nat} {f : FieldDef} (held : f.isSoft = true → Holds rs (f.at addr side)) :
    Stays [.hbi, .shadow] rs s (s.writeField addr side v f) := by
  unfold State.writeField
  cases access : f.acc
  case ro => exact .refl
  case rc => exact .refl
  case bs => exact Stays.refl.set
  case lv => exact Stays.refl.set
  all_goals exact Stays.refl.wr (held (by simp [FieldDef.isSoft, access]))

theorem writeFields_stays {side addr v : Nat} (held : HoldsWrites rs addr side) : Stays [.hbi, .shadow] rs s (s.writeFields side addr v) := by
  unfold State.writeFields
  split
  · exact .refl
  next r mapped => exact Stays.foldl .refl fun its hs => hs.trans (writeField_stays (held r _ mapped its))

theorem accepted_stays {side : Nat} : Stays [.hbi] [] s (s.accepted side) := accepted_frame [] s side

/-- A plain write changes its register's fields, or leaves the record of its refusal (R64, R88). -/
theorem writeReg_stays {side addr v path : Nat} (held : HoldsWrites rs addr side) (params : covers rs reachParams = true)
    (refused : covers rs reachKeyed = true) : Stays [.hbi, .pat, .saf, .shadow] rs s (s.writeReg side addr v path) := by
  unfold State.writeReg
  split
  · exact Stays.refl.accessError (by decide) refused
  · have written : Stays [.hbi, .pat, .saf, .shadow] rs s (s.writeFields side addr v) :=
      Stays.refl.via (writeFields_stays held) (by decide) (List.Subset.refl _)
    exact ((Stays.ite written.setSaf written).run paramsApplied_params (by decide) params).via accepted_stays (by decide) (by simp)

/-- The shadows outside a register. -/
def ShadowOutside (addr : Nat) (s t : State) : Prop :=
  ∀ k, k / 32 % bankStride ≠ addr → SMap.get resetCell t.shadow k = SMap.get resetCell s.shadow k

theorem shadowOutside_of_eq {addr : Nat} (same : t.shadow = s.shadow) : ShadowOutside addr s t := fun _ _ => by rw [same]

theorem ShadowOutside.trans {addr : Nat} (h : ShadowOutside addr o s) (k : ShadowOutside addr s t) : ShadowOutside addr o t :=
  fun i hi => (k i hi).trans (h i hi)

theorem writeField_shadow {side addr v : Nat} {r : RegDef} {f : FieldDef} (mapped : regAt addr = some r) (its : f ∈ r.fields) :
    ShadowOutside addr s (s.writeField addr side v f) := by
  have kept (x : Nat) : ShadowOutside addr s { s with shadow := SMap.set resetCell (f.at addr side).key x s.shadow } := fun k other => by
    have inside := word_at mapped its side
    refine SMap.get_set_ne resetCell (fun same => other ?_) _ _
    rw [same]
    simpa [Reach.has] using inside
  unfold State.writeField
  cases f.acc
  case bs => exact kept _
  case lv => exact kept _
  all_goals exact shadowOutside_of_eq rfl

theorem writeFields_shadow {side addr v : Nat} : ShadowOutside addr s (s.writeFields side addr v) := by
  unfold State.writeFields
  split
  · exact shadowOutside_of_eq rfl
  next r mapped =>
    exact List.foldlRecOn r.fields _ (motive := ShadowOutside addr s) (shadowOutside_of_eq rfl)
      fun _ hs _ its => hs.trans (writeField_shadow mapped its)

theorem writeReg_shadow {side addr v path : Nat} : ShadowOutside addr s (s.writeReg side addr v path) := by
  unfold State.writeReg
  split
  · exact shadowOutside_of_eq ((accessError_frame _ _ _ _ _).parts .shadow (by decide))
  · extract_lets safe written writer owned
    have kept : Stays [.saf] [] written owned := .ite Stays.refl.setSaf .refl
    have same := (paramsApplied_params (old := s)).parts .shadow (by decide) |>.trans (kept.parts .shadow (by decide))
    exact (writeFields_shadow (side := side) (v := v)).trans (shadowOutside_of_eq ((accepted_shadow _ _).trans same))

/-! ### Plain reads -/

theorem clearRc_stays {addr side : Nat} {r : RegDef} (mapped : regAt addr = some r) : Stays [] [.soft] s (s.clearRc addr side r) := by
  refine Stays.foldl .refl fun {u f} its hs => ?_
  split
  next clears =>
    have soft : f.isSoft = true := by
      rw [beq_iff_eq] at clears
      simp [FieldDef.isSoft, clears]
    exact hs.wr (List.any_eq_true.mpr ⟨_, List.mem_singleton_self _, soft_at mapped its soft side⟩)
  · exact hs

/-- A plain read clears the fields that a read clears, and nothing else (R64). -/
theorem plainRead_stays {side addr : Nat} {x : Nat × State} (reads : s.plainRead side addr = .ok x) : Stays [] [.soft] s x.2 := by
  unfold State.plainRead at reads
  split at reads
  · exact nomatch reads
  · split at reads
    · exact nomatch reads
    next r mapped =>
      obtain rfl := Except.ok.inj reads
      split at mapped
      · exact clearRc_stays mapped
      · exact nomatch mapped

theorem readReg_stays {side addr : Nat} : Stays [.hbi] (.soft :: reachKeyed) s (s.readReg side addr).2 := by
  unfold State.readReg
  split
  next x reads =>
    exact (Stays.refl.via (plainRead_stays reads) (by decide) (by simp)).via accepted_stays (by decide) (by simp)
  · exact Stays.refl.accessError

/-! ### Live writes -/

theorem liveField_stays {side addr v : Nat} {f : FieldDef} : Stays [.hbi, .shadow, .tbuf] [] s (s.liveField side addr v f) := by
  unfold State.liveField
  split
  · exact .refl
  · dsimp only
    split
    · exact Stays.refl.set
    · exact Stays.refl.set

/-- A live write changes no live register (R72): its value waits for the boundary. -/
theorem liveWrite_stays {side addr v : Nat} : Stays [.hbi, .shadow, .tbuf] reachKeyed s (s.liveWrite side addr v) := by
  unfold State.liveWrite
  split
  · exact Stays.refl.accessError
  · split
    · exact .refl
    · exact Stays.foldl (Stays.refl.via accepted_stays (by decide) (by simp))
        fun _ hs => hs.via liveField_stays (by decide) (by simp)

end Sys2Proof.Machine

namespace Sys2Proof.Machine
open Sys2Proof
-- Proofs in sequence, as above: waiting threads' stacks take memory.
set_option Elab.async false
variable {ps qs : List Part} {rs os : List Reach} {o s t : State}

/-! ### What a frame holds where a side is not given -/

theorem holds_cell {f : Field} (h : .cell f ∈ rs) : Holds rs f :=
  List.any_eq_true.mpr ⟨_, h, beq_self_eq_true f.key⟩

theorem covers_of_subset (h : os ⊆ rs) : covers rs os = true := by
  refine List.all_eq_true.mpr fun r hr => ?_
  cases r
  case cell f => exact holds_cell (h hr)
  all_goals exact List.contains_iff_mem.mpr (h hr)

/-- An array's registers, every side's copies. -/
theorem holds_array {f g : Field} (low : f.lsb < 32) (same : f.lsb = g.lsb ∧ familyOf f.key = familyOf g.key) (h : .family g ∈ rs)
    (side : Nat) : Holds rs (f.bank side) := by
  obtain ⟨bit, place⟩ := bank_place (a := f.addr) (n := side) (b := bankStride) low
  have family : familyOf (f.bank side).key = familyOf f.key := by rw [bank_key, familyOf, place, familyOf, Field.key]
  refine List.any_eq_true.mpr ⟨_, h, ?_⟩
  rw [Reach.has, family, same.2, bank_key, bit, same.1]
  simp

theorem blockBase_lt {b : Nat} (small : b < 20) : blockBase b < bankStride := by
  have every : ∀ b < 20, blockBase b < bankStride := by decide
  exact every b small

theorem holdsLevels (h : .levels ∈ rs) (side : Nat) : HoldsLevels rs side := fun b small => by
  obtain ⟨place, bit⟩ := key_place (l := 0) (n := side) (by decide) (blockBase_lt small)
  have key : (levelField b side).key = (blockBase b + side * bankStride) * 32 + 0 := rfl
  refine List.any_eq_true.mpr ⟨_, h, ?_⟩
  rw [key, Reach.has, bit, place]
  simpa using ⟨b, small, rfl⟩

/-! ### LEVEL, TACK, groups (R68 to R79) -/

theorem levelWrite_stays {side b v : Nat} (small : b < 20) : Stays [.hbi] (.levels :: reachKeyed) s (s.levelWrite side b v) :=
  have refused {code addr : Nat} : Stays [.hbi] (.levels :: reachKeyed) s (s.accessError side code addr) := Stays.refl.accessError
  have accepted : Stays [.hbi] (.levels :: reachKeyed) s (s.accepted side) := Stays.refl.via accepted_stays (by decide) (by simp)
  .ite refused (.ite refused (.ite refused (.ite refused
    (accepted.wr (holdsLevels (List.mem_cons_self ..) side b small)))))

theorem tack_stays {mask : Nat} : Stays [.hbi, .que, .trg, .pat, .saf, .tbuf] reachBoundary s (s.tack mask) := by
  unfold State.tack
  extract_lets blocks keys parts latched hbi noted
  have taken : Stays [.hbi, .que, .trg, .pat, .saf, .tbuf] reachBoundary s noted := Stays.refl.set
  exact (taken.via (showPending_frame noted) (by decide) (List.Subset.refl _)).via (boundary_frame _ _) (by decide) (List.Subset.refl _)

theorem localTack_stays {side mask : Nat} :
    Stays [.hbi, .que, .trg, .pat, .saf, .tbuf] reachBoundary s ((s.accepted side).tack mask) :=
  (Stays.refl.run accepted_stays).trans tack_stays

theorem pinTack_stays {widthNs time : Nat} : Stays [.hbi, .que, .trg, .pat, .saf, .tbuf] reachBoundary s (s.pinTack widthNs time) :=
  .ite .refl (Stays.refl.setHbi.trans tack_stays)

theorem rtackInstant_stays {time : Nat} : Stays [.hbi, .que, .trg, .pat, .saf, .tbuf] reachBoundary s (s.rtackInstant time) :=
  Stays.foldl Stays.refl.setHbi fun _ hs => hs.trans tack_stays

theorem pfgTimeout_stays {g : Nat} : Stays [.hbi, .que, .trg, .shadow, .tbuf]
    (.cell F.HBI_PFG_ERR_COUNT :: .cell F.HBI_PFG_ERR_GROUP :: reachEvent) s (s.pfgTimeout g) := by
  unfold State.pfgTimeout
  split
  · exact .refl
  · dsimp only
    split
    · exact .refl
    · exact Stays.via (Stays.refl.set) pfgError_stays (by decide) (List.Subset.refl _)

theorem rtackGo_stays {side time : Nat} : Stays [.hbi] reachKeyed s (s.rtackGo side time) :=
  .ite Stays.refl.accessError (.ite Stays.refl.accessError Stays.refl.setHbi)

/-! ### Credentials (R81, R82) -/

theorem setSide_stays {k : Nat} {x : SideSt} : Stays [.hbi] [] s (s.setSide k x) := Stays.refl.setHbi

theorem readChallenge_stays {side : Nat} : Stays [.hbi, .drawn] [.family (F.HBI_CRED_CHAL 0)] s (s.readChallenge side) := by
  have word {i : Nat} (small : i ∈ List.range 4) : Holds [.family (F.HBI_CRED_CHAL 0)] ((F.HBI_CRED_CHAL i).bank side) := by
    have same : ∀ i ∈ List.range 4, (F.HBI_CRED_CHAL i).lsb = (F.HBI_CRED_CHAL 0).lsb ∧
        familyOf (F.HBI_CRED_CHAL i).key = familyOf (F.HBI_CRED_CHAL 0).key := by decide
    exact holds_array (by decide : 0 < 32) (same i small) (List.mem_singleton_self _) side
  have drawn : Stays [.hbi, .drawn] [.family (F.HBI_CRED_CHAL 0)] s (s.newChallenge side) :=
    Stays.setHbi (Stays.foldl Stays.refl.setDrawn fun its hs => hs.wr (word its))
  exact (drawn.via accepted_stays (by decide) (by simp)).via drive_frame (by decide) (by simp)

/-- Registers of a side that a command for its credentials changes. -/
def reachCredential (side : Nat) : List Reach :=
  .cell (F.HBI_CRED_STATUS_FAILS.bank side) :: .cell (F.HBI_CRED_STATUS_MAINT_OPEN.bank side) ::
    .cell (F.HBI_CRED_STATUS_SAFETY_OPEN.bank side) :: (reachEvent ++ reachKeyed)

theorem event_credential {side : Nat} : reachEvent ⊆ reachCredential side := fun _ held => by simp [reachCredential, held]

theorem keyed_credential {side : Nat} : reachKeyed ⊆ reachCredential side := fun _ held => by simp [reachCredential, held]

theorem credFail_stays {side : Nat} : Stays [.hbi, .que, .trg] (reachCredential side) s (s.credFail side) :=
  (Stays.wr .refl (holds_cell (by simp [reachCredential]))).thru fun hs =>
    .ite hs (hs.setHbi.via (event_frame _ _ _) (by decide) event_credential)

theorem credOpen_stays {side : Nat} {safety fresh : Bool} :
    Stays [.hbi, .que, .trg] (reachCredential side) s (s.credOpen side safety fresh) :=
  .ite (Stays.refl.accessError (by decide) (covers_of_subset keyed_credential))
    (.ite credFail_stays ((Stays.wr .refl (holds_cell (by simp [reachCredential]))).thru fun hs =>
      .ite (hs.wrb (holds_cell (by simp [reachCredential]))) (hs.wrb (holds_cell (by simp [reachCredential])))))

/-- Registers of a side that the close of credentials changes. -/
def reachClosed (side : Nat) : List Reach :=
  [.cell (F.HBI_CRED_STATUS_MAINT_OPEN.bank side), .cell (F.HBI_CRED_STATUS_SAFETY_OPEN.bank side), .levels]

theorem closeCreds_closed {side : Nat} {maint safety : Bool} : Stays [] (reachClosed side) s (s.closeCreds side maint safety) :=
  closeCreds_stays (holds_cell (by simp [reachClosed])) (holds_cell (by simp [reachClosed])) (holdsLevels (by simp [reachClosed]) side)

theorem credClose_stays {side : Nat} : Stays [.hbi] (reachClosed side ++ reachKeyed) s (s.credClose side) :=
  .ite (Stays.refl.accessError (by decide) (covers_of_subset (List.subset_append_right ..)))
    (Stays.refl.via closeCreds_closed (by decide) (List.subset_append_left ..))

theorem credLockoutEnd_stays {side : Nat} : Stays [.hbi] [.cell (F.HBI_CRED_STATUS_FAILS.bank side)] s (s.credLockoutEnd side) :=
  .ite .refl ((Stays.setHbi .refl).wr (holds_cell (List.mem_singleton_self _)))

/-! ### The indirect window (R83 to R86) -/

/-- Registers beside the window's own that a posted word changes at its target (R49, R64, R72). -/
def reachTarget : List Reach :=
  reachUpdate ++ [.cell F.SAF_LOG_LOST, .cell F.SAF_LOG_SEQ_HI, .cell F.SAF_LOG_SEQ_LO, .cell F.SAF_PARAM_CRC, .soft] ++ reachKeyed

/-- Registers that the access of a window's port, and a word posted to its target, change (R84, R85). -/
def reachPost (side : Nat) : List Reach :=
  .cell (F.HBI_IDX_DATA.bank side) :: .cell (F.HBI_IDX_STATUS_LOCKED.bank side) :: .cell (F.HBI_IDX_STATUS_READY.bank side) ::
    .cell (F.HBI_IDX_STATUS_WAIT.bank side) :: reachTarget

/-- Parts of the state that a posted word changes. -/
def partsPost : List Part := [.hbi, .pat, .saf, .shadow, .tbuf]

/-- Registers that a window's step to another address changes (R84, R86). -/
def reachGoto (side : Nat) : List Reach :=
  .cell (F.HBI_IDX_ADDR.bank side) :: .cell (F.HBI_IDX_DATA.bank side) :: .cell (F.HBI_IDX_STATUS_ERR.bank side) ::
    .cell (F.HBI_IDX_STATUS_LOCKED.bank side) :: .cell (F.HBI_IDX_STATUS_READY.bank side) ::
    .cell (F.HBI_IDX_STATUS_WAIT.bank side) :: reachTarget

section
variable {side : Nat}

theorem target_post : reachTarget ⊆ reachPost side := fun _ held => by simp [reachPost, held]

theorem update_post : reachUpdate ⊆ reachPost side := fun _ held => target_post (by simp [reachTarget, held])

theorem params_post : reachParams ⊆ reachPost side := fun _ held => target_post (by
  have every : reachParams ⊆ reachTarget := by decide
  exact every held)

theorem keyed_post : reachKeyed ⊆ reachPost side := fun _ held => target_post (by simp [reachTarget, held])

theorem soft_post : .soft ∈ reachPost side := target_post (by simp [reachTarget])

theorem post_goto : reachPost side ⊆ reachGoto side := fun _ held => by
  simp only [reachPost, reachGoto, List.mem_cons] at held ⊢
  tauto

theorem goto_cells : .cell (F.HBI_IDX_ADDR.bank side) :: reachPost side ⊆ reachGoto side :=
  List.cons_subset.mpr ⟨List.mem_cons_self .., post_goto⟩

end

theorem setPort_stays {side : Nat} {p : Option Nat} :
    Stays [.hbi] [.cell (F.HBI_IDX_STATUS_LOCKED.bank side)] s (s.setPort side p) :=
  (Stays.setHbi .refl).wrb (holds_cell (List.mem_singleton_self _))

theorem idxRelease_stays {side : Nat} :
    Stays [.hbi] [.cell (F.HBI_IDX_STATUS_LOCKED.bank side)] s ((s.accepted side).idxRelease side) :=
  (Stays.refl.via accepted_stays (by decide) (by simp)).trans setPort_stays

theorem slotWrite_stays {off v : Nat} : Stays [.pat] reachUpdate s (s.slotWrite off v) :=
  (Stays.setSlot .refl).thru fun hs => .ite (hs.trans setUpdate_frame) hs

section
variable {side : Nat}

theorem Stays.setReady (hs : Stays ps (reachPost side) o s) {b : Bool} : Stays ps (reachPost side) o (s.setReady side b) :=
  hs.wrb (holds_cell (by simp [reachPost]))

theorem Stays.setWait (hs : Stays ps (reachPost side) o s) {b : Bool} : Stays ps (reachPost side) o (s.setWait side b) :=
  hs.wrb (holds_cell (by simp [reachPost]))

theorem Stays.setData (hs : Stays ps (reachPost side) o s) {v : Nat} :
    Stays ps (reachPost side) o (s.wr (F.HBI_IDX_DATA.bank side) v) :=
  hs.wr (holds_cell (by simp [reachPost]))

theorem Stays.setPort (hs : Stays partsPost (reachPost side) o s) {p : Option Nat} : Stays partsPost (reachPost side) o (s.setPort side p) :=
  hs.via setPort_stays (by decide) (by simp [reachPost])

theorem Stays.setSide (hs : Stays partsPost rs o s) {k : Nat} {x : SideSt} : Stays partsPost rs o (s.setSide k x) :=
  hs.via setSide_stays (by decide) (by simp)

theorem Stays.accept (hs : Stays partsPost rs o s) {k : Nat} : Stays partsPost rs o (s.accepted k) :=
  hs.via accepted_stays (by decide) (by simp)

/-- A word is posted to the target that the window holds. -/
theorem idxPost_stays {v : Nat} : Stays partsPost (reachPost side) s (s.idxPost side v) := by
  have refused {code addr path : Nat} : Stays partsPost (reachPost side) s ((s.accessError side code addr path).setReady side true) :=
    (Stays.refl.accessError (by decide) (covers_of_subset keyed_post)).setReady
  have slot : Stays partsPost (reachPost side) s ((s.slotWrite (s.idxAddr side - 0x1000000) v).accepted side) :=
    (Stays.refl.via slotWrite_stays (by decide) update_post).accept
  have live : Stays partsPost (reachPost side) s (s.liveWrite side (s.idxAddr side - 0x8000000) v) :=
    Stays.refl.via liveWrite_stays (by decide) keyed_post
  have direct : Stays partsPost (reachPost side) s (s.writeReg side (s.idxAddr side) v 1) :=
    Stays.refl.via (writeReg_stays (rs := reachPost side) (holdsWrites_soft soft_post)
      (covers_of_subset params_post) (covers_of_subset keyed_post)) (by decide) (List.Subset.refl _)
  unfold State.idxPost
  extract_lets a taken
  have shown {u : State} (hs : Stays partsPost (reachPost side) s u) : Stays partsPost (reachPost side) s (taken u) :=
    hs.setSide.setData.setReady
  split
  · split
    · exact refused
    · exact shown slot
  split
  · split
    · exact refused
    · exact shown live
  · split
    · exact refused
    · exact shown direct

theorem idxLock_stays : Stays partsPost (reachPost side) s (s.idxLock side) := by
  unfold State.idxLock
  split
  · exact .refl
  · split
    · exact (Stays.setPort .refl).setReady.setWait
    · extract_lets locked
      have held : Stays partsPost (reachPost side) s locked := (Stays.setPort .refl).setWait
      split
      · exact held.setSide.trans idxPost_stays
      · split
        · exact held.setSide.setData.setReady
        · exact held.setSide.setReady

theorem idxGoto_stays {a : Nat} :
    Stays partsPost (.cell (F.HBI_IDX_ADDR.bank side) :: reachPost side) s (s.idxGoto side a) :=
  (Stays.wr (rs := .cell (F.HBI_IDX_ADDR.bank side) :: reachPost side) (ps := partsPost) .refl (holds_cell (List.mem_cons_self ..))).setSide.thru
    fun hs => (Stays.ite hs (hs.via setPort_stays (by decide) (by simp [reachPost]))).via idxLock_stays (by decide) (List.subset_cons_self ..)

theorem idxAddrWrite_stays {a : Nat} :
    Stays partsPost (.cell (F.HBI_IDX_ADDR.bank side) :: reachPost side) s (s.idxAddrWrite side a) := by
  have refused {code addr : Nat} :
      Stays partsPost (.cell (F.HBI_IDX_ADDR.bank side) :: reachPost side) s (s.accessError side code addr) :=
    Stays.refl.accessError (by decide) (covers_of_subset fun _ held => List.mem_cons_of_mem _ (keyed_post held))
  unfold State.idxAddrWrite
  split
  · exact refused
  · exact .ite refused (.ite (Stays.refl.accept.setSide) (Stays.refl.accept.trans idxGoto_stays))

theorem idxRefused_stays {e : Nat} : Stays [.hbi] reachKeyed s (s.idxRefused side e) :=
  (Stays.setHbi (ps := [.hbi]) (rs := reachKeyed) .refl).thru fun hs => .ite hs.accessError hs.accessError

theorem idxAdvance_stays {fetch : Bool} : Stays partsPost (reachGoto side) s (s.idxAdvance side fetch) :=
  .ite (.ite (Stays.refl.via idxGoto_stays (by decide) goto_cells) (Stays.wr .refl (holds_cell (by simp [reachGoto]))))
    (Stays.setSide (Stays.wrb .refl (holds_cell (by simp [reachGoto]))))

theorem idxDataRead_stays : Stays partsPost (reachGoto side) s (s.idxDataRead side).2 := by
  have refused {e : Nat} : Stays partsPost (reachGoto side) s (s.idxRefused side e) :=
    Stays.refl.via idxRefused_stays (by decide) (List.Subset.trans keyed_post post_goto)
  unfold State.idxDataRead
  split
  · exact refused
  · split
    · exact refused
    · exact Stays.refl.accept.thru fun hs => .ite (hs.trans idxAdvance_stays) hs

theorem readIdxData_stays : Stays partsPost (reachGoto side) s (s.readIdxData side) :=
  idxDataRead_stays.via drive_frame (by decide) (by simp)

theorem idxDataWrite_stays {v : Nat} : Stays partsPost (reachPost side) s (s.idxDataWrite side v) := by
  have refused {e : Nat} : Stays partsPost (reachPost side) s (s.idxRefused side e) :=
    Stays.refl.via idxRefused_stays (by decide) keyed_post
  unfold State.idxDataWrite
  split
  · exact refused
  · exact .refl
  · exact .ite refused (.ite (Stays.refl.accept.setSide.setReady.setWait) ((Stays.setPort .refl).trans idxPost_stays))

theorem idxPostDone_stays : Stays partsPost (reachGoto side) s (s.idxPostDone side) := by
  unfold State.idxPostDone
  dsimp only
  split
  · exact .refl
  · split
    · exact Stays.refl.setSide.via idxGoto_stays (by decide) goto_cells
    · exact (Stays.setSide .refl).via (Stays.setReady (ps := partsPost) .refl) (by decide) post_goto |>.thru
        fun hs => .ite (hs.trans idxAdvance_stays) hs

theorem idxPortFree_stays : Stays partsPost (reachPost side) s (s.idxPortFree side) := .ite idxLock_stays .refl

/-- The word that a window reads. -/
theorem idxWord_stays {a : Nat} : Stays [.drawn] [.soft] s (s.idxWord side a).2.2 := by
  have read {b v : Nat} {t : State} (reads : s.plainRead side b = .ok (v, t)) : Stays [.drawn] [.soft] s t :=
    Stays.refl.via (plainRead_stays reads) (by decide) (List.Subset.refl _)
  unfold State.idxWord
  iterate 3 (split; exact .refl)
  split
  · split
    next reads => exact read reads
    · exact .refl
  iterate 2 (split; exact .refl)
  split
  · split
    next reads => exact read reads
    · exact .refl
  · exact Stays.refl.setDrawn

/-- Registers that the arrival of a fetched word changes. -/
def reachFetched (side : Nat) : List Reach :=
  [.cell (F.HBI_IDX_DATA.bank side), .cell (F.HBI_IDX_STATUS_READY.bank side), .soft]

theorem idxFetchDone_stays : Stays [.hbi, .drawn] (reachFetched side) s (s.idxFetchDone side) := by
  have read : Stays [.hbi, .drawn] (reachFetched side) s (s.idxWord side (s.idxAddr side)).2.2 :=
    Stays.refl.via idxWord_stays (by decide) (by simp [reachFetched])
  unfold State.idxFetchDone
  refine .ite .refl ?_
  exact ((read.via setSide_stays (by decide) (by simp)).wr (holds_cell (by simp [reachFetched]))).wrb (holds_cell (by simp [reachFetched]))

end
end Sys2Proof.Machine

namespace Sys2Proof.Machine
open Sys2Proof
-- Proofs in sequence, as above: waiting threads' stacks take memory.
set_option Elab.async false
variable {ps qs : List Part} {rs os : List Reach} {o s t : State}

/-! ### Frames of the queues (R453 to R460) -/

/-- Registers that show a queue's level. -/
def reachLevels (n : Nat) : List Reach :=
  [.cell (F.QUE_Q_DEPTH_LEVEL n), .cell (F.QUE_Q_HWM n), .cell F.QUE_STATUS_FULL, .cell F.QUE_STATUS_NONEMPTY]

/-- Registers of a queue that discards what it has no room for. -/
def reachQueue (n : Nat) : List Reach := .cell (F.QUE_Q_LOST n) :: reachLevels n

section
variable {n : Nat}

theorem queLevel_levels {level : Nat} : Stays [.que] (reachLevels n) s (s.queLevel n level) :=
  Stays.refl.queLevel (holds_cell (by simp [reachLevels])) (holds_cell (by simp [reachLevels])) (holds_cell (by simp [reachLevels]))
    (holds_cell (by simp [reachLevels]))

theorem setQ_levels {xs : List QItem} : Stays [.que] (reachLevels n) s (s.setQ n xs) := Stays.refl.setQue.trans queLevel_levels

theorem place_levels {x : QItem} : Stays [.que] (reachLevels n) s (s.place n x) := .ite setQ_levels Stays.refl.setQue

theorem placeAll_queue {xs : List QItem} : Stays [.que] (reachQueue n) s (s.placeAll n xs) :=
  .ite (Stays.refl.via setQ_levels (by decide) (List.subset_cons_self ..)) (Stays.refl.inc (holds_cell (List.mem_cons_self ..)))

theorem handOut_levels : Stays [.que] (reachLevels n) s (s.handOut n) := by
  unfold State.handOut
  split
  · exact .refl
  · exact Stays.refl.setQue.trans setQ_levels

theorem refill_levels : Stays [.que] (reachLevels n) s (s.refill n) := by
  unfold State.refill
  split
  · exact .refl
  · exact .ite (Stays.refl.setQue.trans setQ_levels) .refl

end

theorem ringReply_queue {channel dest : Nat} {body : List Nat} : Stays [.que] (reachQueue 4) s (s.ringReply channel dest body) :=
  placeAll_queue

theorem ringSend_levels {n channel dest : Nat} {body : List Nat} : Stays [.que] (reachLevels n) s (s.ringSend n channel dest body) :=
  Stays.foldl .refl fun _ hs => hs.trans place_levels

theorem toShore_queue {session : Nat} {msg : List Nat} : Stays [.que] (reachQueue 12) s (s.toShore session msg) := placeAll_queue

theorem toSession_stays {session : Nat} {msg : List Nat} :
    Stays [.que] (reachQueue 12 ++ reachQueue 4) s (s.toSession session msg) :=
  .ite (Stays.refl.run toShore_queue) (Stays.refl.run ringReply_queue)

theorem subSend_stays {session time : Nat} : Stays [.que] (reachQueue 12 ++ reachQueue 4) s (s.subSend session time) := by
  unfold State.subSend
  split
  · exact .refl
  · dsimp only
    split <;> refine .ite .refl (Stays.refl.setQue.trans toSession_stays)

/-! ### Frames of one fabric slot and of the host mailbox (R460, R465, R467) -/

/-- Registers that a move of a queue's head changes. -/
def reachMove : List Reach :=
  [.cell F.QUE_TRACE_LEVEL, .cell F.QUE_TRACE_LOST, .family (F.QUE_Q_DEPTH_LEVEL 0), .family (F.QUE_Q_HWM 0)] ++ reachEvent

theorem levels_move (n : Fin 16) : covers reachMove (reachLevels n) = true := by
  revert n
  decide

theorem Stays.moved {n : Nat} {xs : List QItem} (hs : Stays [.que, .trg, .bil] reachMove o s) (small : n < 16 := by decide) :
    Stays [.que, .trg, .bil] reachMove o (s.setQ n xs) :=
  hs.run (setQ_levels) (by decide) (levels_move ⟨n, small⟩)

theorem traceIn_stays {e : TraceEntry} : Stays [.que, .trg, .bil] reachMove s (s.traceIn e) :=
  Stays.wr (Stays.ite Stays.refl.setQue (Stays.setQue .refl).inc)

theorem moveHead_stays {n : Nat} (small : n < 16) : Stays [.que, .trg, .bil] reachMove s (s.moveHead n) := by
  unfold State.moveHead
  split
  · split
    · exact .refl
    · exact (Stays.refl.run (setQ0_frame s _)).run (ringWrite_frame _ _)
  · split
    · exact .refl
    · exact Stays.refl.setBil.run handOut_levels
  · split
    · exact .refl
    · exact Stays.refl.setTrg.moved
  · split
    · exact .refl
    · exact Stays.refl.moved.moved
  · split
    · exact .refl
    · have entered {xs : List Ev} {e : Ev} : Stays [.que, .trg, .bil] reachMove s ((s.setQ10 xs).enterQ0 e) :=
        (Stays.refl.setQue.run queLevel_levels).run (enterQ0_frame _ _)
      exact .ite entered.setTrg entered
  · split
    · exact .refl
    · exact Stays.refl.moved.moved
  · split
    · exact .refl
    · exact Stays.refl.moved.moved
  · split
    · exact .refl
    · exact (Stays.refl.setQue.run queLevel_levels).trans traceIn_stays
  · exact Stays.refl.run handOut_levels (by decide) (levels_move ⟨n, small⟩)

theorem queueMove_stays {ready : Nat} : Stays [.que, .trg, .bil] reachMove s (s.queueMove ready) := by
  unfold State.queueMove
  refine .ite .refl ?_
  split
  · exact .refl
  next served =>
    have small := List.mem_range.mp (List.mem_of_find?_eq_some served)
    exact (moveHead_stays small).run refill_levels (by decide) (levels_move ⟨_, small⟩)

theorem mbxPop_stays {side : Nat} : Stays [.hbi, .que] (.cell F.QUE_IRQ_STATUS_MBX_OUT :: reachLevels 11 ++ reachKeyed) s (s.mbxPop side) := by
  unfold State.mbxPop
  split
  · exact Stays.refl.accessError
  · exact (Stays.refl.setQue.run queLevel_levels).wrb

theorem mbxPush_stays {side : Nat} : Stays [.hbi, .que] (reachLevels 10 ++ reachKeyed) s (s.mbxPush side) :=
  .ite Stays.refl.accessError (.ite Stays.refl.accessError (Stays.refl.setQue.run queLevel_levels))

theorem traceRead_stays {side : Nat} : Stays [.hbi, .que] (.cell F.QUE_TRACE_LEVEL :: reachKeyed) s (s.traceRead side) :=
  .ite (Stays.refl.accessError.run drive_frame) (((Stays.setQue .refl).wr.run accepted_stays).run drive_frame)

/-! ### Frames of sessions and their requests (R109 to R112) -/

/-- Registers that the end of a session changes. -/
def reachEnded : List Reach :=
  [.cell F.TRG_SHORE_SESS_OPEN, .family F.HBI_CRED_STATUS_MAINT_OPEN, .family F.HBI_CRED_STATUS_SAFETY_OPEN, .levels, .side 1, .side 2,
    .side 3, .side 4]

theorem ended_side {k : Nat} (session : k ∈ [1, 2, 3, 4]) : .side k ∈ reachEnded := by
  have every : ∀ k ∈ [1, 2, 3, 4], .side k ∈ reachEnded := by decide
  exact every k session

theorem endSession_stays {k : Nat} (session : k ∈ [1, 2, 3, 4]) : Stays [.hbi, .que, .trg] reachEnded s (s.endSession k) := by
  have closed : Stays [.hbi, .que, .trg] reachEnded s (s.closeCreds k true true) :=
    Stays.refl.via (closeCreds_stays (rs := reachEnded) (holds_bank (by decide) (by simp [reachEnded]) k)
      (holds_bank (by decide) (by simp [reachEnded]) k) (holdsLevels (by simp [reachEnded]) k)) (by decide) (List.Subset.refl _)
  have left : Stays [.hbi, .que, .trg] reachEnded s (s.endSide k) :=
    (closed.via setSide_stays (by decide) (by simp)).via dropCopies_stays (by decide) (by simpa using ended_side session)
  rw [endSession_eq]
  exact (left.setTrg.via dropSession_stays (by decide) (by simp)).wr

theorem sideOf_session (session : Fin 4) : sideOf session ∈ [1, 2, 3, 4] := by
  revert session
  decide

theorem connect_stays {tlsOk : Bool} {digest : List Nat} : Stays [.hbi, .que, .trg] reachEnded s (s.connect tlsOk digest) := by
  unfold State.connect
  refine .ite .refl ?_
  split
  next free => exact (endSession_stays (List.mem_of_find?_eq_some free)).setTrg.wr
  · exact .refl

theorem resolve_stays {session typ reqId target : Nat} : Stays [.trg] [] s (s.resolve session typ reqId target) := by
  unfold State.resolve
  dsimp only
  split
  · exact Stays.refl.setTrg
  · exact .refl

theorem answerShore_stays {session typ reqId target status index : Nat} {body : List Nat} :
    Stays [.que, .trg] (reachQueue 12) s (s.answerShore session typ reqId target status index body) :=
  .ite .refl ((Stays.refl.run resolve_stays).run toShore_queue)

theorem answerSession_stays {channel session typ reqId status index : Nat} {body : List Nat} :
    Stays [.que, .trg] (reachQueue 12 ++ reachQueue 4) s (s.answerSession channel session typ reqId status index body) :=
  .ite (Stays.refl.run answerShore_stays) (Stays.refl.run ringReply_queue)

theorem remoteResponse_stays {k typ reqId target status index : Nat} {body : List Nat} :
    Stays [.que, .trg] (reachQueue 12) s (s.remoteResponse k typ reqId target status index body) :=
  .ite .refl (.ite answerShore_stays (.ite (Stays.refl.run toShore_queue) .refl))

theorem unreachable_stays {k reqId target : Nat} : Stays [.que, .trg] (reachQueue 12) s (s.unreachable k reqId target) := by
  unfold State.unreachable
  split
  · exact .refl
  · exact answerShore_stays

theorem forward_levels {session unit : Nat} {q : ShoreReq} : Stays [.que] (reachLevels 13) s (s.forward session unit q) :=
  Stays.foldl .refl fun _ hs => hs.trans place_levels

/-- Registers that a request that goes its way changes. -/
def reachSent : List Reach := reachQueue 12 ++ reachLevels 13

theorem refuse_stays {k typ reqId target status : Nat} : Stays [.que] (reachQueue 12) s (s.refuse k typ reqId target status) := toShore_queue

theorem dispatch_stays {k : Nat} {q : ShoreReq} : Stays [.que, .trg] reachSent s (s.dispatch k q) :=
  .ite (Stays.refl.run refuse_stays) (.ite (Stays.setTrg (Stays.setTrg .refl)) ((Stays.setTrg .refl).run forward_levels))

/-- A request that is not answered for its form runs; the others change the registers of a session's end and of Q12 (R110). -/
theorem shoreRequest_stays {k typ reqId target length : Nat} {f : State → State} (session : k ∈ [1, 2, 3, 4])
    (runs : ∀ u, Stays ps rs u (f u)) (parts : ∀ p ∈ [Part.hbi, .que, .trg], p ∈ ps := by decide)
    (ends : covers rs reachEnded = true := by decide) (answers : covers rs (reachQueue 12) = true := by decide) :
    Stays ps rs s (s.shoreRequest k typ reqId target length f) := by
  have queue : Part.que ∈ ps := parts _ (by decide)
  have ring : Part.trg ∈ ps := parts _ (by decide)
  exact .ite .refl (.ite ((Stays.refl.run answerShore_stays (by simp [queue, ring]) answers).run (endSession_stays session) parts ends)
    (.ite (Stays.refl.run toShore_queue (by simp [queue]) answers) (runs s)))

theorem access_stays {k reqId target length : Nat} {body : List Nat} (session : k ∈ [1, 2, 3, 4]) :
    Stays [.hbi, .que, .trg] (reachSent ++ reachEnded) s (s.access k reqId target length body) :=
  shoreRequest_stays session fun u => by
    split
    · exact Stays.refl.run refuse_stays
    · exact .ite (Stays.refl.run refuse_stays) (Stays.refl.run dispatch_stays)

theorem keepalive_stays {k reqId target length : Nat} (session : k ∈ [1, 2, 3, 4]) :
    Stays [.hbi, .que, .trg] (reachQueue 12 ++ reachEnded) s (s.keepalive k reqId target length) :=
  shoreRequest_stays session fun _ => Stays.refl.run refuse_stays

theorem subscribed_stays {k reqId : Nat} {body : List Nat} :
    Stays [.que, .trg] (reachQueue 12 ++ reachQueue 4) s (s.subscribed k reqId body) :=
  Stays.refl.setQue.trans answerSession_stays

theorem eventSubscribe_stays {k reqId target length : Nat} {body : List Nat} (session : k ∈ [1, 2, 3, 4]) :
    Stays [.hbi, .que, .trg] (reachSent ++ reachQueue 4 ++ reachEnded) s (s.eventSubscribe k reqId target length body) :=
  .ite
    (shoreRequest_stays session fun u =>
      .ite (Stays.refl.run refuse_stays) (.ite (Stays.refl.run dispatch_stays) ((Stays.setTrg .refl).run subscribed_stays)))
    (.ite .refl (.ite (Stays.refl.run subscribed_stays) (Stays.setTrg .refl)))

/-! ### Frames of record requests (R112, R160) -/

/-- Registers that a record request on its way changes. -/
def reachAsked : List Reach := reachSent ++ reachLevels 6

theorem wakeFor_stays {a : Nat} : Stays [.que, .trg, .mrk] reachAsked s (s.wakeFor a) := .ite .refl (Stays.refl.setMrk.run ringSend_levels)

theorem recordRoute_stays {k : Nat} {q : RecordAsk} (n : Nat) {r : ShoreReq} {last : Nat × List Nat} :
    Stays [.que, .trg, .mrk] reachAsked s (State.recordRoute k r q n last s) := by
  induction n generalizing s r last with
  | zero => exact Stays.refl.run answerShore_stays
  | succ n ih =>
    have answered {status : Nat} {body : List Nat} :
        Stays [.que, .trg, .mrk] reachAsked s (s.answerShore k r.typ r.reqId r.target status 0xFFFF body) :=
      Stays.refl.run answerShore_stays
    unfold State.recordRoute
    extract_lets left keep
    have kept {r' : ShoreReq} : Stays [.que, .trg, .mrk] reachAsked s (keep s r') := (Stays.refl.run resolve_stays).setTrg
    split
    · exact .ite (.ite (kept.trans ih) answered) (kept.run forward_levels)
    · split
      · exact kept.trans wakeFor_stays
      · exact answered

theorem recordGet_stays {typ k reqId target length : Nat} {body : List Nat} (session : k ∈ [1, 2, 3, 4]) :
    Stays [.hbi, .que, .trg, .mrk] (reachAsked ++ reachQueue 4 ++ reachEnded) s (s.recordGet typ k reqId target length body) := by
  unfold State.recordGet
  refine .ite (shoreRequest_stays session fun u => ?_) ?_
  · split
    · exact Stays.refl.run refuse_stays
    · exact (Stays.setTrg .refl).run (recordRoute_stays _)
  · split
    · exact .refl
    · exact .ite .refl (Stays.refl.run ringReply_queue)

theorem recordTransfer_stays {k typ reqId target status : Nat} {body : List Nat} :
    Stays [.que, .trg, .mrk] reachAsked s (s.recordTransfer k typ reqId target status body) := by
  unfold State.recordTransfer
  refine .ite .refl ?_
  split
  · exact .refl
  · split
    · exact .refl
    · exact .ite (recordRoute_stays _) (Stays.refl.run answerShore_stays)

end Sys2Proof.Machine

namespace Sys2Proof.Machine
open Sys2Proof
-- Proofs in sequence, as above: waiting threads' stacks take memory.
set_option Elab.async false
variable {ps qs : List Part} {rs os : List Reach} {o s t : State}

/-! ### The frame of a register read (R64, R389, R399) -/

theorem certAccess_stays {side v : Nat} {write : Bool} : Stays [.hbi, .drawn, .key]
    (.cell (F.KEY_CERT_ADDR.bank side) :: .cell (F.KEY_CERT_DATA.bank side) :: reachKeyed) s (s.certAccess side write v) := by
  have given : Stays [.hbi, .drawn, .key] (.cell (F.KEY_CERT_ADDR.bank side) :: .cell (F.KEY_CERT_DATA.bank side) :: reachKeyed) s
      (s.accepted side) := Stays.refl.via accepted_stays (by decide) (by simp)
  have read {v : Nat} {inside : Prop} [Decidable inside] : Stays [.hbi, .drawn, .key]
      (.cell (F.KEY_CERT_ADDR.bank side) :: .cell (F.KEY_CERT_DATA.bank side) :: reachKeyed) s
      ((if inside then s.accepted side else ((s.accepted side).draw 22).2).wr (F.KEY_CERT_DATA.bank side) v) :=
    (Stays.ite given given.setDrawn).wr (holds_cell (by simp))
  exact .ite (Stays.refl.accessError (by decide) (covers_of_subset fun _ held => by simp [held]))
    (Stays.wr (.ite (.ite given.setKey given) (read.thru fun hs => .ite hs.setHbi hs)) (holds_cell (by simp)))

theorem enrolRead_stays {side : Nat} : Stays [.hbi, .key]
    (.family (F.KEY_ENROL_DATA 0) :: .cell F.KEY_STATUS_ENROLLED :: reachKeyed) s (s.enrolRead side) := by
  have word (i : Fin 12) : Holds (.family (F.KEY_ENROL_DATA 0) :: .cell F.KEY_STATUS_ENROLLED :: reachKeyed) (F.KEY_ENROL_DATA i) := by
    revert i
    decide
  have given : Stays [.hbi, .key] (.family (F.KEY_ENROL_DATA 0) :: .cell F.KEY_STATUS_ENROLLED :: reachKeyed) s (s.accepted side) :=
    Stays.refl.run accepted_stays
  exact .ite Stays.refl.accessError (given.setHbi.thru fun hs =>
    .ite (Stays.foldl (hs.setKey.wrb) fun its hs => hs.wr (word ⟨_, List.mem_range.mp its⟩)) hs)

/-- Parts of the state that a read changes. -/
def partsRead : List Part := [.hbi, .que, .pat, .key, .saf, .drawn, .shadow, .tbuf]

/-- Registers that a side's read changes. -/
def reachRead (side : Nat) : List Reach :=
  .cell (F.HBI_IDX_ADDR.bank side) :: .cell (F.HBI_IDX_DATA.bank side) :: .cell (F.HBI_IDX_STATUS_ERR.bank side) ::
    .cell (F.HBI_IDX_STATUS_LOCKED.bank side) :: .cell (F.HBI_IDX_STATUS_READY.bank side) ::
    .cell (F.HBI_IDX_STATUS_WAIT.bank side) :: .cell (F.KEY_CERT_ADDR.bank side) :: .cell (F.KEY_CERT_DATA.bank side) ::
    ([.cell F.KEY_STATUS_ENROLLED] ++ reachUpdate ++ [.cell F.QUE_TRACE_LEVEL, .cell F.SAF_LOG_LOST, .cell F.SAF_LOG_SEQ_HI,
      .cell F.SAF_LOG_SEQ_LO, .cell F.SAF_PARAM_CRC, .family (F.HBI_CRED_CHAL 0), .family (F.KEY_ENROL_DATA 0), .soft] ++ reachKeyed)

theorem goto_read {side : Nat} : reachGoto side ⊆ reachRead side := fun _ held => by
  simp only [reachGoto, reachTarget, reachRead, List.mem_cons, List.mem_append] at held ⊢
  tauto

theorem keyed_read {side : Nat} : reachKeyed ⊆ reachRead side := fun _ held => by simp [reachRead, held]

theorem readWord_stays {side : Side} {a : Nat} : Stays partsRead (reachRead side.val) s (s.readWord side a).2 := by
  have one {x : Reach} (held : x ∈ reachRead side.val) : x :: reachKeyed ⊆ reachRead side.val := List.cons_subset.mpr ⟨held, keyed_read⟩
  have two {x y : Reach} (first : x ∈ reachRead side.val) (second : y ∈ reachRead side.val) :
      x :: y :: reachKeyed ⊆ reachRead side.val := List.cons_subset.mpr ⟨first, one second⟩
  unfold State.readWord
  split
  · exact Stays.refl.accessError (by decide) (covers_of_subset keyed_read)
  split
  · exact Stays.refl.via readChallenge_stays (by decide) (by simp [reachRead])
  split
  · exact Stays.refl.via readIdxData_stays (by decide) goto_read
  split
  · exact Stays.refl.via traceRead_stays (by decide) (one (by simp [reachRead]))
  split
  · exact Stays.refl.via certAccess_stays (by decide) (two (by simp [reachRead]) (by simp [reachRead]))
  split
  · exact Stays.refl.via enrolRead_stays (by decide) (two (by simp [reachRead]) (by simp [reachRead]))
  · exact Stays.refl.via readReg_stays (by decide) (one (by simp [reachRead]))

theorem registerRead_stays {side : Side} {a : Nat} : Stays partsRead (reachRead side.val) s (s.registerRead side a) :=
  readWord_stays.via drive_frame (by decide) (by simp)

/-! ### The frames settled -/

/-- A write that starts no command changes its register, or is refused (R64). -/
theorem writeWord_free {side : Side} {a v time : Nat} {fresh : Bool} (command : s.commandWrite side a v time fresh = none)
    (special : s.specialWrite side a v = none) :
    s.writeWord side a v time fresh = if 0x40000 ≤ a then s.accessError side eAddr a else s.writeReg side a v := by
  rw [State.writeWord, command, special]

/-- A plain write keeps every register but its own, and the shadows of all others (R64, R67, R88). -/
theorem registerWrite_keeps {side : Side} {addr value : BitVec 32} {time : Nat} {fresh : Bool}
    (command : s.commandWrite side addr.toNat value.toNat time fresh = none) (special : s.specialWrite side addr.toNat value.toNat = none)
    (runs : exec (.registerWrite side addr value time fresh) s = .next t) (word : .word addr.toNat ∈ rs)
    (params : covers rs reachParams = true) (keyed : covers rs reachKeyed = true) :
    Stays [.hbi, .pat, .saf, .shadow] rs s t ∧ ShadowOutside addr.toNat s t := by
  injection runs with means
  rw [writeWord_free command special] at means
  rw [← means]
  split
  · exact ⟨Stays.refl.accessError (by decide) keyed, shadowOutside_of_eq ((accessError_frame _ _ _ _ _).parts .shadow (by decide))⟩
  · exact ⟨writeReg_stays (holdsWrites_word word) params keyed, writeReg_shadow⟩

/-- A command keeps what its meaning's frame leaves, where a side's cells are among the named. -/
theorem keeps_within {c : Instr} {f : State → State} {xs : List Reach} (runs : ∀ s, exec c s = .next (f s)) (k : ∀ s, Stays qs xs s (f s))
    (hr : xs ⊆ rs ++ os) (hp : ∀ p ∈ qs, p ∈ ps := by decide) : Keeps c ps rs os :=
  Keeps.of f runs fun s => Stays.refl.via (k s) hp hr

/-- Settles O46: each command's meaning has a frame, which lies within the named parts and registers. -/
theorem frameOfHostAndQueues : Obligations.FrameOfHostAndQueues := by
  refine ⟨fun side addr value time fresh s t command special runs => ?_,
    fun _ b _ => keeps_of (fun _ => rfl) fun _ => levelWrite_stays b.isLt,
    fun _ _ => keeps_of (fun _ => rfl) fun _ => localTack_stays,
    fun _ _ => keeps_of (fun _ => rfl) fun _ => pinTack_stays,
    fun _ => keeps_of (fun _ => rfl) fun _ => pfgTimeout_stays,
    fun _ _ _ => keeps_of (fun _ => rfl) fun _ => command_stays fun _ => rtackGo_stays,
    fun _ => keeps_of (fun _ => rfl) fun _ => rtackInstant_stays,
    fun _ => keeps_of (fun _ => rfl) fun _ => readChallenge_stays,
    fun _ _ _ => keeps_within (fun _ => rfl)
      (fun _ => command_stays (fun _ => credOpen_stays) (by decide) (covers_of_subset keyed_credential)) (List.Subset.refl _),
    fun _ _ _ => keeps_within (fun _ => rfl)
      (fun _ => command_stays (fun _ => credOpen_stays) (by decide) (covers_of_subset keyed_credential)) (List.Subset.refl _),
    fun _ _ => keeps_within (fun _ => rfl)
      (fun _ => command_stays (fun _ => credClose_stays) (by decide) (covers_of_subset (List.subset_append_right ..))) (List.Subset.refl _),
    fun _ _ => keeps_within (fun _ => rfl) (fun _ => closeCreds_closed) (by simp [reachClosed]),
    fun _ => keeps_within (fun _ => rfl) (fun _ => credLockoutEnd_stays) (by simp),
    fun _ _ => keeps_within (fun _ => rfl) (fun _ => idxAddrWrite_stays) (List.Subset.refl _),
    fun _ => keeps_within (fun _ => rfl) (fun _ => readIdxData_stays) (List.Subset.refl _),
    fun _ _ => keeps_within (fun _ => rfl) (fun _ => idxDataWrite_stays) (List.Subset.refl _),
    fun _ => keeps_within (fun _ => rfl) (fun _ => idxFetchDone_stays) (by simp [reachFetched]),
    fun _ => keeps_within (fun _ => rfl) (fun _ => idxPostDone_stays) (List.Subset.refl _),
    fun _ => keeps_within (fun _ => rfl) (fun _ => idxRelease_stays) (by simp),
    fun _ => keeps_within (fun _ => rfl) (fun _ => .ite setPort_stays .refl) (by simp),
    fun _ => keeps_within (fun _ => rfl) (fun _ => idxPortFree_stays) (List.Subset.refl _),
    fun _ _ _ _ _ _ _ => keeps_of (fun _ => rfl) fun _ => remoteResponse_stays,
    fun _ _ _ => keeps_of (fun _ => rfl) fun _ => unreachable_stays,
    fun _ _ => keeps_of (fun _ => rfl) fun _ => connect_stays,
    fun k => keeps_of (fun _ => rfl) fun _ => endSession_stays (sideOf_session k),
    fun k _ _ _ _ => keeps_of (fun _ => rfl) fun _ => access_stays (sideOf_session k),
    fun k _ _ _ _ => keeps_of (fun _ => rfl) fun _ => recordGet_stays (sideOf_session k),
    fun k _ _ _ _ => keeps_of (fun _ => rfl) fun _ => recordGet_stays (sideOf_session k),
    fun k _ _ _ _ => keeps_of (fun _ => rfl) fun _ => eventSubscribe_stays (sideOf_session k),
    fun k _ _ _ => keeps_of (fun _ => rfl) fun _ => keepalive_stays (sideOf_session k),
    fun _ _ _ _ _ _ => keeps_of (fun _ => rfl) fun _ => recordTransfer_stays,
    fun _ => keeps_of (fun _ => rfl) fun _ => queueMove_stays,
    fun _ _ => keeps_of (fun _ => rfl) fun _ => command_stays fun _ => mbxPop_stays,
    fun _ _ => keeps_of (fun _ => rfl) fun _ => command_stays fun _ => mbxPush_stays,
    fun _ _ => keeps_of (fun _ => rfl) fun _ => subSend_stays,
    fun _ => keeps_of (fun _ => rfl) fun _ => traceRead_stays,
    fun k => keeps_of (fun _ => rfl) fun _ => endSession_stays (sideOf_session k),
    fun _ _ => keeps_within (fun _ => rfl) (fun _ => registerRead_stays) (List.Subset.refl _)⟩
  exact registerWrite_keeps command special runs (by simp) (by simp [covers, reachParams, Reach.has])
    (covers_of_subset (List.subset_append_right ..))

end Sys2Proof.Machine

namespace Sys2Proof.Machine
open Sys2Proof
-- Proofs in sequence, as above: waiting threads' stacks take memory.
set_option Elab.async false
variable {ps qs : List Part} {rs os : List Reach} {o s t : State}

/-! ### Frames of the ring: members, the own join and leave (R105, R106) -/

/-- Registers that show the members. -/
def reachMembers : List Reach := [.family (F.TRG_MEMBERS 0)]

theorem reachMembers_word (i : Fin 4) : Holds reachMembers (F.TRG_MEMBERS i) := by
  revert i
  decide

theorem setMember_stays {a : Nat} {b : Bool} : Stays [] reachMembers s (s.setMember a b) := by
  unfold State.setMember
  split
  · exact .refl
  next small => exact Stays.refl.wr (reachMembers_word ⟨a / 32, by omega⟩)

/-- A member is shown in the word of its address. -/
theorem setMember_word {a : Nat} {b : Bool} : Stays [] [.cell (F.TRG_MEMBERS (a / 32))] s (s.setMember a b) :=
  .ite .refl (Stays.refl.wr (holds_cell (List.mem_cons_self ..)))

/-- Registers that a unit changes when it begins to form its pair (R514). -/
def reachForming : List Reach :=
  [.cell F.CLK_AON_STATUS_POR, .cell F.PAIR_BULK_ITEMS, .cell F.PAIR_STATUS_PARTNER_CLAIM, .cell F.PAIR_STATUS_STATE,
    .cell F.PAT_PARTNER_SERIAL, .cell F.SYS_START_PHASE, .cell F.SYS_START_TIME]

theorem startForming_stays : Stays [.pair, .th] reachForming s s.startForming :=
  .ite .refl (.ite Stays.refl.setPairState Stays.refl.setPairState.wr.wr.wr.set.setPair)

/-- Registers that a unit changes when it counts as joined (R105). -/
def reachJoined : List Reach := reachMembers ++ reachForming ++ reachEvent

theorem nowJoined_stays : Stays [.que, .pair, .trg, .th] reachJoined s s.nowJoined := by
  unfold State.nowJoined
  extract_lets trg joined shown told
  have hs : Stays [.que, .pair, .trg, .th] reachJoined s joined := (Stays.setTrg .refl).run setMember_stays
  have hs : Stays [.que, .pair, .trg, .th] reachJoined s shown := .ite hs.wr hs
  have hs : Stays [.que, .pair, .trg, .th] reachJoined s told := .ite (hs.run (event_frame _ _ _)) hs
  exact hs.run startForming_stays

/-- Registers that a unit changes when it is off the ring (R106). -/
def reachOffRing : List Reach := .cell F.TRG_STATUS_KEYED :: reachMembers

theorem offRing_stays : Stays [.trg, .mrk] reachOffRing s s.offRing :=
  have gone : Stays [.trg, .mrk] reachOffRing s (({ s with trg.join := .idle, trg.slot := none } : State).setMember s.addr false) :=
    Stays.refl.setTrg.run setMember_stays
  .ite gone.set gone.setTrg.wrb

theorem ringKeyOwn_stays : Stays [.que, .pair, .trg, .th, .drawn] (.cell F.TRG_STATUS_KEYED :: reachJoined) s s.ringKeyOwn :=
  (Stays.ite .refl (Stays.wrb (Stays.set .refl))).thru fun hs => .ite hs (hs.run nowJoined_stays)

/-! ### Frames of a cycle's start and of trains (R94 to R104) -/

/-- Registers that show the calendar (R103, R345). -/
def reachCal : List Reach :=
  [.cell F.TRG_CAL_OFFSET_HI, .cell F.TRG_CAL_OFFSET_LO, .cell F.TRG_CAL_STATUS_PROVEN, .cell F.TRG_CAL_STATUS_STEP_COUNT,
    .cell F.TRG_CAL_STATUS_VALID]

/-- Registers that the calendar's slew and steps change (R345, R346). -/
def reachSlew : List Reach := .cell F.BIL_STATUS_STEP_PENDING :: .cell F.BIL_TIME_PENDING_S :: reachCal ++ reachRecord

theorem stepRecord_stays {old new oldStep newStep origin client flags : Nat} :
    Stays [.bil, .que, .trg] reachRecord s (s.stepRecord old new oldStep newStep origin client flags) := jrnlWrite_frame

theorem calSlew_stays : Stays [.bil, .que, .trg] reachSlew s s.calSlew := by
  unfold State.calSlew
  extract_lets off d clear
  have cleared {u : State} (hs : Stays [.bil, .que, .trg] reachSlew s u) : Stays [.bil, .que, .trg] reachSlew s (clear u) := hs.wrb.wr
  refine .ite .refl ?_
  split
  · exact ((cleared (Stays.wr64 .refl)).wr.setBil).run stepRecord_stays
  · exact .ite (cleared (Stays.wr64 .refl)) ((Stays.wrisat (Stays.wrb .refl)).thru fun hs => .ite hs (hs.run (event_frame _ _ _)))

theorem showProven_stays : Stays [] [.cell F.TRG_CAL_STATUS_PROVEN] s s.showProven := .ite (Stays.wrb .refl) .refl

/-- Registers that count the frames of connections. -/
def reachFrames : List Reach := [.family (F.SAF_CONN_STATUS_SEQ 0)]

theorem reachFrames_conn (j : Fin 16) : Holds reachFrames (F.SAF_CONN_STATUS_SEQ j) := by
  revert j
  decide

theorem makeFrame_stays {j : Nat} {pairLink : Bool} (small : j < 16) : Stays [.saf] reachFrames s (s.makeFrame j pairLink).2 :=
  (Stays.setSaf .refl).wr (reachFrames_conn ⟨j, small⟩)

theorem cycleFrame_stays {cycle : Nat} : Stays [.trg, .saf] reachFrames s (s.cycleFrame cycle) := by
  unfold State.cycleFrame
  extract_lets js
  split
  · exact Stays.refl.setTrg
  next j found =>
    have small : j < 16 := List.mem_range.mp (List.mem_filter.mp (List.mem_of_getElem? found)).1
    exact (Stays.refl.run (makeFrame_stays small)).setTrg

theorem deliveredAt_stays {x : Option QItem} : Stays [.trg] [] s (s.deliveredAt x) := .ite Stays.refl.setTrg .refl

/-- The parts that a unit changes when it writes its slots (R95, R105, R106). -/
def partsSlots : List Part := [.que, .pair, .trg, .mrk, .th, .saf]

/-- Registers that it changes then. -/
def reachSlots : List Reach := .cell F.TRG_STATUS_KEYED :: reachFrames ++ reachJoined

theorem writeSlots_stays {cycle : Nat} : Stays partsSlots reachSlots s (s.writeSlots cycle) := by
  unfold State.writeSlots
  extract_lets trg left joined slot written trg'
  have hs : Stays partsSlots reachSlots s left := (Stays.setTrg .refl).setTrg
  have ht : Stays partsSlots reachSlots s joined := .ite .refl (Stays.refl.run nowJoined_stays)
  have ht : Stays partsSlots reachSlots s written := (ht.run cycleFrame_stays).setTrg
  exact .ite .refl (.ite (.ite (hs.run offRing_stays) hs) (.ite .refl (ht.setTrg.run deliveredAt_stays)))

theorem unwrapSign_stays {next : Bool} {cycle : Nat} : Stays [.trg] [] s (s.unwrapSign next cycle) := .ite Stays.refl.setTrg .refl

/-- The parts that the start of a cycle changes. -/
def partsCycle : List Part := [.hbi, .que, .pat, .pair, .trg, .mrk, .th, .bil, .saf, .drawn]

/-- Registers that the start of a cycle changes. -/
def reachCycle : List Reach :=
  [.cell F.TRG_CYCLE_HI, .cell F.TRG_CYCLE_LO, .cell F.TRG_RING_TIME_HI, .cell F.TRG_RING_TIME_LO] ++ reachSlots ++ reachSlew ++
    reachBoundary

theorem cycleStart_stays {time : Nat} {unwrapNext wrapped : Bool} :
    Stays partsCycle reachCycle s (s.cycleStart time unwrapNext wrapped) := by
  unfold State.cycleStart
  extract_lets keyed counted bounded dated tack header told trg sent
  have hs : Stays partsCycle reachCycle s counted := (Stays.refl.run ringKeyOwn_stays).wr64.wr64
  have hs : Stays partsCycle reachCycle s bounded := hs.run (boundary_frame _ _)
  have hs : Stays partsCycle reachCycle s dated := ((hs.run calSlew_stays).wrb).run showProven_stays
  have hs : Stays partsCycle reachCycle s sent := (Stays.setTrg hs).setTrg
  clear_value sent
  exact .ite .refl ((hs.run unwrapSign_stays).run writeSlots_stays)

/-- The parts that a train changes as it passes (R95, R104, R106, R417). -/
def partsTrain : List Part := [.que, .pat, .gd, .sht, .pair, .trg, .mrk, .th, .clk, .met, .bil, .key, .saf, .shadow, .tbuf]

theorem takePosition_stays {hop master : Nat} : Stays partsEntry [.all] s (s.takePosition hop master) := by
  unfold State.takePosition
  extract_lets trg tried index
  have hs : Stays partsEntry [.all] s tried := Stays.refl.setTrg
  refine .ite .refl ?_
  split
  · exact hs.wr.wr.wr.within takeEntry_frame
  · exact hs.wr.within (configError_frame _ _ _)

theorem train_stays {dirB wrapped ringWrapped : Bool} {cycle hop correction delay forward neighbour master time : Nat} :
    Stays partsTrain [.all] s (s.train dirB wrapped ringWrapped cycle hop correction delay forward neighbour master time) := by
  unfold State.train
  extract_lets trg measured counted placed written
  have hs : Stays partsTrain [.all] s measured := .ite (Stays.setTrg .refl).wr.wr (Stays.setTrg .refl).wr.wr
  have hs' : Stays partsTrain [.all] s counted := .ite hs.setTrg hs.setTrg
  have hs' : Stays partsTrain [.all] s placed := .ite (hs'.within takePosition_stays) hs'
  have hs' : Stays partsTrain [.all] s written := hs'.within writeSlots_stays
  exact .ite hs (.ite hs' hs'.setPair)

theorem lullProceed_frame : Stays partsLull reachLull s s.lullProceed := .ite finishLull_frame .refl

/-! ### Frames of cycle headers and data slots (R96, R97, R103, R107) -/

/-- Registers that a frame with a wrong tag changes (R107). -/
def reachTag : List Reach := .cell F.TRG_AUTH_FAIL :: reachEvent

theorem tagFail_stays {src : Nat} : Stays [.que, .trg] reachTag s (s.tagFail src) :=
  .ite ((Stays.setTrg (Stays.inc .refl)).run (event_frame _ _ _)) (Stays.setTrg (Stays.inc .refl))

/-- Registers that a ring-wide TACK of a header changes (R71). -/
def reachLate : List Reach := .cell F.HBI_TACK_STATUS_LATE :: reachEvent

theorem headerTack_stays {h : RingHeader} : Stays [.hbi, .que, .trg] reachLate s (s.headerTack h) :=
  .ite .refl (.ite .refl (.ite ((Stays.setHbi .refl).wrb.run (configError_frame _ _ _)) (Stays.setHbi .refl)))

/-- Registers that show ring time and whether it is suspect (R103). -/
def reachTime : List Reach :=
  [.cell F.TRG_RING_TIME_HI, .cell F.TRG_RING_TIME_LO, .cell F.TRG_STATUS_TIME_SUSPECT] ++ reachEvent

theorem followTime_stays {h : RingHeader} {dirB : Bool} {arrival : Nat} : Stays [.que, .trg] reachTime s (s.followTime h dirB arrival) := by
  unfold State.followTime
  extract_lets time offset trg heard was bad shown told
  have hs : Stays [.que, .trg] reachTime s shown := (Stays.ite (Stays.setTrg .refl) (Stays.setTrg .refl)).wrb
  have hs : Stays [.que, .trg] reachTime s told := .ite (hs.run (event_frame _ _ _)) hs
  exact .ite hs hs.wr64

/-- Registers that a provisional master changes when it steps down (R102). -/
def reachStepDown : List Reach := .cell F.TRG_STATUS_MASTER :: reachOffRing

theorem stepDown_stays : Stays [.trg, .mrk] reachStepDown s s.stepDown :=
  Stays.foldl ((Stays.wrb (Stays.setTrg .refl)).run offRing_stays) fun small hs =>
    have word (i : Fin 4) : Holds reachStepDown (F.TRG_MEMBERS i) := by
      revert i
      decide
    hs.wr (word ⟨_, List.mem_range.mp small⟩)

/-- Registers that the header of a new cycle sets (R96, R103). -/
def reachFields : List Reach := .cell F.TRG_CYCLE_HI :: .cell F.TRG_CYCLE_LO :: reachCal

theorem headerFields_stays {h : RingHeader} : Stays [.trg] reachFields s (s.headerFields h) :=
  have dated := Stays.refl (ps := [.trg]) (rs := reachFields) (s := s) |>.wr64 (f := F.TRG_CYCLE_LO) (v := h.cycle)
    |>.wr64 (f := F.TRG_CAL_OFFSET_LO) (v := bitsOf 64 h.calOffset) |>.wr (f := F.TRG_CAL_STATUS_STEP_COUNT) (v := h.stepCount)
    |>.wrb (f := F.TRG_CAL_STATUS_VALID) (b := h.valid) |>.wrb (f := F.TRG_CAL_STATUS_PROVEN) (b := h.proven && h.valid)
  Stays.run (Stays.setTrg (.ite dated.setTrg dated)) unwrapSign_stays

/-- Registers that a header of another master changes. -/
def reachHeader : List Reach := .cell F.CLK_STEER :: reachTime ++ reachFields ++ reachLate ++ reachBoundary

theorem takeHeader_stays {h : RingHeader} {dirB : Bool} {arrival : Nat} {steer : Int} :
    Stays [.hbi, .que, .pat, .trg, .saf] reachHeader s (s.takeHeader h dirB arrival steer) := by
  unfold State.takeHeader
  extract_lets fresh timed taken tacked
  have hs : Stays [.hbi, .que, .pat, .trg, .saf] reachHeader s timed := (Stays.refl.run followTime_stays).wrisat
  have hs : Stays [.hbi, .que, .pat, .trg, .saf] reachHeader s taken := .ite (hs.run headerFields_stays) hs
  have ht : Stays [.hbi, .que, .pat, .trg, .saf] reachHeader s tacked := hs.run headerTack_stays
  exact .ite hs (.ite (ht.run (boundary_frame _ _)) ht)

/-- Registers that a cycle header changes. -/
def reachCycleHeader : List Reach := reachHeader ++ reachStepDown ++ reachTag

theorem cycleHeader_stays {h : RingHeader} {dirB tagOk : Bool} {arrival : Nat} {steer : Int} :
    Stays [.hbi, .que, .pat, .trg, .mrk, .saf] reachCycleHeader s (s.cycleHeader h dirB tagOk arrival steer) :=
  have taken : Stays [.hbi, .que, .pat, .trg, .mrk, .saf] reachCycleHeader s (s.takeHeader h dirB arrival steer) :=
    Stays.refl.run takeHeader_stays
  .ite .refl (.ite (.ite (Stays.refl.run stepDown_stays) .refl) (.ite (.ite taken .refl) (.ite (Stays.refl.run tagFail_stays) taken)))

theorem forwardWaiting_stays {a : Nat} : Stays [.que, .trg] (reachLevels 13) s (s.forwardWaiting a) :=
  Stays.foldl .refl fun _ hs => .ite hs (Stays.foldl hs.setTrg fun _ hs => hs.run forward_levels)

/-- Registers that a join or a leave of another unit changes (R105, R106). -/
def reachMembership (src : Nat) : List Reach := .cell (F.TRG_MEMBERS (src / 32)) :: reachLevels 13 ++ reachEvent

section
variable {src : Nat}

theorem Stays.memberShown (hs : Stays [.que, .trg, .mrk] (reachMembership src) o s) {b : Bool} :
    Stays [.que, .trg, .mrk] (reachMembership src) o (s.setMember src b) :=
  hs.via setMember_word (by decide) (by simp [reachMembership])

theorem Stays.memberEvent (hs : Stays [.que, .trg, .mrk] (reachMembership src) o s) {code arg : Nat} :
    Stays [.que, .trg, .mrk] (reachMembership src) o (if s.isMaster then s.event code arg else s) :=
  .ite (hs.via (event_frame _ _ _) (by decide) (by simp [reachMembership])) hs

theorem membership_stays {leave : Bool} : Stays [.que, .trg, .mrk] (reachMembership src) s (s.membership src leave) := by
  have gone : Stays [.que, .trg, .mrk] (reachMembership src) s ((s.noteLeave src).setMember src false) := Stays.refl.setMrk.memberShown
  have come : Stays [.que, .trg, .mrk] (reachMembership src) s ((s.setMember src true).noteJoin src) := Stays.refl.memberShown.set
  exact .ite (.ite .refl gone.memberEvent)
    (.ite .refl (come.memberEvent.via forwardWaiting_stays (by decide) (by simp [reachMembership])))

end

theorem takeJob_stays {src channel : Nat} {msg : List Nat} : Stays [.trg] [] s (s.takeJob src channel msg) := .ite .refl Stays.refl.setTrg

theorem enqueue_queue {n : Nat} {x : QItem} : Stays [.que] (reachQueue n) s (s.enqueue n x) :=
  .ite (Stays.refl.via setQ_levels (by decide) (List.subset_cons_self ..)) (Stays.refl.inc (holds_cell (List.mem_cons_self ..)))

theorem reassemble_stays {x : DataSlot} : Stays [.que, .trg] (reachQueue 5) s (s.reassemble x) := by
  unfold State.reassemble
  extract_lets key buffer dest drop entered msg
  have dropped {u : State} (hs : Stays [.que, .trg] (reachQueue 5) s u) : Stays [.que, .trg] (reachQueue 5) s (drop u) := hs.setTrg
  have hs : Stays [.que, .trg] (reachQueue 5) s entered := Stays.refl.run enqueue_queue
  exact .ite (dropped .refl) (.ite (dropped .refl).inc (.ite ((dropped hs).setTrg.run takeJob_stays) hs.setTrg))

/-- Registers that a data slot changes. -/
def reachData (src : Nat) : List Reach := reachMembership src ++ reachTag ++ reachQueue 5

theorem dataSlot_stays {x : DataSlot} {cycle : Nat} {tagOk : Bool} :
    Stays [.que, .pair, .trg, .mrk] (reachData x.src) s (s.dataSlot x cycle tagOk) := by
  unfold State.dataSlot
  extract_lets trg pair noted joined
  have hs : Stays [.que, .pair, .trg, .mrk] (reachData x.src) s noted := Stays.refl.set
  have hs : Stays [.que, .pair, .trg, .mrk] (reachData x.src) s joined :=
    hs.via membership_stays (by decide) (by simp [reachData])
  exact .ite .refl (.ite (Stays.refl.via tagFail_stays (by decide) (by simp [reachData]))
    (.ite .refl (.ite hs (hs.via reassemble_stays (by decide) (by simp [reachData])))))

/-! ### Frames of Squall frames, breaks and the grandmaster (R99, R100, R103) -/

theorem columnOff_stays : Stays [.sht, .mrk] reachMode s s.columnOff :=
  Stays.foldl (Stays.setMrk .refl) fun mem hs => hs.run (startStop_frame (lt_of_mem_loops (List.mem_of_mem_filter mem)))

theorem markerHears_stays {src code : Nat} : Stays [.sht, .mrk] reachMode s (s.markerHears src code) := by
  have heard : Stays [.sht, .mrk] reachMode s (s.unitHears src code) :=
    .ite (.ite columnOff_stays .refl) (.ite .refl (.ite (Stays.setMrk .refl) (.ite (Stays.setMrk .refl) (.ite (Stays.setMrk .refl) .refl))))
  exact heard.thru fun hs => .ite hs (.ite hs.setMrk (.ite hs.setMrk (.ite hs.setMrk hs)))

theorem squallSend_stays {cycle : Nat} : Stays [.trg] [.cell F.TRG_SQUALL_DEFER] s (s.squallSend cycle) := by
  unfold State.squallSend
  split
  · exact .refl
  · exact .ite .refl (Stays.inc .refl).setTrg

/-- Registers that a Squall frame changes. -/
def reachSquall : List Reach := reachTag ++ reachMode

theorem squallReceive_stays {f : SquallFrame} {tagOk : Bool} :
    Stays [.que, .sht, .trg, .mrk] reachSquall s (s.squallReceive f tagOk) :=
  .ite .refl (.ite (Stays.refl.run tagFail_stays)
    (.ite .refl (((Stays.setTrg .refl).run (enterQ0_frame _ _)).run markerHears_stays)))

/-- Registers that a break changes. -/
def reachBreak : List Reach :=
  [.cell F.TRG_BREAKS, .cell F.TRG_NEIGHBOUR_PORT_1, .cell F.TRG_NEIGHBOUR_PORT_2, .cell F.TRG_STATUS_WRAP_1, .cell F.TRG_STATUS_WRAP_2] ++
    reachMode ++ reachEvent

theorem linkBreak_stays {port : Nat} : Stays [.que, .bar, .sht, .trg, .mrk] reachBreak s (s.linkBreak port) := by
  unfold State.linkBreak
  extract_lets trg shown unnamed
  have hs : Stays [.que, .bar, .sht, .trg, .mrk] reachBreak s shown := (Stays.wrb (Stays.setTrg .refl)).wrb
  have hs : Stays [.que, .bar, .sht, .trg, .mrk] reachBreak s unnamed := .ite hs.wr hs.wr
  exact .ite .refl ((hs.wr.barAdd.run (event_frame _ _ _)).run markerHears_stays)

/-- Registers that the end of a break changes. -/
def reachUnwrap : List Reach := [.cell F.TRG_STATUS_WRAP_1, .cell F.TRG_STATUS_WRAP_2] ++ reachMode ++ reachEvent

theorem ringUnwrap_stays {port c : Nat} : Stays [.que, .sht, .trg, .mrk] reachUnwrap s
    ((((({ s with trg.broken := s.trg.broken.filter (· != port) } : State).showWrap).event c 0).markerHears s.addr c)) :=
  ((Stays.wrb (Stays.wrb (Stays.setTrg .refl))).run (event_frame _ _ _)).run markerHears_stays

/-- Registers that a provisional master changes when it begins. -/
def reachProvisional : List Reach := [.cell F.TRG_STATUS_KEYED, .cell F.TRG_STATUS_MASTER] ++ reachJoined

theorem provisionalStart_stays {time : Nat} :
    Stays [.que, .pair, .trg, .th, .drawn] reachProvisional s (s.provisionalStart time) :=
  .ite ((Stays.wrb (Stays.setTrg .refl)).run ringKeyOwn_stays) .refl

/-- Registers that a sync of the grandmaster changes. -/
def reachSync : List Reach :=
  [.cell F.TRG_CAL_STATUS_PTP_LOCK, .cell F.TRG_CAL_STATUS_PTP_PORT, .cell F.TRG_PTP_OFFSET] ++ reachCal

theorem ptpSync_stays {offset calendar : Int} {locked : Bool} {port : Nat} :
    Stays [.trg, .bil] reachSync s (s.ptpSync offset calendar locked port) := by
  unfold State.ptpSync
  extract_lets trg bil noted shown stepped bil' held
  have hs : Stays [.trg, .bil] reachSync s shown := (Stays.wrisat (Stays.set .refl)).wrb.wr
  have hs : Stays [.trg, .bil] reachSync s held := .ite hs.wr64.wr.setBil.wrb hs
  exact .ite .refl (hs.run showProven_stays)

theorem ptpSyncTimeout_stays : Stays [.trg] [.cell F.TRG_CAL_STATUS_PROVEN] s
    (if s.kind != .site then s else ({ s with trg.ptpGood := 0 } : State).showProven) :=
  .ite .refl ((Stays.setTrg .refl).run showProven_stays)

/-! ### Frames of joining, leaving and the ring key (R105 to R107, R391, R392) -/

theorem joinRequest_stays {dirB : Bool} : Stays [.trg] [] s (s.joinRequest dirB) := .ite .refl Stays.refl.setTrg

theorem joinTake_stays {r : JoinReq} : Stays [.que, .trg, .drawn] (reachLevels 4) s (s.joinTake r) := by
  unfold State.joinTake
  extract_lets trg taken
  have hs : Stays [.que, .trg, .drawn] (reachLevels 4) s taken := Stays.refl.setTrg
  refine .ite .refl (.ite hs ?_)
  split
  · exact hs
  · exact hs.set.run ringSend_levels

theorem noteWindow_stays {r : JoinReq} : Stays [.trg] [] s (s.noteWindow r) := .ite .refl Stays.refl.setTrg

theorem joinWindows_stays {a b : Option JoinReq} : Stays [.que, .trg, .drawn] (reachLevels 4) s (s.joinWindows a b) := by
  unfold State.joinWindows
  refine .ite (Stays.foldl .refl fun _ hs => hs.run noteWindow_stays) ?_
  split
  · exact joinTake_stays
  · exact joinTake_stays
  · exact .refl

/-- The parts that the answer to a join request changes. -/
def partsChal : List Part := [.que, .pat, .pair, .trg, .shadow, .tbuf]

theorem unassign_stays : Stays partsChal [.all] s s.unassign := (Stays.ld (Stays.ld (Stays.wr (Stays.wr .refl)))).set

theorem joinChal_stays {nonce : Option (List Nat)} : Stays partsChal [.all] s (s.joinChal nonce) := by
  have idle : Stays partsChal [.all] s (({ s with trg.join := .idle } : State).wrb F.TRG_STATUS_CONFLICT true) := (Stays.setTrg .refl).wrb
  unfold State.joinChal
  refine .ite .refl ?_
  split
  · exact ((idle.within (configError_frame _ _ _)).within (event_frame _ _ _)).trans unassign_stays
  · split
    · exact .refl
    · exact (Stays.setTrg .refl).inc

/-- Registers that the check of a join response changes. -/
def reachCheck : List Reach := .cell F.KEY_JOBS :: reachLevels 4 ++ reachEvent

theorem joinCheck_stays {addr : Nat} {response : List Nat} : Stays [.que, .trg] reachCheck s (s.joinCheck addr response) := by
  unfold State.joinCheck
  split
  · exact .refl
  · exact .ite .refl ((Stays.inc .refl).thru fun hs => .ite (hs.run ringSend_levels) (hs.setTrg.run (event_frame _ _ _)))

theorem joinRetry_stays : Stays [.trg] [.cell F.KEY_STATUS_JOIN_FAIL] s
    (if s.trg.join == .challenged && s.trg.key.isNone then ({ s with trg.join := .idle } : State).wrb F.KEY_STATUS_JOIN_FAIL true
      else if s.trg.join == .requested then { s with trg.join := .idle } else s) :=
  .ite (Stays.wrb (Stays.setTrg .refl)) (.ite (Stays.setTrg .refl) .refl)

theorem ringKey_stays {epoch : Nat} {wrapped : List Nat} {next : Option (Nat × List Nat)} :
    Stays [.trg] [.cell F.KEY_JOBS, .cell F.TRG_STATUS_KEYED] s (s.ringKey epoch wrapped next) := by
  unfold State.ringKey
  refine .ite .refl ?_
  split
  · exact .refl
  · dsimp only
    split
    · exact (Stays.inc .refl).setTrg
    · exact (Stays.inc .refl).setTrg.wrb

theorem startRekey_stays : Stays [.que, .trg, .drawn] (reachLevels 4) s s.startRekey := by
  refine .ite .refl (Stays.setTrg (Stays.foldl (Stays.set .refl) fun _ hs => ?_))
  split
  · exact hs.run ringSend_levels
  · exact hs

theorem rekeyOrder_stays {side : Nat} : Stays [.hbi, .que, .trg, .drawn] (reachLevels 4 ++ reachKeyed) s
    (if s.isMaster then s.startRekey else s.accessError side eCommand trgCtrlAddr) :=
  .ite (Stays.refl.run startRekey_stays) Stays.refl.accessError

/-- The state of a unit that the delivery of the next key reaches (R392). -/
def State.rekeyDelivered (s : State) (epoch : Nat) (wrapped : List Nat) : State :=
  if s.trg.join != .joined || epoch % 65536 != (s.trg.epoch + 1) % 65536 then s else
  match ((s.inc F.KEY_JOBS).joinKey Config.deviceId (s.inc F.KEY_JOBS).addr).bind fun key => Config.unwrap key wrapped with
  | none => s.inc F.KEY_JOBS
  | some k => { s.inc F.KEY_JOBS with trg.nextKey := some k }

theorem exec_rekeyDelivery (s : State) (epoch : Nat) (wrapped : List Nat) :
    exec (.rekeyDeliveryReceive epoch wrapped) s = .next (s.rekeyDelivered epoch wrapped) := rfl

theorem rekeyDelivery_stays {epoch : Nat} {wrapped : List Nat} : Stays [.trg] [.cell F.KEY_JOBS] s (s.rekeyDelivered epoch wrapped) := by
  refine .ite .refl ?_
  split
  · exact Stays.inc .refl
  · exact (Stays.inc .refl).setTrg

theorem declaredLeave_stays {addr : Nat} : Stays [.que, .trg, .mrk] (reachMembership addr) s
    (if s.isMaster && addr != s.addr && addr ≤ 96 && s.silent addr then
      { s.membership addr true with trg.grants := s.trg.grants.filter (·.addr != addr) } else s) :=
  .ite membership_stays.setTrg .refl

/-- What the end of the wait for the last delivery does at a master that rekeys (R107). -/
def State.epochAdvanced (s : State) (time : Nat) : State :=
  match s.trg.rekey, s.isMaster with
  | some (_, at_), true =>
    if time < at_ + 100000000 || s.deliveryWaits then s else
    { s with trg.key := s.trg.nextKey, trg.nextKey := none, trg.epoch := (s.trg.epoch + 1) % 65536, trg.keyCycle := s.cycle
             trg.rekey := none }
  | _, _ => s

theorem exec_epochAdvance (s : State) (time : Nat) : exec (.epochAdvance time) s = .next (s.epochAdvanced time) := by
  change Host.Outcome.next _ = _
  unfold State.epochAdvanced
  rfl

theorem epochAdvance_stays {time : Nat} : Stays [.trg] [] s (s.epochAdvanced time) := by
  unfold State.epochAdvanced
  split
  · exact .ite .refl Stays.refl.setTrg
  · exact .refl

/-- Settles O47: each command's meaning has a frame, which lies within the named parts and registers. -/
theorem frameOfRing : Obligations.FrameOfRing :=
  ⟨fun _ _ _ => keeps_of (fun _ => rfl) fun _ => cycleStart_stays,
    fun _ _ _ _ _ _ _ _ _ _ _ => keeps_of (fun _ => rfl) fun _ => train_stays.within lullProceed_frame,
    fun _ _ _ _ _ => keeps_of (fun _ => rfl) fun _ => cycleHeader_stays,
    fun _ _ _ => keeps_within (fun _ => rfl) (fun _ => dataSlot_stays) fun _ held => by
      simp only [reachData, reachMembership, reachTag, reachQueue, reachLevels, reachEvent, List.mem_append, List.mem_cons] at held ⊢
      tauto,
    fun _ _ => keeps_of (fun _ => rfl) fun _ => .ite .refl (event_frame _ _ _),
    fun _ => keeps_of (fun _ => rfl) fun _ => squallSend_stays,
    fun _ _ => keeps_of (fun _ => rfl) fun _ => squallReceive_stays,
    fun _ => keeps_of (fun _ => rfl) fun _ => linkBreak_stays,
    fun _ => keeps_of (fun _ => rfl) fun _ => .ite ringUnwrap_stays .refl,
    fun _ => keeps_of (fun _ => rfl) fun _ => provisionalStart_stays,
    fun _ _ _ _ => keeps_of (fun _ => rfl) fun _ => ptpSync_stays,
    keeps_of (fun _ => rfl) fun _ => ptpSyncTimeout_stays,
    fun _ => keeps_of (fun _ => rfl) fun _ => joinRequest_stays,
    fun _ _ => keeps_of (fun _ => rfl) fun _ => joinWindows_stays,
    fun _ => keeps_of (fun _ => rfl) fun _ => joinChal_stays,
    fun _ _ => keeps_of (fun _ => rfl) fun _ => joinCheck_stays,
    keeps_of (fun _ => rfl) fun _ => joinRetry_stays,
    fun _ _ _ => keeps_of (fun _ => rfl) fun _ => ringKey_stays,
    fun _ _ => keeps_of (fun _ => exec_rekeyDelivery _ _ _) fun _ => rekeyDelivery_stays,
    fun _ _ => keeps_of (fun _ => rfl) fun _ => command_stays (ps := [.hbi, .trg]) (rs := reachKeyed) fun _ => Stays.announceLeave .refl,
    fun _ => keeps_within (fun _ => rfl) (fun _ => declaredLeave_stays) fun _ held => by
      simp only [reachMembership, reachLevels, reachEvent, List.mem_append, List.mem_cons] at held ⊢
      tauto,
    fun _ _ => keeps_of (fun _ => rfl) fun _ => command_stays fun _ => rekeyOrder_stays,
    keeps_of (fun _ => rfl) fun _ => .ite startRekey_stays .refl,
    fun time => keeps_of (exec_epochAdvance · time) fun _ => epochAdvance_stays⟩

end Sys2Proof.Machine

namespace Sys2Proof.Machine
open Sys2Proof
-- Proofs in sequence, as above: waiting threads' stacks take memory.
set_option Elab.async false
variable {ps qs : List Part} {rs os : List Reach} {o s t : State}

/-! ### Subscriptions at their target (R466) -/

theorem queLevel_que (s : State) (n level : Nat) : (s.queLevel n level).que = s.que := by
  unfold State.queLevel
  dsimp only
  split
  · rfl
  · rfl

/-- An answer over the ring leaves the subscriptions. -/
theorem ringReply_subs (s : State) (channel dest : Nat) (body : List Nat) : (s.ringReply channel dest body).que.subs = s.que.subs := by
  unfold State.ringReply State.placeAll
  split
  · rw [State.setQ, queLevel_que]
  · rfl

/-- A unit that is no active site unit answers a session over the ring (R110). -/
theorem answerSession_remote {channel k typ reqId status index : Nat} {body : List Nat} (remote : s.servesShore = false) :
    s.answerSession channel k typ reqId status index body =
      s.ringReply channel s.trg.lastMaster (k :: shoreMessage (0x8000 + typ) reqId s.addr status index body) :=
  if_neg (Bool.eq_false_iff.mp remote)

/-- A subscription taken at its target stands in place of the session's (R466). -/
theorem subscribed_subs {k reqId : Nat} {body : List Nat} (remote : s.servesShore = false) (classes : leNat (body.take 2) ≠ 0) :
    (s.subscribed k reqId body).que.subs = s.que.subs.filter (·.session != k) ++
      [{ session := k, reqId := reqId, classes := leNat (body.take 2), maxSev := body.getD 2 0, scopeAll := body.getD 3 0 == 1 }] := by
  have none : (leNat (body.take 2) == 0) = false := by simpa using classes
  have same : (s.subscribe k reqId (leNat (body.take 2)) (body.getD 2 0) (body.getD 3 0)).servesShore = s.servesShore := rfl
  rw [State.subscribed, answerSession_remote (same.trans remote), ringReply_subs, State.subscribe, none]
  rfl

/-! ### Records that a unit holds (R112) -/

theorem recordsFrom_congr {q : RecordAsk} (same : t.recordAt q = s.recordAt q) (n first : Nat) :
    t.recordsFrom q n first = s.recordsFrom q n first := by
  induction n generalizing first with
  | zero => rfl
  | succ n ih => rw [State.recordsFrom, State.recordsFrom, same]; simp only [ih]

/-- What a unit holds does not depend on its sessions. -/
theorem recordAnswer_setSession (s : State) (q : RecordAsk) (k : Nat) (x : ShoreSt) :
    (s.setSession k x).recordAnswer q = s.recordAnswer q := by
  have found : (s.setSession k x).recordsFrom q q.count q.first = s.recordsFrom q q.count q.first :=
    recordsFrom_congr (s := s) (t := s.setSession k x) rfl _ _
  rw [State.recordAnswer, State.recordAnswer, found]
  rfl

/-- A request for records of the unit itself, of which it holds some, is answered to the session (R112). -/
theorem recordRoute_owner {k n : Nat} {r : ShoreReq} {q : RecordAsk} {last : Nat × List Nat} (own : q.owner = s.addr)
    (fresh : r.tried = []) (reached : s.reachable s.addr = true) (holds : 4 < (s.recordAnswer q).2.length) :
    State.recordRoute k r q (n + 1) last s = s.answerShore k r.typ r.reqId r.target (s.recordAnswer q).1 0xFFFF (s.recordAnswer q).2 := by
  have first : ∃ rest, s.recordHolders q = q.owner :: rest := by
    unfold State.recordHolders
    split
    · exact ⟨_, rfl⟩
    · exact ⟨_, rfl⟩
  obtain ⟨rest, holders⟩ := first
  have chosen : ((s.recordHolders q).filter fun a => !r.tried.contains a).find? (s.reachable ·) = some s.addr := by
    rw [holders, fresh]
    simp [own, reached]
  unfold State.recordRoute
  dsimp only
  rw [chosen]
  simp [Nat.not_le.mpr holds]

/-- A record request at the active site unit for its own records (R112). -/
theorem recordGet_owner {typ k reqId target length : Nat} {body : List Nat} {q : RecordAsk} (site : s.kind = .site)
    (active : s.active = true) (opened : (s.session k).isOpen = true) (long : 8 ≤ length) (short : length ≤ 8188)
    (room : (s.session k).outstanding.length < 8) (asks : recordAsk typ body = some q) (own : q.owner = s.addr)
    (reached : s.reachable s.addr = true) (holds : 4 < (s.recordAnswer q).2.length) :
    s.recordGet typ k reqId target length body =
      (s.setSession k { s.session k with
          outstanding := (s.session k).outstanding ++ [{ typ := typ, reqId := reqId, target := target, body := body }] }).answerShore
        k typ reqId target (s.recordAnswer q).1 0xFFFF (s.recordAnswer q).2 := by
  have serves : s.servesShore = true := by simp [State.servesShore, site, active]
  rw [State.recordGet, if_pos serves, shoreRequest_takes site active opened long short, if_neg (Nat.not_le.mpr room), asks]
  dsimp only
  rw [recordRoute_owner (s := s.setSession k _) own rfl reached (by rwa [recordAnswer_setSession]), recordAnswer_setSession]

/-- A record request at a unit that is no active site unit is answered over the ring (R112). -/
theorem recordGet_remote {typ k reqId target length : Nat} {body : List Nat} {q : RecordAsk} (remote : s.servesShore = false)
    (asks : recordAsk typ body = some q) (awake : s.inLull = false) (joined : s.trg.join = .joined) :
    s.recordGet typ k reqId target length body = s.ringReply 4 s.trg.lastMaster
      (k :: shoreMessage (0x8000 + typ) reqId target (s.recordAnswer q).1 0xFFFF (s.recordAnswer q).2) := by
  rw [State.recordGet, if_neg (by simp [remote]), asks]
  simp [awake, joined]

/-- Settles O14: by how a subscription is taken and what a record request comes down to. -/
theorem recordsAndSubscriptions : Obligations.RecordsAndSubscriptions := by
  refine ⟨fun session reqId target length body s remote awake joined idle here four classes => ?_,
    fun session reqId target length body s site active opened long short room four scope other reached => ?_,
    fun session reqId target length body q s remote asks awake joined => ?_,
    fun session reqId target length body q s site active opened long short room asks own reached holds => ?_,
    fun session reqId target length body q s remote asks awake joined => ?_,
    fun session reqId target length body q s site active opened long short room asks own reached holds => ?_,
    fun session typ reqId target status body r q s serves found asks holds => ?_⟩
  · have takes : s.eventSubscribe (session.val + 1) reqId target length body = s.subscribed (session.val + 1) reqId body := by
      simp [State.eventSubscribe, State.subscribeJob, remote, awake, joined, idle, here, four]
    exact answers_of_eq rfl takes (subscribed_subs remote classes)
  · have serves : s.servesShore = true := by simp [State.servesShore, site, active]
    have takes : s.eventSubscribe (session.val + 1) reqId target length body =
        s.dispatch (session.val + 1) { typ := 4, reqId := reqId, target := target, body := body } := by
      rw [State.eventSubscribe, if_pos serves, shoreRequest_takes site active opened long short, if_neg (Nat.not_le.mpr room),
        if_neg (by simpa [four] using scope), if_pos (by simp [other])]
    exact answers_of_eq rfl takes (dispatch_outstanding reached)
  · exact answers_of_eq rfl (recordGet_remote remote asks awake joined) rfl
  · exact answers_of_eq rfl (recordGet_owner site active opened long short room asks own reached holds) rfl
  · exact answers_of_eq rfl (recordGet_remote remote asks awake joined) rfl
  · exact answers_of_eq rfl (recordGet_owner site active opened long short room asks own reached holds) rfl
  · have takes : s.recordTransfer (session.val + 1) typ reqId target status body =
        s.answerShore (session.val + 1) r.typ reqId target status 0xFFFF body := by
      rw [State.recordTransfer, if_neg (by simp [serves]), found]
      dsimp only
      rw [asks]
      exact if_neg (Nat.not_le.mpr holds)
    exact answers_of_eq rfl takes rfl

end Sys2Proof.Machine

namespace Sys2Proof.Machine
open Sys2Proof
-- Proofs in sequence, as above: waiting threads' stacks take memory.
set_option Elab.async false
variable {ps qs : List Part} {rs os : List Reach} {o s t : State}

/-! ### Values of two words (R87) -/

theorem rd64_wr64 (s : State) {f : Field} (width : f.width = 32) (v : Nat) : (s.wr64 f v).rd64 f = v % 2 ^ 64 := by
  have other : f.key ≠ ({ f with addr := f.addr + 4 } : Field).key := by simp [Field.key]
  rw [State.rd64, State.wr64, State.rd_wr_ne _ other, State.rd_wr, State.rd_wr, width]
  omega

/-- A value whose two words a frame does not hold reads as before. -/
theorem Stays.rd64 (h : Stays ps rs s t) {f : Field} (low : rs.any (Reach.has f.key) = false := by rfl)
    (high : rs.any (Reach.has ({ f with addr := f.addr + 4 } : Field).key) = false := by rfl) : t.rd64 f = s.rd64 f := by
  rw [State.rd64, h.rd low, h.rd high, State.rd64]

/-! ### What events and boundaries leave of the ring's state -/

/-- Of the ring's own state only the pending Squall event changed (R99). -/
def SquallOnly (s t : State) : Prop := { t.trg with squall := s.trg.squall, squallHere := s.trg.squallHere } = s.trg

theorem SquallOnly.of_eq (h : t.trg = s.trg) : SquallOnly s t := by
  unfold SquallOnly
  rw [h]

theorem SquallOnly.refl : SquallOnly s s := rfl

theorem SquallOnly.trans (h : SquallOnly o s) (k : SquallOnly s t) : SquallOnly o t := by
  have both := congrArg (fun x : Trg => { x with squall := o.trg.squall, squallHere := o.trg.squallHere }) k
  exact both.trans h

theorem SquallOnly.thru (h : SquallOnly o s) (k : SquallOnly o s → SquallOnly o t) : SquallOnly o t := k h

theorem SquallOnly.ite {c : Prop} {_ : Decidable c} (h : SquallOnly o s) (k : SquallOnly o t) : SquallOnly o (if c then s else t) := by
  split
  · exact h
  · exact k

theorem SquallOnly.foldl {α : Type} {f : State → α → State} {xs : List α} (h : SquallOnly o s)
    (k : ∀ {t x}, SquallOnly o t → SquallOnly o (f t x)) : SquallOnly o (xs.foldl f s) := by
  induction xs generalizing s with
  | nil => exact h
  | cons x xs ih => exact ih (k h)

theorem SquallOnly.event (h : SquallOnly o s) {code arg : Nat} : SquallOnly o (s.event code arg) := h.trans (event_eventOnly s code arg).trg

theorem SquallOnly.wr (h : SquallOnly o s) {f : Field} {v : Nat} : SquallOnly o (s.wr f v) := h

theorem SquallOnly.stays (h : SquallOnly o s) (k : Stays ps rs s t) (ring : Part.trg ∉ ps := by decide) : SquallOnly o t :=
  h.trans (.of_eq (k.parts .trg ring))

/-- A field of the ring's state that is not the pending event's. -/
theorem SquallOnly.get {α : Type} (h : SquallOnly s t) (f : Trg → α)
    (field : ∀ x a b, f { x with squall := a, squallHere := b } = f x := by intros; rfl) : f t.trg = f s.trg :=
  (field t.trg s.trg.squall s.trg.squallHere).symm.trans (congrArg f h)

theorem applyParts_squallOnly (s : State) (parts : List (Nat × Nat)) : SquallOnly s (s.applyParts parts) := by
  unfold State.applyParts
  split
  · exact .refl
  · dsimp only
    refine .foldl (.foldl (.foldl (.foldl (.wr ?_) fun hs => hs.wr.wr.event) fun hs => hs.wr.event) fun hs => hs.event) fun hs => hs.event
    exact .foldl (.of_eq rfl) fun hs => hs.wr

theorem boundary_squallOnly (s : State) (parts : List (Nat × Nat)) : SquallOnly s (s.boundary parts) :=
  (applyParts_squallOnly s parts).stays (paramsApplied_frame _ s)

theorem setMember_trg (s : State) (a : Nat) (b : Bool) : (s.setMember a b).trg = s.trg := setMember_stays.parts .trg (by decide)

/-- What a unit that counts as joined changes of the ring's state (R105). -/
theorem nowJoined_squallOnly (s : State) : SquallOnly { s with trg.join := .joined } s.nowJoined := by
  have joined : SquallOnly { s with trg.join := .joined } (({ s with trg.join := .joined } : State).setMember s.addr true) :=
    .of_eq (setMember_trg _ _ _)
  unfold State.nowJoined
  exact (SquallOnly.ite joined.wr joined).thru fun hs => (SquallOnly.ite hs.event hs).stays startForming_stays

/-! ### Members (R105, R106) -/

theorem bit_eq_testBit (v i : Nat) : bit v i = v.testBit i := by
  rw [bit, Nat.testBit_eq_decide_div_mod_eq, beq_eq_decide]

theorem bit_setBit (v i : Nat) (b : Bool) : bit (setBit v i b) i = b := by
  unfold setBit
  split
  next same => exact beq_iff_eq.mp same
  next other =>
    rw [bit_eq_testBit] at other ⊢
    cases b
    case true =>
      have clear : v.testBit i = false := by simpa using other
      simp [Nat.add_comm v, Nat.testBit_two_pow_add_eq, clear]
    case false =>
      have set_ : v.testBit i = true := by simpa using other
      have split_ : v = 2 ^ i + (v - 2 ^ i) := (Nat.add_sub_cancel' (Nat.ge_two_pow_of_testBit set_)).symm
      have flipped : v.testBit i = !(v - 2 ^ i).testBit i := by
        conv_lhs => rw [split_]
        exact Nat.testBit_two_pow_add_eq _ _
      simpa [set_] using flipped.symm

theorem bit_setBit_mod {v i n : Nat} (b : Bool) (small : i < n) : bit (setBit v i b % 2 ^ n) i = b := by
  rw [bit_eq_testBit, Nat.testBit_mod_two_pow, ← bit_eq_testBit, bit_setBit]
  simp [small]

theorem member_setMember (s : State) {a : Nat} (mapped : a ≤ 127) (b : Bool) : (s.setMember a b).member a = b := by
  rw [State.setMember, if_neg (Nat.not_lt.mpr mapped), State.member, State.rd_wr]
  exact bit_setBit_mod b (Nat.mod_lt a (by decide))

/-- A unit whose word a frame does not hold stays a member, or none. -/
theorem Stays.member (h : Stays ps rs s t) {a : Nat} (word : rs.any (Reach.has (F.TRG_MEMBERS (a / 32)).key) = false) :
    t.member a = s.member a :=
  congrArg (fun v => bit v (a % 32)) (h.rd word)

/-! ### The start of a cycle (R94 to R96) -/

/-- What the slots of a cycle leave of the ring's state: its header, the last master, UNWRAP_NEXT (R95). -/
structure HeaderKept (s t : State) : Prop where
  header : t.trg.header = s.trg.header
  lastMaster : t.trg.lastMaster = s.trg.lastMaster
  unwrapSeen : t.trg.unwrapSeen = s.trg.unwrapSeen

theorem HeaderKept.refl : HeaderKept s s := ⟨rfl, rfl, rfl⟩

theorem HeaderKept.trans (h : HeaderKept o s) (k : HeaderKept s t) : HeaderKept o t :=
  ⟨k.header.trans h.header, k.lastMaster.trans h.lastMaster, k.unwrapSeen.trans h.unwrapSeen⟩

theorem HeaderKept.ite {c : Prop} {_ : Decidable c} (h : HeaderKept o s) (k : HeaderKept o t) : HeaderKept o (if c then s else t) := by
  split
  · exact h
  · exact k

theorem SquallOnly.headerKept (h : SquallOnly s t) : HeaderKept s t :=
  ⟨h.get (·.header), h.get (·.lastMaster), h.get (·.unwrapSeen)⟩

theorem offRing_headerKept (s : State) : HeaderKept s s.offRing := by
  have gone (u : State) (same : HeaderKept s u) : HeaderKept s (u.setMember s.addr false) :=
    same.trans (SquallOnly.of_eq (setMember_trg _ _ _)).headerKept
  obtain ⟨header, lastMaster, unwrapSeen⟩ := gone { s with trg.join := .idle, trg.slot := none } ⟨rfl, rfl, rfl⟩
  exact .ite ⟨header, lastMaster, unwrapSeen⟩ ⟨header, lastMaster, unwrapSeen⟩

theorem nowJoined_headerKept (s : State) : HeaderKept s s.nowJoined :=
  have joined : HeaderKept s { s with trg.join := .joined } := ⟨rfl, rfl, rfl⟩
  joined.trans (nowJoined_squallOnly s).headerKept

/-- The safety frame of a cycle (R436). -/
theorem cycleFrame_trg (s : State) (cycle : Nat) : ∃ frame, (s.cycleFrame cycle).trg = { s.trg with safeSent := frame } := by
  unfold State.cycleFrame
  dsimp only
  split
  · exact ⟨_, rfl⟩
  · exact ⟨_, rfl⟩

theorem cycleFrame_headerKept (s : State) (cycle : Nat) : HeaderKept s (s.cycleFrame cycle) := by
  obtain ⟨frame, means⟩ := cycleFrame_trg s cycle
  constructor <;> rw [means]

theorem deliveredAt_headerKept (s : State) (x : Option QItem) : HeaderKept s (s.deliveredAt x) := .ite ⟨rfl, rfl, rfl⟩ .refl

theorem writeSlots_headerKept (s : State) (cycle : Nat) : HeaderKept s (s.writeSlots cycle) := by
  unfold State.writeSlots
  extract_lets trg left joined slot written trg'
  have leaves : HeaderKept s left := ⟨rfl, rfl, rfl⟩
  have joins : HeaderKept s joined := .ite .refl (nowJoined_headerKept s)
  obtain ⟨header, lastMaster, unwrapSeen⟩ := joins.trans (cycleFrame_headerKept joined cycle)
  have writes : HeaderKept s { written with trg.slot := none } := ⟨header, lastMaster, unwrapSeen⟩
  exact .ite .refl (.ite (.ite (leaves.trans (offRing_headerKept left)) leaves) (.ite .refl (writes.trans (deliveredAt_headerKept _ _))))

theorem ringKeyOwn_joined (key : s.trg.key.isSome = true) (joined : s.trg.join = .joined) : s.ringKeyOwn = s := by
  simp [State.ringKeyOwn, key, joined]

theorem unwrapSign_seen {next : Bool} {cycle : Nat} (asked : next = true) : (s.unwrapSign next cycle).trg.unwrapSeen.isSome = true := by
  unfold State.unwrapSign
  split
  · rfl
  next kept => simpa [asked, Option.isSome_iff_ne_none] using kept

/-- The registers that a cycle's start sets first: CYCLE and ring time. -/
theorem cycleBegun_times (s : State) (time : Nat) :
    ((s.wr64 F.TRG_CYCLE_LO (s.cycle + 1)).wr64 F.TRG_RING_TIME_LO (max s.now time)).cycle = (s.cycle + 1) % 2 ^ 64 ∧
      ((s.wr64 F.TRG_CYCLE_LO (s.cycle + 1)).wr64 F.TRG_RING_TIME_LO (max s.now time)).now = max s.now time % 2 ^ 64 := by
  have timed : Stays [] [.cell F.TRG_RING_TIME_LO, .cell F.TRG_RING_TIME_HI] (s.wr64 F.TRG_CYCLE_LO (s.cycle + 1))
      ((s.wr64 F.TRG_CYCLE_LO (s.cycle + 1)).wr64 F.TRG_RING_TIME_LO (max s.now time)) := Stays.wr64 .refl
  exact ⟨timed.rd64.trans (rd64_wr64 s rfl _), rd64_wr64 _ rfl _⟩

/-- The parts and registers that follow CYCLE and ring time at the start of a cycle. -/
def reachAfter : List Reach := reachSlots ++ reachSlew ++ reachBoundary

/-- A cycle's start at the master, up to its header: CYCLE and ring time, the safe boundary, the calendar (R62, R94, R345). -/
def State.cycleDated (s : State) (time : Nat) : State :=
  let begun := ((s.wr64 F.TRG_CYCLE_LO (s.cycle + 1)).wr64 F.TRG_RING_TIME_LO (max s.now time)).boundary [(3, 0)]
  (begun.calSlew.wrb F.TRG_CAL_STATUS_VALID (begun.active && begun.bil.holdsCal)).showProven

/-- The header of a cycle (R96). -/
def State.headerOf (s : State) (time : Nat) (unwrapNext wrapped : Bool) : RingHeader :=
  let tack : Nat × Nat × Nat := match s.hbi.rtackSent with
    | some (g, target, t) => if time < t then (g, target, t) else (0, 0, 0)
    | none => (0, 0, 0)
  { wrapped := wrapped, unwrapNext := unwrapNext, masterNew := s.trg.masterNew != 0, master := s.addr, epoch := s.trg.epoch
    cycle := s.cycle, ringTime := s.now, calOffset := signedOf 64 (s.rd64 F.TRG_CAL_OFFSET_LO)
    proven := s.rdb F.TRG_CAL_STATUS_PROVEN, valid := s.rdb F.TRG_CAL_STATUS_VALID, stepCount := s.rd F.TRG_CAL_STATUS_STEP_COUNT
    tackMask := tack.1, tackTarget := tack.2.1, tackTime := tack.2.2 }

/-- The master has sent a header (R96). -/
def State.headerSent (s : State) (h : RingHeader) : State :=
  { s.sendHeader h with trg.masterNew := s.trg.masterNew - 1, trg.lastMaster := s.addr }

/-- The master's trains go out with a header and its own slots (R95, R96). -/
def State.trainsSent (s : State) (h : RingHeader) (unwrapNext : Bool) : State :=
  ((s.headerSent h).unwrapSign unwrapNext (s.headerSent h).cycle).writeSlots (s.headerSent h).cycle

theorem cycleDated_stays {time : Nat} : Stays partsCycle reachAfter
    ((s.wr64 F.TRG_CYCLE_LO (s.cycle + 1)).wr64 F.TRG_RING_TIME_LO (max s.now time)) (s.cycleDated time) := by
  unfold State.cycleDated
  extract_lets begun
  have begins : Stays partsCycle reachAfter ((s.wr64 F.TRG_CYCLE_LO (s.cycle + 1)).wr64 F.TRG_RING_TIME_LO (max s.now time)) begun :=
    Stays.refl.run (boundary_frame _ _)
  have slews : Stays partsCycle reachAfter begun begun.calSlew := Stays.refl.run calSlew_stays
  have shows : Stays partsCycle reachAfter begun.calSlew
      (begun.calSlew.wrb F.TRG_CAL_STATUS_VALID (begun.active && begun.bil.holdsCal)).showProven := (Stays.wrb .refl).run showProven_stays
  exact begins.trans (slews.trans shows)

/-- The start of a cycle at a joined master that holds the ring key. -/
theorem cycleStart_sends {time : Nat} {unwrapNext wrapped : Bool} (site : s.kind = .site) (master : s.isMaster = true)
    (key : s.trg.key.isSome = true) (joined : s.trg.join = .joined) :
    s.cycleStart time unwrapNext wrapped =
      (s.cycleDated time).trainsSent ((s.cycleDated time).headerOf time unwrapNext wrapped) unwrapNext := by
  have runs : ¬(s.kind != .site || !s.isMaster) = true := by simp [site, master]
  unfold State.cycleStart
  rw [ringKeyOwn_joined key joined, if_neg runs]
  extract_lets own counted bounded dated tack header sealed trg sent
  have dates : dated = s.cycleDated time := rfl
  rw [← dates]
  clear_value dated
  rfl

theorem trainsSent_stays {h : RingHeader} {next : Bool} : Stays partsCycle reachAfter s (s.trainsSent h next) :=
  have sends : Stays partsCycle reachAfter s (s.headerSent h) := (Stays.setTrg .refl).setTrg
  (sends.run unwrapSign_stays).run writeSlots_stays

/-- What the slots of the master's own trains leave of its header (R95, R100). -/
theorem trainsSent_leaves {h : RingHeader} {next : Bool} :
    (s.trainsSent h next).trg.header = h ∧ (s.trainsSent h next).trg.lastMaster = s.addr ∧
      (next = true → (s.trainsSent h next).trg.unwrapSeen.isSome = true) := by
  have signs (cycle : Nat) : ((s.headerSent h).unwrapSign next cycle).trg.header = h ∧
      ((s.headerSent h).unwrapSign next cycle).trg.lastMaster = s.addr := by
    unfold State.unwrapSign
    split
    · exact ⟨rfl, rfl⟩
    · exact ⟨rfl, rfl⟩
  unfold State.trainsSent
  generalize (s.headerSent h).cycle = cycle
  obtain ⟨header, lastMaster, unwrapSeen⟩ := writeSlots_headerKept ((s.headerSent h).unwrapSign next cycle) cycle
  rw [header, lastMaster, unwrapSeen]
  exact ⟨(signs cycle).1, (signs cycle).2, unwrapSign_seen⟩

/-! ### A train passes (R95, R96) -/

/-- A unit on the ring that has not written in a cycle yet writes its slots (R95). -/
theorem writeSlots_writes {cycle : Nat} (fresh : s.trg.slotCycle ≠ some cycle) (stays : s.trg.leaveLeft = 0)
    (key : s.trg.key.isSome = true) (assigned : s.addr ≠ 0) (running : s.sys.running = true) (here : s.trg.away = false)
    (awake : s.inLull = false) (joined : s.trg.join = .joined) :
    s.writeSlots cycle =
      ({ (s.cycleFrame cycle).putSlots cycle s.trg.slot false with trg.slot := none } : State).deliveredAt s.trg.slot := by
  have keyed : s.trg.key.isNone = false := by simpa using key
  simp [State.writeSlots, fresh, stays, keyed, assigned, running, here, awake, joined]

/-- What a unit that writes its slots leaves of the ring's state (R95). -/
theorem slotsWritten_trg (s : State) (cycle : Nat) (x : Option QItem) : ∃ frame data safe rekey,
    (({ (s.cycleFrame cycle).putSlots cycle x false with trg.slot := none } : State).deliveredAt x).trg =
      { s.trg with slotCycle := some cycle, slotSent := x, slotLeave := false, slot := none, safeSent := frame, slotBytes := data
                   safeBytes := safe, rekey := rekey } := by
  obtain ⟨frame, means⟩ := cycleFrame_trg s cycle
  unfold State.deliveredAt State.putSlots
  rw [means]
  split
  · exact ⟨_, _, _, _, rfl⟩
  · exact ⟨_, _, _, _, rfl⟩

theorem takePosition_assigned {hop master : Nat} (assigned : s.addr ≠ 0) : s.takePosition hop master = s := by
  simp [State.takePosition, assigned]

/-- The state of a unit that a train reaches, before it writes its slots: the link measured, HOP and CORRECTION taken (R96, R103). -/
def State.reached (s : State) (dirB : Bool) (hop correction delay forward neighbour time : Nat) : State :=
  (({ s with trg.trainAt := some time } : State).measureLink dirB delay neighbour).takeHop dirB hop correction delay forward

section
variable (s : State) (dirB : Bool) (hop correction delay forward neighbour time : Nat)

theorem reached_stays : Stays [.trg] [.cell F.TRG_HOP_DELAY_1, .cell F.TRG_HOP_DELAY_2, .cell F.TRG_NEIGHBOUR_PORT_1,
    .cell F.TRG_NEIGHBOUR_PORT_2] s (s.reached dirB hop correction delay forward neighbour time) :=
  (Stays.ite (Stays.setTrg .refl).wr.wr (Stays.setTrg .refl).wr.wr).thru fun hs => .ite hs.setTrg hs.setTrg

/-- HOP and CORRECTION of the train's direction (R96). -/
theorem reached_trg : ∃ hopA hopB corrA corrB fwdA fwdB,
    (s.reached dirB hop correction delay forward neighbour time).trg =
      { s.trg with trainAt := some time, hopA := hopA, hopB := hopB, corrA := corrA, corrB := corrB, fwdA := fwdA, fwdB := fwdB } ∧
    (if dirB then hopB = (hop + 1) % 256 ∧ corrB = (correction + delay) % 2 ^ 32
      else hopA = (hop + 1) % 256 ∧ corrA = (correction + delay) % 2 ^ 32) := by
  cases dirB
  · exact ⟨_, _, _, _, _, _, rfl, rfl, rfl⟩
  · exact ⟨_, _, _, _, _, _, rfl, rfl, rfl⟩

end

/-- The vote frames go their way beside the ring's own state (R417). -/
theorem nextVote_stays : Stays [.pair] [] s s.nextVote := Stays.refl.setPair

/-- A train at a unit with an address that is no master (R95, R96). -/
theorem train_writes {dirB wrapped ringWrapped : Bool} {cycle hop correction delay forward neighbour master time : Nat}
    (follower : s.isMaster = false) (assigned : s.addr ≠ 0) :
    Stays [.pair] [] ((s.reached dirB hop correction delay forward neighbour time).writeSlots cycle)
      (s.train dirB wrapped ringWrapped cycle hop correction delay forward neighbour master time) := by
  unfold State.train
  extract_lets trg measured counted placed written
  have measures : Stays [.trg] [.cell F.TRG_HOP_DELAY_1, .cell F.TRG_HOP_DELAY_2, .cell F.TRG_NEIGHBOUR_PORT_1,
      .cell F.TRG_NEIGHBOUR_PORT_2] s measured := .ite (Stays.setTrg .refl).wr.wr (Stays.setTrg .refl).wr.wr
  have slave : measured.isMaster = false := measures.rdb.trans follower
  have holds : counted.addr ≠ 0 := fun none =>
    assigned (((reached_stays s dirB hop correction delay forward neighbour time).rd (f := F.TRG_STATUS_ADDR)).symm.trans none)
  have stands : placed = counted := by
    unfold placed
    rw [takePosition_assigned holds, ite_self]
  have writes : written = (s.reached dirB hop correction delay forward neighbour time).writeSlots cycle :=
    congrArg (·.writeSlots cycle) stands
  rw [if_neg (by simp [slave]), writes]
  exact .ite .refl nextVote_stays

theorem lullProceed_awake (awake : s.rd F.CLK_LULL_STATUS_STATE = 0) : s.lullProceed = s := by simp [State.lullProceed, awake]

/-- What a train leaves at a unit on the ring: its slots are written, once a cycle, and HOP and CORRECTION taken (R95, R96). -/
theorem train_leaves {dirB wrapped ringWrapped : Bool} {cycle hop correction delay forward neighbour master time : Nat}
    (follower : s.isMaster = false) (awake : s.rd F.CLK_LULL_STATUS_STATE = 0) (here : s.trg.away = false) (assigned : s.addr ≠ 0)
    (running : s.sys.running = true) (joined : s.trg.join = .joined) (key : s.trg.key.isSome = true) (stays : s.trg.leaveLeft = 0)
    (fresh : s.trg.slotCycle ≠ some cycle) :
    ∃ trg : Trg, ((s.train dirB wrapped ringWrapped cycle hop correction delay forward neighbour master time).lullProceed).trg = trg ∧
      trg.slotSent = s.trg.slot ∧ trg.slot = none ∧ trg.slotCycle = some cycle ∧ trg.slotLeave = false ∧
      (if dirB then trg.hopB = (hop + 1) % 256 ∧ trg.corrB = (correction + delay) % 2 ^ 32
        else trg.hopA = (hop + 1) % 256 ∧ trg.corrA = (correction + delay) % 2 ^ 32) := by
  have reaches := reached_stays s dirB hop correction delay forward neighbour time
  obtain ⟨hopA, hopB, corrA, corrB, fwdA, fwdB, means, taken⟩ := reached_trg s dirB hop correction delay forward neighbour time
  have passes := train_writes (wrapped := wrapped) (ringWrapped := ringWrapped) (cycle := cycle) (hop := hop) (correction := correction)
    (delay := delay) (forward := forward) (neighbour := neighbour) (master := master) (time := time) (dirB := dirB) follower assigned
  generalize s.reached dirB hop correction delay forward neighbour time = u at reaches means passes
  have wakes : u.rd F.CLK_LULL_STATUS_STATE = 0 := reaches.rd.trans awake
  have write : u.writeSlots cycle = ({ (u.cycleFrame cycle).putSlots cycle u.trg.slot false with trg.slot := none } : State).deliveredAt
      u.trg.slot := by
    refine writeSlots_writes ?_ ?_ ?_ ?_ ?_ ?_ ?_ ?_
    · rwa [means]
    · rwa [means]
    · rwa [means]
    · exact fun none => assigned (reaches.rd.symm.trans none)
    · exact (congrArg Sys.running (reaches.parts .sys (by decide))).trans running
    · rwa [means]
    · simp [State.inLull, wakes]
    · rwa [means]
  obtain ⟨frame, data, safe, rekey, written⟩ := slotsWritten_trg u cycle u.trg.slot
  have proceeds : (s.train dirB wrapped ringWrapped cycle hop correction delay forward neighbour master time).lullProceed =
      s.train dirB wrapped ringWrapped cycle hop correction delay forward neighbour master time :=
    lullProceed_awake (passes.rd.trans ((Stays.rd writeSlots_stays).trans wakes))
  rw [proceeds, passes.parts .trg (by decide), write, written, means]
  exact ⟨_, rfl, rfl, rfl, rfl, rfl, taken⟩

/-! ### A header of another master (R96, R102, R103) -/

theorem followTime_now (h : RingHeader) (arrival : Nat) :
    (s.followTime h false arrival).now = max s.now (s.trainTime h false) % 2 ^ 64 := by
  unfold State.followTime
  extract_lets time offset trg heard was bad shown told
  have told_stays : Stays [.que, .trg] (.cell F.TRG_STATUS_TIME_SUSPECT :: reachEvent) s told :=
    (Stays.wrb (Stays.ite (Stays.setTrg .refl) (Stays.setTrg .refl))).thru fun hs => .ite (hs.run (event_frame _ _ _)) hs
  have same : told.now = s.now := told_stays.rd64
  rw [if_neg (by simp), ← same]
  exact rd64_wr64 told rfl _

/-- What a header of a new cycle leaves of the time, and that it names the last master (R96, R100, R102). -/
theorem headerFields_leaves (h : RingHeader) : (s.headerFields h).cycle = h.cycle % 2 ^ 64 ∧ (s.headerFields h).now = s.now ∧
    (s.headerFields h).trg.lastMaster = h.master ∧ (h.unwrapNext = true → (s.headerFields h).trg.unwrapSeen.isSome = true) := by
  unfold State.headerFields
  extract_lets counted offset shown trg rekeyed trg'
  have hs : Stays [.trg] reachCal counted shown := (Stays.wr64 .refl).wr.wrb.wrb
  have hs : Stays [.trg] reachCal counted rekeyed := .ite hs.setTrg hs
  have dates : Stays [.trg] reachCal counted (State.unwrapSign { rekeyed with trg.lastMaster := h.master } h.unwrapNext h.cycle) :=
    (Stays.setTrg hs).run unwrapSign_stays
  have counts : Stays [] [.cell F.TRG_CYCLE_LO, .cell F.TRG_CYCLE_HI] s counted := Stays.wr64 .refl
  refine ⟨dates.rd64.trans (rd64_wr64 s rfl _), dates.rd64.trans counts.rd64, ?_, unwrapSign_seen⟩
  unfold State.unwrapSign
  split
  · rfl
  · rfl

theorem headerTack_squallOnly (s : State) (h : RingHeader) : SquallOnly s (s.headerTack h) := by
  unfold State.headerTack
  extract_lets k
  split
  · exact .refl
  split
  · exact .refl
  split
  · have late : SquallOnly s { s with hbi.rtackDone := some k } := .of_eq rfl
    exact late.wr.event
  · exact .of_eq rfl

/-- A header of a new cycle at another unit (R96, R102, R103). -/
theorem cycleHeader_takes {h : RingHeader} {arrival : Nat} {steer : Int} (key : s.trg.key.isSome = true) (other : h.master ≠ s.addr)
    (follower : s.isMaster = false) (new : s.cycle < h.cycle) :
    (s.cycleHeader h false true arrival steer).trg.lastMaster = h.master ∧
      (h.unwrapNext = true → (s.cycleHeader h false true arrival steer).trg.unwrapSeen.isSome = true) ∧
      (s.cycleHeader h false true arrival steer).cycle = h.cycle % 2 ^ 64 ∧
      (s.cycleHeader h false true arrival steer).now = max s.now (s.trainTime h false) % 2 ^ 64 := by
  have keyed : s.trg.key.isNone = false := by simpa using key
  have takes : s.cycleHeader h false true arrival steer = s.takeHeader h false arrival steer := by
    simp [State.cycleHeader, other, follower, keyed]
  have fresh : s.newCycle h = true := by simp [State.newCycle, new]
  rw [takes]
  unfold State.takeHeader
  extract_lets new' timed taken tacked
  have fields : taken = timed.headerFields h := if_pos fresh
  have steers : Stays [] [.cell F.CLK_STEER] (s.followTime h false arrival) timed := Stays.wrisat .refl
  obtain ⟨cycle, now, lastMaster, unwrapSeen⟩ := headerFields_leaves (s := timed) h
  have timed_now : (timed.headerFields h).now = max s.now (s.trainTime h false) % 2 ^ 64 :=
    now.trans (steers.rd64.trans (followTime_now h arrival))
  rw [← fields] at cycle timed_now lastMaster unwrapSeen
  split
  · exact ⟨lastMaster, unwrapSeen, cycle, timed_now⟩
  · have ends : Stays [.hbi, .que, .pat, .trg, .saf] (reachLate ++ reachBoundary) taken (tacked.boundary [(3, 0)]) :=
      (Stays.refl.run headerTack_stays).run (boundary_frame _ _)
    have kept : SquallOnly taken (tacked.boundary [(3, 0)]) := (headerTack_squallOnly taken h).trans (boundary_squallOnly _ _)
    refine ⟨(kept.get (·.lastMaster)).trans lastMaster, fun asked => ?_, ends.rd64.trans cycle, ends.rd64.trans timed_now⟩
    exact (congrArg Option.isSome (kept.get (·.unwrapSeen))).trans (unwrapSeen asked)

/-! ### Data slots (R97, R105) -/

/-- What follows the note of a join leaves the members (R105). -/
theorem joinNoted_word (i : Fin 4) : (reachLevels 13 ++ reachEvent).any (Reach.has (F.TRG_MEMBERS i).key) = false := by
  revert i
  decide

/-- The source of a slot without LEAVE is a member from then on (R105). -/
theorem membership_joins {src : Nat} (unit : src ≤ 96) : (s.membership src false).member src = true := by
  unfold State.membership
  rw [if_neg (by simp)]
  split
  next already => exact already
  next =>
    extract_lets noted
    have member : noted.member src = true := member_setMember s (by omega) true
    have ends : Stays [.que, .trg] (reachLevels 13 ++ reachEvent) noted
        ((if noted.isMaster then noted.event (evCode 4 3 3) src else noted).forwardWaiting src) :=
      (Stays.ite (Stays.refl.run (event_frame _ _ _)) .refl).run forwardWaiting_stays
    exact (ends.member (joinNoted_word ⟨src / 32, by omega⟩)).trans member

/-- A unit has noted the slot of a source in a cycle (R95, R106). -/
def State.slotNoted (s : State) (src cycle : Nat) : State :=
  { s with pair.slotAt := SMap.set (fun _ => none) src (some cycle) s.pair.slotAt, trg.dataSeen := slotTaken s.trg.dataSeen src cycle }

/-- A slot of another unit, the first copy in its cycle, at a unit that holds the ring key (R95, R97). -/
theorem dataSlot_takes {x : DataSlot} {cycle : Nat} (awake : s.inLull = false) (first : slotSeen s.trg.dataSeen x.src cycle = false)
    (key : s.trg.key.isSome = true) (unit : 1 ≤ x.src ∧ x.src ≤ 96) (other : x.src ≠ s.addr) :
    s.dataSlot x cycle true = (if x.payload == [] || x.channel == 0 || 7 < x.channel then (s.slotNoted x.src cycle).membership x.src x.leave
      else ((s.slotNoted x.src cycle).membership x.src x.leave).reassemble x) := by
  have keyed : s.trg.key.isNone = false := by simpa using key
  have low : ¬x.src = 0 := by omega
  have high : ¬96 < x.src := by omega
  rw [State.dataSlot, if_neg (by simp [awake, keyed, low, high, other]), if_neg (by simp), if_neg (by simp [first])]
  rfl

/-- A whole one-fragment message for this unit is received (R97). -/
theorem reassemble_whole {x : DataSlot} (first : x.first = true) (last : x.last = true) (mine : x.payload.headD 0 = s.addr)
    (room : (s.q 5).length < s.depth 5) :
    (s.reassemble x).trg.message = some (x.src, x.channel, x.payload.take 48) ∧ ((s.reassemble x).q 5).length = (s.q 5).length + 1 := by
  have jobs (u : State) (src channel : Nat) (msg : List Nat) : (u.takeJob src channel msg).trg.message = u.trg.message ∧
      (u.takeJob src channel msg).que = u.que := by
    unfold State.takeJob
    split
    · exact ⟨rfl, rfl⟩
    · exact ⟨rfl, rfl⟩
  unfold State.reassemble
  extract_lets key buffer dest drop entered msg
  have here : dest = s.addr := (if_pos first).trans mine
  have enters : entered = s.setQ 5 (s.q 5 ++ [{ kind := 8 * x.channel + 1 + 2, body := x.src :: x.payload }]) := by
    simp [entered, State.enqueue, room, first, last]
  have whole : msg = x.payload.take 48 := by simp [msg, first]
  rw [if_neg (by simp [here, first]), if_neg (Nat.not_le.mpr room), if_pos last]
  obtain ⟨message, que⟩ := jobs { drop entered with trg.message := some (x.src, x.channel, msg) } x.src x.channel (msg.drop 1)
  refine ⟨message.trans (by rw [whole]), ?_⟩
  have count : (entered.q 5).length = (s.q 5).length + 1 := by
    rw [enters, setQ_q, List.length_append, List.length_singleton]
  rw [State.q, que]
  exact count

end Sys2Proof.Machine

namespace Sys2Proof.Machine
open Sys2Proof
-- Proofs in sequence, as above: waiting threads' stacks take memory.
set_option Elab.async false
variable {ps qs : List Part} {rs os : List Reach} {o s t : State}

/-! ### The master's cycle (R94 to R96, R102) -/

/-- The header and the registers that the start of a cycle leaves (R94, R96). -/
theorem cycleStart_leaves {time : Nat} {unwrapNext wrapped : Bool} (site : s.kind = .site) (master : s.isMaster = true)
    (key : s.trg.key.isSome = true) (joined : s.trg.join = .joined) :
    Answers (.cycleStart time unwrapNext wrapped) s fun t =>
      t.cycle = (s.cycle + 1) % 2 ^ 64 ∧ t.trg.header.cycle = (s.cycle + 1) % 2 ^ 64 ∧
      t.trg.header.master = s.addr ∧ t.trg.header.wrapped = wrapped ∧ t.trg.header.unwrapNext = unwrapNext ∧
      t.trg.header.ringTime = t.now ∧ t.now = max s.now time % 2 ^ 64 ∧ t.trg.lastMaster = s.addr ∧
      (unwrapNext = true → t.trg.unwrapSeen.isSome = true) := by
  have means := cycleStart_sends (time := time) (unwrapNext := unwrapNext) (wrapped := wrapped) site master key joined
  obtain ⟨begun_cycle, begun_now⟩ := cycleBegun_times s time
  have begins : Stays [] [.cell F.TRG_CYCLE_LO, .cell F.TRG_CYCLE_HI, .cell F.TRG_RING_TIME_LO, .cell F.TRG_RING_TIME_HI] s
      ((s.wr64 F.TRG_CYCLE_LO (s.cycle + 1)).wr64 F.TRG_RING_TIME_LO (max s.now time)) := Stays.wr64 (Stays.wr64 .refl)
  have dates := cycleDated_stays (s := s) (time := time)
  have cycle : (s.cycleDated time).cycle = (s.cycle + 1) % 2 ^ 64 := dates.rd64.trans begun_cycle
  have now : (s.cycleDated time).now = max s.now time % 2 ^ 64 := dates.rd64.trans begun_now
  have addr : (s.cycleDated time).addr = s.addr := dates.rd.trans begins.rd
  generalize s.cycleDated time = dated at means cycle now addr
  have ends : Stays partsCycle reachAfter dated (s.cycleStart time unwrapNext wrapped) := means ▸ trainsSent_stays
  have ends_now : (s.cycleStart time unwrapNext wrapped).now = dated.now := ends.rd64
  obtain ⟨header, lastMaster, unwrapSeen⟩ := trainsSent_leaves (s := dated) (h := dated.headerOf time unwrapNext wrapped) (next := unwrapNext)
  rw [← means] at header lastMaster unwrapSeen
  refine answers_of_eq rfl rfl ⟨ends.rd64.trans cycle, ?_, ?_, ?_, ?_, ?_, ends_now.trans now, lastMaster.trans addr, unwrapSeen⟩
  · rw [header, ← cycle]
    rfl
  · rw [header, ← addr]
    rfl
  · rw [header]
    rfl
  · rw [header]
    rfl
  · rw [header, ends_now]
    rfl

/-- A master has the ring key: its own, or one that it generates (R107). -/
def State.keyTaken (s : State) : State :=
  if s.trg.key.isSome then s else
    ({ s with drawn := s.drawn + 1, trg.key := some (beBytes 32 (Config.free 40 s.drawn)), trg.keyCycle := s.cycle } : State).wrb
      F.TRG_STATUS_KEYED true

theorem ringKeyOwn_joins (s : State) : s.ringKeyOwn =
    if s.keyTaken.trg.join == .joined || s.keyTaken.trg.away then s.keyTaken else s.keyTaken.nowJoined := rfl

theorem keyTaken_stays : Stays [.drawn, .trg] [.cell F.TRG_STATUS_KEYED] s s.keyTaken := .ite .refl (Stays.refl.set.wrb)

theorem keyTaken_keeps (s : State) : s.keyTaken.trg.key.isSome = true ∧ s.keyTaken.trg.join = s.trg.join ∧
    s.keyTaken.trg.away = s.trg.away ∧ s.keyTaken.trg.provisional = s.trg.provisional := by
  unfold State.keyTaken
  split
  next held => exact ⟨held, rfl, rfl, rfl⟩
  · exact ⟨rfl, rfl, rfl, rfl⟩

/-- A master that has not left holds the ring key and is joined (R106, R107). -/
theorem ringKeyOwn_leaves (here : s.trg.away = false) (apart : s.trg.join ≠ .joined) :
    s.ringKeyOwn.trg.provisional = s.trg.provisional ∧ s.ringKeyOwn.trg.key.isSome = true ∧ s.ringKeyOwn.trg.join = .joined ∧
      s.ringKeyOwn.isMaster = s.isMaster := by
  obtain ⟨key, join, away, provisional⟩ := keyTaken_keeps s
  have joins : s.keyTaken.nowJoined = s.ringKeyOwn := by
    rw [ringKeyOwn_joins, if_neg (by simp [join, away, here, apart])]
  have kept := nowJoined_squallOnly s.keyTaken
  rw [← joins]
  refine ⟨(kept.get (·.provisional)).trans provisional, ?_, kept.get (·.join), ?_⟩
  · rw [kept.get (·.key)]
    exact key
  · exact (Stays.rdb nowJoined_stays).trans keyTaken_stays.rdb

/-- A unit strapped as site unit that has received no train for 50 ms starts trains (R102). -/
theorem provisionalStart_leaves {time : Nat} (site : s.kind = .site) (strapped : s.rd F.TRG_STATUS_SOURCE = 1)
    (running : s.sys.running = true) (apart : s.trg.join ≠ .joined) (here : s.trg.away = false) (follower : s.isMaster = false)
    (awake : s.inLull = false) (quiet : s.trg.trainAt.all (fun t => t + 50000000 ≤ time) = true) :
    Answers (.provisionalMaster time) s fun t =>
      t.trg.provisional = true ∧ t.isMaster = true ∧ t.trg.key.isSome = true ∧ t.trg.join = .joined := by
  have starts : s.provisionalStart time = (({ s with trg.provisional := true } : State).wrb F.TRG_STATUS_MASTER true).ringKeyOwn :=
    if_pos (by simp [site, strapped, running, apart, here, follower, awake, quiet])
  obtain ⟨provisional, key, join, master⟩ :=
    ringKeyOwn_leaves (s := ({ s with trg.provisional := true } : State).wrb F.TRG_STATUS_MASTER true) here apart
  exact answers_of_eq rfl starts ⟨provisional, master.trans (State.rdb_wrb _ _ _ (by decide)), key, join⟩

/-! ### Data slots, and the calendar's time (R97, R103) -/

/-- A slot without a message leaves its source a member, and its cycle noted (R105, R106). -/
theorem dataSlot_joins {x : DataSlot} {cycle : Nat} (awake : s.inLull = false) (first : slotSeen s.trg.dataSeen x.src cycle = false)
    (key : s.trg.key.isSome = true) (unit : 1 ≤ x.src ∧ x.src ≤ 96) (other : x.src ≠ s.addr) (stays : x.leave = false)
    (empty : x.payload = []) :
    Answers (.dataSlotReceive x cycle true) s fun t =>
      t.member x.src = true ∧ SMap.get (fun _ => none) t.pair.slotAt x.src = some cycle := by
  have takes : s.dataSlot x cycle true = (s.slotNoted x.src cycle).membership x.src false := by
    rw [dataSlot_takes awake first key unit other, if_pos (by simp [empty]), stays]
  refine answers_of_eq rfl takes ⟨membership_joins unit.2, ?_⟩
  rw [membership_stays.parts .pair (by decide)]
  simp [State.slotNoted]

/-- A whole one-fragment message of a member to this unit is received (R97). -/
theorem dataSlot_receives {x : DataSlot} {cycle : Nat} (awake : s.inLull = false) (seen : slotSeen s.trg.dataSeen x.src cycle = false)
    (key : s.trg.key.isSome = true) (unit : 1 ≤ x.src ∧ x.src ≤ 96) (other : x.src ≠ s.addr) (stays : x.leave = false)
    (member : s.member x.src = true) (channel : 1 ≤ x.channel ∧ x.channel ≤ 7) (first : x.first = true) (last : x.last = true)
    (full : x.payload ≠ []) (mine : x.payload.headD 0 = s.addr) (room : (s.q 5).length < s.depth 5) :
    Answers (.dataSlotReceive x cycle true) s fun t => t.trg.message = some (x.src, x.channel, x.payload.take 48) ∧
      (t.q 5).length = (s.q 5).length + 1 := by
  have already : (s.slotNoted x.src cycle).membership x.src false = s.slotNoted x.src cycle := by
    rw [State.membership, if_neg (by simp)]
    exact if_pos member
  have none : ¬x.channel = 0 := by omega
  have known : ¬7 < x.channel := by omega
  have takes : s.dataSlot x cycle true = (s.slotNoted x.src cycle).reassemble x := by
    rw [dataSlot_takes awake seen key unit other, if_neg (by simp [full, none, known]), stays, already]
  exact answers_of_eq rfl takes (reassemble_whole first last mine room)

/-- A sync message at a site unit: the calendar's time, PTP's lock and the good measurements in a row (R103). -/
theorem ptpSync_leaves {offset calendar : Int} {locked : Bool} {port : Fin 3} (site : s.kind = .site) :
    Answers (.ptpSync offset calendar locked port) s fun t => t.bil.ptpOffset = calendar ∧ t.rdb F.TRG_CAL_STATUS_PTP_LOCK = locked ∧
      t.rd F.TRG_CAL_STATUS_PTP_PORT = port.val ∧ t.trg.ptpGood = (if offset.natAbs ≤ 100000 then min 16 (s.trg.ptpGood + 1) else 0) := by
  refine answers_of_eq rfl rfl ?_
  unfold State.ptpSync
  rw [if_neg (by simp [site])]
  extract_lets bil trg heard shown stepped shape held
  have ends : Stays [.bil] reachCal shown held.showProven := (Stays.ite Stays.refl.wr64.wr.setBil.wrb .refl).run showProven_stays
  have calendars : held.showProven.bil.ptpOffset = calendar := by
    rw [showProven_stays.parts .bil (by decide)]
    unfold held
    split
    · rfl
    · rfl
  have ports : shown.rd F.TRG_CAL_STATUS_PTP_PORT = port.val := by
    have small : port.val < 2 ^ 2 := by omega
    exact (State.rd_wr _ _ _).trans (Nat.mod_eq_of_lt small)
  have locks : shown.rdb F.TRG_CAL_STATUS_PTP_LOCK = locked :=
    (State.rdb_wr_ne _ (by decide) _).trans (State.rdb_wrb _ _ _ (by decide))
  exact ⟨calendars, ends.rdb.trans locks, ends.rd.trans ports, congrArg Trg.ptpGood (ends.parts .trg (by decide))⟩

/-- 60 s without a sync message at a site unit (R103). -/
theorem ptpSyncTimeout_leaves (site : s.kind = .site) :
    Answers .ptpSyncTimeout s fun t => t.trg.ptpGood = 0 ∧ (s.active = true → t.rdb F.TRG_CAL_STATUS_PROVEN = false) := by
  have silent : (if s.kind != .site then s else ({ s with trg.ptpGood := 0 } : State).showProven) =
      ({ s with trg.ptpGood := 0 } : State).showProven := if_neg (by simp [site])
  refine answers_of_eq rfl silent ⟨congrArg Trg.ptpGood (showProven_stays.parts .trg (by decide)), fun active => ?_⟩
  have shows : ({ s with trg.ptpGood := 0 } : State).showProven =
      ({ s with trg.ptpGood := 0 } : State).wrb F.TRG_CAL_STATUS_PROVEN (s.bil.holdsCal && false) := if_pos active
  rw [shows, State.rdb_wrb _ _ _ (by decide), Bool.and_false]

/-- Settles O15: by what a cycle's start, a train, a header and a slot leave of the ring's state. -/
theorem ringTrains : Obligations.RingTrains := by
  refine ⟨fun time unwrapNext wrapped s site master key joined => cycleStart_leaves site master key joined,
    fun dirB wrapped ringWrapped cycle hop correction delay forward neighbour master time s follower awake here assigned running joined key
      stays fresh => ?_,
    fun h arrival steer s key other follower new => answers_of_eq rfl rfl (cycleHeader_takes key other follower new),
    fun x cycle s awake first key low high other stays empty => dataSlot_joins awake first key ⟨low, high⟩ other stays empty,
    fun x cycle s awake seen key low high other stays member one seven first last full mine room =>
      dataSlot_receives awake seen key ⟨low, high⟩ other stays member ⟨one, seven⟩ first last full mine room,
    fun time s site strapped running apart here follower awake quiet =>
      provisionalStart_leaves site strapped running apart here follower awake quiet,
    fun offset calendar locked port s site => ptpSync_leaves site, fun s site => ptpSyncTimeout_leaves site⟩
  obtain ⟨trg, means, leaves⟩ := train_leaves (dirB := dirB) (wrapped := wrapped) (ringWrapped := ringWrapped) (hop := hop)
    (correction := correction) (delay := delay) (forward := forward) (neighbour := neighbour) (master := master) (time := time)
    follower awake here assigned running joined key stays fresh
  exact answers_of_eq rfl rfl (means ▸ leaves)

end Sys2Proof.Machine

namespace Sys2Proof.Machine
open Sys2Proof
-- Proofs in sequence, as above: waiting threads' stacks take memory.
set_option Elab.async false
variable {ps qs : List Part} {rs os : List Reach} {o s t : State}

/-! ### Events into Q0 and Squall (R99, R457, R462) -/

/-- An entry that finds room is the newest of Q0 (R457). -/
theorem enterQ0_room {e : Ev} (room : s.que.q0.length < s.depth 0) : (s.enterQ0 e).que.q0 = s.que.q0 ++ [e] := by
  rw [State.enterQ0, if_pos room, State.setQ0, queLevel_que]

/-- An event of a unit that is awake enters Q0, and where it qualifies it is pending for Squall (R457, R462). -/
theorem event_enters {code arg : Nat} (awake : s.inLull = false) (room : s.que.q0.length < s.depth 0) :
    (s.event code arg).que.q0 = s.que.q0 ++ [{ time := s.now, code := code, src := s.addr, arg := arg }] ∧
      (squallWorthy code = true → (s.event code arg).trg.squall.isSome = true) := by
  unfold State.event
  extract_lets e entered
  have enters : entered = s.enterQ0 e := if_neg (by simp [awake])
  rw [enters]
  split
  · exact ⟨enterQ0_room room, fun _ => rfl⟩
  next unworthy => exact ⟨enterQ0_room room, fun worthy => absurd worthy unworthy⟩

/-- An event of a defined class (R463). -/
theorem squallEvent_enters {code : BitVec 16} {arg : BitVec 32} (defined : evClass code.toNat ≠ 0 ∧ evClass code.toNat ≠ 15)
    (awake : s.inLull = false) (room : s.que.q0.length < s.depth 0) :
    Answers (.squallEvent code arg) s fun t =>
      t.que.q0 = s.que.q0 ++ [{ time := s.now, code := code.toNat, src := s.addr, arg := arg.toNat }] ∧
        (squallWorthy code.toNat = true → t.trg.squall.isSome = true) :=
  answers_of_eq rfl (if_neg (by simp [defined.1, defined.2])) (event_enters awake room)

/-- An eligible train takes the pending frame with its SEQ (R99). -/
theorem squallSend_takes {cycle : Nat} {e : Ev} (pending : s.trg.squall = some e) (turn : cycle % 3 = s.addr % 3)
    (awake : s.inLull = false) (fresh : s.trg.squallAt ≠ some cycle) (key : s.trg.key.isSome = true) (assigned : s.addr ≠ 0) :
    Answers (.squallSend cycle) s fun t => t.trg.squall = none ∧ t.trg.squallSent = some (e, s.trg.squallSeq) ∧
      t.trg.squallSeq = (s.trg.squallSeq + 1) % 65536 ∧ t.trg.squallAt = some cycle := by
  have keyed : s.trg.key.isNone = false := by simpa using key
  refine answers_of_eq rfl rfl ?_
  unfold State.squallSend
  rw [pending]
  dsimp only
  rw [if_neg (by simp [turn, keyed, assigned, awake, fresh])]
  exact ⟨rfl, rfl, rfl, rfl⟩

/-- A new frame of another unit enters Q0, and its SEQ is remembered (R99). -/
theorem squallReceive_enters {frame : SquallFrame} (awake : s.inLull = false) (other : frame.src ≠ s.addr)
    (key : s.trg.key.isSome = true) (first : s.squallTwice frame.src frame.seq = false) (room : s.que.q0.length < s.depth 0) :
    Answers (.squallReceive frame true) s fun t =>
      t.que.q0 = s.que.q0 ++
        [{ time := eventTime s.now frame.time, code := frame.code, src := frame.src, count := max 1 frame.count, arg := 0 }] ∧
      (frame.seq, s.cycle) ∈ SMap.get (fun _ => []) t.trg.squallSeen frame.src := by
  have keyed : s.trg.key.isNone = false := by simpa using key
  refine answers_of_eq rfl rfl ?_
  unfold State.squallReceive
  rw [if_neg (by simp [awake, other, keyed]), if_neg (by simp), if_neg (by simp [first])]
  extract_lets old trg seen
  rw [markerHears_stays.parts .que (by decide), markerHears_stays.parts .trg (by decide), (enterQ0_queOnly seen _).trg]
  refine ⟨enterQ0_room room, ?_⟩
  simp [seen]

/-! ### Breaks (R100) -/

/-- The wrapped ports are shown. -/
structure WrapShown (s : State) : Prop where
  first : s.rdb F.TRG_STATUS_WRAP_1 = s.trg.broken.contains 1
  second : s.rdb F.TRG_STATUS_WRAP_2 = s.trg.broken.contains 2

theorem showWrap_shown (s : State) : WrapShown s.showWrap :=
  ⟨(State.rdb_wrb_ne _ (by decide) _).trans (State.rdb_wrb _ _ _ (by decide)), State.rdb_wrb _ _ _ (by decide)⟩

/-- What leaves the wrapped ports and their registers leaves them shown. -/
theorem WrapShown.stays (h : WrapShown s) (k : Stays ps rs s t) (broken : t.trg.broken = s.trg.broken)
    (one : rs.any (Reach.has F.TRG_STATUS_WRAP_1.key) = false := by rfl)
    (two : rs.any (Reach.has F.TRG_STATUS_WRAP_2.key) = false := by rfl) : WrapShown t :=
  ⟨by rw [k.rdb one, broken, h.first], by rw [k.rdb two, broken, h.second]⟩

/-- The event of a break, or of its end, and what the unit takes from it, leave the wrapped ports. -/
theorem eventHeard_broken {src code arg : Nat} : ((s.event code arg).markerHears src code).trg.broken = s.trg.broken := by
  rw [markerHears_stays.parts .trg (by decide)]
  exact SquallOnly.get (SquallOnly.event .refl) (·.broken)

theorem eventHeard_stays {src code arg : Nat} :
    Stays [.que, .sht, .trg, .mrk] (reachMode ++ reachEvent) s ((s.event code arg).markerHears src code) :=
  (Stays.refl.run (event_frame _ _ _)).run markerHears_stays

/-- A link that breaks wraps its port and counts (R100). -/
theorem linkBreak_wraps {port : Fin 2} (whole : s.trg.broken.contains (port.val + 1) = false) :
    Answers (.linkBreak port) s fun t => t.trg.broken = (port.val + 1) :: s.trg.broken ∧
      t.rdb F.TRG_STATUS_WRAP_1 = t.trg.broken.contains 1 ∧ t.rdb F.TRG_STATUS_WRAP_2 = t.trg.broken.contains 2 ∧
      t.rd F.TRG_BREAKS = (s.rd F.TRG_BREAKS + 1) % 2 ^ 32 := by
  refine answers_of_eq rfl rfl ?_
  unfold State.linkBreak
  rw [if_neg (by rw [whole]; decide)]
  extract_lets trg shown unnamed
  have wraps : WrapShown shown := showWrap_shown _
  have names : Stays [] [.cell F.TRG_NEIGHBOUR_PORT_1, .cell F.TRG_NEIGHBOUR_PORT_2] shown unnamed := .ite (Stays.wr .refl) (Stays.wr .refl)
  have breaks : unnamed.rd F.TRG_BREAKS = s.rd F.TRG_BREAKS := by
    have shows : Stays [.trg] [.cell F.TRG_STATUS_WRAP_1, .cell F.TRG_STATUS_WRAP_2] s shown := (Stays.setTrg .refl).wrb.wrb
    exact names.rd.trans shows.rd
  have named : WrapShown unnamed := wraps.stays names (congrArg Trg.broken (names.parts .trg (by decide)))
  have counts : Stays [.bar] [.cell F.TRG_BREAKS] unnamed ((unnamed.wr F.TRG_BREAKS (unnamed.rd F.TRG_BREAKS + 1)).barAdd 6 1) :=
    (Stays.wr .refl).barAdd
  have counted := named.stays counts (congrArg Trg.broken (counts.parts .trg (by decide)))
  have count : ((unnamed.wr F.TRG_BREAKS (unnamed.rd F.TRG_BREAKS + 1)).barAdd 6 1).rd F.TRG_BREAKS =
      (s.rd F.TRG_BREAKS + 1) % 2 ^ 32 := by
    rw [← breaks]
    exact State.rd_wr _ _ _
  have broken : unnamed.trg.broken = (port.val + 1) :: s.trg.broken := congrArg Trg.broken (names.parts .trg (by decide))
  obtain ⟨first, second⟩ := counted.stays eventHeard_stays (eventHeard_broken (src := unnamed.addr) (code := evCode 4 1 1))
  exact ⟨eventHeard_broken.trans broken, first, second, eventHeard_stays.rd.trans count⟩

/-- A link that stands again after UNWRAP_NEXT unwraps its port (R100). -/
theorem ringUnwrap_unwraps {port : Fin 2} {c : Nat} (broken : s.trg.broken.contains (port.val + 1) = true)
    (seen : s.trg.unwrapSeen = some c) (later : c < s.cycle) :
    Answers (.ringUnwrap port) s fun t => t.trg.broken = s.trg.broken.filter (· != port.val + 1) ∧
      t.rdb F.TRG_STATUS_WRAP_1 = t.trg.broken.contains 1 ∧ t.rdb F.TRG_STATUS_WRAP_2 = t.trg.broken.contains 2 := by
  refine answers_of_eq rfl (if_pos (by rw [broken, seen]; simpa using later)) ?_
  have wraps : WrapShown (({ s with trg.broken := s.trg.broken.filter (· != port.val + 1) } : State).showWrap) := showWrap_shown _
  obtain ⟨first, second⟩ := wraps.stays eventHeard_stays (eventHeard_broken (src := s.addr) (code := evCode 4 3 2) (arg := 0))
  exact ⟨eventHeard_broken, first, second⟩

/-- Settles O16: by what an event, a Squall frame and a break leave. -/
theorem squallAndBreaks : Obligations.SquallAndBreaks :=
  ⟨fun _ _ _ class_ reserved awake room => squallEvent_enters ⟨class_, reserved⟩ awake room,
    fun _ _ _ pending turn awake fresh key assigned => squallSend_takes pending turn awake fresh key assigned,
    fun _ _ awake other key first room => squallReceive_enters awake other key first room,
    fun _ _ whole => linkBreak_wraps whole, fun _ _ _ broken seen later => ringUnwrap_unwraps broken seen later⟩

end Sys2Proof.Machine

namespace Sys2Proof.Machine
open Sys2Proof
-- Proofs in sequence, as above: waiting threads' stacks take memory.
set_option Elab.async false
variable {ps qs : List Part} {rs os : List Reach} {o s t : State}

/-! ### Join keys, grants and the ring's messages (R105, R378, R391) -/

/-- A join key depends on the key store, the bindings and the mode that the image declares (R378, R381). -/
theorem Stays.joinKey (h : Stays ps rs s t) {device addr : Nat} (key : Part.key ∉ ps := by decide) (pat : Part.pat ∉ ps := by decide)
    (mode : rs.any (Reach.has F.KEY_STATUS_MODE.key) = false := by rfl) : t.joinKey device addr = s.joinKey device addr := by
  have keys : t.key = s.key := h.parts .key key
  have bound : t.pat = s.pat := h.parts .pat pat
  have node : t.blobNode = s.blobNode := by simp only [State.blobNode, State.deviceBranch, State.node, keys, bound]
  have unblobs : t.unblob = s.unblob := by
    funext c
    rw [State.unblob, State.unblob, node, State.node, State.node, keys]
  have blobs : t.blob = s.blob := by
    funext use arg
    rw [State.blob, State.blob, unblobs, keys]
  have modes : t.blobMode = s.blobMode := h.rdb mode
  simp only [State.joinKey, State.siteKey, State.seed, State.node, blobs, modes, keys]

/-- A register keeps its live value when another one is given its start value (R38). -/
theorem rd_ld_ne {f g : Field} (h : g.key ≠ f.key) (v : Nat) : (s.ld f v).rd g = s.rd g := State.rd_wr_ne s h v

/-- What a unit without an address keeps of its registers, but for its place in a pair (R105). -/
theorem unassign_rd {g : Field} (role : g.key ≠ F.PAIR_IDENT_INSTANCE.key := by decide)
    (partner : g.key ≠ F.PAIR_IDENT_PARTNER.key := by decide) :
    s.unassign.rd g = ((s.wr F.TRG_STATUS_ADDR 0).wr F.TRG_STATUS_SOURCE 0).rd g := by
  have placed := rd_ld_ne (s := (s.wr F.TRG_STATUS_ADDR 0).wr F.TRG_STATUS_SOURCE 0) role 0
  exact (rd_ld_ne (f := F.PAIR_IDENT_PARTNER) partner 0).trans placed

theorem unassign_addr (s : State) : s.unassign.addr = 0 :=
  Eq.trans unassign_rd ((State.rd_wr_ne _ (by decide) 0).trans (State.rd_wr _ _ _))

theorem unassign_conflict (s : State) : s.unassign.rdb F.TRG_STATUS_CONFLICT = s.rdb F.TRG_STATUS_CONFLICT := by
  rw [State.rdb, State.rdb, unassign_rd, State.rd_wr_ne _ (by decide), State.rd_wr_ne _ (by decide)]

/-! ### A unit joins (R105, R391, R392) -/

section Joining
variable (assigned : s.addr ≠ 0) (idle : s.trg.join = .idle) (stays : s.trg.leaveLeft = 0) (follower : s.isMaster = false)
  (awake : s.inLull = false) (running : s.sys.running = true)
include assigned idle stays follower awake running

/-- A unit with a join key writes its request (R105). -/
theorem joinRequest_writes {dirB : Bool} {k : List Nat} (key : s.joinKey Config.deviceId s.addr = some k) :
    Answers (.joinRequest dirB) s fun t => t.trg.join = .requested ∧ t.trg.joinWith = some k ∧
      t.trg.window.take 3 = [1, s.addr, s.sys.strapPins] := by
  refine answers_of_eq rfl (if_neg ?_) ⟨rfl, key, rfl⟩
  simp [assigned, idle, stays, follower, awake, running, key]

end Joining

/-- A unit without a join key makes no request (R383). -/
theorem joinRequest_keyless {dirB : Bool} (none_ : s.joinKey Config.deviceId s.addr = none) : s.joinRequest dirB = s :=
  if_pos (by simp [none_])

/-- A request at a master that has granted no address (R105). -/
theorem joinTake_grants {r : JoinReq} {k : List Nat} (master : s.isMaster = true) (fresh : s.trg.tookCycle ≠ some s.cycle)
    (awake : s.inLull = false) (apart : s.member r.addr = false) (other : r.addr ≠ s.addr) (free : s.trg.grants = [])
    (key : s.joinKey r.device r.addr = some k) :
    (s.joinTake r).trg.tookCycle = some s.cycle ∧ (s.joinTake r).trg.grants.map (·.addr) = [r.addr] ∧
      SMap.get (fun _ => 0) (s.joinTake r).trg.devices r.addr = r.device := by
  unfold State.joinTake
  rw [if_neg (by simp [master, fresh, awake])]
  extract_lets trg taken
  have none_ : taken.trg.grants = [] := by simp [taken, free]
  have noted : taken.member r.addr = false ∧ taken.addr = s.addr ∧ taken.joinKey r.device r.addr = some k := ⟨apart, rfl, key⟩
  obtain ⟨apart, own, key⟩ := noted
  rw [if_neg (by simp [apart, own, other, none_]), key]
  dsimp only
  rw [(ringSend_queOnly _ 4 2 _ _ (by decide)).trg]
  refine ⟨rfl, ?_, ?_⟩
  · simp [none_]
  · exact SMap.get_set_same _ _ _ _

/-- A unit of the site that is not master keeps what a request that passes it tells (R37, R116). -/
theorem joinWindows_notes {r : JoinReq} (follower : s.isMaster = false) (site : s.kind = .site) (awake : s.inLull = false) :
    SMap.get (fun _ => 0) (s.joinWindows (some r) none).trg.devices r.addr = r.device ∧
      SMap.get (fun _ => []) (s.joinWindows (some r) none).trg.digests r.addr = r.digest := by
  have notes : s.joinWindows (some r) none = s.noteWindow r := if_pos (by simp [follower])
  rw [notes, State.noteWindow, if_neg (by simp [site, awake])]
  exact ⟨SMap.get_set_same _ _ _ _, SMap.get_set_same _ _ _ _⟩

/-- A joiner whose address is in use holds no address and no role (R105). -/
theorem joinChal_conflict (requested : s.trg.join = .requested) :
    Answers (.joinChalReceive none) s fun t => t.trg.join = .idle ∧ t.rdb F.TRG_STATUS_CONFLICT = true ∧ t.addr = 0 ∧
      t.pat.instance_ = 0 := by
  refine answers_of_eq rfl (if_neg (by simp [requested])) ?_
  extract_lets trg
  have told : Stays [.que, .trg] reachEvent (({ s with trg.join := .idle } : State).wrb F.TRG_STATUS_CONFLICT true)
      (((({ s with trg.join := .idle } : State).wrb F.TRG_STATUS_CONFLICT true).configError 5 s.addr).event (evCode 4 1 6) 0) :=
    (Stays.refl.run (configError_frame _ _ _)).run (event_frame _ _ _)
  have idle : SquallOnly (({ s with trg.join := .idle } : State).wrb F.TRG_STATUS_CONFLICT true)
      (((({ s with trg.join := .idle } : State).wrb F.TRG_STATUS_CONFLICT true).configError 5 s.addr).event (evCode 4 1 6) 0) :=
    SquallOnly.event (SquallOnly.event .refl)
  have shown : (({ s with trg.join := .idle } : State).wrb F.TRG_STATUS_CONFLICT true).rdb F.TRG_STATUS_CONFLICT = true :=
    State.rdb_wrb _ _ _ (by decide)
  exact ⟨idle.get (·.join), (unassign_conflict _).trans (told.rdb.trans shown), unassign_addr _, rfl⟩

/-- A joiner answers a challenge under the join key that it requested with (R391, R398). -/
theorem joinChal_answers {nonce key : List Nat} (requested : s.trg.join = .requested) (with_ : s.trg.joinWith = some key) :
    Answers (.joinChalReceive (some nonce)) s fun t => t.trg.join = .challenged ∧ t.trg.challenge = nonce ∧
      t.trg.window = [2, s.addr, 0, 0] ++
        (Config.hmac384 key (joinMessage nonce Config.deviceId s.addr s.topologyDigest (s.rd F.KEY_STATUS_LC))).take 32 ∧
      t.rd F.KEY_JOBS = min (s.rd F.KEY_JOBS + 1) (2 ^ 32 - 1) := by
  refine answers_of_eq rfl rfl ?_
  unfold State.joinChal
  rw [if_neg (by simp [requested]), with_]
  exact ⟨rfl, rfl, rfl, State.rd_inc _ _ _⟩

section Checking
variable {addr : Nat} {response : List Nat} {g : JoinGrant} (master : s.isMaster = true)
  (granted : s.trg.grants.find? (·.addr == addr) = some g)
include master granted

/-- The master sends the ring's keys for a right response (R391). -/
theorem joinCheck_right (right : s.joinProof g addr response = true) :
    s.joinCheck addr response = (s.inc F.KEY_JOBS).ringSend 4 2 addr (s.ringKeyBody addr g.key) := by
  unfold State.joinCheck
  rw [granted]
  dsimp only
  rw [if_neg (by simp [master])]
  exact if_pos right

/-- A wrong response ends the grant, and the joiner gets no key (R391). -/
theorem joinCheck_wrong (wrong : s.joinProof g addr response = false) :
    (s.joinCheck addr response).trg.grants = s.trg.grants.filter (·.addr != addr) := by
  have refuses : s.joinCheck addr response =
      ({ s.inc F.KEY_JOBS with trg.grants := s.trg.grants.filter (·.addr != addr) } : State).event (evCode 8 1 3) addr := by
    unfold State.joinCheck
    rw [granted]
    dsimp only
    rw [if_neg (by simp [master])]
    exact if_neg (by rw [show (s.inc F.KEY_JOBS).joinProof g addr response = false from wrong]; decide)
  rw [refuses]
  exact SquallOnly.get (SquallOnly.event .refl) (·.grants)

end Checking

/-- 1 s after a refused attestation (R391). -/
theorem joinRetry_shows (challenged : s.trg.join = .challenged) (keyless : s.trg.key = none) :
    Answers .joinRetry s fun t => t.trg.join = .idle ∧ t.rdb F.KEY_STATUS_JOIN_FAIL = true :=
  answers_of_eq rfl (if_pos (by simp [challenged, keyless])) ⟨rfl, State.rdb_wrb _ _ _ (by decide)⟩

section Keys
variable {epoch : Nat} {wrapped key : List Nat} {next : Option (Nat × List Nat)} (challenged : s.trg.join = .challenged)
  (with_ : s.trg.joinWith = some key)
include challenged with_

/-- The joiner holds the keys that it unwraps (R392). -/
theorem ringKey_loads {r : List Nat} (unwraps : Config.unwrap key wrapped = some r) :
    (s.ringKey epoch wrapped next).trg.key = some r ∧ (s.ringKey epoch wrapped next).trg.epoch = epoch % 65536 ∧
      (s.ringKey epoch wrapped next).trg.nextKey = next.bind (fun n => Config.unwrap key n.2) ∧
      (s.ringKey epoch wrapped next).rdb F.TRG_STATUS_KEYED = true := by
  unfold State.ringKey
  rw [if_neg (by simp [challenged]), with_]
  dsimp only
  rw [unwraps]
  exact ⟨rfl, rfl, rfl, State.rdb_wrb _ _ _ (by decide)⟩

/-- A key that does not unwrap is discarded (R392). -/
theorem ringKey_discards (fails : Config.unwrap key wrapped = none) :
    (s.ringKey epoch wrapped next).trg.join = .idle ∧ (s.ringKey epoch wrapped next).trg.key = s.trg.key := by
  unfold State.ringKey
  rw [if_neg (by simp [challenged]), with_]
  dsimp only
  rw [fails]
  exact ⟨rfl, rfl⟩

end Keys

/-! ### Rekeying and leaving (R106, R107, R392) -/

section Delivery
variable {epoch : Nat} {wrapped : List Nat} (joined : s.trg.join = .joined) (next : epoch % 65536 = (s.trg.epoch + 1) % 65536)
include joined next

/-- A joined unit holds the next key that it unwraps (R392). -/
theorem rekeyDelivered_holds {r : List Nat}
    (unwraps : ((s.joinKey Config.deviceId s.addr).bind fun key => Config.unwrap key wrapped) = some r) :
    s.rekeyDelivered epoch wrapped = { s.inc F.KEY_JOBS with trg.nextKey := some r } := by
  have counts : Stays [] [.cell F.KEY_JOBS] s (s.inc F.KEY_JOBS) := Stays.inc .refl
  have own : (s.inc F.KEY_JOBS).addr = s.addr := counts.rd
  unfold State.rekeyDelivered
  rw [if_neg (by simp [joined, next]), own, counts.joinKey, unwraps]

/-- A delivery that does not unwrap is only counted as a job (R392). -/
theorem rekeyDelivered_fails
    (fails : ((s.joinKey Config.deviceId s.addr).bind fun key => Config.unwrap key wrapped) = none) :
    s.rekeyDelivered epoch wrapped = s.inc F.KEY_JOBS := by
  have counts : Stays [] [.cell F.KEY_JOBS] s (s.inc F.KEY_JOBS) := Stays.inc .refl
  have own : (s.inc F.KEY_JOBS).addr = s.addr := counts.rd
  unfold State.rekeyDelivered
  rw [if_neg (by simp [joined, next]), own, counts.joinKey, fails]

end Delivery

/-- LEAVE announces a leave of three cycles (R106). -/
theorem leaveCommand_announces {side : Side} (awake : s.inLull = false) (joined : s.trg.join = .joined) :
    Answers (.leaveCommand side 0x7A4D#16) s fun t => t.trg.leaveLeft = 3 ∧ t.hbi.refused = none := by
  have runs : s.command side trgCtrlAddr 0x7A4D 0x7A4D (·.announceLeave) = (s.accepted side).announceLeave := by
    simp [State.command, State.lullBlocks, awake]
  have joined : (s.accepted side).trg.join = .joined := (congrArg Trg.join (accepted_stays.parts .trg (by decide))).trans joined
  refine answers_of_eq rfl runs ?_
  rw [State.announceLeave, if_pos (by simp [joined])]
  exact ⟨rfl, accepted_refused s side⟩

/-- The slot of a leave at the master, or its absence, ends a membership (R106). -/
theorem membership_leaves {src : Nat} (unit : src ≤ 96) (member : s.member src = true) : (s.membership src true).member src = false := by
  unfold State.membership
  rw [if_pos rfl, if_neg (by simp [member])]
  extract_lets left
  have ends : left.member src = false := member_setMember _ (by omega) false
  have told : Stays [.que, .trg] reachEvent left (if left.isMaster then left.event (evCode 4 2 4) src else left) :=
    .ite (Stays.refl.run (event_frame _ _ _)) .refl
  have apart (i : Fin 4) : reachEvent.any (Reach.has (F.TRG_MEMBERS i).key) = false := by
    revert i
    decide
  exact (told.member (apart ⟨src / 32, by omega⟩)).trans ends

/-- The master declares a unit left (R106). -/
theorem declaredLeave_leaves {addr : Nat} (master : s.isMaster = true) (other : addr ≠ s.addr) (unit : addr ≤ 96)
    (member : s.member addr = true) (silent : s.silent addr = true) :
    Answers (.declaredLeave addr) s fun t => t.member addr = false ∧ t.trg.grants = s.trg.grants.filter (·.addr != addr) :=
  answers_of_eq rfl (if_pos (by simp [master, other, unit, silent])) ⟨membership_leaves unit member, rfl⟩

/-- The master delivers the next key to a unit of the ring whose join key it holds (R107). -/
def State.nextKeySent (s : State) (a : Nat) : State :=
  match s.joinKey (SMap.get (fun _ => 0) s.trg.devices a) a with
  | some key => s.ringSend 4 5 a (s.ringKeyBody a key)
  | none => s

theorem nextKeySent_trg (s : State) (a : Nat) : (s.nextKeySent a).trg = s.trg := by
  unfold State.nextKeySent
  split
  · exact (ringSend_queOnly _ 4 5 _ _ (by decide)).trg
  · rfl

/-- The deliveries to several units leave the ring's own state. -/
theorem nextKeysSent_trg (s : State) (units : List Nat) : (units.foldl State.nextKeySent s).trg = s.trg := by
  induction units generalizing s with
  | nil => rfl
  | cons a units ih => exact (ih _).trans (nextKeySent_trg s a)

/-- The next key of a master, generated (R107). -/
def State.nextKeyDrawn (s : State) : State :=
  { s with drawn := s.drawn + 1, trg.nextKey := some (beBytes 32 (Config.free 40 s.drawn)) }

/-- A rekey at a master that holds the ring key and delivers none yet (R107). -/
theorem startRekey_delivers (idle : s.trg.rekey = none) (key : s.trg.key.isSome = true) :
    ∃ (units : List Nat) (sent : Nat),
      s.startRekey = { units.foldl State.nextKeySent s.nextKeyDrawn with trg.rekey := some (units, sent) } := by
  have keyed : s.trg.key.isNone = false := by simpa using key
  unfold State.startRekey
  rw [if_neg (by simp [idle, keyed])]
  exact ⟨_, _, rfl⟩

/-- The master generates the next key and delivers it (R107). -/
theorem startRekey_generates (idle : s.trg.rekey = none) (key : s.trg.key.isSome = true) :
    s.startRekey.trg.nextKey = some (beBytes 32 (Config.free 40 s.drawn)) ∧ s.startRekey.trg.rekey.isSome = true ∧
      s.startRekey.trg.key = s.trg.key := by
  obtain ⟨units, sent, means⟩ := startRekey_delivers idle key
  have kept := nextKeysSent_trg s.nextKeyDrawn units
  have next : (units.foldl State.nextKeySent s.nextKeyDrawn).trg.nextKey = some (beBytes 32 (Config.free 40 s.drawn)) :=
    congrArg Trg.nextKey kept
  have held : (units.foldl State.nextKeySent s.nextKeyDrawn).trg.key = s.nextKeyDrawn.trg.key := congrArg Trg.key kept
  rw [means]
  exact ⟨next, rfl, held⟩

/-- 100 ms after the last delivery the master goes over to the next key (R107). -/
theorem epochAdvanced_advances {time at_ : Nat} {d : List Nat} (master : s.isMaster = true) (rekeys : s.trg.rekey = some (d, at_))
    (due : at_ + 100000000 ≤ time) (sent : s.deliveryWaits = false) :
    (s.epochAdvanced time).trg.key = s.trg.nextKey ∧ (s.epochAdvanced time).trg.nextKey = none ∧
      (s.epochAdvanced time).trg.epoch = (s.trg.epoch + 1) % 65536 ∧ (s.epochAdvanced time).trg.rekey = none := by
  unfold State.epochAdvanced
  rw [rekeys, master]
  dsimp only
  rw [if_neg (by simp [sent, due])]
  exact ⟨rfl, rfl, rfl, rfl⟩

/-- REKEY at the master (R107). -/
theorem rekeyCommand_generates {side : Side} (master : s.isMaster = true) (awake : s.inLull = false) (idle : s.trg.rekey = none)
    (key : s.trg.key.isSome = true) :
    Answers (.rekeyCommand side 0x7A4D#16) s fun t => t.trg.nextKey = some (beBytes 32 (Config.free 40 s.drawn)) ∧
      t.trg.rekey.isSome = true ∧ t.trg.key = s.trg.key := by
  obtain ⟨hbi, runs⟩ := command_accepts awake side trgCtrlAddr 0x7A4D
    fun s => if s.isMaster then s.startRekey else s.accessError side eCommand trgCtrlAddr
  have starts : (if ({ s with hbi := hbi } : State).isMaster then ({ s with hbi := hbi } : State).startRekey else
      ({ s with hbi := hbi } : State).accessError side eCommand trgCtrlAddr) = ({ s with hbi := hbi } : State).startRekey := if_pos master
  exact answers_of_eq rfl (runs.trans starts) (startRekey_generates (s := { s with hbi := hbi }) idle key)

/-- Settles O17: by what each command of joining, leaving and rekeying leaves. -/
theorem joiningAndKeys : Obligations.JoiningAndKeys := by
  refine ⟨fun dirB k s assigned idle stays follower awake running key => joinRequest_writes assigned idle stays follower awake running key,
    fun dirB s _ _ _ _ _ _ none_ => answers_of_eq rfl (joinRequest_keyless none_) rfl,
    fun r windowB k s master fresh awake apart other free key => ?_,
    fun r s follower site awake => answers_of_eq rfl rfl (joinWindows_notes follower site awake),
    fun s requested => joinChal_conflict requested,
    fun nonce key s requested with_ => joinChal_answers requested with_,
    fun addr response g s master granted right => answers_of_eq rfl (joinCheck_right master granted right) rfl,
    fun addr response g s master granted wrong => answers_of_eq rfl rfl (joinCheck_wrong master granted wrong),
    fun s challenged keyless => joinRetry_shows challenged keyless,
    fun epoch wrapped key r next s challenged with_ unwraps => answers_of_eq rfl rfl (ringKey_loads challenged with_ unwraps),
    fun epoch wrapped key next s challenged with_ fails => answers_of_eq rfl rfl (ringKey_discards challenged with_ fails),
    fun epoch wrapped k r s joined next key unwraps => ?_,
    fun epoch wrapped s joined next fails =>
      answers_of_eq (exec_rekeyDelivery s epoch wrapped) (rekeyDelivered_fails joined next fails) rfl,
    fun side s awake joined => leaveCommand_announces awake joined,
    fun addr s master other unit member silent => declaredLeave_leaves master other unit member silent,
    fun side s master awake idle key => rekeyCommand_generates master awake idle key,
    fun s master _ idle key => answers_of_eq rfl (if_pos master) (startRekey_generates idle key),
    fun time at_ d s master rekeys due sent =>
      answers_of_eq (exec_epochAdvance s time) rfl (epochAdvanced_advances master rekeys due sent)⟩
  · have takes : s.joinWindows (some r) windowB = s.joinTake r := if_neg (by simp [master])
    exact answers_of_eq rfl takes (joinTake_grants master fresh awake apart other free key)
  · have held : ((s.joinKey Config.deviceId s.addr).bind fun key => Config.unwrap key wrapped) = some r := by rw [key]; exact unwraps
    exact answers_of_eq (exec_rekeyDelivery s epoch wrapped) (rekeyDelivered_holds joined next held) rfl

end Sys2Proof.Machine

namespace Sys2Proof.Machine
open Sys2Proof
-- Proofs in sequence, as above: waiting threads' stacks take memory.
set_option Elab.async false

/-! ### A pair frame at the end of a doubt (R108, R262) -/

/-- An active unit with a partner, one of whose groups has been in doubt since ring time 0. -/
def doubted : State :=
  (({ State.reset with sys.running := true, pair.partnerAddr := 4 } : State).wr F.PAIR_STATUS_STATE psActive).setGrp 1 { doubt := true }

/-- The unit withdraws at the end of the 5 µs, and sends no frame: its reset leaves no partner and no payload (R262, R407, R499). -/
theorem doubted_frameSend : (doubted.frameSend 5000).pair.partnerAddr = 0 ∧ (doubted.frameSend 5000).pair.payload = [] := by decide

/-- Refutes O18: its first clause has no premise on groups in doubt, and one whose 5 µs have passed withdraws the unit before it composes
its frame. -/
theorem not_pairFrames : ¬ Obligations.PairFrames := by
  unfold Obligations.PairFrames
  rintro ⟨sends, -⟩
  obtain ⟨t, runs, -, size, -⟩ := sends 5000 doubted (by decide) (by decide) (by decide)
  have means : doubted.frameSend 5000 = t := Host.Outcome.next.inj runs
  rw [← means, doubted_frameSend.2] at size
  exact absurd size (by decide)

end Sys2Proof.Machine

namespace Sys2Proof.Machine
open Sys2Proof
-- Proofs in sequence, as above: waiting threads' stacks take memory.
set_option Elab.async false
variable {ps qs : List Part} {rs os : List Reach} {o s t : State}

/-! ### Frames of plans at a unit (R115, R116, R134 to R136) -/

/-- Registers that show a committed plan (R165). -/
def reachCommittedPlan : List Reach :=
  [.family (F.MRK_OUT_STATE_I_MAX 0), .family (F.MRK_OUT_STATE_STACKS 0), .family (F.MRK_STACK_STATE_COLUMN 0),
    .family (F.MRK_STACK_STATE_MODE 0), .family (F.MRK_STACK_STATE_SHARE 0)]

theorem reachCommittedPlan_row (r : Fin 33) : Holds reachCommittedPlan (F.MRK_STACK_STATE_MODE r) ∧
    Holds reachCommittedPlan (F.MRK_STACK_STATE_COLUMN r) ∧ Holds reachCommittedPlan (F.MRK_STACK_STATE_SHARE r) := by
  revert r
  decide

theorem reachCommittedPlan_column (c : Fin 17) : Holds reachCommittedPlan (F.MRK_OUT_STATE_STACKS c) ∧
    Holds reachCommittedPlan (F.MRK_OUT_STATE_I_MAX c) := by
  revert c
  decide

theorem showCommitted_stays {p : Plan} : Stays [] reachCommittedPlan s (s.showCommitted p) := by
  refine Stays.foldl (Stays.foldl .refl fun {_ e} mem hs => ?_) fun {_ e} mem hs => ?_
  · have small : 1 ≤ e.row ∧ e.row ≤ 32 := by simpa using List.of_mem_filter mem
    obtain ⟨mode, column, share⟩ := reachCommittedPlan_row ⟨e.row, by omega⟩
    exact ((hs.wr mode).wr column).wr share
  · have small : 1 ≤ e.col ∧ e.col ≤ 16 := by simpa using List.of_mem_filter mem
    obtain ⟨number, most⟩ := reachCommittedPlan_column ⟨e.col, by omega⟩
    exact (hs.wr number).wr most

theorem planReceive_stays {p : Plan} {src : Nat} : Stays [.mrk] reachCommittedPlan s (s.planReceive p src) :=
  .ite .refl ((Stays.setMrk .refl).thru fun hs => .ite ((hs.setMrk).run showCommitted_stays) hs)

/-- Registers that a missed plan changes (R136). -/
def reachMissed : List Reach := .cell F.MRK_LOCAL_MISSED :: reachEvent

theorem planMissed_stays : Stays [.que, .trg] reachMissed s s.planMissed := (Stays.inc .refl).run (event_frame _ _ _)

/-- The parts that a plan's TACK instant changes (R68, R135). -/
def partsPlanTack : List Part := [.hbi, .que, .trg, .pat, .mrk, .saf, .tbuf]

theorem planTack_stays {time : Nat} : Stays partsPlanTack (.cell F.MRK_LOCAL_MISSED :: reachBoundary) s (s.planTack time) := by
  refine .ite .refl ?_
  split
  · exact .ite ((Stays.setMrk .refl).run tack_stays) (Stays.refl.run planMissed_stays)
  · exact Stays.refl.run planMissed_stays

theorem showLease_stays : Stays [] [.cell F.MRK_LOCAL_COLUMN] s s.showLease := Stays.wr .refl

theorem outputLoop_lt {d : LoopDecl} (mem : d ∈ s.outputLoops) : d.loop < 8 := lt_of_mem_loops (List.mem_of_mem_filter mem)

theorem autoLoop_lt {d : LoopDecl} (mem : d ∈ s.autoLoops) : d.loop < 8 := outputLoop_lt (List.mem_of_mem_filter mem)

theorem requestOutput_stays {mode : Nat} : Stays [.sht] reachMode s (s.requestOutput mode) :=
  Stays.foldl .refl fun mem hs => hs.trans (requestMode_frame (autoLoop_lt mem))

theorem stopThese_stays {ds : List LoopDecl} (small : ∀ d ∈ ds, d.loop < 8) : Stays [.sht] reachMode s (s.stopThese ds) :=
  Stays.foldl .refl fun mem hs => .ite hs (hs.trans (startStop_frame (small _ mem)))

theorem stopOutput_stays : Stays [.sht] reachMode s s.stopOutput := stopThese_stays fun _ => outputLoop_lt

theorem stopAuto_stays : Stays [.sht] reachMode s (s.stopThese s.autoLoops) := stopThese_stays fun _ => autoLoop_lt

theorem endRamp_stays : Stays [.mrk] [] s s.endRamp := .ite .refl (Stays.setMrk .refl)

theorem takeEntryOf_stays {p : Plan} {e : StackEntry} : Stays [.mrk] [] s (s.takeEntryOf p e) := (Stays.setMrk .refl).trans endRamp_stays

theorem renewLease_stays {p : Plan} {col : Nat} : Stays [.mrk] [.cell F.MRK_LOCAL_COLUMN] s (s.renewLease p col) :=
  ((Stays.setMrk .refl).run endRamp_stays).run showLease_stays

theorem startConnect_stays : Stays [.sht, .mrk] reachMode s s.startConnect := (Stays.setMrk .refl).run requestOutput_stays

theorem noColumn_stays {p : Plan} {e : StackEntry} : Stays [.sht, .mrk] reachMode s (s.noColumn p e) :=
  .ite .refl ((Stays.refl.run takeEntryOf_stays).thru fun hs => .ite (hs.run stopAuto_stays) (hs.run stopOutput_stays))

/-- Registers that a stack's applied entry changes. -/
def reachEntry : List Reach := [.cell F.MRK_LOCAL_COLUMN, .cell F.MRK_LOCAL_MODE] ++ reachMode

theorem applyStack_stays {p : Plan} {e : StackEntry} : Stays [.clk, .sht, .mrk] reachEntry s (s.applyStack p e) :=
  (Stays.wr .refl).thru fun hs => (Stays.ite hs.setClk hs).thru fun hs => .ite (hs.run noColumn_stays) (.ite hs
    (((hs.run takeEntryOf_stays).run renewLease_stays).thru fun hs => .ite (hs.run startConnect_stays) (.ite hs.setMrk hs)))

theorem planApply_stays {p : Plan} : Stays [.clk, .sht, .mrk] (.cell F.MRK_PLAN_NO :: reachEntry) s (s.planApply p) := by
  unfold State.planApply
  extract_lets mrk taken numbered
  have hs : Stays [.clk, .sht, .mrk] (.cell F.MRK_PLAN_NO :: reachEntry) s numbered := Stays.wr (Stays.setMrk .refl)
  split
  · exact hs.run applyStack_stays
  · exact Stays.setMrk (Stays.setMrk hs)
  · exact hs

theorem sendPlanning_stays : Stays [.pair] [] s s.sendPlanning := .ite .refl (Stays.setPair .refl)

/-- The parts that a Marker cycle's start changes (R123, R135). -/
def partsMarkerCycle : List Part := [.hbi, .que, .pat, .sht, .pair, .trg, .mrk, .clk, .saf]

/-- Registers that the applied plan and the boundary of the MRK block change. -/
def reachApplied : List Reach := .cell F.MRK_PLAN_NO :: reachEntry ++ reachBoundary

theorem markerApply_stays {time : Nat} : Stays partsMarkerCycle reachApplied s (s.markerApply time) := by
  unfold State.markerApply
  extract_lets tacked was bounded planned mrk sent
  have hs : Stays partsMarkerCycle reachApplied s bounded := Stays.refl.run (boundary_frame _ _)
  have hs : Stays partsMarkerCycle reachApplied s sent := .ite (Stays.setMrk (hs.run sendPlanning_stays)) hs
  split
  · exact .ite (hs.run planApply_stays) hs
  · exact hs

end Sys2Proof.Machine

namespace Sys2Proof.Machine
open Sys2Proof
-- Proofs in sequence, as above: waiting threads' stacks take memory.
set_option Elab.async false
variable {ps qs : List Part} {rs os : List Reach} {o s t : State}

/-! ### Frames of reports, DEMAND, LEAD and switching sequences (R118, R137 to R145, R207) -/

theorem stackEnergy_stays {e : Int} : Stays [.bar] [] s (s.stackEnergy e) :=
  .ite (Stays.setBar (Stays.setBar .refl)) (Stays.setBar (Stays.setBar .refl))

theorem reportSample_stays {curve : Option (List Nat)} : Stays [.que, .bar, .sht, .mrk] (reachLevels 4) s (s.reportSample curve) := by
  have counted : Stays [.que, .bar, .sht, .mrk] (reachLevels 4) s
      (({ s with mrk.eIn := s.mrk.eIn + s.sht.pIn } : State).stackEnergy (s.sht.iOut * s.sht.vOut)) :=
    (Stays.setMrk .refl).run stackEnergy_stays
  refine .ite .refl ?_
  split
  · dsimp only
    split
    · exact counted.run ringSend_levels
    · exact (Stays.setSht (counted.run ringSend_levels)).run ringSend_levels
  · exact Stays.refl.run ringSend_levels
  · exact .refl

theorem demandSend_stays {cycle time : Nat} : Stays [.que, .mrk, .vlk] (reachLevels 4) s (s.demandSend cycle time) :=
  .ite .refl ((Stays.setMrk (Stays.setVlk .refl)).run ringSend_levels)

theorem demandReceive_stays {d : Demand} : Stays [.sht, .mrk] reachMode s (s.demandReceive d) :=
  .ite .refl (((Stays.setMrk .refl).run endRamp_stays).thru fun hs => .ite (hs.run columnOff_stays) hs)

theorem startRamp_stays {time len : Nat} : Stays [.mrk] [] s (s.startRamp time len) := .ite .refl (Stays.setMrk .refl)

theorem demandGone_stays {time : Nat} : Stays [.mrk] [] s (s.demandGone time) := .ite .refl startRamp_stays.setMrk

theorem leadSend_stays {cycle time : Nat} {iLead : Int} : Stays [.que, .mrk] (reachLevels 4) s (s.leadSend cycle time iLead) :=
  .ite .refl ((Stays.setMrk .refl).run ringSend_levels)

theorem leadReceive_stays {l : Lead} : Stays [.mrk] [] s (s.leadReceive l) := .ite .refl ((Stays.setMrk .refl).run endRamp_stays)

theorem leadGone_stays {time : Nat} : Stays [.mrk] [] s (s.leadGone time) := .ite .refl startRamp_stays.setMrk

theorem leaseRampStart_stays {time : Nat} : Stays [.mrk] [] s (s.leaseRampStart time) := by
  unfold State.leaseRampStart
  split
  · exact .ite .refl startRamp_stays.setMrk
  · exact .refl

theorem xpDropCoil_stays : Stays [.bar, .mrk] [] s s.xpDropCoil := .ite .refl ((Stays.setMrk .refl).run contactorOp_frame)

/-- The parts that a lease's end or a failed CONNECT changes (R140, R143). -/
def partsDropped : List Part := [.que, .bar, .sht, .trg, .mrk]

theorem leaseExpiry_stays {time : Nat} :
    Stays partsDropped (.cell F.MRK_LOCAL_COLUMN :: reachMode ++ reachEvent) s (s.leaseExpiry time) := by
  unfold State.leaseExpiry
  split
  · refine .ite .refl ?_
    extract_lets hot counted driven opened mrk ended rest stopped
    have hs : Stays partsDropped (.cell F.MRK_LOCAL_COLUMN :: reachMode ++ reachEvent) s counted :=
      .ite ((Stays.setBar .refl).run (event_frame _ _ _)) .refl
    have hs : Stays partsDropped (.cell F.MRK_LOCAL_COLUMN :: reachMode ++ reachEvent) s ended := (hs.run xpDropCoil_stays).setMrk
    exact (Stays.ite hs ((Stays.setMrk hs).run stopOutput_stays)).run showLease_stays
  · exact .refl

theorem voltageMatched_stays : Stays [.bar, .mrk] [] s s.voltageMatched := by
  unfold State.voltageMatched
  split
  · exact .ite ((Stays.setMrk .refl).run contactorOp_frame) .refl
  · exact .refl

theorem failConnect_stays : Stays partsDropped (reachMode ++ reachEvent) s s.failConnect := by
  unfold State.failConnect
  extract_lets opened mrk
  have hs : Stays partsDropped (reachMode ++ reachEvent) s opened := (Stays.refl.run xpDropCoil_stays).run stopOutput_stays
  exact hs.setMrk.run (event_frame _ _ _)

theorem debounceEnd_stays : Stays [.sht, .mrk] (.cell F.MRK_LOCAL_COLUMN :: reachMode) s s.debounceEnd := by
  unfold State.debounceEnd
  split
  · exact (Stays.setMrk .refl).thru fun hs => .ite hs (hs.run requestOutput_stays)
  · exact ((Stays.setMrk (Stays.refl.run stopOutput_stays)).run endRamp_stays).run showLease_stays
  · exact .refl

theorem rampOutZero_stays {time : Nat} : Stays [.bar, .mrk] [] s (s.rampOutZero time) := .ite xpDropCoil_stays.setMrk .refl

theorem releaseFailed_stays {time : Nat} : Stays [.que, .trg, .mrk] reachEvent s (s.releaseFailed time) :=
  .ite ((Stays.setMrk .refl).run (event_frame _ _ _)) .refl

/-! ### Frames of duties and replicas (R156 to R159, R364) -/

theorem refillHolder_stays {h : Nat} : Stays [.que] (reachLevels 4) s (s.refillHolder h) :=
  (Stays.refl.foldl fun _ hs => by split; exacts [hs.trans ringSend_levels, hs]).foldl fun _ hs => hs.trans ringSend_levels

theorem refillHolders_stays {old new : List Nat} : Stays [.que] (reachLevels 4) s (s.refillHolders old new) :=
  .ite (Stays.refl.foldl fun _ hs => hs.trans refillHolder_stays) .refl

theorem requestVote_stays {cold : Bool} {n : Nat} : Stays [.pair, .trg] [] s (s.requestVote cold n) :=
  .ite .refl (Stays.set (Stays.setPair .refl))

/-- Registers that a unit's duties change (R157). -/
def reachDuty : List Reach := [.cell F.PAIR_IDENT_WITNESS, .cell F.PAIR_STATUS_UNWITNESSED] ++ reachLevels 4

/-- The parts that the duties change (R156, R157). -/
def partsDuty : List Part := [.que, .pair, .trg, .mrk]

theorem takeDuty_stays {d : Duty} : Stays partsDuty reachDuty s (s.takeDuty d) :=
  ((Stays.setMrk .refl).run refillHolders_stays).thru fun hs => (Stays.ite hs hs.wr.wrb).thru fun hs =>
    .ite (hs.run requestVote_stays) hs

/-- Registers that show the duties at the site pair (R165). -/
def reachShownDuty : List Reach :=
  [.cell F.MRK_STATUS_NO_WITNESS, .cell F.MRK_STATUS_REPLICA_SHORT, .family (F.MRK_DUTY_FAR 0), .family (F.MRK_DUTY_HOPS 0),
    .family (F.MRK_DUTY_WITNESS 0), .family (F.MRK_REPLICA_HOLDER_1 0), .family (F.MRK_REPLICA_HOLDER_2 0),
    .family (F.MRK_REPLICA_SHORT 0)]

theorem reachShownDuty_pair (n : Fin 50) : Holds reachShownDuty (F.MRK_DUTY_WITNESS n) ∧ Holds reachShownDuty (F.MRK_DUTY_HOPS n) ∧
    Holds reachShownDuty (F.MRK_DUTY_FAR n) := by
  revert n
  decide

theorem reachShownDuty_owner (a : Fin 97) : Holds reachShownDuty (F.MRK_REPLICA_HOLDER_1 a) ∧
    Holds reachShownDuty (F.MRK_REPLICA_HOLDER_2 a) ∧ Holds reachShownDuty (F.MRK_REPLICA_SHORT a) := by
  revert a
  decide

theorem showDuties_stays {d : Duty} : Stays [] reachShownDuty s (s.showDuties d) := by
  refine Stays.wrb (Stays.wrb (Stays.foldl (Stays.foldl .refl fun {_ r} mem hs => ?_) fun {_ r} mem hs => ?_))
  · have small : 1 ≤ r.instance_ ∧ r.instance_ ≤ 49 := by simpa using List.of_mem_filter mem
    obtain ⟨witness, hops, far⟩ := reachShownDuty_pair ⟨r.instance_, by omega⟩
    exact ((hs.wr witness).wr hops).wrb far
  · have small : 1 ≤ r.1 ∧ r.1 ≤ 96 := by simpa using List.of_mem_filter mem
    obtain ⟨first, second, short⟩ := reachShownDuty_owner ⟨r.1, by omega⟩
    exact ((hs.wr first).wr second).wrb short

theorem dutyReceive_stays {d : Duty} {src : Nat} : Stays partsDuty (reachDuty ++ reachShownDuty) s (s.dutyReceive d src) :=
  .ite .refl (.ite ((Stays.refl.run takeDuty_stays).run showDuties_stays) (Stays.refl.run takeDuty_stays))

theorem storeReplica_stays {owner seq : Nat} {block : Bool} {bytes : List Nat} :
    Stays [.que, .mrk] (reachQueue 4) s (s.storeReplica owner block seq bytes) := (Stays.setMrk .refl).run ringReply_queue

/-! ### Frames of the Marker's own commands (R119 to R124, R130, R143, R150, R155, R162) -/

theorem stackReport_stays {time : Nat} {r : StackStatus} :
    Stays [.mrk] [.cell (F.MRK_STACK_STATE_AVAILABLE r.row), .cell (F.MRK_STACK_STATE_QUARANTINE r.row)] s (s.stackReport time r) := by
  have stored {old : Option (Nat × StackStatus)} : Stays [.mrk]
      [.cell (F.MRK_STACK_STATE_AVAILABLE r.row), .cell (F.MRK_STACK_STATE_QUARANTINE r.row)] s (s.storeReport time r old) :=
    Stays.wrb (Stays.setMrk (Stays.ite .refl (Stays.setMrk .refl))) (holds_cell (by simp))
  unfold State.stackReport
  refine .ite .refl ?_
  dsimp only
  split
  · exact .ite (.ite stored.setMrk (Stays.wrb (Stays.setMrk stored.setMrk) (holds_cell (by simp)))) stored.setMrk
  · exact stored.setMrk

theorem curveReport_stays {time row : Nat} {curve : List Nat} : Stays [.mrk] [] s (s.curveReport time row curve) :=
  .ite .refl (Stays.setMrk .refl)

theorem outletReport_stays {time : Nat} {r : OutletStatus} : Stays [.mrk] [] s (s.outletReport time r) :=
  .ite .refl (Stays.setMrk .refl)

theorem endQuarantine_stays {row col : Nat} :
    Stays [.mrk] [.cell (F.MRK_STACK_STATE_QUARANTINE row)] s (s.endQuarantine row col) :=
  (Stays.setMrk .refl).thru fun hs => .ite hs (hs.wrb (holds_cell (by simp)))

/-- Registers that show which cap binds (R148, R150). -/
def reachCaps : List Reach := [.cell F.MRK_STATUS_CURTAILED, .cell F.MRK_STATUS_DEMAND_BOUND]

theorem showCaps_stays : Stays [] reachCaps s s.showCaps := .ite .refl (Stays.wrb .refl).wrb

/-- Registers that a curtailment changes (R150). -/
def reachCurtail : List Reach := .cell F.MRK_CURTAIL_KW :: reachCaps

theorem curtail_stays {kw : Nat} : Stays [.pair, .mrk] reachCurtail s (s.curtail kw) :=
  ((Stays.setMrk (Stays.wr .refl)).run showCaps_stays).run sendPlanning_stays

theorem curtailWrite_stays {side v : Nat} : Stays [.hbi, .pair, .mrk] (reachCurtail ++ reachKeyed) s (s.curtailWrite side v) :=
  .ite Stays.refl.accessError (.ite Stays.refl.accessError (.ite Stays.refl.accessError
    ((Stays.refl.run accepted_stays).run curtail_stays)))

theorem curtailLapse_stays : Stays [.pair] reachCurtail s s.curtailLapse :=
  .ite .refl (((Stays.wr .refl).run showCaps_stays).run sendPlanning_stays)

theorem mrkCommand_stays {side key : Nat} {f : State → State} (k : ∀ u, Stays ps rs u (f u)) (hp : Part.hbi ∈ ps := by decide)
    (hr : covers rs reachKeyed = true := by decide) : Stays ps rs s (s.mrkCommand side key f) :=
  command_stays (fun u => .ite (Stays.refl.accessError hp hr) (k u)) hp hr

theorem dropAhead_stays {w : Plan.Snap} : Stays [.mrk] [.cell F.MRK_DISCARDS] s (s.dropAhead w) :=
  (Stays.setMrk .refl).thru fun hs => .ite hs.discardAhead hs

/-- Registers that a snapshot changes (R122, R123, R148). -/
def reachSnapshot : List Reach := [.cell F.MRK_DISCARDS, .cell F.MRK_STATUS_DEGRADED] ++ reachCaps

theorem takeSnapshot_stays {t0 : Nat} : Stays [.mrk] reachSnapshot s (s.takeSnapshot t0) :=
  .ite .refl ((Stays.setMrk (Stays.setMrk (Stays.ite (Stays.setMrk .refl) .refl))).run dropAhead_stays).wrb.wrb.wrb

theorem markerCycle_stays {time : Nat} : Stays partsMarkerCycle (reachApplied ++ reachSnapshot) s (s.markerCycle time) :=
  .ite .refl ((Stays.refl.run markerApply_stays).run takeSnapshot_stays)

/-- Registers that a committed plan changes (R132, R161). -/
def reachCommitPlan : List Reach :=
  [.family (F.MRK_STACK_STATE_PIN_ERR 0), .family (F.MRK_STACK_STATE_LULL 0)] ++ reachCommittedPlan ++ reachLevels 6

theorem reachCommitPlan_row (r : Fin 33) : Holds reachCommitPlan (F.MRK_STACK_STATE_PIN_ERR r) ∧
    Holds reachCommitPlan (F.MRK_STACK_STATE_LULL r) := by
  revert r
  decide

theorem commitPlan_stays {p : Plan} : Stays [.que, .mrk] reachCommitPlan s (s.commitPlan p) := by
  refine Stays.foldl (Stays.run (Stays.run (Stays.setMrk (Stays.setMrk .refl)) showCommitted_stays) ringSend_levels)
    fun {_ r} mem hs => ?_
  have small : 1 ≤ r.rowCol ∧ r.rowCol ≤ 32 := by simpa using List.of_mem_filter mem
  obtain ⟨pin, lull⟩ := reachCommitPlan_row ⟨r.rowCol, by omega⟩
  exact (hs.wrb pin).wrb lull

theorem commitTarget_stays {t0 : Nat} {w : Plan.Snap} {target : Plan.Target} :
    Stays [.que, .mrk] reachCommitPlan s (s.commitTarget t0 w target) := by
  unfold State.commitTarget
  split
  · exact .refl
  · exact commitPlan_stays.setMrk

/-- Registers that duties, Lull and wakes of a cycle change. -/
def reachWork : List Reach := reachDuty ++ reachShownDuty ++ reachLevels 6

theorem sendDuties_stays {t0 : Nat} {d : Duty} : Stays partsDuty reachWork s (s.sendDuties t0 d) :=
  (Stays.refl.run showDuties_stays).thru fun hs => .ite hs ((hs.setMrk.run ringSend_levels).run takeDuty_stays)

theorem sendWake_stays {t0 : Nat} {r : RoleDecl} : Stays [.que, .mrk] (reachLevels 6) s (s.sendWake t0 r) :=
  Stays.refl.foldl fun _ hs => .ite hs ((Stays.setMrk hs).run ringSend_levels)

theorem sendLull_stays {r : RoleDecl} : Stays [.que, .mrk] (reachLevels 6) s (s.sendLull r) :=
  (Stays.setMrk .refl).thru fun hs => .ite (hs.foldl fun _ hs => hs.run ringSend_levels) hs

theorem placeWork_stays {t0 : Nat} {w : Plan.Snap} {target : Plan.Target} {updating : List Nat} :
    Stays partsDuty reachWork s (s.placeWork t0 w target updating) :=
  ((Stays.refl.run sendDuties_stays).foldl fun _ hs => hs.run sendLull_stays).foldl fun _ hs => hs.run sendWake_stays

/-- Registers that a solve changes (R123). -/
def reachSolve : List Reach := .cell F.MRK_STATUS_SUBOPTIMAL :: reachCommitPlan ++ reachWork

theorem solve_stays {updating : List Nat} : Stays partsDuty reachSolve s (s.solve updating) := by
  unfold State.solve
  split
  · exact .refl
  · exact ((Stays.wrb .refl).run commitTarget_stays).run placeWork_stays

theorem solveDeadline_stays {best : Option (List Nat)} {updating : List Nat} :
    Stays partsDuty (.cell F.MRK_OVERRUNS :: reachSolve) s (s.solveDeadline best updating) := by
  unfold State.solveDeadline
  split
  · exact .refl
  · extract_lets counted
    have hs : Stays partsDuty (.cell F.MRK_OVERRUNS :: reachSolve) s counted := Stays.inc .refl
    split
    · exact (hs.wrb.run commitTarget_stays).run placeWork_stays
    · exact (Stays.setMrk (hs.wrb.run commitPlan_stays)).run placeWork_stays

theorem wakeReceive_stays {target src : Nat} : Stays [.mrk, .clk] reachWake s (s.wakeReceive target src) :=
  .ite .refl (.ite (.ite (Stays.refl.run wakeBy_frame) .refl) (.ite (Stays.setMrk .refl) .refl))

theorem wakeTimeout_stays {a : Nat} : Stays [.mrk] [] s (s.wakeTimeout a) := by
  unfold State.wakeTimeout
  split
  · exact .refl
  · exact (Stays.setMrk .refl).thru fun hs => .ite hs hs.setMrk

/-- Settles O49: each command's meaning has a frame, which lies within the named parts and registers. -/
theorem frameOfMarker : Obligations.FrameOfMarker :=
  ⟨fun _ => keeps_of (fun _ => rfl) fun _ => markerCycle_stays,
    fun _ => keeps_of (fun _ => rfl) fun _ => solve_stays,
    fun _ _ => keeps_of (fun _ => rfl) fun _ => solveDeadline_stays,
    fun _ => keeps_of (fun _ => rfl) fun _ => reportSample_stays,
    fun _ _ => keeps_within (fun _ => rfl) (fun _ => stackReport_stays) (by simp),
    fun _ _ _ => keeps_of (fun _ => rfl) fun _ => curveReport_stays,
    fun _ _ => keeps_of (fun _ => rfl) fun _ => outletReport_stays,
    fun _ _ => keeps_of (fun _ => rfl) fun _ => planReceive_stays,
    fun _ => keeps_of (fun _ => rfl) fun _ => planTack_stays,
    fun _ _ => keeps_of (fun _ => rfl) fun _ => dutyReceive_stays,
    fun _ _ => keeps_of (fun _ => rfl) fun _ => demandSend_stays,
    fun _ => keeps_of (fun _ => rfl) fun _ => demandReceive_stays,
    fun _ => keeps_of (fun _ => rfl) fun _ => demandGone_stays,
    fun _ _ _ => keeps_of (fun _ => rfl) fun _ => leadSend_stays,
    fun _ => keeps_of (fun _ => rfl) fun _ => leadReceive_stays,
    fun _ => keeps_of (fun _ => rfl) fun _ => leadGone_stays,
    fun _ => keeps_of (fun _ => rfl) fun _ => leaseRampStart_stays,
    fun _ => keeps_of (fun _ => rfl) fun _ => leaseExpiry_stays,
    keeps_of (fun _ => rfl) fun _ => voltageMatched_stays,
    keeps_of (fun _ => rfl) fun _ => .ite failConnect_stays .refl,
    keeps_of (qs := [.mrk]) (xs := []) (fun _ => rfl) fun _ => .ite (Stays.setMrk .refl) .refl,
    keeps_of (fun _ => rfl) fun _ => .ite failConnect_stays .refl,
    keeps_of (fun _ => rfl) fun _ => debounceEnd_stays,
    fun _ => keeps_of (fun _ => rfl) fun _ => rampOutZero_stays,
    fun _ => keeps_of (fun _ => rfl) fun _ => releaseFailed_stays,
    keeps_of (qs := [.mrk]) (xs := []) (fun _ => rfl) fun _ => .ite (Stays.setMrk .refl) .refl,
    fun _ _ => keeps_within (fun _ => rfl) (fun _ => endQuarantine_stays) (by simp),
    fun _ _ => keeps_of (fun _ => rfl) fun _ => curtailWrite_stays,
    keeps_of (fun _ => rfl) fun _ => curtailLapse_stays,
    fun _ _ => keeps_of (fun _ => rfl) fun _ => mrkCommand_stays (ps := [.hbi]) (rs := .cell F.MRK_STATUS_HOLD :: reachKeyed)
      fun _ => Stays.wrb .refl,
    fun _ _ => keeps_of (fun _ => rfl) fun _ => mrkCommand_stays (ps := [.hbi]) (rs := .cell F.MRK_STATUS_HOLD :: reachKeyed)
      fun _ => Stays.wrb .refl,
    fun _ _ => keeps_of (fun _ => rfl) fun _ => mrkCommand_stays (ps := [.hbi, .mrk]) (rs := reachKeyed) fun _ => Stays.setMrk .refl,
    fun _ _ => keeps_of (fun _ => rfl) fun _ => wakeReceive_stays,
    fun _ => keeps_of (fun _ => rfl) fun _ => wakeTimeout_stays,
    fun _ _ _ _ => keeps_of (fun _ => rfl) fun _ => .ite .refl storeReplica_stays,
    fun _ _ => keeps_of (qs := [.bil]) (xs := []) (fun _ => rfl) fun _ => Stays.setBil .refl⟩

/-- A missed plan is counted up to 255 with its event, and nothing else changes (R136). -/
theorem planTack_misses {time : Nat} (awake : s.inLull = false) (lacking : ∀ p, s.mrk.plan = some p → time + 1000000 < p.applyTime) :
    s.planTack time = s.planMissed := by
  unfold State.planTack
  rw [if_neg (by simp [awake])]
  split
  next p held => exact if_neg (Nat.not_le.mpr (lacking p held))
  · rfl

theorem planMissed_count (s : State) : s.planMissed.rd F.MRK_LOCAL_MISSED = min (s.rd F.MRK_LOCAL_MISSED + 1) 255 :=
  (Stays.rd (event_frame (s.inc F.MRK_LOCAL_MISSED) _ _)).trans (State.rd_inc s F.MRK_LOCAL_MISSED 1)

/-- Settles O59: a plan that is not held whole is a missed one. -/
theorem planNotHeld : Obligations.PlanNotHeld := fun _ s awake lacking =>
  answers_of_eq rfl (planTack_misses awake lacking)
    ⟨planMissed_stays.parts .mrk (by decide), planMissed_count s, planMissed_stays⟩

end Sys2Proof.Machine

namespace Sys2Proof.Machine
open Sys2Proof
-- Proofs in sequence, as above: waiting threads' stacks take memory.
set_option Elab.async false
variable {ps qs : List Part} {rs os : List Reach} {o s t : State}

/-! ### What shared operations of a stack change of the Marker's state (R119, R138, R140) -/

/-- A ramp to zero runs, and the lease stands. -/
theorem startRamp_ramps (s : State) (time len : Nat) :
    (s.startRamp time len).mrk.zeroRamp.isSome = true ∧ (s.startRamp time len).mrk.lease = s.mrk.lease := by
  unfold State.startRamp
  split
  next runs => exact ⟨runs, rfl⟩
  · exact ⟨rfl, rfl⟩

theorem endRamp_mrk (s : State) : ∃ ramp, s.endRamp.mrk = { s.mrk with zeroRamp := ramp } := by
  unfold State.endRamp
  split
  · exact ⟨s.mrk.zeroRamp, rfl⟩
  · exact ⟨none, rfl⟩

/-- The coil driven open, and READY with it where it was driven (R119, R144). -/
theorem xpDropCoil_mrk (s : State) : ∃ ready, s.xpDropCoil.mrk = { s.mrk with coil := 0, ready := ready } := by
  unfold State.xpDropCoil
  split
  next dropped =>
    have open_ : s.mrk.coil = 0 := by simpa using dropped
    exact ⟨s.mrk.ready, by rw [← open_]⟩
  · exact ⟨false, contactorOp_frame.parts .mrk (by decide)⟩

theorem stopOutput_mrk (s : State) : s.stopOutput.mrk = s.mrk := stopOutput_stays.parts .mrk (by decide)

theorem requestOutput_mrk (s : State) (mode : Nat) : (s.requestOutput mode).mrk = s.mrk := requestOutput_stays.parts .mrk (by decide)

/-- A stack without a lease shows column 0 (R165). -/
theorem showLease_none (free : s.mrk.lease = none) : s.showLease.rd F.MRK_LOCAL_COLUMN = 0 := by
  rw [State.showLease, State.rd_wr, free]
  rfl

/-! ### Leases and cross-points (R139 to R145) -/

theorem leaseRampStart_ramps {time c e : Nat} (stack : s.kind = .stack) (leased : s.mrk.lease = some (c, e))
    (near : e ≤ time + s.mrk.rampMs * 1000000) (before : time < e) (first : s.mrk.leaseRamp = false) :
    s.leaseRampStart time = { s.startRamp time (e - time) with mrk.leaseRamp := true } := by
  unfold State.leaseRampStart
  rw [leased]
  exact if_neg (by simp [stack, first, Nat.not_lt.mpr near, Nat.not_le.mpr before])

/-- At E the lease ends and the coil is driven open; the column is shown anew (R140). -/
theorem leaseExpiry_ends {time c e : Nat} (stack : s.kind = .stack) (leased : s.mrk.lease = some (c, e)) (due : e ≤ time) :
    ∃ u : State, s.leaseExpiry time = u.showLease ∧ u.mrk.lease = none ∧ u.mrk.coil = 0 ∧ u.mrk.leaseRamp = false := by
  unfold State.leaseExpiry
  split
  next e' held =>
    obtain rfl : e' = e := by simpa using congrArg (Option.map (·.2)) (held.symm.trans leased)
    rw [if_neg (by simp [stack, Nat.not_lt.mpr due])]
    extract_lets hot counted driven opened mrk ended rest stopped
    obtain ⟨ready, dropped⟩ := xpDropCoil_mrk counted
    have ends : ended.mrk.lease = none ∧ ended.mrk.coil = 0 ∧ ended.mrk.leaseRamp = false := ⟨rfl, congrArg Mrk.coil dropped, rfl⟩
    refine ⟨stopped, rfl, ?_⟩
    unfold stopped
    split
    · exact ends
    · rw [stopOutput_mrk]
      exact ends
  next free => exact absurd (free.symm.trans leased) (by simp)

theorem voltageMatched_closes {c e : Nat} (leased : s.mrk.lease = some (c, e)) (matching : s.mrk.seq = .matching) (coil : s.mrk.coil = 0)
    (closed : s.mrk.closed = 0) (fitted : s.fitted c = true) (matched : s.matched = true) :
    s.voltageMatched = ({ s with mrk.coil := c, mrk.seq := .closing } : State).contactorOp (s.xpIndex c) 0 false := by
  unfold State.voltageMatched
  rw [leased]
  exact if_pos (by simp [matching, coil, closed, fitted, matched])

/-- A CONNECT that fails (R143). -/
theorem failConnect_fails (s : State) : s.failConnect.mrk.seq = .idle ∧ s.failConnect.mrk.coil = 0 ∧
    s.failConnect.mrk.connectFail = true ∧ s.failConnect.mrk.ready = false := by
  obtain ⟨ready, dropped⟩ := xpDropCoil_mrk s
  have stopped := (stopOutput_mrk s.xpDropCoil).trans dropped
  unfold State.failConnect
  extract_lets opened mrk
  rw [(event_eventOnly _ _ _).mrk]
  exact ⟨rfl, congrArg Mrk.coil stopped, rfl, rfl⟩

theorem debounceEnd_connects (closing : s.mrk.seq = .closeDebounce) :
    s.debounceEnd.mrk = { s.mrk with seq := .connected, ready := true } := by
  unfold State.debounceEnd
  rw [closing]
  dsimp only
  split
  · rfl
  · exact requestOutput_mrk _ _

/-- The end of the debounce after opening releases the lease (R144). -/
theorem debounceEnd_releases (opening : s.mrk.seq = .openDebounce) :
    s.debounceEnd.mrk.seq = .idle ∧ s.debounceEnd.mrk.closed = 0 ∧ s.debounceEnd.mrk.lease = none ∧
      s.debounceEnd.mrk.releaseFail = false ∧ s.debounceEnd.rd F.MRK_LOCAL_COLUMN = 0 := by
  unfold State.debounceEnd
  rw [opening]
  dsimp only
  generalize s.stopOutput = stopped
  obtain ⟨ramp, ended⟩ := endRamp_mrk
    { stopped with mrk := { stopped.mrk with
        seq := .idle, closed := 0, lease := none, leaseRamp := false, releaseFail := false, stack := none } }
  have free := congrArg Mrk.lease ended
  exact ⟨congrArg Mrk.seq ended, congrArg Mrk.closed ended, free, congrArg Mrk.releaseFail ended, showLease_none free⟩

/-- Settles O23: by what each command of the lease and of the switching sequences leaves. -/
theorem leasesAndCrossPoints : Obligations.LeasesAndCrossPoints := by
  refine ⟨fun time c e s stack leased near before first => ?_,
    fun time c e s stack leased due => ?_,
    fun c e s leased matching coil closed fitted matched => ?_,
    fun s matching => answers_of_eq rfl (if_pos (by simp [matching])) (failConnect_fails s),
    fun s closing => answers_of_eq rfl (if_pos (by simp [closing])) (failConnect_fails s),
    fun s closing => answers_of_eq rfl (if_pos (by simp [closing])) rfl,
    fun s closing => ?_, fun s opening => answers_of_eq rfl rfl (debounceEnd_releases opening),
    fun time s ramping zero due => ?_, fun time s ramping first due => ?_,
    fun s opening => answers_of_eq rfl (if_pos (by simp [opening])) rfl⟩
  · obtain ⟨ramps, stands⟩ := startRamp_ramps s time (e - time)
    exact answers_of_eq rfl (leaseRampStart_ramps stack leased near before first) ⟨rfl, ramps, stands⟩
  · obtain ⟨u, means, free, coil, ramp⟩ := leaseExpiry_ends stack leased due
    exact answers_of_eq rfl means ⟨free, coil, ramp, showLease_none free⟩
  · refine answers_of_eq rfl (voltageMatched_closes leased matching coil closed fitted matched) ?_
    rw [contactorOp_frame.parts .mrk (by decide)]
    exact ⟨rfl, rfl, closed⟩
  · refine answers_of_eq rfl rfl ?_
    rw [debounceEnd_connects closing]
    exact ⟨rfl, rfl, rfl⟩
  · obtain ⟨ready, dropped⟩ := xpDropCoil_mrk s
    exact answers_of_eq rfl (if_pos (by simp [ramping, zero, due])) ⟨rfl, congrArg Mrk.coil dropped⟩
  · exact answers_of_eq rfl (if_pos (by simp [ramping, first, due])) (event_eventOnly _ _ _).mrk

end Sys2Proof.Machine

namespace Sys2Proof.Machine
open Sys2Proof
-- Proofs in sequence, as above: waiting threads' stacks take memory.
set_option Elab.async false
variable {ps qs : List Part} {rs os : List Reach} {o s t : State}

/-! ### Reports, plans and duties (R115, R118, R135, R136, R157) -/

theorem ringSend_mrk (s : State) (channel dest : Nat) (body : List Nat) : (s.ringSend 4 channel dest body).mrk = s.mrk :=
  (ringSend_queOnly s 4 channel dest body (by decide)).mrk

theorem reportSample_outlet (outlet : s.kind = .outlet) (active : s.active = true) (awake : s.inLull = false) :
    s.reportSample none = s.ringSend 4 7 127 (outletStatusBytes s.outletStatus) := by
  unfold State.reportSample
  rw [if_neg (by simp [active, awake]), outlet]

/-- A stack counts its input and its output energy before it reports (R118, R119). -/
theorem reportSample_stack (stack : s.kind = .stack) (active : s.active = true) (awake : s.inLull = false) :
    ∃ u, u = ({ s with mrk.eIn := s.mrk.eIn + s.sht.pIn } : State).stackEnergy (s.sht.iOut * s.sht.vOut) ∧
      s.reportSample none = u.ringSend 4 7 127 (stackStatusBytes u.stackStatus) := by
  unfold State.reportSample
  rw [if_neg (by simp [active, awake]), stack]
  exact ⟨_, rfl, rfl⟩

theorem reportSample_counts (stack : s.kind = .stack) (active : s.active = true) (awake : s.inLull = false) :
    (s.reportSample none).mrk.eIn = s.mrk.eIn + s.sht.pIn := by
  obtain ⟨u, counted, sends⟩ := reportSample_stack stack active awake
  have counts : u.mrk = { s.mrk with eIn := s.mrk.eIn + s.sht.pIn } := by
    rw [counted]
    exact stackEnergy_stays.parts .mrk (by decide)
  rw [sends, ringSend_mrk, counts]

/-- A plan of the last master, before its TACK instant: a standby site unit follows it, another unit only holds it (R115, R116, R135). -/
theorem planReceive_holds {p : Plan} {src : Nat} (awake : s.inLull = false) (master : src = s.trg.lastMaster)
    (early : s.now + 1000000 ≤ p.applyTime) :
    s.planReceive p src = if s.kind == .site && !s.active then ({ s with mrk.plan := some p } : State).followPlan p
      else { s with mrk.plan := some p } :=
  if_neg (by simp [awake, master, Nat.not_lt.mpr early])

theorem followPlan_mrk (s : State) (p : Plan) :
    (s.followPlan p).mrk.plan = s.mrk.plan ∧ (s.followPlan p).mrk.committed = p := by
  unfold State.followPlan
  extract_lets lull mrk
  rw [showCommitted_stays.parts .mrk (by decide)]
  exact ⟨rfl, rfl⟩

theorem planTack_latches {time : Nat} {p : Plan} (awake : s.inLull = false) (held : s.mrk.plan = some p)
    (due : p.applyTime ≤ time + 1000000) :
    s.planTack time = ({ s with mrk.plan := none, mrk.latched := some p } : State).tack (2 ^ s.tackGroup 4) := by
  unfold State.planTack
  rw [if_neg (by simp [awake]), held]
  exact if_pos due

/-- A unit takes a DUTY with its witness (R157). -/
theorem takeDuty_takes (s : State) (d : Duty) : (s.takeDuty d).mrk.duty = d ∧ (s.pat.instance_ ≠ 0 →
    (s.takeDuty d).rd F.PAIR_IDENT_WITNESS = ((d.witnesses.find? (·.1 == s.pat.instance_)).map (·.2)).getD 0 % 128) := by
  unfold State.takeDuty
  extract_lets old mrk noted refilled w had shown
  have refills : Stays [.que] (reachLevels 4) noted refilled := refillHolders_stays
  have shows : Stays [] [.cell F.PAIR_IDENT_WITNESS, .cell F.PAIR_STATUS_UNWITNESSED] refilled shown := .ite .refl (Stays.wr .refl).wrb
  have asks {c : Prop} {_ : Decidable c} : Stays [.pair, .trg] [] shown (if c then shown.requestVote false 1 else shown) :=
    .ite requestVote_stays .refl
  have duty : shown.mrk = noted.mrk := (shows.parts .mrk (by decide)).trans (refills.parts .mrk (by decide))
  refine ⟨?_, fun place => ?_⟩
  · rw [asks.parts .mrk (by decide), duty]
  · have pat : refilled.pat = s.pat := refills.parts .pat (by decide)
    have named : w = ((d.witnesses.find? (·.1 == s.pat.instance_)).map (·.2)).getD 0 := by
      unfold w
      rw [pat]
      cases d.witnesses.find? (·.1 == s.pat.instance_)
      · rfl
      · rfl
    have shown_ : shown = (refilled.wr F.PAIR_IDENT_WITNESS w).wrb F.PAIR_STATUS_UNWITNESSED (w == 0) := if_neg (by simpa [pat] using place)
    rw [asks.rd, shown_, State.rd_wrb_ne _ (by decide), State.rd_wr, ← named]
    rfl

/-- A DUTY of the last master is taken; the standby site unit shows it too (R115, R116, R157). -/
theorem dutyReceive_takes {d : Duty} {src : Nat} (awake : s.inLull = false) (master : src = s.trg.lastMaster) :
    Stays [] reachShownDuty (s.takeDuty d) (s.dutyReceive d src) := by
  unfold State.dutyReceive
  rw [if_neg (by simp [awake, master])]
  exact .ite showDuties_stays .refl

/-! ### DEMAND and LEAD (R137, R138, R206, R207) -/

theorem columnOff_mrk (s : State) : s.columnOff.mrk = { s.mrk with demand := some { s.dem with mode := 0, iRef := 0 } } := by
  have stops : Stays [.sht] reachMode ({ s with mrk.demand := some { s.dem with mode := 0, iRef := 0 } } : State) s.columnOff :=
    Stays.foldl .refl fun mem hs => hs.trans (startStop_frame (outputLoop_lt mem))
  exact stops.parts .mrk (by decide)

/-- An outlet unit of a leased column writes DEMAND (R137). -/
theorem demandSend_sends {cycle time : Nat} (outlet : s.kind = .outlet) (active : s.active = true) (turn : cycle % 4 = 0)
    (leased : s.columnLeased time = true) : ∃ d : Demand, d.col = s.role.rowCol ∧ d.mode = s.demandMode ∧ d.seq = s.mrk.demandSeq ∧
      (s.demandSend cycle time).mrk = { s.mrk with demand := some d, demandSeq := (s.mrk.demandSeq + 1) % 256 } := by
  unfold State.demandSend
  rw [if_neg (by simp [outlet, active, turn, leased])]
  extract_lets vlk ref mode d mrk
  exact ⟨d, rfl, rfl, rfl, ringSend_mrk _ _ _ _⟩

/-- A stack takes the DEMAND of its column; MODE 0 is a request to stop (R138, R309). -/
theorem demandReceive_takes {d : Demand} (stack : s.kind = .stack) (follows : s.ownColumn ≠ 0) (own : d.col = s.ownColumn) :
    (s.demandReceive d).mrk.demand = (if d.mode = 0 then some { d with iRef := 0 } else some d) ∧
      (s.demandReceive d).mrk.demandLost = false := by
  unfold State.demandReceive
  rw [if_neg (by simp [stack, follows, own])]
  obtain ⟨ramp, ended⟩ := endRamp_mrk ({ s with mrk.demand := some d, mrk.demandLost := false } : State)
  generalize State.endRamp _ = taken at ended
  have asks : taken.dem = d := by rw [State.dem, ended]; rfl
  dsimp only
  by_cases off : d.mode = 0
  · have asked : ({ d with mode := 0, iRef := 0 } : Demand) = { d with iRef := 0 } := by rw [← off]
    rw [if_pos (by simp [off]), if_pos off, columnOff_mrk, asks, asked, ended]
    exact ⟨rfl, rfl⟩
  · rw [if_neg (by simp [off]), if_neg off, ended]
    exact ⟨rfl, rfl⟩

/-- The lead stack of a column in voltage control, with another stack connected, writes LEAD (R207). -/
theorem leadSend_sends {cycle time : Nat} {iLead : Int} {e : StackEntry} {d : LoopDecl} (stack : s.kind = .stack)
    (active : s.active = true) (turn : cycle % 4 = 2) (lead : s.isLead = true) (follows : s.ownColumn ≠ 0)
    (entry : e ∈ s.mrk.applied.stackEntries) (column : e.col = s.ownColumn) (other : e.row ≠ s.role.rowCol) (low : 2 ≤ e.mode)
    (high : e.mode ≤ 5) (loop : d ∈ s.outputLoops) (voltage : s.nowMode d.loop = mOutVoltage) :
    s.leadSend cycle time iLead = ({ s with mrk.leadSeq := (s.mrk.leadSeq + 1) % 256 } : State).ringSend 4 1 127 (leadBytes
      { col := s.ownColumn, row := s.role.rowCol, seq := s.mrk.leadSeq, iLead := iLead
        shareLead := (s.share time * 32768).floor.toNat }) := by
  have joined : (s.mrk.applied.stackEntries.any fun e => e.col == s.ownColumn && e.row != s.role.rowCol && 2 ≤ e.mode && e.mode ≤ 5) =
      true := List.any_eq_true.mpr ⟨e, entry, by simp [column, other, low, high]⟩
  have leads : (s.outputLoops.any fun d => s.nowMode d.loop == mOutVoltage) = true := List.any_eq_true.mpr ⟨d, loop, by simp [voltage]⟩
  unfold State.leadSend
  dsimp only
  rw [if_neg (by simp [stack, active, turn, lead, follows, joined, leads])]

theorem leadReceive_takes {l : Lead} (stack : s.kind = .stack) (follows : s.ownColumn ≠ 0) (own : l.col = s.ownColumn)
    (other : l.row ≠ s.role.rowCol) : s.leadReceive l = ({ s with mrk.lead := some l, mrk.leadLost := false } : State).endRamp :=
  if_neg (by simp [stack, follows, own, other])

theorem demandGone_ramps {time : Nat} (stack : s.kind = .stack) (leased : s.mrk.lease.isSome = true) :
    s.demandGone time = { s.startRamp time (s.mrk.rampMs * 1000000) with mrk.demandLost := true } :=
  if_neg (by simp [stack, Option.isSome_iff_ne_none.mp leased])

theorem leadGone_ramps {time : Nat} (stack : s.kind = .stack) (following : s.isLead = false) (led : s.mrk.lead.isSome = true)
    (moved : s.dem.mode ≠ 0) : s.leadGone time = { s.startRamp time (s.mrk.rampMs * 1000000) with mrk.leadLost := true } :=
  if_neg (by simp [stack, following, Option.isSome_iff_ne_none.mp led, moved])

/-! ### Wakes and replicas (R116, R155, R158) -/

theorem wakeBy_wakes {cause : Nat} (asleep : s.inLull = true) : (s.wakeBy cause).rd F.CLK_LULL_STATUS_STATE = 3 ∧
    (s.wakeBy cause).rd F.CLK_LULL_STATUS_WAKE_CAUSE = cause % 256 := by
  have state : s.rd F.CLK_LULL_STATUS_STATE = 2 := by simpa [State.inLull] using asleep
  have timed {u : State} : Stays [] [.cell F.CLK_WAKE_TIME_HI, .cell F.CLK_WAKE_TIME_LO] u (u.wr64 F.CLK_WAKE_TIME_LO s.now) :=
    Stays.wr64 .refl
  have means : s.wakeBy cause = ((s.wr F.CLK_LULL_STATUS_STATE 3).wr F.CLK_LULL_STATUS_WAKE_CAUSE cause).wr64 F.CLK_WAKE_TIME_LO s.now := by
    unfold State.wakeBy
    simp only [state]
  rw [means, timed.rd, timed.rd, State.rd_wr_ne _ (by decide), State.rd_wr, State.rd_wr]
  exact ⟨rfl, rfl⟩

/-- A WAKE of the last master that names a unit in Lull wakes it (R155). -/
theorem wakeReceive_wakes {target src : Nat} (asleep : s.inLull = true) (own : target = s.addr) (master : src = s.trg.lastMaster) :
    s.wakeReceive target src = s.wakeBy 1 := by
  unfold State.wakeReceive
  rw [if_neg (by simp [master]), if_pos asleep, if_pos (by simp [own])]

/-- A standby site unit notes a WAKE of the last master (R116). -/
theorem wakeReceive_notes {target src : Nat} (site : s.kind = .site) (standby : s.active = false) (awake : s.inLull = false)
    (master : src = s.trg.lastMaster) (fresh : s.mrk.waking.any (·.1 == target) = false) :
    s.wakeReceive target src = { s with mrk.waking := s.mrk.waking ++ [(target, s.now)] } := by
  unfold State.wakeReceive
  rw [if_neg (by simp [master]), if_neg (by simp [awake]), if_pos (by simp [site, standby, fresh])]

/-- A woken unit that has not joined counts as out of the ring (R155). -/
theorem wakeTimeout_leaves {a : Nat} (woken : s.mrk.waking.any (·.1 == a) = true) (absent : s.member a = false) :
    ∃ out, s.wakeTimeout a = { s with
      mrk.waking := s.mrk.waking.filter (·.1 != a), mrk.lullUnits := s.mrk.lullUnits.filter (· != a), mrk.invalid := true
      mrk.outSince := out } := by
  unfold State.wakeTimeout
  split
  next none_ =>
    obtain ⟨w, mem, same⟩ := List.any_eq_true.mp woken
    exact absurd same (List.find?_eq_none.mp none_ w mem)
  next w _ =>
    extract_lets mrk waited
    have absent : waited.member a = false := absent
    rw [if_neg (by simp [absent])]
    exact ⟨_, rfl⟩

/-- The copies that a holder keeps, with one that it has received (R158, R497). -/
def State.replicasWith (s : State) (owner : Nat) (block : Bool) (seq : Nat) (bytes : List Nat) : List (Nat × Bool × Nat × List Nat) :=
  (owner, block, seq, bytes) :: s.mrk.replicas.filter fun r => !(r.1 == owner && r.2.1 == block && r.2.2.1 == seq)

theorem storeReplica_mrk (s : State) (owner : Nat) (block : Bool) (seq : Nat) (bytes : List Nat) :
    (s.storeReplica owner block seq bytes).mrk.replicas =
      if block then (s.replicasWith owner block seq bytes).filter fun r =>
        !(((s.replicasWith owner block seq bytes).filter fun r => r.1 == owner && r.2.1).drop 256).contains r
      else s.replicasWith owner block seq bytes := by
  unfold State.storeReplica
  extract_lets all blocks kept mrk
  exact congrArg Mrk.replicas (ringReply_queOnly _ _ _ _).mrk

/-- A block that is received is kept: it is the newest of its owner (R497). -/
theorem storeReplica_block (s : State) (owner seq : Nat) (bytes : List Nat) :
    (owner, true, seq, bytes) ∈ (s.storeReplica owner true seq bytes).mrk.replicas := by
  rw [storeReplica_mrk, if_pos rfl]
  refine List.mem_filter.mpr ⟨List.mem_cons_self .., ?_⟩
  have apart : (owner, true, seq, bytes) ∉
      ((s.replicasWith owner true seq bytes).filter fun r => r.1 == owner && r.2.1).drop 256 := fun mem => by
    rw [State.replicasWith, List.filter_cons_of_pos (by simp), List.drop_succ_cons] at mem
    have other := List.of_mem_filter (List.mem_of_mem_filter (List.mem_of_mem_drop mem))
    simp at other
  simpa using apart

/-- A record is kept whatever blocks are received (R158). -/
theorem storeReplica_record {r : Nat × Bool × Nat × List Nat} {owner seq : Nat} {bytes : List Nat} (held : r ∈ s.mrk.replicas)
    (record : r.2.1 = false) : r ∈ (s.storeReplica owner true seq bytes).mrk.replicas := by
  rw [storeReplica_mrk, if_pos rfl]
  refine List.mem_filter.mpr ⟨List.mem_cons_of_mem _ (List.mem_filter.mpr ⟨held, by simp [record]⟩), ?_⟩
  have apart : r ∉ ((s.replicasWith owner true seq bytes).filter fun r => r.1 == owner && r.2.1).drop 256 := fun mem => by
    have block := List.of_mem_filter (List.mem_of_mem_drop mem)
    simp [record] at block
  simpa using apart

/-- Settles O22: by what each command of plans, reports, DEMAND, LEAD, wakes and replicas leaves. -/
theorem plansAndReports : Obligations.PlansAndReports := by
  refine ⟨fun s outlet active awake => answers_of_eq rfl rfl (reportSample_outlet outlet active awake),
    fun s stack active awake => answers_of_eq rfl rfl ⟨reportSample_counts stack active awake, reportSample_stack stack active awake⟩,
    fun plan src s awake master early => answers_of_eq rfl (planReceive_holds awake master early) ⟨?_, ?_, ?_⟩,
    fun time p s awake held due => answers_of_eq rfl (planTack_latches awake held due)
      ⟨?_, ?_, tack_latches { s with mrk.plan := none, mrk.latched := some p } _⟩,
    fun time s awake lacking => answers_of_eq rfl (planTack_misses awake fun p held => absurd (held.symm.trans lacking) (by simp))
      ⟨planMissed_count s, planMissed_stays.parts .mrk (by decide)⟩,
    fun duty src s awake master => answers_of_eq rfl rfl ?_,
    fun cycle time s outlet active turn leased => answers_of_eq rfl rfl ?_,
    fun d s stack follows own on => answers_of_eq rfl rfl ?_,
    fun d s stack follows own off => answers_of_eq rfl rfl ?_,
    fun time s stack leased => answers_of_eq rfl (demandGone_ramps stack leased) ⟨rfl, startRamp_ramps s _ _⟩,
    fun cycle time iLead e d s stack active turn lead follows entry column other low high loop voltage =>
      answers_of_eq rfl (leadSend_sends stack active turn lead follows entry column other low high loop voltage) rfl,
    fun l s stack follows own other => answers_of_eq rfl (leadReceive_takes stack follows own other) ?_,
    fun time s stack following led moved => answers_of_eq rfl (leadGone_ramps stack following led moved)
      ⟨rfl, (startRamp_ramps s _ _).1⟩,
    fun target src s asleep own master => answers_of_eq rfl (wakeReceive_wakes asleep own master) (wakeBy_wakes asleep),
    fun target src s site standby awake master fresh => answers_of_eq rfl (wakeReceive_notes site standby awake master fresh) rfl,
    fun a s woken absent => ?_,
    fun owner seq bytes s awake => answers_of_eq rfl (if_neg (by simp [awake])) (storeReplica_mrk s owner false seq bytes),
    fun owner seq bytes s awake => answers_of_eq rfl (if_neg (by simp [awake]))
      ⟨storeReplica_block s owner seq bytes, fun r held record => storeReplica_record held record⟩,
    fun holder seq s => answers_of_eq rfl rfl rfl⟩
  case refine_1 =>
    split
    · exact (followPlan_mrk _ plan).1
    · rfl
  case refine_2 =>
    intro site standby
    rw [if_pos (by simp [site, standby])]
    exact (followPlan_mrk _ plan).2
  case refine_3 =>
    intro other
    rw [if_neg (by simp [other])]
  case refine_4 => exact congrArg Mrk.latched (tack_stays.parts .mrk (by decide))
  case refine_5 => exact congrArg Mrk.plan (tack_stays.parts .mrk (by decide))
  case refine_6 =>
    have takes := dutyReceive_takes (d := duty) awake master
    obtain ⟨taken, witness⟩ := takeDuty_takes s duty
    exact ⟨by rw [takes.parts .mrk (by decide), taken], fun place => by rw [takes.rd, witness place]⟩
  case refine_7 =>
    obtain ⟨d, col, mode, seq, sends⟩ := demandSend_sends outlet active turn leased
    rw [sends]
    exact ⟨col, mode, seq, rfl⟩
  case refine_8 =>
    obtain ⟨demand, found⟩ := demandReceive_takes stack follows own
    exact ⟨demand.trans (if_neg on), found⟩
  case refine_9 =>
    obtain ⟨demand, found⟩ := demandReceive_takes stack follows own
    exact ⟨demand.trans (if_pos off), found⟩
  case refine_10 =>
    obtain ⟨ramp, ended⟩ := endRamp_mrk ({ s with mrk.lead := some l, mrk.leadLost := false } : State)
    rw [ended]
    exact ⟨rfl, rfl⟩
  case refine_11 =>
    obtain ⟨out, leaves⟩ := wakeTimeout_leaves woken absent
    exact answers_of_eq rfl leaves ⟨rfl, rfl, rfl⟩

end Sys2Proof.Machine

namespace Sys2Proof.Machine
open Sys2Proof
-- Proofs in sequence, as above: waiting threads' stacks take memory.
set_option Elab.async false
variable {ps qs : List Part} {rs os : List Reach} {o s t : State}

/-! ### What a safe boundary leaves of the unit's role (R68, R446) -/

theorem safLog_pat (s : State) (kind origin client cause oldCrc newCrc fields first : Nat) :
    (s.safLog kind origin client cause oldCrc newCrc fields first).pat = s.pat := safLog_params.parts .pat (by decide)

theorem storedParams_pat (s : State) (crc : Nat) (stored : Option (List Nat × List (Nat × Nat))) :
    ({ s.wr F.SAF_PARAM_CRC crc with pat.safetyStored := stored } : State).pat = { s.pat with safetyStored := stored } := rfl

/-- An application of safety parameters changes nothing of the pattern but what it has stored of them (R446). -/
theorem paramsApplied_pat (s old : State) : ∃ stored, (s.paramsApplied old).pat = { s.pat with safetyStored := stored } := by
  unfold State.paramsApplied
  dsimp only
  split
  · exact ⟨s.pat.safetyStored, rfl⟩
  · rw [safLog_pat]
    exact ⟨_, storedParams_pat _ _ _⟩

theorem boundary_kind (s : State) (parts : List (Nat × Nat)) : (s.boundary parts).kind = s.kind := by
  obtain ⟨stored, changed⟩ := paramsApplied_pat (s.applyParts parts) s
  have applied : (s.applyParts parts).pat = s.pat := (applyParts_frame s parts).parts .pat (by decide)
  rw [applied] at changed
  rw [State.kind, State.role, State.boundary, changed]
  rfl

theorem Stays.kind (h : Stays ps rs s t) (hp : Part.pat ∉ ps := by decide) : t.kind = s.kind := by
  rw [State.kind, State.role, h.parts .pat hp]
  rfl

/-! ### The start of a Marker cycle (R123, R135) -/

/-- After the boundary of the MRK block the latched plan is applied, at a unit of the same role and state. -/
theorem markerApply_applies (s : State) (time : Nat) : ∃ u : State, u.kind = s.kind ∧ u.active = s.active ∧
    (s.mrk.latched = none → s.markerApply time = u) ∧
    (∀ p, s.mrk.latched = some p → p.applyTime ≤ time → s.markerApply time = u.planApply p) := by
  unfold State.markerApply
  extract_lets tacked was bounded planned mrk sent
  have bounds : Stays [.hbi, .que, .trg, .pat, .saf] reachBoundary s bounded := boundary_frame s _
  have sends : Stays [.pair, .mrk] [] bounded sent := .ite (Stays.setMrk (Stays.refl.run sendPlanning_stays)) .refl
  have latched : sent.mrk.latched = s.mrk.latched := by
    have kept : bounded.sendPlanning.mrk = s.mrk := (sendPlanning_stays.parts .mrk (by decide)).trans (bounds.parts .mrk (by decide))
    unfold sent
    split
    · change planned.mrk.latched = s.mrk.latched
      rw [kept]
    · rw [bounds.parts .mrk (by decide)]
  refine ⟨sent, sends.kind.trans (boundary_kind s _), ?_, fun none_ => ?_, fun p held due => ?_⟩
  · rw [State.active, sends.rd, bounds.rd, State.active]
  · rw [latched, none_]
  · rw [latched, held]
    exact if_pos due

theorem discardAhead_invalid (s : State) : s.discardAhead.mrk.invalid = s.mrk.invalid ∧ s.discardAhead.mrk.solving = s.mrk.solving ∧
    s.discardAhead.mrk.snap = s.mrk.snap := by
  unfold State.discardAhead
  split
  · exact ⟨rfl, rfl, rfl⟩
  · exact ⟨rfl, rfl, rfl⟩

/-- The run-ahead stands for nothing any more that came before the snapshot (R130). -/
theorem dropAhead_settles (s : State) (w : Plan.Snap) : (s.dropAhead w).mrk.invalid = false ∧
    (s.dropAhead w).mrk.solving = s.mrk.solving ∧ (s.dropAhead w).mrk.snap = s.mrk.snap := by
  unfold State.dropAhead
  extract_lets drop mrk settled
  split
  · exact discardAhead_invalid settled
  · exact ⟨rfl, rfl, rfl⟩

/-- The active site unit starts a solve and shows whether its snapshot rests on stale input (R122, R123). -/
theorem takeSnapshot_starts {t0 : Nat} (site : s.kind = .site) (active : s.active = true) :
    (s.takeSnapshot t0).mrk.solving = some t0 ∧ (s.takeSnapshot t0).mrk.invalid = false ∧
      (s.takeSnapshot t0).rdb F.MRK_STATUS_DEGRADED = (s.takeSnapshot t0).mrk.snap.degraded := by
  unfold State.takeSnapshot
  rw [if_neg (by simp [site, active])]
  extract_lets read w mrk dropped
  obtain ⟨invalid, solving, snap⟩ : dropped.mrk.invalid = false ∧ dropped.mrk.solving = some t0 ∧ dropped.mrk.snap = w :=
    dropAhead_settles _ w
  refine ⟨solving, invalid, ?_⟩
  rw [State.rdb_wrb_ne _ (by decide), State.rdb_wrb_ne _ (by decide), State.rdb_wrb _ _ _ (by decide)]
  exact congrArg Plan.Snap.degraded snap.symm

/-! ### A latched plan that is applied (R133 to R135, R139 to R144) -/

/-- The plan in force, the one that waits for its instant, and the plan's own times. -/
def Mrk.inForce (m : Mrk) : Plan × Option Plan × Nat × Nat := (m.applied, m.latched, m.applyTime, m.leaseMs)

theorem endRamp_inForce (s : State) : s.endRamp.mrk.inForce = s.mrk.inForce := by
  obtain ⟨ramp, ended⟩ := endRamp_mrk s
  rw [ended]
  rfl

theorem takeEntryOf_inForce (s : State) (p : Plan) (e : StackEntry) : (s.takeEntryOf p e).mrk.inForce = s.mrk.inForce :=
  endRamp_inForce _

theorem renewLease_inForce (s : State) (p : Plan) (col : Nat) : (s.renewLease p col).mrk.inForce = s.mrk.inForce := endRamp_inForce _

theorem startConnect_inForce (s : State) : s.startConnect.mrk.inForce = s.mrk.inForce := by
  rw [State.startConnect, requestOutput_mrk]
  rfl

theorem noColumn_inForce (s : State) (p : Plan) (e : StackEntry) : (s.noColumn p e).mrk.inForce = s.mrk.inForce := by
  unfold State.noColumn
  split
  · rfl
  · extract_lets taken
    have kept : taken.mrk.inForce = s.mrk.inForce := takeEntryOf_inForce s p e
    split
    · rw [stopAuto_stays.parts .mrk (by decide), kept]
    · rw [stopOutput_mrk, kept]

theorem applyStack_inForce (s : State) (p : Plan) (e : StackEntry) : (s.applyStack p e).mrk.inForce = s.mrk.inForce := by
  unfold State.applyStack
  extract_lets shown clk lulled other taken
  have shows : lulled.mrk = s.mrk := by
    unfold lulled
    split <;> rfl
  have kept : taken.mrk.inForce = s.mrk.inForce := by
    rw [renewLease_inForce, takeEntryOf_inForce, shows]
  split
  · rw [noColumn_inForce, shows]
  split
  · rw [shows]
  split
  · rw [startConnect_inForce, kept]
  split
  · exact kept
  · exact kept

/-- A stack applies the plan: it is in force, with its times and its number (R133, R135). -/
theorem planApply_inForce {p : Plan} (stack : s.kind = .stack) : (s.planApply p).mrk.inForce = (p, none, p.applyTime, p.leaseMs) ∧
    (s.planApply p).rd F.MRK_PLAN_NO = p.planNo % 2 ^ 32 := by
  unfold State.planApply
  extract_lets mrk taken numbered
  have same : numbered.kind = .stack := stack
  rw [same]
  refine ⟨applyStack_inForce numbered p _, ?_⟩
  rw [applyStack_stays.rd, State.rd_wr]
  rfl

/-! ### A solve and its plan (R123, R124, R132) -/

/-- The plan committed, the plan held for its TACK instant, and the solve under way. -/
def Mrk.plans (m : Mrk) : Plan × Option Plan × Option Nat := (m.committed, m.plan, m.solving)

theorem Mrk.plans_ahead (m : Mrk) (ahead : List (List StackEntry × List OutletEntry)) :
    ({ m with ahead := ahead } : Mrk).plans = m.plans := rfl

/-- What is committed is the unit's own plan too, and the solve is over (R123). -/
theorem commitPlan_plans (s : State) (p : Plan) : (s.commitPlan p).mrk.plans = (p, some p, none) := by
  unfold State.commitPlan
  extract_lets t0 old kept mrk shown sent
  have marks {xs : List RoleDecl} : (xs.foldl (fun (s : State) r => (s.wrb (F.MRK_STACK_STATE_PIN_ERR r.rowCol) (s.pinErr r)).wrb
      (F.MRK_STACK_STATE_LULL r.rowCol) (s.roleAsleep r)) sent).mrk = sent.mrk :=
    List.foldlRecOn xs _ (motive := fun u : State => u.mrk = sent.mrk) rfl fun _ same _ _ => same
  rw [marks]
  have sends : sent.mrk = shown.mrk := ringSend_levels.parts .mrk (by decide)
  rw [sends, showCommitted_stays.parts .mrk (by decide)]
  rfl

/-- The eight steps of a target: the first is the plan (R123). -/
theorem commitTarget_plans (s : State) (t0 : Nat) (w : Plan.Snap) (target : Plan.Target) : ∃ p, p.planNo = t0 / 10000000 + 1 ∧
    p.applyTime = t0 + 10000000 ∧ (s.commitTarget t0 w target).mrk.plans = (p, some p, none) := by
  have eight : Plan.steps target 8 w (t0 + 10000000) = w.step target ::
    Plan.steps target 7 (w.after (w.step target) (t0 + 10000000)) (t0 + 10000000 + 10000000) := rfl
  unfold State.commitTarget
  rw [eight]
  refine ⟨_, ?_, ?_, (Mrk.plans_ahead _ _).trans (commitPlan_plans s _)⟩
  · rfl
  · rfl

theorem takeDuty_plans (s : State) (d : Duty) : (s.takeDuty d).mrk.plans = s.mrk.plans := by
  unfold State.takeDuty
  extract_lets old mrk noted refilled w had shown
  have refills : Stays [.que] (reachLevels 4) noted refilled := refillHolders_stays
  have shows : Stays [] [.cell F.PAIR_IDENT_WITNESS, .cell F.PAIR_STATUS_UNWITNESSED] refilled shown := .ite .refl (Stays.wr .refl).wrb
  have asks {c : Prop} {_ : Decidable c} : Stays [.pair, .trg] [] shown (if c then shown.requestVote false 1 else shown) :=
    .ite requestVote_stays .refl
  rw [asks.parts .mrk (by decide), shows.parts .mrk (by decide), refills.parts .mrk (by decide)]
  rfl

theorem sendDuties_plans (s : State) (t0 : Nat) (d : Duty) : (s.sendDuties t0 d).mrk.plans = s.mrk.plans := by
  unfold State.sendDuties
  extract_lets due shown mrk
  have shows : shown.mrk = s.mrk := showDuties_stays.parts .mrk (by decide)
  split
  · rw [shows]
  · rw [takeDuty_plans, ringSend_levels.parts .mrk (by decide)]
    change shown.mrk.plans = s.mrk.plans
    rw [shows]

theorem sendWake_plans (s : State) (t0 : Nat) (r : RoleDecl) : (s.sendWake t0 r).mrk.plans = s.mrk.plans := by
  refine List.foldlRecOn _ _ (motive := fun u : State => u.mrk.plans = s.mrk.plans) rfl fun u same a _ => ?_
  split
  · exact same
  · rw [ringSend_levels.parts .mrk (by decide)]
    exact same

theorem sendLull_plans (s : State) (r : RoleDecl) : (s.sendLull r).mrk.plans = s.mrk.plans := by
  unfold State.sendLull
  extract_lets mrk placed
  split
  · refine List.foldlRecOn _ _ (motive := fun u : State => u.mrk.plans = s.mrk.plans) rfl fun u same a _ => ?_
    rw [ringSend_levels.parts .mrk (by decide)]
    exact same
  · rfl

/-- Duties, Lull and wakes leave the plans as they are. -/
theorem placeWork_plans (s : State) (t0 : Nat) (w : Plan.Snap) (target : Plan.Target) (updating : List Nat) :
    (s.placeWork t0 w target updating).mrk.plans = s.mrk.plans := by
  unfold State.placeWork
  extract_lets chosen duties lulled wake
  refine List.foldlRecOn _ _ (motive := fun u : State => u.mrk.plans = s.mrk.plans) ?_
    fun u same r _ => (sendWake_plans u t0 r).trans same
  exact List.foldlRecOn _ _ (motive := fun u : State => u.mrk.plans = s.mrk.plans) (sendDuties_plans s t0 _)
    fun u same r _ => (sendLull_plans u r).trans same

theorem solveOf_some {t0 : Nat} (site : s.kind = .site) (active : s.active = true) (awake : s.inLull = false)
    (solving : s.mrk.solving = some t0) : s.solveOf = some (t0, s.mrk.snap) := by
  unfold State.solveOf
  rw [if_neg (by simp [site, active, awake]), solving]
  rfl

/-- A target that is committed with its duties, Lull and wakes (R123). -/
theorem commitTarget_placeWork (s : State) (t0 : Nat) (w : Plan.Snap) (target : Plan.Target) (updating : List Nat) :
    ∃ p, p.planNo = t0 / 10000000 + 1 ∧ p.applyTime = t0 + 10000000 ∧
      ((s.commitTarget t0 w target).placeWork t0 w target updating).mrk.plans = (p, some p, none) ∧
      Stays partsDuty (reachCommitPlan ++ reachWork) s ((s.commitTarget t0 w target).placeWork t0 w target updating) := by
  obtain ⟨p, number, time, commits⟩ := commitTarget_plans s t0 w target
  exact ⟨p, number, time, (placeWork_plans _ _ _ _ _).trans commits, (Stays.refl.run commitTarget_stays).run placeWork_stays⟩

/-- The solve ran to its end (R123). -/
theorem solve_commits {t0 : Nat} {updating : List Nat} (solves : s.solveOf = some (t0, s.mrk.snap)) :
    ∃ p, p.planNo = t0 / 10000000 + 1 ∧ p.applyTime = t0 + 10000000 ∧ (s.solve updating).mrk.plans = (p, some p, none) ∧
    (s.solve updating).rdb F.MRK_STATUS_SUBOPTIMAL = false := by
  unfold State.solve
  rw [solves]
  obtain ⟨p, number, time, plans, stays⟩ := commitTarget_placeWork (s.wrb F.MRK_STATUS_SUBOPTIMAL false) t0 s.mrk.snap
    (s.mrk.snap.choose s.mrk.snap.targets) updating
  exact ⟨p, number, time, plans, by rw [stays.rdb, State.rdb_wrb _ _ _ (by decide)]⟩

/-- The deadline without a feasible target: the cycle is counted, and the fall-back committed (R124). -/
theorem solveDeadline_fallsBack {t0 : Nat} {updating : List Nat} (solves : s.solveOf = some (t0, s.mrk.snap)) :
    ∃ p, p.planNo = t0 / 10000000 + 1 ∧ p.applyTime = t0 + 10000000 ∧
      (s.solveDeadline none updating).mrk.plans = (p, some p, none) ∧
      (s.solveDeadline none updating).rd F.MRK_OVERRUNS = min (s.rd F.MRK_OVERRUNS + 1) (2 ^ 32 - 1) := by
  unfold State.solveDeadline
  rw [solves]
  dsimp only [Option.filter_none]
  generalize State.fallBack _ _ = fall
  obtain ⟨first, later⟩ := fall
  refine ⟨_, ?_, ?_, (placeWork_plans _ _ _ _ _).trans ((Mrk.plans_ahead _ _).trans (commitPlan_plans _ _)), ?_⟩
  · rfl
  · rfl
  rw [placeWork_stays.rd, commitPlan_stays.setMrk.rd, State.rd_wrb_ne _ (by decide), State.rd_inc]
  rfl

/-- The deadline with a best feasible target: it is committed as SUBOPTIMAL, and the cycle counted (R124). -/
theorem solveDeadline_commits {t0 : Nat} {best updating : List Nat} (solves : s.solveOf = some (t0, s.mrk.snap))
    (feasible : s.mrk.snap.targets.contains best = true) : ∃ p, p.planNo = t0 / 10000000 + 1 ∧ p.applyTime = t0 + 10000000 ∧
      (s.solveDeadline (some best) updating).mrk.plans = (p, some p, none) ∧
      (s.solveDeadline (some best) updating).rdb F.MRK_STATUS_SUBOPTIMAL = true ∧
      (s.solveDeadline (some best) updating).rd F.MRK_OVERRUNS = min (s.rd F.MRK_OVERRUNS + 1) (2 ^ 32 - 1) := by
  unfold State.solveDeadline
  rw [solves]
  dsimp only
  rw [Option.filter_some_pos feasible]
  obtain ⟨p, number, time, plans, stays⟩ := commitTarget_placeWork ((s.inc F.MRK_OVERRUNS).wrb F.MRK_STATUS_SUBOPTIMAL true) t0
    s.mrk.snap best updating
  refine ⟨p, number, time, plans, by rw [stays.rdb, State.rdb_wrb _ _ _ (by decide)], ?_⟩
  rw [stays.rd, State.rd_wrb_ne _ (by decide), State.rd_inc]
  rfl

/-! ### Reports and quarantine at the site pair (R119 to R121, R143) -/

theorem quarantine_keeps (s : State) (row col : Nat) : (s.quarantine row col).mrk.stackRep = s.mrk.stackRep ∧
    (s.quarantine row col).rdb (F.MRK_STACK_STATE_AVAILABLE row) = s.rdb (F.MRK_STACK_STATE_AVAILABLE row) := by
  unfold State.quarantine
  split
  · exact ⟨rfl, rfl⟩
  · refine ⟨rfl, State.rdb_wrb_ne _ ?_ true⟩
    simp [Field.key, F.MRK_STACK_STATE_AVAILABLE, F.MRK_STACK_STATE_QUARANTINE]

theorem storeReport_stores (s : State) (time : Nat) (r : StackStatus) (old : Option (Nat × StackStatus)) :
    SMap.get (fun _ => none) (s.storeReport time r old).mrk.stackRep r.row = some (time, r) ∧
      (s.storeReport time r old).rdb (F.MRK_STACK_STATE_AVAILABLE r.row) = r.available := by
  unfold State.storeReport
  extract_lets no units mrk interval d mrk'
  refine ⟨?_, State.rdb_wrb _ _ _ (by simp [F.MRK_STACK_STATE_AVAILABLE])⟩
  exact SMap.get_set_same (fun _ => none) r.row (some (time, r)) interval.mrk.stackRep

/-- The report of a stack is stored, and its AVAILABLE shown (R119). -/
theorem stackReport_stores {time : Nat} {r : StackStatus} (listens : s.siteListens = true) (low : 1 ≤ r.row) (high : r.row ≤ 32) :
    SMap.get (fun _ => none) (s.stackReport time r).mrk.stackRep r.row = some (time, r) ∧
      (s.stackReport time r).rdb (F.MRK_STACK_STATE_AVAILABLE r.row) = r.available := by
  unfold State.stackReport
  rw [if_neg (by simp [listens, Nat.not_lt.mpr high]; omega)]
  extract_lets old was stored tried failed ends mrk noted
  have stores : SMap.get (fun _ => none) noted.mrk.stackRep r.row = some (time, r) ∧
    noted.rdb (F.MRK_STACK_STATE_AVAILABLE r.row) = r.available := storeReport_stores s time r old
  clear_value noted failed tried
  cases tried with
  | none => exact stores
  | some e =>
    dsimp only
    split
    · obtain ⟨reports, available⟩ := quarantine_keeps noted r.row e.col
      rw [reports, available]
      exact stores
    · exact stores

theorem outletReport_stores {time : Nat} {r : OutletStatus} (listens : s.siteListens = true) (low : 1 ≤ r.col) (high : r.col ≤ 16) :
    SMap.get (fun _ => none) (s.outletReport time r).mrk.outletRep r.col = some (time, r) ∧ (s.outletReport time r).live = s.live := by
  unfold State.outletReport
  rw [if_neg (by simp [listens, Nat.not_lt.mpr high]; omega)]
  refine ⟨?_, rfl⟩
  exact SMap.get_set_same (fun _ => none) r.col (some (time, r)) s.mrk.outletRep

theorem endQuarantine_clears {row col : Nat} (low : 1 ≤ row) (high : row ≤ 32)
    (last : (s.mrk.quarantine.filter (· != (row, col))).any (·.1 == row) = false) : s.endQuarantine row col =
      ({ s with mrk.quarantine := s.mrk.quarantine.filter (· != (row, col)) } : State).wrb (F.MRK_STACK_STATE_QUARANTINE row) false :=
  if_neg (by simp [last, Nat.not_lt.mpr high]; omega)

/-! ### Curtailment and the commands of MRK_CTRL (R117, R130, R150, R162) -/

/-- A unit that takes the Marker's commands: a site unit only where it is active (R117). -/
theorem takes_commands (takes : s.kind ≠ .site ∨ s.active = true) : (s.kind == .site && !s.active) = false := by
  rcases takes with other | active
  · simp [other]
  · simp [active]

theorem curtailWrite_accepts {side v : Nat} (awake : s.inLull = false) (takes : s.kind ≠ .site ∨ s.active = true)
    (small : v ≤ 0xFFFFFF) :
    s.curtailWrite side v = (s.accepted side).curtail v := by
  unfold State.curtailWrite
  rw [if_neg (by simp [State.lullBlocks, awake]), if_neg (Nat.not_lt.mpr small), if_neg (by simp [takes_commands takes])]

/-- A curtailment and its hold start (R150). -/
theorem curtail_starts {v : Nat} (s : State) (small : v ≤ 0xFFFFFF) : (s.curtail v).rd F.MRK_CURTAIL_KW = v ∧
    (s.curtail v).mrk.curtailAt = s.now ∧ (v ≠ noCurtail → (s.curtail v).curtailLeft = s.rd F.MRK_CURTAIL_HOLD_HOLD) := by
  have shows {u : State} : Stays [.pair] reachCaps u u.showCaps.sendPlanning := (Stays.refl.run showCaps_stays).run sendPlanning_stays
  have start : (s.curtail v).mrk.curtailAt = s.now := congrArg Mrk.curtailAt (shows.parts .mrk (by decide))
  have value : (s.curtail v).rd F.MRK_CURTAIL_KW = v := by
    rw [State.curtail, shows.rd]
    exact (State.rd_wr s F.MRK_CURTAIL_KW v).trans (Nat.mod_eq_of_lt (Nat.lt_succ_of_le small))
  have clock : (s.curtail v).now = s.now := curtail_stays.rd64
  refine ⟨value, start, fun curtails => ?_⟩
  unfold State.curtailLeft
  rw [value, start, clock, if_neg (by simpa [noCurtail] using curtails), curtail_stays.rd, Nat.sub_self]
  simp [secondsLeft]

theorem curtailLapse_ends (holds : s.rd F.MRK_CURTAIL_HOLD_HOLD ≠ 0) : s.curtailLapse.rd F.MRK_CURTAIL_KW = noCurtail ∧
    s.curtailLapse.curtailLeft = 0 := by
  have lapses : s.curtailLapse = (s.wr F.MRK_CURTAIL_KW noCurtail).showCaps.sendPlanning := if_neg (by simpa using holds)
  have value : s.curtailLapse.rd F.MRK_CURTAIL_KW = noCurtail := by
    rw [lapses, sendPlanning_stays.rd, showCaps_stays.rd, State.rd_wr]
    rfl
  exact ⟨value, if_pos (by simp [value, noCurtail])⟩

/-- A command of MRK_CTRL runs on the state with its access recorded (R117). -/
theorem mrkCommand_accepts (awake : s.inLull = false) (takes : s.kind ≠ .site ∨ s.active = true) (side : Nat) (f : State → State) :
    ∃ hbi, s.mrkCommand side 0x2B6E f = f { s with hbi := hbi } := by
  unfold State.mrkCommand
  obtain ⟨hbi, accepts⟩ := command_accepts awake side mrkCtrlAddr 0x2B6E
    fun s => if s.kind == .site && !s.active then s.accessError side eState mrkCtrlAddr else f s
  have free : (({ s with hbi := hbi } : State).kind == .site && !({ s with hbi := hbi } : State).active) = false := takes_commands takes
  exact ⟨hbi, by rw [accepts, if_neg (by simp [free])]⟩

/-- Settles O21: by what each command of the Marker leaves. -/
theorem markerCycle : Obligations.MarkerCycle := by
  refine ⟨fun time s site active awake none_ => answers_of_eq rfl rfl ?_, fun time p s stack awake held due => ?_,
    fun t0 updating s site active awake solving => answers_of_eq rfl rfl ?_,
    fun t0 updating s site active awake solving => answers_of_eq rfl rfl ?_,
    fun t0 best updating s site active awake solving feasible => answers_of_eq rfl rfl ?_,
    fun time r s listens low high => answers_of_eq rfl rfl (stackReport_stores listens low high),
    fun time row curve s listens low high => answers_of_eq rfl rfl (if_neg (by simp [listens, Nat.not_lt.mpr high]; omega)),
    fun time r s listens low high => answers_of_eq rfl rfl (outletReport_stores listens low high),
    fun row col s low high last => answers_of_eq rfl (endQuarantine_clears low high last)
      ⟨rfl, State.rdb_wrb _ _ _ (by simp [F.MRK_STACK_STATE_QUARANTINE])⟩,
    fun side value s awake takes small => answers_of_eq rfl (curtailWrite_accepts awake takes small) ?_,
    fun s holds => answers_of_eq rfl rfl (curtailLapse_ends holds),
    fun side s awake takes => ?_, fun side s awake takes => ?_, fun side s awake takes => ?_⟩
  case refine_1 =>
    obtain ⟨u, kind, state, unplanned, -⟩ := markerApply_applies s time
    have cycle : s.markerCycle time = u.takeSnapshot time := by rw [State.markerCycle, if_neg (by simp [awake]), unplanned none_]
    rw [cycle]
    exact takeSnapshot_starts (kind.trans site) (state.trans active)
  case refine_2 =>
    obtain ⟨u, kind, -, -, applies⟩ := markerApply_applies s time
    have stack : u.kind = .stack := kind.trans stack
    have still : (u.planApply p).kind = .stack := planApply_stays.kind.trans stack
    have cycle : s.markerCycle time = u.planApply p := by
      rw [State.markerCycle, if_neg (by simp [awake]), applies p held due]
      exact if_pos (by simp [still])
    obtain ⟨inForce, number⟩ := planApply_inForce (p := p) stack
    obtain ⟨applied, latched, applyTime, leaseMs⟩ := by simpa [Mrk.inForce] using inForce
    exact answers_of_eq rfl cycle ⟨applied, latched, applyTime, leaseMs, number⟩
  case refine_3 =>
    obtain ⟨p, number, time, plans, optimal⟩ := solve_commits (updating := updating) (solveOf_some site active awake solving)
    obtain ⟨committed, plan, ended⟩ := by simpa [Mrk.plans] using plans
    rw [committed]
    exact ⟨number, time, plan, ended, optimal⟩
  case refine_4 =>
    obtain ⟨p, number, time, plans, counted⟩ := solveDeadline_fallsBack (updating := updating) (solveOf_some site active awake solving)
    obtain ⟨committed, -, ended⟩ := by simpa [Mrk.plans] using plans
    rw [committed]
    exact ⟨number, time, ended, counted⟩
  case refine_5 =>
    obtain ⟨p, number, -, plans, suboptimal, counted⟩ := solveDeadline_commits (updating := updating)
      (solveOf_some site active awake solving) feasible
    obtain ⟨committed, -, ended⟩ := by simpa [Mrk.plans] using plans
    rw [committed]
    exact ⟨number, ended, suboptimal, counted⟩
  case refine_6 =>
    obtain ⟨value_, start, left⟩ := curtail_starts (s.accepted side) small
    have clock : (s.accepted side).now = s.now := accepted_stays.rd64
    exact ⟨value_, start.trans clock, fun curtails => (left curtails).trans accepted_stays.rd⟩
  case refine_7 =>
    obtain ⟨hbi, accepts⟩ := mrkCommand_accepts awake takes side fun s => s.freeze true
    exact answers_of_eq rfl accepts ⟨State.rdb_wrb _ _ _ (by decide), rfl⟩
  case refine_8 =>
    obtain ⟨hbi, accepts⟩ := mrkCommand_accepts awake takes side fun s => s.freeze false
    exact answers_of_eq rfl accepts ⟨State.rdb_wrb _ _ _ (by decide), rfl⟩
  case refine_9 =>
    obtain ⟨hbi, accepts⟩ := mrkCommand_accepts awake takes side fun s => s.replan
    exact answers_of_eq rfl accepts ⟨rfl, rfl⟩

end Sys2Proof.Machine

namespace Sys2Proof.Machine
open Sys2Proof
-- Proofs in sequence, as above: waiting threads' stacks take memory.
set_option Elab.async false
variable {ps qs : List Part} {rs os : List Reach} {o s t : State}

/-! ### What a loop and a compensator channel hold after a write -/

@[simp] theorem State.lp_setLp (s : State) (m : Nat) (x : LoopSt) : (s.setLp m x).lp m = x := SMap.get_set_same _ m x _

@[simp] theorem State.rc_setRc (s : State) (e : Nat) (x : RcSt) : (s.setRc e x).rc e = x := SMap.get_set_same _ e x _

/-! ### What the registers of a compensator channel show (R216 to R219) -/

/-- A bit that is set or cleared leaves the bits below it. -/
theorem bit_setBit_below (v : Nat) (b : Bool) {i j : Nat} (below : j < i) : bit (setBit v i b) j = bit v j := by
  unfold setBit
  split
  next => rfl
  next other =>
    simp only [bit_eq_testBit] at other ⊢
    cases b
    case true => simp [Nat.add_comm v, Nat.testBit_two_pow_add_gt below]
    case false =>
      have parts : v = 2 ^ i + (v - 2 ^ i) := (Nat.add_sub_cancel' (Nat.ge_two_pow_of_testBit (by simpa using other))).symm
      conv_rhs => rw [parts]
      simp [Nat.testBit_two_pow_add_gt below]

theorem rcFreeze_period (s : State) (m e : Nat) : bit (s.rcFreeze m e % 2 ^ 8) 5 = (s.rc e).freezePeriod := by
  rw [bit_eq_testBit, Nat.testBit_mod_two_pow, ← bit_eq_testBit]
  simp only [State.rcFreeze, List.range, List.range.loop, List.foldl]
  rw [bit_setBit_below _ _ (by decide), bit_setBit_below _ _ (by decide), bit_setBit]
  rfl

/-- What a channel's registers show of it. -/
structure RcShown (e : Nat) (x : RcSt) (t : State) : Prop where
  rc : t.rc e = x
  locked : t.rdb (F.SHT_RC_STATUS_LOCKED e) = x.locked
  fading : t.rdb (F.SHT_RC_STATUS_FADING e) = (x.fade != 0 && x.fade != fadeOne)
  frozen : bit (t.rd (F.SHT_RC_STATUS_FREEZE e)) 5 = x.freezePeriod
  period : t.rd (F.SHT_RC_PERIOD_NOW e) = min x.period (2 ^ 32 - 1)

theorem showRc_shows (s : State) (e : Fin 32) : RcShown e (s.rc e) (s.showRc e) where
  rc := rfl
  locked := by
    unfold State.showRc State.wrsat
    simp (disch := (revert e; decide)) only [State.rdb_wr_ne, State.rdb_wrb_ne]
    exact State.rdb_wrb _ _ _ Nat.one_pos
  fading := by
    unfold State.showRc State.wrsat
    simp (disch := (revert e; decide)) only [State.rdb_wr_ne]
    exact State.rdb_wrb _ _ _ Nat.one_pos
  frozen := by
    unfold State.showRc State.wrsat
    simp (disch := (revert e; decide)) only [State.rd_wr_ne, State.rd_wrb_ne, State.rd_wr]
    exact rcFreeze_period _ _ _
  period := State.rd_wrsat _ _ _

/-! ### Requests and stops (R210, R212, R213) -/

variable {m : Nat} {d : LoopDecl}

theorem requestMode_asks {target : Nat} (mode : target ≠ mOff) (works : s.rdb (F.SHT_LOOP_MODE_HO_FAIL m) = false)
    (declared : (mapOf d target).isSome = true) (runs : (s.lp m).stop = none) (free : s.nextMode m = 0) (byHost : Bool) :
    s.requestMode m d target byHost = s.setLp m { s.lp m with req := some target, byHost := byHost, retry := none } := by
  simp [State.requestMode, mode, works, Option.isSome_iff_ne_none.mp declared, runs, free]

theorem modeRequest_requests {side req : Nat} (declares : s.loopDecl m = some d) (declared : req ≠ 0 → (mapOf d req).isSome = true)
    (works : req ≠ 0 → s.rdb (F.SHT_LOOP_MODE_HO_FAIL m) = false) : s.modeRequest side m req = s.requestMode m d req true := by
  unfold State.modeRequest
  rw [declares]
  dsimp only
  by_cases off : req = 0
  · simp [off]
  · rw [if_neg (by simp [Option.isSome_iff_ne_none.mp (declared off)]), if_neg (by simp [works off])]

theorem modeRequest_refuses {side req : Nat} (declares : s.loopDecl m = some d) (mode : req ≠ 0)
    (undeclared : (mapOf d req).isNone = true) :
    s.modeRequest side m req = s.accessError side eCommand (modeReqAddr m) := by
  unfold State.modeRequest
  rw [declares]
  exact if_pos (by simp [mode, undeclared])

theorem startStop_stops (on : s.nowMode m ≠ mOff) (runs : (s.lp m).stop = none) :
    ((s.startStop m d).lp m).stop.isSome = true ∧ (s.startStop m d).rdb (F.SHT_LOOP_MODE_STOPPING m) = true ∧
      ((s.startStop m d).lp m).req = none := by
  unfold State.startStop
  rw [if_neg (by simpa using on), if_neg (by simp [runs])]
  have held (u : State) (x : LoopSt) (f : Field) (b : Bool) : ((u.setLp m x).wrb f b).lp m = x := State.lp_setLp u m x
  exact ⟨by rw [held]; rfl, State.rdb_wrb _ _ _ Nat.one_pos, by rw [held]⟩

theorem handoverRetry_asks {time target : Nat} (declares : s.loopDecl m = some d) (waits : (s.lp m).retry = some target)
    (over_ : (s.lp m).retryIn = 0) (host : (s.lp m).byHost = true) :
    s.handoverRetry m time = s.setLp m { s.lp m with retry := none, req := some target } := by
  unfold State.handoverRetry
  rw [declares, waits]
  simp [over_, host]

theorem stopRampEnd_ends {time b : Nat} {st : StopSt} (stops : (s.lp m).stop = some st) (ramps : st.began = some b)
    (passed : b + s.rd (F.SHT_LOOP_STOP_TIME m) * 100000 ≤ time) :
    s.stopRampEnd m time = s.setLp m { s.lp m with stop := some { st with ended := true } } := by
  unfold State.stopRampEnd
  rw [stops]
  exact if_pos (by simp [ramps, passed])

/-! ### Compensator channels (R216 to R219) -/

theorem unlock_unlocks (x : RcSt) : x.unlock.locked = false ∧ x.unlock.falling = (x.fade != 0) ∧ x.unlock.t0 = x.t0 ∧
    x.unlock.phi0 = x.phi0 ∧ x.unlock.period = x.period := by
  unfold RcSt.unlock
  dsimp only
  split
  next still => simp [beq_iff_eq.mp still]
  next faded => exact ⟨rfl, by simpa [RcSt.fadeOver] using faded, rfl, rfl, rfl⟩

/-- A channel keeps the phase at its last event; its period is the estimate (R216). -/
structure Estimated (est : Nat) (x y : RcSt) : Prop where
  t0 : y.t0 = x.t0
  phi0 : y.phi0 = x.phi0
  period : y.period = est

theorem Estimated.unlock {est : Nat} {x y : RcSt} (h : Estimated est x y) : Estimated est x y.unlock := by
  obtain ⟨-, -, t0, phi0, period⟩ := unlock_unlocks y
  exact ⟨t0.trans h.t0, phi0.trans h.phi0, period.trans h.period⟩

theorem Estimated.lock {est : Nat} {x y : RcSt} (h : Estimated est x y) : Estimated est x y.lock := by
  unfold RcSt.lock
  split
  · exact ⟨h.t0, h.phi0, h.period⟩
  · exact ⟨h.t0, h.phi0, h.period⟩

theorem Estimated.rate {est : Nat} {x y : RcSt} (h : Estimated est x y) : Estimated est x y.rate := by
  unfold RcSt.rate
  split
  · exact ⟨h.t0, h.phi0, h.period⟩
  · exact h

theorem rcEstimate_estimates (s : State) (e : Fin 32) (est need lo hi t : Nat) (ok : Bool) :
    ∃ x, Estimated est (s.rc e) x ∧ RcShown e x (s.rcEstimate e est need ok lo hi t) := by
  have shown (x : RcSt) : RcShown e x ((s.setRc e x).showRc e) := by
    have shows := showRc_shows (s.setRc e x) e
    rwa [State.rc_setRc] at shows
  unfold State.rcEstimate
  extract_lets x lim diff near inRange n ranged left freeze kept next
  obtain ⟨-, -, t0, phi0, -⟩ := unlock_unlocks ranged
  refine ⟨next, ?_, shown next⟩
  unfold next
  split
  · exact ⟨t0, phi0, rfl⟩
  · split
    · exact ⟨t0, phi0, rfl⟩
    · have kept_ : Estimated est x kept := ⟨rfl, rfl, rfl⟩
      refine Estimated.rate ?_
      split
      · exact kept_.lock
      · exact kept_

theorem rcSpectral_estimates {e : Fin 32} {adc est phase time : Nat} {tenthsDb : Int} (enabled : s.rdb (F.SHT_RC_CFG_ENABLE e) = true)
    (spectral : s.rcSource e = 2) (source : s.rd (F.SHT_RC_SRC_SPEC_ADC e) = adc) (small : phase < 2 ^ 32) :
    ∃ x, x.t0 = time ∧ x.phi0 = phase ∧ x.period = est ∧ RcShown e x (s.rcSpectral e adc est tenthsDb phase time) := by
  unfold State.rcSpectral
  rw [if_neg (by simp [enabled, spectral, source])]
  extract_lets hi before placed estimates
  obtain ⟨x, ⟨t0, phi0, period⟩, shown⟩ := rcEstimate_estimates placed e est 3
    (1000 * min hi (s.rd (F.SHT_RC_BAND_P_MIN e))) (1000 * hi) time (120 ≤ tenthsDb)
  have set_ : placed.rc e = _ := State.rc_setRc s e _
  rw [set_] at t0 phi0
  have phase_ : x.phi0 = phase := phi0.trans (Nat.mod_eq_of_lt small)
  split
  · obtain ⟨-, -, t0', phi0', period'⟩ := unlock_unlocks x
    have held : estimates.rc e = x := shown.rc
    have again := showRc_shows (estimates.setRc e x.unlock) e
    rw [State.rc_setRc] at again
    rw [held]
    exact ⟨x.unlock, t0'.trans t0, phi0'.trans phase_, period'.trans period, again⟩
  · exact ⟨x, t0, phase_, period, shown⟩

theorem rcTimeout_unlocks {e : Fin 32} {time : Nat} (edges : s.rcSource e < 2) (locked : (s.rc e).locked = true)
    (late : (s.rc e).lastEdge.getD 0 + 2000 * (s.rc e).period ≤ time) : RcShown e (s.rc e).unlock (s.rcTimeout e time) := by
  unfold State.rcTimeout
  rw [if_neg (by simp [locked, Nat.not_le.mpr edges, Nat.not_lt.mpr late])]
  simpa using showRc_shows (s.setRc e (s.rc e).unlock) e

theorem rcFadeEnd_ends {e : Fin 32} (rises : (s.rc e).rising = true) (full : (s.rc e).fade = fadeOne) :
    RcShown e { s.rc e with rising := false, falling := false, accSum := 0, accCount := 0 } (s.rcFadeEnd e) := by
  unfold State.rcFadeEnd
  rw [if_pos (by simp [rises, full])]
  simpa using showRc_shows (s.setRc e { s.rc e with rising := false, falling := false, accSum := 0, accCount := 0 }) e

theorem rcThaw_thaws {e : Fin 32} {time : Nat} (frozen : (s.rc e).freezePeriod = true) (over_ : (s.rc e).freezeEnd ≤ time) :
    RcShown e { s.rc e with freezePeriod := false } (s.rcThaw e time) := by
  unfold State.rcThaw
  rw [if_neg (by simp [frozen, Nat.not_lt.mpr over_])]
  simpa using showRc_shows (s.setRc e { s.rc e with freezePeriod := false }) e

/-- Settles O25: by what each command leaves of its loop or channel. -/
theorem modesAndCompensators : Obligations.ModesAndCompensators := by
  refine ⟨fun side m req d s declares awake mode declared works runs free => ?_,
    fun side m req d s declares awake mode undeclared => ?_, fun side m d s declares awake on runs => ?_,
    fun m time target d s declares waits over_ host =>
      answers_of_eq rfl (handoverRetry_asks declares waits over_ host) ⟨by simp, by simp, rfl⟩,
    fun m time b st s stops ramps passed => answers_of_eq rfl (stopRampEnd_ends stops ramps passed) ⟨by simp, rfl⟩,
    fun side m s awake => answers_of_eq rfl (if_neg (by simp [lullBlocks_awake awake]))
      ⟨State.rdb_wrb _ _ _ Nat.one_pos, accepted_refused s side⟩,
    fun e time s edges locked late => ?_, fun e adc period tenthsDb phase time s enabled spectral source => ?_,
    fun e s rises full => ?_, fun e time s frozen over_ => ?_,
    fun side e s awake => answers_of_eq rfl (if_neg (by simp [lullBlocks_awake awake])) ⟨?_, accepted_refused s side⟩⟩
  case refine_1 =>
    have named : req.toNat ≠ 0 := fun zero => mode (BitVec.eq_of_toNat_eq zero)
    obtain ⟨hbi, accepts⟩ := command_accepts awake side (modeReqAddr m) 0x4D0E fun s => s.modeRequest side m req.toNat
    have asks : ({ s with hbi := hbi } : State).modeRequest side m req.toNat = _ :=
      (modeRequest_requests (s := { s with hbi := hbi }) declares (fun _ => declared) (fun _ => works)).trans
        (requestMode_asks (s := { s with hbi := hbi }) named works declared runs free true)
    exact answers_of_eq rfl (accepts.trans asks) ⟨by simp, by simp, by simp⟩
  case refine_2 =>
    have named : req.toNat ≠ 0 := fun zero => mode (BitVec.eq_of_toNat_eq zero)
    obtain ⟨hbi, accepts⟩ := command_accepts awake side (modeReqAddr m) 0x4D0E fun s => s.modeRequest side m req.toNat
    have refuses := modeRequest_refuses (s := { s with hbi := hbi }) (side := side) declares named undeclared
    exact answers_of_eq rfl (accepts.trans refuses)
      ⟨(accessError_refused _ _ _ _ _).refused, (accessError_frame _ _ _ _ _).parts .sht (by decide)⟩
  case refine_3 =>
    obtain ⟨hbi, accepts⟩ := command_accepts awake side (modeReqAddr m) 0x4D0E fun s => s.modeRequest side m 0
    have requests := modeRequest_requests (s := { s with hbi := hbi }) (side := side) declares (absurd rfl) (absurd rfl)
    exact answers_of_eq rfl (accepts.trans requests) (startStop_stops on runs)
  case refine_4 =>
    have shown := rcTimeout_unlocks edges locked late
    obtain ⟨unlocked, falls, -⟩ := unlock_unlocks (s.rc e)
    exact ⟨_, rfl, by rw [shown.rc, unlocked], by rw [shown.rc, falls], shown.locked.trans unlocked⟩
  case refine_5 =>
    obtain ⟨x, t0, phi0, period_, shown⟩ := rcSpectral_estimates enabled spectral source phase.isLt
    exact ⟨_, rfl, by rw [shown.rc, t0], by rw [shown.rc, phi0], by rw [shown.rc, period_], by rw [shown.period, period_]⟩
  case refine_6 =>
    have shown := rcFadeEnd_ends rises full
    exact ⟨_, rfl, by rw [shown.rc], by rw [shown.rc], shown.fading.trans (by simp [full])⟩
  case refine_7 =>
    have shown := rcThaw_thaws frozen over_
    exact ⟨_, rfl, by rw [shown.rc], shown.frozen⟩
  case refine_8 => simp

end Sys2Proof.Machine

namespace Sys2Proof.Machine
open Sys2Proof
-- Proofs in sequence, as above: waiting threads' stacks take memory.
set_option Elab.async false
variable {ps qs : List Part} {rs os : List Reach} {o s t : State}

/-! ### Steps of a commit: what they leave of the registers, of a loop's record and of the stack's output -/

/-- From `o` to `s` everything outside a frame stays, and within the Shuttle's part the figures `π` of loop `m` and the stack's output. -/
structure LoopStep {α : Type} (ps : List Part) (rs : List Reach) (π : LoopSt → α) (m : Nat) (o s : State) : Prop where
  stays : Stays ps rs o s
  loop : π (s.lp m) = π (o.lp m)
  vOut : s.sht.vOut = o.sht.vOut
  iOut : s.sht.iOut = o.sht.iOut

section
variable {α β : Type} {π : LoopSt → α} {m : Nat}

theorem LoopStep.refl : LoopStep ps rs π m s s := ⟨.refl, rfl, rfl, rfl⟩

theorem LoopStep.trans (h : LoopStep ps rs π m o s) (k : LoopStep ps rs π m s t) : LoopStep ps rs π m o t :=
  ⟨h.stays.trans k.stays, k.loop.trans h.loop, k.vOut.trans h.vOut, k.iOut.trans h.iOut⟩

/-- A step within narrower lists. -/
theorem LoopStep.widen (h : LoopStep qs os π m s t) (hp : ∀ p ∈ qs, p ∈ ps := by decide) (hr : covers rs os = true := by decide) :
    LoopStep ps rs π m s t :=
  ⟨Stays.refl.covered h.stays hp hr, h.loop, h.vOut, h.iOut⟩

/-- A step keeps less than it is known to keep. -/
theorem LoopStep.map (h : LoopStep ps rs π m s t) (φ : α → β) : LoopStep ps rs (fun x => φ (π x)) m s t :=
  ⟨h.stays, congrArg φ h.loop, h.vOut, h.iOut⟩

theorem LoopStep.thru (h : LoopStep ps rs π m o s) (k : LoopStep ps rs π m o s → LoopStep ps rs π m o t) : LoopStep ps rs π m o t := k h

theorem LoopStep.ite {c : Prop} {_ : Decidable c} (h : LoopStep ps rs π m o s) (k : LoopStep ps rs π m o t) :
    LoopStep ps rs π m o (if c then s else t) := by
  split
  · exact h
  · exact k

theorem LoopStep.foldl {ι : Type} {f : State → ι → State} {xs : List ι} (h : LoopStep ps rs π m o s)
    (k : ∀ {t x}, x ∈ xs → LoopStep ps rs π m o t → LoopStep ps rs π m o (f t x)) : LoopStep ps rs π m o (xs.foldl f s) := by
  induction xs generalizing s with
  | nil => exact h
  | cons x xs ih => exact ih (k (List.mem_cons_self ..) h) fun hx => k (List.mem_cons_of_mem _ hx)

theorem LoopStep.wr (h : LoopStep ps rs π m o s) {f v} (hf : Holds rs f := by rfl) : LoopStep ps rs π m o (s.wr f v) :=
  ⟨h.stays.wr hf, h.loop, h.vOut, h.iOut⟩

theorem LoopStep.wrb (h : LoopStep ps rs π m o s) {f b} (hf : Holds rs f := by rfl) : LoopStep ps rs π m o (s.wrb f b) := h.wr hf

theorem LoopStep.wrsat (h : LoopStep ps rs π m o s) {f v} (hf : Holds rs f := by rfl) : LoopStep ps rs π m o (s.wrsat f v) := h.wr hf

theorem LoopStep.inc (h : LoopStep ps rs π m o s) {f n} (hf : Holds rs f := by rfl) : LoopStep ps rs π m o (s.inc f n) := h.wr hf

/-- An operation with a frame of its own that leaves the Shuttle's part. -/
theorem LoopStep.run (h : LoopStep ps rs π m o s) (k : Stays qs os s t) (hp : ∀ p ∈ qs, p ∈ ps := by decide)
    (hr : covers rs os = true := by decide) (apart : Part.sht ∉ qs := by decide) : LoopStep ps rs π m o t :=
  have same : t.sht = s.sht := k.parts .sht apart
  ⟨h.stays.covered k hp hr, by rw [State.lp, same]; exact h.loop, by rw [same]; exact h.vOut, by rw [same]; exact h.iOut⟩

/-- A loop's record that agrees with the first one in what is kept of it. -/
theorem LoopStep.putLp (h : LoopStep ps rs π m o s) {x : LoopSt} (hx : π x = π (o.lp m)) (hp : Part.sht ∈ ps := by decide) :
    LoopStep ps rs π m o (s.setLp m x) :=
  ⟨h.stays.setSht hp, by rw [State.lp_setLp, hx], h.vOut, h.iOut⟩

theorem LoopStep.setLp (h : LoopStep ps rs π m o s) {x : LoopSt} (hx : π x = π (s.lp m) := by rfl) (hp : Part.sht ∈ ps := by decide) :
    LoopStep ps rs π m o (s.setLp m x) :=
  h.putLp (hx.trans h.loop) hp

theorem LoopStep.setWord (h : LoopStep ps rs π m o s) {w v} (words : ∀ x st, π { x with state := st } = π x := by intros; rfl)
    (hp : Part.sht ∈ ps := by decide) : LoopStep ps rs π m o (s.setWord m w v) :=
  h.setLp (words _ _) hp

theorem LoopStep.setWords (h : LoopStep ps rs π m o s) {w vs} (words : ∀ x st, π { x with state := st } = π x := by intros; rfl)
    (hp : Part.sht ∈ ps := by decide) : LoopStep ps rs π m o (s.setWords m w vs) :=
  h.foldl fun _ h => h.setWord words hp

theorem LoopStep.setComp (h : LoopStep ps rs π m o s) {w v} (points : ∀ x p, π { x with comp := p } = π x := by intros; rfl)
    (hp : Part.sht ∈ ps := by decide) : LoopStep ps rs π m o (s.setComp m w v) :=
  h.setLp (points _ _) hp

theorem LoopStep.setRc (h : LoopStep ps rs π m o s) {e x} (hp : Part.sht ∈ ps := by decide) : LoopStep ps rs π m o (s.setRc e x) :=
  ⟨h.stays.setSht hp, h.loop, h.vOut, h.iOut⟩

theorem LoopStep.countSat (h : LoopStep ps rs π m o s) {k n} (hp : Part.sht ∈ ps := by decide) : LoopStep ps rs π m o (s.countSat k n) :=
  ⟨h.stays.setSht hp, h.loop, h.vOut, h.iOut⟩

end

/-! ### What every step of a commit but the sequencer leaves of a loop -/

/-- What of a loop the sequencer and the last steps of a commit alone change: the miss that waits, a stop, a restart, the commit's time. -/
def LoopSt.standing (x : LoopSt) : Option MissSt × Option StopSt × Option Nat × Nat := (x.miss, x.stop, x.restart, x.commitAt)

theorem standing_ite {c : Prop} {_ : Decidable c} {x y z : LoopSt} (hx : x.standing = z.standing) (hy : y.standing = z.standing) :
    (if c then x else y).standing = z.standing := by
  split
  · exact hx
  · exact hy

/-- The parts that a commit changes. -/
def partsSample : List Part := [.hbi, .que, .pat, .gd, .sht, .trg, .saf]

/-- Compare values of the half-bridges that the COMMIT list may name (R180, R184); those past the twelve name cells of the ADCs. -/
def reachCompares : List Reach :=
  [.family (F.PWM_HB_CMP_ON_CMP_ON 0), .family (F.PWM_HB_CMP_OFF_CMP_OFF 0), .family (F.PWM_ADC_RESULT 0), .family (F.PWM_ADC_DEFER 0)]

/-- Registers that a commit changes beside the compare values, the sequencer's and the counts of hits and misses. -/
def reachAround : List Reach :=
  reachFollow ++ reachBoundary ++
  ([.family (F.SHT_LANE_STATUS_SLACK 0), .family (F.SHT_LOOP_STATUS_HOLD_OFF 0), .family (F.SHT_LOOP_MODE_EXPORT_DENIED 0),
    .family (F.SHT_LOOP_STATUS_BLEND 0), .family (F.SHT_LOOP_STATUS_BW_NOW 0), .family (F.SHT_LOOP_STATUS_REGION 0),
    .family (F.SHT_LOOP_CTRL_BW 0), .family (F.SHT_LOOP_LATE 0), .family (F.SHT_RC_PERIOD_NOW 0), .family (F.SHT_RC_PHASE 0),
    .family (F.SHT_RC_STATUS_FADING 0), .family (F.SHT_RC_STATUS_FREEZE 0), .family (F.SHT_RC_STATUS_LEARNING 0),
    .family (F.SHT_RC_STATUS_LOCKED 0), .family (F.PWM_HB_COUNT_POSITION 0), .family (F.PWM_HB_STATUS_OUT 0),
    .cell (F.QUE_Q_DEPTH_LEVEL 15), .cell (F.QUE_Q_HWM 15), .cell (F.QUE_Q_LOST 15)] : List Reach)

/-- A step of a commit that leaves the mode, the counts and what stands of the loop. -/
abbrev Around (m : Nat) : State → State → Prop := LoopStep partsSample reachAround LoopSt.standing m

/-- Registers of a loop that every step but the sequencer changes. -/
structure HoldsLoop (rs : List Reach) (m : Nat) : Prop where
  holdOff : Holds rs (F.SHT_LOOP_STATUS_HOLD_OFF m)
  denied : Holds rs (F.SHT_LOOP_MODE_EXPORT_DENIED m)
  blend : Holds rs (F.SHT_LOOP_STATUS_BLEND m)
  bwNow : Holds rs (F.SHT_LOOP_STATUS_BW_NOW m)
  region : Holds rs (F.SHT_LOOP_STATUS_REGION m)
  late : Holds rs (F.SHT_LOOP_LATE m)
  bw : Holds rs (F.SHT_LOOP_CTRL_BW m)

theorem reachAround_loop (m : Fin 8) : HoldsLoop reachAround m :=
  ⟨by revert m; decide, by revert m; decide, by revert m; decide, by revert m; decide, by revert m; decide, by revert m; decide,
    by revert m; decide⟩

theorem reachAround_lane (k : Fin 8) : Holds reachAround (F.SHT_LANE_STATUS_SLACK k) := by
  revert k
  decide

theorem reachAround_bridge (h : Fin 12) : Holds reachAround (F.PWM_HB_COUNT_POSITION h) ∧ Holds reachAround (F.PWM_HB_STATUS_OUT h) := by
  revert h
  decide

/-- Registers of a compensator channel. -/
structure HoldsRc (rs : List Reach) (e : Nat) : Prop where
  period : Holds rs (F.SHT_RC_PERIOD_NOW e)
  phase : Holds rs (F.SHT_RC_PHASE e)
  fading : Holds rs (F.SHT_RC_STATUS_FADING e)
  freeze : Holds rs (F.SHT_RC_STATUS_FREEZE e)
  learning : Holds rs (F.SHT_RC_STATUS_LEARNING e)
  locked : Holds rs (F.SHT_RC_STATUS_LOCKED e)

theorem reachAround_channel (e : Fin 32) : HoldsRc reachAround e :=
  ⟨by revert e; decide, by revert e; decide, by revert e; decide, by revert e; decide, by revert e; decide, by revert e; decide⟩

theorem reachCompares_bridge (h : Fin 16) : Holds reachCompares (F.PWM_HB_CMP_ON_CMP_ON h) ∧
    Holds reachCompares (F.PWM_HB_CMP_OFF_CMP_OFF h) := by
  revert h
  decide

theorem lt_of_mem_bitsBelow {v n i : Nat} (hi : i ∈ bitsBelow v n) : i < n := List.mem_range.mp (List.mem_filter.mp hi).1

section
variable {m : Fin 8}

/-! ### Before the COMMIT list, and the list -/

theorem LoopStep.showSlack (h : Around m o s) {d t} : Around m o (s.showSlack m d t) :=
  h.setLp.foldl fun hk h => h.wrsat (reachAround_lane ⟨_, lt_of_mem_bitsBelow hk⟩)

theorem LoopStep.plausible (h : Around m o s) {devs} : Around m o (s.plausible m devs) :=
  h.foldl fun _ h => .ite h.setLp h.setLp

theorem LoopStep.backgroundStep (h : Around m o s) {d due} : Around m o (s.backgroundStep m d due) := h.setLp

/-- A step of the COMMIT list. -/
abbrev Commits (m : Nat) : State → State → Prop := LoopStep [.sht] reachCompares LoopSt.standing m

theorem LoopStep.commitEntry (h : Commits m o s) {d out bg corr e} : Commits m o (s.commitEntry m d out bg corr e) := by
  obtain ⟨on, off⟩ := reachCompares_bridge ⟨e.target / 2 % 16, Nat.mod_lt _ (by decide)⟩
  have put (src : Nat) (corr : List Rat) : Commits m o (match e.kind with
      | 0 =>
        let h := e.target / 2 % 16
        let v := commitCompare e src (s.hb h).period corr
        if e.target % 2 == 0 then s.wr (F.PWM_HB_CMP_ON_CMP_ON h) v else s.wr (F.PWM_HB_CMP_OFF_CMP_OFF h) v
      | 1 => s.setWord m e.target (commitWord e src corr)
      | _ => s.setComp m (s.word m e.target) (commitWord e src corr)) := by
    split
    · exact .ite (h.wr on) (h.wr off)
    · exact h.setWord
    · exact h.setComp
  unfold State.commitEntry
  refine .ite h ?_
  dsimp only
  split
  · exact put _ corr
  · split
    · exact put _ []
    · exact h

theorem LoopStep.commitAll (h : Commits m o s) {d out bg corr} : Commits m o (s.commitAll m d out bg corr) :=
  h.foldl fun _ h => h.commitEntry

/-! ### The sequencer's own requests -/

theorem autoTarget_isMode {target t : Nat} (h : s.autoTarget m t = some target) : target ≠ mOff := by
  rintro rfl
  unfold State.autoTarget at h
  revert h
  dsimp only
  repeat' split
  all_goals simp [mOff]

theorem LoopStep.requestMode (h : Around m o s) {d target byHost} (mode : target ≠ mOff) :
    Around m o (s.requestMode m d target byHost) := by
  unfold State.requestMode
  rw [if_neg (by simpa using mode)]
  exact .ite h (.ite h.setLp h.setLp)

theorem LoopStep.confirmTarget (h : Around m o s) {d t} : Around m o (s.confirmTarget m d t) := by
  unfold State.confirmTarget
  dsimp only
  split
  · exact h.setLp
  next target asks => exact h.setLp.thru fun h => .ite (h.requestMode (autoTarget_isMode asks)) h

theorem LoopStep.autoRequest (h : Around m o s) {d t} : Around m o (s.autoRequest m d t) :=
  (LoopStep.ite (h.wrb (reachAround_loop m).denied) h).setLp.thru fun h =>
    .ite h (.ite h.confirmTarget (.ite (h.requestMode (by decide)) h))

/-! ### References, compensators, gain schedule -/

theorem LoopStep.writeRefs (h : Around m o s) {d t} : Around m o (s.writeRefs m d t) :=
  .ite h ((LoopStep.ite h h.setWords).thru fun h => .ite h h.setWords)

theorem LoopStep.showRc (h : Around m o s) {e} (he : e < 32) : Around m o (s.showRc e) :=
  have its := reachAround_channel ⟨e, he⟩
  ((((h.wrb its.locked).wr its.freeze).wrb its.learning).wrb its.fading).wrsat its.period

theorem LoopStep.rcEstimate (h : Around m o s) {e est need ok lo hi t} (he : e < 32) : Around m o (s.rcEstimate e est need ok lo hi t) :=
  h.setRc.showRc he

theorem LoopStep.rcWord (h : Around m o s) {e t} (he : e < 32) : Around m o (s.rcWord m e t) := by
  unfold State.rcWord
  exact h.setRc.thru fun h => by dsimp only; split; exacts [.ite (h.rcEstimate he) h, h]

theorem LoopStep.learn (h : Around m o s) {c e k kPrev mean} : Around m o (s.learn m c e k kPrev mean) := h.foldl fun _ h => h.setComp

theorem LoopStep.rcCommit (h : Around m o s) {c t d} (hc : c < 4) : Around m o (s.rcCommit m c t d) :=
  have he : 4 * m.val + c < 32 := by omega
  (LoopStep.ite h h.setLp.setRc).thru fun h => .ite (.ite (h.setRc.showRc he) h) ((LoopStep.ite h h.setRc).thru fun h =>
    (LoopStep.ite (h.rcWord he) h).setRc.thru fun h => ((LoopStep.ite h ((LoopStep.ite h.learn h).setRc)).setWord.wr
      (reachAround_channel ⟨_, he⟩).phase).showRc he)

theorem LoopStep.rcAll (h : Around m o s) {t d} : Around m o (s.rcAll m t d) :=
  (h.foldl fun _ h => .ite h h.setWord).foldl fun hc h => h.rcCommit (List.mem_range.mp hc)

theorem LoopStep.schedule (h : Around m o s) {d} : Around m o (s.schedule m d) :=
  have its := reachAround_loop m
  h.setLp.thru fun h => .ite (h.wr its.blend) (((h.setLp (by
    rw [State.lp_setLp]
    exact standing_ite (standing_ite rfl rfl) rfl)).wr its.region).wr its.blend)

/-! ### Bracket, generators, trace, boundary -/

theorem LoopStep.setBw (h : Around m o s) {d bw} : Around m o (s.setBw m d bw) := h.wr (reachAround_loop m).bwNow

theorem LoopStep.newWindow (h : Around m o s) : Around m o (s.newWindow m) := h.setLp

theorem LoopStep.reviewBw (h : Around m o s) {d} : Around m o (s.reviewBw m d) :=
  .ite h ((LoopStep.ite h (.ite h.setBw (.ite h.setBw h))).newWindow)

/-- A live value of BW taken from the tack buffer, with the live writes that still wait (R70, R185). -/
theorem LoopStep.takeLive (h : Around m o s) {v x} :
    Around m o { s with live := SMap.set resetCell (F.SHT_LOOP_CTRL_BW m).key v s.live, hbi := x } := by
  refine h.trans ⟨⟨rfl, fun p hp => ?_, fun k hk => ?_⟩, rfl, rfl, rfl⟩
  · cases p
    case hbi => exact absurd (by decide) hp
    all_goals rfl
  · exact SMap.get_set_ne _ (fun same => by rw [same, (reachAround_loop m).bw] at hk; cases hk) _ _

theorem LoopStep.takeBw (h : Around m o s) {d} : Around m o (s.takeBw m d) := .ite h h.takeLive.setBw.newWindow

theorem LoopStep.genCommand (h : Around m o s) {b pos} (hb : b < 12) : Around m o (s.genCommand b pos) :=
  .ite h (((h.run (Stays.refl.setGd (ps := [.gd]) (rs := []))).wrb (reachAround_bridge ⟨b, hb⟩).2).run (follow_frame hb))

theorem LoopStep.setHb (h : Around m o s) {b x} : Around m o (s.setHb b x) := h.run (Stays.refl.setGd (ps := [.gd]) (rs := []))

theorem LoopStep.generators (h : Around m o s) {d pos} : Around m o (s.generators m d pos) :=
  h.foldl fun hi h => by
    have hb := lt_of_mem_bitsBelow (v := d.hbMask) (n := 12) (List.getElem_mem (List.mem_range.mp hi))
    rw [← List.getD_eq_getElem _ 0] at hb
    exact (h.wr (reachAround_bridge ⟨_, hb⟩).1).thru fun h => .ite h.setHb (.ite h.setHb ((h.setHb.genCommand hb).thru fun h =>
      .ite (h.inc (reachAround_loop m).late) h))

theorem LoopStep.placeTrace (h : Around m o s) {e} : Around m o (s.placeTrace e) := by
  have put (q : Que) : Stays [.que] [.cell (F.QUE_Q_DEPTH_LEVEL 15), .cell (F.QUE_Q_HWM 15), .cell (F.QUE_Q_LOST 15),
    .cell F.QUE_STATUS_NONEMPTY, .cell F.QUE_STATUS_FULL] s { s with que := q } := Stays.refl.setQue
  exact .ite (h.run (put _).queLevel) (h.run (put _).inc)

theorem LoopStep.traceCommit (h : Around m o s) {d hit late dev t} : Around m o (s.traceCommit m d hit late dev t) :=
  h.setLp.foldl fun _ h => .ite h.placeTrace h

theorem LoopStep.loopBoundary (h : Around m o s) {d} : Around m o (s.loopBoundary m d) :=
  (h.run (boundary_frame s (loopParts d))).thru fun h => (LoopStep.ite h.setBw.newWindow h).thru fun h =>
    .ite h (h.foldl fun hb h => .ite h (h.run (hold_frame (lt_of_mem_bitsBelow hb))))

end

/-! ### The sequencer (R210 to R214) -/

/-- The parts that the sequencer changes. -/
def partsSequence : List Part := [.que, .gd, .sht, .trg]

/-- Registers that the sequencer changes. -/
def reachSequence : List Reach :=
  reachOff ++ reachEvent ++ reachFollow ++
  ([.family (F.SHT_LOOP_MODE_STEP 0), .family (F.SHT_LOOP_HO_COUNT_ABANDONED 0), .family (F.SHT_LOOP_HO_COUNT_DONE 0),
    .family (F.SHT_LOOP_MODE_HO_FAIL 0), .family (F.SHT_LOOP_RESIDUAL 0)] : List Reach)

/-- A step of the sequencer, which leaves a miss that waits. -/
abbrev Sequences (m : Nat) : State → State → Prop := LoopStep partsSequence reachSequence LoopSt.miss m

/-- Registers of a loop that the sequencer changes. -/
structure HoldsMode (rs : List Reach) (m : Nat) : Prop where
  now : Holds rs (F.SHT_LOOP_MODE_NOW m)
  next : Holds rs (F.SHT_LOOP_MODE_NEXT m)
  stopping : Holds rs (F.SHT_LOOP_MODE_STOPPING m)
  step : Holds rs (F.SHT_LOOP_MODE_STEP m)
  abandoned : Holds rs (F.SHT_LOOP_HO_COUNT_ABANDONED m)
  done : Holds rs (F.SHT_LOOP_HO_COUNT_DONE m)
  fails : Holds rs (F.SHT_LOOP_MODE_HO_FAIL m)
  residual : Holds rs (F.SHT_LOOP_RESIDUAL m)

theorem reachSequence_loop (m : Fin 8) : HoldsMode reachSequence m :=
  ⟨by revert m; decide, by revert m; decide, by revert m; decide, by revert m; decide, by revert m; decide, by revert m; decide,
    by revert m; decide, by revert m; decide⟩

section
variable {m : Fin 8}

theorem LoopStep.enterOff (h : Sequences m o s) {d} : Sequences m o (s.enterOff m d) :=
  have its := reachSequence_loop m
  ((((h.setWords.setWord).wr its.now).wr its.next).wrb its.stopping).setLp

theorem LoopStep.startStop (h : Sequences m o s) {d} : Sequences m o (s.startStop m d) :=
  have its := reachSequence_loop m
  .ite (h.setLp.wr its.next) (.ite h (((LoopStep.ite h (h.wr its.next)).putLp (by exact h.loop)).wrb its.stopping))

theorem LoopStep.asksMode (h : Sequences m o s) {d target byHost} : Sequences m o (s.requestMode m d target byHost) :=
  .ite h.startStop (.ite h (.ite h.setLp h.setLp))

theorem LoopStep.beginHandover (h : Sequences m o s) {next} : Sequences m o (s.beginHandover m next) :=
  have its := reachSequence_loop m
  (h.setLp.wr its.next).wr its.step

theorem miss_ite {c : Prop} {_ : Decidable c} {x y z : LoopSt} (hx : x.miss = z.miss) (hy : y.miss = z.miss) :
    (if c then x else y).miss = z.miss := by
  split
  · exact hx
  · exact hy

theorem LoopStep.afterHandover (h : Sequences m o s) : Sequences m o (s.afterHandover m) := by
  refine LoopStep.wr (h.setLp ?_) (reachSequence_loop m).next
  dsimp only
  split
  · exact miss_ite (miss_ite rfl rfl) (miss_ite rfl rfl)
  · exact miss_ite rfl rfl

theorem LoopStep.enterMode (h : Sequences m o s) {d next r} : Sequences m o (s.enterMode m d next r) :=
  ((h.setWord.setWords).wr (reachSequence_loop m).now).setLp.thru fun h =>
    .ite (h.foldl fun hb h => h.run (release_frame (lt_of_mem_bitsBelow hb))) h

theorem LoopStep.abandon (h : Sequences m o s) {d next} : Sequences m o (s.abandon m d next) := by
  have its := reachSequence_loop m
  have queued {u : State} (h : Sequences m o u) : Sequences m o (match (u.lp m).queued with
      | some (r, b) => u.setLp m { u.lp m with req := some r, byHost := b, queued := none, retry := none }
      | none => u) := by
    split
    · exact h.setLp
    · exact h
  exact (queued (((h.wr its.next).inc its.abandoned).setLp.run (event_frame _ _ _))).thru fun h =>
    .ite h (((h.wrb its.fails).run (event_frame _ _ _)).setLp.startStop)

theorem LoopStep.backCalc (h : Sequences m o s) {d z} : Sequences m o (s.backCalc m d z) := by
  have its := reachSequence_loop m
  unfold State.backCalc
  dsimp only
  split
  · exact h.wr its.next
  · exact (h.setWords.wr its.residual).thru fun h => .ite h.abandon h.enterMode

theorem LoopStep.blendStep (h : Sequences m o s) {d} : Sequences m o (s.blendStep m d) :=
  have its := reachSequence_loop m
  (h.setWords.wr its.step).setLp.thru fun h => .ite (h.inc its.done).afterHandover h

theorem LoopStep.cancelHandover (h : Sequences m o s) {d} : Sequences m o (s.cancelHandover m d) := h.setWords.setLp.afterHandover

theorem LoopStep.stopStep (h : Sequences m o s) {d st t} : Sequences m o (s.stopStep m d st t) :=
  .ite (.ite h.setLp.beginHandover h) (.ite h.enterOff h.setLp)

theorem LoopStep.requestStep (h : Sequences m o s) {d} : Sequences m o (s.requestStep m d) := by
  unfold State.requestStep
  split
  · exact h
  · refine .ite h.setLp ?_
    split
    · exact h
    · exact .ite h.setLp (.ite h.beginHandover h)

theorem LoopStep.restartStep (h : Sequences m o s) {d mode} : Sequences m o (s.restartStep m d mode) :=
  h.enterOff.thru fun h => .ite h h.setLp.asksMode

theorem LoopStep.handoverStep (h : Sequences m o s) {d z} : Sequences m o (s.handoverStep m d z) :=
  .ite h (.ite h.cancelHandover (.ite h.blendStep h.backCalc))

theorem LoopStep.sequence (h : Sequences m o s) {d z t} : Sequences m o (s.sequence m d z t) := by
  unfold State.sequence
  dsimp only
  split
  · exact h.setLp.restartStep
  · split
    · exact .ite h.setLp.handoverStep h.setLp.handoverStep.stopStep
    · exact .ite h.setLp.handoverStep h.setLp.handoverStep.requestStep

theorem stopStep_entersOff {d : LoopDecl} {t : Nat} {st : StopSt} (ended : st.ended = true) (voltage : s.nowMode m ≠ mOutVoltage)
    (power : s.nowMode m ≠ mOutPower) : s.stopStep m d st t = s.enterOff m d := by
  unfold State.stopStep
  rw [if_neg (by simp [voltage, power]), if_pos (by simp [ended])]

theorem handoverStep_idle {d : LoopDecl} {z : List Nat} (free : s.nextMode m = 0) : s.handoverStep m d z = s := if_pos (by simp [free])

/-- A stop whose ramp has ended takes the loop to OFF at the commit, unless it must first hand over (R213). -/
theorem sequence_entersOff {d : LoopDecl} {z : List Nat} {t : Nat} {st : StopSt} (stops : (s.lp m).stop = some st) (ended : st.ended = true)
    (runs : (s.lp m).restart = none) (free : s.nextMode m = 0) (voltage : s.nowMode m ≠ mOutVoltage) (power : s.nowMode m ≠ mOutPower) :
    s.sequence m d z t = (s.setLp m { s.lp m with retryIn := (s.lp m).retryIn - 1 }).enterOff m d := by
  unfold State.sequence
  extract_lets before u x waits busy after
  have held : x = { s.lp m with retryIn := (s.lp m).retryIn - 1 } := State.lp_setLp _ _ _
  have still : u.nextMode m = 0 := free
  have idle : after = u := handoverStep_idle still
  have stop : (after.lp m).stop = some st := by rw [idle]; exact (congrArg LoopSt.stop held).trans stops
  rw [show (if u.nowMode m == mOff then none else x.restart) = none by simp [held, runs]]
  dsimp only
  rw [stop]
  dsimp only
  rw [if_neg (by simp [waits, still]), idle]
  exact stopStep_entersOff ended voltage power

theorem State.rd_setLp (s : State) (n : Nat) (x : LoopSt) (f : Field) : (s.setLp n x).rd f = s.rd f := rfl

theorem now_apart (m : Fin 8) : (F.SHT_LOOP_MODE_NOW m).key ≠ (F.SHT_LOOP_MODE_STOPPING m).key ∧
    (F.SHT_LOOP_MODE_NOW m).key ≠ (F.SHT_LOOP_MODE_NEXT m).key := by
  revert m
  decide

theorem enterOff_off (s : State) (d : LoopDecl) : (s.enterOff m d).nowMode m = mOff ∧ ((s.enterOff m d).lp m).stop = none ∧
    (s.enterOff m d).rdb (F.SHT_LOOP_MODE_STOPPING m) = false := by
  unfold State.enterOff
  refine ⟨?_, by rw [State.lp_setLp], State.rdb_wrb _ _ _ Nat.one_pos⟩
  unfold State.nowMode
  rw [State.rd_setLp, State.rd_wrb_ne _ (now_apart m).1, State.rd_wr_ne _ (now_apart m).2, State.rd_wr]
  rfl

end

/-! ### The commit of a sample in stages (R184, R186, R187) -/

/-- The commit up to its COMMIT list: SLACK, BACKGROUND, plausibility, HOLD_OFF. -/
def State.opened (s : State) (m : Nat) (d : LoopDecl) (c : Commit) (t : Nat) : State :=
  let s := s.showSlack m d t
  let s := if s.backgroundDue m d then
      s.countSat ((bitsBelow d.lanes 8).headD 0)
        ((s.backgroundLane m d c.drawn c.adcs).sats - (s.predictLane m d c.drawn c.adcs).sats) else s
  let s := s.plausible m c.devs
  s.wrb (F.SHT_LOOP_STATUS_HOLD_OFF m) (s.gatedOff d)

/-- The commit up to the end of its COMMIT list. -/
def State.listed (s : State) (m : Nat) (d : LoopDecl) (c : Commit) (t : Nat) : State :=
  (s.opened m d c t).commitAll m d c.out ((s.showSlack m d t).background m d c.drawn c.adcs) c.corr

/-- BACKGROUND's samples go on; the sample no longer waits as a miss. -/
def State.cleared (s : State) (m : Nat) (d : LoopDecl) (due : Bool) : State :=
  let s := s.backgroundStep m d due
  s.setLp m { s.lp m with nonfinite := false, miss := none }

/-- What follows the sequencer: references, compensators, gain schedule. -/
def State.scheduled (s : State) (m : Nat) (d : LoopDecl) (t : Nat) : State := ((s.writeRefs m d t).rcAll m t d).schedule m d

/-- What follows the counts: BW, generators, LATE. -/
def State.generated (s : State) (m : Nat) (d : LoopDecl) (c : Commit) (pos : List Nat) : State :=
  ((s.takeBw m d).generators m d pos).inc (F.SHT_LOOP_LATE m) c.late

/-- The end of the commit: trace, time, the boundary of an anchor sample. -/
def State.recorded (s : State) (m : Nat) (d : LoopDecl) (c : Commit) (t : Nat) : State :=
  let s := s.traceCommit m d c.hit (c.late != 0) (c.devs.getD 0 0) t
  let s := s.setLp m { s.lp m with commitAt := t }
  if c.anchor then s.loopBoundary m d else s

/-- The commit up to the sequencer. -/
def State.prepared (s : State) (m : Nat) (d : LoopDecl) (c : Commit) (t : Nat) : State :=
  ((s.listed m d c t).cleared m d ((s.showSlack m d t).backgroundDue m d)).autoRequest m d t

/-- The commit from the sequencer's end on. -/
def State.finished (s : State) (m : Nat) (d : LoopDecl) (c : Commit) (pos : List Nat) (t : Nat) : State :=
  ((((s.scheduled m d t).countSample m d c.hit.isSome c.outside (c.devs.getD 0 0)).generated m d c pos).takeShadow m d).recorded m d c t

theorem commitSample_eq (s : State) (m : Nat) (d : LoopDecl) (c : Commit) (pos zero : List Nat) (t : Nat) :
    s.commitSample m d c pos zero t = ((s.prepared m d c t).sequence m d zero t).finished m d c pos t := rfl

section
variable {m : Fin 8} {d : LoopDecl} {c : Commit}

theorem LoopStep.opened (h : Around m o s) {t} : Around m o (s.opened m d c t) :=
  h.showSlack.thru fun h => (LoopStep.ite h.countSat h).plausible.wrb (reachAround_loop m).holdOff

theorem LoopStep.scheduled (h : Around m o s) {t} : Around m o (s.scheduled m d t) := h.writeRefs.rcAll.schedule

theorem LoopStep.generated (h : Around m o s) {pos} : Around m o (s.generated m d c pos) :=
  h.takeBw.generators.inc (reachAround_loop m).late

/-! ### The shadow words, and the counts of hits and misses -/

/-- Registers of a loop that the shadow words of the active unit change (R413). -/
def reachShadow : List Reach := [.family (F.SHT_LOOP_MODE_NOW 0), .family (F.SHT_LOOP_MODE_NEXT 0)]

theorem reachShadow_loop (m : Fin 8) : Holds reachShadow (F.SHT_LOOP_MODE_NOW m) ∧ Holds reachShadow (F.SHT_LOOP_MODE_NEXT m) := by
  revert m
  decide

theorem LoopStep.setPair {α : Type} {π : LoopSt → α} {n : Nat} (h : LoopStep ps rs π n o s) {x} (hp : Part.pair ∈ ps := by decide) :
    LoopStep ps rs π n o { s with pair := x } :=
  ⟨h.stays.setPair hp, h.loop, h.vOut, h.iOut⟩

theorem takeShadow_step (s : State) : LoopStep [.pair, .sht] reachShadow LoopSt.miss m s (s.takeShadow m d) := by
  obtain ⟨now, next⟩ := reachShadow_loop m
  exact .ite .refl ((LoopStep.refl.setPair.foldl fun _ h => h.setWord).thru fun h => .ite h ((h.wr now).thru fun h =>
    .ite (h.wr next) (.ite h.setLp (h.wr next).setLp)))

theorem takeShadow_none (noWords : s.pair.shadowWait = []) : LoopStep [.pair, .sht] [] LoopSt.standing m s (s.takeShadow m d) := by
  unfold State.takeShadow
  refine .ite .refl ?_
  simp only [noWords, List.filter_nil, List.foldl_nil, beq_self_eq_true, Bool.true_or, if_true]
  exact LoopStep.refl.setPair

/-- The counts of a loop's hits and misses (R187). -/
def reachCounts : List Reach := [.family (F.SHT_LOOP_HITS 0), .family (F.SHT_LOOP_MISSES 0)]

theorem reachCounts_loop (m : Fin 8) : Holds reachCounts (F.SHT_LOOP_HITS m) ∧ Holds reachCounts (F.SHT_LOOP_MISSES m) ∧
    (F.SHT_LOOP_HITS m).key ≠ (F.SHT_LOOP_MISSES m).key := by
  revert m
  decide

/-- A sample is counted as a hit or as a miss. -/
structure Counted (m : Nat) (hit : Bool) (s t : State) : Prop where
  hits : t.rd (F.SHT_LOOP_HITS m) = if hit then min (s.rd (F.SHT_LOOP_HITS m) + 1) (2 ^ 32 - 1) else s.rd (F.SHT_LOOP_HITS m)
  misses : t.rd (F.SHT_LOOP_MISSES m) = if hit then s.rd (F.SHT_LOOP_MISSES m) else min (s.rd (F.SHT_LOOP_MISSES m) + 1) (2 ^ 32 - 1)

theorem reachAround_counts (m : Fin 8) : reachAround.any (Reach.has (F.SHT_LOOP_HITS m).key) = false ∧
    reachAround.any (Reach.has (F.SHT_LOOP_MISSES m).key) = false := by
  revert m
  decide

/-- What a commit changes beside the compare values and the counts. -/
def reachWhole : List Reach := reachAround ++ reachSequence

/-- The parts that a commit and the shadow words of the active unit change. -/
def partsWhole : List Part := .pair :: partsSample

theorem reachWhole_counts (m : Fin 8) : (reachWhole ++ reachCompares).any (Reach.has (F.SHT_LOOP_HITS m).key) = false ∧
    (reachWhole ++ reachCompares).any (Reach.has (F.SHT_LOOP_MISSES m).key) = false := by
  revert m
  decide

theorem countSample_step (s : State) {hit outside dev} :
    LoopStep partsSample (reachAround ++ reachCounts) LoopSt.standing m s (s.countSample m d hit outside dev) :=
  have ⟨hits, misses, _⟩ := reachCounts_loop m
  have within {f : Field} (hf : Holds reachCounts f) : Holds (reachAround ++ reachCounts) f := by simp [Holds, hf]
  (LoopStep.reviewBw (LoopStep.refl (s := s))).widen.thru fun h =>
    (LoopStep.ite (h.inc (within hits)) (h.inc (within misses))).setLp

theorem count_counts (s : State) (hit : Bool) :
    Counted m hit s (if hit then s.inc (F.SHT_LOOP_HITS m) else s.inc (F.SHT_LOOP_MISSES m)) := by
  obtain ⟨-, -, apart⟩ := reachCounts_loop m
  cases hit
  case true => exact ⟨State.rd_inc _ _ _, State.rd_inc_ne _ apart.symm _⟩
  case false => exact ⟨State.rd_inc_ne _ apart _, State.rd_inc _ _ _⟩

/-- Steps that leave the counts, before and after a count. -/
theorem Counted.within {hit : Bool} {u v : State} (h : Counted m hit s t) (before : Stays ps rs u s) (after : Stays ps rs t v)
    (hits : rs.any (Reach.has (F.SHT_LOOP_HITS m).key) = false) (misses : rs.any (Reach.has (F.SHT_LOOP_MISSES m).key) = false) :
    Counted m hit u v :=
  ⟨by rw [after.rd hits, h.hits, before.rd hits], by rw [after.rd misses, h.misses, before.rd misses]⟩

theorem countSample_counts (s : State) {hit outside dev} : Counted m hit s (s.countSample m d hit outside dev) :=
  have ⟨hits, misses⟩ := reachAround_counts m
  have reviewed : Around m s (s.reviewBw m d) := LoopStep.refl.reviewBw
  (count_counts _ hit).within reviewed.stays Stays.refl.setSht hits misses

/-! ### What a commit leaves -/

/-- What of a loop the sequencer alone changes: a stop, a restart. -/
def LoopSt.stops (x : LoopSt) : Option StopSt × Option Nat := (x.stop, x.restart)

/-- What of a loop the end of a commit leaves. -/
def LoopSt.waits (x : LoopSt) : Option MissSt × Option StopSt × Option Nat := (x.miss, x.stop, x.restart)

theorem LoopStep.stops (h : LoopStep ps rs LoopSt.standing m s t) : LoopStep ps rs LoopSt.stops m s t := h.map fun x => (x.2.1, x.2.2.1)

theorem LoopStep.waits (h : LoopStep ps rs LoopSt.standing m s t) : LoopStep ps rs LoopSt.waits m s t :=
  h.map fun x => (x.1, x.2.1, x.2.2.1)

theorem LoopStep.miss (h : LoopStep ps rs LoopSt.standing m s t) : LoopStep ps rs LoopSt.miss m s t := h.map fun x => x.1

theorem LoopStep.commitAt (h : LoopStep ps rs LoopSt.standing m s t) : LoopStep ps rs LoopSt.commitAt m s t := h.map fun x => x.2.2.2

theorem listed_step (s : State) {t} : LoopStep partsSample (reachAround ++ reachCompares) LoopSt.standing m s (s.listed m d c t) :=
  (LoopStep.opened LoopStep.refl).widen.trans (LoopStep.commitAll LoopStep.refl).widen

theorem prepared_step (s : State) {t} : LoopStep partsSample (reachAround ++ reachCompares) LoopSt.stops m s (s.prepared m d c t) :=
  ((listed_step s).stops.setLp.setLp (x := { (State.backgroundStep _ m d _).lp m with nonfinite := false, miss := none })).trans
    (LoopStep.autoRequest LoopStep.refl).stops.widen

theorem prepared_miss (s : State) {t} : ((s.prepared m d c t).lp m).miss = none :=
  (LoopStep.autoRequest LoopStep.refl).miss.loop.trans (congrArg LoopSt.miss (State.lp_setLp _ _ _))

/-- The end of a commit but for the shadow words. -/
theorem generated_step (s : State) {pos t} : LoopStep partsSample (reachAround ++ reachCounts) LoopSt.standing m s
    (((s.scheduled m d t).countSample m d c.hit.isSome c.outside (c.devs.getD 0 0)).generated m d c pos) :=
  ((LoopStep.scheduled LoopStep.refl).widen.trans (countSample_step _)).trans (LoopStep.generated LoopStep.refl).widen

theorem recorded_step (s : State) {t} : LoopStep partsSample reachAround LoopSt.waits m s (s.recorded m d c t) :=
  ((LoopStep.traceCommit (LoopStep.refl (s := s))).waits.setLp).thru fun h => .ite (h.trans (LoopStep.loopBoundary LoopStep.refl).waits) h

theorem recorded_commitAt (s : State) {t} : ((s.recorded m d c t).lp m).commitAt = t := by
  have records (u : State) : ((u.setLp m { u.lp m with commitAt := t }).lp m).commitAt = t := by rw [State.lp_setLp]
  have bounds (u : State) : Around m u (u.loopBoundary m d) := LoopStep.refl.loopBoundary
  unfold State.recorded
  extract_lets traced before timed
  split
  · exact (bounds timed).commitAt.loop.trans (records traced)
  · exact records traced

theorem finished_step (s : State) {pos t} : LoopStep partsWhole (reachWhole ++ reachCounts) LoopSt.miss m s (s.finished m d c pos t) :=
  ((generated_step s).miss.widen.trans (takeShadow_step _).widen).trans (((recorded_step _).map fun x => x.1).widen)

theorem finished_counts (s : State) {pos t} : Counted m c.hit.isSome s (s.finished m d c pos t) :=
  have ⟨hits, misses⟩ := reachWhole_counts m
  have scheduled : Around m s (s.scheduled m d t) := LoopStep.refl.scheduled
  have generated (u : State) : Around m u (u.generated m d c pos) := LoopStep.refl.generated
  (countSample_counts _).within (ps := partsWhole) (rs := reachWhole ++ reachCompares) scheduled.miss.widen.stays
    (((generated _).miss.widen.trans (takeShadow_step _).widen).trans (((recorded_step _).map fun x => x.1).widen)).stays hits misses

/-- Where no shadow words wait, the sequencer's mode and stop stand at the end of the commit. -/
theorem finished_still (s : State) {pos t} (noWords : s.pair.shadowWait = []) :
    LoopStep partsWhole (reachAround ++ reachCounts) LoopSt.stops m s (s.finished m d c pos t) := by
  have generated := generated_step (m := m) (d := d) (c := c) s (pos := pos) (t := t)
  refine (generated.stops.widen.trans (takeShadow_none ?_).stops.widen).trans ((recorded_step _).map fun x => x.2).widen
  rw [generated.stays.parts .pair (by decide)]
  exact noWords

/-- What a commit leaves: its sample counted and no longer waiting, its time kept. -/
structure Committed (m : Nat) (hit : Bool) (time : Nat) (s t : State) : Prop where
  counted : Counted m hit s t
  miss : (t.lp m).miss = none
  commitAt : (t.lp m).commitAt = time
  drawn : t.drawn = s.drawn
  vOut : t.sht.vOut = s.sht.vOut
  iOut : t.sht.iOut = s.sht.iOut

theorem commitSample_commits (s : State) {pos zero t} : Committed m c.hit.isSome t s (s.commitSample m d c pos zero t) := by
  rw [commitSample_eq]
  have prepares := prepared_step (m := m) (d := d) (c := c) s (t := t)
  have sequences : Sequences m _ ((s.prepared m d c t).sequence m d zero t) := LoopStep.sequence LoopStep.refl
  have finishes := finished_step (m := m) (d := d) (c := c) ((s.prepared m d c t).sequence m d zero t) (pos := pos) (t := t)
  obtain ⟨hits, misses⟩ := reachWhole_counts m
  have before : Stays partsWhole (reachWhole ++ reachCompares) s ((s.prepared m d c t).sequence m d zero t) :=
    prepares.widen.stays.trans sequences.widen.stays
  exact ⟨(finished_counts _).within before .refl hits misses, (finishes.loop.trans sequences.loop).trans (prepared_miss s),
    recorded_commitAt _, (finishes.stays.parts .drawn (by decide)).trans (before.parts .drawn (by decide)),
    (finishes.vOut.trans sequences.vOut).trans prepares.vOut, (finishes.iOut.trans sequences.iOut).trans prepares.iOut⟩

end

/-! ### Triggers and the results of a sample (R171 to R173) -/

section
variable {m : Nat} {d : LoopDecl}

theorem adcTrigger_starts {k : Nat} (declares : s.loopDecl m = some d) (awake : s.inLull = false) (idle : (s.lp m).event = none)
    (small : k < 2 ^ s.rd (F.PWM_HB_TRIG_SAMPLES d.anchorHb)) :
    s.adcTrigger m k = s.setLp m { s.lp m with event := some k, late := 0 } := by
  unfold State.adcTrigger
  rw [declares]
  exact if_neg (by simp [awake, idle, small])

theorem adcDeferred_waits {k a : Nat} (declares : s.loopDecl m = some d) (awake : s.inLull = false) (bound : (s.loopOfAdc a).isSome = true)
    (converts : (s.lp m).event.isSome = true) (its : bit d.adcMask a = true) : s.adcDeferred m k a =
      (s.setLp m { s.lp m with deferred := some k, deferN := (s.lp m).deferN + 1 }).inc (F.PWM_ADC_DEFER a) := by
  unfold State.adcDeferred
  rw [if_neg (by simp [awake]), if_neg (by simp [Option.isSome_iff_ne_none.mp bound]), declares]
  exact if_neg (by simp [Option.isSome_iff_ne_none.mp converts, its])

theorem adcDeferred_counts {k a : Nat} (awake : s.inLull = false) (free : (s.loopOfAdc a).isNone = true) :
    s.adcDeferred m k a = s.inc (F.PWM_ADC_DEFER a) := by
  unfold State.adcDeferred
  rw [if_neg (by simp [awake]), if_pos free]

/-- The cells in which ADC results stand. -/
def reachResults : List Reach := [.family (F.PWM_ADC_RESULT 0)]

theorem reachResults_adc (a : Fin 16) : Holds reachResults (F.PWM_ADC_RESULT a) := by
  revert a
  decide

theorem storeResults_frame {as : List Nat} {codes : List (List Nat)} (adcs : ∀ a ∈ as, a < 16) :
    Stays [] reachResults s (s.storeResults as codes) :=
  Stays.refl.foldl fun hx hs => hs.wr (reachResults_adc ⟨_, adcs _ (List.of_mem_zip hx).1⟩)

theorem takeSample_stays {codes : List (List Nat)} {vOut iOut : Int} :
    Stays [.sht, .drawn] reachResults s (s.takeSample m d codes vOut iOut) :=
  (((Stays.refl (ps := [.sht, .drawn])).via (storeResults_frame fun _ => lt_of_mem_bitsBelow) (by simp) (by simp)).set).setSht

theorem takeSample_event {codes : List (List Nat)} {vOut iOut : Int} :
    ((s.takeSample m d codes vOut iOut).lp m).event = (s.lp m).deferred := by
  have same : (s.storeResults (bitsBelow d.adcMask 16) codes).sht = s.sht :=
    (storeResults_frame fun _ => lt_of_mem_bitsBelow).parts .sht (by simp)
  unfold State.takeSample
  rw [State.lp_setLp]
  change ((s.storeResults (bitsBelow d.adcMask 16) codes).lp m).deferred = _
  rw [State.lp, same]
  rfl

theorem codeSum_le (codes : List Nat) (n : Nat) : ((List.range n).foldl (fun (t : Int) i =>
    t + (((codes.getD i 32768 % 65536 : Nat) : Int) - 32768)) 0).natAbs ≤ 32768 * n := by
  induction n with
  | zero => simp
  | succ n ih =>
    rw [List.range_succ, List.foldl_append, List.foldl_cons, List.foldl_nil]
    have := Nat.mod_lt (codes.getD n 32768) (y := 65536) (by decide)
    omega

theorem burstMean_bounds (b : Nat) (codes : List Nat) : -2 ^ 31 ≤ burstMean b codes ∧ burstMean b codes < 2 ^ 31 := by
  have small : (burstMean b codes).natAbs ≤ 16 * 32768 := by
    unfold burstMean
    rw [Int.natAbs_mul, Int.natAbs_natCast]
    calc 16 / b * _ ≤ 16 / b * (32768 * b) := Nat.mul_le_mul_left _ (codeSum_le codes b)
      _ = 16 / b * b * 32768 := by ring
      _ ≤ 16 * 32768 := Nat.mul_le_mul_right _ (Nat.div_mul_le_self 16 b)
  omega

theorem State.rdi_wri (s : State) {f : Field} {i : Int} (w : f.width = 32) (low : -2 ^ 31 ≤ i) (high : i < 2 ^ 31) :
    (s.wri f i).rdi f = i := by
  unfold State.wri State.rdi signedOf bitsOf
  rw [State.rd_wr, w]
  split
  · omega
  · omega

theorem takeSample_result {codes : List Nat} {vOut iOut : Int} {a : Nat} (one : bitsBelow d.adcMask 16 = [a]) :
    (s.takeSample m d [codes] vOut iOut).rdi (F.PWM_ADC_RESULT a) = burstMean (2 ^ s.rd (F.PWM_ADC_CFG_BURST a)) codes := by
  obtain ⟨low, high⟩ := burstMean_bounds (2 ^ s.rd (F.PWM_ADC_CFG_BURST a)) codes
  unfold State.takeSample
  rw [one]
  exact State.rdi_wri s rfl low high

end

/-! ### The conversion end and EXACT (R183 to R186) -/

section
variable {m : Fin 8} {d : LoopDecl} {codes : List (List Nat)} {vOut iOut : Int} {pos zero : List Nat} {k t : Nat}

/-- A sample after its conversion end, with its sums and its deviations; no commit and no wait of it yet. -/
structure Sampled (m : Fin 8) (d : LoopDecl) (codes : List (List Nat)) (vOut iOut : Int) (s u : State) : Prop where
  step : LoopStep [.sht] [] LoopSt.event m (s.takeSample m d codes vOut iOut) u

theorem conversionEnd_hits (declares : s.loopDecl m = some d) (samples : (s.lp m).event = some k) (awake : s.inLull = false)
    (hit : s.sampleHits m d codes vOut iOut = true) : ∃ u c i, Sampled m d codes vOut iOut s u ∧ c.hit = some i ∧
      (∃ v : State, c.out = (v.outcomeLane m d s.drawn s.adcWords i).out) ∧
      s.conversionEnd m codes vOut iOut pos zero t = u.commitSample m d c pos zero t := by
  unfold State.conversionEnd
  rw [declares, samples]
  exact ⟨_, _, _, ⟨LoopStep.refl.setLp.foldl fun _ h => h.countSat⟩, by exact rfl, ⟨_, by exact rfl⟩,
    (if_neg (by simp [awake])).trans (if_pos hit)⟩

theorem conversionEnd_waits (declares : s.loopDecl m = some d) (samples : (s.lp m).event = some k) (awake : s.inLull = false)
    (hit : s.sampleHits m d codes vOut iOut = false) : ∃ u ms, Sampled m d codes vOut iOut s u ∧
      s.conversionEnd m codes vOut iOut pos zero t = u.setLp m { u.lp m with miss := some ms } := by
  unfold State.conversionEnd
  rw [declares, samples]
  refine ⟨_, _, ?_, (if_neg (by simp [awake])).trans (if_neg (by exact Bool.eq_false_iff.mp hit))⟩
  exact ⟨LoopStep.refl.setLp.countSat⟩

theorem exactCommit_commits {ms : MissSt} (declares : s.loopDecl m = some d) (waits : (s.lp m).miss = some ms)
    (finite : (s.exactLane m d ms.drawn ms.oldAdc s.adcWords (ms.dev.getD 0 0)).nonfin = false) :
    ∃ j n c, c.hit.isSome = false ∧ s.exactCommit m pos zero t = (s.countSat j n).commitSample m d c pos zero t := by
  unfold State.exactCommit
  rw [declares, waits]
  exact ⟨_, _, _, rfl, if_neg (Bool.eq_false_iff.mp finite)⟩

end

/-! ### Holders of half-bridges (R234) -/

/-- Every half-bridge keeps its holders. -/
def HoldersKept (s t : State) : Prop := ∀ h, (t.hb h).holders = (s.hb h).holders

theorem HoldersKept.refl : HoldersKept s s := fun _ => rfl

theorem HoldersKept.ite {c : Prop} {_ : Decidable c} (h : HoldersKept o s) (k : HoldersKept o t) : HoldersKept o (if c then s else t) := by
  split
  · exact h
  · exact k

theorem HoldersKept.wr (h : HoldersKept o s) {f v} : HoldersKept o (s.wr f v) := h

theorem HoldersKept.wrb (h : HoldersKept o s) {f b} : HoldersKept o (s.wrb f b) := h

theorem State.hb_setHb (s : State) (b h : Nat) (x : HbSt) : (s.setHb b x).hb h = if h = b then x else s.hb h := by
  split
  next same => rw [same]; exact SMap.get_set_same _ _ _ _
  next other => exact SMap.get_set_ne _ other _ _

theorem HoldersKept.setHb (h : HoldersKept o s) {b x} (same : x.holders = (s.hb b).holders := by rfl) : HoldersKept o (s.setHb b x) := by
  intro i
  rw [State.hb_setHb]
  split
  next eq => rw [same, eq, h b]
  next => exact h i

theorem HoldersKept.setCh (h : HoldersKept o s) {n x} : HoldersKept o (s.setCh n x) := h

theorem HoldersKept.setChState (h : HoldersKept o s) {n st} : HoldersKept o (s.setChState n st) :=
  have shown : HoldersKept o ((s.wr (F.GDI_CH_STATUS_STATE n) st).wr F.GDI_STATUS_DRIVE _) := h.wr.wr
  .ite shown.wrb shown.wrb

theorem HoldersKept.startEdge (h : HoldersKept o s) {n on} : HoldersKept o (s.startEdge n on) := (HoldersKept.ite h h.wr).setCh.setChState

theorem HoldersKept.offEdge (h : HoldersKept o s) {n} : HoldersKept o (s.offEdge n) := .ite h.startEdge h

theorem HoldersKept.hbOff (h : HoldersKept o s) {b} : HoldersKept o (s.hbOff b) := h.setHb.offEdge.offEdge

theorem HoldersKept.cancelWait (h : HoldersKept o s) {b} : HoldersKept o (s.cancelWait b) := by
  unfold State.cancelWait
  split
  · exact h
  · exact h.setHb.wr

theorem HoldersKept.follow (h : HoldersKept o s) {b} : HoldersKept o (s.follow b) := by
  have cancels {high low : Bool} {u : State} (h : HoldersKept o u) : HoldersKept o
      (match (u.hb b).waiting with
        | some .high => if high then u else u.cancelWait b
        | some .low => if low then u else u.cancelWait b
        | none => u) := by
    split
    · exact .ite h h.cancelWait
    · exact .ite h h.cancelWait
    · exact h
  have sets {c e : Prop} {_ : Decidable c} {_ : Decidable e} {u : State} (h : HoldersKept o u) : HoldersKept o
      (if c then u.setHb b { u.hb b with waiting := some .high }
        else if e then u.setHb b { u.hb b with waiting := some .low } else u) := .ite h.setHb (.ite h.setHb h)
  have edge {c : Prop} {_ : Decidable c} {n : Nat} {u : State} (h : HoldersKept o u) : HoldersKept o (if c then u else u.offEdge n) :=
    .ite h h.offEdge
  unfold State.follow
  split
  exact sets (cancels (edge (edge h)))

theorem hold_holders (s : State) (b h : Nat) (who : Holder) : ((s.hold b who).hb h).holders =
    if h = b then (if (s.hb b).holders.contains who then (s.hb b).holders else who :: (s.hb b).holders) else (s.hb h).holders := by
  refine (HoldersKept.hbOff HoldersKept.refl h).trans ?_
  rw [State.hb_setHb]
  split
  · rfl
  · rfl

theorem release_holders (s : State) (b h : Nat) (who : Holder) : ((s.release b who).hb h).holders =
    if h = b then (s.hb b).holders.filter (· != who) else (s.hb h).holders := by
  refine (HoldersKept.follow HoldersKept.refl h).trans ?_
  change ((s.setHb b _).hb h).holders = _
  rw [State.hb_setHb]
  split
  · rfl
  · rfl

/-- A fold whose steps each establish a fact of their own and keep those of the others establishes all. -/
theorem foldl_establishes {α : Type} {f : State → α → State} {Q : α → State → Prop} (makes : ∀ s x, Q x (f s x))
    (keeps : ∀ s x y, Q y s → Q y (f s x)) (xs : List α) (s : State) : ∀ x ∈ xs, Q x (xs.foldl f s) := by
  have stands {y : α} : ∀ (xs : List α) (s : State), Q y s → Q y (xs.foldl f s) := by
    intro xs
    induction xs with
    | nil => exact fun _ h => h
    | cons x xs ih => exact fun s h => ih _ (keeps s x y h)
  induction xs generalizing s with
  | nil => simp
  | cons x xs ih =>
    intro y hy
    rcases List.mem_cons.mp hy with rfl | hy
    · exact stands xs _ (makes s y)
    · exact ih _ y hy

theorem holds_all (hs : List Nat) (s : State) (who : Holder) :
    ∀ h ∈ hs, ((hs.foldl (fun s h => s.hold h who) s).hb h).holders.contains who = true := by
  refine foldl_establishes (Q := fun h s => (s.hb h).holders.contains who = true) (fun s h => ?_) (fun s b h held => ?_) hs s
  · rw [hold_holders, if_pos rfl]
    split
    next already => exact already
    next => simp
  · rw [hold_holders]
    split
    next same => subst same; rw [if_pos held]; exact held
    next => exact held

theorem releases_all (hs : List Nat) (s : State) (who : Holder) :
    ∀ h ∈ hs, ((hs.foldl (fun s h => s.release h who) s).hb h).holders.contains who = false := by
  refine foldl_establishes (Q := fun h s => (s.hb h).holders.contains who = false) (fun s h => ?_) (fun s b h free => ?_) hs s
  · rw [release_holders, if_pos rfl]
    simp
  · rw [release_holders]
    split
    next same => subst same; simp
    next => exact free

/-! ### The window's review and plausibility (R185, R194, R196) -/

section
variable {m : Fin 8} {d : LoopDecl}

theorem reviewBw_widens (full : 1024 ≤ (s.lp m).winN) (auto : s.rdb (F.SHT_LOOP_CTRL_AUTO_WIDTH m) = true) (out : 20 < (s.lp m).winOut) :
    s.reviewBw m d = (s.setBw m d (s.rd (F.SHT_LOOP_STATUS_BW_NOW m) + 1)).newWindow m := by
  unfold State.reviewBw
  dsimp only
  rw [if_neg (by omega), if_neg (by simp [auto]), if_pos out]

theorem bwWindowEnd_reviews (declares : s.loopDecl m = some d) : execBwWindowEnd m s = .next (s.reviewBw m d) := by
  unfold execBwWindowEnd
  rw [declares]

/-- Registers that an attribution changes on a unit that stays (R194, R196). -/
def reachAttribute : List Reach :=
  reachHold ++ reachEvent ++ ([.family (F.SHT_LOOP_STATUS_ATTRIB 0), .family (F.SHT_LOOP_STATUS_PLS_FAULT 0)] : List Reach)

theorem reachAttribute_loop (m : Fin 8) : Holds reachAttribute (F.SHT_LOOP_STATUS_ATTRIB m) ∧
    Holds reachAttribute (F.SHT_LOOP_STATUS_PLS_FAULT m) := by
  revert m
  decide

/-- Cells of a loop's status that holds, releases and events leave. -/
theorem status_apart (m : Fin 8) : (reachFollow ++ reachEvent).any (Reach.has (F.SHT_LOOP_STATUS_ATTRIB m).key) = false ∧
    (reachFollow ++ reachEvent).any (Reach.has (F.SHT_LOOP_STATUS_PLS_FAULT m).key) = false ∧
    (F.SHT_LOOP_STATUS_ATTRIB m).key ≠ (F.SHT_LOOP_STATUS_PLS_FAULT m).key := by
  revert m
  decide

theorem holdAll_stays (d : LoopDecl) (who : Holder) : Stays [.gd] reachHold s ((bitsBelow d.hbMask 12).foldl (fun s h => s.hold h who) s) :=
  Stays.refl.foldl fun hb hs => hs.run (hold_frame (lt_of_mem_bitsBelow hb))

theorem releaseAll_stays (d : LoopDecl) (who : Holder) :
    Stays [.gd] reachFollow s ((bitsBelow d.hbMask 12).foldl (fun s h => s.release h who) s) :=
  Stays.refl.foldl fun hb hs => hs.run (release_frame (lt_of_mem_bitsBelow hb))

/-- An implausible channel of a loop whose partner cannot be asked turns the loop off (R194). -/
theorem plausibilityAttribute_alone {c : Fin 4} {frame : Bool} (declares : s.loopDecl m = some d)
    (asks : (s.lp m).attributing.contains c.val = true) (alone : s.pair.formed = false) : execPlausibilityAttribute m c frame s =
      .next ((((s.setLp m { s.lp m with attributing := (s.lp m).attributing.filter (· != c.val) }).wr
        (F.SHT_LOOP_STATUS_ATTRIB m) 4).plsOff m d).event (evCode 0xB 1 2) (256 * m + c)) := by
  change Host.Outcome.next (match s.loopDecl m with | none => s | some d => _) = _
  rw [declares]
  refine congrArg Host.Outcome.next ((if_neg (by rw [asks]; decide)).trans (if_pos ?_))
  change (!s.pair.formed || _ || _) = true
  rw [alone]
  rfl

/-- The loop's plausibility fault stands, and its half-bridges are held off by it (R196). -/
structure PlausibilityFault (m : Nat) (d : LoopDecl) (t : State) : Prop where
  attribution : t.rd (F.SHT_LOOP_STATUS_ATTRIB m) = 4
  fault : t.rdb (F.SHT_LOOP_STATUS_PLS_FAULT m) = true
  held : ∀ h ∈ bitsBelow d.hbMask 12, (t.hb h).holders.contains .plausibility = true

theorem plsOff_faults (s : State) (code arg : Nat) :
    PlausibilityFault m d (((s.wr (F.SHT_LOOP_STATUS_ATTRIB m) 4).plsOff m d).event code arg) := by
  obtain ⟨attrib, fault, apart⟩ := status_apart m
  have events : Stays [.que, .trg] (reachFollow ++ reachEvent) ((s.wr (F.SHT_LOOP_STATUS_ATTRIB m) 4).plsOff m d) _ :=
    Stays.refl.run (event_frame _ code arg)
  have holds : Stays [.gd] (reachFollow ++ reachEvent) (s.wr (F.SHT_LOOP_STATUS_ATTRIB m) 4) _ :=
    Stays.refl.run (holdAll_stays d .plausibility)
  refine ⟨?_, ?_, fun h hh => ?_⟩
  · rw [events.rd attrib]
    exact ((State.rd_wrb_ne _ apart _).trans (holds.rd attrib)).trans (State.rd_wr _ _ _)
  · rw [events.rdb fault]
    exact State.rdb_wrb _ _ _ Nat.one_pos
  · rw [State.hb, events.parts .gd (by decide)]
    exact holds_all _ _ _ h hh

theorem plsOff_attributing (s : State) (code arg : Nat) :
    ((((s.wr (F.SHT_LOOP_STATUS_ATTRIB m) 4).plsOff m d).event code arg).lp m).attributing = (s.lp m).attributing := by
  obtain ⟨attrib, fault⟩ := reachAttribute_loop m
  have step : LoopStep [.gd, .que, .trg] reachAttribute LoopSt.attributing m s
      (((s.wr (F.SHT_LOOP_STATUS_ATTRIB m) 4).plsOff m d).event code arg) :=
    (((LoopStep.refl.wr attrib).run (holdAll_stays d .plausibility)).wrb fault).run (event_frame _ code arg)
  exact step.loop

theorem accepted_eq (s : State) (side : Nat) : ∃ hbi, s.accepted side = { s with hbi := hbi } := by
  unfold State.accepted
  split
  · exact ⟨_, rfl⟩
  · exact ⟨_, rfl⟩

theorem plsClear_releases (declares : s.loopDecl m = some d) (clear : s.countsClear m = true)
    (faults : s.rdb (F.SHT_LOOP_STATUS_PLS_FAULT m) = true) : s.plsClear m =
      (bitsBelow d.hbMask 12).foldl (fun s h => s.release h .plausibility) (s.wrb (F.SHT_LOOP_STATUS_PLS_FAULT m) false) := by
  unfold State.plsClear
  rw [if_neg (by simp [clear, faults]), declares]

theorem releaseAll_clears (s : State) : ((bitsBelow d.hbMask 12).foldl (fun s h => s.release h .plausibility)
    (s.wrb (F.SHT_LOOP_STATUS_PLS_FAULT m) false)).rdb (F.SHT_LOOP_STATUS_PLS_FAULT m) = false := by
  obtain ⟨-, fault, -⟩ := status_apart m
  have releases : Stays [.gd] (reachFollow ++ reachEvent) (s.wrb (F.SHT_LOOP_STATUS_PLS_FAULT m) false) _ :=
    Stays.refl.run (releaseAll_stays d .plausibility)
  rw [releases.rdb fault]
  exact State.rdb_wrb _ _ _ Nat.one_pos

/-! ### What a conversion end and EXACT leave -/

variable {codes : List (List Nat)} {vOut iOut : Int} {pos zero : List Nat} {k time : Nat}

theorem reachResults_counts (m : Fin 8) : reachResults.any (Reach.has (F.SHT_LOOP_HITS m).key) = false ∧
    reachResults.any (Reach.has (F.SHT_LOOP_MISSES m).key) = false := by
  revert m
  decide

/-- A sample is taken: its number, its output, the counts as they were. -/
structure Taken (m : Fin 8) (vOut iOut : Int) (s u : State) : Prop where
  stays : Stays [.sht, .drawn] reachResults s u
  drawn : u.drawn = s.drawn + 1
  vOut : u.sht.vOut = vOut
  iOut : u.sht.iOut = iOut
  event : (u.lp m).event = (s.lp m).deferred

theorem Sampled.taken {u : State} (h : Sampled m d codes vOut iOut s u) : Taken m vOut iOut s u where
  stays := takeSample_stays.via h.step.stays (by simp) (by simp)
  drawn := h.step.stays.parts .drawn (by decide)
  vOut := h.step.vOut
  iOut := h.step.iOut
  event := h.step.loop.trans takeSample_event

/-- A hit at its conversion end: it is committed as one (R184). -/
theorem conversionEnd_commits (declares : s.loopDecl m = some d) (samples : (s.lp m).event = some k) (awake : s.inLull = false)
    (hit : s.sampleHits m d codes vOut iOut = true) :
    ∃ u, Taken m vOut iOut s u ∧ Committed m true time u (s.conversionEnd m codes vOut iOut pos zero time) := by
  obtain ⟨u, c, i, sampled, hits, -, ends⟩ := conversionEnd_hits (pos := pos) (zero := zero) (t := time) declares samples awake hit
  have committed := commitSample_commits (m := m) (d := d) (c := c) u (pos := pos) (zero := zero) (t := time)
  rw [hits] at committed
  exact ⟨u, sampled.taken, ends ▸ committed⟩

theorem conversionEnd_misses (declares : s.loopDecl m = some d) (samples : (s.lp m).event = some k) (awake : s.inLull = false)
    (hit : s.sampleHits m d codes vOut iOut = false) : ∃ u ms, Taken m vOut iOut s u ∧
      s.conversionEnd m codes vOut iOut pos zero time = u.setLp m { u.lp m with miss := some ms } := by
  obtain ⟨u, ms, sampled, ends⟩ := conversionEnd_waits (pos := pos) (zero := zero) (t := time) declares samples awake hit
  exact ⟨u, ms, sampled.taken, ends⟩

theorem Taken.counted {u : State} (h : Taken m vOut iOut s u) {hit : Bool} (counts : Counted m hit u t) : Counted m hit s t :=
  have ⟨hits, misses⟩ := reachResults_counts m
  counts.within h.stays .refl hits misses

/-- The mode of a loop that a commit leaves to the sequencer and the shadow words. -/
theorem mode_apart (m : Fin 8) : (reachAround ++ reachCompares ++ reachCounts).any (Reach.has (F.SHT_LOOP_MODE_NOW m).key) = false ∧
    (reachAround ++ reachCompares ++ reachCounts).any (Reach.has (F.SHT_LOOP_MODE_NEXT m).key) = false ∧
    (reachAround ++ reachCompares ++ reachCounts).any (Reach.has (F.SHT_LOOP_MODE_STOPPING m).key) = false := by
  revert m
  decide

/-- The commit at which a stop's ramp has ended takes the loop to OFF, where no shadow words of a partner wait (R213). -/
theorem commitSample_entersOff {c : Commit} {st : StopSt} (stops : (s.lp m).stop = some st) (ended : st.ended = true)
    (runs : (s.lp m).restart = none) (free : s.nextMode m = 0) (voltage : s.nowMode m ≠ mOutVoltage) (power : s.nowMode m ≠ mOutPower)
    (noWords : s.pair.shadowWait = []) : (s.commitSample m d c pos zero time).nowMode m = mOff ∧
      ((s.commitSample m d c pos zero time).lp m).stop = none ∧
      (s.commitSample m d c pos zero time).rdb (F.SHT_LOOP_MODE_STOPPING m) = false := by
  rw [commitSample_eq]
  obtain ⟨now, next, stopping⟩ := mode_apart m
  have prepares : LoopStep partsSample (reachAround ++ reachCompares ++ reachCounts) LoopSt.stops m s (s.prepared m d c time) :=
    (prepared_step s).widen
  have mode : (s.prepared m d c time).nowMode m = s.nowMode m := prepares.stays.rd now
  have off := sequence_entersOff (d := d) (z := zero) (t := time) ((congrArg Prod.fst prepares.loop).trans stops) ended
    ((congrArg Prod.snd prepares.loop).trans runs) ((prepares.stays.rd next).trans free) (mode ▸ voltage) (mode ▸ power)
  obtain ⟨entered, stopped, shown⟩ := off ▸ enterOff_off _ d
  have sequences : Sequences m (s.prepared m d c time) ((s.prepared m d c time).sequence m d zero time) := LoopStep.refl.sequence
  have finishes : LoopStep partsWhole (reachAround ++ reachCompares ++ reachCounts) LoopSt.stops m
      ((s.prepared m d c time).sequence m d zero time) _ := (finished_still (d := d) (c := c) (pos := pos) (t := time) _ (by
    rw [sequences.stays.parts .pair (by decide), prepares.stays.parts .pair (by decide)]
    exact noWords)).widen
  exact ⟨(finishes.stays.rd now).trans entered, (congrArg Prod.fst finishes.loop).trans stopped, (finishes.stays.rdb stopping).trans shown⟩

end

/-- Settles O24: by the stages of a commit, the holders of half-bridges and the result of a burst. -/
theorem samplesAndCommits : Obligations.SamplesAndCommits := by
  refine ⟨fun m k d s declares awake idle small =>
      answers_of_eq rfl (adcTrigger_starts declares awake idle small) ⟨by simp, by simp, rfl⟩,
    fun m k a d s declares awake bound converts its => ?_, fun m k a s awake free => ?_,
    fun m codes vOut iOut pos zero time k d s declares samples awake => ?_,
    fun m codes vOut iOut pos zero time k d s declares samples awake hit => ?_,
    fun m codes vOut iOut pos zero time k d s declares samples awake hit => ?_,
    fun m c vOut iOut pos zero time k a d s declares samples awake one hit => ?_,
    fun m pos zero time d ms s declares waits finite => ?_,
    fun m pos zero time d ms st s declares waits finite stops ended runs free voltage power noWords => ?_,
    fun m d s declares full auto out => ?_, fun m c frame d s declares asks alone => ?_,
    fun side m d s declares awake clear faults => ?_⟩
  case refine_1 =>
    exact answers_of_eq rfl (adcDeferred_waits declares awake bound converts its) ⟨congrArg _ (State.lp_setLp _ _ _),
      congrArg _ (State.lp_setLp _ _ _), State.rd_inc _ _ _⟩
  case refine_2 => exact answers_of_eq rfl (adcDeferred_counts awake free) ⟨State.rd_inc _ _ _, rfl⟩
  case refine_3 =>
    cases hit : s.sampleHits m d (codes.map fun l => l.map BitVec.toNat) vOut iOut
    case true =>
      obtain ⟨u, taken, committed⟩ := conversionEnd_commits (pos := pos) (zero := zero.map BitVec.toNat) (time := time) declares samples
        awake hit
      exact ⟨_, rfl, committed.drawn.trans taken.drawn, committed.vOut.trans taken.vOut, committed.iOut.trans taken.iOut,
        .inl (taken.counted committed.counted).hits⟩
    case false =>
      obtain ⟨u, ms, taken, ends⟩ := conversionEnd_misses (pos := pos) (zero := zero.map BitVec.toNat) (time := time) declares samples
        awake hit
      exact answers_of_eq rfl ends ⟨taken.drawn, taken.vOut, taken.iOut, .inr (by simp)⟩
  case refine_4 =>
    obtain ⟨u, taken, committed⟩ := conversionEnd_commits (pos := pos) (zero := zero.map BitVec.toNat) (time := time) declares samples
      awake hit
    have counted := taken.counted committed.counted
    exact ⟨_, rfl, counted.hits, committed.miss, committed.commitAt, counted.misses⟩
  case refine_5 =>
    obtain ⟨u, ms, taken, ends⟩ := conversionEnd_misses (pos := pos) (zero := zero.map BitVec.toNat) (time := time) declares samples
      awake hit
    obtain ⟨hits, misses⟩ := reachResults_counts m
    exact answers_of_eq rfl ends ⟨by simp, by simpa using taken.event, taken.stays.rd hits, taken.stays.rd misses⟩
  case refine_6 =>
    obtain ⟨u, ms, sampled, ends⟩ := conversionEnd_waits (pos := pos) (zero := zero.map BitVec.toNat) (t := time) declares samples
      awake hit
    exact answers_of_eq rfl ends ((congrArg (signedOf 32) (sampled.step.stays.rd rfl)).trans (takeSample_result one))
  case refine_7 =>
    obtain ⟨j, n, c, misses, commits⟩ := exactCommit_commits (pos := pos) (zero := zero.map BitVec.toNat) (t := time) declares waits finite
    have committed := misses ▸ commitSample_commits (m := m) (d := d) (c := c) (pos := pos) (zero := zero.map BitVec.toNat) (t := time)
      (s.countSat j n)
    exact answers_of_eq rfl commits ⟨committed.miss, committed.counted.misses, committed.commitAt⟩
  case refine_8 =>
    obtain ⟨j, n, c, -, commits⟩ := exactCommit_commits (pos := pos) (zero := zero.map BitVec.toNat) (t := time) declares waits finite
    exact answers_of_eq rfl commits
      (commitSample_entersOff (s := s.countSat j n) stops ended runs free voltage power noWords)
  case refine_9 =>
    exact answers_of_eq (bwWindowEnd_reviews declares) (reviewBw_widens full auto out)
      ⟨State.rd_wr _ _ _, congrArg _ (State.lp_setLp _ _ _), congrArg _ (State.lp_setLp _ _ _)⟩
  case refine_10 =>
    obtain ⟨attribution, fault, held⟩ := plsOff_faults (m := m) (d := d)
      (s.setLp m { s.lp m with attributing := (s.lp m).attributing.filter (· != c.val) }) (evCode 0xB 1 2) (256 * m + c)
    exact answers_of_eq (plausibilityAttribute_alone declares asks alone) rfl
      ⟨attribution, fault, (plsOff_attributing _ _ _).trans (congrArg _ (State.lp_setLp _ _ _)), held⟩
  case refine_11 =>
    obtain ⟨hbi, accepts⟩ := accepted_eq s side
    have clears := plsClear_releases (s := { s with hbi := hbi }) declares clear faults
    refine answers_of_eq rfl ((if_neg (by simp [lullBlocks_awake awake])).trans ((congrArg (State.plsClear · m) accepts).trans clears))
      ⟨releaseAll_clears _, releases_all _ _ _⟩

end Sys2Proof.Machine

namespace Sys2Proof.Machine
open Sys2Proof
-- Proofs in sequence, as above: waiting threads' stacks take memory.
set_option Elab.async false
variable {ps qs : List Part} {rs os : List Reach} {o s t : State}

/-! ### A compare value past the twelfth half-bridge (R180) -/

section
variable {m : Fin 8} {d : LoopDecl} {c : Commit} {pos zero : List Nat} {time : Nat}

/-- What a commit changes after its COMMIT list. -/
theorem commitSample_afterList (s : State) :
    Stays partsWhole (reachWhole ++ reachCounts) (s.listed m d c time) (s.commitSample m d c pos zero time) := by
  have requests : Around m _ (s.prepared m d c time) := LoopStep.refl.autoRequest
  have sequences : Sequences m _ ((s.prepared m d c time).sequence m d zero time) := LoopStep.refl.sequence
  rw [commitSample_eq]
  exact (Stays.refl.setSht.setSht.trans requests.widen.stays).trans (sequences.widen.stays.trans (finished_step _).stays)

theorem listed_entry {e : CommitEntry} (one : d.commit = [e]) (s : State) : ∃ u bg, s.listed m d c time =
    State.commitEntry u m d c.out bg c.corr e := by
  unfold State.listed State.commitAll
  rw [one]
  exact ⟨_, _, rfl⟩

/-- An entry of the COMMIT list that writes the switch-off compare of a half-bridge, from a word of the outcome (R180). -/
theorem commitEntry_off {e : CommitEntry} {out bg : SMap (Option Nat)} {corr : List Rat} {src : Nat} (s : State) (kind : e.kind = 0)
    (odd : e.target % 2 = 1) (free : e.integrator = false ∧ e.compensator = false)
    (written : SMap.get (fun _ => none) out e.source = some src) :
    ∃ v, s.commitEntry m d out bg corr e = s.wr (F.PWM_HB_CMP_OFF_CMP_OFF (e.target / 2 % 16)) v := by
  have runs : s.skips m d e = false := by simp [State.skips, kind, free]
  unfold State.commitEntry
  rw [if_neg (by simp [runs]), written]
  dsimp only
  rw [kind]
  exact ⟨_, if_neg (by simp [odd])⟩

end

/-- The instruction that puts scratch register 0 in word 0 of the outcome (R167). -/
def putOut : Nat := 5 * 2 ^ 58

/-- A loop whose OUTCOME gives one word, which its COMMIT list makes the switch-off compare of half-bridge 12: a target that the ranges of a
COMMIT entry allow, though there are twelve half-bridges, 0 to 11. -/
def pastLoop : LoopDecl := { loop := 1, hbMask := 2, adcMask := 4, bwMin := 1, bwMax := 6, anchorHb := 1, outcome := [putOut],
                             commit := [{ kind := 0, target := 25, source := 0 }] }

/-- A stack with that loop, a sample of which is under way; DEFER of ADC 0 has counted to its end. -/
def pastTwelve : State :=
  ((({ State.reset with
    pat.content.roles := [{ instance_ := 2, kind := .stack, rowCol := 1, loops := [pastLoop] }]
    pat.instance_ := 2 } : State).setLp 1 { event := some 1 }).wr (F.SHT_LOOP_CTRL_NB 1) 1).wr (F.PWM_ADC_DEFER 0) (2 ^ 32 - 1)

theorem laneStep_putOut (drawn : Nat) (env : LaneEnv) (outcome : Bool) (l : Lane) :
    (laneStep drawn env outcome l putOut).out = SMap.set (fun _ => none) 0 (some (l.get drawn 0)) l.out := rfl

theorem runOutcome_writes (s : State) (m drawn : Nat) (adcs : List Nat) (l : Lane) (i : Nat) :
    ∃ src, SMap.get (fun _ => none) (s.runOutcome m pastLoop drawn adcs l i).out 0 = some src := by
  have one : ∃ l', s.runOutcome m pastLoop drawn adcs l i = laneStep drawn (s.laneEnv m pastLoop adcs) true l' putOut := ⟨_, rfl⟩
  obtain ⟨l', runs⟩ := one
  rw [runs, laneStep_putOut]
  exact ⟨_, SMap.get_set_same _ _ _ _⟩

theorem outcomeLane_writes (s : State) (m drawn : Nat) (adcs : List Nat) (i : Nat) :
    ∃ src, SMap.get (fun _ => none) (s.outcomeLane m pastLoop drawn adcs i).out 0 = some src := by
  unfold State.outcomeLane
  dsimp only
  rw [List.range_succ, List.foldl_append]
  exact runOutcome_writes s m drawn adcs _ _

/-- Its commit leaves a compare value, of 24 bits, where the count stood. -/
theorem pastTwelve_defer {t : State} (runs : exec (.conversionEnd 1 [] 0 0 [] [] 0) pastTwelve = .next t) :
    t.rd (F.PWM_ADC_DEFER 0) < 2 ^ 24 := by
  obtain ⟨u, c, i, -, -, ⟨v, out⟩, ends⟩ := conversionEnd_hits (m := 1) (d := pastLoop) (s := pastTwelve) (k := 1) (codes := []) (vOut := 0)
    (iOut := 0) (pos := []) (zero := []) (t := 0) (by decide) (by decide) (by decide) (by decide)
  obtain ⟨src, written⟩ := outcomeLane_writes v (1 : Fin 8) pastTwelve.drawn pastTwelve.adcWords i
  rw [← out] at written
  obtain ⟨w, bg, list⟩ := listed_entry (m := 1) (d := pastLoop) (c := c) (time := 0) rfl u
  obtain ⟨x, writes⟩ := commitEntry_off (m := 1) (d := pastLoop) (bg := bg) (corr := c.corr)
    (e := { kind := 0, target := 25, source := 0 }) w rfl rfl ⟨rfl, rfl⟩ written
  have means : u.commitSample (1 : Fin 8) pastLoop c [] [] 0 = t := ends.symm.trans (Host.Outcome.next.inj runs)
  have kept : (u.commitSample (1 : Fin 8) pastLoop c [] [] 0).rd (F.PWM_ADC_DEFER 0) =
      (u.listed (1 : Fin 8) pastLoop c 0).rd (F.PWM_ADC_DEFER 0) := (commitSample_afterList u).rd (by decide)
  have put : (u.listed (1 : Fin 8) pastLoop c 0).rd (F.PWM_ADC_DEFER 0) = x % 2 ^ 24 := by
    rw [list, writes]
    exact State.rd_wr w (F.PWM_HB_CMP_OFF_CMP_OFF 12) x
  rw [← means, kept, put]
  exact Nat.mod_lt _ (by decide)

/-- Refutes O50: a COMMIT entry's target is not held to the twelve half-bridges, and one of half-bridge 12 writes the cell of DEFER of
ADC 0, which the frame of a conversion end does not name. -/
theorem not_frameOfPowerStage : ¬ Obligations.FrameOfPowerStage := by
  unfold Obligations.FrameOfPowerStage
  rintro ⟨-, -, -, keeps, -⟩
  have frame := keeps 1 [] 0 0 [] [] 0 pastTwelve _ rfl
  have kept : Stays _ _ pastTwelve _ := frame
  have same := kept.rd (f := F.PWM_ADC_DEFER 0) (by decide)
  have small := pastTwelve_defer rfl
  rw [same] at small
  exact absurd small (by decide)

end Sys2Proof.Machine
